-- ==== Sys2Proof/Word.lean ====
section
/-! DEFINITION. The word types of the module (R4): bytes, and the bits of an IEEE 754 binary64. -/

namespace Sys2Proof

/-- A byte. -/
abbrev Byte := BitVec 8

/-- The bits of an F64 (IEEE 754 binary64). -/
abbrev F64 := BitVec 64

end Sys2Proof
end

