-- ==== Sys2Proof/Machine/Codec.lean ====
section
/-! DEFINITION. Bit fields and byte order (R4, R6): little-endian numbers, packing of fields from the lowest bit
up, and reading of a field at its place. -/

namespace Sys2Proof.Machine

/-- The `n` low bytes of a number, least significant first (R4). -/
def leBytes : Nat → Nat → List Byte
  | 0, _ => []
  | n + 1, v => BitVec.ofNat 8 v :: leBytes n (v / 256)

/-- The number that bytes hold, least significant first (R4). -/
def ofLe : List Byte → Nat
  | [] => 0
  | b :: r => b.toNat + 256 * ofLe r

/-- Fields packed from bit 0 up, each a width and a value (R6). -/
def pack : List (Nat × Nat) → Nat
  | [] => 0
  | (w, v) :: r => v % 2 ^ w + 2 ^ w * pack r

/-- The field of `w` bits that begins at bit `pos`. -/
def bitsAt (n pos w : Nat) : BitVec w := BitVec.ofNat w (n / 2 ^ pos)

/-- One bit as 0 or 1. -/
def bit (b : Bool) : Nat := if b then 1 else 0

/-- The number that `n` bytes at offset `off` hold; bytes past the end read 0. -/
def leAt (bs : List Byte) (off n : Nat) : Nat := ofLe ((bs.drop off).take n)

/-- The U8 at an offset. -/
def u8 (bs : List Byte) (off : Nat) : Nat := leAt bs off 1

/-- The U16 at an offset. -/
def u16 (bs : List Byte) (off : Nat) : Nat := leAt bs off 2

/-- The U32 at an offset. -/
def u32 (bs : List Byte) (off : Nat) : Nat := leAt bs off 4

/-- The U64 at an offset. -/
def u64 (bs : List Byte) (off : Nat) : Nat := leAt bs off 8

/-- A number of `w` bits read as two's complement. -/
def signed (w n : Nat) : Int := if n % 2 ^ w < 2 ^ (w - 1) then (n % 2 ^ w : Nat) else (n % 2 ^ w : Nat) - (2 ^ w : Nat)

end Sys2Proof.Machine
end

