-- ==== Sys2Proof/Machine/LayoutComms.lean ====
section
/-! DEFINITION. The layouts of CAN, network and time, and the pair (chapters 14 to 16): each a structure with the spec's field
names, its default, its bytes and its reading from bytes. -/

namespace Sys2Proof.Machine

/-- The CAN controller descriptor, 32 bytes (R335). -/
structure CanDesc where
  CTRL_ID : BitVec 8  -- 0 to 3
  MODE : BitVec 8  -- 0 off, 1 normal, 2 restricted
  FD_EN : BitVec 1  -- FD frames
  BRS_EN : BitVec 1  -- FD frames may switch rate
  TDC_EN : BitVec 1  -- R323
  ONE_SHOT : BitVec 1  -- R322
  PROT_EXC : BitVec 1  -- R322
  TIME_ROLE : BitVec 8  -- 0 none, 1 master, 2 follower
  NBRP : BitVec 8  -- 1 to 32
  NSJW : BitVec 8  -- 1 to NTSEG2
  NTSEG1 : BitVec 8  -- 2 to 128
  NTSEG2 : BitVec 8  -- 2 to 64
  DBRP : BitVec 8  -- 1 to NBRP
  DSJW : BitVec 8  -- 1 to DTSEG2
  DTSEG1 : BitVec 8  -- 1 to 32
  DTSEG2 : BitVec 8  -- 1 to 16
  TDCO : BitVec 8  -- 0 to 127, data time quanta
  BUSOFF_POLICY : BitVec 8  -- 0 automatic, 1 by command
  BOFF_HOLD_MS : BitVec 16  -- 0 to 60000
  REF_ID : BitVec 32  -- Bit 31 IDE, bits 28:0 identifier
  REF_PERIOD_US : BitVec 32  -- 1000 to 1,000,000
  BOFF_LIMIT : BitVec 8  -- Bus-offs per 60 s; 0 no limit
  deriving DecidableEq, Repr

/-- The layout's default (R335). -/
def CanDesc.dflt : CanDesc :=
  { CTRL_ID := 0#8,
    MODE := 0#8,
    FD_EN := 0#1,
    BRS_EN := 0#1,
    TDC_EN := 1#1,
    ONE_SHOT := 0#1,
    PROT_EXC := 1#1,
    TIME_ROLE := 0#8,
    NBRP := 1#8,
    NSJW := 16#8,
    NTSEG1 := 63#8,
    NTSEG2 := 16#8,
    DBRP := 1#8,
    DSJW := 4#8,
    DTSEG1 := 11#8,
    DTSEG2 := 4#8,
    TDCO := 12#8,
    BUSOFF_POLICY := 0#8,
    BOFF_HOLD_MS := 100#16,
    REF_ID := 0#32,
    REF_PERIOD_US := 0x2710#32,
    BOFF_LIMIT := 5#8 }

/-- Its fields from the lowest bit up, each with its width; reserved fields are 0. -/
def CanDesc.fields (x : CanDesc) : List (Nat × Nat) :=
  [(8, x.CTRL_ID.toNat), (8, x.MODE.toNat), (1, x.FD_EN.toNat), (1, x.BRS_EN.toNat), (1, x.TDC_EN.toNat), (1, x.ONE_SHOT.toNat), (1, x.PROT_EXC.toNat), (3, 0), (8, x.TIME_ROLE.toNat), (8, x.NBRP.toNat), (8, x.NSJW.toNat), (8, x.NTSEG1.toNat), (8, x.NTSEG2.toNat), (8, x.DBRP.toNat), (8, x.DSJW.toNat), (8, x.DTSEG1.toNat), (8, x.DTSEG2.toNat), (8, x.TDCO.toNat), (8, x.BUSOFF_POLICY.toNat), (16, x.BOFF_HOLD_MS.toNat), (32, x.REF_ID.toNat), (32, x.REF_PERIOD_US.toNat), (8, x.BOFF_LIMIT.toNat), (8, 0), (16, 0), (32, 0)]

/-- Its bytes as the module stores or sends them (R335). -/
def CanDesc.toBytes (x : CanDesc) : List Byte := leBytes 32 (pack (x.fields))

/-- The layout as it is read out of a number that holds its bits. -/
def CanDesc.ofBits (n : Nat) : CanDesc :=
  { CTRL_ID := bitsAt n 0 8,
    MODE := bitsAt n 8 8,
    FD_EN := bitsAt n 16 1,
    BRS_EN := bitsAt n 17 1,
    TDC_EN := bitsAt n 18 1,
    ONE_SHOT := bitsAt n 19 1,
    PROT_EXC := bitsAt n 20 1,
    TIME_ROLE := bitsAt n 24 8,
    NBRP := bitsAt n 32 8,
    NSJW := bitsAt n 40 8,
    NTSEG1 := bitsAt n 48 8,
    NTSEG2 := bitsAt n 56 8,
    DBRP := bitsAt n 64 8,
    DSJW := bitsAt n 72 8,
    DTSEG1 := bitsAt n 80 8,
    DTSEG2 := bitsAt n 88 8,
    TDCO := bitsAt n 96 8,
    BUSOFF_POLICY := bitsAt n 104 8,
    BOFF_HOLD_MS := bitsAt n 112 16,
    REF_ID := bitsAt n 128 32,
    REF_PERIOD_US := bitsAt n 160 32,
    BOFF_LIMIT := bitsAt n 192 8 }

/-- The layout as the module reads it out of bytes (R335). -/
def CanDesc.ofBytes (bs : List Byte) : CanDesc := CanDesc.ofBits (ofLe bs)

/-- A filter entry, 16 bytes (R336). -/
structure CanFilter where
  FILT_NO : BitVec 8  -- 0 to 63
  CTRL_ID : BitVec 8  -- 0 to 3
  USED : BitVec 1  -- Filter in use
  IDE : BitVec 1  -- 1 extended
  FDF : BitVec 1  -- FDF to match
  FDF_CARE : BitVec 1  -- Match FDF
  DEPTH : BitVec 8  -- 1 to 8 records
  FILT_ID : BitVec 32  -- Bits 28:0
  MASK : BitVec 32  -- Bits 28:0
  deriving DecidableEq, Repr

/-- The layout's default (R336). -/
def CanFilter.dflt : CanFilter :=
  { FILT_NO := 0#8,
    CTRL_ID := 0#8,
    USED := 0#1,
    IDE := 0#1,
    FDF := 0#1,
    FDF_CARE := 0#1,
    DEPTH := 4#8,
    FILT_ID := 0#32,
    MASK := 0x1FFFFFFF#32 }

/-- Its fields from the lowest bit up, each with its width; reserved fields are 0. -/
def CanFilter.fields (x : CanFilter) : List (Nat × Nat) :=
  [(8, x.FILT_NO.toNat), (8, x.CTRL_ID.toNat), (1, x.USED.toNat), (1, x.IDE.toNat), (1, x.FDF.toNat), (1, x.FDF_CARE.toNat), (4, 0), (8, x.DEPTH.toNat), (32, x.FILT_ID.toNat), (32, x.MASK.toNat), (32, 0)]

/-- Its bytes as the module stores or sends them (R336). -/
def CanFilter.toBytes (x : CanFilter) : List Byte := leBytes 16 (pack (x.fields))

/-- The layout as it is read out of a number that holds its bits. -/
def CanFilter.ofBits (n : Nat) : CanFilter :=
  { FILT_NO := bitsAt n 0 8,
    CTRL_ID := bitsAt n 8 8,
    USED := bitsAt n 16 1,
    IDE := bitsAt n 17 1,
    FDF := bitsAt n 18 1,
    FDF_CARE := bitsAt n 19 1,
    DEPTH := bitsAt n 24 8,
    FILT_ID := bitsAt n 32 32,
    MASK := bitsAt n 64 32 }

/-- The layout as the module reads it out of bytes (R336). -/
def CanFilter.ofBytes (bs : List Byte) : CanFilter := CanFilter.ofBits (ofLe bs)

/-- An object entry, 16 bytes (R336). -/
structure CanObject where
  OBJ_NO : BitVec 16  -- 0 to 2047
  CTRL_ID : BitVec 8  -- 0 to 3
  DIR : BitVec 8  -- 0 unused, 1 receive, 2 transmit
  ID : BitVec 32  -- Bit 31 IDE, bits 28:0 identifier
  TIME_MS : BitVec 16  -- Receive: TIMEOUT_MS. Transmit: TX_PERIOD_MS. 0 none
  FDF : BitVec 1  -- Transmit only
  BRS : BitVec 1  -- Transmit only
  ON_COMMIT : BitVec 1  -- Transmit only
  ON_PERIOD : BitVec 1  -- Transmit only (R327)
  DLC : BitVec 8  -- Transmit only; 0 to 15, above 8 FD only
  deriving DecidableEq, Repr

/-- The layout's default (R336). -/
def CanObject.dflt : CanObject :=
  { OBJ_NO := 0#16,
    CTRL_ID := 0#8,
    DIR := 0#8,
    ID := 0#32,
    TIME_MS := 0#16,
    FDF := 0#1,
    BRS := 0#1,
    ON_COMMIT := 1#1,
    ON_PERIOD := 0#1,
    DLC := 8#8 }

/-- Its fields from the lowest bit up, each with its width; reserved fields are 0. -/
def CanObject.fields (x : CanObject) : List (Nat × Nat) :=
  [(16, x.OBJ_NO.toNat), (8, x.CTRL_ID.toNat), (8, x.DIR.toNat), (32, x.ID.toNat), (16, x.TIME_MS.toNat), (1, x.FDF.toNat), (1, x.BRS.toNat), (1, x.ON_COMMIT.toNat), (1, x.ON_PERIOD.toNat), (4, 0), (8, x.DLC.toNat), (32, 0)]

/-- Its bytes as the module stores or sends them (R336). -/
def CanObject.toBytes (x : CanObject) : List Byte := leBytes 16 (pack (x.fields))

/-- The layout as it is read out of a number that holds its bits. -/
def CanObject.ofBits (n : Nat) : CanObject :=
  { OBJ_NO := bitsAt n 0 16,
    CTRL_ID := bitsAt n 16 8,
    DIR := bitsAt n 24 8,
    ID := bitsAt n 32 32,
    TIME_MS := bitsAt n 64 16,
    FDF := bitsAt n 80 1,
    BRS := bitsAt n 81 1,
    ON_COMMIT := bitsAt n 82 1,
    ON_PERIOD := bitsAt n 83 1,
    DLC := bitsAt n 88 8 }

/-- The layout as the module reads it out of bytes (R336). -/
def CanObject.ofBytes (bs : List Byte) : CanObject := CanObject.ofBits (ofLe bs)

/-- A frame record, 128 bytes in MSG (R337). -/
structure FrameRec where
  ID : BitVec 32  -- Bit 31 IDE, bit 30 RTR, bit 29 reserved, bits 28:0 identifier
  DLC : BitVec 8  -- Code 0 to 15
  FDF : BitVec 1
  BRS : BitVec 1
  ESI : BitVec 1  -- Received ESI
  LOST : BitVec 1  -- R325, R326
  QUAL : BitVec 4  -- Quality nibble (R9)
  SEQ : BitVec 16  -- Receive count; TX_SEQ of a transmit object
  TS : BitVec 64  -- Start of frame (R324)
  DATA : BitVec 512  -- Data, DLC bytes used
  RS_SEQ : BitVec 16  -- Written by the reader, or by the controller for a transmit object
  SENT_TS : BitVec 64  -- Transmit object: start of frame of the last transmission
  deriving DecidableEq, Repr

/-- The layout's default (R337). -/
def FrameRec.dflt : FrameRec :=
  { ID := 0#32,
    DLC := 0#8,
    FDF := 0#1,
    BRS := 0#1,
    ESI := 0#1,
    LOST := 0#1,
    QUAL := 11#4,
    SEQ := 0#16,
    TS := 0#64,
    DATA := 0#512,
    RS_SEQ := 0#16,
    SENT_TS := 0#64 }

/-- Its fields from the lowest bit up, each with its width; reserved fields are 0. -/
def FrameRec.fields (x : FrameRec) : List (Nat × Nat) :=
  [(32, x.ID.toNat), (8, x.DLC.toNat), (1, x.FDF.toNat), (1, x.BRS.toNat), (1, x.ESI.toNat), (1, x.LOST.toNat), (4, x.QUAL.toNat), (16, x.SEQ.toNat), (64, x.TS.toNat), (512, x.DATA.toNat), (16, x.RS_SEQ.toNat), (48, 0), (64, x.SENT_TS.toNat), (256, 0)]

/-- Its bytes as the module stores or sends them (R337). -/
def FrameRec.toBytes (x : FrameRec) : List Byte := leBytes 128 (pack (x.fields))

/-- The layout as it is read out of a number that holds its bits. -/
def FrameRec.ofBits (n : Nat) : FrameRec :=
  { ID := bitsAt n 0 32,
    DLC := bitsAt n 32 8,
    FDF := bitsAt n 40 1,
    BRS := bitsAt n 41 1,
    ESI := bitsAt n 42 1,
    LOST := bitsAt n 43 1,
    QUAL := bitsAt n 44 4,
    SEQ := bitsAt n 48 16,
    TS := bitsAt n 64 64,
    DATA := bitsAt n 128 512,
    RS_SEQ := bitsAt n 640 16,
    SENT_TS := bitsAt n 704 64 }

/-- The layout as the module reads it out of bytes (R337). -/
def FrameRec.ofBytes (bs : List Byte) : FrameRec := FrameRec.ofBits (ofLe bs)

/-- A ring line, 64 bytes in MSG (R338). -/
structure RingLine where
  WR_SEQ : BitVec 32  -- Controller: frames taken by the filter since ENABLE, wrapping
  RING_OVR : BitVec 16  -- Controller: overruns of this ring (R325), saturating
  LAST_TS : BitVec 64  -- Controller: TS of the last frame taken
  RD_SEQ : BitVec 32  -- Reader: frames consumed, wrapping
  deriving DecidableEq, Repr

/-- The layout's default (R338). -/
def RingLine.dflt : RingLine :=
  { WR_SEQ := 0#32,
    RING_OVR := 0#16,
    LAST_TS := 0#64,
    RD_SEQ := 0#32 }

/-- Its fields from the lowest bit up, each with its width; reserved fields are 0. -/
def RingLine.fields (x : RingLine) : List (Nat × Nat) :=
  [(32, x.WR_SEQ.toNat), (16, x.RING_OVR.toNat), (16, 0), (64, x.LAST_TS.toNat), (128, 0), (32, x.RD_SEQ.toNat), (224, 0)]

/-- Its bytes as the module stores or sends them (R338). -/
def RingLine.toBytes (x : RingLine) : List Byte := leBytes 64 (pack (x.fields))

/-- The layout as it is read out of a number that holds its bits. -/
def RingLine.ofBits (n : Nat) : RingLine :=
  { WR_SEQ := bitsAt n 0 32,
    RING_OVR := bitsAt n 32 16,
    LAST_TS := bitsAt n 64 64,
    RD_SEQ := bitsAt n 256 32 }

/-- The layout as the module reads it out of bytes (R338). -/
def RingLine.ofBytes (bs : List Byte) : RingLine := RingLine.ofBits (ofLe bs)

/-- The CAN controller status, 32 bytes (R339). -/
structure CanStat where
  REF_LOST : BitVec 1  -- R333
  MASTER_ACTIVE : BitVec 1  -- R333
  PROT_EXC_SEEN : BitVec 1  -- Sticky
  HP_OVERRUN_SEEN : BitVec 1  -- Sticky
  TDC_LONG : BitVec 1  -- Sticky (R323)
  TDC_MEAS : BitVec 8  -- Last loop delay, 12.5 ns units
  LAST_ERR : BitVec 8  -- 0 none, 1 stuff, 2 form, 3 ACK, 4 bit 1, 5 bit 0, 6 CRC
  RX_FRAMES : BitVec 32  -- Frames received
  TX_FRAMES : BitVec 32  -- Frames sent
  BUSOFF_COUNT : BitVec 16
  PASSIVE_COUNT : BitVec 16
  LOST_COUNT : BitVec 16  -- R326
  UNMATCHED_COUNT : BitVec 16  -- R324
  TX_REPLACED : BitVec 16  -- R328
  HP_OVERRUN : BitVec 16  -- R325
  CYCLE_COUNT : BitVec 8  -- R333
  deriving DecidableEq, Repr

/-- The layout's default (R339). -/
def CanStat.dflt : CanStat :=
  { REF_LOST := 0#1,
    MASTER_ACTIVE := 0#1,
    PROT_EXC_SEEN := 0#1,
    HP_OVERRUN_SEEN := 0#1,
    TDC_LONG := 0#1,
    TDC_MEAS := 0#8,
    LAST_ERR := 0#8,
    RX_FRAMES := 0#32,
    TX_FRAMES := 0#32,
    BUSOFF_COUNT := 0#16,
    PASSIVE_COUNT := 0#16,
    LOST_COUNT := 0#16,
    UNMATCHED_COUNT := 0#16,
    TX_REPLACED := 0#16,
    HP_OVERRUN := 0#16,
    CYCLE_COUNT := 0#8 }

/-- Its fields from the lowest bit up, each with its width; reserved fields are 0, and the fields that report a state held elsewhere are given. -/
def CanStat.fields (x : CanStat) (STATE : Nat) (WARN : Nat) (RESTRICTED : Nat) (RECOVERING : Nat) (BOFF_LOCKED : Nat) (TEC : Nat) (REC : Nat) : List (Nat × Nat) :=
  [(2, STATE), (1, WARN), (1, RESTRICTED), (1, RECOVERING), (1, x.REF_LOST.toNat), (1, x.MASTER_ACTIVE.toNat), (1, x.PROT_EXC_SEEN.toNat), (1, x.HP_OVERRUN_SEEN.toNat), (1, BOFF_LOCKED), (1, x.TDC_LONG.toNat), (21, 0), (8, TEC), (8, REC), (8, x.TDC_MEAS.toNat), (8, x.LAST_ERR.toNat), (32, x.RX_FRAMES.toNat), (32, x.TX_FRAMES.toNat), (16, x.BUSOFF_COUNT.toNat), (16, x.PASSIVE_COUNT.toNat), (16, x.LOST_COUNT.toNat), (16, x.UNMATCHED_COUNT.toNat), (16, x.TX_REPLACED.toNat), (16, x.HP_OVERRUN.toNat), (8, x.CYCLE_COUNT.toNat), (24, 0)]

/-- Its bytes as the module stores or sends them (R339). -/
def CanStat.toBytes (x : CanStat) (STATE : Nat) (WARN : Nat) (RESTRICTED : Nat) (RECOVERING : Nat) (BOFF_LOCKED : Nat) (TEC : Nat) (REC : Nat) : List Byte := leBytes 32 (pack (x.fields STATE WARN RESTRICTED RECOVERING BOFF_LOCKED TEC REC))

/-- The layout as it is read out of a number that holds its bits. -/
def CanStat.ofBits (n : Nat) : CanStat :=
  { REF_LOST := bitsAt n 5 1,
    MASTER_ACTIVE := bitsAt n 6 1,
    PROT_EXC_SEEN := bitsAt n 7 1,
    HP_OVERRUN_SEEN := bitsAt n 8 1,
    TDC_LONG := bitsAt n 10 1,
    TDC_MEAS := bitsAt n 48 8,
    LAST_ERR := bitsAt n 56 8,
    RX_FRAMES := bitsAt n 64 32,
    TX_FRAMES := bitsAt n 96 32,
    BUSOFF_COUNT := bitsAt n 128 16,
    PASSIVE_COUNT := bitsAt n 144 16,
    LOST_COUNT := bitsAt n 160 16,
    UNMATCHED_COUNT := bitsAt n 176 16,
    TX_REPLACED := bitsAt n 192 16,
    HP_OVERRUN := bitsAt n 208 16,
    CYCLE_COUNT := bitsAt n 224 8 }

/-- The layout as the module reads it out of bytes (R339). -/
def CanStat.ofBytes (bs : List Byte) : CanStat := CanStat.ofBits (ofLe bs)

/-- The network descriptor, 32 bytes (R347). -/
structure NetDesc where
  NET_MODE : BitVec 8  -- R343
  SPEED_A : BitVec 8  -- 0 negotiated, 1 1000 Mbit/s, 2 100 Mbit/s
  SPEED_B : BitVec 8  -- As SPEED_A
  PHY_ADDR_A : BitVec 8  -- 0 to 31
  PHY_ADDR_B : BitVec 8  -- 0 to 31
  PD_PCP : BitVec 8  -- 0 to 7
  PTP_PCP : BitVec 8  -- 0 to 7
  SESS_PCP : BitVec 8  -- 0 to 7
  VID : BitVec 16  -- 0 to 4094; 0 priority tag only
  ENTRY_FORGET_MS : BitVec 16  -- 100 to 10000
  LIFE_CHECK_MS : BitVec 16  -- 100 to 10000
  NODE_FORGET_S : BitVec 16  -- 10 to 3600
  PHY_TX_NS_A : BitVec 16  -- PHY egress latency of PORT_A at its configured speed, ns
  PHY_RX_NS_A : BitVec 16  -- PHY ingress latency of PORT_A, ns
  ASYM_NS_A : BitVec 32  -- delayAsymmetry of the PORT_A link, ns
  PHY_TX_NS_B : BitVec 16  -- As for PORT_A
  PHY_RX_NS_B : BitVec 16  -- As for PORT_A
  ASYM_NS_B : BitVec 32  -- As for PORT_A
  deriving DecidableEq, Repr

/-- The layout's default (R347). -/
def NetDesc.dflt : NetDesc :=
  { NET_MODE := 0#8,
    SPEED_A := 0#8,
    SPEED_B := 0#8,
    PHY_ADDR_A := 0#8,
    PHY_ADDR_B := 1#8,
    PD_PCP := 6#8,
    PTP_PCP := 7#8,
    SESS_PCP := 4#8,
    VID := 0#16,
    ENTRY_FORGET_MS := 400#16,
    LIFE_CHECK_MS := 2000#16,
    NODE_FORGET_S := 60#16,
    PHY_TX_NS_A := 0#16,
    PHY_RX_NS_A := 0#16,
    ASYM_NS_A := 0#32,
    PHY_TX_NS_B := 0#16,
    PHY_RX_NS_B := 0#16,
    ASYM_NS_B := 0#32 }

/-- Its fields from the lowest bit up, each with its width; reserved fields are 0. -/
def NetDesc.fields (x : NetDesc) : List (Nat × Nat) :=
  [(8, x.NET_MODE.toNat), (8, x.SPEED_A.toNat), (8, x.SPEED_B.toNat), (8, x.PHY_ADDR_A.toNat), (8, x.PHY_ADDR_B.toNat), (8, x.PD_PCP.toNat), (8, x.PTP_PCP.toNat), (8, x.SESS_PCP.toNat), (16, x.VID.toNat), (16, x.ENTRY_FORGET_MS.toNat), (16, x.LIFE_CHECK_MS.toNat), (16, x.NODE_FORGET_S.toNat), (16, x.PHY_TX_NS_A.toNat), (16, x.PHY_RX_NS_A.toNat), (32, x.ASYM_NS_A.toNat), (16, x.PHY_TX_NS_B.toNat), (16, x.PHY_RX_NS_B.toNat), (32, x.ASYM_NS_B.toNat)]

/-- Its bytes as the module stores or sends them (R347). -/
def NetDesc.toBytes (x : NetDesc) : List Byte := leBytes 32 (pack (x.fields))

/-- The layout as it is read out of a number that holds its bits. -/
def NetDesc.ofBits (n : Nat) : NetDesc :=
  { NET_MODE := bitsAt n 0 8,
    SPEED_A := bitsAt n 8 8,
    SPEED_B := bitsAt n 16 8,
    PHY_ADDR_A := bitsAt n 24 8,
    PHY_ADDR_B := bitsAt n 32 8,
    PD_PCP := bitsAt n 40 8,
    PTP_PCP := bitsAt n 48 8,
    SESS_PCP := bitsAt n 56 8,
    VID := bitsAt n 64 16,
    ENTRY_FORGET_MS := bitsAt n 80 16,
    LIFE_CHECK_MS := bitsAt n 96 16,
    NODE_FORGET_S := bitsAt n 112 16,
    PHY_TX_NS_A := bitsAt n 128 16,
    PHY_RX_NS_A := bitsAt n 144 16,
    ASYM_NS_A := bitsAt n 160 32,
    PHY_TX_NS_B := bitsAt n 192 16,
    PHY_RX_NS_B := bitsAt n 208 16,
    ASYM_NS_B := bitsAt n 224 32 }

/-- The layout as the module reads it out of bytes (R347). -/
def NetDesc.ofBytes (bs : List Byte) : NetDesc := NetDesc.ofBits (ofLe bs)

/-- The PTP descriptor, 32 bytes (R351). -/
structure PtpDesc where
  PTP_MODE : BitVec 8  -- 0 off, 1 slave-only, 2 master-capable
  DELAY_MECH : BitVec 8  -- 0 E2E, 1 P2P
  STEP_MODE : BitVec 8  -- 0 two-step, 1 one-step
  DOMAIN : BitVec 8  -- 0 to 127
  LOG_SYNC : BitVec 8  -- −7 to 1
  LOG_ANNOUNCE : BitVec 8  -- −3 to 4
  LOG_DELAY : BitVec 8  -- −7 to 5
  ANNOUNCE_TIMEOUT : BitVec 8  -- 2 to 10
  PRIORITY1 : BitVec 8  -- Master-capable only
  PRIORITY2 : BitVec 8  -- Master-capable only
  CLOCK_CLASS : BitVec 8  -- Master-capable only
  TC_EN : BitVec 1  -- R350; HSR only
  STEP_ANYTIME : BitVec 1  -- R355
  LOCK_NS : BitVec 16  -- 10 to 10000
  STEP_US : BitVec 16  -- 1 to 65535
  KP : BitVec 32  -- Proportional gain × 2^16 (0.7)
  KI : BitVec 32  -- Integral gain × 2^16 (0.3)
  RATE_MAX_PPB : BitVec 32  -- 1000 to 500000
  HOLD_ALARM_S : BitVec 16  -- 1 to 65535
  deriving DecidableEq, Repr

/-- The layout's default (R351). -/
def PtpDesc.dflt : PtpDesc :=
  { PTP_MODE := 1#8,
    DELAY_MECH := 1#8,
    STEP_MODE := 0#8,
    DOMAIN := 0#8,
    LOG_SYNC := 253#8,
    LOG_ANNOUNCE := 1#8,
    LOG_DELAY := 0#8,
    ANNOUNCE_TIMEOUT := 3#8,
    PRIORITY1 := 128#8,
    PRIORITY2 := 128#8,
    CLOCK_CLASS := 248#8,
    TC_EN := 1#1,
    STEP_ANYTIME := 0#1,
    LOCK_NS := 100#16,
    STEP_US := 1000#16,
    KP := 0xB333#32,
    KI := 0x4CCD#32,
    RATE_MAX_PPB := 0x186A0#32,
    HOLD_ALARM_S := 60#16 }

/-- Its fields from the lowest bit up, each with its width; reserved fields are 0. -/
def PtpDesc.fields (x : PtpDesc) : List (Nat × Nat) :=
  [(8, x.PTP_MODE.toNat), (8, x.DELAY_MECH.toNat), (8, x.STEP_MODE.toNat), (8, x.DOMAIN.toNat), (8, x.LOG_SYNC.toNat), (8, x.LOG_ANNOUNCE.toNat), (8, x.LOG_DELAY.toNat), (8, x.ANNOUNCE_TIMEOUT.toNat), (8, x.PRIORITY1.toNat), (8, x.PRIORITY2.toNat), (8, x.CLOCK_CLASS.toNat), (1, x.TC_EN.toNat), (1, x.STEP_ANYTIME.toNat), (6, 0), (16, x.LOCK_NS.toNat), (16, x.STEP_US.toNat), (32, x.KP.toNat), (32, x.KI.toNat), (32, x.RATE_MAX_PPB.toNat), (16, x.HOLD_ALARM_S.toNat), (16, 0)]

/-- Its bytes as the module stores or sends them (R351). -/
def PtpDesc.toBytes (x : PtpDesc) : List Byte := leBytes 32 (pack (x.fields))

/-- The layout as it is read out of a number that holds its bits. -/
def PtpDesc.ofBits (n : Nat) : PtpDesc :=
  { PTP_MODE := bitsAt n 0 8,
    DELAY_MECH := bitsAt n 8 8,
    STEP_MODE := bitsAt n 16 8,
    DOMAIN := bitsAt n 24 8,
    LOG_SYNC := bitsAt n 32 8,
    LOG_ANNOUNCE := bitsAt n 40 8,
    LOG_DELAY := bitsAt n 48 8,
    ANNOUNCE_TIMEOUT := bitsAt n 56 8,
    PRIORITY1 := bitsAt n 64 8,
    PRIORITY2 := bitsAt n 72 8,
    CLOCK_CLASS := bitsAt n 80 8,
    TC_EN := bitsAt n 88 1,
    STEP_ANYTIME := bitsAt n 89 1,
    LOCK_NS := bitsAt n 96 16,
    STEP_US := bitsAt n 112 16,
    KP := bitsAt n 128 32,
    KI := bitsAt n 160 32,
    RATE_MAX_PPB := bitsAt n 192 32,
    HOLD_ALARM_S := bitsAt n 224 16 }

/-- The layout as the module reads it out of bytes (R351). -/
def PtpDesc.ofBytes (bs : List Byte) : PtpDesc := PtpDesc.ofBits (ofLe bs)

/-- The time record, 64 bytes at IMAGE 0x0040 (R358). -/
structure TimeRec where
  CLK_STATE : BitVec 2  -- 0 FREE, 1 ACQUIRING, 2 LOCKED, 3 HOLDOVER
  TIME_VALID : BitVec 1  -- R357
  IS_MASTER : BitVec 1  -- The module is grandmaster
  UTC_VALID : BitVec 1  -- Offset from a master with currentUtcOffsetValid
  LEAP61 : BitVec 1  -- From the master
  LEAP59 : BitVec 1  -- From the master
  PORT_SEL : BitVec 1  -- 0 PORT_A, 1 PORT_B (R350)
  RTC_OSF : BitVec 1  -- Copy of OSF
  ALARM_FLAG : BitVec 1  -- Copy of the RTC flag
  WAKE_FLAG : BitVec 1  -- Copy of the RTC flag
  LAN_OK_A : BitVec 1  -- R346
  LAN_OK_B : BitVec 1  -- R346
  RING_OK : BitVec 1  -- R346
  UTC_OFFSET : BitVec 16  -- TAI − UTC, s
  STEP_SEQ : BitVec 8  -- R355, wrapping
  OFFSET_NS : BitVec 32  -- Last x, saturating
  RATE_PPB : BitVec 32  -- Present rate correction, rounded
  MEAN_PATH_NS : BitVec 32  -- Of the selected port
  HOLDOVER_S : BitVec 32  -- Time in the present HOLDOVER
  GM_ID : BitVec 64  -- Grandmaster clockIdentity
  BASE_TS : BitVec 64  -- R353
  BASE_CNT : BitVec 64  -- R353
  RATE_Q48 : BitVec 64  -- R353
  WRITE_TS : BitVec 64  -- Time of this write
  deriving DecidableEq, Repr

/-- The layout's default (R358). -/
def TimeRec.dflt : TimeRec :=
  { CLK_STATE := 0#2,
    TIME_VALID := 0#1,
    IS_MASTER := 0#1,
    UTC_VALID := 0#1,
    LEAP61 := 0#1,
    LEAP59 := 0#1,
    PORT_SEL := 0#1,
    RTC_OSF := 1#1,
    ALARM_FLAG := 0#1,
    WAKE_FLAG := 0#1,
    LAN_OK_A := 0#1,
    LAN_OK_B := 0#1,
    RING_OK := 0#1,
    UTC_OFFSET := 0#16,
    STEP_SEQ := 0#8,
    OFFSET_NS := 0#32,
    RATE_PPB := 0#32,
    MEAN_PATH_NS := 0#32,
    HOLDOVER_S := 0#32,
    GM_ID := 0#64,
    BASE_TS := 0#64,
    BASE_CNT := 0#64,
    RATE_Q48 := 0#64,
    WRITE_TS := 0#64 }

/-- Its fields from the lowest bit up, each with its width; reserved fields are 0. -/
def TimeRec.fields (x : TimeRec) : List (Nat × Nat) :=
  [(2, x.CLK_STATE.toNat), (1, x.TIME_VALID.toNat), (1, x.IS_MASTER.toNat), (1, x.UTC_VALID.toNat), (1, x.LEAP61.toNat), (1, x.LEAP59.toNat), (1, x.PORT_SEL.toNat), (1, x.RTC_OSF.toNat), (1, x.ALARM_FLAG.toNat), (1, x.WAKE_FLAG.toNat), (1, x.LAN_OK_A.toNat), (1, x.LAN_OK_B.toNat), (1, x.RING_OK.toNat), (18, 0), (16, x.UTC_OFFSET.toNat), (8, x.STEP_SEQ.toNat), (8, 0), (32, x.OFFSET_NS.toNat), (32, x.RATE_PPB.toNat), (32, x.MEAN_PATH_NS.toNat), (32, x.HOLDOVER_S.toNat), (64, x.GM_ID.toNat), (64, x.BASE_TS.toNat), (64, x.BASE_CNT.toNat), (64, x.RATE_Q48.toNat), (64, x.WRITE_TS.toNat)]

/-- Its bytes as the module stores or sends them (R358). -/
def TimeRec.toBytes (x : TimeRec) : List Byte := leBytes 64 (pack (x.fields))

/-- The layout as it is read out of a number that holds its bits. -/
def TimeRec.ofBits (n : Nat) : TimeRec :=
  { CLK_STATE := bitsAt n 0 2,
    TIME_VALID := bitsAt n 2 1,
    IS_MASTER := bitsAt n 3 1,
    UTC_VALID := bitsAt n 4 1,
    LEAP61 := bitsAt n 5 1,
    LEAP59 := bitsAt n 6 1,
    PORT_SEL := bitsAt n 7 1,
    RTC_OSF := bitsAt n 8 1,
    ALARM_FLAG := bitsAt n 9 1,
    WAKE_FLAG := bitsAt n 10 1,
    LAN_OK_A := bitsAt n 11 1,
    LAN_OK_B := bitsAt n 12 1,
    RING_OK := bitsAt n 13 1,
    UTC_OFFSET := bitsAt n 32 16,
    STEP_SEQ := bitsAt n 48 8,
    OFFSET_NS := bitsAt n 64 32,
    RATE_PPB := bitsAt n 96 32,
    MEAN_PATH_NS := bitsAt n 128 32,
    HOLDOVER_S := bitsAt n 160 32,
    GM_ID := bitsAt n 192 64,
    BASE_TS := bitsAt n 256 64,
    BASE_CNT := bitsAt n 320 64,
    RATE_Q48 := bitsAt n 384 64,
    WRITE_TS := bitsAt n 448 64 }

/-- The layout as the module reads it out of bytes (R358). -/
def TimeRec.ofBytes (bs : List Byte) : TimeRec := TimeRec.ofBits (ofLe bs)

/-- The compare descriptor, 32 bytes (R361). -/
structure CmpDesc where
  CMP_ID : BitVec 8  -- 0 to 7
  MODE : BitVec 8  -- 0 off, 1 one-shot, 2 periodic
  OUT_EN : BitVec 1  -- Drive TPOn; CMP0–CMP3 only
  POL : BitVec 1  -- 1: pulse active low
  WIDTH_NS : BitVec 32  -- 8 to 10^9; below PERIOD_NS − 8
  START : BitVec 64  -- First firing time
  PERIOD_NS : BitVec 64  -- 1000 to 10^12; periodic only
  deriving DecidableEq, Repr

/-- The layout's default (R361). -/
def CmpDesc.dflt : CmpDesc :=
  { CMP_ID := 0#8,
    MODE := 0#8,
    OUT_EN := 0#1,
    POL := 0#1,
    WIDTH_NS := 1000#32,
    START := 0#64,
    PERIOD_NS := 0x3B9ACA00#64 }

/-- Its fields from the lowest bit up, each with its width; reserved fields are 0. -/
def CmpDesc.fields (x : CmpDesc) : List (Nat × Nat) :=
  [(8, x.CMP_ID.toNat), (8, x.MODE.toNat), (1, x.OUT_EN.toNat), (1, x.POL.toNat), (6, 0), (8, 0), (32, x.WIDTH_NS.toNat), (64, x.START.toNat), (64, x.PERIOD_NS.toNat), (64, 0)]

/-- Its bytes as the module stores or sends them (R361). -/
def CmpDesc.toBytes (x : CmpDesc) : List Byte := leBytes 32 (pack (x.fields))

/-- The layout as it is read out of a number that holds its bits. -/
def CmpDesc.ofBits (n : Nat) : CmpDesc :=
  { CMP_ID := bitsAt n 0 8,
    MODE := bitsAt n 8 8,
    OUT_EN := bitsAt n 16 1,
    POL := bitsAt n 17 1,
    WIDTH_NS := bitsAt n 32 32,
    START := bitsAt n 64 64,
    PERIOD_NS := bitsAt n 128 64 }

/-- The layout as the module reads it out of bytes (R361). -/
def CmpDesc.ofBytes (bs : List Byte) : CmpDesc := CmpDesc.ofBits (ofLe bs)

/-- The capture input descriptor, 8 bytes (R362). -/
structure TciDesc where
  TCI_ID : BitVec 8  -- 0 or 1
  EDGE_SEL : BitVec 8  -- 0 off, 1 rising, 2 falling, 3 both
  GLITCH_NS : BitVec 16  -- 0 to 1000
  DELAY_NS : BitVec 32  -- subtracted from each capture
  deriving DecidableEq, Repr

/-- The layout's default (R362). -/
def TciDesc.dflt : TciDesc :=
  { TCI_ID := 0#8,
    EDGE_SEL := 0#8,
    GLITCH_NS := 0#16,
    DELAY_NS := 0#32 }

/-- Its fields from the lowest bit up, each with its width; reserved fields are 0. -/
def TciDesc.fields (x : TciDesc) : List (Nat × Nat) :=
  [(8, x.TCI_ID.toNat), (8, x.EDGE_SEL.toNat), (16, x.GLITCH_NS.toNat), (32, x.DELAY_NS.toNat)]

/-- Its bytes as the module stores or sends them (R362). -/
def TciDesc.toBytes (x : TciDesc) : List Byte := leBytes 8 (pack (x.fields))

/-- The layout as it is read out of a number that holds its bits. -/
def TciDesc.ofBits (n : Nat) : TciDesc :=
  { TCI_ID := bitsAt n 0 8,
    EDGE_SEL := bitsAt n 8 8,
    GLITCH_NS := bitsAt n 16 16,
    DELAY_NS := bitsAt n 32 32 }

/-- The layout as the module reads it out of bytes (R362). -/
def TciDesc.ofBytes (bs : List Byte) : TciDesc := TciDesc.ofBits (ofLe bs)

/-- The header of a capture block, 16 bytes at IMAGE 0x0480 + 0x80·k (R362). -/
structure TciHead where
  WR_SEQ : BitVec 32  -- Sequence of the last capture written
  OVR_COUNT : BitVec 32  -- Dropped edges, saturating
  deriving DecidableEq, Repr

/-- The layout's default (R362). -/
def TciHead.dflt : TciHead :=
  { WR_SEQ := 0#32,
    OVR_COUNT := 0#32 }

/-- Its fields from the lowest bit up, each with its width; reserved fields are 0. -/
def TciHead.fields (x : TciHead) : List (Nat × Nat) :=
  [(32, x.WR_SEQ.toNat), (32, x.OVR_COUNT.toNat), (64, 0)]

/-- Its bytes as the module stores or sends them (R362). -/
def TciHead.toBytes (x : TciHead) : List Byte := leBytes 16 (pack (x.fields))

/-- The layout as it is read out of a number that holds its bits. -/
def TciHead.ofBits (n : Nat) : TciHead :=
  { WR_SEQ := bitsAt n 0 32,
    OVR_COUNT := bitsAt n 32 32 }

/-- The layout as the module reads it out of bytes (R362). -/
def TciHead.ofBytes (bs : List Byte) : TciHead := TciHead.ofBits (ofLe bs)

/-- An entry of a capture block, 16 bytes (R362). -/
structure TciEntry where
  TS : BitVec 64  -- Entry: captured time
  EDGE : BitVec 2  -- Entry: 1 rising, 2 falling
  QUAL : BitVec 4  -- Entry: GOOD when LOCKED; UNCERTAIN otherwise with TIME_VALID; BAD without
  SEQ : BitVec 32  -- Entry: capture sequence, from 1
  deriving DecidableEq, Repr

/-- The layout's default (R362). -/
def TciEntry.dflt : TciEntry :=
  { TS := 0#64,
    EDGE := 0#2,
    QUAL := 11#4,
    SEQ := 0#32 }

/-- Its fields from the lowest bit up, each with its width; reserved fields are 0. -/
def TciEntry.fields (x : TciEntry) : List (Nat × Nat) :=
  [(64, x.TS.toNat), (2, x.EDGE.toNat), (2, 0), (4, x.QUAL.toNat), (24, 0), (32, x.SEQ.toNat)]

/-- Its bytes as the module stores or sends them (R362). -/
def TciEntry.toBytes (x : TciEntry) : List Byte := leBytes 16 (pack (x.fields))

/-- The layout as it is read out of a number that holds its bits. -/
def TciEntry.ofBits (n : Nat) : TciEntry :=
  { TS := bitsAt n 0 64,
    EDGE := bitsAt n 64 2,
    QUAL := bitsAt n 68 4,
    SEQ := bitsAt n 96 32 }

/-- The layout as the module reads it out of bytes (R362). -/
def TciEntry.ofBytes (bs : List Byte) : TciEntry := TciEntry.ofBits (ofLe bs)

/-- The RTC record, 24 bytes (R364). -/
structure RtcRec where
  YEAR : BitVec 16  -- 2000 to 2199
  MONTH : BitVec 8  -- 1 to 12
  DAY : BitVec 8  -- 1 to 31
  HOUR : BitVec 8  -- 0 to 23
  MINUTE : BitVec 8  -- 0 to 59
  SECOND : BitVec 8  -- 0 to 60
  OSF : BitVec 1  -- R363
  ALARM_FLAG : BitVec 1  -- R366
  WAKE_FLAG : BitVec 1  -- R367
  SHIFT_BUSY : BitVec 1  -- R365
  LEAP_ARMED : BitVec 1  -- R368
  ALARM_ARMED : BitVec 1  -- R366
  ALARM_LATE : BitVec 1  -- R366
  WAKE_LATE : BitVec 1  -- R367
  SUBSEC : BitVec 16  -- 0 to 32767
  SHIFT_LEFT : BitVec 16  -- Counts still to insert (+) or remove (−)
  WAKE_COUNT : BitVec 32  -- Wakes since the backup domain powered up
  LATCH_TS : BitVec 64  -- Local time at the shadow copy
  deriving DecidableEq, Repr

/-- The layout's default (R364). -/
def RtcRec.dflt : RtcRec :=
  { YEAR := 2000#16,
    MONTH := 1#8,
    DAY := 1#8,
    HOUR := 0#8,
    MINUTE := 0#8,
    SECOND := 0#8,
    OSF := 1#1,
    ALARM_FLAG := 0#1,
    WAKE_FLAG := 0#1,
    SHIFT_BUSY := 0#1,
    LEAP_ARMED := 0#1,
    ALARM_ARMED := 0#1,
    ALARM_LATE := 0#1,
    WAKE_LATE := 0#1,
    SUBSEC := 0#16,
    SHIFT_LEFT := 0#16,
    WAKE_COUNT := 0#32,
    LATCH_TS := 0#64 }

/-- Its fields from the lowest bit up, each with its width; reserved fields are 0. -/
def RtcRec.fields (x : RtcRec) : List (Nat × Nat) :=
  [(16, x.YEAR.toNat), (8, x.MONTH.toNat), (8, x.DAY.toNat), (8, x.HOUR.toNat), (8, x.MINUTE.toNat), (8, x.SECOND.toNat), (1, x.OSF.toNat), (1, x.ALARM_FLAG.toNat), (1, x.WAKE_FLAG.toNat), (1, x.SHIFT_BUSY.toNat), (1, x.LEAP_ARMED.toNat), (1, x.ALARM_ARMED.toNat), (1, x.ALARM_LATE.toNat), (1, x.WAKE_LATE.toNat), (16, x.SUBSEC.toNat), (16, x.SHIFT_LEFT.toNat), (32, x.WAKE_COUNT.toNat), (64, x.LATCH_TS.toNat)]

/-- Its bytes as the module stores or sends them (R364). -/
def RtcRec.toBytes (x : RtcRec) : List Byte := leBytes 24 (pack (x.fields))

/-- The layout as it is read out of a number that holds its bits. -/
def RtcRec.ofBits (n : Nat) : RtcRec :=
  { YEAR := bitsAt n 0 16,
    MONTH := bitsAt n 16 8,
    DAY := bitsAt n 24 8,
    HOUR := bitsAt n 32 8,
    MINUTE := bitsAt n 40 8,
    SECOND := bitsAt n 48 8,
    OSF := bitsAt n 56 1,
    ALARM_FLAG := bitsAt n 57 1,
    WAKE_FLAG := bitsAt n 58 1,
    SHIFT_BUSY := bitsAt n 59 1,
    LEAP_ARMED := bitsAt n 60 1,
    ALARM_ARMED := bitsAt n 61 1,
    ALARM_LATE := bitsAt n 62 1,
    WAKE_LATE := bitsAt n 63 1,
    SUBSEC := bitsAt n 64 16,
    SHIFT_LEFT := bitsAt n 80 16,
    WAKE_COUNT := bitsAt n 96 32,
    LATCH_TS := bitsAt n 128 64 }

/-- The layout as the module reads it out of bytes (R364). -/
def RtcRec.ofBytes (bs : List Byte) : RtcRec := RtcRec.ofBits (ofLe bs)

/-- The network status, 64 bytes (R370). -/
structure NetStat where
  RX_FRAMES_A : BitVec 32  -- Frames received on PORT_A
  RX_FRAMES_B : BitVec 32  -- Frames received on PORT_B
  DUP_DISCARD : BitVec 32  -- Duplicates discarded
  WRONG_LAN : BitVec 32  -- PRP frames with the other LAN's identifier
  FORWARDED : BitVec 32  -- HSR frames forwarded
  RX_ERRORS : BitVec 32  -- CRC, length and oversize errors, both ports
  QUEUE_DROPS : BitVec 32  -- Frames dropped at full queues (R345)
  LINK_DOWN_A : BitVec 16  -- Link losses of PORT_A
  LINK_DOWN_B : BitVec 16  -- Link losses of PORT_B
  NODE_TABLE_FULL : BitVec 16  -- R343
  STEP_COUNT : BitVec 16  -- Clock steps
  MASTER_CHANGES : BitVec 16  -- Changes of grandmaster
  HOLDOVER_COUNT : BitVec 16  -- Entries to HOLDOVER
  PORT_SWITCHES : BitVec 16  -- Changes of PORT_SEL
  MAX_HOLDOVER_S : BitVec 32  -- Longest holdover
  LAST_STEP_TS : BitVec 64  -- Time after the last step
  deriving DecidableEq, Repr

/-- The layout's default (R370). -/
def NetStat.dflt : NetStat :=
  { RX_FRAMES_A := 0#32,
    RX_FRAMES_B := 0#32,
    DUP_DISCARD := 0#32,
    WRONG_LAN := 0#32,
    FORWARDED := 0#32,
    RX_ERRORS := 0#32,
    QUEUE_DROPS := 0#32,
    LINK_DOWN_A := 0#16,
    LINK_DOWN_B := 0#16,
    NODE_TABLE_FULL := 0#16,
    STEP_COUNT := 0#16,
    MASTER_CHANGES := 0#16,
    HOLDOVER_COUNT := 0#16,
    PORT_SWITCHES := 0#16,
    MAX_HOLDOVER_S := 0#32,
    LAST_STEP_TS := 0#64 }

/-- Its fields from the lowest bit up, each with its width; reserved fields are 0, and the fields that report a state held elsewhere are given. -/
def NetStat.fields (x : NetStat) (NODES : Nat) : List (Nat × Nat) :=
  [(32, x.RX_FRAMES_A.toNat), (32, x.RX_FRAMES_B.toNat), (32, x.DUP_DISCARD.toNat), (32, x.WRONG_LAN.toNat), (32, x.FORWARDED.toNat), (32, x.RX_ERRORS.toNat), (32, x.QUEUE_DROPS.toNat), (16, x.LINK_DOWN_A.toNat), (16, x.LINK_DOWN_B.toNat), (16, NODES), (16, x.NODE_TABLE_FULL.toNat), (16, x.STEP_COUNT.toNat), (16, x.MASTER_CHANGES.toNat), (16, x.HOLDOVER_COUNT.toNat), (16, x.PORT_SWITCHES.toNat), (32, x.MAX_HOLDOVER_S.toNat), (64, x.LAST_STEP_TS.toNat), (64, 0)]

/-- Its bytes as the module stores or sends them (R370). -/
def NetStat.toBytes (x : NetStat) (NODES : Nat) : List Byte := leBytes 64 (pack (x.fields NODES))

/-- The layout as it is read out of a number that holds its bits. -/
def NetStat.ofBits (n : Nat) : NetStat :=
  { RX_FRAMES_A := bitsAt n 0 32,
    RX_FRAMES_B := bitsAt n 32 32,
    DUP_DISCARD := bitsAt n 64 32,
    WRONG_LAN := bitsAt n 96 32,
    FORWARDED := bitsAt n 128 32,
    RX_ERRORS := bitsAt n 160 32,
    QUEUE_DROPS := bitsAt n 192 32,
    LINK_DOWN_A := bitsAt n 224 16,
    LINK_DOWN_B := bitsAt n 240 16,
    NODE_TABLE_FULL := bitsAt n 272 16,
    STEP_COUNT := bitsAt n 288 16,
    MASTER_CHANGES := bitsAt n 304 16,
    HOLDOVER_COUNT := bitsAt n 320 16,
    PORT_SWITCHES := bitsAt n 336 16,
    MAX_HOLDOVER_S := bitsAt n 352 32,
    LAST_STEP_TS := bitsAt n 384 64 }

/-- The layout as the module reads it out of bytes (R370). -/
def NetStat.ofBytes (bs : List Byte) : NetStat := NetStat.ofBits (ofLe bs)

/-- The pair descriptor, 16 bytes (R405). -/
structure PairDesc where
  PAIR_MODE : BitVec 8  -- 0 unpaired, 1 paired
  SWAP_MODE : BitVec 8  -- 0 periodic swap, 1 LF-600 self-test (R396)
  SWAP_PERIOD_MIN : BitVec 16  -- 60 to 10080
  START_WAIT_MS : BitVec 16  -- 100 to 60000 (R375)
  WITNESS_EN : BitVec 1  -- R383
  WITNESS_REQUIRED : BitVec 1  -- R383
  WITNESS_ADDR : BitVec 16  -- 0 to 1023
  WITNESS_SILENT_US : BitVec 16  -- 2000 to 8000
  WITNESS_TIMEOUT_US : BitVec 16  -- 2500 to 9000
  deriving DecidableEq, Repr

/-- The layout's default (R405). -/
def PairDesc.dflt : PairDesc :=
  { PAIR_MODE := 0#8,
    SWAP_MODE := 0#8,
    SWAP_PERIOD_MIN := 1440#16,
    START_WAIT_MS := 2000#16,
    WITNESS_EN := 0#1,
    WITNESS_REQUIRED := 1#1,
    WITNESS_ADDR := 0#16,
    WITNESS_SILENT_US := 2500#16,
    WITNESS_TIMEOUT_US := 3000#16 }

/-- Its fields from the lowest bit up, each with its width; reserved fields are 0. -/
def PairDesc.fields (x : PairDesc) : List (Nat × Nat) :=
  [(8, x.PAIR_MODE.toNat), (8, x.SWAP_MODE.toNat), (16, x.SWAP_PERIOD_MIN.toNat), (16, x.START_WAIT_MS.toNat), (1, x.WITNESS_EN.toNat), (1, x.WITNESS_REQUIRED.toNat), (6, 0), (8, 0), (16, x.WITNESS_ADDR.toNat), (16, x.WITNESS_SILENT_US.toNat), (16, x.WITNESS_TIMEOUT_US.toNat), (16, 0)]

/-- Its bytes as the module stores or sends them (R405). -/
def PairDesc.toBytes (x : PairDesc) : List Byte := leBytes 16 (pack (x.fields))

/-- The layout as it is read out of a number that holds its bits. -/
def PairDesc.ofBits (n : Nat) : PairDesc :=
  { PAIR_MODE := bitsAt n 0 8,
    SWAP_MODE := bitsAt n 8 8,
    SWAP_PERIOD_MIN := bitsAt n 16 16,
    START_WAIT_MS := bitsAt n 32 16,
    WITNESS_EN := bitsAt n 48 1,
    WITNESS_REQUIRED := bitsAt n 49 1,
    WITNESS_ADDR := bitsAt n 64 16,
    WITNESS_SILENT_US := bitsAt n 80 16,
    WITNESS_TIMEOUT_US := bitsAt n 96 16 }

/-- The layout as the module reads it out of bytes (R405). -/
def PairDesc.ofBytes (bs : List Byte) : PairDesc := PairDesc.ofBits (ofLe bs)

/-- The pair status, 64 bytes (R406). -/
structure PairStat where
  PATH_FAULT : BitVec 1  -- R375, R382
  PEER_OK_FAULT : BitVec 1  -- R378
  SWAP_POSTPONED : BitVec 1  -- R388
  YIELD_FAULT : BitVec 1  -- R387
  DIVERGE_FAULT : BitVec 1  -- R395
  WITNESS_LOST : BitVec 1  -- R383
  RETAIN_SYNCED : BitVec 1  -- R397
  LANE_DOWN : BitVec 1  -- R377
  SYNC_PCT : BitVec 8  -- R397
  LAST_SWAP_TS : BitVec 64  -- End of the last swap
  NEXT_SWAP_TS : BitVec 64  -- Next timed swap
  SWAP_COUNT : BitVec 32  -- Swaps completed
  TAKEOVER_COUNT : BitVec 32  -- Takeovers and yields taken
  DIVERGE_COUNT : BitVec 32  -- R394
  LAST_DIVERGE_BLOCK : BitVec 32  -- RETAIN block index
  LINK_LOAD_PM : BitVec 32  -- Mean mirror traffic, per mille of 1.2 GB/s
  LINK_CRC_ERR : BitVec 16  -- R377
  QUARANTINE_COUNT : BitVec 16  -- R400
  deriving DecidableEq, Repr

/-- The layout's default (R406). -/
def PairStat.dflt : PairStat :=
  { PATH_FAULT := 0#1,
    PEER_OK_FAULT := 0#1,
    SWAP_POSTPONED := 0#1,
    YIELD_FAULT := 0#1,
    DIVERGE_FAULT := 0#1,
    WITNESS_LOST := 0#1,
    RETAIN_SYNCED := 0#1,
    LANE_DOWN := 0#1,
    SYNC_PCT := 0#8,
    LAST_SWAP_TS := 0#64,
    NEXT_SWAP_TS := 0#64,
    SWAP_COUNT := 0#32,
    TAKEOVER_COUNT := 0#32,
    DIVERGE_COUNT := 0#32,
    LAST_DIVERGE_BLOCK := 0#32,
    LINK_LOAD_PM := 0#32,
    LINK_CRC_ERR := 0#16,
    QUARANTINE_COUNT := 0#16 }

/-- Its fields from the lowest bit up, each with its width; reserved fields are 0, and the fields that report a state held elsewhere are given. -/
def PairStat.fields (x : PairStat) (ROLE : Nat) (PEER_ROLE : Nat) (LINK_UP : Nat) (PEER_OK_IN : Nat) (ROLE_OUT : Nat) (SWAP_PENDING : Nat) (EPOCH : Nat) (PEER_EPOCH : Nat) : List (Nat × Nat) :=
  [(3, ROLE), (3, PEER_ROLE), (1, LINK_UP), (1, PEER_OK_IN), (1, ROLE_OUT), (1, x.PATH_FAULT.toNat), (1, x.PEER_OK_FAULT.toNat), (1, SWAP_PENDING), (1, x.SWAP_POSTPONED.toNat), (1, x.YIELD_FAULT.toNat), (1, x.DIVERGE_FAULT.toNat), (1, x.WITNESS_LOST.toNat), (1, x.RETAIN_SYNCED.toNat), (1, x.LANE_DOWN.toNat), (14, 0), (8, x.SYNC_PCT.toNat), (24, 0), (64, EPOCH), (64, PEER_EPOCH), (64, x.LAST_SWAP_TS.toNat), (64, x.NEXT_SWAP_TS.toNat), (32, x.SWAP_COUNT.toNat), (32, x.TAKEOVER_COUNT.toNat), (32, x.DIVERGE_COUNT.toNat), (32, x.LAST_DIVERGE_BLOCK.toNat), (32, x.LINK_LOAD_PM.toNat), (16, x.LINK_CRC_ERR.toNat), (16, x.QUARANTINE_COUNT.toNat)]

/-- Its bytes as the module stores or sends them (R406). -/
def PairStat.toBytes (x : PairStat) (ROLE : Nat) (PEER_ROLE : Nat) (LINK_UP : Nat) (PEER_OK_IN : Nat) (ROLE_OUT : Nat) (SWAP_PENDING : Nat) (EPOCH : Nat) (PEER_EPOCH : Nat) : List Byte := leBytes 64 (pack (x.fields ROLE PEER_ROLE LINK_UP PEER_OK_IN ROLE_OUT SWAP_PENDING EPOCH PEER_EPOCH))

/-- The layout as it is read out of a number that holds its bits. -/
def PairStat.ofBits (n : Nat) : PairStat :=
  { PATH_FAULT := bitsAt n 9 1,
    PEER_OK_FAULT := bitsAt n 10 1,
    SWAP_POSTPONED := bitsAt n 12 1,
    YIELD_FAULT := bitsAt n 13 1,
    DIVERGE_FAULT := bitsAt n 14 1,
    WITNESS_LOST := bitsAt n 15 1,
    RETAIN_SYNCED := bitsAt n 16 1,
    LANE_DOWN := bitsAt n 17 1,
    SYNC_PCT := bitsAt n 32 8,
    LAST_SWAP_TS := bitsAt n 192 64,
    NEXT_SWAP_TS := bitsAt n 256 64,
    SWAP_COUNT := bitsAt n 320 32,
    TAKEOVER_COUNT := bitsAt n 352 32,
    DIVERGE_COUNT := bitsAt n 384 32,
    LAST_DIVERGE_BLOCK := bitsAt n 416 32,
    LINK_LOAD_PM := bitsAt n 448 32,
    LINK_CRC_ERR := bitsAt n 480 16,
    QUARANTINE_COUNT := bitsAt n 496 16 }

/-- The layout as the module reads it out of bytes (R406). -/
def PairStat.ofBytes (bs : List Byte) : PairStat := PairStat.ofBits (ofLe bs)

end Sys2Proof.Machine
end

