-- ==== Sys2Proof/Machine/LayoutCore.lean ====
section
/-! DEFINITION. The layouts of the Grotto, the supply, the tasks, the Temper pass and online change (chapters 2 to 6): each a structure with the spec's field
names, its default, its bytes and its reading from bytes. -/

namespace Sys2Proof.Machine

/-- One chamber descriptor, 16 bytes (R51). -/
structure ChamberDesc where
  CHAMBER_ID : BitVec 8  -- 0 to 10, as in the chamber table of R42
  TIER : BitVec 8  -- 0 DRAM, 1 DRAM with MRAM part, 2 MRAM. Fixed; ignored on write
  SCRUB_FIRST : BitVec 1  -- 1: scrub this chamber first in each pass
  CE_RECORD : BitVec 1  -- 1: record every corrected error
  QUOTA_KIB : BitVec 32  -- DRAM quota in KiB
  BASE_KIB : BitVec 32  -- Offset within the shared DRAM; ignored on write
  CE_LIMIT : BitVec 16  -- Corrections per sliding hour before GROTTO_DEGRADED; 1 to 65535
  deriving DecidableEq, Repr

/-- The layout's default (R51). -/
def ChamberDesc.dflt : ChamberDesc :=
  { CHAMBER_ID := 0#8,
    TIER := 0#8,
    SCRUB_FIRST := 0#1,
    CE_RECORD := 0#1,
    QUOTA_KIB := 0#32,
    BASE_KIB := 0#32,
    CE_LIMIT := 16#16 }

/-- Its fields from the lowest bit up, each with its width; reserved fields are 0. -/
def ChamberDesc.fields (x : ChamberDesc) : List (Nat × Nat) :=
  [(8, x.CHAMBER_ID.toNat), (8, x.TIER.toNat), (1, x.SCRUB_FIRST.toNat), (1, x.CE_RECORD.toNat), (14, 0), (32, x.QUOTA_KIB.toNat), (32, x.BASE_KIB.toNat), (16, x.CE_LIMIT.toNat), (16, 0)]

/-- Its bytes as the module stores or sends them (R51). -/
def ChamberDesc.toBytes (x : ChamberDesc) : List Byte := leBytes 16 (pack (x.fields))

/-- The layout as it is read out of a number that holds its bits. -/
def ChamberDesc.ofBits (n : Nat) : ChamberDesc :=
  { CHAMBER_ID := bitsAt n 0 8,
    TIER := bitsAt n 8 8,
    SCRUB_FIRST := bitsAt n 16 1,
    CE_RECORD := bitsAt n 17 1,
    QUOTA_KIB := bitsAt n 32 32,
    BASE_KIB := bitsAt n 64 32,
    CE_LIMIT := bitsAt n 96 16 }

/-- The layout as the module reads it out of bytes (R51). -/
def ChamberDesc.ofBytes (bs : List Byte) : ChamberDesc := ChamberDesc.ofBits (ofLe bs)

/-- The counters of one chamber, at 0x08 + 32·ID of the Grotto status block (R52). -/
structure ChamberStat where
  CE_COUNT : BitVec 32  -- Corrected errors
  UE_COUNT : BitVec 32  -- Uncorrectable errors
  WW_COUNT : BitVec 32  -- Write-write collisions
  WW_LATER : BitVec 8  -- Port of the later grant in the last collision
  WW_EARLIER : BitVec 8  -- Port of the earlier grant in the last collision
  GATE_DISCARD : BitVec 16  -- Writes discarded after gate closure (R36), saturating
  LAST_EVENT_TS : BitVec 64  -- Time of the last counted event
  deriving DecidableEq, Repr

/-- The layout's default (R52). -/
def ChamberStat.dflt : ChamberStat :=
  { CE_COUNT := 0#32,
    UE_COUNT := 0#32,
    WW_COUNT := 0#32,
    WW_LATER := 0#8,
    WW_EARLIER := 0#8,
    GATE_DISCARD := 0#16,
    LAST_EVENT_TS := 0#64 }

/-- Its fields from the lowest bit up, each with its width; reserved fields are 0, and the fields that report a state held elsewhere are given. -/
def ChamberStat.fields (x : ChamberStat) (FILL_KIB : Nat) : List (Nat × Nat) :=
  [(32, x.CE_COUNT.toNat), (32, x.UE_COUNT.toNat), (32, x.WW_COUNT.toNat), (8, x.WW_LATER.toNat), (8, x.WW_EARLIER.toNat), (16, x.GATE_DISCARD.toNat), (64, x.LAST_EVENT_TS.toNat), (32, FILL_KIB), (32, 0)]

/-- Its bytes as the module stores or sends them (R52). -/
def ChamberStat.toBytes (x : ChamberStat) (FILL_KIB : Nat) : List Byte := leBytes 32 (pack (x.fields FILL_KIB))

/-- The layout as it is read out of a number that holds its bits. -/
def ChamberStat.ofBits (n : Nat) : ChamberStat :=
  { CE_COUNT := bitsAt n 0 32,
    UE_COUNT := bitsAt n 32 32,
    WW_COUNT := bitsAt n 64 32,
    WW_LATER := bitsAt n 96 8,
    WW_EARLIER := bitsAt n 104 8,
    GATE_DISCARD := bitsAt n 112 16,
    LAST_EVENT_TS := bitsAt n 128 64 }

/-- The layout as the module reads it out of bytes (R52). -/
def ChamberStat.ofBytes (bs : List Byte) : ChamberStat := ChamberStat.ofBits (ofLe bs)

/-- The budget record, IMAGE 0x0000, 24 bytes (R72). -/
structure BudgetRec where
  HEAT : BitVec 2  -- 0–3 for H0–H3
  ENERGY : BitVec 2  -- 0–3 for E0–E3
  HOLDUP_WEAK : BitVec 1  -- R58
  HOLDUP_READY : BitVec 1  -- R58
  PF_WARN : BitVec 1  -- R60
  FEED_A_OK : BitVec 1  -- VIN_A ≥ 18.0 V
  FEED_B_OK : BitVec 1  -- VIN_B ≥ 18.0 V
  VIN_HIGH : BitVec 1  -- R54
  FIELD_OFF : BitVec 1  -- Energy level E2 or E3: the module has cut the field outputs (R61). Each group record …
  BOOST_LIMITED : BitVec 1  -- Boost input limited (R63)
  VIN_UNKNOWN : BitVec 1  -- R55
  THERM_SENSOR_FAULT : BitVec 1  -- R71
  SWAP_REQ : BitVec 1  -- R70
  SEQ : BitVec 8  -- Increments at each publication, wrapping
  DIE_T : BitVec 16  -- Die temperature, 1/16 °C
  SINK_T : BitVec 16  -- Heat-sink temperature, 1/16 °C
  VIN_MV : BitVec 16  -- VIN, mV
  BOOST_MA : BitVec 16  -- Boost load, mA
  HOLDUP_MJ : BitVec 16  -- Energy above 8.0 V, mJ (R57)
  E2_US : BitVec 16  -- Time in the present E2, µs, saturating. At E3: the time spent in the E2 that preceded …
  PUBLISH_TS : BitVec 64  -- Time of this publication
  deriving DecidableEq, Repr

/-- The layout's default (R72). -/
def BudgetRec.dflt : BudgetRec :=
  { HEAT := 0#2,
    ENERGY := 0#2,
    HOLDUP_WEAK := 0#1,
    HOLDUP_READY := 0#1,
    PF_WARN := 0#1,
    FEED_A_OK := 0#1,
    FEED_B_OK := 0#1,
    VIN_HIGH := 0#1,
    FIELD_OFF := 0#1,
    BOOST_LIMITED := 0#1,
    VIN_UNKNOWN := 0#1,
    THERM_SENSOR_FAULT := 0#1,
    SWAP_REQ := 0#1,
    SEQ := 0#8,
    DIE_T := 0#16,
    SINK_T := 0#16,
    VIN_MV := 0#16,
    BOOST_MA := 0#16,
    HOLDUP_MJ := 0#16,
    E2_US := 0#16,
    PUBLISH_TS := 0#64 }

/-- Its fields from the lowest bit up, each with its width; reserved fields are 0. -/
def BudgetRec.fields (x : BudgetRec) : List (Nat × Nat) :=
  [(2, x.HEAT.toNat), (2, x.ENERGY.toNat), (1, 0), (1, x.HOLDUP_WEAK.toNat), (1, x.HOLDUP_READY.toNat), (1, x.PF_WARN.toNat), (1, x.FEED_A_OK.toNat), (1, x.FEED_B_OK.toNat), (1, x.VIN_HIGH.toNat), (1, x.FIELD_OFF.toNat), (1, x.BOOST_LIMITED.toNat), (1, x.VIN_UNKNOWN.toNat), (1, x.THERM_SENSOR_FAULT.toNat), (1, x.SWAP_REQ.toNat), (8, 0), (8, x.SEQ.toNat), (16, x.DIE_T.toNat), (16, x.SINK_T.toNat), (16, x.VIN_MV.toNat), (16, x.BOOST_MA.toNat), (16, x.HOLDUP_MJ.toNat), (16, x.E2_US.toNat), (64, x.PUBLISH_TS.toNat)]

/-- Its bytes as the module stores or sends them (R72). -/
def BudgetRec.toBytes (x : BudgetRec) : List Byte := leBytes 24 (pack (x.fields))

/-- The layout as it is read out of a number that holds its bits. -/
def BudgetRec.ofBits (n : Nat) : BudgetRec :=
  { HEAT := bitsAt n 0 2,
    ENERGY := bitsAt n 2 2,
    HOLDUP_WEAK := bitsAt n 5 1,
    HOLDUP_READY := bitsAt n 6 1,
    PF_WARN := bitsAt n 7 1,
    FEED_A_OK := bitsAt n 8 1,
    FEED_B_OK := bitsAt n 9 1,
    VIN_HIGH := bitsAt n 10 1,
    FIELD_OFF := bitsAt n 11 1,
    BOOST_LIMITED := bitsAt n 12 1,
    VIN_UNKNOWN := bitsAt n 13 1,
    THERM_SENSOR_FAULT := bitsAt n 14 1,
    SWAP_REQ := bitsAt n 15 1,
    SEQ := bitsAt n 24 8,
    DIE_T := bitsAt n 32 16,
    SINK_T := bitsAt n 48 16,
    VIN_MV := bitsAt n 64 16,
    BOOST_MA := bitsAt n 80 16,
    HOLDUP_MJ := bitsAt n 96 16,
    E2_US := bitsAt n 112 16,
    PUBLISH_TS := bitsAt n 128 64 }

/-- The layout as the module reads it out of bytes (R72). -/
def BudgetRec.ofBytes (bs : List Byte) : BudgetRec := BudgetRec.ofBits (ofLe bs)

/-- The power descriptor, 16 bytes (R74). -/
structure PowerDesc where
  FEED_MODE : BitVec 8  -- 0 both feeds expected; 1 VIN_A only; 2 VIN_B only
  H3_SWAP : BitVec 8  -- 1: set SWAP_REQ in H3 (R70); 0: never
  FEED_LOSS_MS : BitVec 16  -- Delay before a feed-loss record, 10 to 60000 ms
  VIN_HIGH_MV : BitVec 16  -- Threshold for VIN_HIGH, 28000 to 32000 mV
  deriving DecidableEq, Repr

/-- The layout's default (R74). -/
def PowerDesc.dflt : PowerDesc :=
  { FEED_MODE := 0#8,
    H3_SWAP := 1#8,
    FEED_LOSS_MS := 500#16,
    VIN_HIGH_MV := 0x7D00#16 }

/-- Its fields from the lowest bit up, each with its width; reserved fields are 0. -/
def PowerDesc.fields (x : PowerDesc) : List (Nat × Nat) :=
  [(8, x.FEED_MODE.toNat), (8, x.H3_SWAP.toNat), (16, x.FEED_LOSS_MS.toNat), (16, x.VIN_HIGH_MV.toNat), (16, 0), (64, 0)]

/-- Its bytes as the module stores or sends them (R74). -/
def PowerDesc.toBytes (x : PowerDesc) : List Byte := leBytes 16 (pack (x.fields))

/-- The layout as it is read out of a number that holds its bits. -/
def PowerDesc.ofBits (n : Nat) : PowerDesc :=
  { FEED_MODE := bitsAt n 0 8,
    H3_SWAP := bitsAt n 8 8,
    FEED_LOSS_MS := bitsAt n 16 16,
    VIN_HIGH_MV := bitsAt n 32 16 }

/-- The layout as the module reads it out of bytes (R74). -/
def PowerDesc.ofBytes (bs : List Byte) : PowerDesc := PowerDesc.ofBits (ofLe bs)

/-- The power status block from byte 0x18 on: sticky bits, counters, extremes (R75). -/
structure PowerStat where
  E1_SEEN : BitVec 1  -- Sticky
  E2_SEEN : BitVec 1  -- Sticky
  FEED_A_LOST_SEEN : BitVec 1  -- Sticky
  FEED_B_LOST_SEEN : BitVec 1  -- Sticky
  SENSOR_FAULT_SEEN : BitVec 1  -- Sticky
  VIN_HIGH_SEEN : BitVec 1  -- Sticky
  HOLDUP_CAP : BitVec 16  -- Store capacitance at last power-up, 10 µF units
  MIN_VIN_MV : BitVec 16  -- Lowest VIN since clear, mV
  E1_COUNT : BitVec 32  -- Entries to E1, including rises that pass over E1 (R60); never a fall from E2
  E2_COUNT : BitVec 32  -- Entries to E2, including rises that pass over E2 (R60)
  E3_COUNT : BitVec 32  -- Entries to E3, held in MRAM, never cleared
  LAST_E2_US : BitVec 32  -- Duration of the last E2, µs
  MAX_DIE_T : BitVec 16  -- Highest die temperature since clear, 1/16 °C
  MAX_SINK_T : BitVec 16  -- Highest heat-sink temperature since clear, 1/16 °C
  H1_SECONDS : BitVec 32  -- Time at H1 or above, s
  H2_SECONDS : BitVec 32  -- Time at H2 or above, s
  H3_SECONDS : BitVec 32  -- Time at H3, s
  deriving DecidableEq, Repr

/-- The layout's default (R75). -/
def PowerStat.dflt : PowerStat :=
  { E1_SEEN := 0#1,
    E2_SEEN := 0#1,
    FEED_A_LOST_SEEN := 0#1,
    FEED_B_LOST_SEEN := 0#1,
    SENSOR_FAULT_SEEN := 0#1,
    VIN_HIGH_SEEN := 0#1,
    HOLDUP_CAP := 0#16,
    MIN_VIN_MV := 0#16,
    E1_COUNT := 0#32,
    E2_COUNT := 0#32,
    E3_COUNT := 0#32,
    LAST_E2_US := 0#32,
    MAX_DIE_T := 0#16,
    MAX_SINK_T := 0#16,
    H1_SECONDS := 0#32,
    H2_SECONDS := 0#32,
    H3_SECONDS := 0#32 }

/-- Its fields from the lowest bit up, each with its width; reserved fields are 0. -/
def PowerStat.fields (x : PowerStat) : List (Nat × Nat) :=
  [(1, x.E1_SEEN.toNat), (1, x.E2_SEEN.toNat), (1, x.FEED_A_LOST_SEEN.toNat), (1, x.FEED_B_LOST_SEEN.toNat), (1, x.SENSOR_FAULT_SEEN.toNat), (1, x.VIN_HIGH_SEEN.toNat), (26, 0), (16, x.HOLDUP_CAP.toNat), (16, x.MIN_VIN_MV.toNat), (32, x.E1_COUNT.toNat), (32, x.E2_COUNT.toNat), (32, x.E3_COUNT.toNat), (32, x.LAST_E2_US.toNat), (16, x.MAX_DIE_T.toNat), (16, x.MAX_SINK_T.toNat), (32, x.H1_SECONDS.toNat), (32, x.H2_SECONDS.toNat), (32, x.H3_SECONDS.toNat)]

/-- Its bytes as the module stores or sends them (R75). -/
def PowerStat.toBytes (x : PowerStat) : List Byte := leBytes 40 (pack (x.fields))

/-- The layout as it is read out of a number that holds its bits. -/
def PowerStat.ofBits (n : Nat) : PowerStat :=
  { E1_SEEN := bitsAt n 0 1,
    E2_SEEN := bitsAt n 1 1,
    FEED_A_LOST_SEEN := bitsAt n 2 1,
    FEED_B_LOST_SEEN := bitsAt n 3 1,
    SENSOR_FAULT_SEEN := bitsAt n 4 1,
    VIN_HIGH_SEEN := bitsAt n 5 1,
    HOLDUP_CAP := bitsAt n 32 16,
    MIN_VIN_MV := bitsAt n 48 16,
    E1_COUNT := bitsAt n 64 32,
    E2_COUNT := bitsAt n 96 32,
    E3_COUNT := bitsAt n 128 32,
    LAST_E2_US := bitsAt n 160 32,
    MAX_DIE_T := bitsAt n 192 16,
    MAX_SINK_T := bitsAt n 208 16,
    H1_SECONDS := bitsAt n 224 32,
    H2_SECONDS := bitsAt n 256 32,
    H3_SECONDS := bitsAt n 288 32 }

/-- The layout as the module reads it out of bytes (R75). -/
def PowerStat.ofBytes (bs : List Byte) : PowerStat := PowerStat.ofBits (ofLe bs)

/-- The task descriptor, 32 bytes (R102). -/
structure TaskDesc where
  TASK_ID : BitVec 8  -- 0 to 127
  KIND : BitVec 8  -- 0 unused, 1 cyclic, 2 event
  PRIORITY : BitVec 8  -- 0 to 31
  SAFETY : BitVec 1  -- 1: safety class, run with the Temper pass
  OVR_ABANDON : BitVec 1  -- 1: overrun rule of R91; 0: R90
  FAILOVER_ON_FAULT : BitVec 1  -- 1: a task fault requests failover (R92)
  PERIOD_US : BitVec 32  -- 100 to 10,000,000, multiple of 10; cyclic only
  PHASE_US : BitVec 32  -- 0 to PERIOD_US − 10, multiple of 10
  LANE_MASK : BitVec 4  -- Bit n: lane ELn allowed
  TRIG_SRC : BitVec 8  -- 1 to 6 (R88); event only
  TRIG_ARG : BitVec 16  -- As in R88
  WCET_US : BitVec 32  -- Worst-case execution time of one pass, declared by the Workbench
  OVERRUN_LIMIT : BitVec 8  -- 1 to 255
  MIN_GAP_US : BitVec 16  -- 10 to 65535; event only
  EVT_LIMIT_US : BitVec 32  -- 10 to 10,000,000; event only
  deriving DecidableEq, Repr

/-- The layout's default (R102). -/
def TaskDesc.dflt : TaskDesc :=
  { TASK_ID := 0#8,
    KIND := 0#8,
    PRIORITY := 16#8,
    SAFETY := 0#1,
    OVR_ABANDON := 0#1,
    FAILOVER_ON_FAULT := 0#1,
    PERIOD_US := 0x2710#32,
    PHASE_US := 0#32,
    LANE_MASK := 15#4,
    TRIG_SRC := 0#8,
    TRIG_ARG := 0#16,
    WCET_US := 0#32,
    OVERRUN_LIMIT := 3#8,
    MIN_GAP_US := 1000#16,
    EVT_LIMIT_US := 0x2710#32 }

/-- Its fields from the lowest bit up, each with its width; reserved fields are 0. -/
def TaskDesc.fields (x : TaskDesc) : List (Nat × Nat) :=
  [(8, x.TASK_ID.toNat), (8, x.KIND.toNat), (8, x.PRIORITY.toNat), (1, x.SAFETY.toNat), (1, x.OVR_ABANDON.toNat), (1, x.FAILOVER_ON_FAULT.toNat), (5, 0), (32, x.PERIOD_US.toNat), (32, x.PHASE_US.toNat), (4, x.LANE_MASK.toNat), (4, 0), (8, x.TRIG_SRC.toNat), (16, x.TRIG_ARG.toNat), (32, x.WCET_US.toNat), (8, x.OVERRUN_LIMIT.toNat), (8, 0), (16, x.MIN_GAP_US.toNat), (32, x.EVT_LIMIT_US.toNat), (32, 0)]

/-- Its bytes as the module stores or sends them (R102). -/
def TaskDesc.toBytes (x : TaskDesc) : List Byte := leBytes 32 (pack (x.fields))

/-- The layout as it is read out of a number that holds its bits. -/
def TaskDesc.ofBits (n : Nat) : TaskDesc :=
  { TASK_ID := bitsAt n 0 8,
    KIND := bitsAt n 8 8,
    PRIORITY := bitsAt n 16 8,
    SAFETY := bitsAt n 24 1,
    OVR_ABANDON := bitsAt n 25 1,
    FAILOVER_ON_FAULT := bitsAt n 26 1,
    PERIOD_US := bitsAt n 32 32,
    PHASE_US := bitsAt n 64 32,
    LANE_MASK := bitsAt n 96 4,
    TRIG_SRC := bitsAt n 104 8,
    TRIG_ARG := bitsAt n 112 16,
    WCET_US := bitsAt n 128 32,
    OVERRUN_LIMIT := bitsAt n 160 8,
    MIN_GAP_US := bitsAt n 176 16,
    EVT_LIMIT_US := bitsAt n 192 32 }

/-- The layout as the module reads it out of bytes (R102). -/
def TaskDesc.ofBytes (bs : List Byte) : TaskDesc := TaskDesc.ofBits (ofLe bs)

/-- The task status, 32 bytes (R103). -/
structure TaskStat where
  LANE : BitVec 2  -- Lane that last ran the task
  DEBUG_HALT : BitVec 1  -- Halted at a breakpoint or between steps (R130)
  HELD : BitVec 1  -- Held by the ladder (R96)
  STRETCHED : BitVec 1  -- R98
  OVERRUN : BitVec 1  -- Current cycle has passed its boundary
  ABANDONED : BitVec 1  -- Last cycle abandoned (R91)
  FAULT : BitVec 1  -- Task fault (R92)
  MEMFAULT : BitVec 1  -- Task fault was a memory fault
  UNDELIVERED : BitVec 1  -- An output of the last commit was not delivered (R100)
  CYCLE_COUNT : BitVec 32  -- Commits made
  OVERRUN_COUNT : BitVec 32  -- Overruns
  HELD_COUNT : BitVec 32  -- Boundaries passed while held; for an event task, triggers that arrived while held (R96)
  EXEC_US_LAST : BitVec 32  -- Execution time of the last cycle, µs
  EXEC_US_MAX : BitVec 32  -- Longest execution time since clear, µs
  EVT_COALESCED : BitVec 16  -- Lost triggers (R89)
  UNDELIVERED_COUNT : BitVec 16  -- Undelivered commits
  deriving DecidableEq, Repr

/-- The layout's default (R103). -/
def TaskStat.dflt : TaskStat :=
  { LANE := 0#2,
    DEBUG_HALT := 0#1,
    HELD := 0#1,
    STRETCHED := 0#1,
    OVERRUN := 0#1,
    ABANDONED := 0#1,
    FAULT := 0#1,
    MEMFAULT := 0#1,
    UNDELIVERED := 0#1,
    CYCLE_COUNT := 0#32,
    OVERRUN_COUNT := 0#32,
    HELD_COUNT := 0#32,
    EXEC_US_LAST := 0#32,
    EXEC_US_MAX := 0#32,
    EVT_COALESCED := 0#16,
    UNDELIVERED_COUNT := 0#16 }

/-- Its fields from the lowest bit up, each with its width; reserved fields are 0, and the fields that report a state held elsewhere are given. -/
def TaskStat.fields (x : TaskStat) (STATE : Nat) (ACTUAL_PERIOD_US : Nat) : List (Nat × Nat) :=
  [(2, x.LANE.toNat), (2, STATE), (1, x.DEBUG_HALT.toNat), (1, x.HELD.toNat), (1, x.STRETCHED.toNat), (1, x.OVERRUN.toNat), (1, x.ABANDONED.toNat), (1, x.FAULT.toNat), (1, x.MEMFAULT.toNat), (1, x.UNDELIVERED.toNat), (20, 0), (32, ACTUAL_PERIOD_US), (32, x.CYCLE_COUNT.toNat), (32, x.OVERRUN_COUNT.toNat), (32, x.HELD_COUNT.toNat), (32, x.EXEC_US_LAST.toNat), (32, x.EXEC_US_MAX.toNat), (16, x.EVT_COALESCED.toNat), (16, x.UNDELIVERED_COUNT.toNat)]

/-- Its bytes as the module stores or sends them (R103). -/
def TaskStat.toBytes (x : TaskStat) (STATE : Nat) (ACTUAL_PERIOD_US : Nat) : List Byte := leBytes 32 (pack (x.fields STATE ACTUAL_PERIOD_US))

/-- The layout as it is read out of a number that holds its bits. -/
def TaskStat.ofBits (n : Nat) : TaskStat :=
  { LANE := bitsAt n 0 2,
    DEBUG_HALT := bitsAt n 4 1,
    HELD := bitsAt n 5 1,
    STRETCHED := bitsAt n 6 1,
    OVERRUN := bitsAt n 7 1,
    ABANDONED := bitsAt n 8 1,
    FAULT := bitsAt n 9 1,
    MEMFAULT := bitsAt n 10 1,
    UNDELIVERED := bitsAt n 11 1,
    CYCLE_COUNT := bitsAt n 64 32,
    OVERRUN_COUNT := bitsAt n 96 32,
    HELD_COUNT := bitsAt n 128 32,
    EXEC_US_LAST := bitsAt n 160 32,
    EXEC_US_MAX := bitsAt n 192 32,
    EVT_COALESCED := bitsAt n 224 16,
    UNDELIVERED_COUNT := bitsAt n 240 16 }

/-- The layout as the module reads it out of bytes (R103). -/
def TaskStat.ofBytes (bs : List Byte) : TaskStat := TaskStat.ofBits (ofLe bs)

/-- The remote descriptor, 16 bytes (R104). -/
structure RemoteDesc where
  STATION_ADDR : BitVec 16  -- 0 to 1023, the ADDR strap value of the remote module
  PRODUCE_US : BitVec 32  -- Expected interval of the station's data, 100 to 10,000,000
  ABSENT_US : BitVec 32  -- PRODUCE_US to 60,000,000; 0 means 3 × PRODUCE_US
  WATCHDOG_US : BitVec 32  -- Sent to the station; 0 means the station's own default
  deriving DecidableEq, Repr

/-- The layout's default (R104). -/
def RemoteDesc.dflt : RemoteDesc :=
  { STATION_ADDR := 0#16,
    PRODUCE_US := 0x2710#32,
    ABSENT_US := 0#32,
    WATCHDOG_US := 0#32 }

/-- Its fields from the lowest bit up, each with its width; reserved fields are 0. -/
def RemoteDesc.fields (x : RemoteDesc) : List (Nat × Nat) :=
  [(16, x.STATION_ADDR.toNat), (16, 0), (32, x.PRODUCE_US.toNat), (32, x.ABSENT_US.toNat), (32, x.WATCHDOG_US.toNat)]

/-- Its bytes as the module stores or sends them (R104). -/
def RemoteDesc.toBytes (x : RemoteDesc) : List Byte := leBytes 16 (pack (x.fields))

/-- The layout as it is read out of a number that holds its bits. -/
def RemoteDesc.ofBits (n : Nat) : RemoteDesc :=
  { STATION_ADDR := bitsAt n 0 16,
    PRODUCE_US := bitsAt n 32 32,
    ABSENT_US := bitsAt n 64 32,
    WATCHDOG_US := bitsAt n 96 32 }

/-- The layout as the module reads it out of bytes (R104). -/
def RemoteDesc.ofBytes (bs : List Byte) : RemoteDesc := RemoteDesc.ofBits (ofLe bs)

/-- The remote status, 16 bytes (R104). -/
structure RemoteStat where
  ABSENT_COUNT : BitVec 32  -- Entries to ABSENT
  LAST_RX_TS : BitVec 64  -- Receive time of the last valid frame
  deriving DecidableEq, Repr

/-- The layout's default (R104). -/
def RemoteStat.dflt : RemoteStat :=
  { ABSENT_COUNT := 0#32,
    LAST_RX_TS := 0#64 }

/-- Its fields from the lowest bit up, each with its width; reserved fields are 0, and the fields that report a state held elsewhere are given. -/
def RemoteStat.fields (x : RemoteStat) (STATE : Nat) : List (Nat × Nat) :=
  [(8, STATE), (8, 0), (16, 0), (32, x.ABSENT_COUNT.toNat), (64, x.LAST_RX_TS.toNat)]

/-- Its bytes as the module stores or sends them (R104). -/
def RemoteStat.toBytes (x : RemoteStat) (STATE : Nat) : List Byte := leBytes 16 (pack (x.fields STATE))

/-- The layout as it is read out of a number that holds its bits. -/
def RemoteStat.ofBits (n : Nat) : RemoteStat :=
  { ABSENT_COUNT := bitsAt n 32 32,
    LAST_RX_TS := bitsAt n 64 64 }

/-- The layout as the module reads it out of bytes (R104). -/
def RemoteStat.ofBytes (bs : List Byte) : RemoteStat := RemoteStat.ofBits (ofLe bs)

/-- The variable request, 16 bytes (R129). -/
structure VarReq where
  HANDLE : BitVec 32  -- Variable handle from the Workbench
  SIZE : BitVec 8  -- 1, 2, 4 or 8 bytes
  VALUE : BitVec 64  -- Write only: new value, low SIZE bytes used
  deriving DecidableEq, Repr

/-- The layout's default (R129). -/
def VarReq.dflt : VarReq :=
  { HANDLE := 0#32,
    SIZE := 0#8,
    VALUE := 0#64 }

/-- Its fields from the lowest bit up, each with its width; reserved fields are 0. -/
def VarReq.fields (x : VarReq) : List (Nat × Nat) :=
  [(32, x.HANDLE.toNat), (8, x.SIZE.toNat), (24, 0), (64, x.VALUE.toNat)]

/-- Its bytes as the module stores or sends them (R129). -/
def VarReq.toBytes (x : VarReq) : List Byte := leBytes 16 (pack (x.fields))

/-- The layout as it is read out of a number that holds its bits. -/
def VarReq.ofBits (n : Nat) : VarReq :=
  { HANDLE := bitsAt n 0 32,
    SIZE := bitsAt n 32 8,
    VALUE := bitsAt n 64 64 }

/-- The layout as the module reads it out of bytes (R129). -/
def VarReq.ofBytes (bs : List Byte) : VarReq := VarReq.ofBits (ofLe bs)

/-- The value reply, 16 bytes (R129). -/
structure ValReply where
  VALUE : BitVec 64  -- Value read, low SIZE bytes used
  QUAL : BitVec 4  -- Quality nibble of an IMAGE value (R9); 0 for TASK and RETAIN
  deriving DecidableEq, Repr

/-- The layout's default (R129). -/
def ValReply.dflt : ValReply :=
  { VALUE := 0#64,
    QUAL := 0#4 }

/-- Its fields from the lowest bit up, each with its width; reserved fields are 0. -/
def ValReply.fields (x : ValReply) : List (Nat × Nat) :=
  [(64, x.VALUE.toNat), (4, 0), (4, x.QUAL.toNat), (56, 0)]

/-- Its bytes as the module stores or sends them (R129). -/
def ValReply.toBytes (x : ValReply) : List Byte := leBytes 16 (pack (x.fields))

/-- The layout as it is read out of a number that holds its bits. -/
def ValReply.ofBits (n : Nat) : ValReply :=
  { VALUE := bitsAt n 0 64,
    QUAL := bitsAt n 68 4 }

/-- The layout as the module reads it out of bytes (R129). -/
def ValReply.ofBytes (bs : List Byte) : ValReply := ValReply.ofBits (ofLe bs)

/-- One breakpoint entry, 8 bytes (R131). -/
structure BreakEntry where
  TASK_ID : BitVec 8  -- Task of the breakpoint; 0xFF free
  STATE : BitVec 8  -- 0 free, 1 armed, 2 hit: a task is halted at it
  HIT_COUNT : BitVec 16  -- Hits since the breakpoint was set, saturating
  CODE_OFS : BitVec 32  -- Offset of the instruction in the task's code
  deriving DecidableEq, Repr

/-- The layout's default (R131). -/
def BreakEntry.dflt : BreakEntry :=
  { TASK_ID := 255#8,
    STATE := 0#8,
    HIT_COUNT := 0#16,
    CODE_OFS := 0#32 }

/-- Its fields from the lowest bit up, each with its width; reserved fields are 0. -/
def BreakEntry.fields (x : BreakEntry) : List (Nat × Nat) :=
  [(8, x.TASK_ID.toNat), (8, x.STATE.toNat), (16, x.HIT_COUNT.toNat), (32, x.CODE_OFS.toNat)]

/-- Its bytes as the module stores or sends them (R131). -/
def BreakEntry.toBytes (x : BreakEntry) : List Byte := leBytes 8 (pack (x.fields))

/-- The layout as it is read out of a number that holds its bits. -/
def BreakEntry.ofBits (n : Nat) : BreakEntry :=
  { TASK_ID := bitsAt n 0 8,
    STATE := bitsAt n 8 8,
    HIT_COUNT := bitsAt n 16 16,
    CODE_OFS := bitsAt n 32 32 }

/-- The layout as the module reads it out of bytes (R131). -/
def BreakEntry.ofBytes (bs : List Byte) : BreakEntry := BreakEntry.ofBits (ofLe bs)

/-- The lane status, 16 bytes (R133). -/
structure LaneStat where
  SPLIT : BitVec 1  -- Lane is split
  SPLIT_PENDING : BitVec 1  -- R124
  JOIN_PENDING : BitVec 1  -- R125
  LANE_FAULT : BitVec 1  -- Lane out of service (R121)
  SPLIT_COUNT : BitVec 32  -- Splits taken effect since restart
  LANE_MISMATCH_COUNT : BitVec 32  -- Mismatches of all tasks on this lane
  deriving DecidableEq, Repr

/-- The layout's default (R133). -/
def LaneStat.dflt : LaneStat :=
  { SPLIT := 0#1,
    SPLIT_PENDING := 0#1,
    JOIN_PENDING := 0#1,
    LANE_FAULT := 0#1,
    SPLIT_COUNT := 0#32,
    LANE_MISMATCH_COUNT := 0#32 }

/-- Its fields from the lowest bit up, each with its width; reserved fields are 0, and the fields that report a state held elsewhere are given. -/
def LaneStat.fields (x : LaneStat) (SAFETY_ACTIVE : Nat) (STREAM0_TASK : Nat) (STREAM1_TASK : Nat) : List (Nat × Nat) :=
  [(1, x.SPLIT.toNat), (1, x.SPLIT_PENDING.toNat), (1, x.JOIN_PENDING.toNat), (1, x.LANE_FAULT.toNat), (1, SAFETY_ACTIVE), (27, 0), (32, x.SPLIT_COUNT.toNat), (32, x.LANE_MISMATCH_COUNT.toNat), (8, STREAM0_TASK), (8, STREAM1_TASK), (16, 0)]

/-- Its bytes as the module stores or sends them (R133). -/
def LaneStat.toBytes (x : LaneStat) (SAFETY_ACTIVE : Nat) (STREAM0_TASK : Nat) (STREAM1_TASK : Nat) : List Byte := leBytes 16 (pack (x.fields SAFETY_ACTIVE STREAM0_TASK STREAM1_TASK))

/-- The layout as it is read out of a number that holds its bits. -/
def LaneStat.ofBits (n : Nat) : LaneStat :=
  { SPLIT := bitsAt n 0 1,
    SPLIT_PENDING := bitsAt n 1 1,
    JOIN_PENDING := bitsAt n 2 1,
    LANE_FAULT := bitsAt n 3 1,
    SPLIT_COUNT := bitsAt n 32 32,
    LANE_MISMATCH_COUNT := bitsAt n 64 32 }

/-- The layout as the module reads it out of bytes (R133). -/
def LaneStat.ofBytes (bs : List Byte) : LaneStat := LaneStat.ofBits (ofLe bs)

/-- The Temper status, 32 bytes (R134). -/
structure TemperStat where
  LAST_CP : BitVec 3  -- Commit-point code of the last mismatch (R113); 0 none
  REEXEC_LAST : BitVec 1  -- The last mismatch ended in re-execution
  HELD_LAST : BitVec 1  -- The last mismatch ended in a hold
  UNDO_OVERFLOW : BitVec 1  -- Set in the current or last cycle (R117)
  LANE_FAULTED : BitVec 1  -- The task caused a lane fault (R121)
  MISMATCH_COUNT : BitVec 32  -- Mismatches
  REEXEC_COUNT : BitVec 32  -- Re-executions
  HOLD_COUNT : BitVec 32  -- Holds
  RANGE_ESCAPE_COUNT : BitVec 32  -- R112
  UNDO_LINES_MAX : BitVec 16  -- Largest undo-log fill of either pass, lines
  LAST_MISMATCH_TS : BitVec 64  -- Time of the last mismatch
  deriving DecidableEq, Repr

/-- The layout's default (R134). -/
def TemperStat.dflt : TemperStat :=
  { LAST_CP := 0#3,
    REEXEC_LAST := 0#1,
    HELD_LAST := 0#1,
    UNDO_OVERFLOW := 0#1,
    LANE_FAULTED := 0#1,
    MISMATCH_COUNT := 0#32,
    REEXEC_COUNT := 0#32,
    HOLD_COUNT := 0#32,
    RANGE_ESCAPE_COUNT := 0#32,
    UNDO_LINES_MAX := 0#16,
    LAST_MISMATCH_TS := 0#64 }

/-- Its fields from the lowest bit up, each with its width; reserved fields are 0. -/
def TemperStat.fields (x : TemperStat) : List (Nat × Nat) :=
  [(3, x.LAST_CP.toNat), (1, 0), (1, x.REEXEC_LAST.toNat), (1, x.HELD_LAST.toNat), (1, x.UNDO_OVERFLOW.toNat), (1, x.LANE_FAULTED.toNat), (24, 0), (32, x.MISMATCH_COUNT.toNat), (32, x.REEXEC_COUNT.toNat), (32, x.HOLD_COUNT.toNat), (32, x.RANGE_ESCAPE_COUNT.toNat), (16, x.UNDO_LINES_MAX.toNat), (16, 0), (64, x.LAST_MISMATCH_TS.toNat)]

/-- Its bytes as the module stores or sends them (R134). -/
def TemperStat.toBytes (x : TemperStat) : List Byte := leBytes 32 (pack (x.fields))

/-- The layout as it is read out of a number that holds its bits. -/
def TemperStat.ofBits (n : Nat) : TemperStat :=
  { LAST_CP := bitsAt n 0 3,
    REEXEC_LAST := bitsAt n 4 1,
    HELD_LAST := bitsAt n 5 1,
    UNDO_OVERFLOW := bitsAt n 6 1,
    LANE_FAULTED := bitsAt n 7 1,
    MISMATCH_COUNT := bitsAt n 32 32,
    REEXEC_COUNT := bitsAt n 64 32,
    HOLD_COUNT := bitsAt n 96 32,
    RANGE_ESCAPE_COUNT := bitsAt n 128 32,
    UNDO_LINES_MAX := bitsAt n 160 16,
    LAST_MISMATCH_TS := bitsAt n 192 64 }

/-- The layout as the module reads it out of bytes (R134). -/
def TemperStat.ofBytes (bs : List Byte) : TemperStat := TemperStat.ofBits (ofLe bs)

/-- The force request, 16 bytes (R150). -/
structure ForceReq where
  HANDLE : BitVec 32  -- Variable handle from the Workbench
  SIZE : BitVec 8  -- 1, 2, 4 or 8 bytes
  VALUE : BitVec 64  -- Forced value, low SIZE bytes used
  deriving DecidableEq, Repr

/-- The layout's default (R150). -/
def ForceReq.dflt : ForceReq :=
  { HANDLE := 0#32,
    SIZE := 0#8,
    VALUE := 0#64 }

/-- Its fields from the lowest bit up, each with its width; reserved fields are 0. -/
def ForceReq.fields (x : ForceReq) : List (Nat × Nat) :=
  [(32, x.HANDLE.toNat), (8, x.SIZE.toNat), (8, 0), (16, 0), (64, x.VALUE.toNat)]

/-- Its bytes as the module stores or sends them (R150). -/
def ForceReq.toBytes (x : ForceReq) : List Byte := leBytes 16 (pack (x.fields))

/-- The layout as it is read out of a number that holds its bits. -/
def ForceReq.ofBits (n : Nat) : ForceReq :=
  { HANDLE := bitsAt n 0 32,
    SIZE := bitsAt n 32 8,
    VALUE := bitsAt n 64 64 }

/-- The layout as the module reads it out of bytes (R150). -/
def ForceReq.ofBytes (bs : List Byte) : ForceReq := ForceReq.ofBits (ofLe bs)

/-- A force entry, 32 bytes (R151). -/
structure ForceEntry where
  HANDLE : BitVec 32  -- Variable handle
  OWNER : BitVec 8  -- Session 0 to 16; 0xFF none
  SAFETY_READ : BitVec 1  -- A safety-class task reads the value
  SIZE : BitVec 8  -- As in R150
  VALUE : BitVec 64  -- Forced value
  UNDERLYING : BitVec 64  -- Last value written by the writer
  SET_TS : BitVec 64  -- Receipt time-stamp of the winning request
  deriving DecidableEq, Repr

/-- The layout's default (R151). -/
def ForceEntry.dflt : ForceEntry :=
  { HANDLE := 0#32,
    OWNER := 255#8,
    SAFETY_READ := 0#1,
    SIZE := 0#8,
    VALUE := 0#64,
    UNDERLYING := 0#64,
    SET_TS := 0#64 }

/-- Its fields from the lowest bit up, each with its width; reserved fields are 0. -/
def ForceEntry.fields (x : ForceEntry) : List (Nat × Nat) :=
  [(32, x.HANDLE.toNat), (8, x.OWNER.toNat), (1, x.SAFETY_READ.toNat), (7, 0), (8, x.SIZE.toNat), (8, 0), (64, x.VALUE.toNat), (64, x.UNDERLYING.toNat), (64, x.SET_TS.toNat)]

/-- Its bytes as the module stores or sends them (R151). -/
def ForceEntry.toBytes (x : ForceEntry) : List Byte := leBytes 32 (pack (x.fields))

/-- The layout as it is read out of a number that holds its bits. -/
def ForceEntry.ofBits (n : Nat) : ForceEntry :=
  { HANDLE := bitsAt n 0 32,
    OWNER := bitsAt n 32 8,
    SAFETY_READ := bitsAt n 40 1,
    SIZE := bitsAt n 48 8,
    VALUE := bitsAt n 64 64,
    UNDERLYING := bitsAt n 128 64,
    SET_TS := bitsAt n 192 64 }

/-- The layout as the module reads it out of bytes (R151). -/
def ForceEntry.ofBytes (bs : List Byte) : ForceEntry := ForceEntry.ofBits (ofLe bs)

/-- The change status, 16 bytes (R152). -/
structure ChangeStat where
  STATE : BitVec 8  -- 0 none, 1 loading, 2 accepted and switching, 3 complete
  SESSION : BitVec 8  -- Session holding the change
  BYTES_LOADED : BitVec 32  -- Package bytes received
  ACCEPT_TS : BitVec 64  -- Time of acceptance
  deriving DecidableEq, Repr

/-- The layout's default (R152). -/
def ChangeStat.dflt : ChangeStat :=
  { STATE := 0#8,
    SESSION := 255#8,
    BYTES_LOADED := 0#32,
    ACCEPT_TS := 0#64 }

/-- Its fields from the lowest bit up, each with its width; reserved fields are 0, and the fields that report a state held elsewhere are given. -/
def ChangeStat.fields (x : ChangeStat) (PENDING_TASKS : Nat) : List (Nat × Nat) :=
  [(8, x.STATE.toNat), (8, x.SESSION.toNat), (16, PENDING_TASKS), (32, x.BYTES_LOADED.toNat), (64, x.ACCEPT_TS.toNat)]

/-- Its bytes as the module stores or sends them (R152). -/
def ChangeStat.toBytes (x : ChangeStat) (PENDING_TASKS : Nat) : List Byte := leBytes 16 (pack (x.fields PENDING_TASKS))

/-- The layout as it is read out of a number that holds its bits. -/
def ChangeStat.ofBits (n : Nat) : ChangeStat :=
  { STATE := bitsAt n 0 8,
    SESSION := bitsAt n 8 8,
    BYTES_LOADED := bitsAt n 32 32,
    ACCEPT_TS := bitsAt n 64 64 }

/-- The layout as the module reads it out of bytes (R152). -/
def ChangeStat.ofBytes (bs : List Byte) : ChangeStat := ChangeStat.ofBits (ofLe bs)

end Sys2Proof.Machine
end

