-- ==== Sys2Proof/Machine/LayoutField.lean ====
section
/-! DEFINITION. The layouts of safety, digital, current-loop and motion channels (chapters 10 to 13): each a structure with the spec's field
names, its default, its bytes and its reading from bytes. -/

namespace Sys2Proof.Machine

/-- A pair entry, 8 bytes (R243). -/
structure PairEntry where
  CH_A : BitVec 8  -- DIO channel a
  CH_B : BitVec 8  -- DIO channel b
  KIND : BitVec 8  -- 0 unused, 1 equivalent, 2 antivalent
  TP_A : BitVec 1  -- Channel a fed from TP0
  TP_B : BitVec 1  -- Channel b fed from TP1
  START_TEST : BitVec 1  -- R220
  DISC_MS : BitVec 16  -- 5 to 2000
  FILTER_US : BitVec 16  -- 0 to 20000
  deriving DecidableEq, Repr

/-- The layout's default (R243). -/
def PairEntry.dflt : PairEntry :=
  { CH_A := 0#8,
    CH_B := 0#8,
    KIND := 0#8,
    TP_A := 1#1,
    TP_B := 1#1,
    START_TEST := 1#1,
    DISC_MS := 100#16,
    FILTER_US := 1000#16 }

/-- Its fields from the lowest bit up, each with its width; reserved fields are 0. -/
def PairEntry.fields (x : PairEntry) : List (Nat × Nat) :=
  [(8, x.CH_A.toNat), (8, x.CH_B.toNat), (8, x.KIND.toNat), (1, x.TP_A.toNat), (1, x.TP_B.toNat), (1, x.START_TEST.toNat), (5, 0), (16, x.DISC_MS.toNat), (16, x.FILTER_US.toNat)]

/-- Its bytes as the module stores or sends them (R243). -/
def PairEntry.toBytes (x : PairEntry) : List Byte := leBytes 8 (pack (x.fields))

/-- The layout as it is read out of a number that holds its bits. -/
def PairEntry.ofBits (n : Nat) : PairEntry :=
  { CH_A := bitsAt n 0 8,
    CH_B := bitsAt n 8 8,
    KIND := bitsAt n 16 8,
    TP_A := bitsAt n 24 1,
    TP_B := bitsAt n 25 1,
    START_TEST := bitsAt n 26 1,
    DISC_MS := bitsAt n 32 16,
    FILTER_US := bitsAt n 48 16 }

/-- The layout as the module reads it out of bytes (R243). -/
def PairEntry.ofBytes (bs : List Byte) : PairEntry := PairEntry.ofBits (ofLe bs)

/-- An SO entry, 32 bytes (R244). -/
structure SoEntry where
  FUNCTION : BitVec 8  -- 0 unused, 1 plain, 2 SBC
  PAIR_WIRING : BitVec 8  -- 0 none, 1 pair-parallel, 2 pair-series
  BRAKE_AXIS : BitVec 8  -- Axis entry 0 to 7; SBC only
  BT_OVERDUE_ACTION : BitVec 8  -- 0 alarm, 1 trip the axis
  BT_INTERVAL_H : BitVec 16  -- 1 to 720
  BT_GRACE_H : BitVec 16  -- 0 to 168
  BT_APPLY_MS : BitVec 16  -- 10 to 2000
  BT_HOLD_MS : BitVec 16  -- 100 to 10000
  BT_STEPS : BitVec 32  -- 1 to 65536
  BT_RATE_HZ : BitVec 32  -- 10 to 100000
  BT_TOL : BitVec 32  -- SPU, 1 or more
  deriving DecidableEq, Repr

/-- The layout's default (R244). -/
def SoEntry.dflt : SoEntry :=
  { FUNCTION := 0#8,
    PAIR_WIRING := 0#8,
    BRAKE_AXIS := 0#8,
    BT_OVERDUE_ACTION := 1#8,
    BT_INTERVAL_H := 8#16,
    BT_GRACE_H := 2#16,
    BT_APPLY_MS := 200#16,
    BT_HOLD_MS := 1000#16,
    BT_STEPS := 400#32,
    BT_RATE_HZ := 1000#32,
    BT_TOL := 100#32 }

/-- Its fields from the lowest bit up, each with its width; reserved fields are 0. -/
def SoEntry.fields (x : SoEntry) : List (Nat × Nat) :=
  [(8, x.FUNCTION.toNat), (8, x.PAIR_WIRING.toNat), (8, x.BRAKE_AXIS.toNat), (8, x.BT_OVERDUE_ACTION.toNat), (16, x.BT_INTERVAL_H.toNat), (16, x.BT_GRACE_H.toNat), (16, x.BT_APPLY_MS.toNat), (16, x.BT_HOLD_MS.toNat), (32, x.BT_STEPS.toNat), (32, x.BT_RATE_HZ.toNat), (32, x.BT_TOL.toNat), (64, 0)]

/-- Its bytes as the module stores or sends them (R244). -/
def SoEntry.toBytes (x : SoEntry) : List Byte := leBytes 32 (pack (x.fields))

/-- The layout as it is read out of a number that holds its bits. -/
def SoEntry.ofBits (n : Nat) : SoEntry :=
  { FUNCTION := bitsAt n 0 8,
    PAIR_WIRING := bitsAt n 8 8,
    BRAKE_AXIS := bitsAt n 16 8,
    BT_OVERDUE_ACTION := bitsAt n 24 8,
    BT_INTERVAL_H := bitsAt n 32 16,
    BT_GRACE_H := bitsAt n 48 16,
    BT_APPLY_MS := bitsAt n 64 16,
    BT_HOLD_MS := bitsAt n 80 16,
    BT_STEPS := bitsAt n 96 32,
    BT_RATE_HZ := bitsAt n 128 32,
    BT_TOL := bitsAt n 160 32 }

/-- The layout as the module reads it out of bytes (R244). -/
def SoEntry.ofBytes (bs : List Byte) : SoEntry := SoEntry.ofBits (ofLe bs)

/-- An axis entry, 48 bytes (R245). -/
structure AxisEntry where
  AXIS : BitVec 8  -- Motion axis MXn 0 to 7; 0xFF unused
  FUNC : BitVec 3  -- Bit 2 SDI, bit 1 SLP, bit 0 SLS
  ENABLE_SRC : BitVec 8  -- 0 always, 1 axis enable word
  SRC1_ENC : BitVec 8  -- ENC0–ENC7
  SRC2_KIND : BitVec 8  -- 0 encoder, 1 step count of AXIS
  SRC2_ENC : BitVec 8  -- ENC0–ENC7, other than SRC1_ENC; SRC2_KIND 0 only
  SDI_DIR : BitVec 8  -- 0 positive permitted, 1 negative permitted
  SCALE1_NUM : BitVec 32  -- SPU per count, numerator; not 0
  SCALE1_DEN : BitVec 32  -- Denominator; not 0
  SCALE2_NUM : BitVec 32  -- As SCALE1_NUM, for SRC2
  SCALE2_DEN : BitVec 32  -- As SCALE1_DEN, for SRC2
  DISC_TOL : BitVec 32  -- SPU
  DISC_MS : BitVec 16  -- 1 to 2000
  SPEED_WIN_US : BitVec 16  -- 100 to 50000
  SLS_LIMIT : BitVec 32  -- SPU/s
  SDI_TOL : BitVec 32  -- SPU
  SLP_MIN : BitVec 32  -- SPU
  SLP_MAX : BitVec 32  -- SPU, above SLP_MIN
  deriving DecidableEq, Repr

/-- The layout's default (R245). -/
def AxisEntry.dflt : AxisEntry :=
  { AXIS := 255#8,
    FUNC := 0#3,
    ENABLE_SRC := 0#8,
    SRC1_ENC := 0#8,
    SRC2_KIND := 0#8,
    SRC2_ENC := 0#8,
    SDI_DIR := 0#8,
    SCALE1_NUM := 1#32,
    SCALE1_DEN := 1#32,
    SCALE2_NUM := 1#32,
    SCALE2_DEN := 1#32,
    DISC_TOL := 1000#32,
    DISC_MS := 20#16,
    SPEED_WIN_US := 2000#16,
    SLS_LIMIT := 0#32,
    SDI_TOL := 0#32,
    SLP_MIN := 0#32,
    SLP_MAX := 0#32 }

/-- Its fields from the lowest bit up, each with its width; reserved fields are 0. -/
def AxisEntry.fields (x : AxisEntry) : List (Nat × Nat) :=
  [(8, x.AXIS.toNat), (3, x.FUNC.toNat), (5, 0), (8, x.ENABLE_SRC.toNat), (8, x.SRC1_ENC.toNat), (8, x.SRC2_KIND.toNat), (8, x.SRC2_ENC.toNat), (8, x.SDI_DIR.toNat), (8, 0), (32, x.SCALE1_NUM.toNat), (32, x.SCALE1_DEN.toNat), (32, x.SCALE2_NUM.toNat), (32, x.SCALE2_DEN.toNat), (32, x.DISC_TOL.toNat), (16, x.DISC_MS.toNat), (16, x.SPEED_WIN_US.toNat), (32, x.SLS_LIMIT.toNat), (32, x.SDI_TOL.toNat), (32, x.SLP_MIN.toNat), (32, x.SLP_MAX.toNat)]

/-- Its bytes as the module stores or sends them (R245). -/
def AxisEntry.toBytes (x : AxisEntry) : List Byte := leBytes 48 (pack (x.fields))

/-- The layout as it is read out of a number that holds its bits. -/
def AxisEntry.ofBits (n : Nat) : AxisEntry :=
  { AXIS := bitsAt n 0 8,
    FUNC := bitsAt n 8 3,
    ENABLE_SRC := bitsAt n 16 8,
    SRC1_ENC := bitsAt n 24 8,
    SRC2_KIND := bitsAt n 32 8,
    SRC2_ENC := bitsAt n 40 8,
    SDI_DIR := bitsAt n 48 8,
    SCALE1_NUM := bitsAt n 64 32,
    SCALE1_DEN := bitsAt n 96 32,
    SCALE2_NUM := bitsAt n 128 32,
    SCALE2_DEN := bitsAt n 160 32,
    DISC_TOL := bitsAt n 192 32,
    DISC_MS := bitsAt n 224 16,
    SPEED_WIN_US := bitsAt n 240 16,
    SLS_LIMIT := bitsAt n 256 32,
    SDI_TOL := bitsAt n 288 32,
    SLP_MIN := bitsAt n 320 32,
    SLP_MAX := bitsAt n 352 32 }

/-- The layout as the module reads it out of bytes (R245). -/
def AxisEntry.ofBytes (bs : List Byte) : AxisEntry := AxisEntry.ofBits (ofLe bs)

/-- A target entry, 16 bytes (R246). -/
structure TargetEntry where
  OR_MASK : BitVec 32  -- R233; bit 30 always set
  AND0_MASK : BitVec 32  -- R233; 0 unused
  AND1_MASK : BitVec 32  -- R233; 0 unused
  LATCH : BitVec 1  -- R234
  RESET_BY_DIO : BitVec 1  -- R234
  deriving DecidableEq, Repr

/-- The layout's default (R246). -/
def TargetEntry.dflt : TargetEntry :=
  { OR_MASK := 0x40000000#32,
    AND0_MASK := 0#32,
    AND1_MASK := 0#32,
    LATCH := 1#1,
    RESET_BY_DIO := 0#1 }

/-- Its fields from the lowest bit up, each with its width; reserved fields are 0. -/
def TargetEntry.fields (x : TargetEntry) : List (Nat × Nat) :=
  [(32, x.OR_MASK.toNat), (32, x.AND0_MASK.toNat), (32, x.AND1_MASK.toNat), (1, x.LATCH.toNat), (1, x.RESET_BY_DIO.toNat), (6, 0), (24, 0)]

/-- Its bytes as the module stores or sends them (R246). -/
def TargetEntry.toBytes (x : TargetEntry) : List Byte := leBytes 16 (pack (x.fields))

/-- The layout as it is read out of a number that holds its bits. -/
def TargetEntry.ofBits (n : Nat) : TargetEntry :=
  { OR_MASK := bitsAt n 0 32,
    AND0_MASK := bitsAt n 32 32,
    AND1_MASK := bitsAt n 64 32,
    LATCH := bitsAt n 96 1,
    RESET_BY_DIO := bitsAt n 97 1 }

/-- The layout as the module reads it out of bytes (R246). -/
def TargetEntry.ofBytes (bs : List Byte) : TargetEntry := TargetEntry.ofBits (ofLe bs)

/-- The safety parameter set, 836 bytes (R242). -/
structure SafetySet where
  SET_ID : BitVec 32  -- Integrator's identification
  SET_VERSION : BitVec 16  -- Integrator's version
  TP_PERIOD_MS : BitVec 16  -- 10 to 1000
  TP_WIDTH_US : BitVec 16  -- 200 to 2000, and at most TP_PERIOD_MS/4
  TP_SETTLE_US : BitVec 16  -- 50 to 2000
  WD_MULT : BitVec 8  -- 2 to 16
  RESET_DIO : BitVec 8  -- DIO channel of the reset input; 0xFF none
  SO_TEST_S : BitVec 16  -- 1 to 3600
  SIGNED_BY : BitVec 32  -- Set at sign-off; ignored on load
  SIGNED_TS : BitVec 64  -- Set at sign-off; ignored on load
  PAIR : Vector PairEntry 16  -- R243
  SO : Vector SoEntry 4  -- R244
  AXIS : Vector AxisEntry 8  -- R245
  TARGET : Vector TargetEntry 10  -- R246
  CRC : BitVec 32  -- R239
  deriving DecidableEq, Repr

/-- The layout's default (R242). -/
def SafetySet.dflt : SafetySet :=
  { SET_ID := 0#32,
    SET_VERSION := 0#16,
    TP_PERIOD_MS := 100#16,
    TP_WIDTH_US := 500#16,
    TP_SETTLE_US := 200#16,
    WD_MULT := 3#8,
    RESET_DIO := 255#8,
    SO_TEST_S := 10#16,
    SIGNED_BY := 0#32,
    SIGNED_TS := 0#64,
    PAIR := Vector.replicate 16 PairEntry.dflt,
    SO := Vector.replicate 4 SoEntry.dflt,
    AXIS := Vector.replicate 8 AxisEntry.dflt,
    TARGET := Vector.replicate 10 TargetEntry.dflt,
    CRC := 0#32 }

/-- Its fields from the lowest bit up, each with its width; reserved fields are 0. -/
def SafetySet.fields (x : SafetySet) : List (Nat × Nat) :=
  [(32, x.SET_ID.toNat), (16, x.SET_VERSION.toNat), (16, 0), (16, x.TP_PERIOD_MS.toNat), (16, x.TP_WIDTH_US.toNat), (16, x.TP_SETTLE_US.toNat), (8, x.WD_MULT.toNat), (8, x.RESET_DIO.toNat), (16, x.SO_TEST_S.toNat), (16, 0), (32, x.SIGNED_BY.toNat), (64, x.SIGNED_TS.toNat)]
  ++ x.PAIR.toList.flatMap PairEntry.fields
  ++ x.SO.toList.flatMap SoEntry.fields
  ++ x.AXIS.toList.flatMap AxisEntry.fields
  ++ x.TARGET.toList.flatMap TargetEntry.fields
  ++ [(32, x.CRC.toNat)]

/-- Its bytes as the module stores or sends them (R242). -/
def SafetySet.toBytes (x : SafetySet) : List Byte := leBytes 836 (pack (x.fields))

/-- The layout as it is read out of a number that holds its bits. -/
def SafetySet.ofBits (n : Nat) : SafetySet :=
  { SET_ID := bitsAt n 0 32,
    SET_VERSION := bitsAt n 32 16,
    TP_PERIOD_MS := bitsAt n 64 16,
    TP_WIDTH_US := bitsAt n 80 16,
    TP_SETTLE_US := bitsAt n 96 16,
    WD_MULT := bitsAt n 112 8,
    RESET_DIO := bitsAt n 120 8,
    SO_TEST_S := bitsAt n 128 16,
    SIGNED_BY := bitsAt n 160 32,
    SIGNED_TS := bitsAt n 192 64,
    PAIR := Vector.ofFn fun i => PairEntry.ofBits (n / 2 ^ (256 + 64 * i.val)),
    SO := Vector.ofFn fun i => SoEntry.ofBits (n / 2 ^ (1280 + 256 * i.val)),
    AXIS := Vector.ofFn fun i => AxisEntry.ofBits (n / 2 ^ (2304 + 384 * i.val)),
    TARGET := Vector.ofFn fun i => TargetEntry.ofBits (n / 2 ^ (5376 + 128 * i.val)),
    CRC := bitsAt n 6656 32 }

/-- The layout as the module reads it out of bytes (R242). -/
def SafetySet.ofBytes (bs : List Byte) : SafetySet := SafetySet.ofBits (ofLe bs)

/-- The safety status, 48 bytes (R248). -/
structure SafeStat where
  ISLAND_FAULT : BitVec 1  -- R216, R218
  SOURCES_SEEN : BitVec 32  -- Sticky
  BT_DUE : BitVec 4  -- R230
  BT_FAIL : BitVec 4  -- R229
  TRIP_COUNT : BitVec 32  -- Targets killed, counted per target
  LAST_TRIP_TS : BitVec 64  -- Tick of the last kill
  LAST_TRIP_SOURCES : BitVec 32  -- SOURCES at that tick
  RESET_COUNT : BitVec 32  -- Resets taken
  deriving DecidableEq, Repr

/-- The layout's default (R248). -/
def SafeStat.dflt : SafeStat :=
  { ISLAND_FAULT := 0#1,
    SOURCES_SEEN := 0#32,
    BT_DUE := 0#4,
    BT_FAIL := 0#4,
    TRIP_COUNT := 0#32,
    LAST_TRIP_TS := 0#64,
    LAST_TRIP_SOURCES := 0#32,
    RESET_COUNT := 0#32 }

/-- Its fields from the lowest bit up, each with its width; reserved fields are 0, and the fields that report a state held elsewhere are given. -/
def SafeStat.fields (x : SafeStat) (ARMED : Nat) (SET_SIGNED : Nat) (PENDING_SET : Nat) (WD_EXPIRED : Nat) (SFE_FAULT : Nat) (BT_ACTIVE : Nat) (SOURCES : Nat) (KILLED : Nat) (LATCHED : Nat) (PAIR_FAULT : Nat) (AXIS_FAULT : Nat) (SO_FAULT : Nat) (SET_CRC : Nat) : List (Nat × Nat) :=
  [(1, ARMED), (1, SET_SIGNED), (1, PENDING_SET), (1, x.ISLAND_FAULT.toNat), (1, WD_EXPIRED), (1, SFE_FAULT), (1, BT_ACTIVE), (25, 0), (32, SOURCES), (32, x.SOURCES_SEEN.toNat), (10, KILLED), (6, 0), (10, LATCHED), (6, 0), (16, PAIR_FAULT), (8, AXIS_FAULT), (4, SO_FAULT), (4, 0), (4, x.BT_DUE.toNat), (4, 0), (4, x.BT_FAIL.toNat), (4, 0), (16, 0), (32, SET_CRC), (32, x.TRIP_COUNT.toNat), (64, x.LAST_TRIP_TS.toNat), (32, x.LAST_TRIP_SOURCES.toNat), (32, x.RESET_COUNT.toNat)]

/-- Its bytes as the module stores or sends them (R248). -/
def SafeStat.toBytes (x : SafeStat) (ARMED : Nat) (SET_SIGNED : Nat) (PENDING_SET : Nat) (WD_EXPIRED : Nat) (SFE_FAULT : Nat) (BT_ACTIVE : Nat) (SOURCES : Nat) (KILLED : Nat) (LATCHED : Nat) (PAIR_FAULT : Nat) (AXIS_FAULT : Nat) (SO_FAULT : Nat) (SET_CRC : Nat) : List Byte := leBytes 48 (pack (x.fields ARMED SET_SIGNED PENDING_SET WD_EXPIRED SFE_FAULT BT_ACTIVE SOURCES KILLED LATCHED PAIR_FAULT AXIS_FAULT SO_FAULT SET_CRC))

/-- The layout as it is read out of a number that holds its bits. -/
def SafeStat.ofBits (n : Nat) : SafeStat :=
  { ISLAND_FAULT := bitsAt n 3 1,
    SOURCES_SEEN := bitsAt n 64 32,
    BT_DUE := bitsAt n 160 4,
    BT_FAIL := bitsAt n 168 4,
    TRIP_COUNT := bitsAt n 224 32,
    LAST_TRIP_TS := bitsAt n 256 64,
    LAST_TRIP_SOURCES := bitsAt n 320 32,
    RESET_COUNT := bitsAt n 352 32 }

/-- The layout as the module reads it out of bytes (R248). -/
def SafeStat.ofBytes (bs : List Byte) : SafeStat := SafeStat.ofBits (ofLe bs)

/-- The uplink frame, 100 bits (R267). -/
structure UplinkFrame where
  SEQ : BitVec 4  -- Frame sequence, modulo 16
  VAL : BitVec 8  -- Filtered input state, or readback, of channels 7 to 0
  SLOT : BitVec 7  -- By SEQ (R268)
  AIO : BitVec 16  -- Value of AIO 4n + (SEQ mod 4), laid out as in "Current-loop channels"
  RX_ERR : BitVec 1  -- The last downlink frame was invalid
  GRP_PWR : BitVec 1  -- Group rail powered
  VIN : BitVec 10  -- VIN = 8.000 V + 40 mV × code; 0 means 8.000 V or below
  QL_SEEN_GRP : BitVec 1  -- Kill seen on QL4+n, for group n
  QL_SEEN_SO : BitVec 4  -- Kill seen on QL3–QL0
  RAW : BitVec 32  -- Safety comparator state of DIO31–DIO0, one bit each: the safety front-end copy (R21)
  CRC : BitVec 16  -- R266
  deriving DecidableEq, Repr

/-- The layout's default (R267). -/
def UplinkFrame.dflt : UplinkFrame :=
  { SEQ := 0#4,
    VAL := 0#8,
    SLOT := 0#7,
    AIO := 0#16,
    RX_ERR := 0#1,
    GRP_PWR := 0#1,
    VIN := 0#10,
    QL_SEEN_GRP := 1#1,
    QL_SEEN_SO := 1#4,
    RAW := 0#32,
    CRC := 0#16 }

/-- Its fields from the lowest bit up, each with its width; reserved fields are 0. -/
def UplinkFrame.fields (x : UplinkFrame) : List (Nat × Nat) :=
  [(4, x.SEQ.toNat), (8, x.VAL.toNat), (7, x.SLOT.toNat), (16, x.AIO.toNat), (1, x.RX_ERR.toNat), (1, x.GRP_PWR.toNat), (10, x.VIN.toNat), (1, x.QL_SEEN_GRP.toNat), (4, x.QL_SEEN_SO.toNat), (32, x.RAW.toNat), (16, x.CRC.toNat)]

/-- Its bytes as the module stores or sends them (R267). -/
def UplinkFrame.toBytes (x : UplinkFrame) : List Byte := leBytes 13 (pack (x.fields))

/-- The layout as it is read out of a number that holds its bits. -/
def UplinkFrame.ofBits (n : Nat) : UplinkFrame :=
  { SEQ := bitsAt n 0 4,
    VAL := bitsAt n 4 8,
    SLOT := bitsAt n 12 7,
    AIO := bitsAt n 19 16,
    RX_ERR := bitsAt n 35 1,
    GRP_PWR := bitsAt n 36 1,
    VIN := bitsAt n 37 10,
    QL_SEEN_GRP := bitsAt n 47 1,
    QL_SEEN_SO := bitsAt n 48 4,
    RAW := bitsAt n 52 32,
    CRC := bitsAt n 84 16 }

/-- The layout as the module reads it out of bytes (R267). -/
def UplinkFrame.ofBytes (bs : List Byte) : UplinkFrame := UplinkFrame.ofBits (ofLe bs)

/-- The downlink frame, 100 bits (R269). -/
structure DownlinkFrame where
  SEQ : BitVec 4  -- Frame sequence
  DO : BitVec 8  -- Commands of channels 7 to 0
  RE_ARM : BitVec 1  -- R23, R265
  AIO_FAIL : BitVec 1  -- Target T9 killed
  GRP_ON : BitVec 1  -- Group rail permitted; clear in E2
  AIO : BitVec 16  -- Command of AIO 4n + (SEQ mod 4)
  CFG_ADDR : BitVec 8  -- Address of CFG_DATA: 0x00–0x07 DIO channels 0–7 of the group, 0x10–0x3F AIO and …
  CFG_DATA : BitVec 16  -- Configuration word
  SO_HS : BitVec 4  -- High-side switch command of SO3–SO0
  SO_LS : BitVec 4  -- Low-side switch command of SO3–SO0
  TP : BitVec 2  -- 1: dark pulse now on TP1, TP0
  CRC : BitVec 16  -- R266
  deriving DecidableEq, Repr

/-- The layout's default (R269). -/
def DownlinkFrame.dflt : DownlinkFrame :=
  { SEQ := 0#4,
    DO := 0#8,
    RE_ARM := 0#1,
    AIO_FAIL := 0#1,
    GRP_ON := 0#1,
    AIO := 0#16,
    CFG_ADDR := 0#8,
    CFG_DATA := 0#16,
    SO_HS := 0#4,
    SO_LS := 0#4,
    TP := 0#2,
    CRC := 0#16 }

/-- Its fields from the lowest bit up, each with its width; reserved fields are 0. -/
def DownlinkFrame.fields (x : DownlinkFrame) : List (Nat × Nat) :=
  [(4, x.SEQ.toNat), (8, x.DO.toNat), (1, x.RE_ARM.toNat), (1, x.AIO_FAIL.toNat), (1, x.GRP_ON.toNat), (16, x.AIO.toNat), (8, x.CFG_ADDR.toNat), (16, x.CFG_DATA.toNat), (4, x.SO_HS.toNat), (4, x.SO_LS.toNat), (2, x.TP.toNat), (19, 0), (16, x.CRC.toNat)]

/-- Its bytes as the module stores or sends them (R269). -/
def DownlinkFrame.toBytes (x : DownlinkFrame) : List Byte := leBytes 13 (pack (x.fields))

/-- The layout as it is read out of a number that holds its bits. -/
def DownlinkFrame.ofBits (n : Nat) : DownlinkFrame :=
  { SEQ := bitsAt n 0 4,
    DO := bitsAt n 4 8,
    RE_ARM := bitsAt n 12 1,
    AIO_FAIL := bitsAt n 13 1,
    GRP_ON := bitsAt n 14 1,
    AIO := bitsAt n 15 16,
    CFG_ADDR := bitsAt n 31 8,
    CFG_DATA := bitsAt n 39 16,
    SO_HS := bitsAt n 55 4,
    SO_LS := bitsAt n 59 4,
    TP := bitsAt n 63 2,
    CRC := bitsAt n 84 16 }

/-- The layout as the module reads it out of bytes (R269). -/
def DownlinkFrame.ofBytes (bs : List Byte) : DownlinkFrame := DownlinkFrame.ofBits (ofLe bs)

/-- The group record, 64 bytes at IMAGE 0x0080 + 0x40·n (R272). -/
structure GroupRec where
  VAL : Vector (BitVec 8) 8  -- Per channel: bits 7:4 quality (R259), bits 3:1 reserved, bit 0 state
  DIAG : Vector (BitVec 8) 8  -- Per channel: bit 7 SUPPRESSED, 6 KILLED, 5 LATCHED_OFF, 4 reserved, 3 EXT_FEED, 2 …
  LINK_LOST : BitVec 1  -- The lost bit of R23
  REARM_WAIT : BitVec 1  -- The outputs wait for RE_ARM. Set at a loss seen on either side, or at a fuse reset. …
  GRP_FUSE : BitVec 1  -- R264
  SENS_FAULT : BitVec 1  -- R251
  FIELD_OFF : BitVec 1  -- Group rail off by E2: GRP_PWR clear while the last downlink frame had GRP_ON clear. …
  QL_KILL : BitVec 1  -- QL_SEEN_GRP
  CFG_WAIT : BitVec 1  -- R271
  RX_ERR : BitVec 1  -- From the last uplink frame
  FRAME_TS : BitVec 64  -- Tick at which the frame was sampled
  deriving DecidableEq, Repr

/-- The layout's default (R272). -/
def GroupRec.dflt : GroupRec :=
  { VAL := Vector.replicate 8 176#8,
    DIAG := Vector.replicate 8 0#8,
    LINK_LOST := 0#1,
    REARM_WAIT := 0#1,
    GRP_FUSE := 0#1,
    SENS_FAULT := 0#1,
    FIELD_OFF := 0#1,
    QL_KILL := 1#1,
    CFG_WAIT := 1#1,
    RX_ERR := 0#1,
    FRAME_TS := 0#64 }

/-- Its fields from the lowest bit up, each with its width; reserved fields are 0. -/
def GroupRec.fields (x : GroupRec) : List (Nat × Nat) :=
  x.VAL.toList.map (fun v => (8, v.toNat))
  ++ x.DIAG.toList.map (fun v => (8, v.toNat))
  ++ [(1, x.LINK_LOST.toNat), (1, x.REARM_WAIT.toNat), (1, x.GRP_FUSE.toNat), (1, x.SENS_FAULT.toNat), (1, x.FIELD_OFF.toNat), (1, x.QL_KILL.toNat), (1, x.CFG_WAIT.toNat), (1, x.RX_ERR.toNat), (24, 0), (32, 0), (64, x.FRAME_TS.toNat), (256, 0)]

/-- Its bytes as the module stores or sends them (R272). -/
def GroupRec.toBytes (x : GroupRec) : List Byte := leBytes 64 (pack (x.fields))

/-- The layout as it is read out of a number that holds its bits. -/
def GroupRec.ofBits (n : Nat) : GroupRec :=
  { VAL := Vector.ofFn fun i => bitsAt n (0 + 8 * i.val) 8,
    DIAG := Vector.ofFn fun i => bitsAt n (64 + 8 * i.val) 8,
    LINK_LOST := bitsAt n 128 1,
    REARM_WAIT := bitsAt n 129 1,
    GRP_FUSE := bitsAt n 130 1,
    SENS_FAULT := bitsAt n 131 1,
    FIELD_OFF := bitsAt n 132 1,
    QL_KILL := bitsAt n 133 1,
    CFG_WAIT := bitsAt n 134 1,
    RX_ERR := bitsAt n 135 1,
    FRAME_TS := bitsAt n 192 64 }

/-- The layout as the module reads it out of bytes (R272). -/
def GroupRec.ofBytes (bs : List Byte) : GroupRec := GroupRec.ofBits (ofLe bs)

/-- The DIO channel descriptor, 16 bytes (R273). -/
structure DioDesc where
  CH_ID : BitVec 8  -- 0 to 31
  MODE : BitVec 8  -- 0 unused, 1 input, 2 output
  INPUT_TYPE : BitVec 8  -- 1 or 3 (R253)
  FILTER : BitVec 8  -- 0 to 7 (R254)
  OW_OFF_EN : BitVec 1  -- R258
  OW_ON_EN : BitVec 1  -- R258
  EXT_FEED_EN : BitVec 1  -- R258
  PAIRED : BitVec 1  -- Paired wiring (R261)
  PAIR_PEER : BitVec 1  -- 1: partner is this channel on the peer
  PARTNER : BitVec 8  -- Partner channel in this module; 0xFF none
  OVL_MS : BitVec 8  -- 1 to 100
  RETRY_S : BitVec 8  -- 0 none, 1 to 60
  OW_MS : BitVec 16  -- 10 to 10000
  EXT_MS : BitVec 16  -- 1 to 1000
  deriving DecidableEq, Repr

/-- The layout's default (R273). -/
def DioDesc.dflt : DioDesc :=
  { CH_ID := 0#8,
    MODE := 0#8,
    INPUT_TYPE := 1#8,
    FILTER := 4#8,
    OW_OFF_EN := 1#1,
    OW_ON_EN := 1#1,
    EXT_FEED_EN := 1#1,
    PAIRED := 0#1,
    PAIR_PEER := 0#1,
    PARTNER := 255#8,
    OVL_MS := 5#8,
    RETRY_S := 0#8,
    OW_MS := 100#16,
    EXT_MS := 10#16 }

/-- Its fields from the lowest bit up, each with its width; reserved fields are 0. -/
def DioDesc.fields (x : DioDesc) : List (Nat × Nat) :=
  [(8, x.CH_ID.toNat), (8, x.MODE.toNat), (8, x.INPUT_TYPE.toNat), (8, x.FILTER.toNat), (1, x.OW_OFF_EN.toNat), (1, x.OW_ON_EN.toNat), (1, x.EXT_FEED_EN.toNat), (1, x.PAIRED.toNat), (1, x.PAIR_PEER.toNat), (3, 0), (8, x.PARTNER.toNat), (8, x.OVL_MS.toNat), (8, x.RETRY_S.toNat), (16, x.OW_MS.toNat), (16, x.EXT_MS.toNat), (32, 0)]

/-- Its bytes as the module stores or sends them (R273). -/
def DioDesc.toBytes (x : DioDesc) : List Byte := leBytes 16 (pack (x.fields))

/-- The layout as it is read out of a number that holds its bits. -/
def DioDesc.ofBits (n : Nat) : DioDesc :=
  { CH_ID := bitsAt n 0 8,
    MODE := bitsAt n 8 8,
    INPUT_TYPE := bitsAt n 16 8,
    FILTER := bitsAt n 24 8,
    OW_OFF_EN := bitsAt n 32 1,
    OW_ON_EN := bitsAt n 33 1,
    EXT_FEED_EN := bitsAt n 34 1,
    PAIRED := bitsAt n 35 1,
    PAIR_PEER := bitsAt n 36 1,
    PARTNER := bitsAt n 40 8,
    OVL_MS := bitsAt n 48 8,
    RETRY_S := bitsAt n 56 8,
    OW_MS := bitsAt n 64 16,
    EXT_MS := bitsAt n 80 16 }

/-- The layout as the module reads it out of bytes (R273). -/
def DioDesc.ofBytes (bs : List Byte) : DioDesc := DioDesc.ofBits (ofLe bs)

/-- The DIO channel status, 16 bytes (R274). -/
structure DioStat where
  DIAG_SEEN : BitVec 1  -- Sticky: any flag was set
  OVL_COUNT : BitVec 16  -- Overload latches
  THERMAL_COUNT : BitVec 16  -- Thermal shutdowns
  EXT_FEED_COUNT : BitVec 16  -- Settings of EXT_FEED
  OW_COUNT : BitVec 16  -- Settings of OPEN_WIRE
  TRANSITIONS : BitVec 32  -- Changes of state
  deriving DecidableEq, Repr

/-- The layout's default (R274). -/
def DioStat.dflt : DioStat :=
  { DIAG_SEEN := 0#1,
    OVL_COUNT := 0#16,
    THERMAL_COUNT := 0#16,
    EXT_FEED_COUNT := 0#16,
    OW_COUNT := 0#16,
    TRANSITIONS := 0#32 }

/-- Its fields from the lowest bit up, each with its width; reserved fields are 0, and the fields that report a state held elsewhere are given. -/
def DioStat.fields (x : DioStat) (DIAG : Nat) (COMMAND : Nat) : List (Nat × Nat) :=
  [(8, DIAG), (1, COMMAND), (1, x.DIAG_SEEN.toNat), (22, 0), (16, x.OVL_COUNT.toNat), (16, x.THERMAL_COUNT.toNat), (16, x.EXT_FEED_COUNT.toNat), (16, x.OW_COUNT.toNat), (32, x.TRANSITIONS.toNat)]

/-- Its bytes as the module stores or sends them (R274). -/
def DioStat.toBytes (x : DioStat) (DIAG : Nat) (COMMAND : Nat) : List Byte := leBytes 16 (pack (x.fields DIAG COMMAND))

/-- The layout as it is read out of a number that holds its bits. -/
def DioStat.ofBits (n : Nat) : DioStat :=
  { DIAG_SEEN := bitsAt n 9 1,
    OVL_COUNT := bitsAt n 32 16,
    THERMAL_COUNT := bitsAt n 48 16,
    EXT_FEED_COUNT := bitsAt n 64 16,
    OW_COUNT := bitsAt n 80 16,
    TRANSITIONS := bitsAt n 96 32 }

/-- The layout as the module reads it out of bytes (R274). -/
def DioStat.ofBytes (bs : List Byte) : DioStat := DioStat.ofBits (ofLe bs)

/-- The DIO group status, 32 bytes (R274). -/
structure GroupStat where
  UP_CRC_ERR : BitVec 32  -- Uplink frames discarded
  DOWN_CRC_ERR : BitVec 32  -- RX_ERR reports
  LOSS_COUNT : BitVec 16  -- Entries to LINK_LOST
  FUSE_TRIPS : BitVec 16  -- R264
  LAST_LOSS_TS : BitVec 64  -- Time of the last link loss
  SENS_TRIPS : BitVec 16  -- Trips of SENSn
  deriving DecidableEq, Repr

/-- The layout's default (R274). -/
def GroupStat.dflt : GroupStat :=
  { UP_CRC_ERR := 0#32,
    DOWN_CRC_ERR := 0#32,
    LOSS_COUNT := 0#16,
    FUSE_TRIPS := 0#16,
    LAST_LOSS_TS := 0#64,
    SENS_TRIPS := 0#16 }

/-- Its fields from the lowest bit up, each with its width; reserved fields are 0, and the fields that report a state held elsewhere are given. -/
def GroupStat.fields (x : GroupStat) (FSTAT : Nat) : List (Nat × Nat) :=
  [(8, FSTAT), (24, 0), (32, x.UP_CRC_ERR.toNat), (32, x.DOWN_CRC_ERR.toNat), (16, x.LOSS_COUNT.toNat), (16, x.FUSE_TRIPS.toNat), (64, x.LAST_LOSS_TS.toNat), (16, x.SENS_TRIPS.toNat), (16, 0), (32, 0)]

/-- Its bytes as the module stores or sends them (R274). -/
def GroupStat.toBytes (x : GroupStat) (FSTAT : Nat) : List Byte := leBytes 32 (pack (x.fields FSTAT))

/-- The layout as it is read out of a number that holds its bits. -/
def GroupStat.ofBits (n : Nat) : GroupStat :=
  { UP_CRC_ERR := bitsAt n 32 32,
    DOWN_CRC_ERR := bitsAt n 64 32,
    LOSS_COUNT := bitsAt n 96 16,
    FUSE_TRIPS := bitsAt n 112 16,
    LAST_LOSS_TS := bitsAt n 128 64,
    SENS_TRIPS := bitsAt n 192 16 }

/-- The layout as the module reads it out of bytes (R274). -/
def GroupStat.ofBytes (bs : List Byte) : GroupStat := GroupStat.ofBits (ofLe bs)

/-- The record of one AIO channel, 8 bytes (R291). -/
structure AioRec where
  VALUE : BitVec 16  -- R280; −32768 while MARKER is set
  CODE : BitVec 16  -- Trimmed current or marker (R279)
  QUAL : BitVec 4  -- Quality nibble (R286)
  RANGE_UNCERTAIN : BitVec 1  -- R285
  FAIL_LOW_IN : BitVec 1  -- R285
  FAIL_HIGH_IN : BitVec 1  -- R285
  CMD_CLAMPED : BitVec 1  -- R280
  MARKER : BitVec 1  -- CODE is a marker
  AO_COMPLIANCE : BitVec 1  -- R287
  OPEN_LOOP : BitVec 1  -- R287
  FAIL_ACTIVE : BitVec 1  -- A fail or hold code is sourced
  SAMPLE_AGE_NS : BitVec 16  -- Sample time = FRAME_TS − SAMPLE_AGE_NS
  deriving DecidableEq, Repr

/-- The layout's default (R291). -/
def AioRec.dflt : AioRec :=
  { VALUE := 0#16,
    CODE := 0#16,
    QUAL := 11#4,
    RANGE_UNCERTAIN := 0#1,
    FAIL_LOW_IN := 0#1,
    FAIL_HIGH_IN := 0#1,
    CMD_CLAMPED := 0#1,
    MARKER := 0#1,
    AO_COMPLIANCE := 0#1,
    OPEN_LOOP := 0#1,
    FAIL_ACTIVE := 0#1,
    SAMPLE_AGE_NS := 0#16 }

/-- Its fields from the lowest bit up, each with its width; reserved fields are 0. -/
def AioRec.fields (x : AioRec) : List (Nat × Nat) :=
  [(16, x.VALUE.toNat), (16, x.CODE.toNat), (4, 0), (4, x.QUAL.toNat), (1, x.RANGE_UNCERTAIN.toNat), (1, x.FAIL_LOW_IN.toNat), (1, x.FAIL_HIGH_IN.toNat), (1, x.CMD_CLAMPED.toNat), (1, x.MARKER.toNat), (1, x.AO_COMPLIANCE.toNat), (1, x.OPEN_LOOP.toNat), (1, x.FAIL_ACTIVE.toNat), (16, x.SAMPLE_AGE_NS.toNat)]

/-- Its bytes as the module stores or sends them (R291). -/
def AioRec.toBytes (x : AioRec) : List Byte := leBytes 8 (pack (x.fields))

/-- The layout as it is read out of a number that holds its bits. -/
def AioRec.ofBits (n : Nat) : AioRec :=
  { VALUE := bitsAt n 0 16,
    CODE := bitsAt n 16 16,
    QUAL := bitsAt n 36 4,
    RANGE_UNCERTAIN := bitsAt n 40 1,
    FAIL_LOW_IN := bitsAt n 41 1,
    FAIL_HIGH_IN := bitsAt n 42 1,
    CMD_CLAMPED := bitsAt n 43 1,
    MARKER := bitsAt n 44 1,
    AO_COMPLIANCE := bitsAt n 45 1,
    OPEN_LOOP := bitsAt n 46 1,
    FAIL_ACTIVE := bitsAt n 47 1,
    SAMPLE_AGE_NS := bitsAt n 48 16 }

/-- The layout as the module reads it out of bytes (R291). -/
def AioRec.ofBytes (bs : List Byte) : AioRec := AioRec.ofBits (ofLe bs)

/-- One entry of the AIO command line, 4 bytes at IMAGE 0x01C0 + 4·c (R291). -/
structure AioCmd where
  CMD : BitVec 16  -- Command (R280)
  FAIL_REQ : BitVec 1  -- 1: source FAIL_CODE
  WQUAL : BitVec 4  -- Quality given by the writer; ignored by the port
  deriving DecidableEq, Repr

/-- The layout's default (R291). -/
def AioCmd.dflt : AioCmd :=
  { CMD := 0#16,
    FAIL_REQ := 0#1,
    WQUAL := 0#4 }

/-- Its fields from the lowest bit up, each with its width; reserved fields are 0. -/
def AioCmd.fields (x : AioCmd) : List (Nat × Nat) :=
  [(16, x.CMD.toNat), (1, x.FAIL_REQ.toNat), (3, 0), (4, x.WQUAL.toNat), (8, 0)]

/-- Its bytes as the module stores or sends them (R291). -/
def AioCmd.toBytes (x : AioCmd) : List Byte := leBytes 4 (pack (x.fields))

/-- The layout as it is read out of a number that holds its bits. -/
def AioCmd.ofBits (n : Nat) : AioCmd :=
  { CMD := bitsAt n 0 16,
    FAIL_REQ := bitsAt n 16 1,
    WQUAL := bitsAt n 20 4 }

/-- The layout as the module reads it out of bytes (R291). -/
def AioCmd.ofBytes (bs : List Byte) : AioCmd := AioCmd.ofBits (ofLe bs)

/-- The AIO channel descriptor, 16 bytes (R292). -/
structure AioDesc where
  CH_ID : BitVec 8  -- 0 to 15
  MODE : BitVec 8  -- 0 to 3 (R277)
  FILTER : BitVec 8  -- 0 to 4 (R283)
  FAIL_SEL : BitVec 8  -- 0 low, 1 high, 2 by FAILHI_DEFAULT
  OPEN_LOOP_EN : BitVec 1  -- R287
  PAIR_PEER : BitVec 1  -- Output joined with this channel on the peer (R278)
  FAIL_MS : BitVec 16  -- 0 to 10000 (R285)
  deriving DecidableEq, Repr

/-- The layout's default (R292). -/
def AioDesc.dflt : AioDesc :=
  { CH_ID := 0#8,
    MODE := 0#8,
    FILTER := 2#8,
    FAIL_SEL := 0#8,
    OPEN_LOOP_EN := 1#1,
    PAIR_PEER := 0#1,
    FAIL_MS := 100#16 }

/-- Its fields from the lowest bit up, each with its width; reserved fields are 0. -/
def AioDesc.fields (x : AioDesc) : List (Nat × Nat) :=
  [(8, x.CH_ID.toNat), (8, x.MODE.toNat), (8, x.FILTER.toNat), (8, x.FAIL_SEL.toNat), (1, x.OPEN_LOOP_EN.toNat), (1, x.PAIR_PEER.toNat), (6, 0), (8, 0), (16, x.FAIL_MS.toNat), (64, 0)]

/-- Its bytes as the module stores or sends them (R292). -/
def AioDesc.toBytes (x : AioDesc) : List Byte := leBytes 16 (pack (x.fields))

/-- The layout as it is read out of a number that holds its bits. -/
def AioDesc.ofBits (n : Nat) : AioDesc :=
  { CH_ID := bitsAt n 0 8,
    MODE := bitsAt n 8 8,
    FILTER := bitsAt n 16 8,
    FAIL_SEL := bitsAt n 24 8,
    OPEN_LOOP_EN := bitsAt n 32 1,
    PAIR_PEER := bitsAt n 33 1,
    FAIL_MS := bitsAt n 48 16 }

/-- The layout as the module reads it out of bytes (R292). -/
def AioDesc.ofBytes (bs : List Byte) : AioDesc := AioDesc.ofBits (ofLe bs)

/-- The trim record, 32 bytes (R293). -/
structure TrimRec where
  CH_ID : BitVec 8  -- Channel
  PATH : BitVec 8  -- 0 input, 1 output
  FACT_VALID : BitVec 1  -- The factory trim is valid
  INT_VALID : BitVec 1  -- An integrator trim exists
  FACT_GAIN_PPM : BitVec 32  -- Factory gain
  FACT_OFS_NA : BitVec 32  -- Factory offset
  GAIN_PPM : BitVec 32  -- Integrator gain (R281)
  OFS_NA : BitVec 32  -- Integrator offset
  INT_TS : BitVec 64  -- Time of the integrator trim
  deriving DecidableEq, Repr

/-- The layout's default (R293). -/
def TrimRec.dflt : TrimRec :=
  { CH_ID := 0#8,
    PATH := 0#8,
    FACT_VALID := 1#1,
    INT_VALID := 0#1,
    FACT_GAIN_PPM := 0#32,
    FACT_OFS_NA := 0#32,
    GAIN_PPM := 0#32,
    OFS_NA := 0#32,
    INT_TS := 0#64 }

/-- Its fields from the lowest bit up, each with its width; reserved fields are 0. -/
def TrimRec.fields (x : TrimRec) : List (Nat × Nat) :=
  [(8, x.CH_ID.toNat), (8, x.PATH.toNat), (1, x.FACT_VALID.toNat), (1, x.INT_VALID.toNat), (6, 0), (8, 0), (32, x.FACT_GAIN_PPM.toNat), (32, x.FACT_OFS_NA.toNat), (32, x.GAIN_PPM.toNat), (32, x.OFS_NA.toNat), (32, 0), (64, x.INT_TS.toNat)]

/-- Its bytes as the module stores or sends them (R293). -/
def TrimRec.toBytes (x : TrimRec) : List Byte := leBytes 32 (pack (x.fields))

/-- The layout as it is read out of a number that holds its bits. -/
def TrimRec.ofBits (n : Nat) : TrimRec :=
  { CH_ID := bitsAt n 0 8,
    PATH := bitsAt n 8 8,
    FACT_VALID := bitsAt n 16 1,
    INT_VALID := bitsAt n 17 1,
    FACT_GAIN_PPM := bitsAt n 32 32,
    FACT_OFS_NA := bitsAt n 64 32,
    GAIN_PPM := bitsAt n 96 32,
    OFS_NA := bitsAt n 128 32,
    INT_TS := bitsAt n 192 64 }

/-- The layout as the module reads it out of bytes (R293). -/
def TrimRec.ofBytes (bs : List Byte) : TrimRec := TrimRec.ofBits (ofLe bs)

/-- The AIO channel status, 16 bytes (R293). -/
structure AioStat where
  FLAGS_SEEN : BitVec 1  -- Sticky: any flag was set
  COMPL_COUNT : BitVec 16  -- Settings of AO_COMPLIANCE
  OPEN_COUNT : BitVec 16  -- Settings of OPEN_LOOP
  FAIL_IN_COUNT : BitVec 16  -- Settings of FAIL_LOW_IN or FAIL_HIGH_IN
  MARKER_COUNT : BitVec 16  -- Markers received
  deriving DecidableEq, Repr

/-- The layout's default (R293). -/
def AioStat.dflt : AioStat :=
  { FLAGS_SEEN := 0#1,
    COMPL_COUNT := 0#16,
    OPEN_COUNT := 0#16,
    FAIL_IN_COUNT := 0#16,
    MARKER_COUNT := 0#16 }

/-- Its fields from the lowest bit up, each with its width; reserved fields are 0, and the fields that report a state held elsewhere are given. -/
def AioStat.fields (x : AioStat) (FLAGS : Nat) (TRIM_DRIVEN : Nat) (FACT_CODE : Nat) : List (Nat × Nat) :=
  [(8, FLAGS), (1, x.FLAGS_SEEN.toNat), (1, TRIM_DRIVEN), (22, 0), (16, FACT_CODE), (16, x.COMPL_COUNT.toNat), (16, x.OPEN_COUNT.toNat), (16, x.FAIL_IN_COUNT.toNat), (16, x.MARKER_COUNT.toNat), (16, 0)]

/-- Its bytes as the module stores or sends them (R293). -/
def AioStat.toBytes (x : AioStat) (FLAGS : Nat) (TRIM_DRIVEN : Nat) (FACT_CODE : Nat) : List Byte := leBytes 16 (pack (x.fields FLAGS TRIM_DRIVEN FACT_CODE))

/-- The layout as it is read out of a number that holds its bits. -/
def AioStat.ofBits (n : Nat) : AioStat :=
  { FLAGS_SEEN := bitsAt n 8 1,
    COMPL_COUNT := bitsAt n 48 16,
    OPEN_COUNT := bitsAt n 64 16,
    FAIL_IN_COUNT := bitsAt n 80 16,
    MARKER_COUNT := bitsAt n 96 16 }

/-- The layout as the module reads it out of bytes (R293). -/
def AioStat.ofBytes (bs : List Byte) : AioStat := AioStat.ofBits (ofLe bs)

/-- The command record of an axis, 16 bytes at IMAGE 0x0200 + 16·n (R299). -/
structure AxisCmd where
  CMD_SEQ : BitVec 16  -- A request is taken when it changes
  MODE_REQ : BitVec 8  -- 0 none, 1 RAMP_STOP, 2 STOP_NOW, 3 POSITION, 4 VELOCITY, 5 TABLE, 6 GEAR, 7 HOME, 8 …
  ARG : BitVec 8  -- POSITION: bit 0 relative target. TABLE: table number 0 to 15
  TARGET : BitVec 32  -- Target in fine steps
  VEL : BitVec 16  -- Velocity command, times VEL_MAX
  VQUAL : BitVec 4  -- Quality of VEL, given by its writer
  PROF_VEL : BitVec 16  -- Top speed of a POSITION move, times VEL_MAX; 0 or negative means VEL_MAX
  deriving DecidableEq, Repr

/-- The layout's default (R299). -/
def AxisCmd.dflt : AxisCmd :=
  { CMD_SEQ := 0#16,
    MODE_REQ := 0#8,
    ARG := 0#8,
    TARGET := 0#32,
    VEL := 0#16,
    VQUAL := 0#4,
    PROF_VEL := 0#16 }

/-- Its fields from the lowest bit up, each with its width; reserved fields are 0. -/
def AxisCmd.fields (x : AxisCmd) : List (Nat × Nat) :=
  [(16, x.CMD_SEQ.toNat), (8, x.MODE_REQ.toNat), (8, x.ARG.toNat), (32, x.TARGET.toNat), (16, x.VEL.toNat), (4, 0), (4, x.VQUAL.toNat), (8, 0), (16, x.PROF_VEL.toNat), (16, 0)]

/-- Its bytes as the module stores or sends them (R299). -/
def AxisCmd.toBytes (x : AxisCmd) : List Byte := leBytes 16 (pack (x.fields))

/-- The layout as it is read out of a number that holds its bits. -/
def AxisCmd.ofBits (n : Nat) : AxisCmd :=
  { CMD_SEQ := bitsAt n 0 16,
    MODE_REQ := bitsAt n 16 8,
    ARG := bitsAt n 24 8,
    TARGET := bitsAt n 32 32,
    VEL := bitsAt n 64 16,
    VQUAL := bitsAt n 84 4,
    PROF_VEL := bitsAt n 96 16 }

/-- The layout as the module reads it out of bytes (R299). -/
def AxisCmd.ofBytes (bs : List Byte) : AxisCmd := AxisCmd.ofBits (ofLe bs)

/-- The head of a segment table, 16 bytes (R303). -/
structure TableHead where
  TABLE_ID : BitVec 8  -- 0 to 15
  N_SEG : BitVec 8  -- 1 to 64
  REL : BitVec 1  -- 1: positions relative to the position at start
  NEXT : BitVec 8  -- Table chained at the end; 0xFF none
  V_START : BitVec 32  -- Velocity at the start of segment 0
  deriving DecidableEq, Repr

/-- The layout's default (R303). -/
def TableHead.dflt : TableHead :=
  { TABLE_ID := 0#8,
    N_SEG := 0#8,
    REL := 0#1,
    NEXT := 255#8,
    V_START := 0#32 }

/-- Its fields from the lowest bit up, each with its width; reserved fields are 0. -/
def TableHead.fields (x : TableHead) : List (Nat × Nat) :=
  [(8, x.TABLE_ID.toNat), (8, x.N_SEG.toNat), (1, x.REL.toNat), (7, 0), (8, x.NEXT.toNat), (32, x.V_START.toNat), (64, 0)]

/-- Its bytes as the module stores or sends them (R303). -/
def TableHead.toBytes (x : TableHead) : List Byte := leBytes 16 (pack (x.fields))

/-- The layout as it is read out of a number that holds its bits. -/
def TableHead.ofBits (n : Nat) : TableHead :=
  { TABLE_ID := bitsAt n 0 8,
    N_SEG := bitsAt n 8 8,
    REL := bitsAt n 16 1,
    NEXT := bitsAt n 24 8,
    V_START := bitsAt n 32 32 }

/-- The layout as the module reads it out of bytes (R303). -/
def TableHead.ofBytes (bs : List Byte) : TableHead := TableHead.ofBits (ofLe bs)

/-- One segment of a table, 16 bytes (R303). -/
structure Segment where
  DUR_US : BitVec 32  -- duration, 10 to 10,000,000 µs
  POS : BitVec 32  -- end position
  VEL : BitVec 32  -- end velocity
  deriving DecidableEq, Repr

/-- The layout's default (R303). -/
def Segment.dflt : Segment :=
  { DUR_US := 0#32,
    POS := 0#32,
    VEL := 0#32 }

/-- Its fields from the lowest bit up, each with its width; reserved fields are 0. -/
def Segment.fields (x : Segment) : List (Nat × Nat) :=
  [(32, x.DUR_US.toNat), (32, x.POS.toNat), (32, x.VEL.toNat), (32, 0)]

/-- Its bytes as the module stores or sends them (R303). -/
def Segment.toBytes (x : Segment) : List Byte := leBytes 16 (pack (x.fields))

/-- The layout as it is read out of a number that holds its bits. -/
def Segment.ofBits (n : Nat) : Segment :=
  { DUR_US := bitsAt n 0 32,
    POS := bitsAt n 32 32,
    VEL := bitsAt n 64 32 }

/-- The layout as the module reads it out of bytes (R303). -/
def Segment.ofBytes (bs : List Byte) : Segment := Segment.ofBits (ofLe bs)

/-- The gear record of an axis, 16 bytes at IMAGE 0x0380 + 16·n (R305). -/
structure GearRec where
  MASTER_ENC : BitVec 8  -- ENC0 to ENC7
  GSEQ : BitVec 8  -- A new ratio is armed when this changes
  AT_POS : BitVec 1  -- 1: apply at CHANGE_POS; 0: apply at once
  NUM : BitVec 32  -- Fine steps per master count, numerator; |NUM/DEN|≤ 65536
  DEN : BitVec 32  -- Denominator, not 0
  CHANGE_POS : BitVec 32  -- Master count at which the ratio changes
  deriving DecidableEq, Repr

/-- The layout's default (R305). -/
def GearRec.dflt : GearRec :=
  { MASTER_ENC := 0#8,
    GSEQ := 0#8,
    AT_POS := 0#1,
    NUM := 1#32,
    DEN := 1#32,
    CHANGE_POS := 0#32 }

/-- Its fields from the lowest bit up, each with its width; reserved fields are 0. -/
def GearRec.fields (x : GearRec) : List (Nat × Nat) :=
  [(8, x.MASTER_ENC.toNat), (8, x.GSEQ.toNat), (1, x.AT_POS.toNat), (7, 0), (8, 0), (32, x.NUM.toNat), (32, x.DEN.toNat), (32, x.CHANGE_POS.toNat)]

/-- Its bytes as the module stores or sends them (R305). -/
def GearRec.toBytes (x : GearRec) : List Byte := leBytes 16 (pack (x.fields))

/-- The layout as it is read out of a number that holds its bits. -/
def GearRec.ofBits (n : Nat) : GearRec :=
  { MASTER_ENC := bitsAt n 0 8,
    GSEQ := bitsAt n 8 8,
    AT_POS := bitsAt n 16 1,
    NUM := bitsAt n 32 32,
    DEN := bitsAt n 64 32,
    CHANGE_POS := bitsAt n 96 32 }

/-- The layout as the module reads it out of bytes (R305). -/
def GearRec.ofBytes (bs : List Byte) : GearRec := GearRec.ofBits (ofLe bs)

/-- The encoder record, 16 bytes at IMAGE 0x0400 + 16·k (R317). -/
structure EncRec where
  COUNT : BitVec 32  -- Count at the motion tick
  Z_COUNT : BitVec 32  -- Count at the last Z edge
  QUAD_ERR : BitVec 1  -- Sticky
  Z_SEEN : BitVec 1  -- A Z edge has been captured since reset
  QUAL : BitVec 4  -- Quality nibble
  Z_SEQ : BitVec 16  -- Increments at each Z edge
  deriving DecidableEq, Repr

/-- The layout's default (R317). -/
def EncRec.dflt : EncRec :=
  { COUNT := 0#32,
    Z_COUNT := 0#32,
    QUAD_ERR := 0#1,
    Z_SEEN := 0#1,
    QUAL := 11#4,
    Z_SEQ := 0#16 }

/-- Its fields from the lowest bit up, each with its width; reserved fields are 0. -/
def EncRec.fields (x : EncRec) : List (Nat × Nat) :=
  [(32, x.COUNT.toNat), (32, x.Z_COUNT.toNat), (1, x.QUAD_ERR.toNat), (1, x.Z_SEEN.toNat), (2, 0), (4, x.QUAL.toNat), (8, 0), (16, x.Z_SEQ.toNat), (32, 0)]

/-- Its bytes as the module stores or sends them (R317). -/
def EncRec.toBytes (x : EncRec) : List Byte := leBytes 16 (pack (x.fields))

/-- The layout as it is read out of a number that holds its bits. -/
def EncRec.ofBits (n : Nat) : EncRec :=
  { COUNT := bitsAt n 0 32,
    Z_COUNT := bitsAt n 32 32,
    QUAD_ERR := bitsAt n 64 1,
    Z_SEEN := bitsAt n 65 1,
    QUAL := bitsAt n 68 4,
    Z_SEQ := bitsAt n 80 16 }

/-- The layout as the module reads it out of bytes (R317). -/
def EncRec.ofBytes (bs : List Byte) : EncRec := EncRec.ofBits (ofLe bs)

/-- The encoder descriptor, 16 bytes (R317). -/
structure EncDesc where
  ENC_ID : BitVec 8  -- 0 to 7
  MODE : BitVec 8  -- 0 unused, 1 quadrature
  INVERT : BitVec 1  -- 1: count direction reversed
  Z_POL : BitVec 1  -- 1: Z active low
  GLITCH_NS : BitVec 8  -- Edges shorter than this are ignored; 0 to 40, multiple of 4
  deriving DecidableEq, Repr

/-- The layout's default (R317). -/
def EncDesc.dflt : EncDesc :=
  { ENC_ID := 0#8,
    MODE := 0#8,
    INVERT := 0#1,
    Z_POL := 0#1,
    GLITCH_NS := 0#8 }

/-- Its fields from the lowest bit up, each with its width; reserved fields are 0. -/
def EncDesc.fields (x : EncDesc) : List (Nat × Nat) :=
  [(8, x.ENC_ID.toNat), (8, x.MODE.toNat), (1, x.INVERT.toNat), (1, x.Z_POL.toNat), (6, 0), (8, x.GLITCH_NS.toNat), (32, 0), (64, 0)]

/-- Its bytes as the module stores or sends them (R317). -/
def EncDesc.toBytes (x : EncDesc) : List Byte := leBytes 16 (pack (x.fields))

/-- The layout as it is read out of a number that holds its bits. -/
def EncDesc.ofBits (n : Nat) : EncDesc :=
  { ENC_ID := bitsAt n 0 8,
    MODE := bitsAt n 8 8,
    INVERT := bitsAt n 16 1,
    Z_POL := bitsAt n 17 1,
    GLITCH_NS := bitsAt n 24 8 }

/-- The layout as the module reads it out of bytes (R317). -/
def EncDesc.ofBytes (bs : List Byte) : EncDesc := EncDesc.ofBits (ofLe bs)

/-- The axis descriptor, 64 bytes (R318). -/
structure AxisDesc where
  AXIS_ID : BitVec 8  -- 0 to 7
  STEP_POL : BitVec 1  -- 1: STEP active low
  DIR_INVERT : BitVec 1  -- 1: DIR high means negative
  EN_POL : BitVec 1  -- 1: EN active low
  USED : BitVec 1  -- 1: axis in use
  KILL_EN_OFF : BitVec 1  -- 1: EN inactive while T8 is killed
  NO_REV : BitVec 2  -- R301; 3 refused
  RES_MODE : BitVec 8  -- 0 to 2 (R308)
  RES_CODE : BitVec 8  -- 0 to 7
  STEP_HIGH_NS : BitVec 16  -- R296
  DIR_SETUP_NS : BitVec 16  -- 20 to 10,000
  PULSE_MAX_HZ : BitVec 32  -- 1000 to 5,000,000
  VEL_MAX : BitVec 32  -- Fine steps/s
  VEL_START : BitVec 32  -- Fine steps/s, at most VEL_MAX
  ACC : BitVec 32  -- Fine steps/s², not 0
  DEC : BitVec 32  -- Fine steps/s², not 0
  DEC_QUICK : BitVec 32  -- Fine steps/s², at least DEC
  MODULO_FS : BitVec 32  -- Full steps per turn; 0 linear
  LIM_POS_DIO : BitVec 8  -- DIO input; 0xFF none
  LIM_NEG_DIO : BitVec 8  -- DIO input; 0xFF none
  HOME_DIO : BitVec 8  -- DIO input; 0xFF none
  HOME_METHOD : BitVec 8  -- 1 to 4 (R312)
  HOME_ENC : BitVec 8  -- Encoder for method 3
  HOME_DIR : BitVec 8  -- 0 positive, 1 negative
  SW_STABLE_MS : BitVec 16  -- 1 to 1000
  HOME_FAST : BitVec 32  -- Fine steps/s
  HOME_VEL : BitVec 32  -- Fine steps/s
  HOME_POS : BitVec 32  -- Position given to the captured point
  HOME_TIMEOUT_S : BitVec 16  -- 1 to 3600
  CHATTER_MAX : BitVec 8  -- 0 to 255
  LIMIT_ACTION : BitVec 8  -- 0 quick stop, 1 immediate stop
  EN_DELAY_US : BitVec 16  -- 0 to 65535
  LAG_MAX_FS : BitVec 16  -- Full steps, 1 to 65535
  deriving DecidableEq, Repr

/-- The layout's default (R318). -/
def AxisDesc.dflt : AxisDesc :=
  { AXIS_ID := 0#8,
    STEP_POL := 0#1,
    DIR_INVERT := 0#1,
    EN_POL := 0#1,
    USED := 0#1,
    KILL_EN_OFF := 0#1,
    NO_REV := 0#2,
    RES_MODE := 0#8,
    RES_CODE := 7#8,
    STEP_HIGH_NS := 100#16,
    DIR_SETUP_NS := 200#16,
    PULSE_MAX_HZ := 0x4C4B40#32,
    VEL_MAX := 0x3E800#32,
    VEL_START := 0#32,
    ACC := 0x7D000#32,
    DEC := 0x7D000#32,
    DEC_QUICK := 0x1F4000#32,
    MODULO_FS := 0#32,
    LIM_POS_DIO := 255#8,
    LIM_NEG_DIO := 255#8,
    HOME_DIO := 255#8,
    HOME_METHOD := 4#8,
    HOME_ENC := 255#8,
    HOME_DIR := 0#8,
    SW_STABLE_MS := 5#16,
    HOME_FAST := 0xFA00#32,
    HOME_VEL := 0x1900#32,
    HOME_POS := 0#32,
    HOME_TIMEOUT_S := 120#16,
    CHATTER_MAX := 3#8,
    LIMIT_ACTION := 0#8,
    EN_DELAY_US := 1000#16,
    LAG_MAX_FS := 100#16 }

/-- Its fields from the lowest bit up, each with its width; reserved fields are 0. -/
def AxisDesc.fields (x : AxisDesc) : List (Nat × Nat) :=
  [(8, x.AXIS_ID.toNat), (1, x.STEP_POL.toNat), (1, x.DIR_INVERT.toNat), (1, x.EN_POL.toNat), (1, x.USED.toNat), (1, x.KILL_EN_OFF.toNat), (1, 0), (2, x.NO_REV.toNat), (8, x.RES_MODE.toNat), (8, x.RES_CODE.toNat), (16, x.STEP_HIGH_NS.toNat), (16, x.DIR_SETUP_NS.toNat), (32, x.PULSE_MAX_HZ.toNat), (32, x.VEL_MAX.toNat), (32, x.VEL_START.toNat), (32, x.ACC.toNat), (32, x.DEC.toNat), (32, x.DEC_QUICK.toNat), (32, x.MODULO_FS.toNat), (8, x.LIM_POS_DIO.toNat), (8, x.LIM_NEG_DIO.toNat), (8, x.HOME_DIO.toNat), (8, x.HOME_METHOD.toNat), (8, x.HOME_ENC.toNat), (8, x.HOME_DIR.toNat), (16, x.SW_STABLE_MS.toNat), (32, x.HOME_FAST.toNat), (32, x.HOME_VEL.toNat), (32, x.HOME_POS.toNat), (16, x.HOME_TIMEOUT_S.toNat), (8, x.CHATTER_MAX.toNat), (8, x.LIMIT_ACTION.toNat), (16, x.EN_DELAY_US.toNat), (16, x.LAG_MAX_FS.toNat)]

/-- Its bytes as the module stores or sends them (R318). -/
def AxisDesc.toBytes (x : AxisDesc) : List Byte := leBytes 64 (pack (x.fields))

/-- The layout as it is read out of a number that holds its bits. -/
def AxisDesc.ofBits (n : Nat) : AxisDesc :=
  { AXIS_ID := bitsAt n 0 8,
    STEP_POL := bitsAt n 8 1,
    DIR_INVERT := bitsAt n 9 1,
    EN_POL := bitsAt n 10 1,
    USED := bitsAt n 11 1,
    KILL_EN_OFF := bitsAt n 12 1,
    NO_REV := bitsAt n 14 2,
    RES_MODE := bitsAt n 16 8,
    RES_CODE := bitsAt n 24 8,
    STEP_HIGH_NS := bitsAt n 32 16,
    DIR_SETUP_NS := bitsAt n 48 16,
    PULSE_MAX_HZ := bitsAt n 64 32,
    VEL_MAX := bitsAt n 96 32,
    VEL_START := bitsAt n 128 32,
    ACC := bitsAt n 160 32,
    DEC := bitsAt n 192 32,
    DEC_QUICK := bitsAt n 224 32,
    MODULO_FS := bitsAt n 256 32,
    LIM_POS_DIO := bitsAt n 288 8,
    LIM_NEG_DIO := bitsAt n 296 8,
    HOME_DIO := bitsAt n 304 8,
    HOME_METHOD := bitsAt n 312 8,
    HOME_ENC := bitsAt n 320 8,
    HOME_DIR := bitsAt n 328 8,
    SW_STABLE_MS := bitsAt n 336 16,
    HOME_FAST := bitsAt n 352 32,
    HOME_VEL := bitsAt n 384 32,
    HOME_POS := bitsAt n 416 32,
    HOME_TIMEOUT_S := bitsAt n 448 16,
    CHATTER_MAX := bitsAt n 464 8,
    LIMIT_ACTION := bitsAt n 472 8,
    EN_DELAY_US := bitsAt n 480 16,
    LAG_MAX_FS := bitsAt n 496 16 }

/-- The layout as the module reads it out of bytes (R318). -/
def AxisDesc.ofBytes (bs : List Byte) : AxisDesc := AxisDesc.ofBits (ofLe bs)

/-- The status record of an axis, 32 bytes at IMAGE 0x0280 + 32·n (R319). -/
structure AxisStat where
  STATE : BitVec 8  -- 0 DISABLED, 1 IDLE, 2 POSITION, 3 VELOCITY, 4 TABLE, 5 GEAR, 6 HOMING, 7 STOPPING
  RES_NOW : BitVec 3  -- Code latched in the drive
  QUAL : BitVec 4  -- Quality nibble
  ACK_SEQ : BitVec 16  -- Last CMD_SEQ taken
  EN_ON : BitVec 1  -- R300
  AT_TARGET : BitVec 1  -- R301
  REVERSING : BitVec 1  -- R301
  TARGET_REFUSED : BitVec 1  -- The last request was refused
  VEL_SRC_BAD : BitVec 1  -- R302
  LIMIT_POS : BitVec 1  -- R311
  LIMIT_NEG : BitVec 1  -- R311
  KILLED : BitVec 1  -- T8 killed
  BT_ACTIVE : BitVec 1  -- R229
  RES_CLAMP : BitVec 1  -- R309
  DRIVE_LINK_FAULT : BitVec 1  -- R310
  POSITION_UNCERTAIN : BitVec 1  -- R314
  HOMED : BitVec 1  -- R312
  HOME_FAIL : BitVec 1  -- R313
  GEAR_FAULT : BitVec 1  -- R306
  GEAR_SYNC : BitVec 1  -- R306
  CHANGE_ARMED : BitVec 1  -- R307
  CHAIN_BREAK : BitVec 1  -- R304
  POS : BitVec 32  -- Position
  VEL : BitVec 32  -- Velocity
  SEG : BitVec 8  -- Running segment
  TABLE : BitVec 8  -- Running table
  REFUSE : BitVec 16  -- Reason of the last refusal or failed homing or gearing
  LAG : BitVec 32  -- R306
  STATUS_TS : BitVec 64  -- Motion tick of this record
  deriving DecidableEq, Repr

/-- The layout's default (R319). -/
def AxisStat.dflt : AxisStat :=
  { STATE := 0#8,
    RES_NOW := 0#3,
    QUAL := 11#4,
    ACK_SEQ := 0#16,
    EN_ON := 0#1,
    AT_TARGET := 0#1,
    REVERSING := 0#1,
    TARGET_REFUSED := 0#1,
    VEL_SRC_BAD := 0#1,
    LIMIT_POS := 0#1,
    LIMIT_NEG := 0#1,
    KILLED := 0#1,
    BT_ACTIVE := 0#1,
    RES_CLAMP := 0#1,
    DRIVE_LINK_FAULT := 0#1,
    POSITION_UNCERTAIN := 1#1,
    HOMED := 0#1,
    HOME_FAIL := 0#1,
    GEAR_FAULT := 0#1,
    GEAR_SYNC := 0#1,
    CHANGE_ARMED := 0#1,
    CHAIN_BREAK := 0#1,
    POS := 0#32,
    VEL := 0#32,
    SEG := 0#8,
    TABLE := 255#8,
    REFUSE := 0#16,
    LAG := 0#32,
    STATUS_TS := 0#64 }

/-- Its fields from the lowest bit up, each with its width; reserved fields are 0. -/
def AxisStat.fields (x : AxisStat) : List (Nat × Nat) :=
  [(8, x.STATE.toNat), (3, x.RES_NOW.toNat), (1, 0), (4, x.QUAL.toNat), (16, x.ACK_SEQ.toNat), (1, x.EN_ON.toNat), (1, x.AT_TARGET.toNat), (1, x.REVERSING.toNat), (1, x.TARGET_REFUSED.toNat), (1, x.VEL_SRC_BAD.toNat), (1, x.LIMIT_POS.toNat), (1, x.LIMIT_NEG.toNat), (1, x.KILLED.toNat), (1, x.BT_ACTIVE.toNat), (1, x.RES_CLAMP.toNat), (1, x.DRIVE_LINK_FAULT.toNat), (1, x.POSITION_UNCERTAIN.toNat), (1, x.HOMED.toNat), (1, x.HOME_FAIL.toNat), (1, x.GEAR_FAULT.toNat), (1, x.GEAR_SYNC.toNat), (1, x.CHANGE_ARMED.toNat), (1, x.CHAIN_BREAK.toNat), (14, 0), (32, x.POS.toNat), (32, x.VEL.toNat), (8, x.SEG.toNat), (8, x.TABLE.toNat), (16, x.REFUSE.toNat), (32, x.LAG.toNat), (64, x.STATUS_TS.toNat)]

/-- Its bytes as the module stores or sends them (R319). -/
def AxisStat.toBytes (x : AxisStat) : List Byte := leBytes 32 (pack (x.fields))

/-- The layout as it is read out of a number that holds its bits. -/
def AxisStat.ofBits (n : Nat) : AxisStat :=
  { STATE := bitsAt n 0 8,
    RES_NOW := bitsAt n 8 3,
    QUAL := bitsAt n 12 4,
    ACK_SEQ := bitsAt n 16 16,
    EN_ON := bitsAt n 32 1,
    AT_TARGET := bitsAt n 33 1,
    REVERSING := bitsAt n 34 1,
    TARGET_REFUSED := bitsAt n 35 1,
    VEL_SRC_BAD := bitsAt n 36 1,
    LIMIT_POS := bitsAt n 37 1,
    LIMIT_NEG := bitsAt n 38 1,
    KILLED := bitsAt n 39 1,
    BT_ACTIVE := bitsAt n 40 1,
    RES_CLAMP := bitsAt n 41 1,
    DRIVE_LINK_FAULT := bitsAt n 42 1,
    POSITION_UNCERTAIN := bitsAt n 43 1,
    HOMED := bitsAt n 44 1,
    HOME_FAIL := bitsAt n 45 1,
    GEAR_FAULT := bitsAt n 46 1,
    GEAR_SYNC := bitsAt n 47 1,
    CHANGE_ARMED := bitsAt n 48 1,
    CHAIN_BREAK := bitsAt n 49 1,
    POS := bitsAt n 64 32,
    VEL := bitsAt n 96 32,
    SEG := bitsAt n 128 8,
    TABLE := bitsAt n 136 8,
    REFUSE := bitsAt n 144 16,
    LAG := bitsAt n 160 32,
    STATUS_TS := bitsAt n 192 64 }

/-- The layout as the module reads it out of bytes (R319). -/
def AxisStat.ofBytes (bs : List Byte) : AxisStat := AxisStat.ofBits (ofLe bs)

/-- The counters that follow the status record in MOT_STATUS, 32 bytes (R320). -/
structure AxisCount where
  IMMEDIATE_STOPS : BitVec 16  -- R314
  LOST_COUNT : BitVec 16  -- Stops with position loss
  RES_CHANGES : BitVec 32  -- Codes latched
  RES_CLAMP_COUNT : BitVec 16  -- R309
  REFUSED_COUNT : BitVec 16  -- R300
  LIMIT_TRIPS : BitVec 16  -- R311
  CHATTER_COUNT : BitVec 16  -- R311, R313
  HOME_COUNT : BitVec 16  -- Completed homings
  LINK_RESEND : BitVec 16  -- R310
  LAST_STOP_TS : BitVec 64  -- Time of the last immediate stop
  deriving DecidableEq, Repr

/-- The layout's default (R320). -/
def AxisCount.dflt : AxisCount :=
  { IMMEDIATE_STOPS := 0#16,
    LOST_COUNT := 0#16,
    RES_CHANGES := 0#32,
    RES_CLAMP_COUNT := 0#16,
    REFUSED_COUNT := 0#16,
    LIMIT_TRIPS := 0#16,
    CHATTER_COUNT := 0#16,
    HOME_COUNT := 0#16,
    LINK_RESEND := 0#16,
    LAST_STOP_TS := 0#64 }

/-- Its fields from the lowest bit up, each with its width; reserved fields are 0. -/
def AxisCount.fields (x : AxisCount) : List (Nat × Nat) :=
  [(16, x.IMMEDIATE_STOPS.toNat), (16, x.LOST_COUNT.toNat), (32, x.RES_CHANGES.toNat), (16, x.RES_CLAMP_COUNT.toNat), (16, x.REFUSED_COUNT.toNat), (16, x.LIMIT_TRIPS.toNat), (16, x.CHATTER_COUNT.toNat), (16, x.HOME_COUNT.toNat), (16, x.LINK_RESEND.toNat), (32, 0), (64, x.LAST_STOP_TS.toNat)]

/-- Its bytes as the module stores or sends them (R320). -/
def AxisCount.toBytes (x : AxisCount) : List Byte := leBytes 32 (pack (x.fields))

/-- The layout as it is read out of a number that holds its bits. -/
def AxisCount.ofBits (n : Nat) : AxisCount :=
  { IMMEDIATE_STOPS := bitsAt n 0 16,
    LOST_COUNT := bitsAt n 16 16,
    RES_CHANGES := bitsAt n 32 32,
    RES_CLAMP_COUNT := bitsAt n 64 16,
    REFUSED_COUNT := bitsAt n 80 16,
    LIMIT_TRIPS := bitsAt n 96 16,
    CHATTER_COUNT := bitsAt n 112 16,
    HOME_COUNT := bitsAt n 128 16,
    LINK_RESEND := bitsAt n 144 16,
    LAST_STOP_TS := bitsAt n 192 64 }

/-- The layout as the module reads it out of bytes (R320). -/
def AxisCount.ofBytes (bs : List Byte) : AxisCount := AxisCount.ofBits (ofLe bs)

end Sys2Proof.Machine
end

