-- ==== Sys2Proof/Machine/LayoutHost.lean ====
section
/-! DEFINITION. The layouts of Flowstone, the panel, start-up and the mailboxes (chapters 17 to 20): each a structure with the spec's field
names, its default, its bytes and its reading from bytes. -/

namespace Sys2Proof.Machine

/-- A Flowstone record, 64 bytes (R408). -/
structure FlowRec where
  SEQ : BitVec 48  -- Sequence number (R409)
  SEVERITY : BitVec 3  -- 0 DEBUG, 1 INFO, 2 NOTICE, 3 WARNING, 4 ALARM, 5 TRIP, 6 SAFETY, 7 FATAL
  TIME_INVALID : BitVec 1  -- TIME_VALID (R357) was clear when TS was taken
  STEP_SEQ : BitVec 8  -- STEP_SEQ of the time record (R358) when TS was taken
  TS : BitVec 64  -- Local time of the event, with offset and rate applied
  SRC_INST : BitVec 8  -- Instance within the family: task, loop, channel, slot, axis, controller or session …
  SRC_FAMILY : BitVec 8  -- Subsystem, numbered as the command families (R11)
  CODE : BitVec 16  -- Event code. Its high byte is SRC_FAMILY. Where the event is a refusal, CODE is the …
  SESSION : BitVec 8  -- Session that caused the event, 0 to 16; 0xFF none
  PAYLOAD : BitVec 256  -- Event data, laid out per CODE
  BOOT_COUNT : BitVec 32  -- Boots of the module since manufacture
  CRC : BitVec 32  -- CRC of the record
  deriving DecidableEq, Repr

/-- The layout's default (R408). -/
def FlowRec.dflt : FlowRec :=
  { SEQ := 0#48,
    SEVERITY := 0#3,
    TIME_INVALID := 0#1,
    STEP_SEQ := 0#8,
    TS := 0#64,
    SRC_INST := 0#8,
    SRC_FAMILY := 0#8,
    CODE := 0#16,
    SESSION := 255#8,
    PAYLOAD := 0#256,
    BOOT_COUNT := 0#32,
    CRC := 0#32 }

/-- Its fields from the lowest bit up, each with its width; reserved fields are 0. -/
def FlowRec.fields (x : FlowRec) : List (Nat × Nat) :=
  [(48, x.SEQ.toNat), (3, x.SEVERITY.toNat), (1, x.TIME_INVALID.toNat), (4, 0), (8, x.STEP_SEQ.toNat), (64, x.TS.toNat), (8, x.SRC_INST.toNat), (8, x.SRC_FAMILY.toNat), (16, x.CODE.toNat), (8, x.SESSION.toNat), (8, 0), (16, 0), (256, x.PAYLOAD.toNat), (32, x.BOOT_COUNT.toNat), (32, x.CRC.toNat)]

/-- Its bytes as the module stores or sends them (R408). -/
def FlowRec.toBytes (x : FlowRec) : List Byte := leBytes 64 (pack (x.fields))

/-- The layout as it is read out of a number that holds its bits. -/
def FlowRec.ofBits (n : Nat) : FlowRec :=
  { SEQ := bitsAt n 0 48,
    SEVERITY := bitsAt n 48 3,
    TIME_INVALID := bitsAt n 51 1,
    STEP_SEQ := bitsAt n 56 8,
    TS := bitsAt n 64 64,
    SRC_INST := bitsAt n 128 8,
    SRC_FAMILY := bitsAt n 136 8,
    CODE := bitsAt n 144 16,
    SESSION := bitsAt n 160 8,
    PAYLOAD := bitsAt n 192 256,
    BOOT_COUNT := bitsAt n 448 32,
    CRC := bitsAt n 480 32 }

/-- The layout as the module reads it out of bytes (R408). -/
def FlowRec.ofBytes (bs : List Byte) : FlowRec := FlowRec.ofBits (ofLe bs)

/-- The header of a FLOW_READ reply, 16 bytes (R416). -/
structure FlowReadHead where
  HEAD_SEQ : BitVec 64  -- Last SEQ assigned, in bits 47:0
  COUNT : BitVec 8  -- Records returned, 0 to 63
  OVERWRITE_TOTAL : BitVec 32  -- Sum of OVERWRITTEN, saturating
  deriving DecidableEq, Repr

/-- The layout's default (R416). -/
def FlowReadHead.dflt : FlowReadHead :=
  { HEAD_SEQ := 0#64,
    COUNT := 0#8,
    OVERWRITE_TOTAL := 0#32 }

/-- Its fields from the lowest bit up, each with its width; reserved fields are 0. -/
def FlowReadHead.fields (x : FlowReadHead) : List (Nat × Nat) :=
  [(64, x.HEAD_SEQ.toNat), (8, x.COUNT.toNat), (8, 0), (16, 0), (32, x.OVERWRITE_TOTAL.toNat)]

/-- Its bytes as the module stores or sends them (R416). -/
def FlowReadHead.toBytes (x : FlowReadHead) : List Byte := leBytes 16 (pack (x.fields))

/-- The layout as it is read out of a number that holds its bits. -/
def FlowReadHead.ofBits (n : Nat) : FlowReadHead :=
  { HEAD_SEQ := bitsAt n 0 64,
    COUNT := bitsAt n 64 8,
    OVERWRITE_TOTAL := bitsAt n 96 32 }

/-- The layout as the module reads it out of bytes (R416). -/
def FlowReadHead.ofBytes (bs : List Byte) : FlowReadHead := FlowReadHead.ofBits (ofLe bs)

/-- The header of an export stream, 64 bytes (R417). -/
structure ExportHead where
  MAGIC : BitVec 32  -- The characters "FLWX"
  STATION_ADDR : BitVec 16  -- ADDR strap value
  FORMAT : BitVec 16  -- Stream format
  SERIAL : BitVec 64  -- Module serial number
  FROM_SEQ : BitVec 64  -- As requested
  TO_SEQ : BitVec 64  -- As requested, at most HEAD_SEQ
  EXPORT_TS : BitVec 64  -- Time at the start
  FW_VERSION : BitVec 32  -- Running firmware image
  MIN_SEV : BitVec 8  -- As requested
  deriving DecidableEq, Repr

/-- The layout's default (R417). -/
def ExportHead.dflt : ExportHead :=
  { MAGIC := 0x58574C46#32,
    STATION_ADDR := 0#16,
    FORMAT := 1#16,
    SERIAL := 0#64,
    FROM_SEQ := 0#64,
    TO_SEQ := 0#64,
    EXPORT_TS := 0#64,
    FW_VERSION := 0#32,
    MIN_SEV := 0#8 }

/-- Its fields from the lowest bit up, each with its width; reserved fields are 0. -/
def ExportHead.fields (x : ExportHead) : List (Nat × Nat) :=
  [(32, x.MAGIC.toNat), (16, x.STATION_ADDR.toNat), (16, x.FORMAT.toNat), (64, x.SERIAL.toNat), (64, x.FROM_SEQ.toNat), (64, x.TO_SEQ.toNat), (64, x.EXPORT_TS.toNat), (32, x.FW_VERSION.toNat), (8, x.MIN_SEV.toNat), (152, 0)]

/-- Its bytes as the module stores or sends them (R417). -/
def ExportHead.toBytes (x : ExportHead) : List Byte := leBytes 64 (pack (x.fields))

/-- The layout as it is read out of a number that holds its bits. -/
def ExportHead.ofBits (n : Nat) : ExportHead :=
  { MAGIC := bitsAt n 0 32,
    STATION_ADDR := bitsAt n 32 16,
    FORMAT := bitsAt n 48 16,
    SERIAL := bitsAt n 64 64,
    FROM_SEQ := bitsAt n 128 64,
    TO_SEQ := bitsAt n 192 64,
    EXPORT_TS := bitsAt n 256 64,
    FW_VERSION := bitsAt n 320 32,
    MIN_SEV := bitsAt n 352 8 }

/-- The layout as the module reads it out of bytes (R417). -/
def ExportHead.ofBytes (bs : List Byte) : ExportHead := ExportHead.ofBits (ofLe bs)

/-- The trailer of an export stream, 128 bytes (R417). -/
structure ExportTail where
  N_RECORDS : BitVec 32  -- Records in the stream
  N_ABSENT : BitVec 32  -- SEQ values absent in the range
  COUNTERS : BitVec 448  -- Bytes 0x40 to 0x77 of the status (R419) at the end
  SIGNATURE : BitVec 512  -- Ed25519 over header, records and trailer bytes 0x00 to 0x3F, made with the module's …
  deriving DecidableEq, Repr

/-- The layout's default (R417). -/
def ExportTail.dflt : ExportTail :=
  { N_RECORDS := 0#32,
    N_ABSENT := 0#32,
    COUNTERS := 0#448,
    SIGNATURE := 0#512 }

/-- Its fields from the lowest bit up, each with its width; reserved fields are 0. -/
def ExportTail.fields (x : ExportTail) : List (Nat × Nat) :=
  [(32, x.N_RECORDS.toNat), (32, x.N_ABSENT.toNat), (448, x.COUNTERS.toNat), (512, x.SIGNATURE.toNat)]

/-- Its bytes as the module stores or sends them (R417). -/
def ExportTail.toBytes (x : ExportTail) : List Byte := leBytes 128 (pack (x.fields))

/-- The layout as it is read out of a number that holds its bits. -/
def ExportTail.ofBits (n : Nat) : ExportTail :=
  { N_RECORDS := bitsAt n 0 32,
    N_ABSENT := bitsAt n 32 32,
    COUNTERS := bitsAt n 64 448,
    SIGNATURE := bitsAt n 512 512 }

/-- The layout as the module reads it out of bytes (R417). -/
def ExportTail.ofBytes (bs : List Byte) : ExportTail := ExportTail.ofBits (ofLe bs)

/-- The recorder descriptor, 16 bytes (R418). -/
structure FlowDesc where
  MIN_SEVERITY : BitVec 8  -- 0 to 4 (R411)
  TASK_MAX_SEV : BitVec 8  -- 1 to 5 (R410)
  RATE_LIMIT : BitVec 32  -- Records of severity 0–3 per sliding 10 s, 10,000 to 1,000,000
  deriving DecidableEq, Repr

/-- The layout's default (R418). -/
def FlowDesc.dflt : FlowDesc :=
  { MIN_SEVERITY := 1#8,
    TASK_MAX_SEV := 5#8,
    RATE_LIMIT := 0xF4240#32 }

/-- Its fields from the lowest bit up, each with its width; reserved fields are 0. -/
def FlowDesc.fields (x : FlowDesc) : List (Nat × Nat) :=
  [(8, x.MIN_SEVERITY.toNat), (8, x.TASK_MAX_SEV.toNat), (16, 0), (32, x.RATE_LIMIT.toNat), (64, 0)]

/-- Its bytes as the module stores or sends them (R418). -/
def FlowDesc.toBytes (x : FlowDesc) : List Byte := leBytes 16 (pack (x.fields))

/-- The layout as it is read out of a number that holds its bits. -/
def FlowDesc.ofBits (n : Nat) : FlowDesc :=
  { MIN_SEVERITY := bitsAt n 0 8,
    TASK_MAX_SEV := bitsAt n 8 8,
    RATE_LIMIT := bitsAt n 32 32 }

/-- The layout as the module reads it out of bytes (R418). -/
def FlowDesc.ofBytes (bs : List Byte) : FlowDesc := FlowDesc.ofBits (ofLe bs)

/-- The recorder status, 128 bytes: sticky bits and counters (R419). -/
structure FlowStat where
  PF_LOST_SEEN : BitVec 1  -- Sticky: PF_LOST rose
  DROP_SEEN : BitVec 1  -- Sticky: a record was not staged, or was dropped under R414
  FILTERED : BitVec 32  -- R411
  TASK_REC_DROP : BitVec 32  -- R410
  LAST_OVERWRITE_SEQ : BitVec 64  -- R414
  FLUSH_COUNT : BitVec 32  -- Flushes completed
  OVERWRITTEN : Vector (BitVec 32) 8  -- Per severity of the record lost
  DROPPED_FULL : Vector (BitVec 16) 8  -- Per severity of the record dropped (R414)
  STAGE_DROP : BitVec 32  -- R411
  RATE_DROP : BitVec 32  -- R411
  CRC_FREED : BitVec 32  -- R415
  deriving DecidableEq, Repr

/-- The layout's default (R419). -/
def FlowStat.dflt : FlowStat :=
  { PF_LOST_SEEN := 0#1,
    DROP_SEEN := 0#1,
    FILTERED := 0#32,
    TASK_REC_DROP := 0#32,
    LAST_OVERWRITE_SEQ := 0#64,
    FLUSH_COUNT := 0#32,
    OVERWRITTEN := Vector.replicate 8 0#32,
    DROPPED_FULL := Vector.replicate 8 0#16,
    STAGE_DROP := 0#32,
    RATE_DROP := 0#32,
    CRC_FREED := 0#32 }

/-- Its fields from the lowest bit up, each with its width; reserved fields are 0, and the fields that report a state held elsewhere are given. -/
def FlowStat.fields (x : FlowStat) (COMPACT_HELD : Nat) (LOG_FULL : Nat) (FLUSHING : Nat) (EXPORT_ACTIVE : Nat) (STAGED : Nat) (HEAD_SEQ : Nat) (FLUSHED_SEQ : Nat) (OLDEST_SEQ : Nat) (LOG_RECORDS : Nat) (BOOT_COUNT : Nat) (PF_LOST : Nat) : List (Nat × Nat) :=
  [(1, x.PF_LOST_SEEN.toNat), (1, COMPACT_HELD), (1, LOG_FULL), (1, x.DROP_SEEN.toNat), (1, FLUSHING), (1, EXPORT_ACTIVE), (26, 0), (32, STAGED), (64, HEAD_SEQ), (64, FLUSHED_SEQ), (64, OLDEST_SEQ), (32, LOG_RECORDS), (32, BOOT_COUNT), (32, x.FILTERED.toNat), (32, x.TASK_REC_DROP.toNat), (64, x.LAST_OVERWRITE_SEQ.toNat), (32, x.FLUSH_COUNT.toNat), (32, 0)]
  ++ x.OVERWRITTEN.toList.map (fun v => (32, v.toNat))
  ++ x.DROPPED_FULL.toList.map (fun v => (16, v.toNat))
  ++ [(32, x.STAGE_DROP.toNat), (32, x.RATE_DROP.toNat), (32, PF_LOST), (32, x.CRC_FREED.toNat)]

/-- Its bytes as the module stores or sends them (R419). -/
def FlowStat.toBytes (x : FlowStat) (COMPACT_HELD : Nat) (LOG_FULL : Nat) (FLUSHING : Nat) (EXPORT_ACTIVE : Nat) (STAGED : Nat) (HEAD_SEQ : Nat) (FLUSHED_SEQ : Nat) (OLDEST_SEQ : Nat) (LOG_RECORDS : Nat) (BOOT_COUNT : Nat) (PF_LOST : Nat) : List Byte := leBytes 128 (pack (x.fields COMPACT_HELD LOG_FULL FLUSHING EXPORT_ACTIVE STAGED HEAD_SEQ FLUSHED_SEQ OLDEST_SEQ LOG_RECORDS BOOT_COUNT PF_LOST))

/-- The layout as it is read out of a number that holds its bits. -/
def FlowStat.ofBits (n : Nat) : FlowStat :=
  { PF_LOST_SEEN := bitsAt n 0 1,
    DROP_SEEN := bitsAt n 3 1,
    FILTERED := bitsAt n 320 32,
    TASK_REC_DROP := bitsAt n 352 32,
    LAST_OVERWRITE_SEQ := bitsAt n 384 64,
    FLUSH_COUNT := bitsAt n 448 32,
    OVERWRITTEN := Vector.ofFn fun i => bitsAt n (512 + 32 * i.val) 32,
    DROPPED_FULL := Vector.ofFn fun i => bitsAt n (768 + 16 * i.val) 16,
    STAGE_DROP := bitsAt n 896 32,
    RATE_DROP := bitsAt n 928 32,
    CRC_FREED := bitsAt n 992 32 }

/-- The layout as the module reads it out of bytes (R419). -/
def FlowStat.ofBytes (bs : List Byte) : FlowStat := FlowStat.ofBits (ofLe bs)

/-- An entry of the PANEL journal, 16 bytes (R431). -/
structure JournalEntry where
  X : BitVec 16  -- Rectangle
  Y : BitVec 16
  W : BitVec 16
  H : BitVec 16
  ZONE : BitVec 8  -- 0 to 3
  PHASE : BitVec 8  -- Phase of the update
  STATE : BitVec 8  -- 0 free, 1 open, 2 balanced after abort, 3 ended unbalanced
  UPD_SEQ : BitVec 32  -- Update number
  deriving DecidableEq, Repr

/-- The layout's default (R431). -/
def JournalEntry.dflt : JournalEntry :=
  { X := 0#16,
    Y := 0#16,
    W := 0#16,
    H := 0#16,
    ZONE := 0#8,
    PHASE := 0#8,
    STATE := 0#8,
    UPD_SEQ := 0#32 }

/-- Its fields from the lowest bit up, each with its width; reserved fields are 0. -/
def JournalEntry.fields (x : JournalEntry) : List (Nat × Nat) :=
  [(16, x.X.toNat), (16, x.Y.toNat), (16, x.W.toNat), (16, x.H.toNat), (8, x.ZONE.toNat), (8, x.PHASE.toNat), (8, x.STATE.toNat), (8, 0), (32, x.UPD_SEQ.toNat)]

/-- Its bytes as the module stores or sends them (R431). -/
def JournalEntry.toBytes (x : JournalEntry) : List Byte := leBytes 16 (pack (x.fields))

/-- The layout as it is read out of a number that holds its bits. -/
def JournalEntry.ofBits (n : Nat) : JournalEntry :=
  { X := bitsAt n 0 16,
    Y := bitsAt n 16 16,
    W := bitsAt n 32 16,
    H := bitsAt n 48 16,
    ZONE := bitsAt n 64 8,
    PHASE := bitsAt n 72 8,
    STATE := bitsAt n 80 8,
    UPD_SEQ := bitsAt n 96 32 }

/-- The layout as the module reads it out of bytes (R431). -/
def JournalEntry.ofBytes (bs : List Byte) : JournalEntry := JournalEntry.ofBits (ofLe bs)

/-- The panel descriptor, 16 bytes (R433). -/
structure PanelDesc where
  WIDTH : BitVec 16  -- 64 to 1024, multiple of 8
  HEIGHT : BitVec 16  -- 16 to 768
  ZONE_END : Vector (BitVec 16) 4  -- Last row + 1 of each zone, ascending; 0 unused
  IDLE_MS : BitVec 16  -- 10 to 10000
  deriving DecidableEq, Repr

/-- The layout's default (R433). -/
def PanelDesc.dflt : PanelDesc :=
  { WIDTH := 1024#16,
    HEIGHT := 768#16,
    ZONE_END := #v[768#16, 0#16, 0#16, 0#16],
    IDLE_MS := 100#16 }

/-- Its fields from the lowest bit up, each with its width; reserved fields are 0. -/
def PanelDesc.fields (x : PanelDesc) : List (Nat × Nat) :=
  [(16, x.WIDTH.toNat), (16, x.HEIGHT.toNat)]
  ++ x.ZONE_END.toList.map (fun v => (16, v.toNat))
  ++ [(16, x.IDLE_MS.toNat), (16, 0)]

/-- Its bytes as the module stores or sends them (R433). -/
def PanelDesc.toBytes (x : PanelDesc) : List Byte := leBytes 16 (pack (x.fields))

/-- The layout as it is read out of a number that holds its bits. -/
def PanelDesc.ofBits (n : Nat) : PanelDesc :=
  { WIDTH := bitsAt n 0 16,
    HEIGHT := bitsAt n 16 16,
    ZONE_END := Vector.ofFn fun i => bitsAt n (32 + 16 * i.val) 16,
    IDLE_MS := bitsAt n 96 16 }

/-- The layout as the module reads it out of bytes (R433). -/
def PanelDesc.ofBytes (bs : List Byte) : PanelDesc := PanelDesc.ofBits (ofLe bs)

/-- The panel status, 32 bytes (R434). -/
structure PanelStat where
  ABORT_BAND : BitVec 16  -- R427
  UPDATES : BitVec 32  -- Updates completed
  ABORT_POWER : BitVec 16  -- R432
  JOURNAL_REDRAWS : BitVec 16  -- R432
  UNBALANCED : BitVec 16  -- R432
  LAST_UPD_SEQ : BitVec 32
  LAST_UPD_TS : BitVec 64  -- End of the last update
  deriving DecidableEq, Repr

/-- The layout's default (R434). -/
def PanelStat.dflt : PanelStat :=
  { ABORT_BAND := 0#16,
    UPDATES := 0#32,
    ABORT_POWER := 0#16,
    JOURNAL_REDRAWS := 0#16,
    UNBALANCED := 0#16,
    LAST_UPD_SEQ := 0#32,
    LAST_UPD_TS := 0#64 }

/-- Its fields from the lowest bit up, each with its width; reserved fields are 0, and the fields that report a state held elsewhere are given. -/
def PanelStat.fields (x : PanelStat) (RAILS_ON : Nat) (TEMP_FAULT : Nat) (TEMP_RANGE : Nat) (HELD : Nat) (BAND : Nat) (IN_FLIGHT : Nat) (QUEUED : Nat) (PHASES : Nat) (PANEL_T : Nat) : List (Nat × Nat) :=
  [(1, RAILS_ON), (1, TEMP_FAULT), (1, TEMP_RANGE), (1, HELD), (3, BAND), (4, IN_FLIGHT), (5, QUEUED), (4, PHASES), (12, 0), (16, PANEL_T), (16, x.ABORT_BAND.toNat), (32, x.UPDATES.toNat), (16, x.ABORT_POWER.toNat), (16, x.JOURNAL_REDRAWS.toNat), (16, x.UNBALANCED.toNat), (16, 0), (32, x.LAST_UPD_SEQ.toNat), (64, x.LAST_UPD_TS.toNat)]

/-- Its bytes as the module stores or sends them (R434). -/
def PanelStat.toBytes (x : PanelStat) (RAILS_ON : Nat) (TEMP_FAULT : Nat) (TEMP_RANGE : Nat) (HELD : Nat) (BAND : Nat) (IN_FLIGHT : Nat) (QUEUED : Nat) (PHASES : Nat) (PANEL_T : Nat) : List Byte := leBytes 32 (pack (x.fields RAILS_ON TEMP_FAULT TEMP_RANGE HELD BAND IN_FLIGHT QUEUED PHASES PANEL_T))

/-- The layout as it is read out of a number that holds its bits. -/
def PanelStat.ofBits (n : Nat) : PanelStat :=
  { ABORT_BAND := bitsAt n 48 16,
    UPDATES := bitsAt n 64 32,
    ABORT_POWER := bitsAt n 96 16,
    JOURNAL_REDRAWS := bitsAt n 112 16,
    UNBALANCED := bitsAt n 128 16,
    LAST_UPD_SEQ := bitsAt n 160 32,
    LAST_UPD_TS := bitsAt n 192 64 }

/-- The layout as the module reads it out of bytes (R434). -/
def PanelStat.ofBytes (bs : List Byte) : PanelStat := PanelStat.ofBits (ofLe bs)

/-- The reply to ENABLE, 8 bytes (R451). -/
structure EnableReply where
  REASON : BitVec 16  -- 0x0000 accepted, or the first refusal (R450)
  INSTANCE : BitVec 16  -- Task, loop, slot, channel, axis, controller or chamber concerned; 0xFFFF none
  ITEM : BitVec 32  -- Descriptor offset or Workbench handle at fault; 0 none
  deriving DecidableEq, Repr

/-- The layout's default (R451). -/
def EnableReply.dflt : EnableReply :=
  { REASON := 0#16,
    INSTANCE := 0xFFFF#16,
    ITEM := 0#32 }

/-- Its fields from the lowest bit up, each with its width; reserved fields are 0. -/
def EnableReply.fields (x : EnableReply) : List (Nat × Nat) :=
  [(16, x.REASON.toNat), (16, x.INSTANCE.toNat), (32, x.ITEM.toNat)]

/-- Its bytes as the module stores or sends them (R451). -/
def EnableReply.toBytes (x : EnableReply) : List Byte := leBytes 8 (pack (x.fields))

/-- The layout as it is read out of a number that holds its bits. -/
def EnableReply.ofBits (n : Nat) : EnableReply :=
  { REASON := bitsAt n 0 16,
    INSTANCE := bitsAt n 16 16,
    ITEM := bitsAt n 32 32 }

/-- The layout as the module reads it out of bytes (R451). -/
def EnableReply.ofBytes (bs : List Byte) : EnableReply := EnableReply.ofBits (ofLe bs)

/-- The start descriptor, 16 bytes (R455). -/
structure StartDesc where
  START_MODE : BitVec 8  -- 0 stay in STOP; 1 warm if LAST_MODE was RUN; 2 warm always; 3 cold if LAST_MODE was RUN
  HALT_RESTART_S : BitVec 16  -- 1 to 3600; 0 never
  deriving DecidableEq, Repr

/-- The layout's default (R455). -/
def StartDesc.dflt : StartDesc :=
  { START_MODE := 1#8,
    HALT_RESTART_S := 30#16 }

/-- Its fields from the lowest bit up, each with its width; reserved fields are 0. -/
def StartDesc.fields (x : StartDesc) : List (Nat × Nat) :=
  [(8, x.START_MODE.toNat), (8, 0), (16, x.HALT_RESTART_S.toNat), (32, 0), (64, 0)]

/-- Its bytes as the module stores or sends them (R455). -/
def StartDesc.toBytes (x : StartDesc) : List Byte := leBytes 16 (pack (x.fields))

/-- The layout as it is read out of a number that holds its bits. -/
def StartDesc.ofBits (n : Nat) : StartDesc :=
  { START_MODE := bitsAt n 0 8,
    HALT_RESTART_S := bitsAt n 16 16 }

/-- The layout as the module reads it out of bytes (R455). -/
def StartDesc.ofBytes (bs : List Byte) : StartDesc := StartDesc.ofBits (ofLe bs)

/-- The boot information, 32 bytes (R457). -/
structure BootInfo where
  RESET_CAUSE : BitVec 8  -- R436
  BOOT_FAILS : BitVec 8  -- R443
  MIN_REASON : BitVec 16  -- R444; 0 when not in MINIMAL
  TRIAL : BitVec 1  -- The running image was booted on trial in this boot and was confirmed at the end of its …
  RUNNING_SLOT : BitVec 1  -- 0 A, 1 B
  CLEAN : BitVec 1  -- R443
  CONFIGURED : BitVec 1  -- A configuration is loaded
  LAST_MODE : BitVec 8  -- As HPW_MODE
  STATE_A : BitVec 4  -- As STATE_B
  STATE_B : BitVec 4  -- 0 EMPTY, 1 TRIAL, 2 CONFIRMED, 3 INVALID
  VERSION_A : BitVec 32
  VERSION_B : BitVec 32
  VERSION_FLOOR : BitVec 32  -- R442
  BOOT_MS : BitVec 32  -- Reset release to the end of the firmware phase
  BOOT_TS : BitVec 64  -- Time of reset release
  deriving DecidableEq, Repr

/-- The layout's default (R457). -/
def BootInfo.dflt : BootInfo :=
  { RESET_CAUSE := 0#8,
    BOOT_FAILS := 0#8,
    MIN_REASON := 0#16,
    TRIAL := 0#1,
    RUNNING_SLOT := 0#1,
    CLEAN := 0#1,
    CONFIGURED := 0#1,
    LAST_MODE := 0#8,
    STATE_A := 0#4,
    STATE_B := 0#4,
    VERSION_A := 0#32,
    VERSION_B := 0#32,
    VERSION_FLOOR := 0#32,
    BOOT_MS := 0#32,
    BOOT_TS := 0#64 }

/-- Its fields from the lowest bit up, each with its width; reserved fields are 0. -/
def BootInfo.fields (x : BootInfo) : List (Nat × Nat) :=
  [(8, x.RESET_CAUSE.toNat), (8, x.BOOT_FAILS.toNat), (16, x.MIN_REASON.toNat), (1, x.TRIAL.toNat), (1, x.RUNNING_SLOT.toNat), (1, x.CLEAN.toNat), (1, x.CONFIGURED.toNat), (4, 0), (8, x.LAST_MODE.toNat), (4, x.STATE_A.toNat), (4, x.STATE_B.toNat), (8, 0), (32, x.VERSION_A.toNat), (32, x.VERSION_B.toNat), (32, x.VERSION_FLOOR.toNat), (32, x.BOOT_MS.toNat), (64, x.BOOT_TS.toNat)]

/-- Its bytes as the module stores or sends them (R457). -/
def BootInfo.toBytes (x : BootInfo) : List Byte := leBytes 32 (pack (x.fields))

/-- The layout as it is read out of a number that holds its bits. -/
def BootInfo.ofBits (n : Nat) : BootInfo :=
  { RESET_CAUSE := bitsAt n 0 8,
    BOOT_FAILS := bitsAt n 8 8,
    MIN_REASON := bitsAt n 16 16,
    TRIAL := bitsAt n 32 1,
    RUNNING_SLOT := bitsAt n 33 1,
    CLEAN := bitsAt n 34 1,
    CONFIGURED := bitsAt n 35 1,
    LAST_MODE := bitsAt n 40 8,
    STATE_A := bitsAt n 48 4,
    STATE_B := bitsAt n 52 4,
    VERSION_A := bitsAt n 64 32,
    VERSION_B := bitsAt n 96 32,
    VERSION_FLOOR := bitsAt n 128 32,
    BOOT_MS := bitsAt n 160 32,
    BOOT_TS := bitsAt n 192 64 }

/-- The layout as the module reads it out of bytes (R457). -/
def BootInfo.ofBytes (bs : List Byte) : BootInfo := BootInfo.ofBits (ofLe bs)

/-- The register block, 32 bytes (R462). -/
structure HpwRegs where
  IF_REV : BitVec 4  -- HPW_ID: revision of this interface
  DEVICE : BitVec 12  -- HPW_ID: module type
  RING : BitVec 8  -- HPW_DOORBELL: 1 rings MBn; reads 0
  deriving DecidableEq, Repr

/-- The layout's default (R462). -/
def HpwRegs.dflt : HpwRegs :=
  { IF_REV := 1#4,
    DEVICE := 2048#12,
    RING := 0#8 }

/-- Its fields from the lowest bit up, each with its width; reserved fields are 0, and the fields that report a state held elsewhere are given. -/
def HpwRegs.fields (x : HpwRegs) (STATION_ADDR : Nat) (PAIR_POS : Nat) (MODE : Nat) (ROLE : Nat) (HEAT : Nat) (ENERGY : Nat) (CONFIGURED : Nat) (FORCES_ACTIVE : Nat) (TIME_VALID : Nat) (ROM_RECOVERY : Nat) (ALIVE : Nat) (RUN_EN : Nat) (MB_STATE : Nat) (MB_DONE : Nat) (MODE_CHANGE : Nat) (REASON : Nat) (TIME_EVENT : Nat) (ROLE_CHANGE : Nat) (FLOW_ALARM : Nat) (DB_ERROR : Nat) (MASK : Nat) (CODE : Nat) (SOURCE : Nat) : List (Nat × Nat) :=
  [(10, STATION_ADDR), (1, PAIR_POS), (5, 0), (4, x.IF_REV.toNat), (12, x.DEVICE.toNat), (3, MODE), (1, 0), (3, ROLE), (1, 0), (2, HEAT), (2, ENERGY), (1, CONFIGURED), (1, FORCES_ACTIVE), (1, TIME_VALID), (1, ROM_RECOVERY), (16, ALIVE), (1, RUN_EN), (31, 0), (8, x.RING.toNat), (24, 0), (32, MB_STATE), (8, MB_DONE), (2, 0), (1, MODE_CHANGE), (1, REASON), (1, TIME_EVENT), (1, ROLE_CHANGE), (1, FLOW_ALARM), (1, DB_ERROR), (16, 0), (32, MASK), (16, CODE), (8, SOURCE), (8, 0)]

/-- Its bytes as the module stores or sends them (R462). -/
def HpwRegs.toBytes (x : HpwRegs) (STATION_ADDR : Nat) (PAIR_POS : Nat) (MODE : Nat) (ROLE : Nat) (HEAT : Nat) (ENERGY : Nat) (CONFIGURED : Nat) (FORCES_ACTIVE : Nat) (TIME_VALID : Nat) (ROM_RECOVERY : Nat) (ALIVE : Nat) (RUN_EN : Nat) (MB_STATE : Nat) (MB_DONE : Nat) (MODE_CHANGE : Nat) (REASON : Nat) (TIME_EVENT : Nat) (ROLE_CHANGE : Nat) (FLOW_ALARM : Nat) (DB_ERROR : Nat) (MASK : Nat) (CODE : Nat) (SOURCE : Nat) : List Byte := leBytes 32 (pack (x.fields STATION_ADDR PAIR_POS MODE ROLE HEAT ENERGY CONFIGURED FORCES_ACTIVE TIME_VALID ROM_RECOVERY ALIVE RUN_EN MB_STATE MB_DONE MODE_CHANGE REASON TIME_EVENT ROLE_CHANGE FLOW_ALARM DB_ERROR MASK CODE SOURCE))

/-- The layout as it is read out of a number that holds its bits. -/
def HpwRegs.ofBits (n : Nat) : HpwRegs :=
  { IF_REV := bitsAt n 16 4,
    DEVICE := bitsAt n 20 12,
    RING := bitsAt n 96 8 }

/-- The layout as the module reads it out of bytes (R462). -/
def HpwRegs.ofBytes (bs : List Byte) : HpwRegs := HpwRegs.ofBits (ofLe bs)

/-- The header of every request and reply, 16 bytes (R465). -/
structure MsgHead where
  COMMAND : BitVec 16  -- Command code
  TAG : BitVec 16  -- Chosen by the sender and returned unchanged
  LENGTH : BitVec 16  -- Payload bytes
  SESSION : BitVec 8  -- Written by the module in the reply: 0 to 16
  REPLY : BitVec 1  -- 1 in a reply
  RX_TS : BitVec 64  -- Reply: receipt time-stamp of the request (R469). Request: reserved
  deriving DecidableEq, Repr

/-- The layout's default (R465). -/
def MsgHead.dflt : MsgHead :=
  { COMMAND := 0#16,
    TAG := 0#16,
    LENGTH := 0#16,
    SESSION := 0#8,
    REPLY := 0#1,
    RX_TS := 0#64 }

/-- Its fields from the lowest bit up, each with its width; reserved fields are 0. -/
def MsgHead.fields (x : MsgHead) : List (Nat × Nat) :=
  [(16, x.COMMAND.toNat), (16, x.TAG.toNat), (16, x.LENGTH.toNat), (8, x.SESSION.toNat), (1, x.REPLY.toNat), (7, 0), (64, x.RX_TS.toNat)]

/-- Its bytes as the module stores or sends them (R465). -/
def MsgHead.toBytes (x : MsgHead) : List Byte := leBytes 16 (pack (x.fields))

/-- The layout as it is read out of a number that holds its bits. -/
def MsgHead.ofBits (n : Nat) : MsgHead :=
  { COMMAND := bitsAt n 0 16,
    TAG := bitsAt n 16 16,
    LENGTH := bitsAt n 32 16,
    SESSION := bitsAt n 48 8,
    REPLY := bitsAt n 56 1,
    RX_TS := bitsAt n 64 64 }

/-- The layout as the module reads it out of bytes (R465). -/
def MsgHead.ofBytes (bs : List Byte) : MsgHead := MsgHead.ofBits (ofLe bs)

/-- The session descriptor, 16 bytes (R479). -/
structure SessDesc where
  IPV4_BASE : BitVec 32  -- Network base, 10.80.0.0
  PREFIX : BitVec 8  -- 8 to 21
  HOST_ROLE : BitVec 8  -- 0 to 3 (R476)
  TCP_PORT : BitVec 16  -- 1024 to 65535
  IDLE_S : BitVec 16  -- 30 to 65535; 0 never
  MAX_SESSIONS : BitVec 8  -- 1 to 16
  MB_APP : BitVec 8  -- R468
  APP_TIMEOUT_MS : BitVec 16  -- 1 to 10000
  deriving DecidableEq, Repr

/-- The layout's default (R479). -/
def SessDesc.dflt : SessDesc :=
  { IPV4_BASE := 0xA500000#32,
    PREFIX := 21#8,
    HOST_ROLE := 2#8,
    TCP_PORT := 0xBE5B#16,
    IDLE_S := 600#16,
    MAX_SESSIONS := 16#8,
    MB_APP := 0#8,
    APP_TIMEOUT_MS := 100#16 }

/-- Its fields from the lowest bit up, each with its width; reserved fields are 0. -/
def SessDesc.fields (x : SessDesc) : List (Nat × Nat) :=
  [(32, x.IPV4_BASE.toNat), (8, x.PREFIX.toNat), (8, x.HOST_ROLE.toNat), (16, x.TCP_PORT.toNat), (16, x.IDLE_S.toNat), (8, x.MAX_SESSIONS.toNat), (8, x.MB_APP.toNat), (16, x.APP_TIMEOUT_MS.toNat), (16, 0)]

/-- Its bytes as the module stores or sends them (R479). -/
def SessDesc.toBytes (x : SessDesc) : List Byte := leBytes 16 (pack (x.fields))

/-- The layout as it is read out of a number that holds its bits. -/
def SessDesc.ofBits (n : Nat) : SessDesc :=
  { IPV4_BASE := bitsAt n 0 32,
    PREFIX := bitsAt n 32 8,
    HOST_ROLE := bitsAt n 40 8,
    TCP_PORT := bitsAt n 48 16,
    IDLE_S := bitsAt n 64 16,
    MAX_SESSIONS := bitsAt n 80 8,
    MB_APP := bitsAt n 88 8,
    APP_TIMEOUT_MS := bitsAt n 96 16 }

/-- The layout as the module reads it out of bytes (R479). -/
def SessDesc.ofBytes (bs : List Byte) : SessDesc := SessDesc.ofBits (ofLe bs)

/-- A session entry, 32 bytes (R480). -/
structure SessEntry where
  PEER_IPV4 : BitVec 32  -- 0 for the host port
  OPEN_TS : BitVec 64  -- Time of opening
  CERT_ID : BitVec 64  -- First 8 bytes of the SHA-256 of the client certificate
  REQ_COUNT : BitVec 16  -- Requests received
  REFUSED_COUNT : BitVec 16  -- Replies with a code other than 0x0000
  WR_DISCARD : BitVec 16  -- R461; host port only
  deriving DecidableEq, Repr

/-- The layout's default (R480). -/
def SessEntry.dflt : SessEntry :=
  { PEER_IPV4 := 0#32,
    OPEN_TS := 0#64,
    CERT_ID := 0#64,
    REQ_COUNT := 0#16,
    REFUSED_COUNT := 0#16,
    WR_DISCARD := 0#16 }

/-- Its fields from the lowest bit up, each with its width; reserved fields are 0, and the fields that report a state held elsewhere are given. -/
def SessEntry.fields (x : SessEntry) (SESSION : Nat) (STATE : Nat) (ROLE : Nat) (OUTSTANDING : Nat) : List (Nat × Nat) :=
  [(8, SESSION), (8, STATE), (8, ROLE), (8, OUTSTANDING), (32, x.PEER_IPV4.toNat), (64, x.OPEN_TS.toNat), (64, x.CERT_ID.toNat), (16, x.REQ_COUNT.toNat), (16, x.REFUSED_COUNT.toNat), (16, x.WR_DISCARD.toNat), (16, 0)]

/-- Its bytes as the module stores or sends them (R480). -/
def SessEntry.toBytes (x : SessEntry) (SESSION : Nat) (STATE : Nat) (ROLE : Nat) (OUTSTANDING : Nat) : List Byte := leBytes 32 (pack (x.fields SESSION STATE ROLE OUTSTANDING))

/-- The layout as it is read out of a number that holds its bits. -/
def SessEntry.ofBits (n : Nat) : SessEntry :=
  { PEER_IPV4 := bitsAt n 32 32,
    OPEN_TS := bitsAt n 64 64,
    CERT_ID := bitsAt n 128 64,
    REQ_COUNT := bitsAt n 192 16,
    REFUSED_COUNT := bitsAt n 208 16,
    WR_DISCARD := bitsAt n 224 16 }

/-- The layout as the module reads it out of bytes (R480). -/
def SessEntry.ofBytes (bs : List Byte) : SessEntry := SessEntry.ofBits (ofLe bs)

end Sys2Proof.Machine
end

