-- ==== Sys2Proof/Machine/LayoutLoop.lean ====
section
/-! DEFINITION. The layouts of the loop engine and the Crucible (chapters 7 to 9): each a structure with the spec's field
names, its default, its bytes and its reading from bytes. -/

namespace Sys2Proof.Machine

/-- The loop descriptor, 64 bytes (R170). -/
structure LoopDesc where
  LOOP_ID : BitVec 8  -- 0 to 255
  LAW : BitVec 8  -- 0 unused, 1 PID, 2 BIQ2, 3 LEADLAG, 4 FF
  REVERSE : BitVec 1  -- 1: e = pv_f − SP_INT
  D_ON_ERROR : BitVec 1  -- 1: derivative on error; 0: on measurement
  BUMPLESS_SWAP : BitVec 1  -- R167
  FE_ENABLE : BitVec 1  -- 1: following-error supervision (R164)
  FE_ACTION : BitVec 2  -- 0 alarm only, 1 hold, 2 ramp to safe; 3 refused
  PERIOD_US : BitVec 16  -- 20 to 10000
  PHASE_US : BitVec 16  -- 0 to PERIOD_US − 1
  PV_SRC : BitVec 32  -- R158
  SP_SRC : BitVec 32  -- R158
  FF_SRC : BitVec 32  -- R158
  CTRL_SRC : BitVec 32  -- R158
  OUT_DST : BitVec 32  -- R158
  OUT_MIN : BitVec 16  -- Output lower limit
  OUT_MAX : BitVec 16  -- Output upper limit, above OUT_MIN
  SAFE_OUT : BitVec 16  -- Output in OFF and after a ramp to safe; within limits
  SP_CONST : BitVec 16  -- Set-point for SP_SRC KIND 3
  FE_LIMIT : BitVec 16  -- 1 to 32767
  FE_TIME_MS : BitVec 16  -- 0 to 65535
  SP_RAMP_RATE : BitVec 32  -- Q15 LSB per second; 0 no ramp
  SAFE_RATE : BitVec 32  -- Q15 LSB per second; 0 step
  N_PRE : BitVec 8  -- 0 to 2
  N_POST : BitVec 8  -- 0 to 4
  INIT_MODE : BitVec 8  -- 0 OFF, 1 MANUAL, 2 AUTO
  LATE_LIMIT : BitVec 8  -- 1 to 255
  COST : BitVec 8  -- MAC per sample (R160); ignored on write
  deriving DecidableEq, Repr

/-- The layout's default (R170). -/
def LoopDesc.dflt : LoopDesc :=
  { LOOP_ID := 0#8,
    LAW := 0#8,
    REVERSE := 0#1,
    D_ON_ERROR := 0#1,
    BUMPLESS_SWAP := 1#1,
    FE_ENABLE := 0#1,
    FE_ACTION := 1#2,
    PERIOD_US := 1000#16,
    PHASE_US := 0#16,
    PV_SRC := 0#32,
    SP_SRC := 0#32,
    FF_SRC := 0#32,
    CTRL_SRC := 0#32,
    OUT_DST := 0#32,
    OUT_MIN := 0x8000#16,
    OUT_MAX := 0x7FFF#16,
    SAFE_OUT := 0#16,
    SP_CONST := 0#16,
    FE_LIMIT := 3277#16,
    FE_TIME_MS := 1000#16,
    SP_RAMP_RATE := 0#32,
    SAFE_RATE := 0#32,
    N_PRE := 0#8,
    N_POST := 0#8,
    INIT_MODE := 0#8,
    LATE_LIMIT := 3#8,
    COST := 0#8 }

/-- Its fields from the lowest bit up, each with its width; reserved fields are 0. -/
def LoopDesc.fields (x : LoopDesc) : List (Nat × Nat) :=
  [(8, x.LOOP_ID.toNat), (8, x.LAW.toNat), (2, 0), (1, x.REVERSE.toNat), (1, x.D_ON_ERROR.toNat), (1, x.BUMPLESS_SWAP.toNat), (1, x.FE_ENABLE.toNat), (2, x.FE_ACTION.toNat), (8, 0), (16, x.PERIOD_US.toNat), (16, x.PHASE_US.toNat), (32, x.PV_SRC.toNat), (32, x.SP_SRC.toNat), (32, x.FF_SRC.toNat), (32, x.CTRL_SRC.toNat), (32, x.OUT_DST.toNat), (16, x.OUT_MIN.toNat), (16, x.OUT_MAX.toNat), (16, x.SAFE_OUT.toNat), (16, x.SP_CONST.toNat), (16, x.FE_LIMIT.toNat), (16, x.FE_TIME_MS.toNat), (32, x.SP_RAMP_RATE.toNat), (32, x.SAFE_RATE.toNat), (8, x.N_PRE.toNat), (8, x.N_POST.toNat), (8, x.INIT_MODE.toNat), (8, x.LATE_LIMIT.toNat), (8, x.COST.toNat), (8, 0), (16, 0), (64, 0)]

/-- Its bytes as the module stores or sends them (R170). -/
def LoopDesc.toBytes (x : LoopDesc) : List Byte := leBytes 64 (pack (x.fields))

/-- The layout as it is read out of a number that holds its bits. -/
def LoopDesc.ofBits (n : Nat) : LoopDesc :=
  { LOOP_ID := bitsAt n 0 8,
    LAW := bitsAt n 8 8,
    REVERSE := bitsAt n 18 1,
    D_ON_ERROR := bitsAt n 19 1,
    BUMPLESS_SWAP := bitsAt n 20 1,
    FE_ENABLE := bitsAt n 21 1,
    FE_ACTION := bitsAt n 22 2,
    PERIOD_US := bitsAt n 32 16,
    PHASE_US := bitsAt n 48 16,
    PV_SRC := bitsAt n 64 32,
    SP_SRC := bitsAt n 96 32,
    FF_SRC := bitsAt n 128 32,
    CTRL_SRC := bitsAt n 160 32,
    OUT_DST := bitsAt n 192 32,
    OUT_MIN := bitsAt n 224 16,
    OUT_MAX := bitsAt n 240 16,
    SAFE_OUT := bitsAt n 256 16,
    SP_CONST := bitsAt n 272 16,
    FE_LIMIT := bitsAt n 288 16,
    FE_TIME_MS := bitsAt n 304 16,
    SP_RAMP_RATE := bitsAt n 320 32,
    SAFE_RATE := bitsAt n 352 32,
    N_PRE := bitsAt n 384 8,
    N_POST := bitsAt n 392 8,
    INIT_MODE := bitsAt n 400 8,
    LATE_LIMIT := bitsAt n 408 8,
    COST := bitsAt n 416 8 }

/-- The layout as the module reads it out of bytes (R170). -/
def LoopDesc.ofBytes (bs : List Byte) : LoopDesc := LoopDesc.ofBits (ofLe bs)

/-- A biquad record, 12 bytes (R171). -/
structure Biquad where
  B0 : BitVec 16  -- coefficient of x(k)
  B1 : BitVec 16  -- coefficient of x(k−1)
  B2 : BitVec 16  -- coefficient of x(k−2)
  A1 : BitVec 16  -- feedback coefficient of y(k−1)
  A2 : BitVec 16  -- feedback coefficient of y(k−2)
  SH : BitVec 8  -- shift of the record's coefficients
  deriving DecidableEq, Repr

/-- The layout's default (R171). -/
def Biquad.dflt : Biquad :=
  { B0 := 0#16,
    B1 := 0#16,
    B2 := 0#16,
    A1 := 0#16,
    A2 := 0#16,
    SH := 0#8 }

/-- Its fields from the lowest bit up, each with its width; reserved fields are 0. -/
def Biquad.fields (x : Biquad) : List (Nat × Nat) :=
  [(16, x.B0.toNat), (16, x.B1.toNat), (16, x.B2.toNat), (16, x.A1.toNat), (16, x.A2.toNat), (8, x.SH.toNat), (8, 0)]

/-- Its bytes as the module stores or sends them (R171). -/
def Biquad.toBytes (x : Biquad) : List Byte := leBytes 12 (pack (x.fields))

/-- The layout as it is read out of a number that holds its bits. -/
def Biquad.ofBits (n : Nat) : Biquad :=
  { B0 := bitsAt n 0 16,
    B1 := bitsAt n 16 16,
    B2 := bitsAt n 32 16,
    A1 := bitsAt n 48 16,
    A2 := bitsAt n 64 16,
    SH := bitsAt n 80 8 }

/-- The layout as the module reads it out of bytes (R171). -/
def Biquad.ofBytes (bs : List Byte) : Biquad := Biquad.ofBits (ofLe bs)

/-- A coefficient bank, 128 bytes (R171). -/
structure Bank where
  CORE : BitVec 256  -- By LAW, in the table below
  P1 : Biquad  -- Pre-filter 1
  P2 : Biquad  -- Pre-filter 2
  O1 : Biquad  -- Post-filter 1
  O2 : Biquad  -- Post-filter 2
  O3 : Biquad  -- Post-filter 3
  O4 : Biquad  -- Post-filter 4
  BANK_SEQ : BitVec 32  -- Set by the module (R167); ignored on write
  deriving DecidableEq, Repr

/-- The layout's default (R171). -/
def Bank.dflt : Bank :=
  { CORE := 0#256,
    P1 := Biquad.dflt,
    P2 := Biquad.dflt,
    O1 := Biquad.dflt,
    O2 := Biquad.dflt,
    O3 := Biquad.dflt,
    O4 := Biquad.dflt,
    BANK_SEQ := 0#32 }

/-- Its fields from the lowest bit up, each with its width; reserved fields are 0. -/
def Bank.fields (x : Bank) : List (Nat × Nat) :=
  [(256, x.CORE.toNat)]
  ++ x.P1.fields
  ++ x.P2.fields
  ++ x.O1.fields
  ++ x.O2.fields
  ++ x.O3.fields
  ++ x.O4.fields
  ++ [(160, 0), (32, x.BANK_SEQ.toNat)]

/-- Its bytes as the module stores or sends them (R171). -/
def Bank.toBytes (x : Bank) : List Byte := leBytes 128 (pack (x.fields))

/-- The layout as it is read out of a number that holds its bits. -/
def Bank.ofBits (n : Nat) : Bank :=
  { CORE := bitsAt n 0 256,
    P1 := Biquad.ofBits (n / 2 ^ 256),
    P2 := Biquad.ofBits (n / 2 ^ 352),
    O1 := Biquad.ofBits (n / 2 ^ 448),
    O2 := Biquad.ofBits (n / 2 ^ 544),
    O3 := Biquad.ofBits (n / 2 ^ 640),
    O4 := Biquad.ofBits (n / 2 ^ 736),
    BANK_SEQ := bitsAt n 992 32 }

/-- The layout as the module reads it out of bytes (R171). -/
def Bank.ofBytes (bs : List Byte) : Bank := Bank.ofBits (ofLe bs)

/-- The control word named by CTRL_SRC, 4 bytes (R171). -/
structure LoopCtrl where
  MODE_REQ : BitVec 3  -- 0 OFF, 1 MANUAL, 2 AUTO, 3 HOLD; 4 to 7 ignored. Acts when it changes (R163)
  BANK_SEL : BitVec 1  -- Requested bank: 0 A, 1 B
  MAN_OUT : BitVec 16  -- Manual value
  deriving DecidableEq, Repr

/-- The layout's default (R171). -/
def LoopCtrl.dflt : LoopCtrl :=
  { MODE_REQ := 0#3,
    BANK_SEL := 0#1,
    MAN_OUT := 0#16 }

/-- Its fields from the lowest bit up, each with its width; reserved fields are 0. -/
def LoopCtrl.fields (x : LoopCtrl) : List (Nat × Nat) :=
  [(3, x.MODE_REQ.toNat), (1, x.BANK_SEL.toNat), (12, 0), (16, x.MAN_OUT.toNat)]

/-- Its bytes as the module stores or sends them (R171). -/
def LoopCtrl.toBytes (x : LoopCtrl) : List Byte := leBytes 4 (pack (x.fields))

/-- The layout as it is read out of a number that holds its bits. -/
def LoopCtrl.ofBits (n : Nat) : LoopCtrl :=
  { MODE_REQ := bitsAt n 0 3,
    BANK_SEL := bitsAt n 3 1,
    MAN_OUT := bitsAt n 16 16 }

/-- The layout as the module reads it out of bytes (R171). -/
def LoopCtrl.ofBytes (bs : List Byte) : LoopCtrl := LoopCtrl.ofBits (ofLe bs)

/-- The loop status, 48 bytes (R172). -/
structure LoopStat where
  ACTIVE_BANK : BitVec 1  -- 0 A, 1 B
  RAMPING : BitVec 1  -- R163
  OUT_SAT : BitVec 1  -- R161
  OUT_FORCED : BitVec 1  -- R166
  LOOP_LATE : BitVec 1  -- The last boundary was late
  FE_TIMING : BitVec 1  -- R164
  FE_ALARM : BitVec 1  -- R164
  SWAP_REFUSED : BitVec 1  -- Sticky (R167)
  LATE_SEEN : BitVec 1  -- Sticky (R156)
  SAT_SEEN : BitVec 1  -- Sticky (R154)
  TRIP_CAUSE : BitVec 3  -- R165; 0 none
  LATE_COUNT : BitVec 32  -- Late samples
  SAT_COUNT : BitVec 32  -- Samples with a saturating store
  TRIP_COUNT : BitVec 16  -- Entries to TRIPPED
  SWAP_COUNT : BitVec 16  -- Swaps taken
  FE_MAX : BitVec 16  -- Largest |fe|since clear
  LAST_SWAP_TS : BitVec 64  -- Boundary of the last swap sample
  LAST_TRIP_TS : BitVec 64  -- Boundary of the last tripping sample
  deriving DecidableEq, Repr

/-- The layout's default (R172). -/
def LoopStat.dflt : LoopStat :=
  { ACTIVE_BANK := 0#1,
    RAMPING := 0#1,
    OUT_SAT := 0#1,
    OUT_FORCED := 0#1,
    LOOP_LATE := 0#1,
    FE_TIMING := 0#1,
    FE_ALARM := 0#1,
    SWAP_REFUSED := 0#1,
    LATE_SEEN := 0#1,
    SAT_SEEN := 0#1,
    TRIP_CAUSE := 0#3,
    LATE_COUNT := 0#32,
    SAT_COUNT := 0#32,
    TRIP_COUNT := 0#16,
    SWAP_COUNT := 0#16,
    FE_MAX := 0#16,
    LAST_SWAP_TS := 0#64,
    LAST_TRIP_TS := 0#64 }

/-- Its fields from the lowest bit up, each with its width; reserved fields are 0, and the fields that report a state held elsewhere are given. -/
def LoopStat.fields (x : LoopStat) (SWAP_PENDING : Nat) (MODE : Nat) (OUT : Nat) (SP_INT : Nat) (PV_F : Nat) (BANK_SEQ : Nat) : List (Nat × Nat) :=
  [(1, x.ACTIVE_BANK.toNat), (1, 0), (1, SWAP_PENDING), (1, x.RAMPING.toNat), (1, x.OUT_SAT.toNat), (1, x.OUT_FORCED.toNat), (1, x.LOOP_LATE.toNat), (1, x.FE_TIMING.toNat), (1, x.FE_ALARM.toNat), (1, x.SWAP_REFUSED.toNat), (1, x.LATE_SEEN.toNat), (1, x.SAT_SEEN.toNat), (1, 0), (3, MODE), (3, x.TRIP_CAUSE.toNat), (13, 0), (32, x.LATE_COUNT.toNat), (32, x.SAT_COUNT.toNat), (16, x.TRIP_COUNT.toNat), (16, x.SWAP_COUNT.toNat), (16, OUT), (16, SP_INT), (16, PV_F), (16, x.FE_MAX.toNat), (32, BANK_SEQ), (32, 0), (64, x.LAST_SWAP_TS.toNat), (64, x.LAST_TRIP_TS.toNat)]

/-- Its bytes as the module stores or sends them (R172). -/
def LoopStat.toBytes (x : LoopStat) (SWAP_PENDING : Nat) (MODE : Nat) (OUT : Nat) (SP_INT : Nat) (PV_F : Nat) (BANK_SEQ : Nat) : List Byte := leBytes 48 (pack (x.fields SWAP_PENDING MODE OUT SP_INT PV_F BANK_SEQ))

/-- The layout as it is read out of a number that holds its bits. -/
def LoopStat.ofBits (n : Nat) : LoopStat :=
  { ACTIVE_BANK := bitsAt n 0 1,
    RAMPING := bitsAt n 3 1,
    OUT_SAT := bitsAt n 4 1,
    OUT_FORCED := bitsAt n 5 1,
    LOOP_LATE := bitsAt n 6 1,
    FE_TIMING := bitsAt n 7 1,
    FE_ALARM := bitsAt n 8 1,
    SWAP_REFUSED := bitsAt n 9 1,
    LATE_SEEN := bitsAt n 10 1,
    SAT_SEEN := bitsAt n 11 1,
    TRIP_CAUSE := bitsAt n 16 3,
    LATE_COUNT := bitsAt n 32 32,
    SAT_COUNT := bitsAt n 64 32,
    TRIP_COUNT := bitsAt n 96 16,
    SWAP_COUNT := bitsAt n 112 16,
    FE_MAX := bitsAt n 176 16,
    LAST_SWAP_TS := bitsAt n 256 64,
    LAST_TRIP_TS := bitsAt n 320 64 }

/-- The layout as the module reads it out of bytes (R172). -/
def LoopStat.ofBytes (bs : List Byte) : LoopStat := LoopStat.ofBits (ofLe bs)

/-- The loop-engine status, 16 bytes (R173). -/
structure LoopEngStat where
  TOTAL_LATE : BitVec 32  -- Late samples of all loops
  MAX_RESPONSE_NS : BitVec 32  -- Longest time from a boundary to a completed sample, ns
  deriving DecidableEq, Repr

/-- The layout's default (R173). -/
def LoopEngStat.dflt : LoopEngStat :=
  { TOTAL_LATE := 0#32,
    MAX_RESPONSE_NS := 0#32 }

/-- Its fields from the lowest bit up, each with its width; reserved fields are 0, and the fields that report a state held elsewhere are given. -/
def LoopEngStat.fields (x : LoopEngStat) (LOAD_PM : Nat) (LINES_PM : Nat) (ACTIVE_SLOTS : Nat) : List (Nat × Nat) :=
  [(16, LOAD_PM), (16, LINES_PM), (16, ACTIVE_SLOTS), (16, 0), (32, x.TOTAL_LATE.toNat), (32, x.MAX_RESPONSE_NS.toNat)]

/-- Its bytes as the module stores or sends them (R173). -/
def LoopEngStat.toBytes (x : LoopEngStat) (LOAD_PM : Nat) (LINES_PM : Nat) (ACTIVE_SLOTS : Nat) : List Byte := leBytes 16 (pack (x.fields LOAD_PM LINES_PM ACTIVE_SLOTS))

/-- The layout as it is read out of a number that holds its bits. -/
def LoopEngStat.ofBits (n : Nat) : LoopEngStat :=
  { TOTAL_LATE := bitsAt n 64 32,
    MAX_RESPONSE_NS := bitsAt n 96 32 }

/-- The layout as the module reads it out of bytes (R173). -/
def LoopEngStat.ofBytes (bs : List Byte) : LoopEngStat := LoopEngStat.ofBits (ofLe bs)

/-- The QP parameter block, 64 bytes (R200). -/
structure QpParams where
  DELTA_REG : BitVec 64  -- Proximal regularisation δ added to the diagonal of P, 1e−12 to 1e−3
  RHO_INIT : BitVec 64  -- Initial penalty, RHO_MIN to RHO_MAX
  RHO_MIN : BitVec 64  -- 1e−9 to RHO_MAX
  RHO_MAX : BitVec 64  -- RHO_MIN to 1e9
  RELAX : BitVec 64  -- Relaxation ω, 1.0 to 1.9
  EQ_WEIGHT : BitVec 64  -- Penalty multiplier for equality rows, 1 to 1e6
  BALANCE_BAND : BitVec 64  -- Residual balance band μ of R205, 2 to 1000
  EPS_INF : BitVec 64  -- Infeasibility tolerance, 1e−12 to 1e−2; 0 disables the infeasibility tests
  deriving DecidableEq, Repr

/-- The layout's default (R200). -/
def QpParams.dflt : QpParams :=
  { DELTA_REG := 0x3E45798EE2308C3A#64,
    RHO_INIT := 0x3FF0000000000000#64,
    RHO_MIN := 0x3EE4F8B588E368F1#64,
    RHO_MAX := 0x40F86A0000000000#64,
    RELAX := 0x3FF8000000000000#64,
    EQ_WEIGHT := 0x4059000000000000#64,
    BALANCE_BAND := 0x4024000000000000#64,
    EPS_INF := 0x3EB0C6F7A0B5ED8D#64 }

/-- Its fields from the lowest bit up, each with its width; reserved fields are 0. -/
def QpParams.fields (x : QpParams) : List (Nat × Nat) :=
  [(64, x.DELTA_REG.toNat), (64, x.RHO_INIT.toNat), (64, x.RHO_MIN.toNat), (64, x.RHO_MAX.toNat), (64, x.RELAX.toNat), (64, x.EQ_WEIGHT.toNat), (64, x.BALANCE_BAND.toNat), (64, x.EPS_INF.toNat)]

/-- Its bytes as the module stores or sends them (R200). -/
def QpParams.toBytes (x : QpParams) : List Byte := leBytes 64 (pack (x.fields))

/-- The layout as it is read out of a number that holds its bits. -/
def QpParams.ofBits (n : Nat) : QpParams :=
  { DELTA_REG := bitsAt n 0 64,
    RHO_INIT := bitsAt n 64 64,
    RHO_MIN := bitsAt n 128 64,
    RHO_MAX := bitsAt n 192 64,
    RELAX := bitsAt n 256 64,
    EQ_WEIGHT := bitsAt n 320 64,
    BALANCE_BAND := bitsAt n 384 64,
    EPS_INF := bitsAt n 448 64 }

/-- The layout as the module reads it out of bytes (R200). -/
def QpParams.ofBytes (bs : List Byte) : QpParams := QpParams.ofBits (ofLe bs)

/-- The QP information, 32 bytes (R214). -/
structure QpInfo where
  N_EQ : BitVec 32  -- Equality rows in the last job
  ITER_WC_NS : BitVec 32  -- Worst-case iteration on a fresh factor, ns
  POLISH_WC_NS : BitVec 32  -- Worst-case polish step, ns: FACTOR_WC_NS + SOLVE_WC_NS + acceptance test
  ADAPT_COUNT : BitVec 32  -- Adaptation refactors
  POLISH_REJECT_COUNT : BitVec 32  -- Polishes ending in POLISH_NOT_USED
  INFEAS_COUNT : BitVec 32  -- Jobs with code 8 or 9
  deriving DecidableEq, Repr

/-- The layout's default (R214). -/
def QpInfo.dflt : QpInfo :=
  { N_EQ := 0#32,
    ITER_WC_NS := 0#32,
    POLISH_WC_NS := 0#32,
    ADAPT_COUNT := 0#32,
    POLISH_REJECT_COUNT := 0#32,
    INFEAS_COUNT := 0#32 }

/-- Its fields from the lowest bit up, each with its width; reserved fields are 0, and the fields that report a state held elsewhere are given. -/
def QpInfo.fields (x : QpInfo) (RHO_CUR : Nat) : List (Nat × Nat) :=
  [(64, RHO_CUR), (32, x.N_EQ.toNat), (32, x.ITER_WC_NS.toNat), (32, x.POLISH_WC_NS.toNat), (32, x.ADAPT_COUNT.toNat), (32, x.POLISH_REJECT_COUNT.toNat), (32, x.INFEAS_COUNT.toNat)]

/-- Its bytes as the module stores or sends them (R214). -/
def QpInfo.toBytes (x : QpInfo) (RHO_CUR : Nat) : List Byte := leBytes 32 (pack (x.fields RHO_CUR))

/-- The layout as it is read out of a number that holds its bits. -/
def QpInfo.ofBits (n : Nat) : QpInfo :=
  { N_EQ := bitsAt n 64 32,
    ITER_WC_NS := bitsAt n 96 32,
    POLISH_WC_NS := bitsAt n 128 32,
    ADAPT_COUNT := bitsAt n 160 32,
    POLISH_REJECT_COUNT := bitsAt n 192 32,
    INFEAS_COUNT := bitsAt n 224 32 }

/-- The layout as the module reads it out of bytes (R214). -/
def QpInfo.ofBytes (bs : List Byte) : QpInfo := QpInfo.ofBits (ofLe bs)

/-- The slot descriptor, 64 bytes, with the QP bytes 0x38 to 0x3F of R199 (R181). -/
structure SlotDesc where
  SLOT_ID : BitVec 8  -- 0 to 15
  JOB_TYPE : BitVec 8  -- 0 unused, 1 LIN, 2 QP
  ORDERING : BitVec 8  -- 0 approximate minimum degree, 1 nested dissection, 2 natural, 3 given in the pattern image
  EQUIL : BitVec 1  -- 1: symmetric scaling before each factorisation (R186)
  REQ_BY_SESSION : BitVec 1  -- 1: jobs are submitted by 0x0615 CRU_JOB_SUBMIT; 0: by tasks
  N : BitVec 32  -- 1 to 8192
  NNZ_A : BitVec 32  -- N to 262,144
  N_POS : BitVec 32  -- 0 to N
  TAU : BitVec 64  -- Static pivot threshold, 1e−16 to 1e−6
  EPS_ABS : BitVec 64  -- 0 or more
  EPS_REL : BitVec 64  -- 0 or more
  REFINE_MAX : BitVec 8  -- Refinement steps on a fresh factor, 0 to 3
  STALE_STEPS_MAX : BitVec 8  -- Refinement steps on a stale factor, 1 to 64
  DELTA_MAX : BitVec 32  -- Delta entries per input set, 0 to NNZ_A
  STALE_RESERVE_NS : BitVec 32  -- Time kept back from factorisation (R190); 0: SOLVE_WC_NS + 2·STEP_WC_NS
  ITER_MAX : BitVec 16  -- Iteration cap, 1 to 4000
  ADAPT_EVERY : BitVec 16  -- Iterations between adaptation tests, 5 to 1000; 0 never adapts
  POLISH_STEPS : BitVec 8  -- Interior-point polish steps, 0 to 4
  CHECK_EVERY : BitVec 8  -- Iterations between termination checks, 1 to 25
  ADAPT_MAX : BitVec 8  -- Adaptation refactors per job, 0 to 8
  WARM : BitVec 1  -- 1: warm start (R203)
  deriving DecidableEq, Repr

/-- The layout's default (R181). -/
def SlotDesc.dflt : SlotDesc :=
  { SLOT_ID := 0#8,
    JOB_TYPE := 0#8,
    ORDERING := 0#8,
    EQUIL := 1#1,
    REQ_BY_SESSION := 0#1,
    N := 0#32,
    NNZ_A := 0#32,
    N_POS := 0#32,
    TAU := 0x3D719799812DEA11#64,
    EPS_ABS := 0x3E112E0BE826D695#64,
    EPS_REL := 0x3D719799812DEA11#64,
    REFINE_MAX := 3#8,
    STALE_STEPS_MAX := 8#8,
    DELTA_MAX := 0x1000#32,
    STALE_RESERVE_NS := 0#32,
    ITER_MAX := 200#16,
    ADAPT_EVERY := 40#16,
    POLISH_STEPS := 0#8,
    CHECK_EVERY := 1#8,
    ADAPT_MAX := 2#8,
    WARM := 1#1 }

/-- Its fields from the lowest bit up, each with its width; reserved fields are 0. -/
def SlotDesc.fields (x : SlotDesc) : List (Nat × Nat) :=
  [(8, x.SLOT_ID.toNat), (8, x.JOB_TYPE.toNat), (8, x.ORDERING.toNat), (1, x.EQUIL.toNat), (1, x.REQ_BY_SESSION.toNat), (6, 0), (32, x.N.toNat), (32, x.NNZ_A.toNat), (32, x.N_POS.toNat), (64, x.TAU.toNat), (64, x.EPS_ABS.toNat), (64, x.EPS_REL.toNat), (8, x.REFINE_MAX.toNat), (8, x.STALE_STEPS_MAX.toNat), (16, 0), (32, x.DELTA_MAX.toNat), (32, x.STALE_RESERVE_NS.toNat), (32, 0), (16, x.ITER_MAX.toNat), (16, x.ADAPT_EVERY.toNat), (8, x.POLISH_STEPS.toNat), (8, x.CHECK_EVERY.toNat), (8, x.ADAPT_MAX.toNat), (1, x.WARM.toNat), (7, 0)]

/-- Its bytes as the module stores or sends them (R181). -/
def SlotDesc.toBytes (x : SlotDesc) : List Byte := leBytes 64 (pack (x.fields))

/-- The layout as it is read out of a number that holds its bits. -/
def SlotDesc.ofBits (n : Nat) : SlotDesc :=
  { SLOT_ID := bitsAt n 0 8,
    JOB_TYPE := bitsAt n 8 8,
    ORDERING := bitsAt n 16 8,
    EQUIL := bitsAt n 24 1,
    REQ_BY_SESSION := bitsAt n 25 1,
    N := bitsAt n 32 32,
    NNZ_A := bitsAt n 64 32,
    N_POS := bitsAt n 96 32,
    TAU := bitsAt n 128 64,
    EPS_ABS := bitsAt n 192 64,
    EPS_REL := bitsAt n 256 64,
    REFINE_MAX := bitsAt n 320 8,
    STALE_STEPS_MAX := bitsAt n 328 8,
    DELTA_MAX := bitsAt n 352 32,
    STALE_RESERVE_NS := bitsAt n 384 32,
    ITER_MAX := bitsAt n 448 16,
    ADAPT_EVERY := bitsAt n 464 16,
    POLISH_STEPS := bitsAt n 480 8,
    CHECK_EVERY := bitsAt n 488 8,
    ADAPT_MAX := bitsAt n 496 8,
    WARM := bitsAt n 504 1 }

/-- The layout as the module reads it out of bytes (R181). -/
def SlotDesc.ofBytes (bs : List Byte) : SlotDesc := SlotDesc.ofBits (ofLe bs)

/-- The slot information, 64 bytes (R182). -/
structure SlotInfo where
  SPILL : BitVec 1  -- SCRATCH_PEAK_KIB exceeds 4096
  N_SUPERNODES : BitVec 16  -- Supernodes after partition
  NNZ_L : BitVec 32  -- Entries of L and D
  TREE_HEIGHT : BitVec 32  -- Height of the elimination tree, in columns
  SCRATCH_PEAK_KIB : BitVec 32  -- Largest scratch demand of the schedule
  FLOPS_FACTOR : BitVec 64  -- Flops of one factorisation: two per FMA, one per DSU operation
  BOUND_NS : BitVec 32  -- The larger of FLOPS_FACTOR/8 GFLOP/s and TREE_HEIGHT × 44 ns
  SOLVE_WC_NS : BitVec 32  -- Worst-case forward, diagonal and backward solve
  STEP_WC_NS : BitVec 32  -- Worst-case refinement step: residual, solve, update
  APPLY_WC_NS : BitVec 32  -- Worst-case delta application with DELTA_MAX entries, with row norms and scaling
  FACTOR_WC_NS : BitVec 32  -- Worst-case factorisation
  SLOT_KIB : BitVec 32  -- CRUC space taken by the slot
  FACTOR_MAX_NS : BitVec 32  -- Longest factorisation observed since clear
  ANALYSIS_MS : BitVec 32  -- Duration of the analysis
  PATTERN_CRC : BitVec 32  -- CRC-32 (polynomial 0x04C1_1DB7) of the pattern image
  deriving DecidableEq, Repr

/-- The layout's default (R182). -/
def SlotInfo.dflt : SlotInfo :=
  { SPILL := 0#1,
    N_SUPERNODES := 0#16,
    NNZ_L := 0#32,
    TREE_HEIGHT := 0#32,
    SCRATCH_PEAK_KIB := 0#32,
    FLOPS_FACTOR := 0#64,
    BOUND_NS := 0#32,
    SOLVE_WC_NS := 0#32,
    STEP_WC_NS := 0#32,
    APPLY_WC_NS := 0#32,
    FACTOR_WC_NS := 0#32,
    SLOT_KIB := 0#32,
    FACTOR_MAX_NS := 0#32,
    ANALYSIS_MS := 0#32,
    PATTERN_CRC := 0#32 }

/-- Its fields from the lowest bit up, each with its width; reserved fields are 0, and the fields that report a state held elsewhere are given. -/
def SlotInfo.fields (x : SlotInfo) (STATE : Nat) : List (Nat × Nat) :=
  [(8, STATE), (1, x.SPILL.toNat), (7, 0), (16, x.N_SUPERNODES.toNat), (32, x.NNZ_L.toNat), (32, x.TREE_HEIGHT.toNat), (32, x.SCRATCH_PEAK_KIB.toNat), (64, x.FLOPS_FACTOR.toNat), (32, x.BOUND_NS.toNat), (32, x.SOLVE_WC_NS.toNat), (32, x.STEP_WC_NS.toNat), (32, x.APPLY_WC_NS.toNat), (32, x.FACTOR_WC_NS.toNat), (32, x.SLOT_KIB.toNat), (32, x.FACTOR_MAX_NS.toNat), (32, x.ANALYSIS_MS.toNat), (32, x.PATTERN_CRC.toNat), (32, 0)]

/-- Its bytes as the module stores or sends them (R182). -/
def SlotInfo.toBytes (x : SlotInfo) (STATE : Nat) : List Byte := leBytes 64 (pack (x.fields STATE))

/-- The layout as it is read out of a number that holds its bits. -/
def SlotInfo.ofBits (n : Nat) : SlotInfo :=
  { SPILL := bitsAt n 8 1,
    N_SUPERNODES := bitsAt n 16 16,
    NNZ_L := bitsAt n 32 32,
    TREE_HEIGHT := bitsAt n 64 32,
    SCRATCH_PEAK_KIB := bitsAt n 96 32,
    FLOPS_FACTOR := bitsAt n 128 64,
    BOUND_NS := bitsAt n 192 32,
    SOLVE_WC_NS := bitsAt n 224 32,
    STEP_WC_NS := bitsAt n 256 32,
    APPLY_WC_NS := bitsAt n 288 32,
    FACTOR_WC_NS := bitsAt n 320 32,
    SLOT_KIB := bitsAt n 352 32,
    FACTOR_MAX_NS := bitsAt n 384 32,
    ANALYSIS_MS := bitsAt n 416 32,
    PATTERN_CRC := bitsAt n 448 32 }

/-- The layout as the module reads it out of bytes (R182). -/
def SlotInfo.ofBytes (bs : List Byte) : SlotInfo := SlotInfo.ofBits (ofLe bs)

/-- The request line, 64 bytes (R183). -/
structure CruReq where
  REQ_SEQ : BitVec 32  -- A job is requested when the value written differs from the last REQ_SEQ taken; 0 never …
  INSET : BitVec 8  -- Input set of the job: 0 or 1
  DEADLINE : BitVec 64  -- Deadline on the local clock, as read with offset and rate applied
  deriving DecidableEq, Repr

/-- The layout's default (R183). -/
def CruReq.dflt : CruReq :=
  { REQ_SEQ := 0#32,
    INSET := 0#8,
    DEADLINE := 0#64 }

/-- Its fields from the lowest bit up, each with its width; reserved fields are 0. -/
def CruReq.fields (x : CruReq) : List (Nat × Nat) :=
  [(32, x.REQ_SEQ.toNat), (8, x.INSET.toNat), (8, 0), (16, 0), (64, x.DEADLINE.toNat), (384, 0)]

/-- Its bytes as the module stores or sends them (R183). -/
def CruReq.toBytes (x : CruReq) : List Byte := leBytes 64 (pack (x.fields))

/-- The layout as it is read out of a number that holds its bits. -/
def CruReq.ofBits (n : Nat) : CruReq :=
  { REQ_SEQ := bitsAt n 0 32,
    INSET := bitsAt n 32 8,
    DEADLINE := bitsAt n 64 64 }

/-- The layout as the module reads it out of bytes (R183). -/
def CruReq.ofBytes (bs : List Byte) : CruReq := CruReq.ofBits (ofLe bs)

/-- The header of an input set, 16 bytes (R183). -/
structure InsetHead where
  N_DELTA : BitVec 32  -- Entries in this list, 0 to DELTA_MAX
  IN_TAG : BitVec 64  -- The application's own tag, returned in the result
  deriving DecidableEq, Repr

/-- The layout's default (R183). -/
def InsetHead.dflt : InsetHead :=
  { N_DELTA := 0#32,
    IN_TAG := 0#64 }

/-- Its fields from the lowest bit up, each with its width; reserved fields are 0. -/
def InsetHead.fields (x : InsetHead) : List (Nat × Nat) :=
  [(32, x.N_DELTA.toNat), (32, 0), (64, x.IN_TAG.toNat)]

/-- Its bytes as the module stores or sends them (R183). -/
def InsetHead.toBytes (x : InsetHead) : List Byte := leBytes 16 (pack (x.fields))

/-- The layout as it is read out of a number that holds its bits. -/
def InsetHead.ofBits (n : Nat) : InsetHead :=
  { N_DELTA := bitsAt n 0 32,
    IN_TAG := bitsAt n 64 64 }

/-- The layout as the module reads it out of bytes (R183). -/
def InsetHead.ofBytes (bs : List Byte) : InsetHead := InsetHead.ofBits (ofLe bs)

/-- A delta entry, 16 bytes (R183). -/
structure DeltaEntry where
  INDEX : BitVec 32  -- position in the pattern
  OP : BitVec 8  -- 0 set the value, 1 add to the value
  VALUE : BitVec 64  -- new value or increment
  deriving DecidableEq, Repr

/-- The layout's default (R183). -/
def DeltaEntry.dflt : DeltaEntry :=
  { INDEX := 0#32,
    OP := 0#8,
    VALUE := 0#64 }

/-- Its fields from the lowest bit up, each with its width; reserved fields are 0. -/
def DeltaEntry.fields (x : DeltaEntry) : List (Nat × Nat) :=
  [(32, x.INDEX.toNat), (8, x.OP.toNat), (24, 0), (64, x.VALUE.toNat)]

/-- Its bytes as the module stores or sends them (R183). -/
def DeltaEntry.toBytes (x : DeltaEntry) : List Byte := leBytes 16 (pack (x.fields))

/-- The layout as it is read out of a number that holds its bits. -/
def DeltaEntry.ofBits (n : Nat) : DeltaEntry :=
  { INDEX := bitsAt n 0 32,
    OP := bitsAt n 32 8,
    VALUE := bitsAt n 64 64 }

/-- The layout as the module reads it out of bytes (R183). -/
def DeltaEntry.ofBytes (bs : List Byte) : DeltaEntry := DeltaEntry.ofBits (ofLe bs)

/-- The status word of a job, with the QP bits of R210 (R191). -/
structure JobStatus where
  CODE : BitVec 4  -- 0 OK, 1 CAP, 2 DEADLINE, 3 STALE_FACTOR, 4 OVERFLOW, 5 BAD_INPUT, 6 FAULT, 7 reserved, …
  TEST_MET : BitVec 1  -- The published iterate meets the test of R188
  NEW_X : BitVec 1  -- This job published a new solution
  INPUT_NONFINITE : BitVec 1  -- R189
  SPILLED : BitVec 1  -- The slot has SPILL
  PIVOT_PERTURBED : BitVec 1  -- R189
  INERTIA_WRONG : BitVec 1  -- R189
  HELD : BitVec 1  -- R190
  REQ_IGNORED_SEEN : BitVec 1  -- R185
  VALUES_INITIAL : BitVec 1  -- R184
  CAP_HALVED : BitVec 1  -- Caps were halved by the heat level
  POLISHED : BitVec 1  -- R207
  POLISH_NOT_USED : BitVec 1  -- R207
  ADAPT_SKIPPED : BitVec 1  -- R205
  WARM_STARTED : BitVec 1  -- R203
  RHO_CHANGED : BitVec 1  -- R205
  deriving DecidableEq, Repr

/-- The layout's default (R191). -/
def JobStatus.dflt : JobStatus :=
  { CODE := 0#4,
    TEST_MET := 0#1,
    NEW_X := 0#1,
    INPUT_NONFINITE := 0#1,
    SPILLED := 0#1,
    PIVOT_PERTURBED := 0#1,
    INERTIA_WRONG := 0#1,
    HELD := 0#1,
    REQ_IGNORED_SEEN := 0#1,
    VALUES_INITIAL := 0#1,
    CAP_HALVED := 0#1,
    POLISHED := 0#1,
    POLISH_NOT_USED := 0#1,
    ADAPT_SKIPPED := 0#1,
    WARM_STARTED := 0#1,
    RHO_CHANGED := 0#1 }

/-- Its fields from the lowest bit up, each with its width; reserved fields are 0. -/
def JobStatus.fields (x : JobStatus) : List (Nat × Nat) :=
  [(4, x.CODE.toNat), (3, 0), (1, x.TEST_MET.toNat), (1, x.NEW_X.toNat), (1, x.INPUT_NONFINITE.toNat), (1, x.SPILLED.toNat), (1, x.PIVOT_PERTURBED.toNat), (1, x.INERTIA_WRONG.toNat), (1, x.HELD.toNat), (1, x.REQ_IGNORED_SEEN.toNat), (1, x.VALUES_INITIAL.toNat), (1, x.CAP_HALVED.toNat), (1, x.POLISHED.toNat), (1, x.POLISH_NOT_USED.toNat), (1, x.ADAPT_SKIPPED.toNat), (1, x.WARM_STARTED.toNat), (1, x.RHO_CHANGED.toNat), (10, 0)]

/-- Its bytes as the module stores or sends them (R191). -/
def JobStatus.toBytes (x : JobStatus) : List Byte := leBytes 4 (pack (x.fields))

/-- The layout as it is read out of a number that holds its bits. -/
def JobStatus.ofBits (n : Nat) : JobStatus :=
  { CODE := bitsAt n 0 4,
    TEST_MET := bitsAt n 7 1,
    NEW_X := bitsAt n 8 1,
    INPUT_NONFINITE := bitsAt n 9 1,
    SPILLED := bitsAt n 10 1,
    PIVOT_PERTURBED := bitsAt n 11 1,
    INERTIA_WRONG := bitsAt n 12 1,
    HELD := bitsAt n 13 1,
    REQ_IGNORED_SEEN := bitsAt n 14 1,
    VALUES_INITIAL := bitsAt n 15 1,
    CAP_HALVED := bitsAt n 16 1,
    POLISHED := bitsAt n 17 1,
    POLISH_NOT_USED := bitsAt n 18 1,
    ADAPT_SKIPPED := bitsAt n 19 1,
    WARM_STARTED := bitsAt n 20 1,
    RHO_CHANGED := bitsAt n 21 1 }

/-- The layout as the module reads it out of bytes (R191). -/
def JobStatus.ofBytes (bs : List Byte) : JobStatus := JobStatus.ofBits (ofLe bs)

/-- The index line, 64 bytes (R191). -/
structure IndexLine where
  JOB_SEQ : BitVec 32  -- REQ_SEQ of the job reported
  STATUS : JobStatus  -- status word
  X_SEQ : BitVec 32  -- REQ_SEQ of the job whose solution the named buffer holds; 0: no solution exists
  BUF : BitVec 8  -- Buffer holding that solution, 0 or 1
  REFINE_STEPS : BitVec 8  -- Refinement steps taken
  PERTURB_COUNT : BitVec 16  -- Replaced pivots in the factor used, saturating
  DONE_TS : BitVec 64  -- Time of publication
  RESID : BitVec 64  -- ‖b − A_cur·x‖∞ of the named solution, as computed by its job
  BNORM : BitVec 64  -- ‖b‖∞ of that job
  FACTOR_NS : BitVec 32  -- Time spent in Factor by the reported job
  JOB_NS : BitVec 32  -- Take to publication
  IN_TAG : BitVec 64  -- IN_TAG of the reported job
  ITERS : BitVec 16  -- completed iterations (R210)
  REFACTORS : BitVec 8  -- adaptation refactors (R210)
  POLISH_DONE : BitVec 8  -- polish steps completed (R210)
  deriving DecidableEq, Repr

/-- The layout's default (R191). -/
def IndexLine.dflt : IndexLine :=
  { JOB_SEQ := 0#32,
    STATUS := JobStatus.dflt,
    X_SEQ := 0#32,
    BUF := 0#8,
    REFINE_STEPS := 0#8,
    PERTURB_COUNT := 0#16,
    DONE_TS := 0#64,
    RESID := 0#64,
    BNORM := 0#64,
    FACTOR_NS := 0#32,
    JOB_NS := 0#32,
    IN_TAG := 0#64,
    ITERS := 0#16,
    REFACTORS := 0#8,
    POLISH_DONE := 0#8 }

/-- Its fields from the lowest bit up, each with its width; reserved fields are 0. -/
def IndexLine.fields (x : IndexLine) : List (Nat × Nat) :=
  [(32, x.JOB_SEQ.toNat)]
  ++ x.STATUS.fields
  ++ [(32, x.X_SEQ.toNat), (8, x.BUF.toNat), (8, x.REFINE_STEPS.toNat), (16, x.PERTURB_COUNT.toNat), (64, x.DONE_TS.toNat), (64, x.RESID.toNat), (64, x.BNORM.toNat), (32, x.FACTOR_NS.toNat), (32, x.JOB_NS.toNat), (64, x.IN_TAG.toNat), (16, x.ITERS.toNat), (8, x.REFACTORS.toNat), (8, x.POLISH_DONE.toNat), (32, 0)]

/-- Its bytes as the module stores or sends them (R191). -/
def IndexLine.toBytes (x : IndexLine) : List Byte := leBytes 64 (pack (x.fields))

/-- The layout as it is read out of a number that holds its bits. -/
def IndexLine.ofBits (n : Nat) : IndexLine :=
  { JOB_SEQ := bitsAt n 0 32,
    STATUS := JobStatus.ofBits (n / 2 ^ 32),
    X_SEQ := bitsAt n 64 32,
    BUF := bitsAt n 96 8,
    REFINE_STEPS := bitsAt n 104 8,
    PERTURB_COUNT := bitsAt n 112 16,
    DONE_TS := bitsAt n 128 64,
    RESID := bitsAt n 192 64,
    BNORM := bitsAt n 256 64,
    FACTOR_NS := bitsAt n 320 32,
    JOB_NS := bitsAt n 352 32,
    IN_TAG := bitsAt n 384 64,
    ITERS := bitsAt n 448 16,
    REFACTORS := bitsAt n 464 8,
    POLISH_DONE := bitsAt n 472 8 }

/-- The layout as the module reads it out of bytes (R191). -/
def IndexLine.ofBytes (bs : List Byte) : IndexLine := IndexLine.ofBits (ofLe bs)

/-- The Crucible engine status, 32 bytes (R194). -/
structure CruStat where
  SCRATCH_UE_SEEN : BitVec 1  -- Sticky (R177)
  JOB_COUNT : BitVec 32  -- Jobs published
  DEADLINE_COUNT : BitVec 32  -- Jobs with code DEADLINE
  STALE_COUNT : BitVec 32  -- Jobs with code STALE_FACTOR
  OVERFLOW_COUNT : BitVec 32  -- Jobs with code OVERFLOW
  REQ_IGNORED_COUNT : BitVec 32  -- R185
  SCRATCH_CE_COUNT : BitVec 32  -- R177
  deriving DecidableEq, Repr

/-- The layout's default (R194). -/
def CruStat.dflt : CruStat :=
  { SCRATCH_UE_SEEN := 0#1,
    JOB_COUNT := 0#32,
    DEADLINE_COUNT := 0#32,
    STALE_COUNT := 0#32,
    OVERFLOW_COUNT := 0#32,
    REQ_IGNORED_COUNT := 0#32,
    SCRATCH_CE_COUNT := 0#32 }

/-- Its fields from the lowest bit up, each with its width; reserved fields are 0, and the fields that report a state held elsewhere are given. -/
def CruStat.fields (x : CruStat) (BUSY : Nat) (CAPS_HALVED_NOW : Nat) (HELD_NOW : Nat) (RUNNING_SLOT : Nat) (QUEUED : Nat) : List (Nat × Nat) :=
  [(1, BUSY), (1, x.SCRATCH_UE_SEEN.toNat), (1, CAPS_HALVED_NOW), (1, HELD_NOW), (28, 0), (8, RUNNING_SLOT), (8, QUEUED), (16, 0), (32, x.JOB_COUNT.toNat), (32, x.DEADLINE_COUNT.toNat), (32, x.STALE_COUNT.toNat), (32, x.OVERFLOW_COUNT.toNat), (32, x.REQ_IGNORED_COUNT.toNat), (32, x.SCRATCH_CE_COUNT.toNat)]

/-- Its bytes as the module stores or sends them (R194). -/
def CruStat.toBytes (x : CruStat) (BUSY : Nat) (CAPS_HALVED_NOW : Nat) (HELD_NOW : Nat) (RUNNING_SLOT : Nat) (QUEUED : Nat) : List Byte := leBytes 32 (pack (x.fields BUSY CAPS_HALVED_NOW HELD_NOW RUNNING_SLOT QUEUED))

/-- The layout as it is read out of a number that holds its bits. -/
def CruStat.ofBits (n : Nat) : CruStat :=
  { SCRATCH_UE_SEEN := bitsAt n 1 1,
    JOB_COUNT := bitsAt n 64 32,
    DEADLINE_COUNT := bitsAt n 96 32,
    STALE_COUNT := bitsAt n 128 32,
    OVERFLOW_COUNT := bitsAt n 160 32,
    REQ_IGNORED_COUNT := bitsAt n 192 32,
    SCRATCH_CE_COUNT := bitsAt n 224 32 }

/-- The layout as the module reads it out of bytes (R194). -/
def CruStat.ofBytes (bs : List Byte) : CruStat := CruStat.ofBits (ofLe bs)

end Sys2Proof.Machine
end

