-- ==== Sys2Proof/Machine/Types.lean ====
section
/-! DEFINITION. The types of the module's state and of what comes to it from outside: names, events'
data and small records, chapter by chapter. -/

namespace Sys2Proof.Machine

/-- Memory of a chamber, a buffer or a region: its bytes by address, addresses strictly rising
and no entry equal to the byte 0 that an unlisted address reads as (log entry 3). -/
abbrev Memory := List Host.Cell

/-- A request behind either door (R465, R469): the session it came from (0 is the host port),
the mailbox it stands in (host port only), TAG, the payload of LENGTH bytes, and the receipt
time-stamp. -/
structure Request where
  session : Fin 17
  mailbox : Option (Fin 8)
  tag     : BitVec 16
  payload : List Byte
  rxTs    : BitVec 64
  deriving DecidableEq, Repr

/-- The eleven chambers of the Grotto, numbered by their ID (R42). -/
inductive Chamber where
  | image | task | retain | loop | cruc | msg | mirror | flow | panel | mbx | fw
  deriving DecidableEq, Repr

/-- The chamber's ID, its index in every table of chambers (R42). -/
def Chamber.id : Chamber → Fin 11
  | .image => 0 | .task => 1 | .retain => 2 | .loop => 3 | .cruc => 4 | .msg => 5
  | .mirror => 6 | .flow => 7 | .panel => 8 | .mbx => 9 | .fw => 10

/-- The chamber that an ID below 11 names (R42). -/
def Chamber.ofId : Fin 11 → Chamber
  | 0 => .image | 1 => .task | 2 => .retain | 3 => .loop | 4 => .cruc | 5 => .msg
  | 6 => .mirror | 7 => .flow | 8 => .panel | 9 => .mbx | 10 => .fw

/-- What the ECC decoder says of a block that was read (R31, R38, R40). -/
inductive Ecc where
  | clean | corrected | uncorrectable
  deriving DecidableEq, Repr

/-- A request that a port presents to the fabric: one line or a group of up to eight
consecutive lines (R31, R48), from byte `off` of a chamber. A write carries its bytes,
which may be fewer than its lines hold (a partial write, R31). -/
structure PortReq where
  chamber : Fin 11
  off     : Nat
  lines   : Nat
  write   : Option (List Byte)
  /-- the task on whose behalf a lane makes the request -/
  task    : Option (Fin 128)
  /-- what the decoder finds in the block read (R38, R40) -/
  ecc     : Ecc
  deriving DecidableEq, Repr

/-- A region of the MRAM tier that the write buffer serves (R33, R34). -/
inductive MramRegion where
  | fw | flowLog | retain | journal | system
  deriving DecidableEq, Repr

/-- One write waiting in the 64 KiB write buffer (R34). -/
structure WbEntry where
  region : MramRegion
  off    : Nat
  data   : List Byte
  deriving DecidableEq, Repr

/-- What the module holds beside the bytes of an IMAGE value (R9, R26): its quality
nibble and the local time of its last write. -/
structure ValMeta where
  quality : BitVec 4
  ts      : BitVec 64
  deriving DecidableEq, Repr


/-- The energy levels (R60). -/
inductive Energy where
  | e0 | e1 | e2 | e3
  deriving DecidableEq, Repr

/-- The level's number, as ENERGY reports it (R72). -/
def Energy.num : Energy → Nat
  | .e0 => 0 | .e1 => 1 | .e2 => 2 | .e3 => 3

/-- The heat levels (R69). -/
inductive Heat where
  | h0 | h1 | h2 | h3
  deriving DecidableEq, Repr

/-- The level's number, as HEAT reports it (R72). -/
def Heat.num : Heat → Nat
  | .h0 => 0 | .h1 => 1 | .h2 => 2 | .h3 => 3

/-- The level with a given number. -/
def Heat.ofNum (n : Nat) : Heat :=
  if n = 0 then .h0 else if n = 1 then .h1 else if n = 2 then .h2 else .h3

/-- Where the power-fail sequence stands (R64, R67). -/
inductive PfStage where
  | idle | stage1 | stage2 | wait
  deriving DecidableEq, Repr

/-- What the monitor samples for one publication (R54, R63, R68): the six sensor readings
in 1/16 °C, TS_DIE0 to TS_DIE3 then TS_SINK0 and TS_SINK1, both feeds in mV and the boost
load in mA. -/
structure MonitorSample where
  temps   : Vector (BitVec 16) 6
  feedA   : BitVec 16
  feedB   : BitVec 16
  boostMa : BitVec 16
  deriving DecidableEq, Repr

/-- A value written to IMAGE: where, its bytes and its quality nibble (R9, R83, R84). -/
structure ImgVal where
  off     : Nat
  bytes   : List Byte
  quality : BitVec 4
  deriving DecidableEq, Repr

/-- One value of a task's snapshot: the value and its age in ns (R83). -/
structure Latched where
  val : ImgVal
  age : Nat
  deriving DecidableEq, Repr

/-- What the program image declares of one output of a task (R92, R99 to R101, R516): its place
in IMAGE, its safe state, the remote station it goes to, the CAN transmit object it is sent
in (controller and object), and whether it is written to a paired output. -/
structure OutDecl where
  off     : Nat
  len     : Nat
  safe    : List Byte
  station : Option (BitVec 16)
  canObj  : Option (Fin 4 × BitVec 16)
  deriving DecidableEq, Repr

/-- The data types a variable of the program can have, as the module sees them: the number of
bytes, and whether the type is one a session may write or force (R129, R141). -/
structure VarDecl where
  handle  : BitVec 32
  size    : BitVec 8
  typ     : BitVec 8
  chamber : Fin 11
  off     : Nat
  /-- the task that owns the variable; none for a RETAIN variable that no task writes -/
  owner   : Option (Fin 128)
  /-- the variable belongs to, or is read by, a safety-class task -/
  safetyRead : Bool
  /-- the variable is one of the output or system values that no session may write or force -/
  locked  : Bool
  deriving DecidableEq, Repr

/-- What only a safety-class task writes to the safety island (R222, R227, R229, R231, R241): an SO command, an
axis enable word (bits SDI, SLP, SLS), a brake test request bit, or a software trip bit. -/
inductive SafeVal where
  | so (c : Fin 4) (on : Bool)
  | enable (a : Fin 8) (bits : BitVec 3)
  | brakeTest (c : Fin 4) (on : Bool)
  | swt (k : Fin 4) (on : Bool)
  deriving DecidableEq, Repr

/-- What the program image declares of one task (R83, R84, R92, R102). -/
structure TaskDecl where
  task      : Fin 128
  inputs    : List (Nat × Nat)
  outputs   : List OutDecl
  codeBytes : Nat
  dataBytes : Nat
  retainBytes : Nat
  /-- lines that it mirrors in a cycle (R380) -/
  mirrorLines : Nat
  /-- offsets of the task's instructions, on which a breakpoint may stand -/
  instrs    : List (BitVec 32)
  /-- what it writes to the safety island, with the safe state of each -/
  island    : List SafeVal
  deriving DecidableEq, Repr

/-- A process-data object that the station imports (R99, R101). -/
structure ImportDecl where
  station : BitVec 16
  object  : BitVec 16
  off     : Nat
  len     : Nat
  deriving DecidableEq, Repr

/-- What the loaded program image declares (R83, R92, R99, R106, R129, R516). Its file format is
the Workbench's; the model holds what the module reads out of it. -/
structure ProgInfo where
  tasks    : List TaskDecl
  vars     : List VarDecl
  imports  : List ImportDecl
  /-- RETAIN layout digest (R454) -/
  retainLayout : BitVec 256
  /-- bytes of task data, RETAIN and IMAGE that it needs (R42, R43) -/
  taskBytes   : Nat
  retainBytes : Nat
  imageBytes  : Nat
  /-- initial values: chamber, offset and bytes (R452, R453) -/
  initial  : List (Fin 11 × Nat × List Byte)
  /-- contacts that the carrier declaration marks absent (R450): CAN 3:0, axes 11:4, encoders
  19:12, TPO 23:20, TCI 25:24, panel 26 -/
  absent   : BitVec 27
  /-- CRC of the safety parameter set that it was built against (R241) -/
  safetyCrc : BitVec 32
  deriving DecidableEq, Repr, Inhabited

/-- A program that declares nothing (R516). -/
def ProgInfo.empty : ProgInfo :=
  { tasks := [], vars := [], imports := [], retainLayout := 0, taskBytes := 0, retainBytes := 0,
    imageBytes := 0, initial := [], absent := 0, safetyCrc := 0 }

/-- The state of a task's context (R80, R92, R103). -/
inductive RunState where
  | idle | ready | running | stopped
  deriving DecidableEq, Repr

/-- The state's number in STATE (R103). -/
def RunState.num : RunState → Nat
  | .idle => 0 | .ready => 1 | .running => 2 | .stopped => 3

/-- A remote station's state (R99). -/
inductive RemoteState where
  | present | absent | returning
  deriving DecidableEq, Repr

/-- The state's number in STATE (R104). -/
def RemoteState.num : RemoteState → Nat
  | .present => 0 | .absent => 1 | .returning => 2

/-- What a task writes to a Crucible slot it drives (R183): bytes of an input set, or of the
request line. -/
structure CruWrite where
  slot  : Fin 16
  /-- the input set, or none for the request line -/
  inset : Option (Fin 2)
  off   : Nat
  data  : List Byte
  deriving DecidableEq, Repr

/-- A FLOW_REC call: its time, severity, the application's own code and the payload (R410). -/
abbrev TaskRec := BitVec 64 × BitVec 3 × BitVec 16 × BitVec 256

/-- What one run of a task's code leaves when it finishes: the code itself is the
application's, so the finish brings it (R84, R85, R410). -/
structure TaskRun where
  /-- its staging area: the output values to be published -/
  outputs  : List ImgVal
  /-- stores to its task data, by offset in TASK -/
  stores   : List (Nat × List Byte)
  /-- RETAIN stores, by offset -/
  retains  : List (Nat × List Byte)
  /-- what it commits to the safety island (R222, R227, R229, R231) -/
  island   : List SafeVal
  /-- records it put in its MSG queue: time of the call, severity, code and payload (R410) -/
  records  : List TaskRec
  execUs   : BitVec 32
  /-- main and Temper pass agree at every commit point of the run, or the code of the commit
  point that differs (R113) -/
  mismatch : Option (BitVec 8)
  /-- range-edge events of the Temper datapath in this run (R112) -/
  edges    : Nat
  /-- lines in the undo logs of the two passes at the end of the run (R116) -/
  undoLines : Nat × Nat
  /-- stores to MSG, by offset (R114, R325, R326) -/
  msgs : List (Nat × List Byte)
  /-- what it wrote to Crucible slots (R183) -/
  cru : List CruWrite
  /-- replies it commits for application mailboxes (R468): mailbox and message -/
  appReplies : List (Fin 8 × List Byte)
  deriving DecidableEq, Repr

/-- What the digest and data mapping of a package say of one affected task (R137 to R139). -/
structure PkgTask where
  task     : Fin 128
  mapLines : Nat
  wcetUs   : BitVec 32
  codeBytes : Nat
  deriving DecidableEq, Repr

/-- What a change package declares (R135 to R140). Its file format is the Workbench's; the
model holds what the checks of R139 and the switch read out of it. -/
structure PkgInfo where
  base     : BitVec 256
  valid    : Bool
  safety   : Bool
  /-- it changes the layout of a variable that an unaffected task reads -/
  sharedLayout : Bool
  tasks    : List PkgTask
  /-- the program as it stands after the change -/
  prog     : ProgInfo
  retainBytes : Nat
  imageBytes  : Nat
  taskBytes   : Nat
  retyped  : List (BitVec 32)
  removed  : List (BitVec 32)
  /-- the package is written to MRAM with the program image: "commit to flash" (R140) -/
  toFlash  : Bool
  digest   : BitVec 256
  /-- digest of the program as it stands after the change -/
  result   : BitVec 256
  deriving DecidableEq, Repr, Inhabited

/-- A force request that has passed its checks and waits in its value's batch (R146). -/
structure ForcePending where
  handle  : BitVec 32
  /-- the value to force, or none for a release -/
  value   : Option (BitVec 64)
  session : Fin 17
  ts      : Nat
  rq      : Request
  /-- the release belongs to a RELEASE_ALL, whose reply counts it -/
  all     : Bool
  deriving DecidableEq, Repr

/-- The states of the change status (R152). -/
inductive ChangeState where
  | none | loading | switching | complete
  deriving DecidableEq, Repr

/-- The five modes of a loop (R162). -/
inductive LoopMode where
  | off | manual | auto | hold | tripped
  deriving DecidableEq, Repr

/-- The mode's number in MODE (R172). -/
def LoopMode.num : LoopMode → Nat
  | .off => 0 | .manual => 1 | .auto => 2 | .hold => 3 | .tripped => 4

/-- The two wide states of a biquad stage, on the Q30 grid (R154, R160). -/
structure BiqState where
  s1 : Int
  s2 : Int
  deriving DecidableEq, Repr

/-- A source value as a loop reads it: Q15 value, CLASS and STALE (R158, R159). -/
structure SrcVal where
  v     : Int
  cls   : BitVec 2
  stale : Bool
  deriving DecidableEq, Repr

/-- What a sample reads at its boundary (R155). A source of KIND 0 is none. -/
structure LoopSources where
  pv   : Option SrcVal
  sp   : Option SrcVal
  ff   : Option SrcVal
  ctrl : Option (BitVec 32)
  deriving DecidableEq, Repr

/-- The running state of a loop slot, in LOOP (R153, R379). -/
structure LoopSlot where
  mode : LoopMode  -- MODE (R162, R172)
  out : Int  -- last output, Q15 (R162, R172) log 5
  outQual : BitVec 2  -- CLASS of the last output (R159) log 4
  manual : Int  -- manual value, Q15 (R162) log 4
  spPos : Int  -- the internal set-point with its exact ramp position, in units of 10⁻⁶ Q15 LSB (R154, R163) log 5
  pvF : Int  -- PV after the pre-filters, Q15 (R160, R172) log 5
  integ : Int  -- PID integrator, Q15 (R160, R161)
  deriv : Int  -- PID derivative term, Q15 (R160)
  pvPrev : Int  -- pv_f of the sample before (R160)
  ePrev : Int  -- e of the sample before (R160)
  ffPrev : Int  -- ff of the sample before (R160)
  yPrev : Int  -- y(k−1) of LEADLAG and FF, on the Q30 grid (R154, R160)
  uPrev : Int  -- core output u_c of the sample before, Q15 (R167)
  uF : Int  -- post-filter result of the sample before its clamp, Q15 (R161)
  stages : List BiqState  -- states of the BIQ2 stages (R160)
  pre : List BiqState  -- states of the pre-filters (R160)
  post : List BiqState  -- states of the post-filters (R160)
  rampPos : Int  -- output of a ramp to safe with its fraction, in units of 10⁻⁶ LSB (R164)
  deriving DecidableEq, Repr

/-- Its value right after reset. -/
def LoopSlot.init : LoopSlot :=
  { mode := .off,
    out := 0,
    outQual := 0#2,
    manual := 0,
    spPos := 0,
    pvF := 0,
    integ := 0,
    deriv := 0,
    pvPrev := 0,
    ePrev := 0,
    ffPrev := 0,
    yPrev := 0,
    uPrev := 0,
    uF := 0,
    stages := [⟨0, 0⟩, ⟨0, 0⟩],
    pre := [⟨0, 0⟩, ⟨0, 0⟩],
    post := [⟨0, 0⟩, ⟨0, 0⟩, ⟨0, 0⟩, ⟨0, 0⟩],
    rampPos := 0 }


/-- The states of a slot (R182). -/
inductive SlotState where
  | empty | loading | analysed | failed
  deriving DecidableEq, Repr

/-- The state's number in STATE (R182). -/
def SlotState.num : SlotState → Nat
  | .empty => 0 | .loading => 1 | .analysed => 2 | .failed => 3

/-- Where a started job stands (R186, R201, R205, R207). -/
inductive JobPhase where
  | queued | factor | solve | iterate | refactor | polish | publish
  deriving DecidableEq, Repr

/-- A factor that the slot holds in CRUC (R187, R189): whether it belongs to A_cur as it stands,
the penalty it was computed with, and what its pivots did. The numbers themselves are the
kernel's; the model names them by `key`. -/
structure Factor where
  ofCur   : Bool
  rho     : BitVec 64
  perturb : BitVec 16
  inertia : Bool
  key     : Nat
  deriving DecidableEq, Repr

/-- An iterate of a QP job, with the residuals its checks formed (R201, R202). -/
structure Iterate where
  x  : List (BitVec 64)
  z  : List (BitVec 64)
  y  : List (BitVec 64)
  rp : BitVec 64
  rd : BitVec 64
  /-- the maxima by which test 1 scales EPS_REL, and whether it is met (R202) -/
  np : BitVec 64
  nd : BitVec 64
  met : Bool
  deriving DecidableEq, Repr

/-- A job from its take to its publication (R185, R186, R210). -/
structure Job where
  seq      : BitVec 32
  inset    : Fin 2
  /-- the deadline as a count of the raw local timebase counter (R185) -/
  deadline : Nat
  takenAt  : Nat
  inTag    : BitVec 64
  phase    : JobPhase
  status   : JobStatus
  factorAt : Nat
  factorNs : Nat
  steps    : Nat
  iters    : Nat
  refactors : Nat
  polished : Nat
  /-- the job is on the stale path (R190, R206) -/
  stale    : Bool
  rho      : BitVec 64
  rhoNext  : BitVec 64
  /-- the vectors of the input set: b, or q, l and u -/
  b        : List (BitVec 64)
  lo       : List (BitVec 64)
  hi       : List (BitVec 64)
  cur      : Option Iterate
  best     : Option Iterate
  /-- checks made, and the iterate at the last one (R202) -/
  checks   : Nat
  last     : Option Iterate
  polishPt : Option Iterate
  deriving DecidableEq, Repr

/-- A result buffer (R191, R210). -/
structure ResultBuf where
  tail    : BitVec 32
  xTs     : BitVec 64
  xStatus : BitVec 32
  x       : List (BitVec 64)
  head    : BitVec 32
  deriving DecidableEq, Repr

/-- The steps of a brake test (R229). -/
inductive BtStep where
  | apply | posMove | posBack | negMove | negBack | settle
  deriving DecidableEq, Repr

/-- A brake test in progress (R229): its SO channel, its step and when the step began, and the
positions at its start. -/
structure BrakeTest where
  so     : Fin 4
  step   : BtStep
  since  : Nat
  start1 : Int
  start2 : Int
  /-- furthest movement of either encoder source so far, in SPU -/
  moved  : Nat
  /-- position of the motion axis at its start, in fine steps -/
  base   : Int
  deriving DecidableEq, Repr

/-- What a brake test ended with (R229, R230). -/
inductive BtResult where
  | none | passed | failed | aborted
  deriving DecidableEq, Repr

/-- What the field side samples from its terminals for one uplink frame (R222, R258, R267, R268,
R283): the safety comparators of all 32 channels, the VIN code, the pin states of the group's channels, raw for an input and at
the Type 3 points for an output, the conditions of the group's channels, the conversion of the AIO channel in rotation as an
untrimmed code before its filter, and for ILK0 and ILK2 the readback bands of the SO channel in rotation. A channel's conditions
are in current limit (bit 0), open wire (bit 1), over temperature (bit 2) and pin above 12 V (bit 3). -/
structure FieldSample where
  raw   : BitVec 32
  vin   : BitVec 10
  pins  : BitVec 8
  cond  : Vector (BitVec 4) 8
  aio   : BitVec 16
  bands : BitVec 7
  deriving DecidableEq, Repr

/-- The states of an axis (R319). -/
inductive AxisState where
  | disabled | idle | position | velocity | table | gear | homing | stopping
  deriving DecidableEq, Repr

/-- The state's number in STATE (R319). -/
def AxisState.num : AxisState → Nat
  | .disabled => 0 | .idle => 1 | .position => 2 | .velocity => 3
  | .table => 4 | .gear => 5 | .homing => 6 | .stopping => 7

/-- The phases of a homing run (R312). -/
inductive HomePhase where
  | leave | search | searchBack | stop | back | seek | index | captured
  deriving DecidableEq, Repr

/-- A homing run (R312, R313). -/
structure Homing where
  phase   : HomePhase
  /-- start of the run, and of the phase -/
  begun   : Nat
  since   : Nat
  chatter : Nat
  /-- the state of the switch, with the time of its last change and the position there -/
  sw      : Bool
  edgeAt  : Nat
  edgePos : Int
  /-- the captured position, in fine steps -/
  capture : Option Int
  turned  : Bool
  deriving DecidableEq, Repr

/-- A gear coupling (R306, R307): the count and position it started from and its ratio. -/
structure Gearing where
  m0   : Int
  p0   : Int
  num  : Int
  den  : Nat
  enc  : Fin 8
  /-- fraction of the reference below one fine step, in units of 2⁻³² (R306) -/
  frac : Nat
  /-- the furthest reference reached in the permitted direction of a restricted axis -/
  best : Int
  deriving DecidableEq, Repr

/-- A new ratio that is armed (R307). -/
structure ArmedRatio where
  num   : Int
  den   : Nat
  atPos : Bool
  pos   : BitVec 32
  count : BitVec 32
  deriving DecidableEq, Repr

/-- The error states of a CAN controller (R329, R339). -/
inductive CanState where
  | active | passive | busOff | off
  deriving DecidableEq, Repr

/-- The state's number in STATE (R339). -/
def CanState.num : CanState → Nat
  | .active => 0 | .passive => 1 | .busOff => 2 | .off => 3

/-- The mode a controller is in (R331, R332, R335). -/
inductive CanMode where
  | off | normal | restricted
  deriving DecidableEq, Repr

/-- The kinds of bus error, and what they do to the counters under ISO 11898-1 (R329, R339). -/
inductive CanErr where
  | stuff | form | ack | bit1 | bit0 | crc
  deriving DecidableEq, Repr

/-- The kind's number in LAST_ERR (R339). -/
def CanErr.num : CanErr → Nat
  | .stuff => 1 | .form => 2 | .ack => 3 | .bit1 => 4 | .bit0 => 5 | .crc => 6

/-- Where an error arises, as far as the counting rules of ISO 11898-1 tell it apart (R329): in a frame; a stuff bit of the
arbitration field sent recessive and read dominant; or in, or right after, an error or overload flag. -/
inductive CanSite where
  | frame | arbitration | flag
  deriving DecidableEq, Repr

/-- A frame as the bus gives it (R324, R337). -/
structure CanFrame where
  /-- bit 31 IDE, bit 30 RTR, bits 28:0 identifier -/
  id   : BitVec 32
  dlc  : BitVec 4
  fdf  : Bool
  brs  : Bool
  esi  : Bool
  /-- the res bit of an FD frame is recessive (R322) -/
  res  : Bool
  data : BitVec 512
  deriving DecidableEq, Repr

/-- What a controller has taken for arbitration (R328): an object, or a frame of CAN_TX_ONCE. -/
inductive CanTx where
  | object (n : BitVec 16)
  | once (f : CanFrame)
  | reference (cycle : BitVec 6)
  deriving DecidableEq, Repr

/-- The states of the local clock (R354, R358). -/
inductive ClkState where
  | free | acquiring | locked | holdover
  deriving DecidableEq, Repr

/-- The state's number in CLK_STATE (R358). -/
def ClkState.num : ClkState → Nat
  | .free => 0 | .acquiring => 1 | .locked => 2 | .holdover => 3

/-- A UTC calendar date and time (R363, R364). -/
structure Calendar where
  year   : Nat
  month  : Nat
  day    : Nat
  hour   : Nat
  minute : Nat
  second : Nat
  deriving DecidableEq, Repr

/-- What an accepted Sync and its master's Announce carry beside the offset (R349, R350, R354, R358):
the master's identity, UTC offset and flags. -/
structure PtpMaster where
  gmId      : BitVec 64
  utcOffset : Option Int
  leap61    : Bool
  leap59    : Bool
  deriving DecidableEq, Repr

/-- A plant-network frame as a MAC receives it (R341 to R350, R383, R401): its port, the
sender's MAC address, what it carries, and what IEC 62439-3 reads from its trailer or tag. -/
inductive NetPayload where
  /-- process data of a station (R99): its address, role, epoch, object and data -/
  | processData (station : BitVec 16) (owner : Bool) (epoch : BitVec 64) (object : BitVec 16) (data : List Byte)
  /-- a supervision frame (R346) -/
  | supervision
  /-- a presence frame of a paired module (R383, R401) -/
  | presence (station : BitVec 16) (owner : Bool) (epoch : BitVec 64)
  /-- a query put to this module as witness (R383): the asker's address, the address asked about, and WITNESS_SILENT_US -/
  | witnessQuery (asker : BitVec 16) (peer : BitVec 16) (silentUs : BitVec 16)
  /-- an Announce message of a PTP master (R348, R354) -/
  | announce (m : PtpMaster)
  /-- any other PTP message but an accepted Sync (R348) -/
  | ptp (data : List Byte)
  /-- a session's segment (R471) -/
  | session (data : List Byte)
  /-- any other frame, for an MSG receive queue -/
  | other (data : List Byte)
  deriving DecidableEq, Repr

/-- A received Ethernet frame (R341, R343, R345). -/
structure NetFrame where
  port   : Fin 2
  src    : BitVec 48
  /-- sequence number of the redundancy trailer or HSR tag -/
  seq    : BitVec 16
  /-- the LAN identifier of a PRP trailer names the other LAN -/
  wrongLan : Bool
  /-- CRC and length are right (R341) -/
  good   : Bool
  len    : Nat
  /-- what the frame carries -/
  data   : NetPayload
  deriving DecidableEq, Repr

/-- A capture that the time unit holds in hardware (R362). -/
structure Capture where
  ts   : BitVec 64
  edge : BitVec 2
  deriving DecidableEq, Repr

/-- A witness's answer (R383). -/
inductive WitnessAnswer where
  | confirm | deny | unknown
  deriving DecidableEq, Repr

/-- What the hardware and the carrier fix of a module, and firmware reads as it starts (R417, R500). -/
structure ModuleId where
  serial   : BitVec 64
  extended : Bool
  deriving DecidableEq, Repr

/-- The pair roles (R374, R406). -/
inductive Role where
  | none | alone | active | standby | syncing | quarantined
  deriving DecidableEq, Repr

/-- The role's number in ROLE (R406). -/
def Role.num : Role → Nat
  | .none => 7 | .alone => 0 | .active => 1 | .standby => 2 | .syncing => 3 | .quarantined => 4

/-- The levels of the module's mode (R12, R446). -/
inductive Mode where
  | off | boot | minimal | stop | run | halt
  deriving DecidableEq, Repr

/-- What the peer's last heartbeat carried (R377). -/
structure PeerInfo where
  role   : Role
  epoch  : BitVec 64
  mode   : Mode
  heat   : Heat
  energy : Energy
  /-- LANE_FAULT, YIELD_FAULT or DIVERGE_FAULT at the peer -/
  faulty : Bool
  /-- commands of its PAIR_PEER and pair-wired channels -/
  doCmd  : BitVec 32
  soCmd  : BitVec 4
  deriving DecidableEq, Repr

/-- What the peer reports of its configuration for the pair check (R403). -/
structure PeerConfig where
  addr      : BitVec 10
  pos       : Bool
  firmware  : BitVec 256
  program   : BitVec 256
  descriptors : BitVec 256
  setCrc    : BitVec 32
  pairDesc  : PairDesc
  /-- digest of the change package it holds -/
  package   : BitVec 256
  deriving DecidableEq, Repr

/-- What a pair-link frame carries (R376, R377, R379, R380, R387, R389, R394, R397). -/
inductive PairMsg where
  | heartbeat (p : PeerInfo)
  | config (p : PeerConfig)
  /-- a RETAIN line, applied on receipt -/
  | retain (off : Nat) (data : List Byte)
  /-- a dirty line of a task's cycle, held until its marker -/
  | taskLine (task : Fin 128) (chamber : Fin 11) (off : Nat) (data : List Byte)
  /-- a commit marker: the task, what it committed to IMAGE and to the island, the age of its latch, and
  whether it still awaits its switch to a change package -/
  | marker (task : Fin 128) (outputs : List ImgVal) (island : List SafeVal) (latchAge : Nat) (pending : Bool)
  /-- slot state of a loop, applied on receipt -/
  | loop (n : Fin 256) (slot : LoopSlot) (active : BitVec 1) (bankA : Bank) (bankB : Bank)
  /-- axis state, applied on receipt -/
  | axis (n : Fin 8) (pos : Int) (rest : Bool) (enOn : Bool)
  | forces (f : List ForceEntry)
  | island (killed : Vector Bool 10) (pairFault : BitVec 16) (axisFault : BitVec 8)
  /-- the online-change state (R140), as a SYNCING module is filled with it -/
  | change (stat : ChangeStat) (info : Option PkgInfo) (pending : List (Fin 128)) (pkg : Memory)
  | epoch (e : BitVec 64)
  | yield
  | swap
  /-- the hand-over of a task at its boundary on the old owner -/
  | handover (task : Fin 128)
  | swapDone
  /-- a test pulse of PEER_OK_OUT is announced; as received, whether the receiver's input has shown it (R378) -/
  | testPulse (seen : Bool)
  /-- the owner's RETAIN block signatures at a commit marker -/
  | signatures (s : List (Nat × BitVec 32))
  /-- a RETAIN block is asked for, and resent whole (R394) -/
  | resend (block : Nat)
  | block (off : Nat) (data : List Byte)
  /-- the owner's re-drive is announced -/
  | redrive
  /-- a chamber's content in the bulk copy, and a line of its second pass (R397) -/
  | bulkAll (chamber : Fin 11) (mem : Memory)
  | bulk (chamber : Fin 11) (off : Nat) (data : List Byte)
  | olcActivate
  deriving DecidableEq, Repr

/-- The steps in which a SYNCING module is filled (R397). -/
inductive SyncStep where
  | retain | loop | image | task | tables | secondPass | markers
  deriving DecidableEq, Repr

/-- An export that is held for a session (R417): who holds it, its range and least severity, the
next offset in its stream, the stream gathered so far, the next SEQ and the number of records, whether the
trailer stands in it, and the last call. -/
structure Export where
  session : Fin 17
  fromSeq : Nat
  toSeq   : Nat
  minSev  : Nat
  next    : Nat
  stream  : List Byte
  nextSeq : Nat
  count   : Nat
  whole   : Bool
  lastAt  : Nat
  deriving DecidableEq, Repr

/-- An update request (R430): its rectangle and zone, whether it uses the clean waveforms, the
next levels it took from the draw buffer, and its number. -/
structure PanelReq where
  x      : Nat
  y      : Nat
  w      : Nat
  h      : Nat
  zone   : Fin 4
  clean  : Bool
  /-- the FORCED marker, drawn by the module (R149, R430) -/
  forced : Bool
  /-- the slot of the journal entry that this redraws, if any (R432) -/
  redraw : Option (Fin 8)
  /-- the redraw is one of BOOT's (R432) -/
  atBoot : Bool
  levels : List (BitVec 4)
  seq    : BitVec 32
  deriving DecidableEq, Repr

/-- An update in flight (R427, R430): what it latched at its first frame, the frames it has
received and the frames it runs for, and the journal entry it holds. -/
structure PanelUpd where
  req    : PanelReq
  phase  : Bool
  band   : Fin 8
  vcom   : BitVec 16
  railMv : BitVec 16
  table  : List Byte
  frames : Nat
  length : Nat
  entry  : Fin 8
  /-- a balancing frame ends the update at the end of the present frame (R427) -/
  abort  : Bool
  deriving DecidableEq, Repr

/-- Where the module stands between a reset and its running modes (R436, R439, R446, R501). -/
inductive Phase where
  /-- unpowered, or the hold-up store has run down -/
  | off
  /-- every block is held in reset; reset release is awaited -/
  | held
  | rom
  | recovery
  | firmware
  | serving
  deriving DecidableEq, Repr

/-- The state of a firmware slot (R440). -/
inductive FwState where
  | empty | trial | confirmed | invalid
  deriving DecidableEq, Repr

/-- The state's number in STATE_A and STATE_B (R457). -/
def FwState.num : FwState → Nat
  | .empty => 0 | .trial => 1 | .confirmed => 2 | .invalid => 3

/-- One firmware slot of the FW region (R440): its state, the image's bytes as loaded, and what
its header carries once it is whole. -/
structure FwSlot where
  state   : FwState
  image   : Memory
  len     : Nat
  version : BitVec 32
  floor   : BitVec 32
  deriving DecidableEq, Repr

/-- Who asked for ENABLE (R449, R462). -/
inductive EnableBy where
  | command (rq : Request)
  | runEn
  | automatic
  deriving DecidableEq, Repr

/-- A consistency check that runs, or an accepted ENABLE on its way to RUN (R449 to R452). -/
structure Check where
  by_  : EnableBy
  cold : Bool
  deriving DecidableEq, Repr

/-- The levels on the strap contacts (R485). -/
structure Straps where
  addr     : BitVec 10
  pairPos  : Bool
  failHi   : Bool
  bootSafe : Bool
  deriving DecidableEq, Repr

/-- A cause of the supervisor fatal signal or of a clock fault (R19, R40, R45, R56, R70, R121,
R216, R218, R446). -/
inductive FatalCause where
  | clock | uncorrectable (chamber : Fin 11) | portFault (port : Fin 14) | rail (n : Nat)
  | thermal | laneFault (lane : Fin 4) | island | qlLine (line : Fin 8)
  deriving DecidableEq, Repr

/-- The stored configuration (R37, R439, R452): what the last accepted ENABLE wrote to MRAM. -/
structure StoredCfg where
  chambers : Vector ChamberDesc 11
  power    : PowerDesc
  tasks    : Vector TaskDesc 128
  remotes  : List RemoteDesc
  image    : Memory
  imageLen : Nat
  prog     : ProgInfo
  /-- digest of the program as online changes committed to flash left it (R140) -/
  running  : Option (BitVec 256)
  loops    : Vector LoopDesc 256
  banks    : Vector (Bank × Bank) 256
  slots    : Vector SlotDesc 16
  qps      : Vector QpParams 16
  patterns : Vector (Memory × Nat) 16
  analyses : Vector (SlotState × SlotInfo × QpInfo) 16
  dio      : Vector DioDesc 32
  aio      : Vector AioDesc 16
  axes     : Vector AxisDesc 8
  encs     : Vector EncDesc 8
  cans     : Vector CanDesc 4
  filters  : Vector (Vector CanFilter 64) 4
  objects  : List CanObject
  ptp      : PtpDesc
  cmps     : Vector CmpDesc 8
  tcis     : Vector TciDesc 2
  pair     : PairDesc
  panel    : PanelDesc
  waves    : Memory
  wavesOk  : Bool
  deriving DecidableEq, Repr

/-- The states of a mailbox (R467). -/
inductive MbState where
  | empty | posted | busy | done
  deriving DecidableEq, Repr

/-- The state's number in MB_STATE (R467). -/
def MbState.num : MbState → Nat
  | .empty => 0 | .posted => 1 | .busy => 2 | .done => 3

/-- A message as it waits to be taken (R465, R469): its command code, the LENGTH its header
claims, and the request. -/
structure Waiting where
  code   : BitVec 16
  length : BitVec 16
  rq     : Request
  deriving DecidableEq, Repr

/-- A reply as it leaves the module (R465, R466). -/
structure Reply where
  session : Fin 17
  mailbox : Option (Fin 8)
  code    : BitVec 16
  tag     : BitVec 16
  rxTs    : BitVec 64
  payload : List Byte
  deriving DecidableEq, Repr

/-- A TLS client certificate as the handshake finds it (R471, R472): whether the handshake and
the chain to an anchor verify, its role extension, the first eight bytes of its digest, its
validity dates as UTC seconds, and the client's address. -/
structure ClientCert where
  chainOk   : Bool
  role      : Fin 4
  certId    : BitVec 64
  notBefore : BitVec 64
  notAfter  : BitVec 64
  peer      : BitVec 32
  deriving DecidableEq, Repr

end Sys2Proof.Machine
end

