-- ==== Sys2Proof/Syntax.lean ====
section
/-! DEFINITION. The commands of the block: one constructor for each row of opcode_table.json. A mailbox command
carries the request behind its door; an event carries what comes from outside with it. -/

namespace Sys2Proof

open Machine

/-- The rows of the table of operations and events, in its order. -/
inductive Instr where
  /-- SYS_ENABLE (R449). -/
  | sysEnable (rq : Request)
  /-- SYS_STOP (R448). -/
  | sysStop (rq : Request)
  /-- SYS_RESTART (R437). -/
  | sysRestart (rq : Request)
  /-- SYS_BOOT_INFO (R457). -/
  | sysBootInfo (rq : Request)
  /-- SYS_START_SET (R455). -/
  | sysStartSet (rq : Request)
  /-- SYS_START_GET (R455). -/
  | sysStartGet (rq : Request)
  /-- SYS_FW_LOAD (R442). -/
  | sysFwLoad (rq : Request)
  /-- SYS_FW_ACTIVATE (R442). -/
  | sysFwActivate (rq : Request)
  /-- SYS_SESSION_LIST (R480). -/
  | sysSessionList (rq : Request)
  /-- SYS_SESSION_CLOSE (R474). -/
  | sysSessionClose (rq : Request)
  /-- SYS_TRUST_SET (R476). -/
  | sysTrustSet (rq : Request)
  /-- SYS_TRUST_GET (R472). -/
  | sysTrustGet (rq : Request)
  /-- SYS_SESS_SET (R479). -/
  | sysSessSet (rq : Request)
  /-- SYS_SESS_GET (R479). -/
  | sysSessGet (rq : Request)
  /-- CFG_CHAMBER_SET (R44). -/
  | cfgChamberSet (rq : Request)
  /-- CFG_CHAMBER_GET (R51). -/
  | cfgChamberGet (rq : Request)
  /-- CFG_POWER_SET (R74). -/
  | cfgPowerSet (rq : Request)
  /-- CFG_POWER_GET (R74). -/
  | cfgPowerGet (rq : Request)
  /-- CFG_NET_SET (R347). -/
  | cfgNetSet (rq : Request)
  /-- CFG_NET_GET (R347). -/
  | cfgNetGet (rq : Request)
  /-- PRG_TASK_SET (R102). -/
  | prgTaskSet (rq : Request)
  /-- PRG_TASK_GET (R102). -/
  | prgTaskGet (rq : Request)
  /-- PRG_TASK_STATUS (R103). -/
  | prgTaskStatus (rq : Request)
  /-- PRG_TASK_RESUME (R92). -/
  | prgTaskResume (rq : Request)
  /-- PRG_TASK_CLEAR (R103). -/
  | prgTaskClear (rq : Request)
  /-- PRG_REMOTE_SET (R104). -/
  | prgRemoteSet (rq : Request)
  /-- PRG_REMOTE_STATUS (R104). -/
  | prgRemoteStatus (rq : Request)
  /-- PRG_LANE_SPLIT (R123). -/
  | prgLaneSplit (rq : Request)
  /-- PRG_LANE_JOIN (R125). -/
  | prgLaneJoin (rq : Request)
  /-- PRG_LANE_STATUS (R133). -/
  | prgLaneStatus (rq : Request)
  /-- PRG_TEMPER_STATUS (R134). -/
  | prgTemperStatus (rq : Request)
  /-- PRG_TEMPER_CLEAR (R134). -/
  | prgTemperClear (rq : Request)
  /-- PRG_IMAGE_LOAD (R516). -/
  | prgImageLoad (rq : Request)
  /-- PRG_IMAGE_INFO (R516). -/
  | prgImageInfo (rq : Request)
  /-- PRG_VAR_READ (R129). -/
  | prgVarRead (rq : Request)
  /-- PRG_VAR_WRITE (R129). -/
  | prgVarWrite (rq : Request)
  /-- PRG_BREAK_SET (R130). -/
  | prgBreakSet (rq : Request)
  /-- PRG_BREAK_CLEAR (R130). -/
  | prgBreakClear (rq : Request)
  /-- PRG_BREAK_RELEASE (R130). -/
  | prgBreakRelease (rq : Request)
  /-- PRG_STEP (R130). -/
  | prgStep (rq : Request)
  /-- PRG_BREAK_STATUS (R131). -/
  | prgBreakStatus (rq : Request)
  /-- OLC_LOAD (R136). -/
  | olcLoad (rq : Request)
  /-- OLC_ACTIVATE (R137). -/
  | olcActivate (rq : Request)
  /-- OLC_ABORT (R136). -/
  | olcAbort (rq : Request)
  /-- OLC_STATUS (R152). -/
  | olcStatus (rq : Request)
  /-- OLC_FORCE_SET (R141). -/
  | olcForceSet (rq : Request)
  /-- OLC_FORCE_RELEASE (R142). -/
  | olcForceRelease (rq : Request)
  /-- OLC_FORCE_RELEASE_ALL (R147). -/
  | olcForceReleaseAll (rq : Request)
  /-- OLC_FORCE_LIST (R151). -/
  | olcForceList (rq : Request)
  /-- LOOP_SET (R170). -/
  | loopSet (rq : Request)
  /-- LOOP_GET (R170). -/
  | loopGet (rq : Request)
  /-- LOOP_SWAP_BANK (R167). -/
  | loopSwapBank (rq : Request)
  /-- LOOP_BANK_WRITE (R167). -/
  | loopBankWrite (rq : Request)
  /-- LOOP_BANK_READ (R171). -/
  | loopBankRead (rq : Request)
  /-- LOOP_MODE (R163). -/
  | loopMode (rq : Request)
  /-- LOOP_RESET_TRIP (R165). -/
  | loopResetTrip (rq : Request)
  /-- LOOP_STATUS (R172). -/
  | loopStatus (rq : Request)
  /-- LOOP_CLEAR (R172). -/
  | loopClear (rq : Request)
  /-- LOOP_ENGINE_STATUS (R173). -/
  | loopEngineStatus (rq : Request)
  /-- CRU_SLOT_SET (R181). -/
  | cruSlotSet (rq : Request)
  /-- CRU_SLOT_GET (R181). -/
  | cruSlotGet (rq : Request)
  /-- CRU_PATTERN_LOAD (R179). -/
  | cruPatternLoad (rq : Request)
  /-- CRU_ANALYSE (R180). -/
  | cruAnalyse (rq : Request)
  /-- CRU_SLOT_INFO (R182). -/
  | cruSlotInfo (rq : Request)
  /-- CRU_JOB_SUBMIT (R185). -/
  | cruJobSubmit (rq : Request)
  /-- CRU_RESULT_READ (R192). -/
  | cruResultRead (rq : Request)
  /-- CRU_STATUS (R194). -/
  | cruStatus (rq : Request)
  /-- CRU_CLEAR (R194). -/
  | cruClear (rq : Request)
  /-- CRU_QP_SET (R200). -/
  | cruQpSet (rq : Request)
  /-- CRU_QP_GET (R200). -/
  | cruQpGet (rq : Request)
  /-- CRU_QP_INFO (R214). -/
  | cruQpInfo (rq : Request)
  /-- CRU_INPUT_WRITE (R517). -/
  | cruInputWrite (rq : Request)
  /-- FIO_DIO_SET (R273). -/
  | fioDioSet (rq : Request)
  /-- FIO_DIO_GET (R273). -/
  | fioDioGet (rq : Request)
  /-- FIO_DIO_STATUS (R274). -/
  | fioDioStatus (rq : Request)
  /-- FIO_GROUP_STATUS (R274). -/
  | fioGroupStatus (rq : Request)
  /-- FIO_GROUP_RESET (R265). -/
  | fioGroupReset (rq : Request)
  /-- FIO_DIO_UNLATCH (R257). -/
  | fioDioUnlatch (rq : Request)
  /-- FIO_DIO_CLEAR (R274). -/
  | fioDioClear (rq : Request)
  /-- FIO_AIO_SET (R292). -/
  | fioAioSet (rq : Request)
  /-- FIO_AIO_GET (R292). -/
  | fioAioGet (rq : Request)
  /-- FIO_AIO_STATUS (R293). -/
  | fioAioStatus (rq : Request)
  /-- FIO_AIO_TRIM_SET (R282). -/
  | fioAioTrimSet (rq : Request)
  /-- FIO_AIO_TRIM_GET (R293). -/
  | fioAioTrimGet (rq : Request)
  /-- FIO_AIO_TRIM_DRIVE (R282). -/
  | fioAioTrimDrive (rq : Request)
  /-- FIO_AIO_TRIM_REMOVE (R282). -/
  | fioAioTrimRemove (rq : Request)
  /-- FIO_AIO_CLEAR (R293). -/
  | fioAioClear (rq : Request)
  /-- SAFE_PARAM_LOAD (R240). -/
  | safeParamLoad (rq : Request)
  /-- SAFE_PARAM_READ (R240). -/
  | safeParamRead (rq : Request)
  /-- SAFE_SIGN_OFF (R240). -/
  | safeSignOff (rq : Request)
  /-- SAFE_STATUS (R248). -/
  | safeStatus (rq : Request)
  /-- SAFE_RESET (R234). -/
  | safeReset (rq : Request)
  /-- SAFE_BRAKE_TEST (R229). -/
  | safeBrakeTest (rq : Request)
  /-- SAFE_CLEAR (R248). -/
  | safeClear (rq : Request)
  /-- MOT_AXIS_SET (R318). -/
  | motAxisSet (rq : Request)
  /-- MOT_AXIS_GET (R318). -/
  | motAxisGet (rq : Request)
  /-- MOT_ENC_SET (R317). -/
  | motEncSet (rq : Request)
  /-- MOT_ENC_GET (R317). -/
  | motEncGet (rq : Request)
  /-- MOT_TABLE_LOAD (R303). -/
  | motTableLoad (rq : Request)
  /-- MOT_TABLE_READ (R303). -/
  | motTableRead (rq : Request)
  /-- MOT_STATUS (R320). -/
  | motStatus (rq : Request)
  /-- MOT_CLEAR (R320). -/
  | motClear (rq : Request)
  /-- CAN_CTRL_SET (R335). -/
  | canCtrlSet (rq : Request)
  /-- CAN_CTRL_GET (R335). -/
  | canCtrlGet (rq : Request)
  /-- CAN_FILTER_SET (R336). -/
  | canFilterSet (rq : Request)
  /-- CAN_OBJECT_SET (R336). -/
  | canObjectSet (rq : Request)
  /-- CAN_RECOVER (R330). -/
  | canRecover (rq : Request)
  /-- CAN_STATUS (R339). -/
  | canStatus (rq : Request)
  /-- CAN_TX_ONCE (R327). -/
  | canTxOnce (rq : Request)
  /-- CAN_CLEAR (R339). -/
  | canClear (rq : Request)
  /-- TIME_PTP_SET (R351). -/
  | timePtpSet (rq : Request)
  /-- TIME_PTP_GET (R351). -/
  | timePtpGet (rq : Request)
  /-- TIME_STATUS (R358). -/
  | timeStatus (rq : Request)
  /-- TIME_CMP_SET (R361). -/
  | timeCmpSet (rq : Request)
  /-- TIME_CMP_GET (R361). -/
  | timeCmpGet (rq : Request)
  /-- TIME_TCI_SET (R362). -/
  | timeTciSet (rq : Request)
  /-- TIME_RTC_READ (R364). -/
  | timeRtcRead (rq : Request)
  /-- TIME_RTC_SET (R363). -/
  | timeRtcSet (rq : Request)
  /-- TIME_RTC_SHIFT (R365). -/
  | timeRtcShift (rq : Request)
  /-- TIME_RTC_ALARM (R366). -/
  | timeRtcAlarm (rq : Request)
  /-- TIME_RTC_WAKE (R367). -/
  | timeRtcWake (rq : Request)
  /-- TIME_CLEAR (R367). -/
  | timeClear (rq : Request)
  /-- PAIR_SET (R405). -/
  | pairSet (rq : Request)
  /-- PAIR_GET (R405). -/
  | pairGet (rq : Request)
  /-- PAIR_STATUS (R406). -/
  | pairStatus (rq : Request)
  /-- PAIR_SWAP (R388). -/
  | pairSwap (rq : Request)
  /-- PAIR_READMIT (R400). -/
  | pairReadmit (rq : Request)
  /-- PAIR_CLEAR (R395). -/
  | pairClear (rq : Request)
  /-- FLOW_SET (R418). -/
  | flowSet (rq : Request)
  /-- FLOW_GET (R418). -/
  | flowGet (rq : Request)
  /-- FLOW_FLUSH (R412). -/
  | flowFlush (rq : Request)
  /-- FLOW_STATUS (R419). -/
  | flowStatus (rq : Request)
  /-- FLOW_READ (R416). -/
  | flowRead (rq : Request)
  /-- FLOW_EXPORT (R417). -/
  | flowExport (rq : Request)
  /-- FLOW_CLEAR (R419). -/
  | flowClear (rq : Request)
  /-- FLOW_NOTE (R522). -/
  | flowNote (rq : Request)
  /-- PNL_SET (R433). -/
  | pnlSet (rq : Request)
  /-- PNL_GET (R433). -/
  | pnlGet (rq : Request)
  /-- PNL_WAVE_LOAD (R425). -/
  | pnlWaveLoad (rq : Request)
  /-- PNL_DRAW (R430). -/
  | pnlDraw (rq : Request)
  /-- PNL_UPDATE (R430). -/
  | pnlUpdate (rq : Request)
  /-- PNL_STATUS (R434). -/
  | pnlStatus (rq : Request)
  /-- PNL_CLEAR (R434). -/
  | pnlClear (rq : Request)
  /-- DIAG_GROTTO_STATUS (R52). -/
  | diagGrottoStatus (rq : Request)
  /-- DIAG_GROTTO_CLEAR (R52). -/
  | diagGrottoClear (rq : Request)
  /-- DIAG_POWER_STATUS (R75). -/
  | diagPowerStatus (rq : Request)
  /-- DIAG_POWER_CLEAR (R75). -/
  | diagPowerClear (rq : Request)
  /-- DIAG_NET_STATUS (R370). -/
  | diagNetStatus (rq : Request)
  /-- MAILBOX_WRITE (R461). -/
  | mailboxWrite (mb : Fin 8) (off : Nat) (data : List Byte)
  /-- MAILBOX_RING (R467). -/
  | mailboxRing (mask : BitVec 8)
  /-- RUN_EN_SET (R463). -/
  | runEnSet
  /-- RUN_EN_CLEAR (R463). -/
  | runEnClear
  /-- IRQ_STATUS_CLEAR (R464). -/
  | irqStatusClear (bits : BitVec 32)
  /-- IRQ_MASK_WRITE (R464). -/
  | irqMaskWrite (mask : BitVec 32)
  /-- REGISTER_WRITE_OTHER (R461). -/
  | registerWriteOther (off : Nat) (data : List Byte)
  /-- HP_PERST (R460). -/
  | hpPerst
  /-- HOST_LINK_UP (R460). -/
  | hostLinkUp
  /-- HOST_LINK_LOST_TIMEOUT (R460). -/
  | hostLinkLostTimeout
  /-- COMMAND_TAKE (R469). -/
  | commandTake
  /-- APP_REPLY_COPY (R468). -/
  | appReplyCopy (mb : Fin 8)
  /-- APP_TIMEOUT (R468). -/
  | appTimeout (mb : Fin 8)
  /-- ALIVE_TICK (R462). -/
  | aliveTick
  /-- SESSION_HANDSHAKE (R472). -/
  | sessionHandshake (cert : ClientCert)
  /-- ADDRESS_BAR_EXPIRE (R472). -/
  | addressBarExpire (addr : BitVec 32)
  /-- SESSION_MESSAGE_RECEIVE (R471). -/
  | sessionMessageReceive (session : Fin 17) (msg : List Byte)
  /-- SESSION_IDLE_TIMEOUT (R473). -/
  | sessionIdleTimeout (session : Fin 17)
  /-- SESSION_CLOSE (R474). -/
  | sessionClose (session : Fin 17)
  /-- POWER_ON_RESET (R436). -/
  | powerOnReset
  /-- NRST_IN_ASSERT (R486). -/
  | nrstInAssert
  /-- BOOT_WATCHDOG_EXPIRE (R436). -/
  | bootWatchdogExpire
  /-- HALT_TIMER_EXPIRE (R455). -/
  | haltTimerExpire
  /-- RESET_RELEASE (R439). -/
  | resetRelease (straps : Straps)
  /-- ROM_PHASE_END (R441). -/
  | romPhaseEnd
  /-- ROM_FAULT_HOLD_END (R446). -/
  | romFaultHoldEnd
  /-- FIRMWARE_PHASE_END (R439). -/
  | firmwarePhaseEnd (cfgBad : Bool) (fit : ModuleId)
  /-- COLD_START_HOLD_END (R501). -/
  | coldStartHoldEnd (straps : Straps)
  /-- COLD_START_HOLD_TIMEOUT (R501). -/
  | coldStartHoldTimeout (straps : Straps)
  /-- AUTO_START (R455). -/
  | autoStart
  /-- ENABLE_CHECK_COMPLETE (R450). -/
  | enableCheckComplete (qlOk : BitVec 8)
  /-- START_WAIT_EXPIRE (R375). -/
  | startWaitExpire
  /-- RUN_ENTRY (R452). -/
  | runEntry
  /-- BOOT_FAILS_CLEAR (R443). -/
  | bootFailsClear
  /-- CLOCK_FAULT (R19). -/
  | clockFault
  /-- ENERGY_LEVEL_RISE (R60). -/
  | energyLevelRise
  /-- E1_EXIT (R60). -/
  | e1Exit
  /-- E2_EXIT (R60). -/
  | e2Exit
  /-- E3_TIMER_EXPIRE (R61). -/
  | e3TimerExpire
  /-- POWER_FAIL_STAGE1_END (R64). -/
  | powerFailStage1End
  /-- POWER_FAIL_STAGE2_END (R64). -/
  | powerFailStage2End
  /-- HOLDUP_DEPLETED (R67). -/
  | holdupDepleted
  /-- PF_WARN_CHANGE (R60). -/
  | pfWarnChange
  /-- FEED_LOSS (R54). -/
  | feedLoss (feed : Fin 2)
  /-- VIN_HIGH_SET (R54). -/
  | vinHighSet
  /-- VIN_HIGH_CLEAR (R54). -/
  | vinHighClear
  /-- VIN_UNKNOWN_SET (R55). -/
  | vinUnknownSet
  /-- HOLDUP_MEASURE (R58). -/
  | holdupMeasure (uF : Nat)
  /-- LOGIC_RAIL_FAULT (R56). -/
  | logicRailFault (rail : Nat)
  /-- BUDGET_PUBLISH (R72). -/
  | budgetPublish (m : MonitorSample)
  /-- HEAT_LEVEL_FALL (R69). -/
  | heatLevelFall
  /-- THERMAL_TRIP (R70). -/
  | thermalTrip
  /-- BUDGET_STALE (R73). -/
  | budgetStale
  /-- UPLINK_FRAME_RECEIVE (R22). -/
  | uplinkFrameReceive (link : Fin 4) (f : FieldSample) (errors : BitVec 100)
  /-- DOWNLINK_FRAME_SEND (R270). -/
  | downlinkFrameSend (link : Fin 4)
  /-- DOWNLINK_FRAME_APPLY (R269). -/
  | downlinkFrameApply (link : Fin 4) (errors : BitVec 100)
  /-- FIELD_LINK_LOSS (R23). -/
  | fieldLinkLoss (link : Fin 4)
  /-- LOGIC_LINK_LOSS (R23). -/
  | logicLinkLoss (link : Fin 4)
  /-- REARM_COMPLETE (R23). -/
  | rearmComplete (link : Fin 4)
  /-- CONFIG_PASS_COMPLETE (R271). -/
  | configPassComplete (link : Fin 4)
  /-- QL_LINE_KILL (R24). -/
  | qlLineKill (line : Fin 8)
  /-- INPUT_FILTER_PASS (R254). -/
  | inputFilterPass (c : Fin 32) (level : Bool)
  /-- GROTTO_REQUEST (R47). -/
  | grottoRequest (reqs : List (Fin 14 × PortReq))
  /-- ARBITRATION_WINDOW_END (R47). -/
  | arbitrationWindowEnd
  /-- MRAM_BUFFER_DRAIN (R34). -/
  | mramBufferDrain
  /-- SCRUB_READ (R41). -/
  | scrubRead (mram : Bool) (ecc : Ecc)
  /-- SCRUB_BEHIND (R41). -/
  | scrubBehind
  /-- PERIOD_BOUNDARY (R82). -/
  | periodBoundary
  /-- TASK_FINISH (R85). -/
  | taskFinish (task : Fin 128) (run : TaskRun)
  /-- BUFFER_HOLD_EXPIRE (R85). -/
  | bufferHoldExpire (task : Fin 128)
  /-- EVT_LIMIT_EXPIRE (R91). -/
  | evtLimitExpire (task : Fin 128)
  /-- MIN_GAP_EXPIRE (R89). -/
  | minGapExpire (task : Fin 128)
  /-- PROCESS_DATA_RECEIVE (R99). -/
  | processDataReceive (station : BitVec 16) (owner : Bool) (epoch : BitVec 64) (obj : BitVec 16) (data : List Byte)
  /-- REMOTE_ABSENT (R99). -/
  | remoteAbsent (station : BitVec 16)
  /-- REMOTE_VALUE_STALE (R99). -/
  | remoteValueStale (station : BitVec 16) (obj : BitVec 16)
  /-- PROCESS_DATA_SEND (R86). -/
  | processDataSend (task : Fin 128)
  /-- RESTORE_COMPLETE (R119). -/
  | restoreComplete (task : Fin 128)
  /-- BREAKPOINT_HIT (R130). -/
  | breakpointHit (brk : Fin 16)
  /-- STEP_COMPLETE (R130). -/
  | stepComplete (task : Fin 128) (ofs : BitVec 32)
  /-- TASK_RECORD_MOVE (R410). -/
  | taskRecordMove (task : Fin 128) (calls : List TaskRec)
  /-- FORCE_APPLY_WRITE (R143). -/
  | forceApplyWrite (handle : BitVec 32)
  /-- FORCE_RELEASE_WRITE (R142). -/
  | forceReleaseWrite (handle : BitVec 32)
  /-- FORCE_AGED_WARNING (R149). -/
  | forceAgedWarning
  /-- LOOP_BOUNDARY (R155). -/
  | loopBoundary (n : Fin 256)
  /-- LOOP_SAMPLE_COMPLETE (R153). -/
  | loopSampleComplete (n : Fin 256)
  /-- FE_TIMER_EXPIRE (R164). -/
  | feTimerExpire (n : Fin 256)
  /-- CRU_REQUEST_TAKE (R185). -/
  | cruRequestTake (slot : Fin 16)
  /-- CRU_JOB_START (R186). -/
  | cruJobStart
  /-- CRU_FACTOR_COMPLETE (R187). -/
  | cruFactorComplete
  /-- CRU_FACTOR_CUTOFF (R190). -/
  | cruFactorCutoff
  /-- CRU_DEADLINE (R190). -/
  | cruDeadline (slot : Fin 16)
  /-- CRU_SOLVE_COMPLETE (R188). -/
  | cruSolveComplete
  /-- QP_ITERATION_COMPLETE (R201). -/
  | qpIterationComplete
  /-- QP_REFACTOR_COMPLETE (R205). -/
  | qpRefactorComplete
  /-- POLISH_STEP_COMPLETE (R207). -/
  | polishStepComplete
  /-- ANALYSIS_COMPLETE (R180). -/
  | analysisComplete (slot : Fin 16)
  /-- SCRATCH_ERROR (R177). -/
  | scratchError (uncorrectable : Bool)
  /-- SAFETY_SOURCE_ASSERT (R237). -/
  | safetySourceAssert
  /-- CHANNEL_DISAGREE (R216). -/
  | channelDisagree (target : Fin 10)
  /-- COPY_DISAGREE (R217). -/
  | copyDisagree
  /-- QL_DAILY_TEST (R218). -/
  | qlDailyTest (qlOk : BitVec 8)
  /-- PAIR_DEMAND (R219). -/
  | pairDemand (pair : Fin 16) (chanB : Bool)
  /-- PAIR_SOURCE_CLEAR (R220). -/
  | pairSourceClear (pair : Fin 16)
  /-- PAIR_DISC_FAULT (R220). -/
  | pairDiscFault (pair : Fin 16)
  /-- TEST_PULSE (R221). -/
  | testPulse (tp : Fin 2) (low : BitVec 32)
  /-- SO_BIAS_FAULT (R224). -/
  | soBiasFault (so : Fin 4)
  /-- SO_LIGHT_TEST (R223). -/
  | soLightTest (so : Fin 4) (ok : Bool)
  /-- SO_DARK_TEST (R223). -/
  | soDarkTest (so : Fin 4) (ok : Bool)
  /-- SO_OVERCURRENT (R224). -/
  | soOvercurrent (so : Fin 4)
  /-- ENCODER_QUAD_ERROR (R226). -/
  | encoderQuadError (enc : Fin 8)
  /-- AXIS_DISCREPANCY (R227). -/
  | axisDiscrepancy (axis : Fin 8)
  /-- BRAKE_TEST_PHASE (R229). -/
  | brakeTestPhase
  /-- BRAKE_TEST_DUE (R230). -/
  | brakeTestDue (so : Fin 4)
  /-- BRAKE_TEST_OVERDUE (R230). -/
  | brakeTestOverdue (so : Fin 4)
  /-- RESET_DIO_PULSE (R234). -/
  | resetDioPulse
  /-- WD_TASK_EXPIRE (R231). -/
  | wdTaskExpire (task : Fin 128)
  /-- DIO_OVERLOAD_LATCH (R257). -/
  | dioOverloadLatch (c : Fin 32)
  /-- DIO_THERMAL_SHUTDOWN (R257). -/
  | dioThermalShutdown (c : Fin 32)
  /-- DIO_RETRY_EXPIRE (R257). -/
  | dioRetryExpire (c : Fin 32)
  /-- DIO_OPEN_WIRE (R258). -/
  | dioOpenWire (c : Fin 32)
  /-- DIO_EXT_FEED (R258). -/
  | dioExtFeed (c : Fin 32)
  /-- EXT_FEED_SUPPRESS_END (R261). -/
  | extFeedSuppressEnd (c : Fin 32)
  /-- GROUP_FUSE_TRIP (R264). -/
  | groupFuseTrip (grp : Fin 4)
  /-- SENS_FUSE_TRIP (R251). -/
  | sensFuseTrip (grp : Fin 4)
  /-- SENS_RETRY (R251). -/
  | sensRetry (grp : Fin 4) (clear : Bool)
  /-- AIO_COMPLIANCE_COMPARE (R287). -/
  | aioComplianceCompare (c : Fin 16)
  /-- NE43_FAIL_TIMER (R285). -/
  | ne43FailTimer (c : Fin 16)
  /-- LOOP_SHORT_DETECT (R279). -/
  | loopShortDetect (c : Fin 16)
  /-- AXIS_REQUEST_TAKE (R300). -/
  | axisRequestTake (counts : Vector (BitVec 32) 8)
  /-- EN_DELAY_EXPIRE (R300). -/
  | enDelayExpire (axis : Fin 8)
  /-- REVERSAL_REST (R301). -/
  | reversalRest (axis : Fin 8)
  /-- MOVE_ARRIVAL (R301). -/
  | moveArrival (axis : Fin 8)
  /-- TABLE_SEGMENT_END (R304). -/
  | tableSegmentEnd (axis : Fin 8)
  /-- GEAR_RATIO_CHANGE (R307). -/
  | gearRatioChange (axis : Fin 8)
  /-- GEAR_LAG_FAULT (R306). -/
  | gearLagFault (axis : Fin 8)
  /-- RES_CODE_CHANGE (R308). -/
  | resCodeChange (axis : Fin 8)
  /-- DRIVE_LINK_FRAME_COMPLETE (R310). -/
  | driveLinkFrameComplete (echo : BitVec 32)
  /-- DRIVE_LINK_REFRESH (R310). -/
  | driveLinkRefresh
  /-- LIMIT_TRIP (R311). -/
  | limitTrip (axis : Fin 8) (positive : Bool)
  /-- LIMIT_RELEASE (R311). -/
  | limitRelease (axis : Fin 8) (positive : Bool)
  /-- HOME_EDGE_CAPTURE (R313). -/
  | homeEdgeCapture (axis : Fin 8)
  /-- HOME_COMPLETE (R312). -/
  | homeComplete (axis : Fin 8)
  /-- HOME_TIMEOUT (R313). -/
  | homeTimeout (axis : Fin 8)
  /-- Z_EDGE_CAPTURE (R317). -/
  | zEdgeCapture (enc : Fin 8)
  /-- CAN_FRAME_RECEIVE (R324). -/
  | canFrameReceive (ctrl : Fin 4) (f : CanFrame) (age : Nat) (phase : Fin 8)
  /-- CAN_RECEIVE_TIMEOUT_SCAN (R326). -/
  | canReceiveTimeoutScan
  /-- CAN_TX_PERIOD (R327). -/
  | canTxPeriod (ctrl : Fin 4) (obj : BitVec 16)
  /-- CAN_ARBITRATION_PREPARE (R328). -/
  | canArbitrationPrepare (ctrl : Fin 4)
  /-- CAN_TX_COMPLETE (R327). -/
  | canTxComplete (ctrl : Fin 4) (age : Nat) (phase : Fin 8) (delay : BitVec 8)
  /-- CAN_BUS_ERROR (R329). -/
  | canBusError (ctrl : Fin 4) (err : CanErr) (transmitting : Bool) (site : CanSite) (delay : BitVec 8)
  /-- CAN_BUSOFF_HOLD_EXPIRE (R330). -/
  | canBusoffHoldExpire (ctrl : Fin 4)
  /-- CAN_RECOVERY_COMPLETE (R330). -/
  | canRecoveryComplete (ctrl : Fin 4)
  /-- CAN_REF_MESSAGE (R333). -/
  | canRefMessage (ctrl : Fin 4)
  /-- CAN_REF_LOST (R333). -/
  | canRefLost (ctrl : Fin 4)
  /-- NET_FRAME_RECEIVE (R345). -/
  | netFrameReceive (f : NetFrame)
  /-- PORT_LINK_DOWN (R346). -/
  | portLinkDown (port : Fin 2)
  /-- PORT_LINK_UP (R346). -/
  | portLinkUp (port : Fin 2)
  /-- SUPERVISION_FRAME_SEND (R343). -/
  | supervisionFrameSend
  /-- LAN_OK_TIMEOUT (R346). -/
  | lanOkTimeout (port : Fin 2)
  /-- NODE_FORGET (R343). -/
  | nodeForget (mac : BitVec 48)
  /-- PTP_MESSAGE_SEND (R348). -/
  | ptpMessageSend (data : List Byte)
  /-- PTP_SYNC_RECEIVE (R354). -/
  | ptpSyncReceive (port : Fin 2) (offset : Int) (meanPath : BitVec 32) (ann : PtpMaster)
  /-- PTP_SYNC_TIMEOUT (R354). -/
  | ptpSyncTimeout (port : Fin 2)
  /-- ANNOUNCE_TIMEOUT (R354). -/
  | announceTimeout
  /-- HOLDOVER_ALARM (R354). -/
  | holdoverAlarm
  /-- TIME_RECORD_WRITE (R358). -/
  | timeRecordWrite
  /-- COMPARE_FIRE (R359). -/
  | compareFire (n : Fin 8)
  /-- TPO_PULSE_END (R359). -/
  | tpoPulseEnd (n : Fin 8)
  /-- TCI_CAPTURE (R362). -/
  | tciCapture (k : Fin 2) (rising : Bool) (phase : Fin 8)
  /-- TCI_CAPTURE_MOVE (R362). -/
  | tciCaptureMove (k : Fin 2)
  /-- RTC_OSC_STOP (R363). -/
  | rtcOscStop
  /-- RTC_REGISTER_READ (R364). -/
  | rtcRegisterRead
  /-- RTC_SHADOW_RELEASE (R364). -/
  | rtcShadowRelease
  /-- RTC_SHIFT_TICK (R365). -/
  | rtcShiftTick
  /-- RTC_ALARM_FIRE (R366). -/
  | rtcAlarmFire
  /-- RTC_WAKE (R367). -/
  | rtcWake
  /-- RTC_LEAP_SECOND (R368). -/
  | rtcLeapSecond
  /-- RTC_DISCIPLINE (R369). -/
  | rtcDiscipline
  /-- HEARTBEAT_SEND (R377). -/
  | heartbeatSend
  /-- PAIR_FRAME_RECEIVE (R377). -/
  | pairFrameReceive (crcOk : Bool) (msg : PairMsg)
  /-- MIRROR_LOOP_SEND (R379). -/
  | mirrorLoopSend (n : Fin 256)
  /-- PAIR_LANE_FAIL (R377). -/
  | pairLaneFail
  /-- PEER_OK_DROP (R378). -/
  | peerOkDrop
  /-- PEER_OK_TEST_PULSE (R378). -/
  | peerOkTestPulse
  /-- PEER_OK_IN_LOW (R378). -/
  | peerOkInLow
  /-- PAIR_LINK_SILENT (R382). -/
  | pairLinkSilent
  /-- WITNESS_REPLY (R383). -/
  | witnessReply (answer : WitnessAnswer)
  /-- WITNESS_TIMEOUT (R383). -/
  | witnessTimeout
  /-- WITNESS_RETRY (R383). -/
  | witnessRetry
  /-- WITNESS_PRESENCE_FRAME (R383). -/
  | witnessPresenceFrame
  /-- WITNESS_SILENCE_CONFIRM (R383). -/
  | witnessSilenceConfirm
  /-- SWAP_START (R388). -/
  | swapStart
  /-- SWAP_RETRY (R388). -/
  | swapRetry
  /-- SYNC_BULK_COMPLETE (R397). -/
  | syncBulkComplete
  /-- SYNC_COMPLETE (R397). -/
  | syncComplete
  /-- FLOW_FLUSH_PERIODIC (R412). -/
  | flowFlushPeriodic
  /-- FLOW_FLUSH_COMPLETE (R412). -/
  | flowFlushComplete
  /-- COMPACTION_PASS (R415). -/
  | compactionPass (bad : List Nat)
  /-- EXPORT_TIMEOUT (R417). -/
  | exportTimeout
  /-- PANEL_TEMP_READ (R426). -/
  | panelTempRead (t : Option (BitVec 16))
  /-- PANEL_UPDATE_START (R430). -/
  | panelUpdateStart
  /-- PANEL_FRAME_COMPLETE (R421). -/
  | panelFrameComplete
  /-- PANEL_RAILS_OFF (R422). -/
  | panelRailsOff
  /-- PEER_OK_IN_RISE (R375). -/
  | peerOkInRise
  /-- AXIS_REST_REACHED (R302). -/
  | axisRestReached (axis : Fin 8)
  /-- SWAP_AXIS_WAIT_TIMEOUT (R389). -/
  | swapAxisWaitTimeout
  /-- SRC_FAULT_SHUTDOWN (R279). -/
  | srcFaultShutdown (c : Fin 16)
  /-- ADC_SELF_CHECK_FAIL (R279). -/
  | adcSelfCheckFail (c : Fin 16)
  /-- DIO_CURRENT_LIMIT (R258). -/
  | dioCurrentLimit (c : Fin 32)
  /-- HOST_LINK_LEAVES_L0 (R460). -/
  | hostLinkLeavesL0
  /-- JTAG_WRITE (R127). -/
  | jtagWrite (handle : BitVec 32) (value : BitVec 64)
  deriving DecidableEq, Repr

end Sys2Proof
end

