-- ==== Sys2Proof/Config.lean ====
section
/-! DEFINITION. What an implementation fixes and what the spec leaves open: opaque constants with no
body. Nothing in Lean can evaluate one, so no claim can lean on a value of one. -/

namespace Sys2Proof.Config

open Sys2Proof.Machine

/-- The free values, drawn one after another by index (log 13). -/
opaque freeValue : Nat → BitVec 64

/-- SHA-256 of bytes (R472, R516), as a number whose first byte is the lowest (log 14). -/
opaque sha256 : List Byte → BitVec 256

/-- The first value of a CRC-32 register (R239, R408): the spec gives the polynomial only (log 15). -/
opaque crcInit : BitVec 32

/-- What a CRC-32 is combined with at its end (log 15). -/
opaque crcXorOut : BitVec 32

/-- Each byte enters a CRC-32 lowest bit first, and the register is reflected (log 15). -/
opaque crcReflected : Bool

/-- An Ed25519 signature of the module's device key over bytes (R417), as 64 bytes (log 14). -/
opaque deviceSignature : List Byte → BitVec 512

/-- The digest and signature of a firmware image verify (R440, R441) (log 14). -/
opaque firmwareVerifies : List Byte → Bool

/-- VERSION of a firmware image, read out of its header (R440) (log 14). -/
opaque firmwareVersion : List Byte → BitVec 32

/-- FLOOR of a firmware image (R440) (log 14). -/
opaque firmwareFloor : List Byte → BitVec 32

/-- The signature and digest of a program image verify (R450, R516) (log 14). -/
opaque programVerifies : List Byte → Bool

/-- What a program image declares (R516): its file format is the Workbench's (log 14). -/
opaque programInfo : List Byte → ProgInfo

/-- What a change package declares (R136, R137): its file format is the Workbench's (log 14). -/
opaque packageInfo : List Byte → PkgInfo

/-- The stores that a change package's data mapping makes at the switch of a task, from what the chambers hold: chamber,
offset and bytes (R137) (log 14). -/
opaque packageMap : List Byte → Fin 128 → Vector Memory 11 → List (Fin 11 × Nat × List Byte)

/-- A certificate parses as DER and is a CA certificate with an Ed25519 key (R519) (log 14). -/
opaque anchorForm : List Byte → Bool

/-- The 64 × 16 levels of the FORCED marker for a number of forces, row by row (R149, R430) (log 19). -/
opaque forcedMarker : Nat → List (BitVec 4)

/-- The configuration word of a DIO channel, from its descriptor (R271): the spec gives its place and not its bits (log 45). -/
opaque dioWord : DioDesc → BitVec 16

/-- The test-pulse settings of the configuration rotation, by word, from the signed safety set (R269) (log 45). -/
opaque tpWord : SafetySet → Nat → BitVec 16

/-- The module's MAC address, written at Dravrozal (R342) (log 48). -/
opaque macAddress : BitVec 48

/-- The module's own PTP clockIdentity (R348, R358) (log 48). -/
opaque clockIdentity : BitVec 64

/-- Bytes that the network receive queues may hold under an MSG quota in KiB (R42, R345): the spec does not divide MSG (log 49). -/
opaque netQueueBytes : Nat → Nat

/-- The task that owns a block of TASK in which no declared variable lies: where code and data lie the spec does not give (log 51). -/
opaque taskOfBlock : Nat → Option (Fin 128)

/-- The loops whose descriptor or state lies in a block of LOOP (log 51). -/
opaque loopsOfBlock : Nat → List (Fin 256)

/-- The place, among the waiting messages, of the message that lies in a block of MBX (log 51). -/
opaque messageOfBlock : Nat → Option Nat

/-- The traffic on the pair link of a configuration, in bytes per second, from the mirror lines that the program declares and its
tasks, loops and axes (R380, R403): how it adds up the spec does not say (log 53). -/
opaque linkLoad : ProgInfo → Vector TaskDesc 128 → Vector LoopDesc 256 → Nat

/-- A byte of a BUSY mailbox as the window reads it, by the number of free values drawn and its place: not guaranteed (R467, log 13). -/
opaque busyByte : Nat → Nat → Byte

end Sys2Proof.Config
end

