-- ==== Sys2Proof/Machine/State.lean ====
section
/-! DEFINITION. The state of the module, chapter by chapter, as plain data, with the value of every
piece right after reset. Each field's comment names the rule that gives it; `log n` names the entry of the
assumption log where the spec gives no reset value. -/

namespace Sys2Proof.Machine

/-- The default descriptor of each chamber (R42, R51): ID, tier, quota in KiB and base in KiB, the
DRAM chambers placed one after another in ID order (R43). -/
def chamberDefault (id tier quota base : Nat) : ChamberDesc :=
  { ChamberDesc.dflt with
    CHAMBER_ID := BitVec.ofNat 8 id, TIER := BitVec.ofNat 8 tier,
    QUOTA_KIB := BitVec.ofNat 32 quota, BASE_KIB := BitVec.ofNat 32 base }

/-- The defaults of the eleven chambers (R42). -/
def chamberDefaults : Vector ChamberDesc 11 :=
  #v[chamberDefault 0 0 65536 0, chamberDefault 1 0 2097152 65536,
     chamberDefault 2 1 16384 2162688, chamberDefault 3 0 16384 2179072,
     chamberDefault 4 0 524288 2195456, chamberDefault 5 0 32768 2719744,
     chamberDefault 6 0 524288 2752512, chamberDefault 7 1 8192 3276800,
     chamberDefault 8 1 8192 3284992, chamberDefault 9 0 4096 3293184,
     chamberDefault 10 2 32768 0]

/-- The Grotto: chambers, fabric, MRAM write buffer, scrubber (R30 to R52). -/
structure Grotto where
  desc : Vector ChamberDesc 11  -- chamber descriptors as last written by CFG_CHAMBER_SET (R51)
  act : Vector ChamberDesc 11  -- descriptors in force since the last ENABLE, BASE_KIB as placed (R43)
  stat : Vector ChamberStat 11  -- per-chamber counters (R52)
  mramUe : Bool  -- MRAM_UE, sticky (R52)
  floorHit : Bool  -- FLOOR_HIT, sticky (R52)
  wwSeen : Bool  -- WW_SEEN, sticky (R52)
  gateClosed : Bool  -- WT_GATE_CLOSED (R36, R52)
  backpressure : Bool  -- WB_BACKPRESSURE (R35, R52)
  ueSeen : Bool  -- UE_SEEN, sticky (R52)
  degraded : Bool  -- GROTTO_DEGRADED, sticky (R39, R52)
  scrubActive : Bool  -- SCRUB_ACTIVE (R41, R52) log 4
  linesClass : Vector (BitVec 64) 4  -- LINES_CLASS0 to LINES_CLASS3 (R52)
  token : Vector Nat 4  -- rotating token of each class, a position among its ports (R47) log 4
  winCount : Vector Nat 4  -- lines granted per class in the present window of 256 fabric cycles (R46, R47)
  waiting : Vector (List PortReq) 14  -- requests presented and not yet granted, oldest first, per port (R47, R48)
  mem : Vector Memory 11  -- the DRAM bytes of each chamber, by offset within the chamber (FW: its MRAM bytes) (R30, R42) log 3
  imgMeta : List (Nat × ValMeta)  -- quality nibble and write time of each IMAGE value, by offset, rising (R9, R26, R40)
  poison : List (Fin 11 × Nat)  -- blocks that read as poisoned, by chamber and block number (R40)
  retainMram : Memory  -- the persistent copy of RETAIN in MRAM (R33, R34) log 3
  retainMramBad : List Nat  -- blocks of the persistent copy that are uncorrectable (R40)
  retainBad : Bool  -- both copies of a RETAIN block were uncorrectable: a warm restart is refused until a cold restart (R40)
  wbuf : List WbEntry  -- the MRAM write buffer, oldest write first (R34)
  ceHour : Vector (List Nat) 11  -- times of the corrections of each chamber within the sliding hour (R39)
  ceBlocks : List (Fin 11 × Nat × Nat)  -- corrections of each block address within 24 h that count towards the third: chamber, block, time (R39)
  ceNoted : List (Fin 11 × Nat × Nat)  -- block addresses corrected within the last 24 h, with the time of the record (R38)
  wwNoted : Vector (Option Nat) 11  -- time of each chamber's last collision record (R50)
  scrubPass : Vector (List (Fin 11)) 2  -- chambers still to be read in the DRAM pass and in the MRAM pass, present one first; 10 in the DRAM pass is the supervisor reserve, 0 in the MRAM pass the system records (R41) log 4
  scrubPos : Vector Nat 2  -- next block of the present chamber, in each pass (R41) log 4
  scrubRaised : Bool  -- the scrubber is more than 10 % behind and its requests are in class 3 (R41)
  scrubAt : Vector (Option Nat) 2  -- when the present scrub pass of each tier began (R41)
  dirty : List (Fin 11 × Nat)  -- MIRROR blocks marked dirty, to be sent again to the peer (R40)
  imageInvalid : Vector Bool 2  -- firmware images marked invalid by an uncorrectable block (R40)
  deriving DecidableEq, Repr

/-- Its value right after reset. -/
def Grotto.init : Grotto :=
  { desc := chamberDefaults,
    act := chamberDefaults,
    stat := Vector.replicate 11 ChamberStat.dflt,
    mramUe := false,
    floorHit := false,
    wwSeen := false,
    gateClosed := false,
    backpressure := false,
    ueSeen := false,
    degraded := false,
    scrubActive := false,
    linesClass := Vector.replicate 4 0#64,
    token := Vector.replicate 4 0,
    winCount := Vector.replicate 4 0,
    waiting := Vector.replicate 14 [],
    mem := Vector.replicate 11 [],
    imgMeta := [],
    poison := [],
    retainMram := [],
    retainMramBad := [],
    retainBad := false,
    wbuf := [],
    ceHour := Vector.replicate 11 [],
    ceBlocks := [],
    ceNoted := [],
    wwNoted := Vector.replicate 11 none,
    scrubPass := Vector.replicate 2 [],
    scrubPos := Vector.replicate 2 0,
    scrubRaised := false,
    scrubAt := Vector.replicate 2 none,
    dirty := [],
    imageInvalid := Vector.replicate 2 false }

/-- Supply, heat and hold-up (R53 to R76). -/
structure Power where
  desc : PowerDesc  -- power descriptor as last written (R74)
  act : PowerDesc  -- power descriptor in force since the last ENABLE (R74)
  stat : PowerStat  -- sticky bits, counters, extremes and level times (R75) log 5
  vinIlk0 : Option (BitVec 16)  -- VIN as the last valid ILK0 frame reported it, mV (R55)
  vinIlk2 : Option (BitVec 16)  -- VIN as the last valid ILK2 frame reported it, mV (R55)
  vinUnknown : Bool  -- VIN_UNKNOWN (R55, R72)
  feedA : BitVec 16  -- VIN_A contact, mV (R54) log 5
  feedB : BitVec 16  -- VIN_B contact, mV (R54) log 5
  feedLowSince : Vector (Option Nat) 2  -- since when each expected feed has stood below 18.0 V (R54)
  feedLost : Vector Bool 2  -- the loss of the feed has been recorded (R54)
  vinHigh : Bool  -- VIN_HIGH (R54, R72)
  vinHighSince : Option Nat  -- since when VIN has stood above VIN_HIGH_MV (R54)
  vinHighOkSince : Option Nat  -- since when VIN has stood at or below VIN_HIGH_MV − 500 mV (R54)
  energy : Energy  -- energy level (R60)
  pfWarn : Bool  -- PF_WARN (R60, R72)
  e1OkSince : Option Nat  -- since when VIN has stood at or above 17.5 V in E1 (R60)
  e2OkSince : Option Nat  -- since when VIN has stood at or above 16.0 V in E2 (R60)
  e2Since : Option Nat  -- the E3 timer: when the present E2 was entered (R61)
  e2Us : BitVec 16  -- E2_US as E3 keeps it: time of the E2 before it (R72)
  boostLimited : Bool  -- BOOST_LIMITED (R60, R63)
  boostStopped : Bool  -- the boost converter is stopped (E2, E3) (R63)
  boostMa : BitVec 16  -- BOOST_MA, present boost load (R63, R72) log 5
  holdupReady : Bool  -- HOLDUP_READY (R58, R72)
  holdupWeak : Bool  -- HOLDUP_WEAK (R58, R72)
  temps : Vector (List (BitVec 16)) 6  -- the last 8 readings of each sensor, newest first (R68)
  heat : Heat  -- heat level (R69)
  heatOkSince : Option Nat  -- since when the exit condition of the present heat level has held (R69)
  die125Since : Option Nat  -- since when a die average has stood at or above 125 °C (R70)
  thermFault : Bool  -- THERM_SENSOR_FAULT (R71, R72)
  swapReq : Bool  -- SWAP_REQ (R70, R72)
  seq : BitVec 8  -- SEQ of the last budget publication (R72)
  publishAt : Nat  -- raw counter at the last publication (R72, R73) log 5
  budgetStale : Bool  -- the budget record is over 300 µs old: levels are taken as H3 and E2 (R73)
  heatAt : Nat  -- time up to which the level times are counted (R75) log 4
  h1At : Nat  -- time spent at H1 or above, in ticks not yet counted as whole seconds (R75)
  h2At : Nat  -- the same for H2 or above (R75)
  h3At : Nat  -- the same for H3 (R75)
  pfStage : PfStage  -- stage of the power-fail sequence (R64)
  waitOkSince : Option Nat  -- since when VIN has stood at or above 18.0 V in the wait after stage 2 (R67)
  deriving DecidableEq, Repr

/-- Its value right after reset. -/
def Power.init : Power :=
  { desc := PowerDesc.dflt,
    act := PowerDesc.dflt,
    stat := PowerStat.dflt,
    vinIlk0 := none,
    vinIlk2 := none,
    vinUnknown := false,
    feedA := 0#16,
    feedB := 0#16,
    feedLowSince := Vector.replicate 2 none,
    feedLost := Vector.replicate 2 false,
    vinHigh := false,
    vinHighSince := none,
    vinHighOkSince := none,
    energy := .e0,
    pfWarn := false,
    e1OkSince := none,
    e2OkSince := none,
    e2Since := none,
    e2Us := 0#16,
    boostLimited := false,
    boostStopped := false,
    boostMa := 0#16,
    holdupReady := false,
    holdupWeak := false,
    temps := Vector.replicate 6 [],
    heat := .h0,
    heatOkSince := none,
    die125Since := none,
    thermFault := false,
    swapReq := false,
    seq := 0#8,
    publishAt := 0,
    budgetStale := false,
    heatAt := 0,
    h1At := 0,
    h2At := 0,
    h3At := 0,
    pfStage := .idle,
    waitOkSince := none }

/-- One task and its context (R77 to R93). -/
structure Task where
  desc : TaskDesc  -- task descriptor (R102)
  stat : TaskStat  -- flags and counters (R103)
  run : RunState  -- STATE (R80, R103)
  readyAt : Nat  -- ready time (R81) log 4
  latchAt : Nat  -- time of the last latch (R83) log 4
  startAt : Nat  -- time of the last start (R89) log 4
  started : Bool  -- the task has started since RUN entry (R89)
  prevLatchAt : Nat  -- time of the latch before the last (R103) log 4
  snapshot : List Latched  -- the snapshot of the input set (R83)
  codeOfs : BitVec 32  -- program counter of the context, as an offset in the task's code (R77, R130) log 4
  ckptOfs : BitVec 32  -- program counter of the cycle-start checkpoint (R77, R91) log 4
  cycleOpen : Bool  -- a cycle is latched and not yet committed (R82, R90)
  finished : Option TaskRun  -- the staging area of a cycle that has finished and waits for its commit (R84, R85)
  data0 : List (Nat × List Byte)  -- the undo log of a safety-class cycle: what its task data held at cycle start (R91, R116)
  undoRetain : List (Nat × List Byte)  -- the same for the RETAIN stores of the cycle (R116)
  heldCycle : Bool  -- the open cycle ended in a hold: its boundary commits nothing (R119)
  undoOverflow : Bool  -- UNDO_OVERFLOW: the cycle cannot be restored (R91, R116)
  consecOvr : Nat  -- overruns on consecutive boundaries (event task: runs) (R92)
  missed : Nat  -- consecutive commits missed (R93)
  trigger : Option Nat  -- outstanding trigger, with its arrival time (R89)
  gapUntil : Option Nat  -- end of the minimum gap that holds the outstanding trigger back (R89)
  bufNamed : BitVec 1  -- IMAGE buffer that the index line names (R84, R85) log 4
  bufFreeAt : Nat  -- time from which the unnamed buffer may be written (50 µs after its index change) (R85)
  bufHeld : Bool  -- a finished write is held for the buffer (R85)
  resume : Bool  -- PRG_TASK_RESUME is waiting for the next boundary (R92)
  stretchWait : Bool  -- the task waits one period for a boundary that is a multiple of 2T (R98)
  sentFrom : List (BitVec 16)  -- stations to which the open cycle's outputs may be sent (R101)
  varWrites : List (BitVec 32 × BitVec 64)  -- session variable writes held until the task's next cycle start (R129)
  restoreAt : Option Nat  -- a restore is in progress since (R119)
  reexec : Bool  -- the cycle is being re-executed after a mismatch (R119, R120)
  stepsLeft : BitVec 32  -- instructions left of a PRG_STEP (R130)
  haltedAt : Option (Fin 16)  -- the breakpoint at which the task is halted (R130)
  commitAt : Option Nat  -- time of the last commit since RUN entry (R231)
  msgQueue : List TaskRec  -- FLOW_REC entries in the task's MSG queue, oldest first (R410)
  deriving DecidableEq, Repr

/-- Its value right after reset. -/
def Task.init : Task :=
  { desc := TaskDesc.dflt,
    stat := TaskStat.dflt,
    run := .idle,
    readyAt := 0,
    latchAt := 0,
    startAt := 0,
    started := false,
    prevLatchAt := 0,
    snapshot := [],
    codeOfs := 0#32,
    ckptOfs := 0#32,
    cycleOpen := false,
    finished := none,
    data0 := [],
    undoRetain := [],
    heldCycle := false,
    undoOverflow := false,
    consecOvr := 0,
    missed := 0,
    trigger := none,
    gapUntil := none,
    bufNamed := 0#1,
    bufFreeAt := 0,
    bufHeld := false,
    resume := false,
    stretchWait := false,
    sentFrom := [],
    varWrites := [],
    restoreAt := none,
    reexec := false,
    stepsLeft := 0#32,
    haltedAt := none,
    commitAt := none,
    msgQueue := [] }

/-- One remote station (R99 to R101). -/
structure Remote where
  desc : RemoteDesc  -- remote descriptor (R104)
  stat : RemoteStat  -- ABSENT_COUNT and LAST_RX_TS (R104)
  state : RemoteState  -- STATE (R99, R104)
  lastRx : Nat  -- raw counter at the last valid frame (R99) log 4
  fresh : List (BitVec 16)  -- objects received since the station's return (R101)
  epoch : BitVec 64  -- highest epoch accepted from a module of the station (R401) log 4
  presentAt : Nat  -- when the station became PRESENT (R101) log 4
  deriving DecidableEq, Repr

/-- Its value right after reset. -/
def Remote.init : Remote :=
  { desc := RemoteDesc.dflt,
    stat := RemoteStat.dflt,
    state := .absent,
    lastRx := 0,
    fresh := [],
    epoch := 0#64,
    presentAt := 0 }

/-- Tasks, dispatcher, program image and remote stations (R77 to R106, R516). -/
structure Tasks where
  task : Vector Task 128  -- the 128 tasks, task n in context Cn (R77)
  laneTask : Vector (Option (Fin 128)) 8  -- the task that each lane stream runs: entries 0 to 3 stream 0 of EL0 to EL3, entries 4 to 7 stream 1 of a split lane (R77, R124)
  remotes : List Remote  -- the remote stations, at most 256, in the order of their addresses (R99, R104)
  prog : ProgInfo  -- what the loaded program declares (R516)
  image : Memory  -- the program image as loaded so far (R516)
  imageLen : Nat  -- bytes of the program image loaded so far (R516)
  decisions : Nat  -- (model's own) dispatch decisions made, a count (R80)
  deriving DecidableEq, Repr

/-- Its value right after reset. -/
def Tasks.init : Tasks :=
  { task := Vector.replicate 128 Task.init,
    laneTask := Vector.replicate 8 none,
    remotes := [],
    prog := ProgInfo.empty,
    image := [],
    imageLen := 0,
    decisions := 0 }

/-- One execution lane (R121 to R125, R133). -/
structure Lane where
  stat : LaneStat  -- flags and counters of the lane (R133)
  deriving DecidableEq, Repr

/-- Its value right after reset. -/
def Lane.init : Lane :=
  { stat := LaneStat.dflt }

/-- Temper pass state of one task (R107 to R121). -/
structure Temper where
  stat : TemperStat  -- Temper status (R134)
  cycles : Nat  -- cycles the task has started (R121)
  lastMismatch : Option Nat  -- cycle number of the task's previous mismatch, for the window of 16 cycles (R121)
  deriving DecidableEq, Repr

/-- Its value right after reset. -/
def Temper.init : Temper :=
  { stat := TemperStat.dflt,
    cycles := 0,
    lastMismatch := none }

/-- Lanes, Temper pass and breakpoints (R107 to R134). -/
structure Debug where
  lane : Vector Lane 4  -- EL0 to EL3 (R133)
  temper : Vector Temper 128  -- Temper state of each task (R134)
  brk : Vector BreakEntry 16  -- the 16 breakpoints (R131)
  jtag : List (BitVec 32)  -- variables whose main copy a JTAG write has changed and whose shadow copy stands as it was (R127)
  retainWrites : List (BitVec 32 × BitVec 64)  -- held writes to RETAIN variables that no task owns (R129)
  deriving DecidableEq, Repr

/-- Its value right after reset. -/
def Debug.init : Debug :=
  { lane := Vector.replicate 4 Lane.init,
    temper := Vector.replicate 128 Temper.init,
    brk := Vector.replicate 16 BreakEntry.dflt,
    jtag := [],
    retainWrites := [] }

/-- Online change and forcing (R135 to R152). -/
structure Change where
  stat : ChangeStat  -- change status (R152)
  pkg : Memory  -- bytes of the package loaded so far (R136)
  info : Option PkgInfo  -- what the accepted package declares (R137)
  pendingTasks : List (Fin 128)  -- affected tasks not yet switched (R137, R152)
  running : Option (BitVec 256)  -- digest of the running program where online changes have completed since it was loaded (R139, R516)
  cleared : Nat  -- (model's own) forces that stood when the last reset came, for the record of the boot (R144) log 4
  before : Option (ProgInfo × List (Fin 128 × BitVec 32))  -- (model's own) the program and the worst cases of its tasks as they stood when the package was accepted (R140)
  mixed : Bool  -- a restart fell between switches: a warm restart is refused as OLC_MIXED_PROGRAM (R140)
  forces : List ForceEntry  -- the force table, at most 256 entries (R141, R151)
  batch : List ForcePending  -- force requests waiting in their batches, in receipt order (R146)
  releaseWrites : List ForceEntry  -- released forces whose underlying value the supervisor has still to write (R142)
  releaseAll : List (Request × Nat × Nat)  -- RELEASE_ALL commands whose batches are not all resolved: request, releases outstanding, releases made (R147)
  agedAt : Option Nat  -- time of the last record of a force that has stood for more than 24 h (R149)
  deriving DecidableEq, Repr

/-- Its value right after reset. -/
def Change.init : Change :=
  { stat := ChangeStat.dflt,
    pkg := [],
    info := none,
    pendingTasks := [],
    running := none,
    cleared := 0,
    before := none,
    mixed := false,
    forces := [],
    batch := [],
    releaseWrites := [],
    releaseAll := [],
    agedAt := none }

/-- One loop slot (R153 to R172). -/
structure Loop where
  desc : LoopDesc  -- loop descriptor (R170)
  bankA : Bank  -- bank A (R171)
  bankB : Bank  -- bank B (R171)
  stat : LoopStat  -- flags and counters (R172)
  slot : LoopSlot  -- the running state, in LOOP (R153, R162)
  modeReq : Option (LoopMode × Int × Nat)  -- mode requested by LOOP_MODE with its manual value, and when it was accepted (R163)
  swapReq : Option Nat  -- when the pending swap of LOOP_SWAP_BANK was accepted (R167)
  ctrlRef : Option (BitVec 3)  -- MODE_REQ as the previous read found it (R163)
  feSince : Option Nat  -- boundary of the sample that started the following-error timer (R164)
  lateRun : Nat  -- consecutive late samples (R156)
  sample : Option (Nat × LoopSources)  -- the sample in progress: its boundary and what it read (R155)
  result : Bool  -- the sample of the last boundary is complete and its result waits for the next (R155)
  fresh : Bool  -- no sample has completed since entry to RUN (R168)
  taken : Bool  -- a takeover: the first boundary writes the mirrored last output (R385)
  mirrorAt : Nat  -- time of the last mirror of the slot (R379) log 4
  deriving DecidableEq, Repr

/-- Its value right after reset. -/
def Loop.init : Loop :=
  { desc := LoopDesc.dflt,
    bankA := Bank.dflt,
    bankB := Bank.dflt,
    stat := LoopStat.dflt,
    slot := LoopSlot.init,
    modeReq := none,
    swapReq := none,
    ctrlRef := none,
    feSince := none,
    lateRun := 0,
    sample := none,
    result := false,
    fresh := true,
    taken := false,
    mirrorAt := 0 }

/-- The loop engine (R153 to R174). -/
structure Loops where
  loop : Vector Loop 256  -- slots L0 to L255 (R12, R153)
  eng : LoopEngStat  -- TOTAL_LATE and MAX_RESPONSE_NS (R173)
  deriving DecidableEq, Repr

/-- Its value right after reset. -/
def Loops.init : Loops :=
  { loop := Vector.replicate 256 Loop.init,
    eng := LoopEngStat.dflt }

/-- One problem slot (R178 to R215). -/
structure Slot where
  desc : SlotDesc  -- slot descriptor (R181)
  qp : QpParams  -- QP parameter block (R200)
  state : SlotState  -- STATE (R182)
  info : SlotInfo  -- what the analysis found (R182) log 5
  qpInfo : QpInfo  -- QP information (R214) log 5
  pattern : Memory  -- the pattern image as loaded (R179)
  patternLen : Nat  -- bytes of the pattern image loaded (R179)
  reloaded : Bool  -- the pattern has been reloaded since the analysis (R181)
  analysing : List Request  -- the requests that wait for the analysis in progress (R180)
  analysisAt : Nat  -- when the analysis started (R182) log 4
  req : CruReq  -- the request line (R183)
  inset : Vector Memory 2  -- the two input sets (R183) log 3
  reqNew : Bool  -- a write of REQ_SEQ has not yet been looked at (R185)
  lastSeq : BitVec 32  -- the last REQ_SEQ taken (R183, R185)
  job : Option Job  -- the outstanding job (R185)
  ignored : Bool  -- a request was ignored since the last status (R185)
  aCur : List (BitVec 64)  -- A_cur, the current values in pattern order (R184)
  initial : Bool  -- no job has run since A_cur was set to the initial values (R184)
  norms : List (BitVec 64)  -- row norms formed by the last Apply (R186, R197) log 4
  front : Option Factor  -- the front factor (R186)
  rhoCur : BitVec 64  -- RHO_CUR (R203)
  warmOk : Bool  -- a solution was published since the last event of R184 (R203)
  eqRows : List Bool  -- which rows were equality rows in the last job (R204)
  index : IndexLine  -- the result index line (R191)
  buf : Vector ResultBuf 2  -- the two result buffers (R191) log 3
  deriving DecidableEq, Repr

/-- Its value right after reset. -/
def Slot.init : Slot :=
  { desc := SlotDesc.dflt,
    qp := QpParams.dflt,
    state := .empty,
    info := SlotInfo.dflt,
    qpInfo := QpInfo.dflt,
    pattern := [],
    patternLen := 0,
    reloaded := false,
    analysing := [],
    analysisAt := 0,
    req := CruReq.dflt,
    inset := Vector.replicate 2 [],
    reqNew := false,
    lastSeq := 0#32,
    job := none,
    ignored := false,
    aCur := [],
    initial := true,
    norms := [],
    front := none,
    rhoCur := 0x3FF0000000000000#64,
    warmOk := false,
    eqRows := [],
    index := IndexLine.dflt,
    buf := Vector.replicate 2 ⟨0, 0, 0, [], 0⟩ }

/-- The Crucible (R175 to R215). -/
structure Crucible where
  slot : Vector Slot 16  -- slots CS0 to CS15 (R178)
  stat : CruStat  -- engine counters and sticky bit (R194)
  queue : List (Fin 16)  -- slots whose job waits, by deadline, ties to the lower slot (R186)
  running : Option (Fin 16)  -- slot of the running job (R186)
  deriving DecidableEq, Repr

/-- Its value right after reset. -/
def Crucible.init : Crucible :=
  { slot := Vector.replicate 16 Slot.init,
    stat := CruStat.dflt,
    queue := [],
    running := none }

/-- One safety input pair (R219 to R221). -/
structure SafePair where
  source : Bool  -- the pair source is asserted (R219) log 6
  demandA : Bool  -- channel a is taken as demand after the filter (R219) log 6
  demandB : Bool  -- channel b is taken as demand after the filter (R219) log 6
  sinceA : Nat  -- since when the raw state of channel a has been stable (R219) log 4
  sinceB : Nat  -- since when the raw state of channel b has been stable (R219) log 4
  nowA : Bool  -- channel a showed demand at the last frame, mask apart (R221) log 6
  nowB : Bool  -- the same for channel b (R221) log 6
  differSince : Option Nat  -- since when the two channels have been in different states (R220)
  disc : Bool  -- DISC latched (R220)
  test : Bool  -- TEST latched (R220)
  cross : Bool  -- CROSS latched (R220)
  bothDemand : Bool  -- both channels have been in demand at the same time since the latch (R220)
  okA : Bool  -- the test of channel a has passed since both channels returned to run state (R220)
  okB : Bool  -- the same for channel b (R220)
  needCycle : Bool  -- START_TEST: the demand cycle is still required after entry to RUN (R220) log 6
  deriving DecidableEq, Repr

/-- Its value right after reset. -/
def SafePair.init : SafePair :=
  { source := true,
    demandA := true,
    demandB := true,
    sinceA := 0,
    sinceB := 0,
    nowA := true,
    nowB := true,
    differSince := none,
    disc := false,
    test := false,
    cross := false,
    bothDemand := false,
    okA := false,
    okB := false,
    needCycle := true }

/-- One monitored axis (R226, R227). -/
structure SafeAxis where
  latched : Bool  -- the axis source is latched (its AXIS_FAULT bit) (R227)
  discSince : Option Nat  -- since when |pos1 − pos2| has exceeded DISC_TOL (R227)
  pos1 : Int  -- position of SRC1 in SPU (R226) log 4
  pos2 : Int  -- position of SRC2 in SPU (R226) log 4
  history : List (Nat × Int × Int)  -- positions within the last SPEED_WIN_US, newest first, with their times (R227)
  sdiBest1 : Option Int  -- furthest point of SRC1 in the permitted direction since SDI became active (R227)
  sdiBest2 : Option Int  -- the same for SRC2 (R227)
  enable : BitVec 3  -- the axis enable word as last committed, bits SDI, SLP, SLS (R227)
  overdue : Bool  -- BT_OVERDUE_ACTION 1 asserts the axis source (R230)
  deriving DecidableEq, Repr

/-- Its value right after reset. -/
def SafeAxis.init : SafeAxis :=
  { latched := false,
    discSince := none,
    pos1 := 0,
    pos2 := 0,
    history := [],
    sdiBest1 := none,
    sdiBest2 := none,
    enable := 0#3,
    overdue := false }

/-- One safety output SO (R222 to R230). -/
structure SafeOut where
  cmd : Bool  -- command as committed by a safety-class task (R222)
  fault : Bool  -- SO_FAULT, latched (R224)
  biasFaultSince : Option Nat  -- since when the bias check has shown a fault (R223, R224)
  biasOk : Bool  -- the last bias check passed (R224) log 6
  overSince : Option Nat  -- since when the load current has stood above 3.0 A (R224)
  testAt : Nat  -- time of the last light or dark test (R223) log 4
  testLow : Bool  -- the next dark test opens the low side (R223) log 4
  btPassAt : Nat  -- time of the last passed brake test (R230) log 6
  btDue : Bool  -- BT_DUE (R230)
  btFail : Bool  -- BT_FAIL (R229)
  btAlarmAt : Nat  -- time of the last overdue record (R230) log 4
  btResult : BtResult  -- result of the last brake test (R229, R230)
  btRequest : Bool  -- the brake test request bit as last committed (R229)
  deriving DecidableEq, Repr

/-- Its value right after reset. -/
def SafeOut.init : SafeOut :=
  { cmd := false,
    fault := false,
    biasFaultSince := none,
    biasOk := true,
    overSince := none,
    testAt := 0,
    testLow := false,
    btPassAt := 0,
    btDue := false,
    btFail := false,
    btAlarmAt := 0,
    btResult := .none,
    btRequest := false }

/-- The safety island (R216 to R250). -/
structure Island where
  signed : Vector (Option SafetySet) 2  -- the two MRAM copies of the signed set (R239)
  pending : Option SafetySet  -- the pending set (R239)
  stat : SafeStat  -- ISLAND_FAULT, BT bits, sticky sources, counters (R248)
  sources : BitVec 32  -- sources asserted now (R231)
  swt : BitVec 4  -- software trip bits as committed (R231)
  killed : Vector Bool 10  -- targets killed (R233, R248)
  killedB : Vector Bool 10  -- the same as channel B has evaluated it (R216)
  copyDiffer : Nat  -- consecutive frames in which the two copies disagreed (R217)
  sfeFault : Bool  -- SFE_FAULT by disagreement of the copies (R217)
  pair : Vector SafePair 16  -- SP0 to SP15 (R219)
  axis : Vector SafeAxis 8  -- AX0 to AX7 (R226)
  so : Vector SafeOut 4  -- SO0 to SO3 (R222)
  bt : Option BrakeTest  -- the brake test in progress (R229)
  raw1 : BitVec 32  -- raw contact states, safety front-end copy 1 (ILK0) (R217, R219)
  raw2 : BitVec 32  -- the same, copy 2 (ILK2) (R217, R219)
  qlTestAt : Nat  -- time of the last QL path test (R218) log 4
  resetPulse : Option Nat  -- length in ticks of a pulse on RESET_DIO that has just ended (R234)
  resetDioSince : Option Nat  -- since when RESET_DIO has been high (R234)
  releasedAt : Vector Nat 8  -- when each QL target was last released (R234, R235)
  deriving DecidableEq, Repr

/-- Its value right after reset. -/
def Island.init : Island :=
  { signed := Vector.replicate 2 none,
    pending := none,
    stat := SafeStat.dflt,
    sources := 0#32,
    swt := 0#4,
    killed := Vector.replicate 10 true,
    killedB := Vector.replicate 10 true,
    copyDiffer := 0,
    sfeFault := false,
    pair := Vector.replicate 16 SafePair.init,
    axis := Vector.replicate 8 SafeAxis.init,
    so := Vector.replicate 4 SafeOut.init,
    bt := none,
    raw1 := 0#32,
    raw2 := 0#32,
    qlTestAt := 0,
    resetPulse := none,
    resetDioSince := none,
    releasedAt := Vector.replicate 8 0 }

/-- The field side of one DIO channel (R254 to R258), times on the field clock. -/
structure DioField where
  filtered : Bool  -- filtered input state (R254) log 6
  limitSince : Option Nat  -- since when the output has been in current limit (OVERLOAD) (R257, R258)
  hot : Bool  -- thermal shutdown (OVERTEMP) (R258)
  openWire : Bool  -- OPEN_WIRE (R258)
  openSince : Option Nat  -- since when the open-wire condition has held (R258)
  extFeed : Bool  -- EXT_FEED (R258)
  extSince : Option Nat  -- since when the pin has stood above 12 V while off (R258)
  latchedAt : Option Nat  -- LATCHED_OFF, with the time of the latch (R257)
  cmd : Bool  -- command of the last valid downlink frame (R255, R269)
  deriving DecidableEq, Repr

/-- Its value right after reset. -/
def DioField.init : DioField :=
  { filtered := false,
    limitSince := none,
    hot := false,
    openWire := false,
    openSince := none,
    extFeed := false,
    extSince := none,
    latchedAt := none,
    cmd := false }

/-- The field front-end of one link (R23, R24, R61, R266 to R271). -/
structure FieldSide where
  ch : Vector DioField 8  -- the eight channels of the group (R251)
  seqRef : BitVec 4  -- SEQ of the last valid downlink frame (R266) log 4
  broken : Bool  -- a frame slot has passed without a valid frame since the last valid one (R266) log 6
  lastValid : Nat  -- end of the last valid downlink frame, on the field clock (R23) log 4
  lost : Bool  -- the front-end has declared the loss of its downlink (R23) log 6
  validRun : Nat  -- consecutive valid frames since the loss, up to 16 (R23)
  armed : Bool  -- the outputs are released: they follow their commands (R23)
  rxErr : Bool  -- an invalid downlink frame is to be reported (R266)
  cfgSeen : Nat  -- consecutive configuration words received since the front-end was unpowered or reset (R271)
  cfgWait : Bool  -- CFG_WAIT (R271)
  aioCfg : Vector (BitVec 16) 48  -- AIO and test-pulse settings received, addresses 0x10 to 0x3F (R271, R288)
  grpOn : Bool  -- GRP_ON of the last valid frame (R61)
  reArm : Bool  -- RE_ARM of the last valid frame (R23)
  aioFail : Bool  -- AIO_FAIL of the last valid frame (R289)
  fuse : Bool  -- GRP_FUSE: the group fuse is tripped (R264)
  fuseAt : Nat  -- time of the last fuse trip, on the field clock (R265) log 4
  fuseWait : Bool  -- after a fuse reset the outputs wait for RE_ARM (R265)
  sensFault : Bool  -- SENS_FAULT (R251)
  sensAt : Nat  -- time of the last SENS trip or retry, on the field clock (R251) log 4
  qlGrp : Bool  -- kill seen on QL4+n (R24) log 6
  qlWait : Bool  -- after a kill the group waits for its re-arm (R24) log 6
  soHs : BitVec 4  -- high-side commands of SO3 to SO0 received on this link (R269)
  soLs : BitVec 4  -- low-side commands received (R269)
  tp : BitVec 2  -- dark-pulse commands received (R269)
  upSeq : BitVec 4  -- SEQ of the next uplink frame (R267) log 4
  deriving DecidableEq, Repr

/-- Its value right after reset. -/
def FieldSide.init : FieldSide :=
  { ch := Vector.replicate 8 DioField.init,
    seqRef := 0#4,
    broken := true,
    lastValid := 0,
    lost := true,
    validRun := 0,
    armed := false,
    rxErr := false,
    cfgSeen := 0,
    cfgWait := true,
    aioCfg := Vector.replicate 48 0#16,
    grpOn := false,
    reArm := false,
    aioFail := false,
    fuse := false,
    fuseAt := 0,
    fuseWait := false,
    sensFault := false,
    sensAt := 0,
    qlGrp := true,
    qlWait := true,
    soHs := 0#4,
    soLs := 0#4,
    tp := 0#2,
    upSeq := 0#4 }

/-- The logic side of one isolation link (R22, R23, R61, R266 to R274). -/
structure Link where
  seqRef : BitVec 4  -- SEQ of the last valid uplink frame (R266) log 4
  broken : Bool  -- a frame slot has passed without a valid frame (R266) log 6
  lastValid : Option Nat  -- end of the last valid uplink frame since the logic side started (R23)
  lost : Bool  -- LINK_LOST, the lost bit (R23)
  rxErrRun : Nat  -- consecutive uplink frames that reported RX_ERR (R23)
  rearmWait : Bool  -- REARM_WAIT (set while a link waits after a reset) (R23, R272)
  reArm : Bool  -- RE_ARM is set in every downlink frame (R23)
  clearRun : Nat  -- consecutive uplink frames that reported RX_ERR clear (R23)
  e2Window : Bool  -- the E2 window is open on this link (R61)
  record : GroupRec  -- the group record as last written (R272)
  stat : GroupStat  -- counters of the group (R274)
  slot : Vector (BitVec 7) 8  -- SLOT of the channels, as last carried (R258, R268)
  soBand : Vector (BitVec 7) 4  -- readback bands of the SO channels (ILK0 and ILK2) (R268) log 6
  seqOut : BitVec 4  -- SEQ of the next downlink frame (R269) log 4
  cfgNext : BitVec 8  -- address of the next configuration word (R271) log 4
  down : Option (BitVec 100)  -- the downlink frame on the wire (R269)
  doSent : BitVec 8  -- commands of the last downlink frame (R274)
  grpOnSent : Bool  -- GRP_ON of the last downlink frame (R272)
  deriving DecidableEq, Repr

/-- Its value right after reset. -/
def Link.init : Link :=
  { seqRef := 0#4,
    broken := true,
    lastValid := none,
    lost := false,
    rxErrRun := 0,
    rearmWait := true,
    reArm := false,
    clearRun := 0,
    e2Window := false,
    record := GroupRec.dflt,
    stat := GroupStat.dflt,
    slot := Vector.replicate 8 0#7,
    soBand := Vector.replicate 4 0#7,
    seqOut := 0#4,
    cfgNext := 0#8,
    down := none,
    doSent := 0#8,
    grpOnSent := false }

/-- Digital field channels and isolation links (R251 to R276). -/
structure Dio where
  desc : Vector DioDesc 32  -- channel descriptors as written (R273)
  act : Vector DioDesc 32  -- channel descriptors in force since the last ENABLE (R273)
  stat : Vector DioStat 32  -- channel counters (R274)
  link : Vector Link 4  -- ILK0 to ILK3, logic side (R21)
  field : Vector FieldSide 4  -- the field front-ends (R21)
  ql : BitVec 8  -- level driven on QL7 to QL0: high permits (R24)
  soKill : BitVec 4  -- kill seen by the field side on QL3 to QL0 (R24)
  soWait : BitVec 4  -- after a kill the SO channel waits for its re-arm (R24) log 6
  clock : Nat  -- ticks of the field front-ends' own clock since they were powered (R18) log 4
  partnerOffAt : Vector (Option Nat) 32  -- when the partner's command was last on: EXT_FEED is suppressed until 2 ms after it (R261)
  deriving DecidableEq, Repr

/-- Its value right after reset. -/
def Dio.init : Dio :=
  { desc := Vector.replicate 32 DioDesc.dflt,
    act := Vector.replicate 32 DioDesc.dflt,
    stat := Vector.replicate 32 DioStat.dflt,
    link := Vector.replicate 4 Link.init,
    field := Vector.replicate 4 FieldSide.init,
    ql := 0#8,
    soKill := 0xF#4,
    soWait := 0xF#4,
    clock := 0,
    partnerOffAt := Vector.replicate 32 none }

/-- One current-loop channel (R277 to R294). -/
structure Aio where
  desc : AioDesc  -- channel descriptor as written (R292)
  act : AioDesc  -- channel descriptor in force since the last ENABLE (R292)
  mramMode : BitVec 8  -- mode recorded in MRAM at the last successful ENABLE (R289)
  trimIn : TrimRec  -- trims of the input path, in MRAM (R281, R293) log 7
  trimOut : TrimRec  -- trims of the output path, in MRAM (R281, R293) log 7
  stat : AioStat  -- counters and FLAGS_SEEN (R293)
  record : AioRec  -- channel record as last written (R291)
  factCode : BitVec 16  -- FACT_CODE, last code under factory trim alone (R282, R293) log 5
  sampledAt : Nat  -- frame tick of the newest measurement (R283, R291) log 4
  failSince : Option (Bool × Nat)  -- beyond which NE 43 limit the input stands, true for the upper, and since when (R285)
  trimPoint : BitVec 8  -- point driven by TRIM_DRIVE: 0 none, 1 4 mA, 2 20 mA (R282)
  trimNew : Bool  -- the driven point was recomputed under an integrator trim set meanwhile (R290)
  errSince : Option Nat  -- first of the comparisons in a row with an error above 0.1 mA (R287)
  okSince : Option Nat  -- first of the comparisons in a row with an error at or below 0.1 mA (R287)
  openSince : Option Nat  -- first of the comparisons in a row with an open loop (R287)
  cmpAt : Nat  -- time of the last comparison (R287) log 4
  sumBack : Nat × Nat  -- sum of the readback codes since the last comparison, and their number (R287)
  sumCmd : Nat  -- sum of the commanded currents behind their moving average, in nA/1024 (R287)
  cmdWin : List (Nat × Nat)  -- commanded currents of the filter window, newest first, each with its number of conversions (R283, R287)
  failSent : Bool  -- a fail or hold code was sent in the last downlink frame of the channel (R291)
  cmdNow : Nat  -- current that the last downlink frame of the channel commanded, in nA/1024 (R287)
  conv : List (Nat × Nat)  -- field side: conversions of the filter window, newest first, each with its number (R283)
  fieldCmd : BitVec 16  -- field side: command code received (R289)
  fieldOut : BitVec 16  -- field side: current sourced, as a code (R289)
  srcFault : Bool  -- field side: SRC_FAULT (R279)
  loopShort : Bool  -- field side: LOOP_SHORT (R279)
  adcFault : Bool  -- field side: ADC_FAULT (R279)
  deriving DecidableEq, Repr

/-- Its value right after reset. -/
def Aio.init : Aio :=
  { desc := AioDesc.dflt,
    act := AioDesc.dflt,
    mramMode := 0#8,
    trimIn := TrimRec.dflt,
    trimOut := { TrimRec.dflt with PATH := 1#8 },
    stat := AioStat.dflt,
    record := AioRec.dflt,
    factCode := 0#16,
    sampledAt := 0,
    failSince := none,
    trimPoint := 0#8,
    trimNew := false,
    errSince := none,
    okSince := none,
    openSince := none,
    cmpAt := 0,
    sumBack := (0, 0),
    sumCmd := 0,
    cmdWin := [],
    failSent := false,
    cmdNow := 0,
    conv := [],
    fieldCmd := 0#16,
    fieldOut := 0#16,
    srcFault := false,
    loopShort := false,
    adcFault := false }

/-- One motion axis (R295 to R321). -/
structure Axis where
  desc : AxisDesc  -- axis descriptor (R318)
  stat : AxisStat  -- flags and fields of the status record (R319)
  count : AxisCount  -- counters (R320)
  state : AxisState  -- STATE (R319)
  pos : Int  -- position in fine steps (R295, R315)
  frac : Nat  -- position beyond the last fine step, in units of 1/(2·10¹²) fine step (R298, R306) log 4
  vel : Int  -- velocity in 10⁻⁶ fine steps per second (R295, R319)
  want : Int  -- velocity wanted in VELOCITY and HOMING, in 10⁻⁶ fine steps per second (R302, R312) log 4
  stopRate : Nat  -- deceleration of the stop in progress, DEC or DEC_QUICK (R302, R306, R311) log 4
  target : Int  -- target of the present move (R301)
  profVel : BitVec 16  -- PROF_VEL of the present move (R301)
  lastSeq : BitVec 16  -- last CMD_SEQ taken (R299)
  enAt : Option Nat  -- when EN was asserted, while EN_ON waits for EN_DELAY_US (R300)
  en : Bool  -- EN output active (R297)
  tbl : Option (Fin 16 × Nat × Nat × Int)  -- running table, segment, its start time and the position at start (R304)
  gear : Option Gearing  -- gear coupling (R306)
  gseq : BitVec 8  -- last GSEQ seen (R307)
  armed : Option ArmedRatio  -- armed ratio (R307)
  home : Option Homing  -- homing run (R312)
  resCode : BitVec 3  -- RES_NOW, the code latched in the drive (R308, R319)
  resWanted : Option (BitVec 3)  -- pending code change (R308, R309)
  limPos : Option Nat  -- since when the positive limit reads not tripped while it waits for release (R311)
  limNeg : Option Nat  -- the same for the negative limit (R311)
  btHold : Bool  -- a brake test runs on the axis (R229)
  deriving DecidableEq, Repr

/-- Its value right after reset. -/
def Axis.init : Axis :=
  { desc := AxisDesc.dflt,
    stat := AxisStat.dflt,
    count := AxisCount.dflt,
    state := .disabled,
    pos := 0,
    frac := 0,
    vel := 0,
    want := 0,
    stopRate := 0,
    target := 0,
    profVel := 0#16,
    lastSeq := 0#16,
    enAt := none,
    en := false,
    tbl := none,
    gear := none,
    gseq := 0#8,
    armed := none,
    home := none,
    resCode := 7#3,
    resWanted := none,
    limPos := none,
    limNeg := none,
    btHold := false }

/-- One encoder (R317). -/
structure Encoder where
  desc : EncDesc  -- encoder descriptor (R317)
  count : BitVec 32  -- COUNT (R317)
  total : Int  -- the count without its wrap (R306, R317)
  zCount : BitVec 32  -- Z_COUNT (R317)
  zSeen : Bool  -- Z_SEEN (R317)
  zSeq : BitVec 16  -- Z_SEQ (R317)
  quadErr : Bool  -- QUAD_ERR (R317)
  deriving DecidableEq, Repr

/-- Its value right after reset. -/
def Encoder.init : Encoder :=
  { desc := EncDesc.dflt,
    count := 0#32,
    total := 0,
    zCount := 0#32,
    zSeen := false,
    zSeq := 0#16,
    quadErr := false }

/-- One resident segment table (R303). -/
structure SegTable where
  loaded : Bool  -- the table has been loaded (R300)
  head : TableHead  -- its head (R303)
  segs : Vector Segment 64  -- its segments (R303)
  deriving DecidableEq, Repr

/-- Its value right after reset. -/
def SegTable.init : SegTable :=
  { loaded := false,
    head := TableHead.dflt,
    segs := Vector.replicate 64 Segment.dflt }

/-- The motion unit (R295 to R321). -/
structure Motion where
  axis : Vector Axis 8  -- MX0 to MX7 (R12)
  enc : Vector Encoder 8  -- ENC0 to ENC7 (R12)
  table : Vector SegTable 16  -- tables 0 to 15 (R303)
  runAt : Nat  -- raw counter up to which the references are computed (R298) log 4
  dlSeq : BitVec 4  -- sequence number of the next drive-link frame (R310) log 4
  dlFrame : Option (BitVec 32)  -- the drive-link frame in flight (R310)
  dlPrev : Option (BitVec 32)  -- the frame before it, which the chain returns (R310)
  dlBad : Bool  -- the last frame's echo did not match (R310)
  dlFault : Bool  -- DRIVE_LINK_FAULT (R310)
  dlGood : Nat  -- consecutive frames whose echo matched, up to 16 (R310)
  dlAt : Nat  -- when the last frame was sent (R310) log 4
  deriving DecidableEq, Repr

/-- Its value right after reset. -/
def Motion.init : Motion :=
  { axis := Vector.replicate 8 Axis.init,
    enc := Vector.replicate 8 Encoder.init,
    table := Vector.replicate 16 SegTable.init,
    runAt := 0,
    dlSeq := 0#4,
    dlFrame := none,
    dlPrev := none,
    dlBad := false,
    dlFault := false,
    dlGood := 0,
    dlAt := 0 }

/-- One CAN controller (R322 to R340). -/
structure CanCtrl where
  desc : CanDesc  -- controller descriptor (R335)
  stat : CanStat  -- sticky bits and counters (R339)
  mode : CanMode  -- mode of the controller (R332)
  state : CanState  -- STATE (R329, R339)
  tecCount : Nat  -- TEC (R329)
  recCount : Nat  -- REC (R329)
  boffLocked : Bool  -- BOFF_LOCKED (R330)
  boffAt : Nat  -- when the last bus-off began (R330) log 4
  boffTimes : List Nat  -- bus-offs within the last 60 s (R330)
  recovering : Bool  -- the recovery wait runs (R330)
  filters : Vector CanFilter 64  -- high-priority filters (R336)
  pendingTx : List (BitVec 16)  -- transmit objects that are pending (R327)
  lastTxSeq : List (BitVec 16 × BitVec 16)  -- TX_SEQ of each object as last seen (R327)
  txAt : List (BitVec 16 × Nat)  -- when each ON_PERIOD object last became pending (R327)
  queue : List CanFrame  -- queue of CAN_TX_ONCE, at most 16 frames (R327)
  wire : Option (CanTx × FrameRec)  -- what has been read for arbitration, with the content read (R328)
  refAt : Option Nat  -- follower: when the last reference arrived, or the wait for one began; master: when a reference of a lower REF_ID last arrived (R333)
  refPending : Option (BitVec 6)  -- a prepared reference message with its cycle count (R333)
  cycleNext : BitVec 6  -- cycle count of the next reference of a master (R333)
  lastRefTs : BitVec 64  -- LAST_REF_TS (R333)
  stdby : Bool  -- CAN_STBYn: transceiver in standby (R332)
  deriving DecidableEq, Repr

/-- Its value right after reset. -/
def CanCtrl.init : CanCtrl :=
  { desc := CanDesc.dflt,
    stat := CanStat.dflt,
    mode := .off,
    state := .off,
    tecCount := 0,
    recCount := 0,
    boffLocked := false,
    boffAt := 0,
    boffTimes := [],
    recovering := false,
    filters := Vector.replicate 64 CanFilter.dflt,
    pendingTx := [],
    lastTxSeq := [],
    txAt := [],
    queue := [],
    wire := none,
    refAt := none,
    refPending := none,
    cycleNext := 0#6,
    lastRefTs := 0#64,
    stdby := true }

/-- The CAN controllers (R322 to R340). -/
structure Can where
  ctrl : Vector CanCtrl 4  -- CAN0 to CAN3 (R12)
  objects : List CanObject  -- the object entries, at most 2048, in the order of OBJ_NO (R336)
  deriving DecidableEq, Repr

/-- Its value right after reset. -/
def Can.init : Can :=
  { ctrl := Vector.replicate 4 CanCtrl.init,
    objects := [] }

/-- One compare unit (R359 to R361). -/
structure Compare where
  desc : CmpDesc  -- compare descriptor (R361)
  next : Option (BitVec 64)  -- next time t_n; none when off or spent (R359)
  late : Bool  -- LATE (R360)
  skip : BitVec 32  -- SKIP_COUNT (R360, R361)
  pulse : Option (BitVec 64 × BitVec 32 × Bool)  -- the pulse in progress: local time at which it began, its width in ns, and whether it is active low (R359, R360)
  deriving DecidableEq, Repr

/-- Its value right after reset. -/
def Compare.init : Compare :=
  { desc := CmpDesc.dflt,
    next := none,
    late := false,
    skip := 0#32,
    pulse := none }

/-- One capture input (R362). -/
structure CaptureIn where
  desc : TciDesc  -- input descriptor (R362) log 8
  queue : List Capture  -- captures waiting in hardware, at most 16, oldest first (R362)
  lastAt : Option (BitVec 64)  -- time of the last capture (R362)
  seq : BitVec 32  -- WR_SEQ (R362)
  ovr : BitVec 32  -- OVR_COUNT (R362)
  deriving DecidableEq, Repr

/-- Its value right after reset. -/
def CaptureIn.init : CaptureIn :=
  { desc := TciDesc.dflt,
    queue := [],
    lastAt := none,
    seq := 0#32,
    ovr := 0#32 }

/-- One Ethernet port (R341, R346, R350). -/
structure NetPort where
  linkUp : Bool  -- the link is up (R346) log 6
  lanOkAt : Option Nat  -- when the last supervision frame from another node arrived (R346)
  ownSeen : Option Nat  -- when the module's own supervision frame last returned (HSR) (R346)
  syncAt : Option Nat  -- when the port last had an accepted Sync (R350)
  deriving DecidableEq, Repr

/-- Its value right after reset. -/
def NetPort.init : NetPort :=
  { linkUp := false,
    lanOkAt := none,
    ownSeen := none,
    syncAt := none }

/-- The RTC in its backup domain (R363 to R369). -/
structure Rtc where
  cal : Calendar  -- live UTC calendar (R363, R364)
  subsec : Nat  -- SUBSEC, 0 to 32767 (R363, R364)
  osf : Bool  -- OSF (R363, R364)
  shiftLeft : Int  -- SHIFT_LEFT (R364, R365)
  alarm : Option (Calendar × Nat)  -- alarm time, while ALARM_ARMED (R366)
  alarmFlag : Bool  -- ALARM_FLAG (R366)
  alarmLate : Bool  -- ALARM_LATE (R366)
  wakePeriod : Nat  -- period of the wake in 1/64 s; 0 disarmed (R367)
  wakeNext : Nat  -- the next grid point, in 1/64 s of the calendar since 1970 (R367) log 4
  wakeFlag : Bool  -- WAKE_FLAG (R367)
  wakeLate : Bool  -- WAKE_LATE (R367)
  wakeCount : BitVec 32  -- WAKE_COUNT (R364, R367)
  leapArmed : Bool  -- LEAP_ARMED (R368)
  leapDel : Bool  -- a deletion shown by LEAP59 is due at the end of this UTC day (R368)
  shadow : Option RtcRec  -- the shadow registers while they hold a copy (R364)
  shadowAt : Nat  -- time of the last read of the sequence (R364) log 4
  hold : Bool  -- the next count of SUBSEC is held by a shift (R365)
  acc : Nat  -- phase of the crystal against CLK_IO (model's own): a count of 1/32768 s falls due at 125,000,000 (R363)
  deriving DecidableEq, Repr

/-- Its value right after reset. -/
def Rtc.init : Rtc :=
  { cal := ⟨2000, 1, 1, 0, 0, 0⟩,
    subsec := 0,
    osf := true,
    shiftLeft := 0,
    alarm := none,
    alarmFlag := false,
    alarmLate := false,
    wakePeriod := 0,
    wakeNext := 0,
    wakeFlag := false,
    wakeLate := false,
    wakeCount := 0#32,
    leapArmed := false,
    leapDel := false,
    shadow := none,
    shadowAt := 0,
    hold := false,
    acc := 0 }

/-- Plant network, ship time and the calendar (R341 to R371). -/
structure Time where
  c : Nat  -- the raw local timebase counter, in CLK_IO ticks (R353)
  baseTs : BitVec 64  -- BASE_TS (R353, R357) log 9
  baseCnt : Nat  -- BASE_CNT (R353)
  rateQ48 : Int  -- RATE_Q48 (R353)
  servoI : Int  -- the servo's I, ppb (R354)
  clk : ClkState  -- CLK_STATE (R354, R357, R358)
  goodRun : Nat  -- consecutive measurements below LOCK_NS (R354)
  badRun : Nat  -- consecutive measurements at or above 4·LOCK_NS (R354)
  everLocked : Bool  -- the clock has been LOCKED since the last boot (R355)
  timeValid : Bool  -- TIME_VALID (R357, R358)
  utcValid : Bool  -- UTC_VALID (R358)
  leap61 : Bool  -- LEAP61 (R358)
  leap59 : Bool  -- LEAP59 (R358)
  isMaster : Bool  -- IS_MASTER (R358)
  portSel : Fin 2  -- PORT_SEL (R350, R358)
  utcOffset : Int  -- UTC_OFFSET, TAI − UTC in s, held in MRAM (R8, R358) log 9
  stepSeq : BitVec 8  -- STEP_SEQ (R355, R358)
  offsetNs : Int  -- OFFSET_NS (R358)
  meanPath : BitVec 32  -- MEAN_PATH_NS (R358)
  holdAt : Nat  -- when the present HOLDOVER began (R354, R358)
  holdAlarm : Bool  -- the alarm of the present HOLDOVER has been recorded (R354)
  gmId : BitVec 64  -- GM_ID (R358)
  gmKnown : Bool  -- a master has been selected since boot (R354)
  syncAt : Nat  -- when the last accepted Sync arrived (R354) log 4
  announceAt : Nat  -- when the last Announce of the selected master arrived (R354) log 4
  lastTs : BitVec 64  -- LAST_TS of the MRAM system records (R357) log 9
  netDesc : NetDesc  -- network descriptor as written (R347)
  netAct : NetDesc  -- network descriptor held in MRAM at the last ENABLE (R344, R347)
  ptpDesc : PtpDesc  -- PTP descriptor as written (R351)
  ptpAct : PtpDesc  -- PTP descriptor in force since the last ENABLE (R351)
  netStat : NetStat  -- network counters (R370)
  ports : Vector NetPort 2  -- PORT_A and PORT_B (R341)
  forwarding : Bool  -- HSR forwarding runs (R344)
  nodes : List (BitVec 48 × Nat)  -- the node table, at most 2048 nodes, with the time each was last heard (R343)
  seen : List (BitVec 48 × BitVec 16 × Fin 2 × Nat)  -- duplicate-discard entries: sender, sequence, port, time (R343)
  msgQueue : List NetFrame  -- frames in the MSG receive queue, oldest first (R42, R345)
  netAt : Option Nat  -- when the network unit last started; PHY_RST is low for 10 ms from then (R341)
  rtcSetAt : Option Nat  -- whole second of UTC at which firmware sets the RTC (R369)
  outFrames : List (List Byte)  -- frames handed to the MACs, newest first (R86, R345, R348)
  txSeq : BitVec 16  -- sequence of the next sent frame (R343) log 4
  suprAt : Nat  -- when the last supervision frame was sent (R343) log 4
  cmp : Vector Compare 8  -- CMP0 to CMP7 (R359)
  tci : Vector CaptureIn 2  -- TCI0 and TCI1 (R362)
  rtc : Rtc  -- the RTC (R363)
  deriving DecidableEq, Repr

/-- Its value right after reset. -/
def Time.init : Time :=
  { c := 0,
    baseTs := 0#64,
    baseCnt := 0,
    rateQ48 := 0,
    servoI := 0,
    clk := .free,
    goodRun := 0,
    badRun := 0,
    everLocked := false,
    timeValid := false,
    utcValid := false,
    leap61 := false,
    leap59 := false,
    isMaster := false,
    portSel := 0,
    utcOffset := 0,
    stepSeq := 0#8,
    offsetNs := 0,
    meanPath := 0#32,
    holdAt := 0,
    holdAlarm := false,
    gmId := 0#64,
    gmKnown := false,
    syncAt := 0,
    announceAt := 0,
    lastTs := 0#64,
    netDesc := NetDesc.dflt,
    netAct := NetDesc.dflt,
    ptpDesc := PtpDesc.dflt,
    ptpAct := PtpDesc.dflt,
    netStat := NetStat.dflt,
    ports := Vector.replicate 2 NetPort.init,
    forwarding := false,
    nodes := [],
    seen := [],
    msgQueue := [],
    netAt := none,
    rtcSetAt := none,
    outFrames := [],
    txSeq := 0#16,
    suprAt := 0,
    cmp := Vector.replicate 8 Compare.init,
    tci := Vector.replicate 2 CaptureIn.init,
    rtc := Rtc.init }

/-- The redundant pair (R372 to R407). -/
structure Pair where
  desc : PairDesc  -- pair descriptor as written (R405)
  act : PairDesc  -- pair descriptor in force since the last ENABLE (R405)
  stat : PairStat  -- flags and counters (R406)
  role : Role  -- ROLE (R374, R406)
  epoch : BitVec 64  -- role epoch, held in MRAM (R376, R406) log 10
  peerEpoch : BitVec 64  -- last epoch received (R376, R406)
  peer : Option PeerInfo  -- what the last heartbeat of the peer carried (R377)
  peerCfg : Option PeerConfig  -- what the peer reported of its configuration (R403)
  lastFrame : Option Nat  -- when the last valid frame arrived (R382)
  peerOkIn : Bool  -- level read on PEER_OK_IN (R378, R406)
  peerOkOut : Bool  -- PEER_OK_OUT (R374, R378)
  pulseAt : Nat  -- when the last test pulse was given or seen (R378) log 4
  pulseLow : Option Nat  -- since when the test pulse holds PEER_OK_OUT low (R378)
  roleOut : Bool  -- ROLE_OUT (R372, R406)
  heartbeatAt : Nat  -- when the last heartbeat was sent (R377) log 4
  out : List PairMsg  -- frames handed to the pair link, newest first (R377)
  held : List (Fin 128 × Fin 11 × Nat × List Byte)  -- lines held in the pair control area until their marker (R380)
  outBlocks : List (Fin 128 × List ImgVal × List SafeVal)  -- each task's last mirrored output block (R379, R384)
  latchAges : List (Fin 128 × Nat)  -- latch time of each task's committed cycle, as a counter value (R379, R386)
  mirLoops : List (Fin 256 × LoopSlot × BitVec 1 × Bank × Bank)  -- mirrored loop states (R379, R385)
  mirAxes : List (Fin 8 × Int × Bool)  -- mirrored axes: position, and whether at rest with EN_ON (R315, R379)
  mirIsland : Option (Vector Bool 10 × BitVec 16 × BitVec 8)  -- mirrored island state: killed targets, PAIR_FAULT and AXIS_FAULT (R236, R379)
  startWait : Option Nat  -- since when START_WAIT_MS runs (R375)
  witnessAt : Option Nat  -- when the present witness query was sent (R383)
  witnessAsk : Option Nat  -- when the witness was last asked (R383)
  witnessFor : List (BitVec 16 × BitVec 16 × BitVec 16 × Nat)  -- queries this module holds as witness: asker, peer, WITNESS_SILENT_US, time of the query (R383)
  presence : List (BitVec 16 × Nat)  -- when a frame of each station address was last seen (R383)
  swapping : Bool  -- a swap is in progress (R389, R406)
  swapWait : Option Nat  -- since when an accepted swap waits for the axes (R389)
  swapArm : Bool  -- the next commit marker hands over event tasks and loops (R389)
  swapByReq : Bool  -- the swap tried or postponed last was asked for by SWAP_REQ (R388)
  handed : List (Fin 128)  -- cyclic tasks already handed over (R389)
  lastSwapAt : Nat  -- when the last swap ended (R388)
  retryAt : Option Nat  -- when a postponed swap is tried again (R388)
  stopAfter : Bool  -- the yield under way ends in STOP, without YIELD_FAULT (R448)
  sigDue : Bool  -- the next commit marker is followed by the RETAIN signatures (R397)
  sigClean : Bool  -- the last comparison of signatures while SYNCING found no difference (R397)
  releaseSo : BitVec 4  -- pair-parallel SO channels still held for the new owner's first fresh commit (R390, R392)
  yielding : Bool  -- YIELD has been sent (R387)
  sync : Option SyncStep  -- filling step of a SYNCING module or of the owner that fills it (R397)
  markersSeen : List (Fin 128)  -- tasks that have passed a marker after the second pass (R397)
  written : List (Fin 11 × Nat)  -- lines written on the owner during the bulk copy (R397)
  diverge : List (Nat × Nat)  -- blocks that differed at comparisons within 24 h, with the times (R395)
  xfade : List (Fin 16 × Nat × Bool)  -- AO channels in a crossfade, with its start and whether the current rises (R391)
  releaseDo : List (Fin 32)  -- PAIR_PEER DO channels still held for the new owner's first fresh commit (R390)
  deriving DecidableEq, Repr

/-- Its value right after reset. -/
def Pair.init : Pair :=
  { desc := PairDesc.dflt,
    act := PairDesc.dflt,
    stat := PairStat.dflt,
    role := .none,
    epoch := 0#64,
    peerEpoch := 0#64,
    peer := none,
    peerCfg := none,
    lastFrame := none,
    peerOkIn := false,
    peerOkOut := false,
    pulseAt := 0,
    pulseLow := none,
    roleOut := false,
    heartbeatAt := 0,
    out := [],
    held := [],
    outBlocks := [],
    latchAges := [],
    mirLoops := [],
    mirAxes := [],
    mirIsland := none,
    startWait := none,
    witnessAt := none,
    witnessAsk := none,
    witnessFor := [],
    presence := [],
    swapping := false,
    swapWait := none,
    swapArm := false,
    swapByReq := false,
    handed := [],
    lastSwapAt := 0,
    retryAt := none,
    stopAfter := false,
    sigDue := false,
    sigClean := false,
    releaseSo := 0#4,
    yielding := false,
    sync := none,
    markersSeen := [],
    written := [],
    diverge := [],
    xfade := [],
    releaseDo := [] }

/-- The Flowstone recorder (R408 to R420, R522). -/
structure Flow where
  desc : FlowDesc  -- recorder descriptor as written (R418)
  act : FlowDesc  -- recorder descriptor in force: the one held in MRAM (R418)
  stat : FlowStat  -- sticky bits and counters (R419)
  headSeq : Nat  -- HEAD_SEQ, the last SEQ assigned (R409) log 5
  seqReserved : Nat  -- SEQ_RESERVED of the MRAM system records (R409) log 5
  staging : List FlowRec  -- records staged and not yet flushed, in SEQ order (R411)
  log : List (Nat × FlowRec)  -- the log body: occupied slots and their records, slots rising (R414) log 3
  logBad : List Nat  -- slots that lie in an uncorrectable MRAM block (R415)
  flushing : List FlowRec  -- the records that the running flush is to write, in SEQ order (R412)
  flushOn : Bool  -- FLUSHING (R412, R419)
  flushAgain : Bool  -- a trigger arrived during the running flush (R412)
  flushAt : Nat  -- when the last flush started (R412) log 4
  flushRqs : List Request  -- FLOW_FLUSH requests that wait for the running flush (R412, R470)
  flushRqsNext : List Request  -- FLOW_FLUSH requests that wait for the flush after it (R412, R470)
  rate : List Nat  -- times of the records of severity 0 to 3 staged within the last 10 s (R411)
  compactAt : Nat  -- when the last compaction or scan ran (R415) log 4
  exp : Option Export  -- the export that is held (R417)
  bootCount : BitVec 32  -- BOOT_COUNT (R408, R419) log 5
  pfLost : BitVec 32  -- PF_LOST, held in MRAM (R413, R419) log 5
  pfRecord : Option FlowRec  -- the power-fail record while it waits to be written (R411, R413)
  deriving DecidableEq, Repr

/-- Its value right after reset. -/
def Flow.init : Flow :=
  { desc := FlowDesc.dflt,
    act := FlowDesc.dflt,
    stat := FlowStat.dflt,
    headSeq := 0,
    seqReserved := 0,
    staging := [],
    log := [],
    logBad := [],
    flushing := [],
    flushOn := false,
    flushAgain := false,
    flushAt := 0,
    flushRqs := [],
    flushRqsNext := [],
    rate := [],
    compactAt := 0,
    exp := none,
    bootCount := 0#32,
    pfLost := 0#32,
    pfRecord := none }

/-- The status panel (R421 to R435). -/
structure Panel where
  desc : PanelDesc  -- panel descriptor as written (R433)
  act : PanelDesc  -- panel descriptor in force since the last ENABLE (R433)
  stat : PanelStat  -- counters and the last update (R434)
  waves : Memory  -- the waveform set as loaded (R424) log 3
  wavesTo : Nat  -- bytes of the set loaded, in order from offset 0 (R425)
  wavesOk : Bool  -- the set is complete and has passed its check (R425, R435)
  queue : List PanelReq  -- update requests waiting, oldest first (R430)
  flight : List PanelUpd  -- updates in flight, at most eight (R430)
  phase : Vector Bool 4  -- phase bit of each zone (R428, R434)
  band : Fin 8  -- the present temperature band (R424, R434) log 5
  panelT : BitVec 16  -- PANEL_T, 1/16 °C (R426, R434) log 5
  tempFault : Bool  -- TEMP_FAULT (R426, R434)
  tempRange : Bool  -- TEMP_RANGE (R426, R434)
  railsOn : Bool  -- RAILS_ON (R422, R434)
  idleSince : Nat  -- since when no update has been in flight (R422) log 4
  journal : Vector JournalEntry 8  -- the eight entries of the journal (R431)
  frame : Memory  -- the level frame of the journal, two pixels a byte (R431) log 3
  updSeq : BitVec 32  -- number of the last update accepted (R431)
  deriving DecidableEq, Repr

/-- Its value right after reset. -/
def Panel.init : Panel :=
  { desc := PanelDesc.dflt,
    act := PanelDesc.dflt,
    stat := PanelStat.dflt,
    waves := [],
    wavesTo := 0,
    wavesOk := false,
    queue := [],
    flight := [],
    phase := Vector.replicate 4 false,
    band := 0,
    panelT := 0#16,
    tempFault := false,
    tempRange := false,
    railsOn := false,
    idleSince := 0,
    journal := Vector.replicate 8 JournalEntry.dflt,
    frame := [],
    updSeq := 0#32 }

/-- Start-up, modes and firmware (R436 to R458, R485 to R487, R501). -/
structure Sys where
  mode : Mode  -- MODE (R446, R462)
  phase : Phase  -- phase within OFF, reset and BOOT (R439)
  resetCause : BitVec 8  -- RESET_CAUSE (R436, R457) log 11
  bootFails : BitVec 8  -- BOOT_FAILS (R443, R457)
  clean : Bool  -- CLEAN (R443, R457) log 5
  minReason : BitVec 16  -- MIN_REASON (R444, R457)
  lastMode : BitVec 8  -- LAST_MODE (R446, R457) log 5
  bootLastMode : BitVec 8  -- LAST_MODE as this boot found it (R446, R455) log 4
  slot : Vector FwSlot 2  -- firmware slots A and B (R440) log 5
  preferred : Fin 2  -- PREFERRED (R440) log 5
  versionFloor : BitVec 32  -- VERSION_FLOOR (R440, R457) log 5
  trialStarted : Bool  -- TRIAL_STARTED (R440)
  runningSlot : Fin 2  -- RUNNING_SLOT (R457) log 5
  trial : Bool  -- TRIAL (R457)
  bootMs : BitVec 32  -- BOOT_MS (R457) log 5
  bootTs : BitVec 64  -- BOOT_TS (R457) log 5
  releaseAt : Nat  -- raw counter at reset release (R439) log 4
  firmwareAt : Nat  -- raw counter at the start of the firmware phase (R436) log 4
  straps : Straps  -- straps as sampled at the last release (R485) log 5
  nrstIn : Bool  -- nRST_IN is low (R436, R486)
  configured : Bool  -- CONFIGURED: a configuration is loaded (R439, R457)
  stored : Option StoredCfg  -- the stored configuration in MRAM (R439, R444)
  startDesc : StartDesc  -- start descriptor held in MRAM (R455)
  startAct : StartDesc  -- start descriptor in force since the last boot (R455)
  check : Option Check  -- the consistency check that runs (R449)
  starting : Option Check  -- an accepted ENABLE whose initialisation runs (R452)
  t0 : Nat  -- T0, in raw counts (R452) log 4
  runAt : Nat  -- raw counter at entry to RUN (R443) log 4
  haltAt : Nat  -- raw counter at entry to HALT (R455) log 4
  supervisorDead : Bool  -- a supervisor fatal has stopped the supervisor (R40, R447, R462)
  fatal : Option FatalCause  -- fatal or clock-fault reason held in MRAM until it is recorded (R19, R412)
  retainLayout : Option (BitVec 256)  -- RETAIN layout digest of the program under which RETAIN was written; none before the first (R454)
  nFault : Bool  -- nFAULT asserted (R456)
  nRstOut : Bool  -- nRST_OUT low (R456)
  coldHold : Option Nat  -- since when the module holds itself in reset below its lower limit (R501)
  romFault : Bool  -- a logic-rail fault or thermal trip holds the ROM phase (R446)
  autoDone : Bool  -- the automatic start of this boot has been decided (R455)
  resetPending : Option (BitVec 8)  -- a reset has been accepted; its flush and drain run (R437, R470)
  extended : Bool  -- the variant is LF-800-EX (R500) log 5
  serial : BitVec 64  -- the module's serial number (R417) log 7
  deriving DecidableEq, Repr

/-- Its value right after reset. -/
def Sys.init : Sys :=
  { mode := .boot,
    phase := .held,
    resetCause := 1#8,
    bootFails := 0#8,
    clean := false,
    minReason := 0#16,
    lastMode := 0#8,
    bootLastMode := 0#8,
    slot := Vector.replicate 2 ⟨.empty, [], 0, 0, 0⟩,
    preferred := 0,
    versionFloor := 0#32,
    trialStarted := false,
    runningSlot := 0,
    trial := false,
    bootMs := 0#32,
    bootTs := 0#64,
    releaseAt := 0,
    firmwareAt := 0,
    straps := ⟨0, false, false, false⟩,
    nrstIn := false,
    configured := false,
    stored := none,
    startDesc := StartDesc.dflt,
    startAct := StartDesc.dflt,
    check := none,
    starting := none,
    t0 := 0,
    runAt := 0,
    haltAt := 0,
    supervisorDead := false,
    fatal := none,
    retainLayout := none,
    nFault := true,
    nRstOut := true,
    coldHold := none,
    romFault := false,
    autoDone := false,
    resetPending := none,
    extended := false,
    serial := 0#64 }

/-- One mailbox (R461, R467, R468). -/
structure Mailbox where
  state : MbState  -- MB_STATE (R467)
  data : Memory  -- its 4 KiB as read through the window (R460, R467) log 3
  rxTs : BitVec 64  -- receipt time-stamp of the request in it (R469) log 4
  appAt : Option Nat  -- when the application's request was rung (R468)
  deriving DecidableEq, Repr

/-- Its value right after reset. -/
def Mailbox.init : Mailbox :=
  { state := .empty,
    data := [],
    rxTs := 0#64,
    appAt := none }

/-- One session (R471 to R480). -/
structure Session where
  open_ : Bool  -- STATE (R480)
  role : Fin 4  -- ROLE (R475, R480)
  entry : SessEntry  -- peer, opening time, certificate and counters (R480)
  outstanding : Nat  -- OUTSTANDING, requests not yet answered (R473, R480)
  lastAt : Nat  -- when the session last had traffic (R473) log 4
  deriving DecidableEq, Repr

/-- Its value right after reset. -/
def Session.init : Session :=
  { open_ := false,
    role := 0,
    entry := SessEntry.dflt,
    outstanding := 0,
    lastAt := 0 }

/-- Host port, mailboxes and sessions (R459 to R480). -/
structure HostPort where
  mb : Vector Mailbox 8  -- MB0 to MB7 (R467)
  appReq : Vector Memory 8  -- request object of each application mailbox in MSG (R468) log 3
  appReply : Vector (Option (List Byte)) 8  -- reply that the serving task has committed and that is not yet copied back (R468)
  runEn : Bool  -- RUN_EN (R462)
  irqStatus : BitVec 32  -- HPW_IRQ_STATUS (R462)
  irqMask : BitVec 32  -- HPW_IRQ_MASK (R462)
  reasonSource : BitVec 8  -- HPW_REASON SOURCE (R462)
  reasonCode : BitVec 16  -- HPW_REASON CODE (R462)
  alive : BitVec 16  -- ALIVE (R462)
  msiSent : Nat  -- MSI messages sent (model's own count) (R464)
  inL0 : Bool  -- the link is in L0 (R460) log 6
  perst : Bool  -- HP_PERST is asserted (R460) log 6
  outOfL0 : Option Nat  -- since when the link has been out of L0 (R460)
  wake : Bool  -- HP_WAKE is driven low (R460)
  session : Vector Session 17  -- session 0 (host port) and S1 to S16 (R480)
  waiting : List Waiting  -- requests received and not yet taken (R469)
  orphans : List Request  -- requests taken whose session has closed: their replies are dropped (R474)
  replies : List Reply  -- replies sent to network sessions, newest first (R466, R470)
  sessDesc : SessDesc  -- session descriptor held in MRAM (R479)
  sessAct : SessDesc  -- session descriptor in force since the last boot (R479)
  anchors : List (List Byte)  -- installed trust anchors, at most four DER certificates (R472)
  handshakeFails : List (BitVec 32 × Nat)  -- failed handshakes of the last 60 s: address and time (R472)
  barred : List (BitVec 32 × Nat)  -- barred addresses, and since when (R472)
  deriving DecidableEq, Repr

/-- Its value right after reset. (log 160) -/
def HostPort.init : HostPort :=
  { mb := Vector.replicate 8 Mailbox.init,
    appReq := Vector.replicate 8 [],
    appReply := Vector.replicate 8 none,
    runEn := false,
    irqStatus := 0#32,
    irqMask := 0#32,
    reasonSource := 0#8,
    reasonCode := 0#16,
    alive := 0#16,
    msiSent := 0,
    inL0 := false,
    perst := true,
    outOfL0 := none,
    wake := false,
    session := Vector.replicate 17 Session.init,
    waiting := [],
    orphans := [],
    replies := [],
    sessDesc := SessDesc.dflt,
    sessAct := SessDesc.dflt,
    anchors := [],
    handshakeFails := [],
    barred := [] }

/-- The module's state: every chapter's, the number of free values drawn so far (the model's own
field, log 13), and the commands that wait, first in first out. -/
structure State where
  gro     : Grotto
  pow     : Power
  tk      : Tasks
  dbg     : Debug
  olc     : Change
  lp      : Loops
  cru     : Crucible
  isl     : Island
  dio     : Dio
  aio     : Vector Aio 16
  mot     : Motion
  can     : Can
  tm      : Time
  pr      : Pair
  flow    : Flow
  pnl     : Panel
  sys     : Sys
  host    : HostPort
  free    : Nat
  pending : List Instr
  deriving DecidableEq, Repr

/-- The module right after reset: a power-on reset of a module that has never been configured,
held in reset with reset release awaited (log 11). -/
def State.reset : State :=
  { gro := Grotto.init, pow := Power.init, tk := Tasks.init, dbg := Debug.init, olc := Change.init,
    lp := Loops.init, cru := Crucible.init, isl := Island.init, dio := Dio.init,
    aio := Vector.replicate 16 Aio.init, mot := Motion.init, can := Can.init, tm := Time.init,
    pr := Pair.init, flow := Flow.init, pnl := Panel.init, sys := Sys.init, host := HostPort.init,
    free := 0, pending := [] }

/-- The reasons a step can stop with a fault. No meaning of this model raises one: what the spec
calls a fault is an effect on the state. -/
inductive Fault where
  /-- raised by no meaning; kept so that the type has a member. Safe. -/
  | none
  deriving DecidableEq, Repr

/-- The reasons a step can be refused. -/
inductive Refusal where
  /-- the command has no meaning yet, rejected by its mnemonic; raised by exec's arms alone. Safe. -/
  | notModelled (mnemonic : String)
  deriving DecidableEq, Repr

end Sys2Proof.Machine
end

