-- ==== Sys2Proof/Machine/Ops.lean ====
section
/-! DEFINITION. The operations that every family uses: tables, memory, the clock, counters, interrupts,
records into staging, flushing, modes, and the entry to HALT. -/

namespace Sys2Proof.Machine

/-! ### Tables -/

/-- The table with entry `i` replaced. -/
def put {α : Type} {n : Nat} (v : Vector α n) (i : Fin n) (x : α) : Vector α n := v.set i.val x i.isLt

/-- The table with entry `i` changed by `f`. -/
def upd {α : Type} {n : Nat} (v : Vector α n) (i : Fin n) (f : α → α) : Vector α n := put v i (f (v.get i))

/-- Every index of a table, rising. -/
def idx (n : Nat) : List (Fin n) := List.finRange n

/-- A number as an index, where it is below the size. -/
def asFin (n k : Nat) : Option (Fin n) := if h : k < n then some ⟨k, h⟩ else none

/-! ### Memory -/

/-- The byte at an address: 0 where nothing is listed (log 3). -/
def Memory.get : Memory → Nat → Byte
  | [], _ => 0
  | (k, b) :: r, a => if k = a then b else Memory.get r a

/-- The memory with one byte written, in its canonical form: addresses rising, no entry 0. -/
def Memory.set : Memory → Nat → Byte → Memory
  | [], a, v => if v = 0 then [] else [(a, v)]
  | (k, b) :: r, a, v =>
    if a < k then (if v = 0 then (k, b) :: r else (a, v) :: (k, b) :: r)
    else if a = k then (if v = 0 then r else (a, v) :: r)
    else (k, b) :: Memory.set r a v

/-- The memory with bytes written from an address on. -/
def Memory.write : Memory → Nat → List Byte → Memory
  | m, _, [] => m
  | m, a, b :: r => Memory.write (m.set a b) (a + 1) r

/-- `n` bytes read from an address on. -/
def Memory.read (m : Memory) (a : Nat) : Nat → List Byte
  | 0 => []
  | n + 1 => m.get a :: Memory.read m (a + 1) n

/-- The number that `n` bytes from an address on hold (R6). -/
def Memory.num (m : Memory) (a n : Nat) : Nat := ofLe (m.read a n)

/-- Every address is at least `lo`, addresses rise strictly, and no entry is 0. -/
def Memory.wfFrom : Nat → Memory → Bool
  | _, [] => true
  | lo, (k, b) :: r => lo ≤ k && b != 0 && Memory.wfFrom (k + 1) r

/-- The canonical form of a memory. -/
def Memory.wf (m : Memory) : Bool := Memory.wfFrom 0 m

/-! ### The clock (R353) -/

/-- CLK_IO ticks in a microsecond (R17). -/
def us (n : Nat) : Nat := 125 * n

/-- CLK_IO ticks in a millisecond. -/
def ms (n : Nat) : Nat := 125000 * n

/-- CLK_IO ticks in a second. -/
def sec (n : Nat) : Nat := 125000000 * n

/-- The raw local timebase counter (R353). -/
def State.now (s : State) : Nat := s.tm.c

/-- T(c), the time read from a counter value (R353). -/
def timeAt (base : BitVec 64) (baseCnt : Nat) (rate : Int) (c : Nat) : BitVec 64 :=
  base + BitVec.ofInt 64 ((((c : Int) - baseCnt) * 8 * (2 ^ 48 + rate)) / 2 ^ 48)

/-- The local time now (R353). -/
def State.ts (s : State) : BitVec 64 := timeAt s.tm.baseTs s.tm.baseCnt s.tm.rateQ48 s.tm.c

/-- An event stamp: the local time `ago` ticks before now with the interpolated phase of the event within its tick, in ns,
added before the rate is applied (R353). (log 158) -/
def State.stampAt (s : State) (ago : Nat) (phase : Fin 8) : BitVec 64 :=
  s.tm.baseTs + BitVec.ofInt 64
    (((((s.tm.c : Int) - ago - s.tm.baseCnt) * 8 + phase.val) * (2 ^ 48 + s.tm.rateQ48)) / 2 ^ 48)

/-- The local clock has just reached a whole multiple of a period of `p` ns. -/
def State.crossed (s : State) (p : Nat) : Bool :=
  s.tm.c != 0 && (timeAt s.tm.baseTs s.tm.baseCnt s.tm.rateQ48 (s.tm.c - 1)).toNat / p != s.ts.toNat / p

/-- `t` ticks have passed since `t0`. -/
def State.since (s : State) (t0 t : Nat) : Bool := t0 + t ≤ s.tm.c

/-- A timer that runs since its start, if it runs, has reached `t` ticks. -/
def State.ran (s : State) (t0 : Option Nat) (t : Nat) : Bool :=
  match t0 with
  | some a => s.since a t
  | none => false

/-- A timer that runs while a condition holds. -/
def runTimer (c : Bool) (now : Nat) (t : Option Nat) : Option Nat :=
  if c then some (t.getD now) else none

/-! ### Counters -/

/-- A counter that saturates, one up. -/
def sat {w : Nat} (x : BitVec w) : BitVec w := if x = BitVec.allOnes w then x else x + 1

/-- A counter that saturates, `n` up. -/
def satAdd {w : Nat} (x : BitVec w) (n : Nat) : BitVec w :=
  if x.toNat + n < 2 ^ w then x + BitVec.ofNat w n else BitVec.allOnes w

/-- The larger of a kept extreme and a value, both unsigned. -/
def maxBv {w : Nat} (x : BitVec w) (n : Nat) : BitVec w :=
  if x.toNat < n then (if n < 2 ^ w then BitVec.ofNat w n else BitVec.allOnes w) else x

/-- A quotient rounded to the nearest whole number, halves up. -/
def roundDiv (n : Int) (d : Nat) : Int := (2 * n + d) / (2 * d : Nat)

/-! ### Frames on the plant network -/

/-- Frames handed to the MACs; each takes a sequence number of the redundancy (R343, R345). -/
def State.sendFrames (s : State) (l : List (List Byte)) : State :=
  { s with tm.outFrames := l.reverse ++ s.tm.outFrames, tm.txSeq := s.tm.txSeq + BitVec.ofNat 16 l.length }

/-! ### Free values -/

/-- The next free value (log 13), and the state with it drawn. -/
def State.draw (s : State) : BitVec 64 × State := (Config.freeValue s.free, { s with free := s.free + 1 })

/-! ### CRC-32 (R239, R408): the polynomial is the spec's, the form is open (log 15) -/

/-- One bit of a CRC-32 register that shifts left. -/
def crcStep (r : BitVec 32) (b : Bool) : BitVec 32 :=
  if r.getMsbD 0 != b then (r <<< 1) ^^^ 0x04C11DB7#32 else r <<< 1

/-- The eight bits of a byte, in the order in which a CRC takes them. -/
def crcBits (low : Bool) (b : Byte) : List Bool :=
  if low then (List.range 8).map b.getLsbD else (List.range 8).map b.getMsbD

/-- CRC-32 over bytes. -/
def crc32 (bs : List Byte) : BitVec 32 :=
  let r := (bs.flatMap (crcBits Config.crcReflected)).foldl crcStep Config.crcInit
  (if Config.crcReflected then r.reverse else r) ^^^ Config.crcXorOut

/-! ### The interrupt block (R460, R462, R464) -/

/-- An interrupt that the mask lets through is pending. -/
def HostPort.irqPending (h : HostPort) : Bool := h.irqStatus &&& h.irqMask != 0

/-- HP_WAKE is driven while an unmasked interrupt is pending and the link is not in L0 (R460). -/
def HostPort.rewake (h : HostPort) : HostPort := { h with wake := h.irqPending && !h.inL0 }

/-- Status bits are set on their events; an MSI goes out when the masked status becomes
non-zero (R464). -/
def HostPort.raise (h : HostPort) (bits : BitVec 32) : HostPort :=
  let h' := { h with irqStatus := h.irqStatus ||| bits }
  { h' with msiSent := if !h.irqPending && h'.irqPending then h.msiSent + 1 else h.msiSent }.rewake

/-- Status bits are set (R464). -/
def State.raise (s : State) (bits : BitVec 32) : State := { s with host := s.host.raise bits }

/-- FLOW_ALARM, bit 14 (R462). -/
def irqFlowAlarm : BitVec 32 := 0x4000#32
/-- DB_ERROR, bit 15 (R462). -/
def irqDbError : BitVec 32 := 0x8000#32
/-- ROLE_CHANGE, bit 13 (R462). -/
def irqRoleChange : BitVec 32 := 0x2000#32
/-- TIME_EVENT, bit 12 (R462). -/
def irqTimeEvent : BitVec 32 := 0x1000#32
/-- REASON, bit 11 (R462). -/
def irqReason : BitVec 32 := 0x0800#32
/-- MODE_CHANGE, bit 10 (R462). -/
def irqModeChange : BitVec 32 := 0x0400#32
/-- MB_DONE of a mailbox (R462). -/
def irqMbDone (n : Fin 8) : BitVec 32 := BitVec.ofNat 32 (2 ^ n.val)

/-- HPW_REASON is written with its source and code (R462). -/
def State.setReason (s : State) (source code : Nat) : State :=
  ({ s with host.reasonSource := BitVec.ofNat 8 source, host.reasonCode := BitVec.ofNat 16 code }).raise irqReason

/-! ### Flowstone: staging and flushing (R408 to R412) -/

/-- Records that staging holds unflushed before it counts as full (R411). -/
def stagingFull : Nat := 131072

/-- Unflushed records that trigger a flush (R412). -/
def flushFill : Nat := 65536

/-- A record before it has its number: severity, code, inst within its family, session and
payload bytes (R408). -/
structure Note where
  sev     : Nat
  code    : Nat
  inst    : Nat := 0xFF
  session : Nat := 0xFF
  payload : List Byte := []
  deriving DecidableEq, Repr

/-- The usual payload: OLD, NEW and DETAIL (R520). -/
def evData (old new : Nat) (detail : Nat := 0) : List Byte := leBytes 8 old ++ leBytes 8 new ++ leBytes 16 detail

/-- The record with its CRC over bytes 0x00 to 0x3B (R408). -/
def FlowRec.seal (r : FlowRec) : FlowRec := { r with CRC := crc32 (r.toBytes.take 60) }

/-- The record that a note becomes, with the number and time it gets (R408). -/
def State.recordOf (s : State) (n : Note) (seq : Nat) (ts : BitVec 64) : FlowRec :=
  FlowRec.seal
    { FlowRec.dflt with
      SEQ := BitVec.ofNat 48 seq, TIME_INVALID := if s.tm.timeValid then 0#1 else 1#1,
      SEVERITY := BitVec.ofNat 3 n.sev, STEP_SEQ := s.tm.stepSeq, TS := ts,
      SRC_FAMILY := BitVec.ofNat 8 (n.code / 256), SRC_INST := BitVec.ofNat 8 n.inst,
      CODE := BitVec.ofNat 16 n.code, SESSION := BitVec.ofNat 8 n.session,
      PAYLOAD := BitVec.ofNat 256 (ofLe n.payload), BOOT_COUNT := s.flow.bootCount }

/-- SEQ_RESERVED as it must stand before a number is assigned: ahead of it by steps of 65,536
(R409). -/
def reserveSeq (reserved seq : Nat) : Nat := if seq < reserved then reserved else reserved + 65536 * ((seq - reserved) / 65536 + 1)

/-- A flush starts over every record staged by now (R412). -/
def Flow.startFlush (f : Flow) (now : Nat) : Flow :=
  { f with flushing := f.staging, flushOn := true, flushAt := now, flushAgain := false,
           flushRqs := f.flushRqs ++ f.flushRqsNext, flushRqsNext := [] }

/-- A trigger of R412: a flush starts, or follows as soon as the present one ends. -/
def Flow.trigger (f : Flow) (now : Nat) : Flow :=
  if f.flushOn then { f with flushAgain := true } else f.startFlush now

/-- A trigger of R412. -/
def State.flushTrigger (s : State) : State := { s with flow := s.flow.trigger s.now }

/-- Why a record is not staged (R411). -/
inductive StageDrop where
  | filter | rate | full
  deriving DecidableEq, Repr

/-- What R411 decides of a record of a severity: nothing in its way, or what keeps it out. (log 148) -/
def Flow.limit (f : Flow) (sev now : Nat) : Option StageDrop :=
  if sev < 4 && sev < f.act.MIN_SEVERITY.toNat then some .filter
  else if sev < 4 && f.act.RATE_LIMIT.toNat ≤ (f.rate.filter fun t => now < t + sec 10).length then some .rate
  else if stagingFull ≤ f.staging.length then some .full
  else none

/-- The record is not staged: its counter rises and DROP_SEEN is set (R411, R419). (log 148) -/
def Flow.noteDrop (f : Flow) (d : StageDrop) : Flow :=
  let st := { f.stat with DROP_SEEN := 1#1 }
  { f with stat :=
      match d with
      | .filter => { st with FILTERED := sat st.FILTERED }
      | .rate => { st with RATE_DROP := sat st.RATE_DROP }
      | .full => { st with STAGE_DROP := sat st.STAGE_DROP } }

/-- The record enters staging with the next SEQ; severity 4 and above sets FLOW_ALARM and starts a
flush, and so does half-full staging (R409, R411, R412, R462). -/
def State.stageAt (s : State) (n : Note) (ts : BitVec 64) : State :=
  let seq := s.flow.headSeq + 1
  let r := s.recordOf n seq ts
  let s := { s with
    flow.headSeq := seq, flow.seqReserved := reserveSeq s.flow.seqReserved seq,
    flow.staging := s.flow.staging ++ [r],
    flow.rate := if n.sev < 4 then s.flow.rate.filter (fun t => s.now < t + sec 10) ++ [s.now] else s.flow.rate }
  let s := if 4 ≤ n.sev then s.raise irqFlowAlarm else s
  if 4 ≤ n.sev || s.flow.staging.length == flushFill then s.flushTrigger else s

/-- A record of an event at a given time (R411): staged, or kept out and counted. -/
def State.recordAt (s : State) (n : Note) (ts : BitVec 64) : State :=
  match s.flow.limit n.sev s.now with
  | none => s.stageAt n ts
  | some d => { s with flow := s.flow.noteDrop d }

/-- A record of an event that comes about now. -/
def State.record (s : State) (n : Note) : State := s.recordAt n s.ts

/-- A record with the payload OLD, NEW and DETAIL (R520). -/
def State.event (s : State) (sev code inst old new : Nat) (detail : Nat := 0) : State :=
  s.record { sev := sev, code := code, inst := inst, payload := evData old new detail }

/-! ### The log body (R414) -/

/-- Slots of the log body (R414). -/
def logSlots : Nat := 4194304

/-- The lowest-numbered free slot at or above `k`, where `log` lists the occupied ones rising. -/
def firstFree : Nat → List (Nat × FlowRec) → Nat
  | k, [] => k
  | k, (i, _) :: r => if i = k then firstFree (k + 1) r else k

/-- The log with a slot holding a record, slots rising. -/
def logPut : List (Nat × FlowRec) → Nat → FlowRec → List (Nat × FlowRec)
  | [], i, r => [(i, r)]
  | (k, q) :: t, i, r => if i < k then (i, r) :: (k, q) :: t else if i = k then (i, r) :: t else (k, q) :: logPut t i r

/-- The oldest record of a severity in the log, with its slot (R414). -/
def oldestOf (sev : Nat) (log : List (Nat × FlowRec)) : Option (Nat × FlowRec) :=
  (log.filter fun e => e.2.SEVERITY.toNat == sev).foldl
    (fun best e => match best with
      | none => some e
      | some b => if e.2.SEQ.toNat < b.2.SEQ.toNat then some e else some b) none

/-- The record that a new one of a severity overwrites in a full log (R414): the oldest of the lowest
severity present below its own, else the oldest of its own. -/
def victimOf (sev : Nat) (log : List (Nat × FlowRec)) : Option (Nat × FlowRec) :=
  ((List.range (sev + 1)).filterMap fun v => oldestOf v log).head?

/-- FLUSHED_SEQ: the highest SEQ held in the log body, 0 for none (R412). (log 149) -/
def Flow.flushedSeq (f : Flow) : Nat := ((f.log.map fun e => e.2.SEQ.toNat).max?).getD 0

/-- A flushed record takes its place in the log body, or is dropped (R414). (log 149) -/
def Flow.place (f : Flow) (r : FlowRec) : Flow :=
  let free := firstFree 0 f.log
  if free < logSlots then
    { f with log := logPut f.log free r }
  else
    match victimOf r.SEVERITY.toNat f.log with
    | some (i, v) =>
      { f with log := logPut f.log i r,
               stat := { f.stat with OVERWRITTEN := upd f.stat.OVERWRITTEN v.SEVERITY.toFin sat,
                                     LAST_OVERWRITE_SEQ := v.SEQ.setWidth 64 } }
    | none =>
      { f with stat := { f.stat with DROPPED_FULL := upd f.stat.DROPPED_FULL r.SEVERITY.toFin sat, DROP_SEEN := 1#1 } }

/-- The order in which a power-fail or reset flush takes records: highest severity first, oldest
first within each (R413, R437). -/
def bySeverity (rs : List FlowRec) : List FlowRec :=
  [7, 6, 5, 4, 3, 2, 1, 0].flatMap fun v => rs.filter fun r => r.SEVERITY.toNat == v

/-- A running flush ends at the next record boundary: how many of its records are in the log body by then is a free value
(R413, R437, log 13). (log 69) -/
def State.endFlush (s : State) : State :=
  if s.flow.flushOn then
    let (v, s) := s.draw
    let k := v.toNat % (s.flow.flushing.length + 1)
    let f := (s.flow.flushing.take k).foldl Flow.place s.flow
    { s with flow := { f with staging := f.staging.drop k, flushing := [], flushOn := false, flushAgain := false } }
  else s

/-- The flush of R413 and R437: at most `n` unflushed records are placed, by severity, and the others
are lost. LAST_TS is written with every flush (R357). -/
def State.emergencyFlush (s : State) (n : Nat) : State :=
  let f := ((bySeverity s.flow.staging).take n).foldl Flow.place s.flow
  { s with flow := { f with staging := [] }, tm.lastTs := s.ts }

/-! ### The budget levels as the dispatcher takes them (R73) -/

/-- The levels that the budget record in IMAGE reports, heat in bits 1:0 and energy in bits 3:2 (R72). -/
def State.budgetByte (s : State) : Nat := ((s.gro.mem.get 0).get 0).toNat

/-- The heat level as its readers take it: H3 while the budget record is stale (R72, R73). -/
def State.heatNow (s : State) : Nat := if s.pow.budgetStale then 3 else s.budgetByte % 4

/-- The energy level as its readers take it: at least E2 while the budget record is stale (R72, R73). -/
def State.energyNow (s : State) : Nat := if s.pow.budgetStale then max 2 (s.budgetByte / 4 % 4) else s.budgetByte / 4 % 4

/-! ### Modes (R446) -/

/-- The mode's number in HPW_MODE; OFF has none and reads 0 (R446, R462). -/
def Mode.num : Mode → Nat
  | .off => 0 | .boot => 1 | .minimal => 2 | .stop => 3 | .run => 4 | .halt => 5

/-- The module changes its mode: LAST_MODE, an EVT_MODE record and MODE_CHANGE (R446, R462, R521). -/
def State.setMode (s : State) (m : Mode) : State :=
  if s.sys.mode = m then s
  else
    let old := s.sys.mode
    let keep := match m with
      | .minimal | .stop | .run => BitVec.ofNat 8 m.num
      | _ => s.sys.lastMode
    let s := { s with sys.mode := m, sys.lastMode := keep }
    (s.event 2 0x0112 0xFF old.num m.num).raise irqModeChange

/-! ### Motion stops (R297, R314) -/

/-- Fine steps per second in the unit of a velocity. -/
def velUnit : Nat := 1000000

/-- The axis stops at once: no further pulse, the mode ends, and a speed above VEL_START loses the position (R314).
An axis that has no mode and stands still is left as it is. (log 130) -/
def Axis.stopNow (x : Axis) (ts : BitVec 64) : Axis :=
  if x.state == .disabled || (x.state == .idle && !x.btHold) then { x with resWanted := none, btHold := false }
  else
    let lost := x.desc.VEL_START.toNat * velUnit < x.vel.natAbs
    { x with
      state := .idle, vel := 0, frac := 0, tbl := none, gear := none, armed := none, home := none, resWanted := none, btHold := false,
      stat := { x.stat with
        REVERSING := 0#1, GEAR_SYNC := 0#1, POSITION_UNCERTAIN := if lost then 1#1 else x.stat.POSITION_UNCERTAIN,
        HOMED := if lost then 0#1 else x.stat.HOMED },
      count := { x.count with
        IMMEDIATE_STOPS := sat x.count.IMMEDIATE_STOPS, LAST_STOP_TS := ts,
        LOST_COUNT := if lost then sat x.count.LOST_COUNT else x.count.LOST_COUNT } }

/-- EN is released: the axis is DISABLED (R300). -/
def Axis.disable (x : Axis) : Axis := { x with state := .disabled, en := false, enAt := none, stat := { x.stat with EN_ON := 0#1 } }

/-- Every axis stops at once, and with `off` is disabled (R297, R314). -/
def State.stopAxes (s : State) (off : Bool) : State :=
  { s with mot.axis := s.mot.axis.map fun x => if off then (x.stopNow s.ts).disable else x.stopNow s.ts }

/-! ### Killing outputs (R24, R233) -/

/-- Every QL line is driven to kill: every target stands killed, and what hangs on the lines on the
field side is off (R24, R225). -/
def State.killAll (s : State) : State :=
  { s with isl.killed := Vector.replicate 10 true, isl.killedB := Vector.replicate 10 true, dio.ql := 0#8 }

/-- Every QL line goes to kill, outside the matrix (R65, R236, R447, R448). -/
def State.dropLines (s : State) : State := { s with dio.ql := 0#8 }

/-- The execution blocks are held in reset: no task runs, no loop samples, no Crucible job, axis,
CAN traffic or check goes on, and a brake test is aborted (R19, R230, R437, R447). -/
def State.holdBlocks (s : State) : State :=
  { s with
    tk.task := s.tk.task.map fun t => { t with run := .idle, cycleOpen := false, finished := none, trigger := none }
    tk.laneTask := Vector.replicate 8 none
    lp.loop := s.lp.loop.map fun l => { l with sample := none, result := false }
    cru.queue := [], cru.running := none
    cru.slot := s.cru.slot.map fun x => { x with job := none, analysing := [] }
    mot.axis := s.mot.axis.map fun a => (a.stopNow s.ts).disable
    can.ctrl := s.can.ctrl.map fun c => { c with mode := .off, state := .off, stdby := true, wire := none }
    isl.so := match s.isl.bt with
      | some b => upd s.isl.so b.so fun o => { o with btResult := .aborted, cmd := false }
      | none => s.isl.so
    isl.bt := none
    sys.check := none, sys.starting := none }

/-- RUN_EN is cleared at every exit from RUN (R463). -/
def State.clearRunEn (s : State) : State := { s with host.runEn := false }

/-- The number that a cause of a fatal has in EVT_FATAL's DETAIL (R521): the rule it comes from,
then its datum (log 16). -/
def FatalCause.detail : FatalCause → Nat
  | .clock => 19
  | .uncorrectable c => 40 + 65536 * c.val
  | .portFault p => 45 + 65536 * p.val
  | .rail n => 56 + 65536 * (n % 65536)
  | .thermal => 70
  | .laneFault l => 121 + 65536 * l.val
  | .island => 216
  | .qlLine n => 218 + 65536 * n.val

/-- Entry to HALT (R447): blocks held in reset, QL lines killed, nFAULT asserted, PEER_OK_OUT low, a
flush attempted, CLEAN cleared (R443). With `dead` the supervisor has stopped, and its reason waits
in MRAM for the next boot (R412). -/
def State.enterHalt (s : State) (cause : FatalCause) (dead : Bool) : State :=
  let s := if dead then { s with sys.fatal := some cause } else s.event 7 0x0113 0xFF 0 0 cause.detail
  let s := ((s.setMode .halt).dropLines).holdBlocks.clearRunEn
  { s with
    sys.phase := .serving, sys.nFault := true, sys.clean := false, sys.haltAt := s.now,
    sys.supervisorDead := s.sys.supervisorDead || dead,
    pr.peerOkOut := false }.flushTrigger

end Sys2Proof.Machine
end

