-- ==== Sys2Proof/Machine/Clock.lean ====
section
/-! DEFINITION. The calendar of the RTC (R363 to R368), its conversion to and from TS64 (R7, R8), and what one tick
of CLK_IO does when no command waits. -/

namespace Sys2Proof.Machine

/-- The year has 366 days. -/
def leapYear (y : Nat) : Bool := (y % 4 == 0 && y % 100 != 0) || y % 400 == 0

/-- Days in a month. -/
def monthDays (y m : Nat) : Nat :=
  match m with
  | 2 => if leapYear y then 29 else 28
  | 4 | 6 | 9 | 11 => 30
  | _ => 31

/-- Days from 1970-01-01 to the first of January of a year. -/
def yearStart (y : Nat) : Nat := ((List.range (y - 1970)).map fun k => if leapYear (1970 + k) then 366 else 365).sum

/-- Days from the first of January to the first of a month. -/
def monthStart (y m : Nat) : Nat := ((List.range (m - 1)).map fun k => monthDays y (k + 1)).sum

/-- The calendar as UTC seconds since 1970; a second 60 counts as the second after 59. -/
def Calendar.secs (c : Calendar) : Nat :=
  ((yearStart c.year + monthStart c.year c.month + (c.day - 1)) * 24 + c.hour) * 3600 + c.minute * 60 + c.second

/-- The month and day that `d` days after the first of January are, from month `m` on. -/
def monthOf (y : Nat) : Nat → Nat → Nat → Nat × Nat
  | 0, m, d => (m, d + 1)
  | k + 1, m, d => if d < monthDays y m then (m, d + 1) else monthOf y k (m + 1) (d - monthDays y m)

/-- The year and the day in it that `d` days after the start of year `y` are. -/
def yearOf : Nat → Nat → Nat → Nat × Nat
  | 0, y, d => (y, d)
  | k + 1, y, d => let n := if leapYear y then 366 else 365; if d < n then (y, d) else yearOf k (y + 1) (d - n)

/-- The calendar of UTC seconds since 1970. -/
def Calendar.ofSecs (n : Nat) : Calendar :=
  let (y, d) := yearOf 240 1970 (n / 86400)
  let (m, day) := monthOf y 11 1 d
  { year := y, month := m, day := day, hour := n / 3600 % 24, minute := n / 60 % 60, second := n % 60 }

/-- A calendar and SUBSEC within their ranges (R364): 2000 to 2199, a day of its month, SUBSEC below
32768; a second 60 is not set. -/
def Calendar.valid (c : Calendar) (subsec : Nat) : Bool :=
  2000 ≤ c.year && c.year ≤ 2199 && 1 ≤ c.month && c.month ≤ 12 && 1 ≤ c.day && c.day ≤ monthDays c.year c.month
    && c.hour ≤ 23 && c.minute ≤ 59 && c.second ≤ 59 && subsec ≤ 32767

/-- The last second of the UTC day: 23:59:59. -/
def Calendar.dayEnd (c : Calendar) : Bool := c.hour == 23 && c.minute == 59 && c.second == 59

/-- The second after: with a leap second armed 23:59:59 is followed by 23:59:60, and that by 00:00:00
(R368). Past 2199 the calendar begins again at 2000 (log 18). -/
def Calendar.next (c : Calendar) (leap : Bool) : Calendar :=
  if leap && c.dayEnd then { c with second := 60 }
  else if c.second < 59 then { c with second := c.second + 1 }
  else if c.minute < 59 then { c with minute := c.minute + 1, second := 0 }
  else if c.hour < 23 then { c with hour := c.hour + 1, minute := 0, second := 0 }
  else if c.day < monthDays c.year c.month then { c with day := c.day + 1, hour := 0, minute := 0, second := 0 }
  else if c.month < 12 then { c with month := c.month + 1, day := 1, hour := 0, minute := 0, second := 0 }
  else { year := if c.year < 2199 then c.year + 1 else 2000, month := 1, day := 1, hour := 0, minute := 0, second := 0 }

/-- SUBSEC moves `n` counts on, with the calendar behind it (R363). LEAP_ARMED clears as the day ends
(R368). -/
def Rtc.advance (r : Rtc) (n : Nat) : Rtc :=
  if r.subsec + n < 32768 then { r with subsec := r.subsec + n }
  else { r with subsec := r.subsec + n - 32768, cal := r.cal.next r.leapArmed,
                leapArmed := r.leapArmed && r.cal.second != 60 }

/-- The RTC's time as counts of 1/32768 s since 1970. -/
def rtcCounts (c : Calendar) (subsec : Nat) : Nat := c.secs * 32768 + subsec

/-- The local time, in ns TAI, of an RTC time: its UTC time plus the leap-second offset (R7, R8). -/
def taiOf (c : Calendar) (subsec : Nat) (offset : Int) : BitVec 64 :=
  BitVec.ofInt 64 (((c.secs : Int) + offset) * 1000000000 + subsec * 1000000000 / 32768)

/-- The crystal's phase after one tick of CLK_IO; a count of 1/32768 s falls due at 125,000,000, and a shift may hold it
(R363, R365, log 1). -/
def Rtc.tick (r : Rtc) : Rtc :=
  if r.acc + 32768 < 125000000 then { r with acc := r.acc + 32768 }
  else
    let r := { r with acc := r.acc + 32768 - 125000000 }
    if r.hold then { r with hold := false } else r.advance 1

/-- The live time as counts since 1970. -/
def Rtc.counts (r : Rtc) : Nat := rtcCounts r.cal r.subsec

/-- The first grid point of the wake after a time in counts (R367). (log 140) -/
def Rtc.gridAfter (r : Rtc) (b : Nat) : Nat :=
  if b / 512 < r.wakeNext then r.wakeNext else r.wakeNext + r.wakePeriod * ((b / 512 - r.wakeNext) / r.wakePeriod + 1)

/-- What a jump of the live time from `a` to `b` passes: an alarm time fires once with ALARM_LATE, and one or more grid
points give one wake with WAKE_LATE (R366, R367). (log 140) -/
def Rtc.passed (r : Rtc) (a b : Nat) : Rtc :=
  let r := match r.alarm with
    | some (c, n) => if a < rtcCounts c n && rtcCounts c n < b then { r with alarm := none, alarmFlag := true, alarmLate := true } else r
    | none => r
  if r.wakePeriod != 0 && a < 512 * r.wakeNext && 512 * r.wakeNext < b then
    { r with wakeFlag := true, wakeLate := true, wakeCount := r.wakeCount + 1, wakeNext := r.gridAfter b }
  else r

/-- The calendar is set: OSF clears, a running shift ends, and what a forward set passes is late (R363, R365 to R367).
(log 140) -/
def Rtc.set (r : Rtc) (c : Calendar) (subsec : Nat) : Rtc :=
  { r with cal := c, subsec := subsec, osf := false, shiftLeft := 0, hold := false }.passed r.counts (rtcCounts c subsec)

/-- The RTC changes; TIME_EVENT where a flag has been set (R367, R462). -/
def State.withRtc (s : State) (r : Rtc) : State :=
  let old := s.tm.rtc
  let s := { s with tm.rtc := r }
  if s.sys.phase != .off && ((r.alarmFlag && !old.alarmFlag) || r.wakeCount != old.wakeCount) then s.raise irqTimeEvent else s

/-- UTC in ns, from the local time and the leap-second offset (R7, R8). -/
def State.utcNs (s : State) : Int := (s.ts.toNat : Int) - s.tm.utcOffset * 1000000000

/-- The firmware runs: a phase after BOOT, with a live supervisor (R439, R447). -/
def State.firmwareUp (s : State) : Bool := s.sys.phase == .serving && !s.sys.supervisorDead && s.pow.pfStage == .idle

/-- At the end of an inserted leap second the firmware stores the new offset (R368). (log 140) -/
def State.storeLeap (s : State) (was : Bool) : State :=
  if was && !s.tm.rtc.leapArmed && s.firmwareUp then { s with tm.utcOffset := s.tm.utcOffset + 1 } else s

/-- The firmware's set of the RTC is made at its whole second of UTC (R369). (log 140) -/
def State.dueSet (s : State) : State :=
  match s.tm.rtcSetAt with
  | some k =>
    if (k : Int) * 1000000000 ≤ s.utcNs then { s.withRtc (s.tm.rtc.set (Calendar.ofSecs k) 0) with tm.rtcSetAt := none } else s
  | none => s

/-- The ports of a class, in the order of their numbers (R46). -/
def classPorts : Vector (List (Fin 14)) 4 := #v[[4, 10, 11], [0, 1, 2, 3, 13], [5, 6, 8, 9], [7, 12]]

/-- Every class's token after `n` fabric cycles (R47). (log 57) -/
def Grotto.spin (g : Grotto) (n : Nat) : Grotto :=
  { g with token := Vector.ofFn fun k => (g.token.get k + n) % (classPorts.get k).length }

/-- One tick of CLK_IO (R353): the raw counter and the front-ends' clock count, the tokens of the fabric step four cycles on,
and the RTC's crystal runs on. -/
def State.tick (s : State) : State :=
  let was := s.tm.rtc.leapArmed
  (({ s with gro := s.gro.spin 4, tm.c := s.tm.c + 1, dio.clock := s.dio.clock + 1, tm.rtc := s.tm.rtc.tick }).storeLeap was).dueSet

/-- A compare unit takes a descriptor and arms (R359, R361). (log 139) -/
def Compare.arm (x : Compare) (d : CmpDesc) : Compare :=
  { x with desc := d, next := if d.MODE == 0#8 then none else some d.START, late := false, skip := 0#32 }

end Sys2Proof.Machine
end

