-- ==== Sys2Proof/Machine/Catalogue.lean ====
section
/-! DEFINITION. The command catalogue (R515) with the role of each command (R475) and the code that takes the
place of SYS_MODE (R514). -/

namespace Sys2Proof.Machine

/-- One row of the catalogue. -/
structure CmdInfo where
  /-- command code -/
  code    : Nat
  /-- modes in which it is served (R513) -/
  modes   : List Mode
  /-- it is served in ROM recovery (R441) -/
  rom     : Bool
  /-- payload bytes: least and most (R512) -/
  least   : Nat
  most    : Nat
  /-- the role it requires (R475) -/
  role    : Nat
  /-- the code that refuses it in another mode (R514) -/
  lock    : Nat
  /-- where its payload names the task, slot, channel or other it is about: offset and bytes -/
  instAt  : Option (Nat × Nat)
  /-- what SRC_INST adds to that number: 0x20 for AIO channels, 0x40 for groups (R408) -/
  base    : Nat
  deriving DecidableEq, Repr

/-- SYS_ENABLE: modes S, payload 1 (R515); role 1 (R475). -/
def Cmd.sysEnable : CmdInfo := ⟨0x0130, [.stop], false, 1, 1, 1, 0x0122, none, 0x00⟩

/-- SYS_STOP: modes R, payload 1 (R515); role 1 (R475). -/
def Cmd.sysStop : CmdInfo := ⟨0x0131, [.run], false, 1, 1, 1, 0x0122, none, 0x00⟩

/-- SYS_RESTART: modes M S H X, payload 1 (R515); role 2 (R475). -/
def Cmd.sysRestart : CmdInfo := ⟨0x0132, [.minimal, .stop, .halt], true, 1, 1, 2, 0x0122, none, 0x00⟩

/-- SYS_BOOT_INFO: modes A, payload 0 (R515); role 0 (R475). -/
def Cmd.sysBootInfo : CmdInfo := ⟨0x0133, [.minimal, .stop, .run, .halt], false, 0, 0, 0, 0x0122, none, 0x00⟩

/-- SYS_START_SET: modes S M, payload 16 (R515); role 2 (R475). -/
def Cmd.sysStartSet : CmdInfo := ⟨0x0134, [.stop, .minimal], false, 16, 16, 2, 0x0122, none, 0x00⟩

/-- SYS_START_GET: modes A, payload 0 (R515); role 0 (R475). -/
def Cmd.sysStartGet : CmdInfo := ⟨0x0135, [.minimal, .stop, .run], false, 0, 0, 0, 0x0122, none, 0x00⟩

/-- SYS_FW_LOAD: modes S M X, payload 4+≤4076 (R515); role 2 (R475). -/
def Cmd.sysFwLoad : CmdInfo := ⟨0x0136, [.stop, .minimal], true, 4, 4080, 2, 0x0122, none, 0x00⟩

/-- SYS_FW_ACTIVATE: modes S M X, payload 0 (R515); role 2 (R475). -/
def Cmd.sysFwActivate : CmdInfo := ⟨0x0137, [.stop, .minimal], true, 0, 0, 2, 0x0122, none, 0x00⟩

/-- SYS_SESSION_LIST: modes A, payload 0 (R515); role 0 (R475). -/
def Cmd.sysSessionList : CmdInfo := ⟨0x0140, [.minimal, .stop, .run], false, 0, 0, 0, 0x0122, none, 0x00⟩

/-- SYS_SESSION_CLOSE: modes A, payload 1 (R515); role 2 (R475). -/
def Cmd.sysSessionClose : CmdInfo := ⟨0x0141, [.minimal, .stop, .run], false, 1, 1, 2, 0x0122, some (0, 1), 0x00⟩

/-- SYS_TRUST_SET: modes S M, payload ≤4080 (R515); role 2 (R475). -/
def Cmd.sysTrustSet : CmdInfo := ⟨0x0142, [.stop, .minimal], false, 0, 4080, 2, 0x0122, none, 0x00⟩

/-- SYS_TRUST_GET: modes A, payload 0 (R515); role 0 (R475). -/
def Cmd.sysTrustGet : CmdInfo := ⟨0x0143, [.minimal, .stop, .run], false, 0, 0, 0, 0x0122, none, 0x00⟩

/-- SYS_SESS_SET: modes S M, payload 16 (R515); role 2 (R475). -/
def Cmd.sysSessSet : CmdInfo := ⟨0x0144, [.stop, .minimal], false, 16, 16, 2, 0x0122, none, 0x00⟩

/-- SYS_SESS_GET: modes A, payload 0 (R515); role 0 (R475). -/
def Cmd.sysSessGet : CmdInfo := ⟨0x0145, [.minimal, .stop, .run], false, 0, 0, 0, 0x0122, none, 0x00⟩

/-- CFG_CHAMBER_SET: modes S, payload 16 (R515); role 2 (R475). -/
def Cmd.cfgChamberSet : CmdInfo := ⟨0x0210, [.stop], false, 16, 16, 2, 0x0208, some (0, 1), 0x00⟩

/-- CFG_CHAMBER_GET: modes A, payload 1 (R515); role 0 (R475). -/
def Cmd.cfgChamberGet : CmdInfo := ⟨0x0211, [.minimal, .stop, .run], false, 1, 1, 0, 0x0122, some (0, 1), 0x00⟩

/-- CFG_POWER_SET: modes S, payload 16 (R515); role 2 (R475). -/
def Cmd.cfgPowerSet : CmdInfo := ⟨0x0220, [.stop], false, 16, 16, 2, 0x020A, none, 0x00⟩

/-- CFG_POWER_GET: modes A, payload 0 (R515); role 0 (R475). -/
def Cmd.cfgPowerGet : CmdInfo := ⟨0x0221, [.minimal, .stop, .run], false, 0, 0, 0, 0x0122, none, 0x00⟩

/-- CFG_NET_SET: modes S, payload 32 (R515); role 2 (R475). -/
def Cmd.cfgNetSet : CmdInfo := ⟨0x0230, [.stop], false, 32, 32, 2, 0x021C, none, 0x00⟩

/-- CFG_NET_GET: modes A, payload 0 (R515); role 0 (R475). -/
def Cmd.cfgNetGet : CmdInfo := ⟨0x0231, [.minimal, .stop, .run], false, 0, 0, 0, 0x0122, none, 0x00⟩

/-- PRG_TASK_SET: modes S, payload 32 (R515); role 2 (R475). -/
def Cmd.prgTaskSet : CmdInfo := ⟨0x0310, [.stop], false, 32, 32, 2, 0x0302, some (0, 1), 0x00⟩

/-- PRG_TASK_GET: modes A, payload 1 (R515); role 0 (R475). -/
def Cmd.prgTaskGet : CmdInfo := ⟨0x0311, [.minimal, .stop, .run], false, 1, 1, 0, 0x0122, some (0, 1), 0x00⟩

/-- PRG_TASK_STATUS: modes A, payload 1 (R515); role 0 (R475). -/
def Cmd.prgTaskStatus : CmdInfo := ⟨0x0312, [.minimal, .stop, .run], false, 1, 1, 0, 0x0122, some (0, 1), 0x00⟩

/-- PRG_TASK_RESUME: modes R, payload 1 (R515); role 2 (R475). -/
def Cmd.prgTaskResume : CmdInfo := ⟨0x0313, [.run], false, 1, 1, 2, 0x0122, some (0, 1), 0x00⟩

/-- PRG_TASK_CLEAR: modes A, payload 1 (R515); role 1 (R475). -/
def Cmd.prgTaskClear : CmdInfo := ⟨0x0314, [.minimal, .stop, .run], false, 1, 1, 1, 0x0122, some (0, 1), 0x00⟩

/-- PRG_REMOTE_SET: modes S, payload 16 (R515); role 2 (R475). -/
def Cmd.prgRemoteSet : CmdInfo := ⟨0x0318, [.stop], false, 16, 16, 2, 0x0302, some (0, 2), 0x00⟩

/-- PRG_REMOTE_STATUS: modes A, payload 2 (R515); role 0 (R475). -/
def Cmd.prgRemoteStatus : CmdInfo := ⟨0x0319, [.minimal, .stop, .run], false, 2, 2, 0, 0x0122, some (0, 2), 0x00⟩

/-- PRG_LANE_SPLIT: modes S R, payload 1 (R515); role 2 (R475). -/
def Cmd.prgLaneSplit : CmdInfo := ⟨0x0320, [.stop, .run], false, 1, 1, 2, 0x0122, some (0, 1), 0x00⟩

/-- PRG_LANE_JOIN: modes S R, payload 1 (R515); role 2 (R475). -/
def Cmd.prgLaneJoin : CmdInfo := ⟨0x0321, [.stop, .run], false, 1, 1, 2, 0x0122, some (0, 1), 0x00⟩

/-- PRG_LANE_STATUS: modes A, payload 1 (R515); role 0 (R475). -/
def Cmd.prgLaneStatus : CmdInfo := ⟨0x0322, [.minimal, .stop, .run], false, 1, 1, 0, 0x0122, some (0, 1), 0x00⟩

/-- PRG_TEMPER_STATUS: modes A, payload 1 (R515); role 0 (R475). -/
def Cmd.prgTemperStatus : CmdInfo := ⟨0x0323, [.minimal, .stop, .run], false, 1, 1, 0, 0x0122, some (0, 1), 0x00⟩

/-- PRG_TEMPER_CLEAR: modes A, payload 1 (R515); role 1 (R475). -/
def Cmd.prgTemperClear : CmdInfo := ⟨0x0324, [.minimal, .stop, .run], false, 1, 1, 1, 0x0122, some (0, 1), 0x00⟩

/-- PRG_IMAGE_LOAD: modes S, payload 4+≤4076 (R515); role 2 (R475). -/
def Cmd.prgImageLoad : CmdInfo := ⟨0x0330, [.stop], false, 4, 4080, 2, 0x0122, none, 0x00⟩

/-- PRG_IMAGE_INFO: modes A, payload 0 (R515); role 0 (R475). -/
def Cmd.prgImageInfo : CmdInfo := ⟨0x0331, [.minimal, .stop, .run], false, 0, 0, 0, 0x0122, none, 0x00⟩

/-- PRG_VAR_READ: modes S R, payload 8 (R515); role 0 (R475). -/
def Cmd.prgVarRead : CmdInfo := ⟨0x0340, [.stop, .run], false, 8, 8, 0, 0x0122, none, 0x00⟩

/-- PRG_VAR_WRITE: modes S R, payload 16 (R515); role 2 (R475). -/
def Cmd.prgVarWrite : CmdInfo := ⟨0x0341, [.stop, .run], false, 16, 16, 2, 0x0122, none, 0x00⟩

/-- PRG_BREAK_SET: modes R, payload 8 (R515); role 2 (R475). -/
def Cmd.prgBreakSet : CmdInfo := ⟨0x0342, [.run], false, 8, 8, 2, 0x0122, some (0, 1), 0x00⟩

/-- PRG_BREAK_CLEAR: modes S R, payload 1 (R515); role 2 (R475). -/
def Cmd.prgBreakClear : CmdInfo := ⟨0x0343, [.stop, .run], false, 1, 1, 2, 0x0122, some (0, 1), 0x00⟩

/-- PRG_BREAK_RELEASE: modes R, payload 1 (R515); role 2 (R475). -/
def Cmd.prgBreakRelease : CmdInfo := ⟨0x0344, [.run], false, 1, 1, 2, 0x0122, some (0, 1), 0x00⟩

/-- PRG_STEP: modes R, payload 2 (R515); role 2 (R475). -/
def Cmd.prgStep : CmdInfo := ⟨0x0345, [.run], false, 2, 2, 2, 0x0122, some (0, 1), 0x00⟩

/-- PRG_BREAK_STATUS: modes A, payload 0 (R515); role 0 (R475). -/
def Cmd.prgBreakStatus : CmdInfo := ⟨0x0346, [.minimal, .stop, .run], false, 0, 0, 0, 0x0122, none, 0x00⟩

/-- OLC_LOAD: modes S R, payload 4+≤4076 (R515); role 2 (R475). -/
def Cmd.olcLoad : CmdInfo := ⟨0x0410, [.stop, .run], false, 4, 4080, 2, 0x0122, none, 0x00⟩

/-- OLC_ACTIVATE: modes S R, payload 0 (R515); role 2 (R475). -/
def Cmd.olcActivate : CmdInfo := ⟨0x0411, [.stop, .run], false, 0, 0, 2, 0x0407, none, 0x00⟩

/-- OLC_ABORT: modes S R, payload 0 (R515); role 2 (R475). -/
def Cmd.olcAbort : CmdInfo := ⟨0x0412, [.stop, .run], false, 0, 0, 2, 0x0122, none, 0x00⟩

/-- OLC_STATUS: modes A, payload 0 (R515); role 0 (R475). -/
def Cmd.olcStatus : CmdInfo := ⟨0x0413, [.minimal, .stop, .run], false, 0, 0, 0, 0x0122, none, 0x00⟩

/-- OLC_FORCE_SET: modes S R, payload 16 (R515); role 2 (R475). -/
def Cmd.olcForceSet : CmdInfo := ⟨0x0420, [.stop, .run], false, 16, 16, 2, 0x0122, none, 0x00⟩

/-- OLC_FORCE_RELEASE: modes S R, payload 4 (R515); role 2 (R475). -/
def Cmd.olcForceRelease : CmdInfo := ⟨0x0421, [.stop, .run], false, 4, 4, 2, 0x0122, none, 0x00⟩

/-- OLC_FORCE_RELEASE_ALL: modes S R, payload 0 (R515); role 2 (R475). -/
def Cmd.olcForceReleaseAll : CmdInfo := ⟨0x0422, [.stop, .run], false, 0, 0, 2, 0x0122, none, 0x00⟩

/-- OLC_FORCE_LIST: modes A, payload 1 (R515); role 0 (R475). -/
def Cmd.olcForceList : CmdInfo := ⟨0x0423, [.minimal, .stop, .run], false, 1, 1, 0, 0x0122, none, 0x00⟩

/-- LOOP_SET: modes S, payload 64 (R515); role 2 (R475). -/
def Cmd.loopSet : CmdInfo := ⟨0x0510, [.stop], false, 64, 64, 2, 0x0502, some (0, 1), 0x00⟩

/-- LOOP_GET: modes A, payload 1 (R515); role 0 (R475). -/
def Cmd.loopGet : CmdInfo := ⟨0x0511, [.minimal, .stop, .run], false, 1, 1, 0, 0x0122, some (0, 1), 0x00⟩

/-- LOOP_SWAP_BANK: modes S R, payload 1 (R515); role 1 (R475). -/
def Cmd.loopSwapBank : CmdInfo := ⟨0x0512, [.stop, .run], false, 1, 1, 1, 0x0122, some (0, 1), 0x00⟩

/-- LOOP_BANK_WRITE: modes S R, payload 132 (R515); role 2 (R475). -/
def Cmd.loopBankWrite : CmdInfo := ⟨0x0513, [.stop, .run], false, 132, 132, 2, 0x0122, some (0, 1), 0x00⟩

/-- LOOP_BANK_READ: modes A, payload 2 (R515); role 0 (R475). -/
def Cmd.loopBankRead : CmdInfo := ⟨0x0514, [.minimal, .stop, .run], false, 2, 2, 0, 0x0122, some (0, 1), 0x00⟩

/-- LOOP_MODE: modes R, payload 4 (R515); role 1 (R475). -/
def Cmd.loopMode : CmdInfo := ⟨0x0515, [.run], false, 4, 4, 1, 0x0122, some (0, 1), 0x00⟩

/-- LOOP_RESET_TRIP: modes R, payload 1 (R515); role 1 (R475). -/
def Cmd.loopResetTrip : CmdInfo := ⟨0x0516, [.run], false, 1, 1, 1, 0x0122, some (0, 1), 0x00⟩

/-- LOOP_STATUS: modes A, payload 1 (R515); role 0 (R475). -/
def Cmd.loopStatus : CmdInfo := ⟨0x0517, [.minimal, .stop, .run], false, 1, 1, 0, 0x0122, some (0, 1), 0x00⟩

/-- LOOP_CLEAR: modes A, payload 2 (R515); role 1 (R475). -/
def Cmd.loopClear : CmdInfo := ⟨0x0518, [.minimal, .stop, .run], false, 2, 2, 1, 0x0122, some (0, 1), 0x00⟩

/-- LOOP_ENGINE_STATUS: modes A, payload 0 (R515); role 0 (R475). -/
def Cmd.loopEngineStatus : CmdInfo := ⟨0x0519, [.minimal, .stop, .run], false, 0, 0, 0, 0x0122, none, 0x00⟩

/-- CRU_SLOT_SET: modes S, payload 64 (R515); role 2 (R475). -/
def Cmd.cruSlotSet : CmdInfo := ⟨0x0610, [.stop], false, 64, 64, 2, 0x0602, some (0, 1), 0x00⟩

/-- CRU_SLOT_GET: modes A, payload 1 (R515); role 0 (R475). -/
def Cmd.cruSlotGet : CmdInfo := ⟨0x0611, [.minimal, .stop, .run], false, 1, 1, 0, 0x0122, some (0, 1), 0x00⟩

/-- CRU_PATTERN_LOAD: modes S, payload 8+≤4072 (R515); role 2 (R475). -/
def Cmd.cruPatternLoad : CmdInfo := ⟨0x0612, [.stop], false, 8, 4080, 2, 0x0602, some (0, 1), 0x00⟩

/-- CRU_ANALYSE: modes S, payload 1 (R515); role 2 (R475). -/
def Cmd.cruAnalyse : CmdInfo := ⟨0x0613, [.stop], false, 1, 1, 2, 0x0602, some (0, 1), 0x00⟩

/-- CRU_SLOT_INFO: modes A, payload 1 (R515); role 0 (R475). -/
def Cmd.cruSlotInfo : CmdInfo := ⟨0x0614, [.minimal, .stop, .run], false, 1, 1, 0, 0x0122, some (0, 1), 0x00⟩

/-- CRU_JOB_SUBMIT: modes R, payload 12 (R515); role 1 (R475). -/
def Cmd.cruJobSubmit : CmdInfo := ⟨0x0615, [.run], false, 12, 12, 1, 0x0122, some (0, 1), 0x00⟩

/-- CRU_RESULT_READ: modes A, payload 8 (R515); role 0 (R475). -/
def Cmd.cruResultRead : CmdInfo := ⟨0x0616, [.minimal, .stop, .run], false, 8, 8, 0, 0x0122, some (0, 1), 0x00⟩

/-- CRU_STATUS: modes A, payload 0 (R515); role 0 (R475). -/
def Cmd.cruStatus : CmdInfo := ⟨0x0617, [.minimal, .stop, .run], false, 0, 0, 0, 0x0122, none, 0x00⟩

/-- CRU_CLEAR: modes A, payload 0 (R515); role 1 (R475). -/
def Cmd.cruClear : CmdInfo := ⟨0x0618, [.minimal, .stop, .run], false, 0, 0, 1, 0x0122, none, 0x00⟩

/-- CRU_QP_SET: modes S, payload 72 (R515); role 2 (R475). -/
def Cmd.cruQpSet : CmdInfo := ⟨0x0619, [.stop], false, 72, 72, 2, 0x0602, some (0, 1), 0x00⟩

/-- CRU_QP_GET: modes A, payload 1 (R515); role 0 (R475). -/
def Cmd.cruQpGet : CmdInfo := ⟨0x061A, [.minimal, .stop, .run], false, 1, 1, 0, 0x0122, some (0, 1), 0x00⟩

/-- CRU_QP_INFO: modes A, payload 1 (R515); role 0 (R475). -/
def Cmd.cruQpInfo : CmdInfo := ⟨0x061B, [.minimal, .stop, .run], false, 1, 1, 0, 0x0122, some (0, 1), 0x00⟩

/-- CRU_INPUT_WRITE: modes R, payload 8+≤4072 (R515); role 1 (R475). -/
def Cmd.cruInputWrite : CmdInfo := ⟨0x061C, [.run], false, 8, 4080, 1, 0x0122, some (0, 1), 0x00⟩

/-- FIO_DIO_SET: modes S, payload 16 (R515); role 2 (R475). -/
def Cmd.fioDioSet : CmdInfo := ⟨0x0710, [.stop], false, 16, 16, 2, 0x0702, some (0, 1), 0x00⟩

/-- FIO_DIO_GET: modes A, payload 1 (R515); role 0 (R475). -/
def Cmd.fioDioGet : CmdInfo := ⟨0x0711, [.minimal, .stop, .run], false, 1, 1, 0, 0x0122, some (0, 1), 0x00⟩

/-- FIO_DIO_STATUS: modes A, payload 1 (R515); role 0 (R475). -/
def Cmd.fioDioStatus : CmdInfo := ⟨0x0712, [.minimal, .stop, .run], false, 1, 1, 0, 0x0122, some (0, 1), 0x00⟩

/-- FIO_GROUP_STATUS: modes A, payload 1 (R515); role 0 (R475). -/
def Cmd.fioGroupStatus : CmdInfo := ⟨0x0713, [.minimal, .stop, .run], false, 1, 1, 0, 0x0122, some (0, 1), 0x40⟩

/-- FIO_GROUP_RESET: modes S R, payload 1 (R515); role 1 (R475). -/
def Cmd.fioGroupReset : CmdInfo := ⟨0x0714, [.stop, .run], false, 1, 1, 1, 0x0122, some (0, 1), 0x40⟩

/-- FIO_DIO_UNLATCH: modes S R, payload 1 (R515); role 1 (R475). -/
def Cmd.fioDioUnlatch : CmdInfo := ⟨0x0715, [.stop, .run], false, 1, 1, 1, 0x0122, some (0, 1), 0x00⟩

/-- FIO_DIO_CLEAR: modes A, payload 1 (R515); role 1 (R475). -/
def Cmd.fioDioClear : CmdInfo := ⟨0x0716, [.minimal, .stop, .run], false, 1, 1, 1, 0x0122, some (0, 1), 0x00⟩

/-- FIO_AIO_SET: modes S, payload 16 (R515); role 2 (R475). -/
def Cmd.fioAioSet : CmdInfo := ⟨0x0720, [.stop], false, 16, 16, 2, 0x0702, some (0, 1), 0x20⟩

/-- FIO_AIO_GET: modes A, payload 1 (R515); role 0 (R475). -/
def Cmd.fioAioGet : CmdInfo := ⟨0x0721, [.minimal, .stop, .run], false, 1, 1, 0, 0x0122, some (0, 1), 0x20⟩

/-- FIO_AIO_STATUS: modes A, payload 1 (R515); role 0 (R475). -/
def Cmd.fioAioStatus : CmdInfo := ⟨0x0722, [.minimal, .stop, .run], false, 1, 1, 0, 0x0122, some (0, 1), 0x20⟩

/-- FIO_AIO_TRIM_SET: modes S, payload 20 (R515); role 2 (R475). -/
def Cmd.fioAioTrimSet : CmdInfo := ⟨0x0723, [.stop], false, 20, 20, 2, 0x0702, some (0, 1), 0x20⟩

/-- FIO_AIO_TRIM_GET: modes A, payload 2 (R515); role 0 (R475). -/
def Cmd.fioAioTrimGet : CmdInfo := ⟨0x0724, [.minimal, .stop, .run], false, 2, 2, 0, 0x0122, some (0, 1), 0x20⟩

/-- FIO_AIO_TRIM_DRIVE: modes S, payload 2 (R515); role 2 (R475). -/
def Cmd.fioAioTrimDrive : CmdInfo := ⟨0x0725, [.stop], false, 2, 2, 2, 0x0702, some (0, 1), 0x20⟩

/-- FIO_AIO_TRIM_REMOVE: modes S, payload 2 (R515); role 2 (R475). -/
def Cmd.fioAioTrimRemove : CmdInfo := ⟨0x0726, [.stop], false, 2, 2, 2, 0x0702, some (0, 1), 0x20⟩

/-- FIO_AIO_CLEAR: modes A, payload 1 (R515); role 1 (R475). -/
def Cmd.fioAioClear : CmdInfo := ⟨0x0727, [.minimal, .stop, .run], false, 1, 1, 1, 0x0122, some (0, 1), 0x20⟩

/-- SAFE_PARAM_LOAD: modes S, payload 836 (R515); role 3 (R475). -/
def Cmd.safeParamLoad : CmdInfo := ⟨0x0810, [.stop], false, 836, 836, 3, 0x0802, none, 0x00⟩

/-- SAFE_PARAM_READ: modes A, payload 1 (R515); role 0 (R475). -/
def Cmd.safeParamRead : CmdInfo := ⟨0x0811, [.minimal, .stop, .run], false, 1, 1, 0, 0x0122, none, 0x00⟩

/-- SAFE_SIGN_OFF: modes S, payload 8 (R515); role 3 (R475). -/
def Cmd.safeSignOff : CmdInfo := ⟨0x0812, [.stop], false, 8, 8, 3, 0x0802, none, 0x00⟩

/-- SAFE_STATUS: modes A, payload 0 (R515); role 0 (R475). -/
def Cmd.safeStatus : CmdInfo := ⟨0x0813, [.minimal, .stop, .run], false, 0, 0, 0, 0x0122, none, 0x00⟩

/-- SAFE_RESET: modes S R, payload 2 (R515); role 3 (R475). -/
def Cmd.safeReset : CmdInfo := ⟨0x0814, [.stop, .run], false, 2, 2, 3, 0x0122, none, 0x00⟩

/-- SAFE_BRAKE_TEST: modes R, payload 1 (R515); role 3 (R475). -/
def Cmd.safeBrakeTest : CmdInfo := ⟨0x0815, [.run], false, 1, 1, 3, 0x0122, some (0, 1), 0x00⟩

/-- SAFE_CLEAR: modes A, payload 0 (R515); role 1 (R475). -/
def Cmd.safeClear : CmdInfo := ⟨0x0816, [.minimal, .stop, .run], false, 0, 0, 1, 0x0122, none, 0x00⟩

/-- MOT_AXIS_SET: modes S, payload 64 (R515); role 2 (R475). -/
def Cmd.motAxisSet : CmdInfo := ⟨0x0910, [.stop], false, 64, 64, 2, 0x0902, some (0, 1), 0x00⟩

/-- MOT_AXIS_GET: modes A, payload 1 (R515); role 0 (R475). -/
def Cmd.motAxisGet : CmdInfo := ⟨0x0911, [.minimal, .stop, .run], false, 1, 1, 0, 0x0122, some (0, 1), 0x00⟩

/-- MOT_ENC_SET: modes S, payload 16 (R515); role 2 (R475). -/
def Cmd.motEncSet : CmdInfo := ⟨0x0912, [.stop], false, 16, 16, 2, 0x0902, some (0, 1), 0x00⟩

/-- MOT_ENC_GET: modes A, payload 1 (R515); role 0 (R475). -/
def Cmd.motEncGet : CmdInfo := ⟨0x0913, [.minimal, .stop, .run], false, 1, 1, 0, 0x0122, some (0, 1), 0x00⟩

/-- MOT_TABLE_LOAD: modes S R, payload 1040 (R515); role 2 (R475). -/
def Cmd.motTableLoad : CmdInfo := ⟨0x0914, [.stop, .run], false, 1040, 1040, 2, 0x0122, some (0, 1), 0x00⟩

/-- MOT_TABLE_READ: modes A, payload 1 (R515); role 0 (R475). -/
def Cmd.motTableRead : CmdInfo := ⟨0x0915, [.minimal, .stop, .run], false, 1, 1, 0, 0x0122, some (0, 1), 0x00⟩

/-- MOT_STATUS: modes A, payload 1 (R515); role 0 (R475). -/
def Cmd.motStatus : CmdInfo := ⟨0x0916, [.minimal, .stop, .run], false, 1, 1, 0, 0x0122, some (0, 1), 0x00⟩

/-- MOT_CLEAR: modes A, payload 1 (R515); role 1 (R475). -/
def Cmd.motClear : CmdInfo := ⟨0x0917, [.minimal, .stop, .run], false, 1, 1, 1, 0x0122, some (0, 1), 0x00⟩

/-- CAN_CTRL_SET: modes S, payload 32 (R515); role 2 (R475). -/
def Cmd.canCtrlSet : CmdInfo := ⟨0x0A10, [.stop], false, 32, 32, 2, 0x0A02, some (0, 1), 0x00⟩

/-- CAN_CTRL_GET: modes A, payload 1 (R515); role 0 (R475). -/
def Cmd.canCtrlGet : CmdInfo := ⟨0x0A11, [.minimal, .stop, .run], false, 1, 1, 0, 0x0122, some (0, 1), 0x00⟩

/-- CAN_FILTER_SET: modes S, payload 16 (R515); role 2 (R475). -/
def Cmd.canFilterSet : CmdInfo := ⟨0x0A12, [.stop], false, 16, 16, 2, 0x0A02, some (1, 1), 0x00⟩

/-- CAN_OBJECT_SET: modes S, payload 16 (R515); role 2 (R475). -/
def Cmd.canObjectSet : CmdInfo := ⟨0x0A13, [.stop], false, 16, 16, 2, 0x0A02, some (2, 1), 0x00⟩

/-- CAN_RECOVER: modes S R, payload 1 (R515); role 1 (R475). -/
def Cmd.canRecover : CmdInfo := ⟨0x0A14, [.stop, .run], false, 1, 1, 1, 0x0122, some (0, 1), 0x00⟩

/-- CAN_STATUS: modes A, payload 1 (R515); role 0 (R475). -/
def Cmd.canStatus : CmdInfo := ⟨0x0A15, [.minimal, .stop, .run], false, 1, 1, 0, 0x0122, some (0, 1), 0x00⟩

/-- CAN_TX_ONCE: modes R, payload 84 (R515); role 1 (R475). -/
def Cmd.canTxOnce : CmdInfo := ⟨0x0A16, [.run], false, 84, 84, 1, 0x0122, some (0, 1), 0x00⟩

/-- CAN_CLEAR: modes A, payload 1 (R515); role 1 (R475). -/
def Cmd.canClear : CmdInfo := ⟨0x0A17, [.minimal, .stop, .run], false, 1, 1, 1, 0x0122, some (0, 1), 0x00⟩

/-- TIME_PTP_SET: modes S, payload 32 (R515); role 2 (R475). -/
def Cmd.timePtpSet : CmdInfo := ⟨0x0B10, [.stop], false, 32, 32, 2, 0x0B02, none, 0x00⟩

/-- TIME_PTP_GET: modes A, payload 0 (R515); role 0 (R475). -/
def Cmd.timePtpGet : CmdInfo := ⟨0x0B11, [.minimal, .stop, .run], false, 0, 0, 0, 0x0122, none, 0x00⟩

/-- TIME_STATUS: modes A, payload 0 (R515); role 0 (R475). -/
def Cmd.timeStatus : CmdInfo := ⟨0x0B12, [.minimal, .stop, .run], false, 0, 0, 0, 0x0122, none, 0x00⟩

/-- TIME_CMP_SET: modes S R, payload 32 (R515); role 2 (R475). -/
def Cmd.timeCmpSet : CmdInfo := ⟨0x0B13, [.stop, .run], false, 32, 32, 2, 0x0122, some (0, 1), 0x00⟩

/-- TIME_CMP_GET: modes A, payload 1 (R515); role 0 (R475). -/
def Cmd.timeCmpGet : CmdInfo := ⟨0x0B14, [.minimal, .stop, .run], false, 1, 1, 0, 0x0122, some (0, 1), 0x00⟩

/-- TIME_TCI_SET: modes S, payload 8 (R515); role 2 (R475). -/
def Cmd.timeTciSet : CmdInfo := ⟨0x0B15, [.stop], false, 8, 8, 2, 0x0B02, some (0, 1), 0x00⟩

/-- TIME_RTC_READ: modes A, payload 0 (R515); role 0 (R475). -/
def Cmd.timeRtcRead : CmdInfo := ⟨0x0B16, [.minimal, .stop, .run], false, 0, 0, 0, 0x0122, none, 0x00⟩

/-- TIME_RTC_SET: modes A, payload 10 (R515); role 1 (R475). -/
def Cmd.timeRtcSet : CmdInfo := ⟨0x0B17, [.minimal, .stop, .run], false, 10, 10, 1, 0x0122, none, 0x00⟩

/-- TIME_RTC_SHIFT: modes A, payload 2 (R515); role 1 (R475). -/
def Cmd.timeRtcShift : CmdInfo := ⟨0x0B18, [.minimal, .stop, .run], false, 2, 2, 1, 0x0122, none, 0x00⟩

/-- TIME_RTC_ALARM: modes A, payload 11 (R515); role 1 (R475). -/
def Cmd.timeRtcAlarm : CmdInfo := ⟨0x0B19, [.minimal, .stop, .run], false, 11, 11, 1, 0x0122, none, 0x00⟩

/-- TIME_RTC_WAKE: modes A, payload 4 (R515); role 1 (R475). -/
def Cmd.timeRtcWake : CmdInfo := ⟨0x0B1A, [.minimal, .stop, .run], false, 4, 4, 1, 0x0122, none, 0x00⟩

/-- TIME_CLEAR: modes A, payload 2 (R515); role 1 (R475). -/
def Cmd.timeClear : CmdInfo := ⟨0x0B1B, [.minimal, .stop, .run], false, 2, 2, 1, 0x0122, none, 0x00⟩

/-- PAIR_SET: modes S, payload 16 (R515); role 2 (R475). -/
def Cmd.pairSet : CmdInfo := ⟨0x0C10, [.stop], false, 16, 16, 2, 0x0C02, none, 0x00⟩

/-- PAIR_GET: modes A, payload 0 (R515); role 0 (R475). -/
def Cmd.pairGet : CmdInfo := ⟨0x0C11, [.minimal, .stop, .run], false, 0, 0, 0, 0x0122, none, 0x00⟩

/-- PAIR_STATUS: modes A, payload 0 (R515); role 0 (R475). -/
def Cmd.pairStatus : CmdInfo := ⟨0x0C12, [.minimal, .stop, .run], false, 0, 0, 0, 0x0122, none, 0x00⟩

/-- PAIR_SWAP: modes R, payload 0 (R515); role 1 (R475). -/
def Cmd.pairSwap : CmdInfo := ⟨0x0C13, [.run], false, 0, 0, 1, 0x0122, none, 0x00⟩

/-- PAIR_READMIT: modes A, payload 0 (R515); role 2 (R475). -/
def Cmd.pairReadmit : CmdInfo := ⟨0x0C14, [.minimal, .stop, .run], false, 0, 0, 2, 0x0122, none, 0x00⟩

/-- PAIR_CLEAR: modes A, payload 1 (R515); role 1 (R475). -/
def Cmd.pairClear : CmdInfo := ⟨0x0C15, [.minimal, .stop, .run], false, 1, 1, 1, 0x0122, none, 0x00⟩

/-- FLOW_SET: modes S, payload 16 (R515); role 2 (R475). -/
def Cmd.flowSet : CmdInfo := ⟨0x0D10, [.stop], false, 16, 16, 2, 0x0D02, none, 0x00⟩

/-- FLOW_GET: modes A, payload 0 (R515); role 0 (R475). -/
def Cmd.flowGet : CmdInfo := ⟨0x0D11, [.minimal, .stop, .run], false, 0, 0, 0, 0x0122, none, 0x00⟩

/-- FLOW_FLUSH: modes A, payload 0 (R515); role 1 (R475). -/
def Cmd.flowFlush : CmdInfo := ⟨0x0D12, [.minimal, .stop, .run], false, 0, 0, 1, 0x0122, none, 0x00⟩

/-- FLOW_STATUS: modes A, payload 0 (R515); role 0 (R475). -/
def Cmd.flowStatus : CmdInfo := ⟨0x0D13, [.minimal, .stop, .run], false, 0, 0, 0, 0x0122, none, 0x00⟩

/-- FLOW_READ: modes A, payload 10 (R515); role 0 (R475). -/
def Cmd.flowRead : CmdInfo := ⟨0x0D14, [.minimal, .stop, .run], false, 10, 10, 0, 0x0122, none, 0x00⟩

/-- FLOW_EXPORT: modes A, payload 24 (R515); role 0 (R475). -/
def Cmd.flowExport : CmdInfo := ⟨0x0D15, [.minimal, .stop, .run], false, 24, 24, 0, 0x0122, none, 0x00⟩

/-- FLOW_CLEAR: modes A, payload 0 (R515); role 1 (R475). -/
def Cmd.flowClear : CmdInfo := ⟨0x0D16, [.minimal, .stop, .run], false, 0, 0, 1, 0x0122, none, 0x00⟩

/-- FLOW_NOTE: modes S R M, payload 36 (R515); role 1 (R475). -/
def Cmd.flowNote : CmdInfo := ⟨0x0D17, [.stop, .run, .minimal], false, 36, 36, 1, 0x0122, none, 0x00⟩

/-- PNL_SET: modes S, payload 16 (R515); role 2 (R475). -/
def Cmd.pnlSet : CmdInfo := ⟨0x0E10, [.stop], false, 16, 16, 2, 0x0E02, none, 0x00⟩

/-- PNL_GET: modes A, payload 0 (R515); role 0 (R475). -/
def Cmd.pnlGet : CmdInfo := ⟨0x0E11, [.minimal, .stop, .run], false, 0, 0, 0, 0x0122, none, 0x00⟩

/-- PNL_WAVE_LOAD: modes S, payload 4+≤4076 (R515); role 2 (R475). -/
def Cmd.pnlWaveLoad : CmdInfo := ⟨0x0E12, [.stop], false, 4, 4080, 2, 0x0E02, none, 0x00⟩

/-- PNL_DRAW: modes S R M, payload 12+≤4068 (R515); role 1 (R475). -/
def Cmd.pnlDraw : CmdInfo := ⟨0x0E13, [.stop, .run, .minimal], false, 12, 4080, 1, 0x0122, none, 0x00⟩

/-- PNL_UPDATE: modes S R M, payload 9 (R515); role 1 (R475). -/
def Cmd.pnlUpdate : CmdInfo := ⟨0x0E14, [.stop, .run, .minimal], false, 9, 9, 1, 0x0122, none, 0x00⟩

/-- PNL_STATUS: modes A, payload 0 (R515); role 0 (R475). -/
def Cmd.pnlStatus : CmdInfo := ⟨0x0E15, [.minimal, .stop, .run], false, 0, 0, 0, 0x0122, none, 0x00⟩

/-- PNL_CLEAR: modes A, payload 0 (R515); role 1 (R475). -/
def Cmd.pnlClear : CmdInfo := ⟨0x0E16, [.minimal, .stop, .run], false, 0, 0, 1, 0x0122, none, 0x00⟩

/-- DIAG_GROTTO_STATUS: modes A, payload 0 (R515); role 0 (R475). -/
def Cmd.diagGrottoStatus : CmdInfo := ⟨0x0F10, [.minimal, .stop, .run], false, 0, 0, 0, 0x0122, none, 0x00⟩

/-- DIAG_GROTTO_CLEAR: modes A, payload 0 (R515); role 1 (R475). -/
def Cmd.diagGrottoClear : CmdInfo := ⟨0x0F11, [.minimal, .stop, .run], false, 0, 0, 1, 0x0122, none, 0x00⟩

/-- DIAG_POWER_STATUS: modes A, payload 0 (R515); role 0 (R475). -/
def Cmd.diagPowerStatus : CmdInfo := ⟨0x0F20, [.minimal, .stop, .run], false, 0, 0, 0, 0x0122, none, 0x00⟩

/-- DIAG_POWER_CLEAR: modes A, payload 0 (R515); role 1 (R475). -/
def Cmd.diagPowerClear : CmdInfo := ⟨0x0F21, [.minimal, .stop, .run], false, 0, 0, 1, 0x0122, none, 0x00⟩

/-- DIAG_NET_STATUS: modes A, payload 0 (R515); role 0 (R475). -/
def Cmd.diagNetStatus : CmdInfo := ⟨0x0F30, [.minimal, .stop, .run], false, 0, 0, 0, 0x0122, none, 0x00⟩

end Sys2Proof.Machine
end

