-- ==== Sys2Proof/Machine/Operands.lean ====
section
/-! DEFINITION. The operand of every mailbox command: what its request carries, the checks of the mailbox layer
(R475, R477, R514), and its reply (R465, R466, R470). -/

namespace Sys2Proof.Machine

/-! ### Payload fields -/

/-- The U8 of a request's payload at an offset. -/
def Request.u8 (rq : Request) (off : Nat) : Nat := Machine.u8 rq.payload off
/-- The U16 of a request's payload at an offset. -/
def Request.u16 (rq : Request) (off : Nat) : Nat := Machine.u16 rq.payload off
/-- The U32 of a request's payload at an offset. -/
def Request.u32 (rq : Request) (off : Nat) : Nat := Machine.u32 rq.payload off
/-- The U64 of a request's payload at an offset. -/
def Request.u64 (rq : Request) (off : Nat) : Nat := Machine.u64 rq.payload off

/-- The number of the task, slot, channel or other that a request is about, where its payload names
one; 0xFFFF where it names none (R451, R521). -/
def CmdInfo.inst (e : CmdInfo) (rq : Request) : Nat :=
  match e.instAt with
  | some (off, n) => if off + n ≤ rq.payload.length then leAt rq.payload off n else 0xFFFF
  | none => 0xFFFF

/-- SRC_INST of a record about that number (R408). -/
def CmdInfo.srcInst (e : CmdInfo) (inst : Nat) : Nat :=
  if inst = 0xFFFF then 0xFF else (inst + e.base) % 256

/-- A number lies in a range. -/
def between (lo n hi : Nat) : Bool := lo ≤ n && n ≤ hi

/-! ### Replies -/

/-- The bytes of a reply message: the header of R465, then the payload. -/
def replyBytes (code tag session : Nat) (rxTs : BitVec 64) (payload : List Byte) : List Byte :=
  leBytes 2 code ++ leBytes 2 tag ++ leBytes 2 payload.length ++ leBytes 1 session ++ leBytes 1 1
    ++ leBytes 8 rxTs.toNat ++ payload

/-- The payload of a reply: the reason code, two reserved bytes, then what follows them (R466). -/
def replyPayload (reason : Nat) (body : List Byte) : List Byte := leBytes 2 reason ++ [0#8, 0#8] ++ body

/-- A mailbox takes a reply: its content is overwritten and it is DONE (R467). -/
def Mailbox.answer (m : Mailbox) (bytes : List Byte) : Mailbox := { m with data := m.data.write 0 bytes, state := .done, appAt := none }

/-- The session's counts after one reply: OUTSTANDING falls, and REFUSED_COUNT rises with a code other
than 0x0000 (R480). -/
def Session.answered (x : Session) (reason : Nat) : Session :=
  { x with outstanding := x.outstanding - 1,
           entry := if reason = 0 then x.entry else { x.entry with REFUSED_COUNT := sat x.entry.REFUSED_COUNT } }

/-- The reply to a request is written: into its mailbox, which is DONE with MB_DONE set, or to its
session while it is open (R466, R467). -/
def State.deliver (s : State) (e : CmdInfo) (rq : Request) (reason : Nat) (body : List Byte) : State :=
  let p := replyPayload reason body
  let s := { s with host.session := upd s.host.session rq.session fun x => x.answered reason }
  match rq.mailbox with
  | some n =>
    ({ s with host.mb := upd s.host.mb n fun m => m.answer (replyBytes e.code rq.tag.toNat rq.session.val rq.rxTs p) }).raise (irqMbDone n)
  | none =>
    if (s.host.session.get rq.session).open_ then
      { s with host.replies := ⟨rq.session, none, BitVec.ofNat 16 e.code, rq.tag, rq.rxTs, p⟩ :: s.host.replies }
    else s

/-- The reply to a request; it is dropped where the request's session has closed since it was taken (R474). -/
def State.reply (s : State) (e : CmdInfo) (rq : Request) (reason : Nat) (body : List Byte) : State :=
  if s.host.orphans.contains rq then { s with host.orphans := s.host.orphans.erase rq } else s.deliver e rq reason body

/-- The NOTICE record of a refused command that changes state (R521). -/
def State.noteRefusal (s : State) (e : CmdInfo) (rq : Request) (reason inst item : Nat) : State :=
  if e.role = 0 then s
  else s.recordAt
    { sev := 2, code := reason, inst := e.srcInst inst, session := rq.session.val,
      payload := leBytes 2 e.code ++ leBytes 2 rq.tag.toNat ++ leBytes 2 inst ++ [0#8, 0#8] ++ leBytes 4 item } s.ts

/-- A refusal: its reply of four bytes, and its record (R466, R521). -/
def State.refuse (s : State) (e : CmdInfo) (rq : Request) (reason inst item : Nat) : State :=
  (s.noteRefusal e rq reason inst item).reply e rq reason []

/-! ### The mailbox layer -/

/-- Some command may be served now: not in the phases of BOOT but for ROM recovery, where the host port
alone is served, in HALT only while the supervisor runs, and not in a power-fail sequence (R62, R439, R441, R447). -/
def State.serves (s : State) (session : Fin 17) : Bool :=
  s.pow.pfStage == .idle &&
  match s.sys.mode with
  | .minimal | .stop | .run => true
  | .halt => !s.sys.supervisorDead
  | .boot => s.sys.phase == .recovery && session == 0
  | .off => false

/-- The command is permitted in the present mode (R513, R441). (log 165) -/
def CmdInfo.modeOk (e : CmdInfo) (s : State) : Bool :=
  if s.sys.mode = .boot then e.rom else e.modes.contains s.sys.mode

/-- The session's role is enough (R475); in ROM recovery R441 decides alone. -/
def CmdInfo.roleOk (e : CmdInfo) (rq : Request) (s : State) : Bool :=
  s.sys.mode == .boot || e.role ≤ (s.host.session.get rq.session).role.val

/-- The code of a role that is too low: SAFE_ROLE for safety commands (R475, R514). -/
def CmdInfo.roleCode (e : CmdInfo) : Nat := if e.role = 3 then 0x0801 else 0x0108

/-- Bytes of the MBX quota that waiting messages and their headers take (R42, R473). -/
def State.mbxUsed (s : State) : Nat := (s.host.waiting.map fun w => 16 + w.rq.payload.length).sum

/-- A ninth request of a session, or a request that finds the MBX quota full (R473). -/
def State.queueFull (s : State) (rq : Request) : Bool :=
  (rq.session != 0 && 8 < (s.host.session.get rq.session).outstanding) || (s.gro.act.get 9).QUOTA_KIB.toNat * 1024 < s.mbxUsed

/-- The first code of R477 that refuses a request, if any. (log 164) -/
def CmdInfo.check (e : CmdInfo) (rq : Request) (s : State) : Option Nat :=
  if rq.payload.length < e.least || e.most < rq.payload.length then some 0x0107
  else if !e.modeOk s then some e.lock
  else if !e.roleOk rq s then some e.roleCode
  else if s.queueFull rq then some 0x0106
  else none

/-- What a command's own meaning answers once the mailbox layer has let it pass: done with what follows
the reason code, refused with a code and what R451 or its payload names, refused with an effect or with
more than four bytes, or answered later. -/
inductive Served where
  | done (s : State) (body : List Byte)
  | refuse (reason inst item : Nat)
  | refuseIn (s : State) (reason inst item : Nat) (body : List Byte)
  | later (s : State)

/-- The first refusal whose condition holds, else `k`. -/
def refuseIf (c : Bool) (reason inst : Nat) (k : Served) (item : Nat := 0) : Served :=
  if c then .refuse reason inst item else k

/-- A request is served: the checks of R477, then the command's own, then its effect and its reply. (log 164) -/
def serve (e : CmdInfo) (rq : Request) (s : State) (own : State → Served) : State :=
  match e.check rq s with
  | some c => s.refuse e rq c (e.inst rq) 0
  | none =>
    match own s with
    | .done s body => s.reply e rq 0 body
    | .refuse c inst item => s.refuse e rq c inst item
    | .refuseIn s c inst item body => (s.noteRefusal e rq c inst item).reply e rq c body
    | .later s => s

/-- A request arrives: it counts for its session (R480). -/
def State.receive (s : State) (rq : Request) : State :=
  { s with host.session := upd s.host.session rq.session fun x =>
      { x with outstanding := x.outstanding + 1, lastAt := s.now, entry := { x.entry with REQ_COUNT := sat x.entry.REQ_COUNT } } }

/-- A command of the table: a request that arrives and is taken at once, by the meaning of its
command; where nothing is served it waits for no one and is lost (R439, R447). -/
def State.command (s : State) (rq : Request) (meaning : Request → State → State) : State :=
  if s.serves rq.session then meaning rq (s.receive rq) else s

end Sys2Proof.Machine
end

