-- ==== Sys2Proof/Machine/PanelUnit.lean ====
section
/-! DEFINITION. The status panel (R421 to R435): waveforms, bands, updates, the journal and the commands. -/

namespace Sys2Proof.Machine

/-! ### Pixels and waveforms -/

/-- Bytes of the waveform set: eight headers and eight tables of 272 waveforms, 16 bytes each. -/
def waveBytes : Nat := 34944

/-- Two pixels share a byte, the one with even X in the low nibble, rows of 512 bytes (log 20). -/
def pixelGet (m : Memory) (x y : Nat) : BitVec 4 := BitVec.ofNat 4 ((m.get (512 * y + x / 2)).toNat / (if x % 2 = 0 then 1 else 16))

/-- A pixel written. -/
def pixelSet (m : Memory) (x y : Nat) (v : BitVec 4) : Memory :=
  let a := 512 * y + x / 2
  let b := (m.get a).toNat
  m.set a (BitVec.ofNat 8 (if x % 2 = 0 then b / 16 * 16 + v.toNat else v.toNat * 16 + b % 16))

/-- The pixels of a rectangle, row by row. -/
def rectPixels (x y w h : Nat) : List (Nat × Nat) :=
  (List.range h).flatMap fun j => (List.range w).map fun i => (x + i, y + j)

/-- The levels of a rectangle. -/
def rectGet (m : Memory) (x y w h : Nat) : List (BitVec 4) := (rectPixels x y w h).map fun p => pixelGet m p.1 p.2

/-- A rectangle's levels written. -/
def rectSet (m : Memory) (x y w h : Nat) (levels : List (BitVec 4)) : Memory :=
  ((rectPixels x y w h).zip levels).foldl (fun m p => pixelSet m p.1.1 p.1.2 p.2) m

/-- The frame codes of a waveform's 16 bytes, lowest bits first (R424, log 20). -/
def waveCodes (bs : List Byte) : List Nat := (List.range 64).map fun j => ofLe bs / 4 ^ j % 4

/-- The frames of a waveform: it ends at its first code 11 (R424). -/
def waveFrames (bs : List Byte) : List Nat := (waveCodes bs).takeWhile (· != 3)

/-- What one frame adds to the drive sum: +1 for VPOS, −1 for VNEG (R424). -/
def driveOf (c : Nat) : Int := if c = 1 then 1 else if c = 2 then -1 else 0

/-- Every partial sum lies within ±2 and the whole sum is 0 (R425). -/
def waveBalanced (acc : Int) : List Nat → Bool
  | [] => acc == 0
  | c :: r => let a := acc + driveOf c; (-2 ≤ a && a ≤ 2) && waveBalanced a r

/-- The 16 bytes of entry `e` of a band's table: 256 transitions by previous and next level, then 16
clean waveforms (R424). -/
def waveAt (waves : Memory) (band e : Nat) : List Byte := waves.read (128 + 4352 * band + 16 * e) 16

/-- The first waveform of the set that fails R425: its band and entry. -/
def badWave (waves : Memory) : Option (Nat × Nat) :=
  ((List.range 8).flatMap fun b => (List.range 272).map fun e => (b, e)).find? fun p =>
    !waveBalanced 0 (waveFrames (waveAt waves p.1 p.2))

/-- The entry of a band's table that a pixel uses (R424). -/
def waveEntry (clean : Bool) (prev next : BitVec 4) : Nat := if clean then 256 + next.toNat else 16 * prev.toNat + next.toNat

/-- Frames that an update runs for: the longest waveform of its pixels. -/
def updateLength (table : List Byte) (clean : Bool) (prevs nexts : List (BitVec 4)) : Nat :=
  ((prevs.zip nexts).map fun p => (waveFrames ((table.drop (16 * waveEntry clean p.1 p.2)).take 16)).length).foldl max 0

/-! ### Rectangles and zones -/

/-- Two rectangles overlap. -/
def overlap (x y w h x' y' w' h' : Nat) : Bool := x < x' + w' && x' < x + w && y < y' + h' && y' < y + h

/-- Two requests overlap (R430). -/
def PanelReq.meets (a b : PanelReq) : Bool := overlap a.x a.y a.w a.h b.x b.y b.w b.h

/-- A rectangle with X and W multiples of 8 that lies within the panel (R430). -/
def PanelDesc.fits (d : PanelDesc) (x y w h : Nat) : Bool :=
  x % 8 == 0 && w % 8 == 0 && 1 ≤ w && 1 ≤ h && x + w ≤ d.WIDTH.toNat && y + h ≤ d.HEIGHT.toNat

/-- The rectangle touches the place of the FORCED marker (R430). -/
def PanelDesc.onMarker (d : PanelDesc) (x y w h : Nat) : Bool := overlap x y w h (d.WIDTH.toNat - 64) 0 64 16

/-- First and last row + 1 of a zone; an unused zone has none (R433). -/
def PanelDesc.zone (d : PanelDesc) (z : Fin 4) : Nat × Nat :=
  let e := (d.ZONE_END.get z).toNat
  let b := if h : z.val = 0 then 0 else (d.ZONE_END.get ⟨z.val - 1, by omega⟩).toNat
  if e = 0 then (0, 0) else (b, min e d.HEIGHT.toNat)

/-- The parts of a request, one for each zone that it touches (R428). -/
def PanelDesc.split (d : PanelDesc) (r : PanelReq) : List PanelReq :=
  (idx 4).filterMap fun z =>
    let (b, e) := d.zone z
    let lo := max r.y b
    let hi := min (r.y + r.h) e
    if lo < hi then
      some { r with y := lo, h := hi - lo, zone := z, levels := (r.levels.drop ((lo - r.y) * r.w)).take ((hi - lo) * r.w) }
    else none

/-- Starts are held at H1 and above and at E1 and above (R430). -/
def State.panelHeld (s : State) : Bool := 1 ≤ s.heatNow || 1 ≤ s.energyNow

/-- The FORCED marker for a number of forces goes to the front of the queue, in place of one that waits
(R149, R430). -/
def Panel.mark (p : Panel) (forces : Nat) : Panel :=
  let x := p.act.WIDTH.toNat - 64
  { p with queue :=
      { x := x, y := 0, w := 64, h := 16, zone := 0, clean := false, forced := true, redraw := none, atBoot := false,
        levels := Config.forcedMarker forces, seq := 0 } :: p.queue.filter fun r => !r.forced }

/-! ### Commands -/

/-- The panel descriptor's fields lie in their ranges (R433). -/
def PanelDesc.inRange (d : PanelDesc) : Bool :=
  64 ≤ d.WIDTH.toNat && d.WIDTH.toNat ≤ 1024 && d.WIDTH.toNat % 8 == 0 && 16 ≤ d.HEIGHT.toNat && d.HEIGHT.toNat ≤ 768
    && 10 ≤ d.IDLE_MS.toNat && d.IDLE_MS.toNat ≤ 10000

/-- PNL_SET writes the panel descriptor (R433, R435). -/
def cmdPnlSet (rq : Request) (s : State) : State :=
  serve Cmd.pnlSet rq s fun s =>
    let d := PanelDesc.ofBytes rq.payload
    refuseIf (!d.inRange) 0x0E01 0xFFFF (.done { s with pnl.desc := d } [])

/-- PNL_GET reads the panel descriptor (R433). -/
def cmdPnlGet (rq : Request) (s : State) : State := serve Cmd.pnlGet rq s fun s => .done s s.pnl.desc.toBytes

/-- PNL_WAVE_LOAD writes a part of the waveform set; the part that makes it whole is followed by the check of
R425, whose refusal names the band and the entry (log 21). -/
def cmdPnlWaveLoad (rq : Request) (s : State) : State :=
  serve Cmd.pnlWaveLoad rq s fun s =>
    let off := rq.u32 0
    let data := rq.payload.drop 4
    refuseIf (waveBytes < off + data.length) 0x0E01 0xFFFF <|
      let upTo := if off = 0 then data.length else if off ≤ s.pnl.wavesTo then max s.pnl.wavesTo (off + data.length) else s.pnl.wavesTo
      let s := { s with pnl.waves := s.pnl.waves.write off data, pnl.wavesTo := upTo, pnl.wavesOk := false }
      if upTo = waveBytes then
        match badWave s.pnl.waves with
        | none => .done { s with pnl.wavesOk := true } []
        | some (b, e) => .refuseIn s 0x0E06 b e (leBytes 2 b ++ leBytes 2 e)
      else .done s []

/-- The levels that PNL_DRAW's data bytes hold, two pixels a byte (log 20). -/
def nibbles (bs : List Byte) : List (BitVec 4) := bs.flatMap fun (b : Byte) => [b.setWidth 4, (b >>> 4).setWidth 4]

/-- PNL_DRAW writes levels of a rectangle into the draw buffer, from a byte offset within it (R430, R435). -/
def cmdPnlDraw (rq : Request) (s : State) : State :=
  serve Cmd.pnlDraw rq s fun s =>
    let x := rq.u16 0; let y := rq.u16 2; let w := rq.u16 4; let h := rq.u16 6
    let off := rq.u32 8
    let data := rq.payload.drop 12
    refuseIf (!s.pnl.act.fits x y w h || w * h < 2 * (off + data.length)) 0x0E01 0xFFFF <|
    refuseIf (s.pnl.act.onMarker x y w h) 0x0E03 0xFFFF <|
      let px := (rectPixels x y w h).drop (2 * off)
      .done { s with gro.mem := upd s.gro.mem 8 fun m =>
        (px.zip (nibbles data)).foldl (fun m p => pixelSet m p.1.1 p.1.2 p.2) m } []

/-- PNL_UPDATE queues an update with the levels that the draw buffer holds now, and answers its number
(R430, R435). -/
def cmdPnlUpdate (rq : Request) (s : State) : State :=
  serve Cmd.pnlUpdate rq s fun s =>
    let x := rq.u16 0; let y := rq.u16 2; let w := rq.u16 4; let h := rq.u16 6
    refuseIf (!s.pnl.act.fits x y w h || 1 < rq.u8 8) 0x0E01 0xFFFF <|
    refuseIf (!s.pnl.wavesOk) 0x0E05 0xFFFF <|
    refuseIf (s.pnl.act.onMarker x y w h) 0x0E03 0xFFFF <|
    refuseIf (16 ≤ s.pnl.queue.length) 0x0E04 0xFFFF <|
      let seq := s.pnl.updSeq + 1
      let r : PanelReq := { x := x, y := y, w := w, h := h, zone := 0, clean := rq.u8 8 == 1, forced := false, redraw := none,
                            atBoot := false, levels := rectGet (s.gro.mem.get 8) x y w h, seq := seq }
      .done { s with pnl.queue := s.pnl.queue ++ [r], pnl.updSeq := seq } (leBytes 4 seq.toNat)

/-- The panel status (R434). -/
def State.panelStatus (s : State) : List Byte :=
  let p := s.pnl
  p.stat.toBytes (RAILS_ON := bit p.railsOn) (TEMP_FAULT := bit p.tempFault) (TEMP_RANGE := bit p.tempRange)
    (HELD := bit s.panelHeld) (BAND := p.band.val) (IN_FLIGHT := p.flight.length) (QUEUED := p.queue.length)
    (PHASES := ((idx 4).map fun z => bit (p.phase.get z) * 2 ^ z.val).sum) (PANEL_T := p.panelT.toNat)

/-- PNL_STATUS reads the panel status (R434). -/
def cmdPnlStatus (rq : Request) (s : State) : State := serve Cmd.pnlStatus rq s fun s => .done s s.panelStatus

/-- PNL_CLEAR clears the counters; the number and time of the last update stand (R434). -/
def cmdPnlClear (rq : Request) (s : State) : State :=
  serve Cmd.pnlClear rq s fun s =>
    .done { s with pnl.stat := { PanelStat.dflt with LAST_UPD_SEQ := s.pnl.stat.LAST_UPD_SEQ, LAST_UPD_TS := s.pnl.stat.LAST_UPD_TS } } []

/-- PNL_SET (R433). -/
def execPnlSet (rq : Request) (s : State) : Host.Outcome State Fault Refusal := .next (s.command rq cmdPnlSet)
/-- PNL_GET (R433). -/
def execPnlGet (rq : Request) (s : State) : Host.Outcome State Fault Refusal := .next (s.command rq cmdPnlGet)
/-- PNL_WAVE_LOAD (R425). -/
def execPnlWaveLoad (rq : Request) (s : State) : Host.Outcome State Fault Refusal := .next (s.command rq cmdPnlWaveLoad)
/-- PNL_DRAW (R430). -/
def execPnlDraw (rq : Request) (s : State) : Host.Outcome State Fault Refusal := .next (s.command rq cmdPnlDraw)
/-- PNL_UPDATE (R430). -/
def execPnlUpdate (rq : Request) (s : State) : Host.Outcome State Fault Refusal := .next (s.command rq cmdPnlUpdate)
/-- PNL_STATUS (R434). -/
def execPnlStatus (rq : Request) (s : State) : Host.Outcome State Fault Refusal := .next (s.command rq cmdPnlStatus)
/-- PNL_CLEAR (R434). -/
def execPnlClear (rq : Request) (s : State) : Host.Outcome State Fault Refusal := .next (s.command rq cmdPnlClear)

/-! ### Events -/

/-- The band after a reading, with 0.5 °C of hysteresis (R424, R426). -/
def bandNext (b : Fin 8) (t : Int) : Fin 8 :=
  if -160 + 140 * (b.val : Int) - 8 ≤ t && t < -160 + 140 * (b.val + 1 : Int) + 8 then b
  else ⟨min 7 ((t + 160) / 140).toNat, by omega⟩

/-- PANEL_TEMP_READ (R426, R427): `none` is an open or shorted thermistor. An update whose latched band is
two or more away is to be ended by a balancing frame. -/
def execPanelTempRead (t : Option (BitVec 16)) (s : State) : Host.Outcome State Fault Refusal :=
  .next <|
    match t with
    | none => { s with pnl.tempFault := true }
    | some v =>
      let t := v.toInt
      let b := bandNext s.pnl.band t
      { s with pnl.tempFault := false, pnl.panelT := v, pnl.band := b, pnl.tempRange := t < -160 || 960 < t,
               pnl.flight := s.pnl.flight.map fun u =>
                 if 2 ≤ b.val - u.band.val || 2 ≤ u.band.val - b.val then { u with abort := true } else u }

/-- The first journal entry that is free. -/
def Panel.freeEntry (p : Panel) : Option (Fin 8) := (idx 8).find? fun i => (p.journal.get i).STATE == 0#8

/-- The journal entry of a part that starts: that of its redraw, unless another part of it has taken it, else a free one (R431).
(log 150) -/
def Panel.entryFor (p : Panel) (r : PanelReq) : Option (Fin 8) :=
  (r.redraw.filter fun e => p.flight.all fun u => u.entry != e).or p.freeEntry

/-- Parts of a request that can be in flight beside those that are, each with a journal entry of its own (R430, R431).
(log 150) -/
def Panel.roomFor (p : Panel) (r : PanelReq) (parts : Nat) : Bool :=
  let free := ((idx 8).filter fun i => (p.journal.get i).STATE == 0#8).length
  p.flight.length + parts ≤ 8 && parts ≤ free + bit r.redraw.isSome

/-- Whether a waiting request may start now, given those that wait before it (R426, R430). (log 150) -/
def State.mayStart (s : State) (before : List PanelReq) (r : PanelReq) : Bool :=
  let p := s.pnl
  p.wavesOk && !p.tempRange && s.energyNow < 3 && (r.forced || !s.panelHeld)
    && p.flight.all (fun u => !u.req.meets r) && before.all (fun q => !q.meets r)
    && p.roomFor r (p.act.split r).length

/-- The first waiting request that may start, with those before and after it. (log 150) -/
def State.pick (s : State) (before : List PanelReq) : List PanelReq → Option (List PanelReq × PanelReq × List PanelReq)
  | [] => none
  | r :: t => if s.mayStart before r then some (before, r, t) else s.pick (before ++ [r]) t

/-- One part of an update starts: its levels go to the level frame, then its entry opens; the zone's
phase inverts; band, table, VCOM and rail magnitude are latched (R427, R428, R431). -/
def Panel.startPart (p : Panel) (r : PanelReq) : Panel :=
  match p.entryFor r with
  | none => p
  | some e =>
    let prev := rectGet p.frame r.x r.y r.w r.h
    let table := p.waves.read (128 + 4352 * p.band.val) 4352
    let ph := !(p.phase.get r.zone)
    let u : PanelUpd :=
      { req := r, phase := ph, band := p.band, vcom := BitVec.ofNat 16 (p.waves.num (16 * p.band.val + 2 * r.zone.val) 2),
        railMv := BitVec.ofNat 16 (p.waves.num (16 * p.band.val + 8) 2), table := table, frames := 0,
        length := updateLength table r.clean prev r.levels, entry := e, abort := false }
    { p with
      frame := rectSet p.frame r.x r.y r.w r.h r.levels,
      journal := put p.journal e { JournalEntry.dflt with
        X := BitVec.ofNat 16 r.x, Y := BitVec.ofNat 16 r.y, W := BitVec.ofNat 16 r.w, H := BitVec.ofNat 16 r.h,
        ZONE := BitVec.ofNat 8 r.zone.val, PHASE := BitVec.ofNat 8 (bit ph), STATE := 1#8, UPD_SEQ := r.seq },
      phase := put p.phase r.zone ph, flight := p.flight ++ [u], railsOn := true }

/-- PANEL_UPDATE_START (R430, R431): the first queued request that may start does so, one update for each
zone that it touches. -/
def execPanelUpdateStart (s : State) : Host.Outcome State Fault Refusal :=
  .next <|
    match s.pick [] s.pnl.queue with
    | none => s
    | some (before, r, after) =>
      { s with pnl := (s.pnl.act.split r).foldl Panel.startPart { s.pnl with queue := before ++ after } }

/-- An update that has run to its end: its entry is freed and it is counted (R431, R432, R434). -/
def Panel.finish (p : Panel) (u : PanelUpd) (ts : BitVec 64) : Panel :=
  { p with
    journal := upd p.journal u.entry fun e => { e with STATE := 0#8 },
    stat := { p.stat with
      UPDATES := sat p.stat.UPDATES, LAST_UPD_SEQ := u.req.seq, LAST_UPD_TS := ts,
      JOURNAL_REDRAWS := if u.req.atBoot then sat p.stat.JOURNAL_REDRAWS else p.stat.JOURNAL_REDRAWS } }

/-- An update ended by a balancing frame after a change of two bands: its entry is balanced and a clean
redraw goes ahead of every other request but the marker (R427, R429). -/
def Panel.balance (p : Panel) (u : PanelUpd) : Panel :=
  let r := { u.req with clean := true, redraw := some u.entry }
  { p with
    journal := upd p.journal u.entry fun e => { e with STATE := 2#8 },
    queue := p.queue.filter (·.forced) ++ [r] ++ p.queue.filter (fun q => !q.forced),
    stat := { p.stat with ABORT_BAND := sat p.stat.ABORT_BAND } }

/-- PANEL_FRAME_COMPLETE (R421, R427, R431): every update in flight has had one more frame; those at their
end finish, those to be aborted are balanced. -/
def execPanelFrameComplete (s : State) : Host.Outcome State Fault Refusal :=
  .next <|
    if s.pnl.flight.isEmpty then s
    else
      let fl := s.pnl.flight.map fun u => { u with frames := u.frames + 1 }
      let p := { s.pnl with flight := fl.filter fun u => !u.abort && u.frames < u.length }
      let p := (fl.filter (·.abort)).foldl Panel.balance p
      let p := (fl.filter fun u => !u.abort && u.length ≤ u.frames).foldl (fun p u => p.finish u s.ts) p
      { s with pnl := if p.flight.isEmpty then { p with idleSince := s.now } else p }

/-- PANEL_RAILS_OFF (R422): after IDLE_MS with no update in flight the rails are switched off. -/
def execPanelRailsOff (s : State) : Host.Outcome State Fault Refusal :=
  .next <|
    if s.pnl.railsOn && s.pnl.flight.isEmpty && s.since s.pnl.idleSince (ms s.pnl.act.IDLE_MS.toNat) then
      { s with pnl.railsOn := false }
    else s

/-- Stage 2 of the power-fail sequence (R432): one balancing frame ends every update in flight, its
entries are marked balanced, and the rails go off. -/
def Panel.powerDown (p : Panel) : Panel :=
  { p with
    journal := p.flight.foldl (fun j u => upd j u.entry fun e => { e with STATE := 2#8 }) p.journal,
    stat := { p.stat with ABORT_POWER := satAdd p.stat.ABORT_POWER p.flight.length },
    flight := [], railsOn := false }

/-- At BOOT every open or balanced entry is queued for a clean redraw; an entry found open is counted in
UNBALANCED and recorded (R432). (log 150) -/
def State.journalRedraw (s : State) : State :=
  (idx 8).foldl (fun s i =>
    let e := s.pnl.journal.get i
    if e.STATE == 1#8 || e.STATE == 2#8 then
      let r : PanelReq :=
        { x := e.X.toNat, y := e.Y.toNat, w := e.W.toNat, h := e.H.toNat, zone := ⟨e.ZONE.toNat % 4, by omega⟩, clean := true,
          forced := false, redraw := some i, atBoot := true, levels := rectGet s.pnl.frame e.X.toNat e.Y.toNat e.W.toNat e.H.toNat,
          seq := e.UPD_SEQ }
      let s := { s with pnl.queue := s.pnl.queue ++ [r] }
      if e.STATE == 1#8 then
        ({ s with pnl.stat.UNBALANCED := sat s.pnl.stat.UNBALANCED }).event 3 0x0E80 0xFF 0 e.UPD_SEQ.toNat
      else s
    else s) s

end Sys2Proof.Machine
end

