-- ==== Sys2Proof/Machine/Image.lean ====
section
/-! DEFINITION. IMAGE values with their quality and write time (R9, R26), the substitution of forces at the writer
(R142), and the writes that go through to MRAM (R34 to R36). -/

namespace Sys2Proof.Machine

/-! ### Value metadata -/

/-- Quality and write time of the value at an offset; GOOD and 0 where nothing has been written (log 27). -/
def metaAt (m : List (Nat × ValMeta)) (off : Nat) : ValMeta := (m.lookup off).getD ⟨0#4, 0#64⟩

/-- The table with one offset's entry written, offsets rising. -/
def metaPut : List (Nat × ValMeta) → Nat → ValMeta → List (Nat × ValMeta)
  | [], a, v => [(a, v)]
  | (k, w) :: r, a, v => if a < k then (a, v) :: (k, w) :: r else if a = k then (a, v) :: r else (k, w) :: metaPut r a v

/-- CLASS BAD with nothing else set (R9). -/
def qBad : BitVec 4 := 2#4
/-- CLASS BAD with STALE. -/
def qBadStale : BitVec 4 := 10#4
/-- CLASS NOT_AVAILABLE. -/
def qNone : BitVec 4 := 3#4
/-- CLASS UNCERTAIN. -/
def qUncertain : BitVec 4 := 1#4
/-- CLASS GOOD. -/
def qGood : BitVec 4 := 0#4
/-- FORCED. -/
def qForced : BitVec 4 := 4#4
/-- STALE. -/
def qStale : BitVec 4 := 8#4

/-- CLASS of a quality nibble (R9). -/
def classOf (q : BitVec 4) : Nat := q.toNat % 4

/-- STALE is set (R9). -/
def isStale (q : BitVec 4) : Bool := q.getLsbD 3

/-- CLASS is neither BAD nor NOT_AVAILABLE, and STALE is clear. -/
def usable (q : BitVec 4) : Bool := classOf q < 2 && !isStale q

/-! ### Where a value lies -/

/-- An offset within the four group records, 64 bytes each from 0x0080 on (R272). -/
def inGroupRecord (off : Nat) : Bool := 0x80 ≤ off && off < 0x180

/-- The byte of a DIO channel, which holds its state in bit 0 and its quality in bits 7:4 (R272). -/
def isDioByte (off : Nat) : Bool := inGroupRecord off && off % 64 < 8

/-- VALUE of an AIO record, whose quality lies in the byte four further on, bits 7:4 (R291). -/
def isAioValue (off : Nat) : Bool := inGroupRecord off && 32 ≤ off % 64 && off % 8 == 0

/-- Offset of the group record of link `n` (R272). -/
def groupOff (n : Nat) : Nat := 0x80 + 0x40 * n

/-- Offset of the AIO record of channel `c` (R291). -/
def aioOff (c : Nat) : Nat := groupOff (c / 4) + 0x20 + 8 * (c % 4)

/-- Offset of the state byte of DIO channel `c` (R272). -/
def dioOff (c : Nat) : Nat := groupOff (c / 8) + c % 8

/-- The bytes of IMAGE. -/
def State.img (s : State) : Memory := s.gro.mem.get 0

/-- The bytes of a chamber replaced. -/
def State.setMem (s : State) (c : Fin 11) (m : Memory) : State := { s with gro.mem := put s.gro.mem c m }

/-- The quality of the value at an offset (R9): in its record where the record holds it. -/
def State.qualityAt (s : State) (off : Nat) : BitVec 4 :=
  if isDioByte off then BitVec.ofNat 4 ((s.img.get off).toNat / 16)
  else if isAioValue off then BitVec.ofNat 4 ((s.img.get (off + 4)).toNat / 16)
  else (metaAt s.gro.imgMeta off).quality

/-- The time of the IMAGE write of the value at an offset (R26): that of its group record where it lies in one. -/
def State.writtenAt (s : State) (off : Nat) : BitVec 64 :=
  (metaAt s.gro.imgMeta (if inGroupRecord off then off / 64 * 64 else off)).ts

/-- A value at an offset takes a quality, its data standing. -/
def State.setQuality (s : State) (off : Nat) (q : BitVec 4) : State :=
  if isDioByte off then s.setMem 0 (s.img.set off (BitVec.ofNat 8 ((s.img.get off).toNat % 16 + 16 * q.toNat)))
  else if isAioValue off then s.setMem 0 (s.img.set (off + 4) (BitVec.ofNat 8 ((s.img.get (off + 4)).toNat % 16 + 16 * q.toNat)))
  else { s with gro.imgMeta := metaPut s.gro.imgMeta off { metaAt s.gro.imgMeta off with quality := q } }

/-! ### Variables and forces -/

/-- The variable that a handle names in the running program (R129, R141). -/
def State.varOf (s : State) (h : BitVec 32) : Option VarDecl := s.tk.prog.vars.find? fun v => v.handle == h

/-- A value of a byte range as a force sees it: the state bit of a DIO byte, else its number. -/
def State.valueAt (s : State) (off size : Nat) : Nat :=
  if isDioByte off then (s.img.get off).toNat % 2 else s.img.num off size

/-- IMAGE receives a value with FORCED set as `forced` says, with the CLASS and STALE it has (R142). -/
def State.putForced (s : State) (off size value : Nat) (forced : Bool) : State :=
  let q := s.qualityAt off
  let q := if forced then q ||| qForced else q &&& 11#4
  let s := if isDioByte off then s.setMem 0 (s.img.set off (BitVec.ofNat 8 ((s.img.get off).toNat / 2 * 2 + value % 2)))
    else s.setMem 0 (s.img.write off (leBytes size value))
  s.setQuality off q

/-- The force on a value, if its write fell within `off` and `len`, takes effect at the writer: the written
value goes to UNDERLYING, and IMAGE keeps the forced value (R142). -/
def State.substitute (s : State) (off len : Nat) (f : ForceEntry) : State :=
  match s.varOf f.HANDLE with
  | some v =>
    if v.chamber = 0 && off ≤ v.off && v.off + f.SIZE.toNat ≤ off + len then
      let under := s.valueAt v.off f.SIZE.toNat
      { s.putForced v.off f.SIZE.toNat f.VALUE.toNat true with
        olc.forces := s.olc.forces.map fun g => if g.HANDLE == f.HANDLE then { g with UNDERLYING := BitVec.ofNat 64 under } else g }
    else s
  | none => s

/-! ### The pair (R374, R379) -/

/-- The module is one of a pair (R405). -/
def State.paired (s : State) : Bool := s.pr.act.PAIR_MODE == 1#8

/-- The module owns the station: unpaired, ACTIVE or ALONE (R374). -/
def State.owner (s : State) : Bool := !s.paired || s.pr.role == .active || s.pr.role == .alone

/-- A frame is handed to the pair link. -/
def State.pairSend (s : State) (m : PairMsg) : State := { s with pr.out := m :: s.pr.out }

/-- What is written goes to the peer: as ACTIVE, during a swap, and while a SYNCING peer is filled (R379, R389,
R397). -/
def State.mirrors (s : State) : Bool := s.paired && (s.pr.role == .active || s.pr.swapping || (s.owner && s.pr.sync.isSome))

/-- A mirrored frame, where the module mirrors. -/
def State.mirror (s : State) (m : PairMsg) : State := if s.mirrors then s.pairSend m else s

/-- A line that is written on the owner during the bulk copy is noted for its second pass (R397). -/
def State.noteLine (s : State) (c : Fin 11) (off : Nat) : State :=
  if s.owner && s.pr.sync.isSome then { s with pr.written := s.pr.written.insert (c, off / 64) } else s

/-! ### Batches of force requests (R146, R147) -/

/-- The CRC of a safety parameter set, with SIGNED_BY and SIGNED_TS taken as zero (R239). -/
def SafetySet.crcOf (x : SafetySet) : BitVec 32 := crc32 ({ x with SIGNED_BY := 0#32, SIGNED_TS := 0#64 }.toBytes.take 832)

/-- A copy of the set has its CRC right (R239). -/
def SafetySet.valid (x : SafetySet) : Bool := x.CRC == x.crcOf

/-- A signed copy that is valid. (log 113) -/
def goodCopy (c : Option SafetySet) : Option SafetySet := c.filter SafetySet.valid

/-- The signed set: the first copy whose CRC is right; none where both fail (R239). (log 113) -/
def State.validSet (s : State) : Option SafetySet := (goodCopy (s.isl.signed.get 0)).or (goodCopy (s.isl.signed.get 1))

/-- The signed safety set in force; the default one where there is none (R239). -/
def State.safetySet (s : State) : SafetySet := s.validSet.getD SafetySet.dflt

/-- The force that stands on a handle's value (R141). -/
def State.forceOf (s : State) (h : BitVec 32) : Option ForceEntry := s.olc.forces.find? fun f => f.HANDLE == h

/-- EVT_FORCE with its action, 0 set, 1 change, 2 release, 3 drop (R149, log 37); a SAFETY record as well where a
safety-class task reads the value (R141). -/
def State.noteForce (s : State) (session sev action : Nat) (f : ForceEntry) (old new : Nat) : State :=
  let n : Note := { sev := sev, code := 0x0480, session := session,
                    payload := evData old new (f.HANDLE.toNat + 2 ^ 32 * action + 2 ^ 40 * f.UNDERLYING.toNat) }
  let s := s.record n
  if f.SAFETY_READ == 1#1 then s.record { n with sev := 6 } else s

/-- The force table replaced: mirrored (R379), and the panel's marker redrawn where its number changes (R149). -/
def State.setForces (s : State) (fs : List ForceEntry) : State :=
  let n := s.olc.forces.length
  let s := { s with olc.forces := fs }
  (if fs.length = n then s else { s with pnl := s.pnl.mark fs.length }).mirror (.forces fs)

/-- A request comes before another in its batch: the earlier time-stamp, then the lower session (R146). -/
def ForcePending.before (a b : ForcePending) : Bool := a.ts < b.ts || (a.ts == b.ts && a.session < b.session)

/-- The request that wins a batch (R146). -/
def batchWinner : List ForcePending → Option ForcePending
  | [] => none
  | x :: r =>
    match batchWinner r with
    | some y => some (if y.before x then y else x)
    | none => some x

/-- One release of an OLC_FORCE_RELEASE_ALL is decided; the last answers the command with their number (R147). -/
def State.tally (s : State) (rq : Request) (made : Bool) : State :=
  let l := s.olc.releaseAll.map fun e => if e.1 == rq then (rq, e.2.1 - 1, e.2.2 + bit made) else e
  let s := { s with olc.releaseAll := l.filter fun e => e.2.1 != 0 }
  match l.find? fun e => e.1 == rq && e.2.1 == 0 with
  | some e => s.reply Cmd.olcForceReleaseAll rq 0 (leBytes 2 e.2.2)
  | none => s

/-- The command that a pending request came with. -/
def ForcePending.cmd (p : ForcePending) : CmdInfo := if p.value.isSome then Cmd.olcForceSet else Cmd.olcForceRelease

/-- A request that lost its batch: refused with the winning session in its reply (R146, log 38). -/
def State.forceLost (s : State) (w p : ForcePending) : State :=
  if p.all then s.tally p.rq false
  else (s.noteRefusal p.cmd p.rq 0x0413 0xFFFF p.handle.toNat).reply p.cmd p.rq 0x0413 [BitVec.ofNat 8 w.session.val, 0#8, 0#8, 0#8]

/-- A force is set or changed: its entry, which the requesting session owns (R141, R147, R151). (log 87) -/
def State.setForce (s : State) (w : ForcePending) (value : BitVec 64) : State :=
  match s.varOf w.handle with
  | none => s
  | some d =>
    let old := s.forceOf w.handle
    let f : ForceEntry := { ForceEntry.dflt with
      HANDLE := w.handle, OWNER := BitVec.ofNat 8 w.session.val, SAFETY_READ := BitVec.ofNat 1 (bit d.safetyRead), SIZE := d.size,
      VALUE := value, SET_TS := BitVec.ofNat 64 w.ts,
      UNDERLYING := match old with | some g => g.UNDERLYING | none => BitVec.ofNat 64 (s.valueAt d.off d.size.toNat) }
    match old with
    | some g => (s.setForces (s.olc.forces.map fun x => if x.HANDLE == w.handle then f else x)).noteForce w.session.val 2 1 f g.VALUE.toNat value.toNat
    | none => (s.setForces (s.olc.forces ++ [f])).noteForce w.session.val 2 0 f 0 value.toNat

/-- A force is released: its underlying value waits for the supervisor's write (R142). -/
def State.releaseForce (s : State) (w : ForcePending) : State :=
  match s.forceOf w.handle with
  | none => s
  | some f =>
    let s := s.setForces (s.olc.forces.filter fun x => x.HANDLE != w.handle)
    { s with olc.releaseWrites := s.olc.releaseWrites ++ [f] }.noteForce w.session.val 2 2 f f.VALUE.toNat 0

/-- The batch of a value is decided (R146). -/
def State.resolveBatch (s : State) (h : BitVec 32) : State :=
  let l := s.olc.batch.filter fun p => p.handle == h
  match batchWinner l with
  | none => s
  | some w =>
    let s := { s with olc.batch := s.olc.batch.filter fun p => p.handle != h }
    let s := match w.value with
      | some v => s.setForce w v
      | none => s.releaseForce w
    let s := if w.all then s.tally w.rq true else s.reply w.cmd w.rq 0 []
    (l.erase w).foldl (fun s p => s.forceLost w p) s

/-- The value of a handle lies in IMAGE within a byte range. -/
def State.inRange (s : State) (off len : Nat) (h : BitVec 32) : Bool :=
  match s.varOf h with
  | some v => v.chamber == 0 && off ≤ v.off && v.off + v.size.toNat ≤ off + len
  | none => false

/-- The writer of a range is about to write it: the batches of its values are decided, and released values need no
write by the supervisor any more (R142, R146). -/
def State.beforeWrite (s : State) (off len : Nat) : State :=
  let hs := ((s.olc.batch.map fun p => p.handle).filter (s.inRange off len)).eraseDups
  let s := hs.foldl State.resolveBatch s
  { s with olc.releaseWrites := s.olc.releaseWrites.filter fun f => !s.inRange off len f.HANDLE }

/-! ### Writes of IMAGE (R142) -/

/-- A write of IMAGE by the writer of its values: bytes, quality and time, then the substitution of every
force on what was written (R9, R142). -/
def State.writeImage (s : State) (off : Nat) (bytes : List Byte) (q : BitVec 4) : State :=
  let s := s.beforeWrite off bytes.length
  let s := { s.setMem 0 (s.img.write off bytes) with gro.imgMeta := metaPut s.gro.imgMeta off ⟨q, s.ts⟩ }
  s.olc.forces.foldl (fun s f => s.substitute off bytes.length f) s

/-- A write of one value as a task's commit makes it (R84). -/
def State.writeVal (s : State) (v : ImgVal) : State :=
  if isDioByte v.off then
    s.writeImage v.off (v.bytes.map fun b => BitVec.ofNat 8 (b.toNat % 16 + 16 * v.quality.toNat)) v.quality
  else s.writeImage v.off v.bytes v.quality

/-! ### Write-through (R34 to R36) -/

/-- Bytes that the write buffer holds. -/
def Grotto.wbFill (g : Grotto) : Nat := (g.wbuf.map fun e => e.data.length).sum

/-- A write enters the buffer, and at 48 KiB the module sets WB_BACKPRESSURE (R34, R35). -/
def Grotto.buffer (g : Grotto) (e : WbEntry) : Grotto :=
  let g := { g with wbuf := g.wbuf ++ [e] }
  { g with backpressure := g.backpressure || 48 * 1024 ≤ g.wbFill }

/-- A chamber's counters changed, with the time of the event (R52). -/
def State.chamberEvent (s : State) (c : Fin 11) (f : ChamberStat → ChamberStat) : State :=
  { s with gro.stat := upd s.gro.stat c fun x => { f x with LAST_EVENT_TS := s.ts } }

/-- A RETAIN write: working copy and buffer in the same grant; after the gate has closed it is discarded and
counted (R34, R36). It is mirrored as it is made (R379). -/
def State.writeRetain (s : State) (off : Nat) (bytes : List Byte) : State :=
  if s.gro.gateClosed then s.chamberEvent 2 fun x => { x with GATE_DISCARD := sat x.GATE_DISCARD }
  else
    let s := s.setMem 2 ((s.gro.mem.get 2).write off bytes)
    ({ s with gro := s.gro.buffer ⟨.retain, off, bytes⟩ }.noteLine 2 off).mirror (.retain off bytes)

/-- A write of a chamber's bytes: RETAIN goes through to MRAM, IMAGE takes quality GOOD. -/
def State.writeChamber (s : State) (c : Fin 11) (off : Nat) (bytes : List Byte) : State :=
  if c = 2 then s.writeRetain off bytes
  else if c = 0 then s.writeImage off bytes qGood
  else (s.setMem c ((s.gro.mem.get c).write off bytes)).noteLine c off

end Sys2Proof.Machine
end

