-- ==== Sys2Proof/Machine/CanCore.lean ====
section
/-! DEFINITION. The modes of the CAN controllers with the mode and role of the module (R332). -/

namespace Sys2Proof.Machine

/-- The mode that a controller has in the module's mode and role (R332, R400). -/
def State.canModeNow (s : State) (d : CanDesc) : CanMode :=
  if s.pow.pfStage != .idle || (s.paired && s.pr.role == .quarantined) then .off
  else match s.sys.mode with
  | .stop => .restricted
  | .run => if s.owner then (if d.MODE == 0#8 then .off else if d.MODE == 1#8 then .normal else .restricted) else .restricted
  | .off | .boot | .minimal | .halt => .off

/-- What was read for arbitration goes back: an object is pending again, a queued frame stands first (R328). -/
def CanCtrl.unread (x : CanCtrl) : CanCtrl :=
  match x.wire with
  | none => x
  | some (.object k, _) => { x with wire := none, pendingTx := x.pendingTx.insert k }
  | some (.once f, _) => { x with wire := none, queue := f :: x.queue }
  | some (.reference c, _) => { x with wire := none, refPending := some c }

/-- A controller enters a mode (R332): from off it starts error-active with its counters at 0. (log 134) -/
def CanCtrl.enter (x : CanCtrl) (m : CanMode) (now : Nat) : CanCtrl :=
  if x.mode = m then x
  else match m with
  | .off => { x.unread with mode := .off, state := .off, stdby := true, queue := [], recovering := false, refPending := none,
                            stat := { x.stat with MASTER_ACTIVE := 0#1 } }
  | _ =>
    let x := { x.unread with mode := m, stdby := false, refPending := none, stat := { x.stat with MASTER_ACTIVE := 0#1 },
                             refAt := if x.desc.TIME_ROLE == 2#8 then some now else none }
    if x.state = .off then { x with state := .active, tecCount := 0, recCount := 0 } else x

/-- Every controller takes the mode that the module's gives it. (log 134) -/
def State.canModes (s : State) : State :=
  { s with can.ctrl := s.can.ctrl.map fun (x : CanCtrl) => x.enter (s.canModeNow x.desc) s.now }

/-- Controllers of a new owner leave restricted operation, at its first output commit; their counters start at 0
(R332). -/
def State.canTakeover (s : State) : State :=
  if s.sys.mode = .run then
    { s with can.ctrl := s.can.ctrl.map fun (x : CanCtrl) =>
        if x.mode = .restricted && s.canModeNow x.desc != .restricted then
          { x with state := .active, tecCount := 0, recCount := 0, recovering := false }.enter (s.canModeNow x.desc) s.now
        else x }
  else s

/-- Offset in MSG of the ring of filter `f` of controller `c` (R338). -/
def canRingOff (c f : Nat) : Nat := 0x480 * (64 * c + f)

/-- Offset in MSG of CAN object `k` (R338). -/
def canObjOff (k : Nat) : Nat := 0x48000 + 0x80 * k

/-- At ENABLE the descriptors, filters and objects take effect: rings and objects start empty, nothing is pending, and
every controller takes its mode (R332, R336 to R338). (log 134) -/
def State.canStart (s : State) : State :=
  let m := (idx 4).foldl (fun m c => (idx 64).foldl (fun m f => m.write (canRingOff c.val f.val) RingLine.dflt.toBytes) m) (s.gro.mem.get 5)
  let m := s.can.objects.foldl (fun m (o : CanObject) => m.write (canObjOff o.OBJ_NO.toNat) FrameRec.dflt.toBytes) m
  let s := s.setMem 5 m
  { s with can.ctrl := s.can.ctrl.map fun (x : CanCtrl) =>
      { x with pendingTx := [], lastTxSeq := [], txAt := [], queue := [], wire := none, refPending := none, cycleNext := 0#6 } }.canModes

end Sys2Proof.Machine
end

