-- ==== Sys2Proof/Machine/Grotto.lean ====
section
/-! DEFINITION. Chamber descriptors, the Grotto's status, the write buffer's drain and the arbitration window (R34, R35,
R42 to R47, R51, R52). -/

namespace Sys2Proof.Machine

/-! ### Quotas (R42, R43) -/

/-- Granule, minimum and maximum of each chamber's quota in KiB (R42). -/
def quotaRange : Vector (Nat × Nat × Nat) 11 :=
  #v[(1024, 16 * 1024, 512 * 1024), (1024, 64 * 1024, 4096 * 1024), (64, 64, 192 * 1024), (1024, 4 * 1024, 64 * 1024),
     (1024, 16 * 1024, 2048 * 1024), (1024, 4 * 1024, 256 * 1024), (1024, 16 * 1024, 4096 * 1024), (8 * 1024, 8 * 1024, 8 * 1024),
     (1024, 4 * 1024, 16 * 1024), (1024, 2 * 1024, 32 * 1024), (32 * 1024, 32 * 1024, 32 * 1024)]

/-- The chamber lies in DRAM (R42). -/
def inDram (c : Fin 11) : Bool := c != 10

/-- DRAM that the chambers share, in KiB (R30). -/
def sharedDram : Nat := 7680 * 1024

/-- The quotas of a set of descriptors in KiB. -/
def quotas (d : Vector ChamberDesc 11) (c : Fin 11) : Nat := (d.get c).QUOTA_KIB.toNat

/-- Task data mirrored: bytes that the program declares, in KiB rounded up (R43). -/
def dataKib (bytes : Nat) : Nat := (bytes + 1023) / 1024

/-- MIRROR is too small for what a paired module mirrors (R43). -/
def mirrorShort (d : Vector ChamberDesc 11) (paired : Bool) (taskBytes : Nat) : Bool :=
  paired && quotas d 6 < quotas d 0 + quotas d 2 + quotas d 3 + dataKib taskBytes + 16 * 1024

/-- The chamber check of R43: the first code that applies, with the instance of R451. -/
def chamberCheck (d : Vector ChamberDesc 11) (paired : Bool) (taskBytes : Nat) : Option (Nat × Nat × Nat) :=
  let bad (f : Fin 11 → Bool) : Option (Fin 11) := (idx 11).find? f
  match bad fun c => quotas d c < (quotaRange.get c).2.1 || (quotaRange.get c).2.2 < quotas d c with
  | some c => some (0x0202, c.val, 0)
  | none =>
    match bad fun c => quotas d c % (quotaRange.get c).1 != 0 with
    | some c => some (0x0203, c.val, 0)
    | none =>
      if sharedDram < (((idx 11).filter inDram).map (quotas d)).sum then some (0x0201, 0xFFFF, 0)
      else if mirrorShort d paired taskBytes then some (0x0204, 6, 0)
      else none

/-- The DRAM chambers placed one after another in ID order (R43). -/
def placeChambers (d : Vector ChamberDesc 11) : Vector ChamberDesc 11 :=
  Vector.ofFn fun c =>
    let below := ((idx 11).filter fun k => k < c && inDram k).map (quotas d)
    { d.get c with BASE_KIB := if inDram c then BitVec.ofNat 32 below.sum else 0#32 }

/-! ### Commands -/

/-- CFG_CHAMBER_SET writes a chamber descriptor; TIER and BASE_KIB stand (R44, R51). -/
def cmdCfgChamberSet (rq : Request) (s : State) : State :=
  serve Cmd.cfgChamberSet rq s fun s =>
    let d := ChamberDesc.ofBytes rq.payload
    match asFin 11 d.CHAMBER_ID.toNat with
    | none => .refuse 0x0202 d.CHAMBER_ID.toNat 0
    | some c =>
      refuseIf (d.CE_LIMIT == 0) 0x0202 c.val <|
        .done { s with gro.desc := upd s.gro.desc c fun o => { d with TIER := o.TIER, BASE_KIB := o.BASE_KIB } } []

/-- CFG_CHAMBER_GET reads a chamber descriptor, with the base in force (R43, R44, R51). -/
def cmdCfgChamberGet (rq : Request) (s : State) : State :=
  serve Cmd.cfgChamberGet rq s fun s =>
    match asFin 11 (rq.u8 0) with
    | none => .refuse 0x0202 (rq.u8 0) 0
    | some c => .done s { s.gro.desc.get c with BASE_KIB := (s.gro.act.get c).BASE_KIB }.toBytes

/-- The status word (R52). -/
def Grotto.statusWord (g : Grotto) : Nat :=
  pack [(1, bit g.scrubActive), (1, bit g.degraded), (1, bit g.ueSeen), (1, bit g.backpressure), (1, bit g.gateClosed),
        (1, bit g.wwSeen), (1, bit g.floorHit), (1, bit g.mramUe)]

/-- `n` free values drawn one after another (log 13). -/
def State.draws : Nat → State → List Nat × State
  | 0, s => ([], s)
  | n + 1, s =>
    let (v, s) := s.draw
    let (r, s) := State.draws n s
    (v.toNat :: r, s)

/-- DIAG_GROTTO_STATUS reads the status block; how much of a chamber is in use the spec does not define, and
FILL_KIB is a free value (R52, log 28). -/
def cmdDiagGrottoStatus (rq : Request) (s : State) : State :=
  serve Cmd.diagGrottoStatus rq s fun s =>
    let (fills, s) := State.draws 11 s
    .done s (leBytes 4 s.gro.statusWord ++ leBytes 4 0
      ++ (List.zipWith (fun (x : ChamberStat) f => x.toBytes (FILL_KIB := f)) s.gro.stat.toList fills).flatten
      ++ s.gro.linesClass.toList.flatMap fun v => leBytes 8 v.toNat)

/-- DIAG_GROTTO_CLEAR clears the counters, LAST_EVENT_TS and the sticky bits (R52). -/
def cmdDiagGrottoClear (rq : Request) (s : State) : State :=
  serve Cmd.diagGrottoClear rq s fun s =>
    .done { s with
      gro.stat := Vector.replicate 11 ChamberStat.dflt, gro.linesClass := Vector.replicate 4 0#64, gro.mramUe := false,
      gro.floorHit := false, gro.wwSeen := false, gro.ueSeen := false, gro.degraded := false } []

/-- CFG_CHAMBER_SET (R44). -/
def execCfgChamberSet (rq : Request) (s : State) : Host.Outcome State Fault Refusal := .next (s.command rq cmdCfgChamberSet)
/-- CFG_CHAMBER_GET (R51). -/
def execCfgChamberGet (rq : Request) (s : State) : Host.Outcome State Fault Refusal := .next (s.command rq cmdCfgChamberGet)
/-- DIAG_GROTTO_STATUS (R52). -/
def execDiagGrottoStatus (rq : Request) (s : State) : Host.Outcome State Fault Refusal := .next (s.command rq cmdDiagGrottoStatus)
/-- DIAG_GROTTO_CLEAR (R52). -/
def execDiagGrottoClear (rq : Request) (s : State) : Host.Outcome State Fault Refusal := .next (s.command rq cmdDiagGrottoClear)

/-! ### Events of the fabric's clock -/

/-- ARBITRATION_WINDOW_END (R47): after 256 fabric cycles the counts of classes 1 to 3 start again. -/
def execArbitrationWindowEnd (s : State) : Host.Outcome State Fault Refusal :=
  .next { s with gro.winCount := Vector.replicate 4 0 }

end Sys2Proof.Machine
end

