-- ==== Sys2Proof/Machine/Switch.lean ====
section
/-! DEFINITION. The switch of a task to the code of an accepted change package (R135 to R140, R145). -/

namespace Sys2Proof.Machine

/-- The digest of the program now running (R139, R516). -/
def State.runningDigest (s : State) : BitVec 256 :=
  s.olc.running.getD (if s.tk.imageLen = 0 then 0 else Config.sha256 (s.tk.image.read 0 s.tk.imageLen))

/-- A force is dropped at a switch, as a release: IMAGE takes the underlying value with FORCED clear, and a WARNING
record is written (R145). (log 86) -/
def State.dropForce (s : State) (f : ForceEntry) : State :=
  let s := match s.varOf f.HANDLE with
    | some v => s.putForced v.off f.SIZE.toNat f.UNDERLYING.toNat false
    | none => s
  (s.setForces (s.olc.forces.filter fun x => x.HANDLE != f.HANDLE)).noteForce 0xFF 3 3 f f.VALUE.toNat 0

/-- Forces that a package will drop, in the order of the table, each with its reason (R145). -/
def State.dropList (s : State) (p : PkgInfo) : List (ForceEntry × Nat) :=
  s.olc.forces.filterMap fun f =>
    if p.retyped.contains f.HANDLE then some (f, 0x0411) else if p.removed.contains f.HANDLE then some (f, 0x0412) else none

/-- What a program declares of a task, and of the variables that the task owns, taken from another program. -/
def ProgInfo.switchTask (old new : ProgInfo) (t : Fin 128) : ProgInfo :=
  { old with
    tasks := (old.tasks.filter fun d => d.task != t) ++ new.tasks.filter fun d => d.task == t,
    vars := (old.vars.filter fun v => v.owner != some t) ++ new.vars.filter fun v => v.owner == some t }

/-- The worst case that a package gives a task, or the one it has (R139). -/
def PkgInfo.wcetOf (p : PkgInfo) (t : Fin 128) (old : BitVec 32) : BitVec 32 :=
  match p.tasks.find? fun x => x.task == t with
  | some x => x.wcetUs
  | none => old

/-- The change is complete: STATE 3, no holder, the package gone, and the changed program running; with "commit to
flash" it stands in MRAM (R140, R152). (log 91) -/
def State.changeDone (s : State) (p : PkgInfo) : State :=
  { s with
    tk.prog := p.prog,
    olc := { s.olc with
      stat := { s.olc.stat with STATE := 3#8, SESSION := 0xFF#8 }, pkg := [], info := none, pendingTasks := [], before := none,
      running := some p.result, mixed := false },
    sys.stored := s.sys.stored.map fun c => if p.toFlash then { c with prog := p.prog, running := some p.result } else c }

/-- A package that is committed to flash stands in MRAM with what it has made of the program so far, and with the worst
case of a task that has switched (R140). (log 91) -/
def PkgInfo.store (p : PkgInfo) (t : Fin 128) (prog : ProgInfo) (c : StoredCfg) : StoredCfg :=
  if p.toFlash then { c with prog := prog, tasks := upd c.tasks t fun d => { d with WCET_US := p.wcetOf t d.WCET_US } } else c

/-- A standing force whose value a task owns follows its variable: its forced value is written where the variable now
lies (R145). (log 86) -/
def State.followForce (t : Fin 128) (s : State) (f : ForceEntry) : State :=
  match s.varOf f.HANDLE with
  | some v => if v.owner == some t then s.putForced v.off f.SIZE.toNat f.VALUE.toNat true else s
  | none => s

/-- A task that a package affects switches (R137, R140): forces on retyped and removed variables are dropped, the new
code, variables and worst case hold, in MRAM too where the package is committed to flash, and the data mapping is
applied; its breakpoints are cleared. With the last task the change is complete. -/
def State.switchTask (s : State) (t : Fin 128) : State :=
  match s.olc.info with
  | none => s
  | some p =>
    if !s.olc.pendingTasks.contains t then s
    else
      let rest := s.olc.pendingTasks.filter fun x => x != t
      let gone := (s.dropList p).filter fun e =>
        rest.isEmpty || (match s.varOf e.1.HANDLE with | some v => v.owner == some t | none => true)
      let s : State := gone.foldl (fun s e => s.dropForce e.1) s
      let prog := if rest.isEmpty then p.prog else s.tk.prog.switchTask p.prog t
      let s : State := { s with
        olc.pendingTasks := rest, tk.prog := prog,
        tk.task := upd s.tk.task t fun (k : Task) => { k with desc := { k.desc with WCET_US := p.wcetOf t k.desc.WCET_US } },
        sys.stored := s.sys.stored.map (p.store t prog),
        dbg.brk := s.dbg.brk.map fun (b : BreakEntry) => if b.TASK_ID.toNat = t.val then BreakEntry.dflt else b }
      let stores := Config.packageMap (s.olc.pkg.read 0 s.olc.stat.BYTES_LOADED.toNat) t s.gro.mem
      let s : State := stores.foldl (fun (s : State) e => s.writeChamber e.1 e.2.1 e.2.2) s
      let s : State := s.olc.forces.foldl (State.followForce t) s
      if rest.isEmpty then s.changeDone p else s

end Sys2Proof.Machine
end

