-- ==== Sys2Proof/Machine/Matrix.lean ====
section
/-! DEFINITION. The trip matrix of the safety island (R216, R231 to R237): its sources, its evaluation, the QL lines, and what
a kill of motion stop-all does. -/

namespace Sys2Proof.Machine

/-! ### Which module runs what -/

/-- RUN, and no power-fail sequence. -/
def State.inRun (s : State) : Bool := s.sys.mode == .run && s.pow.pfStage == .idle

/-- The task runs on this module: its owner's, but for what a swap has handed over (R389). -/
def State.hasTask (s : State) (t : Fin 128) : Bool :=
  s.inRun && (if s.owner then !s.pr.handed.contains t else s.pr.swapping && s.pr.handed.contains t)

/-- The loops run on this module: its owner's, and the other's once a swap has handed them over (R168, R389). (log 111) -/
def State.runsLoops (s : State) : Bool := s.inRun && s.owner != s.pr.swapping

/-! ### Sources (R231) -/

/-- A list of bits as a number, the first the lowest. -/
def ofBits (l : List Bool) : Nat := l.foldr (fun b n => bit b + 2 * n) 0

/-- A cyclic safety-class task has made no commit for WD_MULT of its periods; before its first commit the time runs from
RUN entry (R231). (log 76, 111) -/
def State.wdExpired (s : State) (x : SafetySet) (t : Fin 128) : Bool :=
  let k := s.tk.task.get t
  k.desc.KIND == 1#8 && k.desc.SAFETY == 1#1 && s.hasTask t
    && s.since (k.commitAt.getD s.sys.runAt) (us (x.WD_MULT.toNat * k.desc.PERIOD_US.toNat))

/-- WD_TASK, source 28 (R231). (log 111) -/
def State.wdSource (s : State) : Bool :=
  match s.validSet with
  | some x => (idx 128).any (s.wdExpired x)
  | none => false

/-- SFE_FAULT, source 29: the copies disagree, or one is missing (R217). (log 117) -/
def State.sfeSource (s : State) : Bool := s.isl.sfeFault || (s.dio.link.get 0).lost || (s.dio.link.get 2).lost

/-- The axis sources, bits 7:0 (R227, R230). -/
def Island.axisSources (i : Island) : List Bool := i.axis.toList.map fun a => a.latched || a.overdue

/-- The pair sources, bits 23:8, of the pairs in use (R219). -/
def Island.pairSources (i : Island) (x : SafetySet) : List Bool :=
  (idx 16).map fun k => (x.PAIR.get k).KIND != 0#8 && (i.pair.get k).source

/-- The 32 sources asserted now (R231). -/
def State.sourcesNow (s : State) (x : SafetySet) : BitVec 32 :=
  BitVec.ofNat 32 (ofBits (s.isl.axisSources ++ s.isl.pairSources x ++ (idx 4).map (fun k => s.isl.swt.getLsbD k.val)
    ++ [(idx 128).any (s.wdExpired x), s.sfeSource, s.sys.supervisorDead, s.isl.so.toList.any fun o => o.fault]))

/-- PAIR_FAULT, one bit per pair (R220, R248). -/
def Island.pairFault (i : Island) : Nat := ofBits (i.pair.toList.map fun p => p.disc || p.test || p.cross)

/-- AXIS_FAULT, one bit per axis (R227, R248). -/
def Island.axisFault (i : Island) : Nat := ofBits i.axisSources

/-- SO_FAULT, one bit per channel (R224, R248). -/
def Island.soFault (i : Island) : Nat := ofBits (i.so.toList.map fun o => o.fault)

/-- KILLED, one bit per target (R248). -/
def Island.killedBits (i : Island) : Nat := ofBits i.killed.toList

/-- A SAFETY record of a latched fault: NEW the fault words of the status (R520). -/
def State.noteSafeFault (s : State) (inst detail : Nat) : State :=
  s.event 6 0x0881 inst 0 (s.isl.pairFault + 65536 * s.isl.axisFault + 16777216 * s.isl.soFault) detail

/-! ### Evaluation (R233) -/

/-- f(T) over the asserted sources; bit 30 is always in OR_MASK (R233). (log 110) -/
def TargetEntry.trips (e : TargetEntry) (src : BitVec 32) : Bool :=
  (src &&& (e.OR_MASK ||| 0x40000000#32)) != 0#32
    || (e.AND0_MASK != 0#32 && src &&& e.AND0_MASK == e.AND0_MASK)
    || (e.AND1_MASK != 0#32 && src &&& e.AND1_MASK == e.AND1_MASK)

/-- A target's state after an evaluation (R233): killed where f(T) holds, else standing killed only where latched. (log 110) -/
def TargetEntry.after (e : TargetEntry) (src : BitVec 32) (old : Bool) : Bool := e.trips src || (old && e.LATCH == 1#1)

/-- The level of a QL line: high only in RUN, with a signed set, while both channels permit its target, and not on a
QUARANTINED module (R24, R216, R236, R398). (log 110) -/
def State.qlLevel (s : State) (t : Fin 8) : Bool :=
  s.inRun && s.validSet.isSome && !s.isl.killed.get ⟨t.val, by omega⟩ && !s.isl.killedB.get ⟨t.val, by omega⟩
    && !(s.paired && s.pr.role == .quarantined)

/-- The links whose re-arm a QL target needs: an SO comes over both copies, a DIO group over its own link (R21, R232). -/
def linksOf (t : Fin 8) : List (Fin 4) := if t.val < 4 then [0, 2] else [⟨t.val % 4, by omega⟩]

/-- A QL line goes high: what hangs on it needs the re-arm of R23, by a commit after this (R234). -/
def State.lineUp (s : State) (t : Fin 8) : State :=
  { s with
    isl.releasedAt := put s.isl.releasedAt t s.now,
    dio.link := (linksOf t).foldl (fun l n => upd l n fun k => { k with rearmWait := true, reArm := false, clearRun := 0 }) s.dio.link }

/-- The QL lines take their levels (R24). (log 56) -/
def State.setLines (s : State) : State :=
  let up := (idx 8).filter fun t => s.qlLevel t && !s.dio.ql.getLsbD t.val
  let s := { s with dio.ql := BitVec.ofNat 8 (ofBits ((idx 8).map s.qlLevel)) }
  up.foldl State.lineUp s

/-- A brake test ends without a result: the brake stays applied and BT_DUE stands (R230). (log 116) -/
def State.abortTest (s : State) : State :=
  match s.isl.bt with
  | none => s
  | some b =>
    let s := { s with
      isl.bt := none, isl.so := (upd s.isl.so b.so fun o => { o with btResult := .aborted, cmd := false }),
      mot.axis := s.mot.axis.map fun (x : Axis) => { x with btHold := false, vel := if x.btHold then 0 else x.vel } }
    s.event 6 0x0883 b.so.val 0 2

/-- Motion stop-all: every axis stops at once, and a brake test is aborted (R232, R235, R314). -/
def State.motionKill (s : State) : State := (s.stopAxes false).abortTest

/-- A kill is counted per target and recorded (R248, R520). -/
def State.noteTrip (s : State) (old src count : Nat) : State :=
  ({ s with isl.stat := { s.isl.stat with
      TRIP_COUNT := satAdd s.isl.stat.TRIP_COUNT count, LAST_TRIP_TS := s.ts, LAST_TRIP_SOURCES := BitVec.ofNat 32 src } }).event
    6 0x0880 0xFF old src

/-- The island's state goes to the peer (R236, R379). -/
def State.mirrorIsland (s : State) : State :=
  s.mirror (.island s.isl.killed (BitVec.ofNat 16 s.isl.pairFault) (BitVec.ofNat 8 s.isl.axisFault))

/-- Both channels evaluate every target (R216, R233). Without a valid signed set nothing is evaluated, and every line stays
in kill (R236, R239). (log 110) -/
def State.evalMatrix (s : State) : State :=
  if s.sys.phase != .serving then s
  else match s.validSet with
  | none => s.setLines
  | some x =>
    let src := s.sourcesNow x
    let old := s.isl.killed
    let new := Vector.ofFn fun t => (x.TARGET.get t).after src (old.get t)
    let trips := ((idx 10).filter fun t => new.get t && !old.get t).length
    let before := s.isl.killedBits
    let s := { s with
      isl.sources := src, isl.stat := { s.isl.stat with SOURCES_SEEN := s.isl.stat.SOURCES_SEEN ||| src },
      isl.killed := new, isl.killedB := new }
    let s := if trips = 0 then s else s.noteTrip before src.toNat trips
    let s := s.setLines
    let s := if new.get 8 && !old.get 8 then s.motionKill else s
    if new == old then s else s.mirrorIsland

/-- Entry to RUN, but not at a takeover: every target is killed, and pairs with START_TEST need their demand cycle (R220,
R234, R236). (log 110) -/
def State.killForRun (s : State) : State :=
  let x := s.safetySet
  ({ s.killAll with isl.pair := Vector.ofFn fun k =>
      let p := s.isl.pair.get k
      if (x.PAIR.get k).START_TEST == 1#1 then { p with needCycle := true, source := true, bothDemand := false, okA := false, okB := false }
      else { p with needCycle := false } }).mirrorIsland

end Sys2Proof.Machine
end

