-- ==== Sys2Proof/Machine/SwapCore.lean ====
section
/-! DEFINITION. The role swap up to its hand-over (R388, R389), and the signatures of RETAIN (R394). -/

namespace Sys2Proof.Machine

/-! ### The peer -/

/-- No valid frame has arrived on the pair link for 75 µs (R382). -/
def State.pairSilent (s : State) : Bool :=
  match s.pr.lastFrame with
  | some a => s.since a (us 75)
  | none => true

/-- The role that the peer's last heartbeat carried. -/
def State.peerRole (s : State) : Role :=
  match s.pr.peer with
  | some p => p.role
  | none => .none

/-! ### When a swap starts (R388) -/

/-- SWAP_REQ stands while in H3, with H3_SWAP set, on an ACTIVE module (R70). -/
def State.swapReqNow (s : State) : Bool :=
  s.pow.heat == .h3 && s.pow.act.H3_SWAP == 1#8 && s.paired && s.pr.role == .active

/-- The peer meets the conditions of R388: in RUN at E0, STANDBY with an equal epoch, at H0 or H1, without a fault. -/
def State.peerFit (s : State) : Bool :=
  match s.pr.peer with
  | some p =>
    p.mode == .run && p.energy == .e0 && p.role == .standby && p.epoch == s.pr.epoch && (p.heat == .h0 || p.heat == .h1) && !p.faulty
  | none => false

/-- A swap is refused (R388, R395). (log 144) -/
def State.swapBlocked (s : State) : Bool :=
  !s.inRun || s.pow.energy != .e0 || s.pairSilent || !s.peerFit || s.pr.stat.DIVERGE_FAULT == 1#1
    || s.olc.stat.STATE == 1#8 || s.olc.stat.STATE == 2#8 || s.isl.bt.isSome
    || (idx 4).any fun l => (s.dbg.lane.get l).stat.SPLIT_PENDING == 1#1

/-- A swap is accepted, waits for its axes or its marker, or runs (R406, R407). -/
def State.swapPendingNow (s : State) : Bool := s.pr.swapping || s.pr.swapArm || s.pr.swapWait.isSome

/-- Every used axis is at rest or DISABLED (R389). -/
def State.axesRest (s : State) : Bool := s.mot.axis.toList.all fun x => x.desc.USED == 0#1 || x.vel == 0 || x.state == .disabled

/-- An accepted swap that waits for its axes goes on to its marker once they rest (R389). -/
def State.afterRest (s : State) : State :=
  if s.pr.swapWait.isSome && s.axesRest then { s with pr.swapWait := none, pr.swapArm := true } else s

/-- A swap is accepted (R389). (log 144) -/
def State.acceptSwap (s : State) (byReq : Bool) : State :=
  { s with pr.swapWait := some s.now, pr.swapByReq := byReq, pr.retryAt := none, pr.stat := { s.pr.stat with SWAP_POSTPONED := 0#1 } }.afterRest

/-- A swap that cannot take place now: a timed one is postponed for 60 s, one of SWAP_REQ for 10 s (R388, R389). (log 144) -/
def State.postponeSwap (s : State) (byReq : Bool) : State :=
  let st := s.pr.stat
  { s with
    pr.swapWait := none, pr.swapByReq := byReq, pr.retryAt := some (s.now + sec (if byReq then 10 else 60)),
    pr.stat := { st with SWAP_POSTPONED := if byReq then st.SWAP_POSTPONED else 1#1 } }

/-- A swap that the module starts by itself is accepted or postponed (R388). (log 144) -/
def State.trySwap (s : State) (byReq : Bool) : State := if s.swapBlocked then s.postponeSwap byReq else s.acceptSwap byReq

/-- SWAP_REQ starts a swap under SWAP_MODE 0 (R388). -/
def State.swapOnRequest (s : State) : State :=
  if s.pow.swapReq && s.pr.act.SWAP_MODE == 0#8 && s.pr.retryAt.isNone && !s.swapPendingNow then s.trySwap true else s

/-! ### Signatures (R394) -/

/-- Bytes of RETAIN that its quota gives. -/
def State.retainBytes (s : State) : Nat := (s.gro.act.get 2).QUOTA_KIB.toNat * 1024

/-- CRC-32 over the address and content of a line. -/
def lineSig (m : Memory) (a : Nat) : BitVec 32 := crc32 (leBytes 8 a ++ m.read a 64)

/-- The signature of a 64 KiB block: the XOR over its lines. -/
def blockSig (m : Memory) (b : Nat) : BitVec 32 := ((List.range 1024).map fun k => lineSig m (65536 * b + 64 * k)).foldl (· ^^^ ·) 0#32

/-- The signatures of every block of RETAIN. -/
def State.signatures (s : State) : List (Nat × BitVec 32) :=
  (List.range (s.retainBytes / 65536)).map fun b => (b, blockSig (s.gro.mem.get 2) b)

/-- The signatures that are due after a commit marker are sent (R397). -/
def State.dueSignatures (s : State) : State :=
  if s.pr.sigDue && s.owner then { s.pairSend (.signatures s.signatures) with pr.sigDue := false } else s

/-! ### Handing outputs over (R389 to R392) -/

/-- The AIO channels with PAIR_PEER whose commands lie among offsets of IMAGE. -/
def State.pairAo (s : State) (offs : List Nat) : List (Fin 16) :=
  (idx 16).filter fun c => (s.aio.get c).act.PAIR_PEER == 1#1 && offs.contains (0x1C0 + 4 * c.val)

/-- The DO channels with PAIR_PEER whose commands lie among offsets of IMAGE. -/
def State.pairDo (s : State) (offs : List Nat) : List (Fin 32) :=
  (idx 32).filter fun c => (s.dio.act.get c).PAIR_PEER == 1#1 && offs.contains (0x180 + c.val)

/-- The pair-parallel SO channels that a task commits (R392). -/
def State.pairSo (s : State) (island : List SafeVal) : BitVec 4 :=
  island.foldl (fun m v => match v with
    | .so c _ => if (s.safetySet.SO.get c).PAIR_WIRING == 1#8 then m ||| BitVec.ofNat 4 (2 ^ c.val) else m
    | _ => m) 0#4

/-- The crossfades of channels begin now, rising or falling (R391). -/
def State.fade (s : State) (cs : List (Fin 16)) (rising : Bool) : State :=
  { s with pr.xfade := cs.map (fun c => (c, s.now, rising)) ++ s.pr.xfade.filter fun e => !cs.contains e.1 }

/-- What a program's task writes: its offsets in IMAGE, and what it commits to the island. -/
def State.writes (s : State) (t : Fin 128) : List Nat × List SafeVal :=
  match s.tk.prog.tasks.find? fun d => d.task == t with
  | some d => (d.outputs.map fun o => o.off, d.island)
  | none => ([], [])

/-- The old owner hands a task's outputs over: paired DO and SO channels are held until the new owner's first fresh
commit, and paired currents fall (R390 to R392). -/
def State.letGo (s : State) (t : Fin 128) : State :=
  let (offs, isl) := s.writes t
  { s.fade (s.pairAo offs) false with
    pr.releaseDo := s.pr.releaseDo ++ s.pairDo offs, pr.releaseSo := s.pr.releaseSo ||| s.pairSo isl }

/-- AIO commands that used loops write. -/
def State.loopOffs (s : State) : List Nat :=
  s.lp.loop.toList.filterMap fun l =>
    if l.desc.LAW != 0#8 && l.desc.OUT_DST.toNat / 2 ^ 28 = 1 then some (0x1C0 + 4 * (l.desc.OUT_DST.toNat % 16)) else none

/-- The used event tasks. -/
def State.eventTasks (s : State) : List (Fin 128) := (idx 128).filter fun t => (s.tk.task.get t).desc.KIND == 2#8

/-- The context of tasks that this module no longer runs: idle, off their lanes, without cycle or trigger. -/
def State.idleTasks (s : State) (ts : List (Fin 128)) : State :=
  { s with
    tk.task := Vector.ofFn fun t =>
      let k := s.tk.task.get t
      if ts.contains t then
        { k with run := if k.run = .stopped then .stopped else .idle, cycleOpen := false, finished := none, trigger := none, gapUntil := none, bufHeld := false,
                 restoreAt := none, reexec := false, consecOvr := 0, started := false }
      else k,
    tk.laneTask := s.tk.laneTask.map fun x => match x with
      | some t => if ts.contains t then none else some t
      | none => none }

/-- No sample of a loop is under way. -/
def State.dropSamples (s : State) : State :=
  { s with lp.loop := s.lp.loop.map fun l => { l with sample := none, result := false } }

/-- At the marker after an accepted swap the signatures are sent, and event tasks and loops hand over at once (R389,
R394). -/
def State.startHandover (s : State) : State :=
  if s.pr.swapArm && s.owner then
    let ts := s.eventTasks
    let s := (s.pairSend (.signatures s.signatures)).pairSend .swap
    let s := ts.foldl State.letGo s
    let s := (s.fade (s.pairAo s.loopOffs) false).dropSamples.idleTasks ts
    { s with pr.swapArm := false, pr.swapping := true, pr.handed := ts }
  else s

end Sys2Proof.Machine
end

