-- ==== Sys2Proof/Machine/Dispatcher.lean ====
section
/-! DEFINITION. The dispatcher's operations (R77 to R101): the ladder, lanes, the decision, latch and commit, triggers, the
task fault, and the request for failover. -/

namespace Sys2Proof.Machine

/-! ### Tasks -/

/-- Task `t`. -/
def State.task (s : State) (t : Fin 128) : Task := s.tk.task.get t

/-- Task `t` changed. -/
def State.setTask (s : State) (t : Fin 128) (f : Task → Task) : State := { s with tk.task := upd s.tk.task t f }

/-- What the program declares of a task (R516). -/
def State.declOf (s : State) (t : Fin 128) : Option TaskDecl := s.tk.prog.tasks.find? fun d => d.task == t

/-- The outputs that the program declares for a task. -/
def State.outputsOf (s : State) (t : Fin 128) : List OutDecl :=
  match s.declOf t with
  | some d => d.outputs
  | none => []

/-! ### The ladder (R94 to R96) -/

/-- The effects of the ladder, from least to most restrictive (R96). -/
inductive Effect where
  | run | halved | stretched | held | stopped
  deriving DecidableEq, Repr

/-- The effect on a task at a heat and an energy level (R94, R95). -/
def taskEffect (d : TaskDesc) (heat energy : Nat) : Effect :=
  if 3 ≤ energy then .stopped
  else if d.SAFETY = 1#1 || d.PRIORITY.toNat < 8 then .run
  else if d.PRIORITY.toNat < 24 then (if 3 ≤ heat then .held else .run)
  else if 3 ≤ heat || 1 ≤ energy then .held
  else if heat = 2 then .stretched
  else .run

/-- The effect on the Crucible (R95). -/
def cruEffect (heat energy : Nat) : Effect :=
  if 3 ≤ energy then .stopped else if 3 ≤ heat then .held else if 1 ≤ heat then .halved else .run

/-- The effect on a task now (R73, R97). (log 77) -/
def State.effectOn (s : State) (t : Fin 128) : Effect := taskEffect (s.task t).desc s.heatNow s.energyNow

/-- The effect holds work back. (log 77) -/
def Effect.holds : Effect → Bool
  | .held | .stopped => true
  | .run | .halved | .stretched => false

/-! ### Lanes (R79, R122) -/

/-- The lane of a stream: entries 0 to 3 are stream 0, entries 4 to 7 stream 1. -/
def laneOf (e : Fin 8) : Fin 4 := ⟨e.val % 4, by omega⟩

/-- Streams in the order of R80 and R122: by lane, stream 0 first. -/
def streamOrder : List (Fin 8) := [0, 4, 1, 5, 2, 6, 3, 7]

/-- The open cycle of the task has begun on a lane. -/
def Task.begun (k : Task) : Bool := k.cycleOpen && k.started && k.latchAt ≤ k.startAt

/-- The task may run on a stream (R79, R121, R124). -/
def State.allowed (s : State) (t : Fin 128) (e : Fin 8) : Bool :=
  let k := s.task t
  let l := laneOf e
  let x := (s.dbg.lane.get l).stat
  k.desc.LANE_MASK.getLsbD l.val && x.LANE_FAULT == 0#1 && (e.val < 4 || x.SPLIT == 1#1)
    && (k.desc.SAFETY == 0#1
        || (x.SPLIT == 0#1 && (if k.begun then k.stat.LANE.toNat == l.val else x.SPLIT_PENDING == 0#1)))

/-- The stream that runs a task. -/
def State.streamOf (s : State) (t : Fin 128) : Option (Fin 8) := streamOrder.find? fun e => s.tk.laneTask.get e == some t

/-- The task leaves its stream. -/
def State.offLane (s : State) (t : Fin 128) : State :=
  { s with tk.laneTask := s.tk.laneTask.map fun x => if x == some t then none else x }

/-! ### The latch (R83) -/

/-- One value of the input set as the latch copies it: data, quality and age (R26, R83). -/
def State.latchOne (s : State) (i : Nat × Nat) : Latched :=
  let w := s.writtenAt i.1
  { val := ⟨i.1, s.img.read i.1 i.2, s.qualityAt i.1⟩, age := if w.toNat ≤ s.ts.toNat then s.ts.toNat - w.toNat else 0 }

/-- A held variable write is applied (R129). -/
def State.applyVar (s : State) (w : BitVec 32 × BitVec 64) : State :=
  match s.varOf w.1 with
  | some v => s.writeChamber v.chamber v.off (leBytes v.size.toNat w.2.toNat)
  | none => s

/-- The latch of a task: its input set is copied, held variable writes are applied, and the cycle's checkpoint
is taken with empty undo logs (R83, R116, R129). -/
def State.latch (s : State) (t : Fin 128) : State :=
  let snap := match s.declOf t with
    | some d => d.inputs.map s.latchOne
    | none => []
  let ws := (s.task t).varWrites
  let s := s.setTask t fun k =>
    { k with
      snapshot := snap, prevLatchAt := k.latchAt, latchAt := s.now, cycleOpen := true, finished := none, varWrites := [],
      codeOfs := 0#32, ckptOfs := 0#32, data0 := [], undoRetain := [], heldCycle := false, undoOverflow := false, reexec := false, restoreAt := none }
  let s := ws.foldl State.applyVar s
  { s with dbg.temper := upd s.dbg.temper t fun x =>
      { x with cycles := x.cycles + 1, stat := { x.stat with UNDO_OVERFLOW := BitVec.ofNat 1 (bit (s.task t).undoOverflow) } } }

/-! ### The decision (R80) -/

/-- A task's place among the READY ones: priority, ready time, number (R80). -/
def State.before (s : State) (a b : Fin 128) : Bool :=
  let x := s.task a
  let y := s.task b
  x.desc.PRIORITY.toNat < y.desc.PRIORITY.toNat
    || (x.desc.PRIORITY == y.desc.PRIORITY && (x.readyAt < y.readyAt || (x.readyAt == y.readyAt && a.val < b.val)))

/-- A list with one element put before the first that it precedes. -/
def insertBy {α : Type} (lt : α → α → Bool) (x : α) : List α → List α
  | [] => [x]
  | y :: r => if lt x y then x :: y :: r else y :: insertBy lt x r

/-- The tasks in state READY in their order (R80). (log 73) -/
def State.readyTasks (s : State) : List (Fin 128) :=
  ((idx 128).filter fun t => (s.task t).run == .ready).foldr (insertBy s.before) []

/-- The task starts, or resumes, on a stream; an event task latches when it is started (R80, R89). -/
def State.startOn (s : State) (t : Fin 128) (e : Fin 8) : State :=
  let fresh := !(s.task t).begun
  let s := if fresh && (s.task t).desc.KIND == 2#8 then (s.switchTask t).latch t else s
  let s := s.setTask t fun k =>
    { k with
      run := .running, stat := { k.stat with LANE := BitVec.ofNat 2 (laneOf e).val },
      startAt := if fresh then s.now else k.startAt, started := true }
  { s with tk.laneTask := put s.tk.laneTask e (some t) }

/-- The task on a stream goes back to READY with its old ready time (R80). (log 73) -/
def State.preempt (s : State) (t : Fin 128) : State := (s.setTask t fun k => { k with run := .ready }).offLane t

/-- Among streams that are all taken, the one whose task has the numerically highest priority, the first among
equals; a task that is being restored is not preempted (R80, R120). -/
def State.victim (s : State) (l : List (Fin 8)) : Option (Fin 8 × Fin 128) :=
  l.foldl (fun best e =>
    match s.tk.laneTask.get e with
    | some v =>
      if (s.task v).restoreAt.isSome then best
      else match best with
        | some (_, b) => if (s.task b).desc.PRIORITY.toNat < (s.task v).desc.PRIORITY.toNat then some (e, v) else best
        | none => some (e, v)
    | none => best) none

/-- One READY task finds its lane, if it can (R80). (log 73) -/
def State.placeTask (s : State) (t : Fin 128) : State :=
  let l := streamOrder.filter (s.allowed t)
  match l.find? fun e => (s.tk.laneTask.get e).isNone with
  | some e => s.startOn t e
  | none =>
    match s.victim l with
    | some (e, v) => if (s.task t).desc.PRIORITY.toNat < (s.task v).desc.PRIORITY.toNat then (s.preempt v).startOn t e else s
    | none => s

/-- A decision of the dispatcher (R80). (log 73) -/
def State.dispatch (s : State) : State :=
  if s.inRun then s.readyTasks.foldl State.placeTask { s with tk.decisions := s.tk.decisions + 1 } else s

/-! ### Failover (R387) -/

/-- The pair status word's bits (R406). -/
def State.pairStatus (s : State) : List Byte :=
  s.pr.stat.toBytes (ROLE := s.pr.role.num) (PEER_ROLE := match s.pr.peer with | some p => p.role.num | none => 7)
    (LINK_UP := bit (match s.pr.lastFrame with | some a => s.now ≤ a + us 75 | none => false)) (PEER_OK_IN := bit s.pr.peerOkIn)
    (ROLE_OUT := bit s.pr.roleOut) (SWAP_PENDING := bit (s.pr.swapping || s.pr.swapWait.isSome)) (EPOCH := s.pr.epoch.toNat)
    (PEER_EPOCH := s.pr.peerEpoch.toNat)

/-- The ALARM record of a pair fault (R377, R378, R382). -/
def State.pairAlarm (s : State) : State := s.event 4 0x0C81 0xFF 0 (u32 s.pairStatus 0)

/-- A failover request: a yield where the peer is STANDBY, else a record alone (R387). (log 85) -/
def State.requestFailover (s : State) : State :=
  if s.paired && s.pr.role == .active && s.peerRole == .standby then
    { s.pairSend .yield with pr.yielding := true }
  else s.pairAlarm

/-! ### The commit (R84 to R87, R100) -/

/-- The next output commit that writes an output of a link sets RE_ARM while the link waits (R23, R265). (log 56, 98) -/
def State.rearmLink (s : State) (n : Fin 4) : State :=
  let k := s.dio.link.get n
  if k.rearmWait && !k.reArm then { s with dio.link := put s.dio.link n { k with reArm := true, clearRun := 0 } } else s

/-- Two byte ranges meet. -/
def meets (a n b m : Nat) : Bool := a < b + m && b < a + n

/-- A written range of IMAGE re-arms the links whose DO or AIO commands it holds (R23, R272, R291). (log 56) -/
def State.noteOutput (s : State) (off len : Nat) : State :=
  (idx 4).foldl (fun s n =>
    if meets off len (0x180 + 8 * n.val) 8 || meets off len (0x1C0 + 16 * n.val) 16 then s.rearmLink n else s) s

/-- The table with a key's entry written. -/
def assocPut {α β : Type} [DecidableEq α] (l : List (α × β)) (k : α) (v : β) : List (α × β) := (k, v) :: l.filter fun e => e.1 != k

/-- A transmit object is written by its task's commit, bytes 0x00 to 0x4F, and becomes pending as R327 says;
what replaces a value not yet sent is counted (R86, R327, R328). -/
def State.canStore (s : State) (c : Fin 4) (k : BitVec 16) (bytes : List Byte) : State :=
  let off := canObjOff k.toNat
  let s := s.setMem 5 ((s.gro.mem.get 5).write off (bytes.take 80))
  let seq := BitVec.ofNat 16 ((s.gro.mem.get 5).num (off + 6) 2)
  match s.can.objects.find? fun o => o.OBJ_NO == k && o.CTRL_ID.toNat == c.val && o.DIR == 2#8 with
  | none => s
  | some o =>
    { s with can.ctrl := upd s.can.ctrl c fun x =>
        let changed := (x.lastTxSeq.lookup k).getD 0#16 != seq
        { x with
          lastTxSeq := assocPut x.lastTxSeq k seq,
          stat := if x.pendingTx.contains k then { x.stat with TX_REPLACED := sat x.stat.TX_REPLACED } else x.stat,
          pendingTx := if changed && o.ON_COMMIT == 1#1 then x.pendingTx.insert k else x.pendingTx } }

/-- What a safety-class task commits to the island (R222, R227, R229, R231). -/
def State.commitIsland (s : State) (v : SafeVal) : State :=
  match v with
  | .so c on => (({ s with isl.so := upd s.isl.so c fun o => { o with cmd := on } }).rearmLink 0).rearmLink 2
  | .enable a bits => { s with isl.axis := upd s.isl.axis a fun x => { x with enable := bits } }
  | .brakeTest c on => { s with isl.so := upd s.isl.so c fun o => { o with btRequest := on } }
  | .swt k on => { s with isl.swt := BitVec.ofNat 4 (if on then s.isl.swt.toNat ||| 2 ^ k.val else s.isl.swt.toNat &&& (15 - 2 ^ k.val)) }

/-- A station takes outputs from the task's open cycle: PRESENT since before the cycle's latch (R100, R101). A
station without a descriptor is not held back (log 30). -/
def State.delivers (s : State) (t : Fin 128) (a : BitVec 16) : Bool :=
  match s.tk.remotes.find? fun r => r.desc.STATION_ADDR == a with
  | some r => r.state == .present && r.presentAt ≤ (s.task t).latchAt
  | none => true

/-- One output value is published: IMAGE, the CAN object it is sent in, and the re-arm of its link (R84, R86). -/
def State.publishOut (s : State) (t : Fin 128) (v : ImgVal) : State :=
  let s := (s.writeVal v).noteOutput v.off v.bytes.length
  match (s.outputsOf t).find? fun o => o.off == v.off with
  | some o => match o.canObj with
    | some (c, k) => s.canStore c k v.bytes
    | none => s
  | none => s

/-- Lines of an output block (R84). -/
def outLines (vs : List ImgVal) : Nat := ((vs.map fun v => v.bytes.length).sum + 63) / 64

/-- The commit of a task: a new owner's first ends restricted operation of its CAN controllers (R332); outputs published, what it commits to the island, the counts and flags of R90, R91,
R93 and R103, what remote stations may be sent (R100), and the commit marker with what follows it (R380,
R389, R397). -/
def State.commit (s : State) (t : Fin 128) (outs : List ImgVal) (island : List SafeVal) : State :=
  let s := outs.foldl (fun s v => s.publishOut t v) s.canTakeover
  let s := if island.isEmpty then s else (island.foldl State.commitIsland s).evalMatrix
  let stations := ((s.outputsOf t).filterMap fun o => o.station).eraseDups
  let send := stations.filter (s.delivers t)
  let lost := send.length < stations.length
  let big := 8 < outLines outs
  let s := s.setTask t fun k =>
    { k with
      cycleOpen := false, finished := none, missed := 0, bufHeld := false, sentFrom := send, commitAt := some s.now,
      bufNamed := if big then k.bufNamed + 1 else k.bufNamed, bufFreeAt := if big then s.now + us 50 else k.bufFreeAt,
      stat := { k.stat with
        OVERRUN := 0#1, ABANDONED := 0#1, CYCLE_COUNT := sat k.stat.CYCLE_COUNT, UNDELIVERED := BitVec.ofNat 1 (bit lost),
        UNDELIVERED_COUNT := if lost then sat k.stat.UNDELIVERED_COUNT else k.stat.UNDELIVERED_COUNT } }
  ((s.mirror (.marker t outs island (s.now - (s.task t).latchAt) (s.olc.pendingTasks.contains t))).startHandover).dueSignatures

/-- A missed commit; the second in a row sets STALE on the task's outputs (R93). (log 78) -/
def State.missCommit (s : State) (t : Fin 128) : State :=
  let s := s.setTask t fun k => { k with missed := k.missed + 1 }
  if (s.task t).missed = 2 then
    (s.outputsOf t).foldl (fun s o => s.setQuality o.off (s.qualityAt o.off ||| qStale)) s
  else s

/-- The safe states of a task's outputs, as its commit publishes them (R92). -/
def safeOuts (outs : List OutDecl) : List ImgVal := outs.map fun o => ⟨o.off, o.safe, qGood⟩

/-- Every output of a task takes its safe state at once (R92). (log 76) -/
def State.commitSafe (s : State) (t : Fin 128) : State :=
  match s.declOf t with
  | some d => s.commit t (safeOuts d.outputs) d.island
  | none => s

/-- The task's context is stopped: off its lane, with no cycle, no trigger and no restore. -/
def State.stopTask (s : State) (t : Fin 128) : State :=
  (s.setTask t fun k =>
    { k with run := .stopped, cycleOpen := false, finished := none, trigger := none, gapUntil := none, bufHeld := false,
             restoreAt := none, reexec := false, consecOvr := 0 }).offLane t

/-- The task's status word (R103). -/
def Task.statusWord (k : Task) : Nat := u32 (k.stat.toBytes (STATE := k.run.num) (ACTUAL_PERIOD_US := 0)) 0

/-- A task fault (R92): stopped, safe states committed, FAULT and MEMFAULT, a TRIP record, and a request for
failover where it is configured and the module is ACTIVE. (log 76) -/
def State.taskFault (s : State) (t : Fin 128) (mem : Bool) (failover : Bool := true) : State :=
  let s := (s.stopTask t).commitSafe t
  let s := s.setTask t fun k =>
    { k with run := .stopped, stat := { k.stat with FAULT := 1#1, MEMFAULT := if mem then 1#1 else k.stat.MEMFAULT } }
  let s := s.event 5 0x0380 t.val 0 (s.task t).statusWord
  if failover && (s.task t).desc.FAILOVER_ON_FAULT == 1#1 && s.paired && s.pr.role == .active then s.requestFailover else s

/-! ### Event tasks (R88, R89) -/

/-- The event task becomes READY now (R89). -/
def State.makeReady (s : State) (t : Fin 128) : State :=
  s.setTask t fun k => { k with run := .ready, readyAt := s.now, trigger := none, gapUntil := none }

/-- The end of the minimum gap after the task's last start (R89). (log 75) -/
def Task.gapEnd (k : Task) : Nat := if k.started then k.startAt + us k.desc.MIN_GAP_US.toNat else 0

/-- An outstanding trigger of an idle event task runs it, at once or when its gap ends; not while the task is
held (R89, R96). (log 75) -/
def State.runOutstanding (s : State) (t : Fin 128) : State :=
  let k := s.task t
  if k.trigger.isSome && k.run == .idle && !k.cycleOpen && !(s.effectOn t).holds then
    if k.gapEnd ≤ s.now then s.makeReady t else s.setTask t fun k => { k with gapUntil := some k.gapEnd }
  else s

/-- A trigger reaches an event task (R89, R96). (log 75) -/
def State.triggerTask (s : State) (t : Fin 128) : State :=
  let k := s.task t
  if !s.hasTask t || k.stat.FAULT == 1#1 then s
  else
    let held := (s.effectOn t).holds
    let s := s.setTask t fun k =>
      { k with stat := { k.stat with HELD := BitVec.ofNat 1 (bit held), HELD_COUNT := if held then sat k.stat.HELD_COUNT else k.stat.HELD_COUNT } }
    if k.trigger.isSome then s.setTask t fun k => { k with stat := { k.stat with EVT_COALESCED := sat k.stat.EVT_COALESCED } }
    else (s.setTask t fun k => { k with trigger := some s.now }).runOutstanding t

/-- A trigger of a source reaches every event task whose TRIG_SRC and TRIG_ARG name it, and the dispatcher
decides (R80, R88, R89). (log 80) -/
def State.trigger (s : State) (src : Nat) (arg : Nat → Bool) : State :=
  let ts := (idx 128).filter fun t =>
    let d := (s.task t).desc
    d.KIND == 2#8 && d.TRIG_SRC.toNat == src && arg d.TRIG_ARG.toNat
  if ts.isEmpty then s else (ts.foldl State.triggerTask s).dispatch

/-- A change of level: event tasks that it no longer holds run their outstanding triggers, and the dispatcher
decides (R80, R96, R97). (log 64, 77) -/
def State.levelChanged (s : State) : State :=
  let ts := (idx 128).filter fun t => (s.task t).desc.KIND == 2#8 && (s.task t).trigger.isSome && s.hasTask t
  (ts.foldl State.runOutstanding s).dispatch

end Sys2Proof.Machine
end

