-- ==== Sys2Proof/Machine/MotionCore.lean ====
section
/-! DEFINITION. Motion references (R295 to R316): the trapezoid in steps of one microsecond, the Hermite curve of a
table, the immediate stop, and the status record. -/

namespace Sys2Proof.Machine

/-- Axis `n`. -/
def State.mx (s : State) (n : Fin 8) : Axis := s.mot.axis.get n

/-- Axis `n` changed. -/
def State.setMx (s : State) (n : Fin 8) (f : Axis → Axis) : State := { s with mot.axis := upd s.mot.axis n f }

/-! ### Units -/

/-- Parts of a fine step in which a position is carried (log 43). -/
def stepUnit : Int := 2000000000000

/-- The position with its fraction, in parts of a fine step. -/
def Axis.exact (x : Axis) : Int := x.pos * stepUnit + x.frac

/-- The axis at an exact position. -/
def Axis.setExact (x : Axis) (p : Int) : Axis := { x with pos := p / stepUnit, frac := (p % stepUnit).toNat }

/-- The axis is at rest. -/
def Axis.atRest (x : Axis) : Bool := x.vel == 0

/-- Fine steps of one turn of a modulo axis; 0 for a linear one (R295). (log 126) -/
def Axis.turn (x : Axis) : Int := 256 * x.desc.MODULO_FS.toNat

/-- The position as it is reported: wrapped on a modulo axis (R295). (log 126) -/
def Axis.shownPos (x : Axis) : Int := if x.turn = 0 then x.pos else x.pos % x.turn

/-- The position lies in the range of a linear axis (R295). -/
def Axis.posOk (x : Axis) : Bool := x.turn != 0 || (-(2 ^ 31) ≤ x.pos && x.pos < 2 ^ 31)

/-- Fine steps per pulse at a resolution code (R308). -/
def finePer (code : Nat) : Nat := if 7 ≤ code then 1 else 256 / 2 ^ code

/-- The pulse rate of a speed at a code exceeds a number of thousandths of PULSE_MAX_HZ (R308). -/
def Axis.rateAbove (x : Axis) (code thousandths : Nat) : Bool :=
  thousandths * x.desc.PULSE_MAX_HZ.toNat * finePer code * velUnit < 1000 * x.vel.natAbs

/-! ### One microsecond of a reference (R298, R301, R302) -/

/-- A speed moved toward zero by at most `d`. -/
def slow (v : Int) (d : Nat) : Int := if 0 ≤ v then max 0 (v - d) else min 0 (v + d)

/-- A velocity moved toward another: at `up` when speeding up, at `down` when slowing down. -/
def approach (v want : Int) (up down : Nat) : Int :=
  if (0 < v && want < 0) || (v < 0 && 0 < want) then slow v down
  else if v.natAbs < want.natAbs then (if 0 ≤ want then min want (v + up) else max want (v - up))
  else if 0 ≤ v then max want (v - down) else min want (v + down)

/-- While a code change waits, the axis does not speed up past the pulse rate of its present code (R309). (log 129) -/
def Axis.clamps (x : Axis) (v : Int) : Bool := x.resWanted.isSome && x.vel.natAbs < v.natAbs && { x with vel := v }.rateAbove x.resCode.toNat 1000

/-- The axis takes a velocity for one microsecond, and moves by the mean of it and the one before (R298, R309). -/
def Axis.move (x : Axis) (v : Int) : Axis :=
  if x.clamps v then
    { x.setExact (x.exact + 2 * x.vel) with
      stat := { x.stat with RES_CLAMP := 1#1 },
      count := if x.stat.RES_CLAMP == 1#1 then x.count else { x.count with RES_CLAMP_COUNT := sat x.count.RES_CLAMP_COUNT } }
  else { x.setExact (x.exact + x.vel + v) with vel := v }

/-- VEL_MAX as a velocity. -/
def Axis.velMax (x : Axis) : Nat := x.desc.VEL_MAX.toNat * velUnit

/-- The top speed of a POSITION move (R299). -/
def Axis.topSpeed (x : Axis) : Nat :=
  if 0 < x.profVel.toInt then x.profVel.toNat * x.desc.VEL_MAX.toNat * velUnit / 32768 else x.velMax

/-- The stopping distance at DEC, in parts of a fine step (R301). -/
def Axis.stopDist (x : Axis) : Int := x.vel * x.vel / (max 1 x.desc.DEC.toNat : Nat)

/-- One microsecond of a POSITION move (R301). (log 126) -/
def Axis.stepPosition (x : Axis) : Axis :=
  let left := x.target * stepUnit - x.exact
  let dec := x.desc.DEC.toNat
  if x.stat.REVERSING == 1#1 then x.move (slow x.vel dec)
  else if left.natAbs ≤ x.vel.natAbs + dec then { x.setExact (x.target * stepUnit) with vel := 0 }
  else if left.natAbs ≤ x.stopDist.natAbs then x.move (slow x.vel dec)
  else x.move (approach x.vel (if 0 ≤ left then x.topSpeed else -(x.topSpeed : Int)) x.desc.ACC.toNat dec)

/-- One microsecond of a reference that is not a table's or a gear's. -/
def Axis.step1 (x : Axis) : Axis :=
  match x.state with
  | .stopping => x.move (slow x.vel x.stopRate)
  | .velocity => x.move (approach x.vel x.want x.desc.ACC.toNat x.desc.DEC.toNat)
  | .homing => x.move (approach x.vel x.want x.desc.ACC.toNat x.stopRate)
  | .position => x.stepPosition
  | .disabled | .idle | .table | .gear => x

/-- `n` microseconds of a reference. -/
def Axis.run : Nat → Axis → Axis
  | 0, x => x
  | n + 1, x => Axis.run n x.step1

/-! ### Segment tables (R303, R304) -/

/-- Where a segment starts: position and velocity; `start` is the position at the start of the table. -/
def SegTable.from (t : SegTable) (seg : Nat) (start : Int) : Int × Int :=
  if seg = 0 then (start, t.head.V_START.toInt)
  else
    let p := t.segs.toList.getD (seg - 1) Segment.dflt
    ((if t.head.REL == 1#1 then start else 0) + p.POS.toInt, p.VEL.toInt)

/-- Where a segment ends. -/
def SegTable.until (t : SegTable) (seg : Nat) (start : Int) : Int × Int :=
  let p := t.segs.toList.getD seg Segment.dflt
  ((if t.head.REL == 1#1 then start else 0) + p.POS.toInt, p.VEL.toInt)

/-- The duration of a segment in µs. -/
def SegTable.dur (t : SegTable) (seg : Nat) : Nat := (t.segs.toList.getD seg Segment.dflt).DUR_US.toNat

/-- The Hermite curve `t` µs into a segment of `d` µs, rounded to the nearest fine step (R304). (log 127) -/
def hermite (p v q w : Int) (d t : Int) : Int :=
  roundDiv (1000000 * ((2 * t ^ 3 - 3 * t ^ 2 * d + d ^ 3) * p + (-2 * t ^ 3 + 3 * t ^ 2 * d) * q)
    + (t ^ 3 - 2 * t ^ 2 * d + t * d ^ 2) * d * v + (t ^ 3 - t ^ 2 * d) * d * w) (1000000 * d ^ 3).toNat

/-- Its velocity, in 10⁻⁶ fine steps per second. -/
def hermiteVel (p v q w : Int) (d t : Int) : Int :=
  (1000000 * (1000000 * (6 * t ^ 2 - 6 * t * d) * (p - q) + d * ((3 * t ^ 2 - 4 * t * d + d ^ 2) * v + (3 * t ^ 2 - 2 * t * d) * w))) / d ^ 3

/-- A running table's reference at a count of the raw counter (R304). (log 127) -/
def State.tableAt (s : State) (x : Axis) (now : Nat) : Axis :=
  match x.tbl with
  | none => x
  | some (k, seg, at_, start) =>
    let t := s.mot.table.get k
    let d := t.dur seg
    let e := min d ((now - at_) / 125)
    let (p, v) := t.from seg start
    let (q, w) := t.until seg start
    { x with pos := hermite p v q w d e, frac := 0, vel := hermiteVel p v q w d e }

/-! ### Advancing the references (R298, R306) -/

/-- The gear's reference at a master count, in units of 2⁻³² fine step: `P₀ + (NUM/DEN)·(m − m₀)` (R306). -/
def Gearing.exactAt (g : Gearing) (m : Int) : Int := g.p0 * 2 ^ 32 + g.frac + g.num * (m - g.m0) * 2 ^ 32 / (g.den : Int)

/-- The furthest of the reference in the permitted direction of a restricted axis (R306). -/
def Gearing.reach (g : Gearing) (noRev : BitVec 2) (m : Int) : Gearing :=
  let r := g.exactAt m / 2 ^ 32
  { g with best := if noRev = 1#2 then max g.best r else if noRev = 2#2 then min g.best r else r }

/-- The slave moves toward its reference, by how much within VEL_MAX and the lag the spec leaves open: a free value
(R306, log 44). -/
def Axis.follow (x : Axis) (reference : Int) (us_ : Nat) (v : BitVec 64) : Axis :=
  let lag := reference - x.pos
  let most := min lag.natAbs (x.desc.VEL_MAX.toNat * us_ / 1000000 + 1)
  let d := v.toNat % (most + 1)
  let d : Int := if 0 ≤ lag then d else -(d : Int)
  { x with pos := x.pos + d, frac := 0, vel := if us_ = 0 then x.vel else d * 1000000000000 / us_ }

/-- Pulses that the test moves of a brake test have made in the present step, and how far the axis stands from where the
test began, in pulses, with the sign of its motion (R229). (log 116) -/
def State.testMove (s : State) (b : BrakeTest) : Int × Int :=
  let e := s.safetySet.SO.get b.so
  let all := e.BT_STEPS.toNat
  let n := min all ((s.now - b.since) * e.BT_RATE_HZ.toNat / sec 1)
  let dir : Int := if n < all then 1 else 0
  match b.step with
  | .apply | .settle => (0, 0)
  | .posMove => (n, dir)
  | .posBack => (all - n, -dir)
  | .negMove => (-n, -dir)
  | .negBack => (n - all, dir)

/-- The axis under a brake test follows the test moves, one pulse of its present code a step (R229). -/
def State.testAxis (s : State) (b : BrakeTest) (x : Axis) : Axis :=
  if x.state == .disabled then x
  else
    let (p, d) := s.testMove b
    let f := finePer x.resCode.toNat
    { x with pos := b.base + p * f, frac := 0, vel := d * f * (s.safetySet.SO.get b.so).BT_RATE_HZ.toNat * velUnit }

/-- One axis brought up to now. -/
def State.advanceAxis (s : State) (n : Fin 8) (us_ : Nat) : State :=
  let x := s.mx n
  match (if x.btHold then s.isl.bt else none) with
  | some b => s.setMx n (s.testAxis b)
  | none =>
  match x.state, x.gear with
  | .table, _ => s.setMx n fun x => s.tableAt x s.now
  | .gear, some g =>
    let g := g.reach x.desc.NO_REV (s.mot.enc.get g.enc).total
    let (v, s) := s.draw
    let r := g.best
    s.setMx n fun x =>
      let x := { x with gear := some g }.follow r us_ v
      let lag := r - x.pos
      { x with stat := { x.stat with LAG := BitVec.ofInt 32 lag, GEAR_SYNC := BitVec.ofNat 1 (bit (decide (lag.natAbs ≤ 256))) } }
  | _, _ => s.setMx n (Axis.run us_)

/-- Every axis brought up to now, in whole microseconds (R298). -/
def State.advanceAxes (s : State) : State :=
  let n := (s.now - s.mot.runAt) / 125
  let s := (idx 8).foldl (fun s a => s.advanceAxis a n) s
  { s with mot.runAt := s.mot.runAt + 125 * n }

/-! ### The status record (R319) -/

/-- The record of an axis at a motion tick. -/
def State.axisRecord (s : State) (n : Fin 8) : AxisStat :=
  let x := s.mx n
  { x.stat with
    STATE := BitVec.ofNat 8 x.state.num, RES_NOW := x.resCode,
    QUAL := if x.desc.USED == 0#1 then qNone else if x.stat.POSITION_UNCERTAIN == 1#1 then qUncertain else qGood,
    ACK_SEQ := x.lastSeq, KILLED := BitVec.ofNat 1 (bit (s.isl.killed.get 8)), BT_ACTIVE := BitVec.ofNat 1 (bit x.btHold),
    DRIVE_LINK_FAULT := BitVec.ofNat 1 (bit (s.mot.dlFault && x.desc.RES_MODE != 2#8)),
    CHANGE_ARMED := BitVec.ofNat 1 (bit x.armed.isSome), POS := BitVec.ofInt 32 x.shownPos, VEL := BitVec.ofInt 32 (x.vel / velUnit),
    SEG := match x.tbl with | some t => BitVec.ofNat 8 t.2.1 | none => 0#8,
    TABLE := match x.tbl with | some t => BitVec.ofNat 8 t.1.val | none => 0xFF#8, STATUS_TS := s.ts }

end Sys2Proof.Machine
end

