-- ==== Sys2Proof/Machine/AioCore.lean ====
section
/-! DEFINITION. Current-loop channels (R277 to R291): currents and codes, trims, the moving average, the record of a channel,
and what an output channel is commanded to and sources. -/

namespace Sys2Proof.Machine

/-! ### Currents and codes (R279, R280)

A current is held in units of 1/1024 nA, in which a code and a Q15 command are whole numbers. -/

/-- One nA. -/
def nA (n : Int) : Int := 1024 * n

/-- The current of a code: 25 mA / 65536 for each (R279). -/
def codeCurrent (code : Nat) : Nat := 390625 * code

/-- The code of a current, to nearest, at most 0xFFEF (R279). -/
def currentCode (i : Int) : Nat := min 0xFFEF (roundDiv i 390625).toNat

/-- VALUE of a code: (I − 4 mA) / 16 mA in Q15, to nearest, saturated (R280). (log 123) -/
def codeValue (code : Nat) : BitVec 16 := BitVec.ofInt 16 (min 32767 (roundDiv (25 * code) 32 - 8192))

/-- A Q15 command as it is sourced, within −410 to 32767 (R280). -/
def clampCmd (q : Int) : Int := max (-410) (min 32767 q)

/-- The current of a Q15 command: 4 mA + q · 16 mA / 32768 (R280). -/
def cmdCurrent (q : Int) : Nat := (nA 4000000 + 500000 * clampCmd q).toNat

/-- A code of the uplink field is a marker (R279). -/
def isMarker (code : Nat) : Bool := 0xFFF0 ≤ code

/-- A received marker; the reserved ones count as ADC_FAULT (R279). -/
def markerOf (code : Nat) : Nat := if code ≤ 0xFFF3 then code else 0xFFF3

/-- The fail levels of R288. -/
def failLow : Nat := 1024 * 3500000
/-- The fail high level, 21.50 mA. -/
def failHigh : Nat := 1024 * 21500000

/-! ### Trims (R281) -/

/-- The product and the offset of one trim layer over a rational current: `n / d`. -/
def trimLayer (gain ofs : Int) (i : Int × Int) : Int × Int := (i.1 * (1000000 + gain) + nA ofs * i.2 * 1000000, i.2 * 1000000)

/-- The inverse of one trim layer. -/
def untrimLayer (gain ofs : Int) (i : Int × Int) : Int × Int := ((i.1 - nA ofs * i.2) * 1000000, i.2 * (1000000 + gain))

/-- The factory layer of a path. -/
def TrimRec.factory (t : TrimRec) (i : Int × Int) : Int × Int := trimLayer t.FACT_GAIN_PPM.toInt t.FACT_OFS_NA.toInt i

/-- A rational current as a code, to nearest (R279). -/
def rationalCode (i : Int × Int) : Nat := min 0xFFEF (roundDiv i.1 (390625 * i.2).toNat).toNat

/-- A measured code under the factory trim alone (R282). -/
def TrimRec.factCode (t : TrimRec) (code : Nat) : Nat := rationalCode (t.factory (codeCurrent code, 1))

/-- A measured code under both trims (R281). (log 123) -/
def TrimRec.measure (t : TrimRec) (code : Nat) : Nat := rationalCode (trimLayer t.GAIN_PPM.toInt t.OFS_NA.toInt (t.factory (codeCurrent code, 1)))

/-- The code that sources a current: the inverse of both trims; 0 mA is code 0 (R281). -/
def TrimRec.source (t : TrimRec) (i : Nat) : Nat :=
  if i = 0 then 0
  else rationalCode (untrimLayer t.FACT_GAIN_PPM.toInt t.FACT_OFS_NA.toInt (untrimLayer t.GAIN_PPM.toInt t.OFS_NA.toInt (i, 1)))

/-- The code that sources a current under the factory trim alone (R282). -/
def TrimRec.sourceFact (t : TrimRec) (i : Nat) : Nat := rationalCode (untrimLayer t.FACT_GAIN_PPM.toInt t.FACT_OFS_NA.toInt (i, 1))

/-! ### The moving average of FILTER (R283) -/

/-- Conversions in the window of a FILTER code. -/
def filterLen (f : Nat) : Nat :=
  match f with
  | 0 => 1 | 1 => 16 | 2 => 256 | 3 => 5000 | _ => 25000

/-- The first `n` values of a list of runs. -/
def takeRuns : Nat → List (Nat × Nat) → List (Nat × Nat)
  | _, [] => []
  | n, (v, k) :: r => if n = 0 then [] else if n ≤ k then [(v, n)] else (v, k) :: takeRuns (n - k) r

/-- A value put before the runs. -/
def pushRun (v : Nat) : List (Nat × Nat) → List (Nat × Nat)
  | (w, k) :: r => if w = v then (w, k + 1) :: r else (v, 1) :: (w, k) :: r
  | [] => [(v, 1)]

/-- The window after one more value. -/
def window (n v : Nat) (l : List (Nat × Nat)) : List (Nat × Nat) := takeRuns n (pushRun v l)

/-- The mean of a window, to nearest. (log 123) -/
def windowMean (l : List (Nat × Nat)) : Nat :=
  let n := (l.map fun e => e.2).sum
  if n = 0 then 0 else (2 * (l.map fun e => e.1 * e.2).sum + n) / (2 * n)

/-! ### The mode and the fail levels of a channel (R288, R289) -/

/-- The module applies no configuration: the firmware phase until it is loaded, and MINIMAL (R289). -/
def State.unconfigured (s : State) : Bool := s.sys.phase == .firmware || s.sys.mode == .minimal

/-- The mode in force: before configuration and in MINIMAL the one recorded in MRAM (R289). -/
def State.aioMode (s : State) (c : Fin 16) : Nat := if s.unconfigured then (s.aio.get c).mramMode.toNat else (s.aio.get c).act.MODE.toNat

/-- The fail level that a FAIL_SEL chooses (R288). (log 122) -/
def State.failLevel (s : State) (c : Fin 16) : Nat :=
  let sel := if s.unconfigured then 2 else (s.aio.get c).act.FAIL_SEL.toNat
  if sel = 1 || (sel = 2 && s.sys.straps.failHi) then failHigh else failLow

/-- HOLD_CODE as a current: 0 mA with PAIR_PEER, else the fail level (R288). -/
def State.holdLevel (s : State) (c : Fin 16) : Nat := if !s.unconfigured && (s.aio.get c).act.PAIR_PEER == 1#1 then 0 else s.failLevel c

/-- The entry of the AIO command line (R291). -/
def State.aioCmd (s : State) (c : Fin 16) : AioCmd := AioCmd.ofBytes (s.img.read (0x1C0 + 4 * c.val) 4)

/-- The task that writes an offset of IMAGE, as the running program declares it. -/
def State.writerOf (s : State) (off : Nat) : Option (Fin 128) :=
  (s.tk.prog.tasks.find? fun d => d.outputs.any fun o => o.off == off).map fun d => d.task

/-- This module drives the output at an offset of IMAGE: it runs the task that writes it, or the loops (R389). -/
def State.drives (s : State) (off : Nat) : Bool :=
  match s.writerOf off with
  | some t => s.hasTask t
  | none => s.runsLoops

/-- The current of a channel in a crossfade of 50 µs (R391). -/
def fadeCurrent (i elapsed : Nat) (rising : Bool) : Nat :=
  let e := min elapsed (us 50)
  if rising then i * e / us 50 else i * (us 50 - e) / us 50

/-- What an output channel is commanded to, as a current, and whether it is a fail or hold code; the first row of R289 that
applies, with TRIM_DRIVE in STOP (R282). (log 122) -/
def State.aioTarget (s : State) (c : Fin 16) : Nat × Bool :=
  let a := s.aio.get c
  let cmd := s.aioCmd c
  let q := cmd.CMD.toInt
  if s.aioMode c != 3 then (0, false)
  else if s.unconfigured then (s.failLevel c, true)
  else if s.sys.mode == .halt || s.pow.pfStage != .idle || (s.paired && s.pr.role == .quarantined) then (s.holdLevel c, true)
  else if s.isl.killed.get 9 then (s.failLevel c, true)
  else if s.sys.mode != .run then
    if a.trimPoint = 1#8 then ((nA 4000000).toNat, false)
    else if a.trimPoint = 2#8 then ((nA 20000000).toNat, false)
    else (s.failLevel c, true)
  else if cmd.FAIL_REQ == 1#1 then (s.failLevel c, true)
  else match s.pr.xfade.find? fun e => e.1 == c with
    | some e => (fadeCurrent (cmdCurrent q) (s.now - e.2.1) e.2.2, false)
    | none =>
      if s.drives (0x1C0 + 4 * c.val) then (cmdCurrent q, false)
      else if a.act.PAIR_PEER == 1#1 then (0, false)
      else (s.failLevel c, true)

/-- The current that the channel should carry now: HOLD_CODE while the link waits for its re-arm, but a fail level at once
(R23, R287). -/
def State.aioExpected (s : State) (n : Fin 4) (c : Fin 16) : Nat :=
  let (i, fail) := s.aioTarget c
  if s.aioMode c = 3 && (s.dio.link.get n).rearmWait && !fail then s.holdLevel c else i

/-- The command code of a channel: a point of TRIM_DRIVE under the factory trim alone, until a trim set meanwhile (R281, R282,
R290). -/
def State.aioCode (s : State) (c : Fin 16) : Nat :=
  let a := s.aio.get c
  let i := (s.aioTarget c).1
  if s.sys.mode == .stop && a.trimPoint != 0#8 && !a.trimNew then a.trimOut.sourceFact i else a.trimOut.source i

/-- The configuration words of a channel (R288). -/
def State.aioWord (s : State) (c : Fin 16) (k : Nat) : BitVec 16 :=
  let a := s.aio.get c
  match k with
  | 0 => BitVec.ofNat 16 (s.aioMode c + 4 * a.act.FILTER.toNat)
  | 1 => BitVec.ofNat 16 (a.trimOut.source (s.failLevel c))
  | 2 => BitVec.ofNat 16 (a.trimOut.source (s.holdLevel c))
  | _ => 0#16

/-! ### The field side (R279, R283, R289) -/

/-- Channel `4n + k`. -/
def aioChan (n : Fin 4) (k : Fin 4) : Fin 16 := ⟨4 * n.val + k.val, by omega⟩

/-- Configuration word `w` of the channel at position `k` of the link, as received (R288). -/
def FieldSide.aioWord (f : FieldSide) (k : Fin 4) (w : Nat) : BitVec 16 := f.aioCfg.toList.getD (8 * k.val + w) 0#16

/-- The field mode of a channel (R288). -/
def FieldSide.aioMode (f : FieldSide) (k : Fin 4) : Nat := if f.cfgWait then 0 else (f.aioWord k 0).toNat % 4

/-- Nothing is sourced: the module is unpowered, held in reset or in the ROM phase (R289, R456). (log 122) -/
def State.aioQuiet (s : State) : Bool := s.sys.phase == .off || s.sys.phase == .held || s.sys.phase == .rom || s.sys.phase == .recovery

/-- The code that the field side sources on a channel (R23, R271, R289): HOLD_CODE while the downlink is lost and until the
re-arm, FAIL_CODE at once after 16 valid frames where it is commanded, then the command. (log 122) -/
def FieldSide.aioOut (f : FieldSide) (k : Fin 4) (a : Aio) (quiet : Bool) : BitVec 16 :=
  let fail := f.aioWord k 1
  let hold := f.aioWord k 2
  if quiet || f.aioMode k != 3 || a.srcFault then 0#16
  else if f.lost then hold
  else if !f.armed then (if 16 ≤ f.validRun && (f.aioFail || a.fieldCmd == fail) then fail else hold)
  else if f.aioFail then fail
  else a.fieldCmd

/-- The field side of a link sets its current sources anew. (log 122) -/
def State.setSources (s : State) (n : Fin 4) : State :=
  let f := s.dio.field.get n
  { s with aio := (idx 4).foldl (fun v k => upd v (aioChan n k) fun a => { a with fieldOut := f.aioOut k a s.aioQuiet }) s.aio }

/-- What the uplink carries of a channel: a marker, else the mean of its filter window (R279, R283). -/
def FieldSide.aioUp (f : FieldSide) (a : Aio) : Nat :=
  if f.cfgWait then 0xFFF1
  else if a.srcFault then 0xFFF0
  else if a.loopShort then 0xFFF2
  else if a.adcFault then 0xFFF3
  else windowMean a.conv

/-- The field side converts a channel (R283); a loop that has left its current limit ends LOOP_SHORT (R279). (log 124) -/
def FieldSide.convert (f : FieldSide) (k : Fin 4) (code : BitVec 16) (a : Aio) : Aio :=
  { a with
    conv := window (filterLen ((f.aioWord k 0).toNat / 4 % 8)) (min 0xFFEF code.toNat) a.conv,
    loopShort := a.loopShort && f.aioMode k == 1 && currentCode (nA 23000000) ≤ code.toNat }

/-! ### The record of a channel (R285, R286, R291) -/

/-- The codes nearest to the limits of NE 43 (R279, R285). (log 123) -/
def neLow : Nat := currentCode (nA 3600000)
/-- 3.8 mA. -/
def neMin : Nat := currentCode (nA 3800000)
/-- 20.5 mA. -/
def neMax : Nat := currentCode (nA 20500000)
/-- 21.0 mA. (log 123) -/
def neHigh : Nat := currentCode (nA 21000000)

/-- The side of NE 43 beyond which a code stands: true for the upper limit. -/
def neSide (code : Nat) : Option Bool := if code ≤ neLow then some false else if neHigh ≤ code then some true else none

/-- The timer of FAIL_MS: it runs on while the same limit is passed (R285). -/
def neTimer (code now : Nat) (t : Option (Bool × Nat)) : Option (Bool × Nat) :=
  match neSide code with
  | none => none
  | some h => match t with
    | some (g, a) => if g == h then some (g, a) else some (h, now)
    | none => some (h, now)

/-- The quality of a channel whose link is up (R286). -/
def AioRec.quality (r : AioRec) (unused : Bool) : BitVec 4 :=
  if unused || (r.MARKER == 1#1 && r.CODE == 0xFFF1#16) then 3#4
  else if r.MARKER == 1#1 || r.FAIL_LOW_IN == 1#1 || r.FAIL_HIGH_IN == 1#1 || r.OPEN_LOOP == 1#1 then 2#4
  else if r.RANGE_UNCERTAIN == 1#1 || r.AO_COMPLIANCE == 1#1 then 1#4
  else 0#4

/-- FLAGS, the byte at 0x5 of the record (R291). -/
def AioRec.flags (r : AioRec) : Nat := (r.toBytes.getD 5 0#8).toNat

/-- The record with its quality and the flags seen (R286, R293). -/
def Aio.seal (a : Aio) (unused : Bool) (r : AioRec) : Aio :=
  let old := a.record
  let r := { r with QUAL := r.quality unused }
  { a with
    record := r,
    stat := { a.stat with
      FLAGS_SEEN := if r.flags = 0 then a.stat.FLAGS_SEEN else 1#1,
      FAIL_IN_COUNT := if (r.FAIL_LOW_IN == 1#1 && old.FAIL_LOW_IN == 0#1) || (r.FAIL_HIGH_IN == 1#1 && old.FAIL_HIGH_IN == 0#1)
        then sat a.stat.FAIL_IN_COUNT else a.stat.FAIL_IN_COUNT } }

/-- The NE 43 classification of an input code (R285). -/
def AioRec.classify (r : AioRec) (code now failMs : Nat) (t : Option (Bool × Nat)) : AioRec :=
  match t with
  | some (h, a) =>
    if a + ms failMs ≤ now then { r with RANGE_UNCERTAIN := 0#1, FAIL_LOW_IN := BitVec.ofNat 1 (bit !h), FAIL_HIGH_IN := BitVec.ofNat 1 (bit h) }
    else { r with RANGE_UNCERTAIN := 1#1, FAIL_LOW_IN := 0#1, FAIL_HIGH_IN := 0#1 }
  | none => { r with RANGE_UNCERTAIN := BitVec.ofNat 1 (bit (code < neMin || neMax < code)), FAIL_LOW_IN := 0#1, FAIL_HIGH_IN := 0#1 }

/-- The bits of FLAGS that stand whatever is measured. -/
def AioRec.common (r : AioRec) (clamped fail : Bool) : AioRec :=
  { r with CMD_CLAMPED := BitVec.ofNat 1 (bit clamped), FAIL_ACTIVE := BitVec.ofNat 1 (bit fail) }

/-- A measured code or marker of the channel in rotation arrives (R279 to R286). -/
def Aio.receive (a : Aio) (mode now tick code : Nat) : Aio :=
  let a := { a with sampledAt := tick }
  if isMarker code then
    let r := { a.record with
      VALUE := 0x8000#16, CODE := BitVec.ofNat 16 (markerOf code), MARKER := 1#1, RANGE_UNCERTAIN := 0#1, FAIL_LOW_IN := 0#1, FAIL_HIGH_IN := 0#1 }
    { a with failSince := none, stat := { a.stat with MARKER_COUNT := sat a.stat.MARKER_COUNT } }.seal (mode == 0) r
  else
    let c := a.trimIn.measure code
    let t := if mode == 1 || mode == 2 then neTimer c now a.failSince else none
    let r := { a.record with VALUE := codeValue c, CODE := BitVec.ofNat 16 c, MARKER := 0#1 }
    let r := if mode == 1 || mode == 2 then r.classify c now a.act.FAIL_MS.toNat t
      else { r with RANGE_UNCERTAIN := 0#1, FAIL_LOW_IN := 0#1, FAIL_HIGH_IN := 0#1 }
    let w := window (filterLen a.act.FILTER.toNat) a.cmdNow a.cmdWin
    { a with
      factCode := BitVec.ofNat 16 (a.trimIn.factCode code), failSince := t, cmdWin := w,
      sumBack := (a.sumBack.1 + codeCurrent c, a.sumBack.2 + 1), sumCmd := a.sumCmd + windowMean w }.seal (mode == 0) r

/-- Every channel's record as the port writes it with a frame: the standing flags and the age of its sample (R291). -/
def State.aioFrame (s : State) (n : Fin 4) (tick : Nat) (k : Fin 4) : Aio :=
  let c := aioChan n k
  let a := s.aio.get c
  let out := s.aioMode c == 3
  let q := (s.aioCmd c).CMD.toInt
  let r := a.record.common (out && s.sys.mode == .run && clampCmd q != q) (out && (a.failSent || (s.dio.link.get n).rearmWait))
  a.seal (s.aioMode c == 0) { r with SAMPLE_AGE_NS := BitVec.ofNat 16 (min 65535 (8 * (tick - a.sampledAt))) }

end Sys2Proof.Machine
end

