-- ==== Sys2Proof/Machine/Island.lean ====
section
/-! DEFINITION. The safety island (R216 to R250): the parameter set and its sign-off, pairs and test pulses, safety outputs
and their tests, monitored axes, brake tests, and resets. -/

namespace Sys2Proof.Machine

/-! ### The parameter set (R239 to R247) -/

/-- A pair entry that is used lies in its ranges (R243). (log 114) -/
def PairEntry.ok (p : PairEntry) : Bool :=
  p.KIND == 0#8 || (p.KIND.toNat ≤ 2 && p.CH_A.toNat < 32 && p.CH_B.toNat < 32 && between 5 p.DISC_MS.toNat 2000 && p.FILTER_US.toNat ≤ 20000)

/-- An SO entry that is used lies in its ranges; the brake's fields count for FUNCTION 2 alone (R244). (log 114) -/
def SoEntry.ok (e : SoEntry) : Bool :=
  e.FUNCTION.toNat ≤ 2 && (e.FUNCTION == 0#8 || e.PAIR_WIRING.toNat ≤ 2)
    && (e.FUNCTION != 2#8
        || (e.BRAKE_AXIS.toNat ≤ 7 && e.BT_OVERDUE_ACTION.toNat ≤ 1 && between 1 e.BT_INTERVAL_H.toNat 720 && e.BT_GRACE_H.toNat ≤ 168
            && between 10 e.BT_APPLY_MS.toNat 2000 && between 100 e.BT_HOLD_MS.toNat 10000 && between 1 e.BT_STEPS.toNat 65536
            && between 10 e.BT_RATE_HZ.toNat 100000 && 1 ≤ e.BT_TOL.toNat))

/-- The axis entry is used (R245). -/
def AxisEntry.used (a : AxisEntry) : Bool := a.AXIS != 0xFF#8

/-- An axis entry that is used lies in its ranges (R245). (log 114) -/
def AxisEntry.ok (a : AxisEntry) : Bool :=
  !a.used || (a.AXIS.toNat ≤ 7 && a.ENABLE_SRC.toNat ≤ 1 && a.SRC1_ENC.toNat ≤ 7 && a.SRC2_KIND.toNat ≤ 1
    && (a.SRC2_KIND != 0#8 || (a.SRC2_ENC.toNat ≤ 7 && a.SRC2_ENC != a.SRC1_ENC)) && a.SDI_DIR.toNat ≤ 1
    && a.SCALE1_NUM != 0#32 && a.SCALE1_DEN != 0#32 && a.SCALE2_NUM != 0#32 && a.SCALE2_DEN != 0#32
    && between 1 a.DISC_MS.toNat 2000 && between 100 a.SPEED_WIN_US.toNat 50000
    && (!a.FUNC.getLsbD 1 || a.SLP_MIN.toInt < a.SLP_MAX.toInt))

/-- Every field of the set lies in its range (R242 to R247). (log 114) -/
def SafetySet.inRange (x : SafetySet) : Bool :=
  between 10 x.TP_PERIOD_MS.toNat 1000 && between 200 x.TP_WIDTH_US.toNat 2000 && x.TP_WIDTH_US.toNat ≤ 250 * x.TP_PERIOD_MS.toNat
    && between 50 x.TP_SETTLE_US.toNat 2000 && between 2 x.WD_MULT.toNat 16 && (x.RESET_DIO.toNat < 32 || x.RESET_DIO == 0xFF#8)
    && between 1 x.SO_TEST_S.toNat 3600 && x.PAIR.toList.all PairEntry.ok && x.SO.toList.all SoEntry.ok && x.AXIS.toList.all AxisEntry.ok

/-- The DIO channels that the set names, with RESET_DIO (R247). -/
def SafetySet.channels (x : SafetySet) : List Nat :=
  ((x.PAIR.toList.filter fun p => p.KIND != 0#8).flatMap fun p => [p.CH_A.toNat, p.CH_B.toNat])
    ++ (if x.RESET_DIO == 0xFF#8 then [] else [x.RESET_DIO.toNat])

/-- The axis entries that SBC channels name. -/
def SafetySet.brakes (x : SafetySet) : List Nat := (x.SO.toList.filter fun e => e.FUNCTION == 2#8).map fun e => e.BRAKE_AXIS.toNat

/-- No element stands twice in a list. -/
def distinct : List Nat → Bool
  | [] => true
  | a :: r => !r.contains a && distinct r

/-- A channel used twice, a brake on an unused entry, or two brakes on one axis (R247). -/
def SafetySet.conflict (x : SafetySet) : Bool :=
  !distinct x.channels || !distinct x.brakes || x.brakes.any fun k => !((x.AXIS.toList.getD k AxisEntry.dflt).used)

/-- SAFE_PARAM_LOAD checks the set, stores it as pending and replies with the CRC it computed (R240, R247). -/
def cmdSafeParamLoad (rq : Request) (s : State) : State :=
  serve Cmd.safeParamLoad rq s fun s =>
    let x := { SafetySet.ofBytes rq.payload with SIGNED_BY := 0#32, SIGNED_TS := 0#64 }
    refuseIf (!x.inRange) 0x0803 0xFFFF <|
      refuseIf x.conflict 0x0804 0xFFFF <|
        .done { s with isl.pending := some { x with CRC := x.crcOf } } (leBytes 4 x.crcOf.toNat)

/-- SAFE_PARAM_LOAD (R240). -/
def execSafeParamLoad (rq : Request) (s : State) : Host.Outcome State Fault Refusal := .next (s.command rq cmdSafeParamLoad)

/-- SAFE_PARAM_READ returns the signed or the pending set; the layout's defaults where there is none (R240, R242). (log 113) -/
def cmdSafeParamRead (rq : Request) (s : State) : State :=
  serve Cmd.safeParamRead rq s fun s =>
    refuseIf (1 < rq.u8 0) 0x0803 0xFFFF <|
      .done s ((if rq.u8 0 = 0 then s.validSet else s.isl.pending).getD SafetySet.dflt).toBytes

/-- SAFE_PARAM_READ (R240). -/
def execSafeParamRead (rq : Request) (s : State) : Host.Outcome State Fault Refusal := .next (s.command rq cmdSafeParamRead)

/-- SAFE_SIGN_OFF makes the pending set the signed one, in both copies, where the CRC shown is its own (R240). -/
def cmdSafeSignOff (rq : Request) (s : State) : State :=
  serve Cmd.safeSignOff rq s fun s =>
    match s.isl.pending with
    | none => .refuse 0x0806 0xFFFF 0
    | some p =>
      refuseIf (rq.u32 0 != p.CRC.toNat) 0x0805 0xFFFF <|
        let old := (s.validSet.map fun x => x.CRC.toNat).getD 0
        let x := { p with SIGNED_BY := BitVec.ofNat 32 (rq.u32 4), SIGNED_TS := s.ts }
        let s := { s with isl.signed := Vector.replicate 2 (some x), isl.pending := none }
        .done (s.event 6 0x0882 0xFF old x.CRC.toNat x.SIGNED_BY.toNat).evalMatrix []

/-- SAFE_SIGN_OFF (R240). -/
def execSafeSignOff (rq : Request) (s : State) : Host.Outcome State Fault Refusal := .next (s.command rq cmdSafeSignOff)

/-- The safety status as it stands (R248). -/
def State.safeStatus (s : State) : List Byte :=
  let i := s.isl
  let latched := (idx 10).map fun t => i.killed.get t && (match s.validSet with | some x => (x.TARGET.get t).LATCH == 1#1 | none => false)
  i.stat.toBytes (ARMED := bit (s.sys.mode == .run && s.validSet.isSome)) (SET_SIGNED := bit s.validSet.isSome)
    (PENDING_SET := bit i.pending.isSome) (WD_EXPIRED := bit s.wdSource) (SFE_FAULT := bit s.sfeSource) (BT_ACTIVE := bit i.bt.isSome)
    (SOURCES := i.sources.toNat) (KILLED := i.killedBits) (LATCHED := ofBits latched) (PAIR_FAULT := i.pairFault)
    (AXIS_FAULT := i.axisFault) (SO_FAULT := i.soFault) (SET_CRC := (s.validSet.map fun x => x.CRC.toNat).getD 0)

/-- SAFE_STATUS (R248). -/
def cmdSafeStatus (rq : Request) (s : State) : State := serve Cmd.safeStatus rq s fun s => .done s s.safeStatus

/-- SAFE_STATUS (R248). -/
def execSafeStatus (rq : Request) (s : State) : Host.Outcome State Fault Refusal := .next (s.command rq cmdSafeStatus)

/-- SAFE_CLEAR clears the counters and SOURCES_SEEN, and no latch (R248). (log 117) -/
def cmdSafeClear (rq : Request) (s : State) : State :=
  serve Cmd.safeClear rq s fun s =>
    .done { s with isl.stat := { s.isl.stat with SOURCES_SEEN := 0#32, TRIP_COUNT := 0#32, RESET_COUNT := 0#32 } } []

/-- SAFE_CLEAR (R248). -/
def execSafeClear (rq : Request) (s : State) : Host.Outcome State Fault Refusal := .next (s.command rq cmdSafeClear)

/-! ### The two channels and the QL lines (R216 to R218) -/

/-- ISLAND_FAULT: every target is killed, and the supervisor fatal signal takes the module to HALT (R216, R218). -/
def State.islandFault (s : State) (c : FatalCause) : State :=
  ({ s with isl.stat := { s.isl.stat with ISLAND_FAULT := 1#1 } }).killAll.enterHalt c true

/-- The channels have disagreed on a target for more than 8 µs (R216). -/
def execChannelDisagree (target : Fin 10) (s : State) : Host.Outcome State Fault Refusal :=
  .next (if s.sys.phase == .serving && target.val < 10 then s.islandFault .island else s)

/-- The copies have disagreed in three consecutive frames (R217). -/
def execCopyDisagree (s : State) : Host.Outcome State Fault Refusal :=
  .next (if 3 ≤ s.isl.copyDiffer then ({ s with isl.sfeFault := true }).evalMatrix else s)

/-- The field side sees a QL line in kill: what hangs on it is off and needs its re-arm (R24). -/
def State.fieldKill (s : State) (line : Fin 8) : State :=
  if line.val < 4 then
    { s with dio.soKill := s.dio.soKill ||| BitVec.ofNat 4 (2 ^ line.val), dio.soWait := s.dio.soWait ||| BitVec.ofNat 4 (2 ^ line.val) }
  else
    { s with dio.field := upd s.dio.field ⟨line.val % 4, by omega⟩ fun f => { f with qlGrp := true, qlWait := true } }

/-- The QL path test of every line (R218): each is held in kill, and the field side must report it. `qlOk` names the lines
whose kill was reported. -/
def State.testLines (s : State) (qlOk : BitVec 8) : State :=
  match (idx 8).find? fun t => !qlOk.getLsbD t.val with
  | some t => s.islandFault (.qlLine t)
  | none =>
    let s := { (idx 8).foldl State.fieldKill s with isl.qlTestAt := s.now, dio.ql := 0#8 }
    s.setLines

/-- A STANDBY module tests its QL lines every 24 h (R218). -/
def execQlDailyTest (qlOk : BitVec 8) (s : State) : Host.Outcome State Fault Refusal :=
  .next (if s.inRun && s.paired && s.pr.role == .standby && s.since s.isl.qlTestAt (sec 86400) then s.testLines qlOk else s)

/-! ### Test pulses (R221) -/

/-- The test outputs pulse: in STOP and RUN, with a signed set (R221, R456). -/
def State.tpRuns (s : State) : Bool := (s.sys.mode == .stop || s.sys.mode == .run) && s.pow.pfStage == .idle

/-- Ticks since the last pulse of a test output began: TP0 at whole multiples of TP_PERIOD_MS of the raw counter, TP1 half
a period later (R221). (log 108) -/
def State.pulseAge (s : State) (x : SafetySet) (tp : Fin 2) : Nat :=
  let p := max 1 (ms x.TP_PERIOD_MS.toNat)
  (s.now + p - tp.val * (p / 2)) % p

/-- A test output gives its dark pulse now (R221). (log 108) -/
def State.tpDark (s : State) (tp : Fin 2) : Bool :=
  match s.validSet with
  | some x => s.tpRuns && s.pulseAge x tp < us x.TP_WIDTH_US.toNat
  | none => false

/-- The mask of a test output runs now (R221). (log 108) -/
def State.tpMask (s : State) (x : SafetySet) (tp : Fin 2) : Bool :=
  s.tpRuns && s.pulseAge x tp < us (x.TP_WIDTH_US.toNat + x.TP_SETTLE_US.toNat)

/-! ### Safety pairs (R219, R220) -/

/-- A contact reads high in every copy that is at hand (R217). -/
def State.contactHigh (s : State) (c : Nat) (any_ : Bool) : Bool :=
  let copies := (if (s.dio.link.get 0).lost then [] else [s.isl.raw1.getLsbD c]) ++ (if (s.dio.link.get 2).lost then [] else [s.isl.raw2.getLsbD c])
  let copies := if copies.isEmpty then [s.isl.raw1.getLsbD c, s.isl.raw2.getLsbD c] else copies
  if any_ then copies.any id else copies.all id

/-- A channel runs high: channel a, and channel b of an equivalent pair (R219). -/
def PairEntry.runsHigh (p : PairEntry) (chanB : Bool) : Bool := !(chanB && p.KIND == 2#8)

/-- The channel of a side. -/
def PairEntry.chan (p : PairEntry) (chanB : Bool) : Nat := if chanB then p.CH_B.toNat else p.CH_A.toNat

/-- The test output that feeds a side (R221). -/
def PairEntry.fed (p : PairEntry) (chanB : Bool) : Bool := if chanB then p.TP_B == 1#1 else p.TP_A == 1#1

/-- Either copy shows demand (R217, R219). -/
def State.rawDemand (s : State) (p : PairEntry) (chanB : Bool) : Bool :=
  if p.runsHigh chanB then !s.contactHigh (p.chan chanB) false else s.contactHigh (p.chan chanB) true

/-- What a side counts as now: in its own mask a low reading is not taken as demand, and a side that was in demand before
the mask stays in it (R221). -/
def State.sideNow (s : State) (x : SafetySet) (p : PairEntry) (chanB was : Bool) : Bool :=
  let d := s.rawDemand p chanB
  if d && p.runsHigh chanB && p.fed chanB && s.tpMask x (if chanB then 1 else 0) then was else d

/-- One side's filter: the state counted now, since when, and whether it stands taken as demand; the return to run state
needs the filter time as well (R219, R220). (log 107) -/
def sideStep (d was : Bool) (since : Nat) (demand : Bool) (filter now : Nat) : Bool × Nat × Bool :=
  let t := if d == was then since else now
  (d, t, demand && (d || now < t + filter))

/-- The difference timer of a pair (R220). (log 107) -/
def SafePair.timed (p : SafePair) (now : Nat) : SafePair := { p with differSince := runTimer (p.demandA != p.demandB) now p.differSince }

/-- One pair looks at its contacts. (log 107) -/
def State.samplePair (s : State) (x : SafetySet) (k : Fin 16) : SafePair :=
  let e := x.PAIR.get k
  let p := s.isl.pair.get k
  if e.KIND == 0#8 then p
  else
    let f := us e.FILTER_US.toNat
    let (a, ta, da) := sideStep (s.sideNow x e false p.nowA) p.nowA p.sinceA p.demandA f s.now
    let (b, tb, db) := sideStep (s.sideNow x e true p.nowB) p.nowB p.sinceB p.demandB f s.now
    ({ p with nowA := a, sinceA := ta, demandA := da, nowB := b, sinceB := tb, demandB := db }).timed s.now

/-- The pairs look at their contacts, on every frame (R219). -/
def State.samplePairs (s : State) : State :=
  match s.validSet with
  | some x => { s with isl.pair := Vector.ofFn (s.samplePair x) }
  | none => s

/-- Pair `k` changed. -/
def State.setPair (s : State) (k : Fin 16) (f : SafePair → SafePair) : State := { s with isl.pair := upd s.isl.pair k f }

/-- A side has been stable in demand for FILTER_US: it is taken as demand, and asserts the source (R219). -/
def execPairDemand (pair : Fin 16) (chanB : Bool) (s : State) : Host.Outcome State Fault Refusal :=
  let e := s.safetySet.PAIR.get pair
  let p := s.isl.pair.get pair
  let (now, since) := if chanB then (p.nowB, p.sinceB) else (p.nowA, p.sinceA)
  .next (if s.validSet.isSome && e.KIND != 0#8 && now && s.since since (us e.FILTER_US.toNat) then
      (s.setPair pair fun p =>
        let p := if chanB then { p with demandB := true, okB := false } else { p with demandA := true, okA := false }
        ({ p with source := true, bothDemand := p.bothDemand || (p.demandA && p.demandB) }).timed s.now).evalMatrix
    else s)

/-- The tests of a side need no pass, or have passed: a side that is not fed, or whose run state is open, is not tested
(R220, R221). (log 108) -/
def PairEntry.tested (e : PairEntry) (p : SafePair) (chanB : Bool) : Bool :=
  !e.fed chanB || !e.runsHigh chanB || (if chanB then p.okB else p.okA)

/-- Both sides have been in demand together and have returned with their tests passing (R220). (log 108) -/
def PairEntry.cycled (e : PairEntry) (p : SafePair) : Bool := p.bothDemand && e.tested p false && e.tested p true

/-- A fault is latched. (log 107) -/
def SafePair.faulty (p : SafePair) : Bool := p.disc || p.test || p.cross

/-- Both sides are stable in run state, and no fault is latched or its demand cycle is complete: the source clears (R220). -/
def execPairSourceClear (pair : Fin 16) (s : State) : Host.Outcome State Fault Refusal :=
  let e := s.safetySet.PAIR.get pair
  let p := s.isl.pair.get pair
  let f := us e.FILTER_US.toNat
  .next (if s.validSet.isSome && e.KIND != 0#8 && !p.nowA && !p.nowB && s.since p.sinceA f && s.since p.sinceB f
        && ((!p.faulty && !p.needCycle) || e.cycled p) then
      (s.setPair pair fun p =>
        { p with source := false, demandA := false, demandB := false, differSince := none, disc := false, test := false, cross := false,
                 needCycle := false, bothDemand := false, okA := false, okB := false }).evalMatrix
    else s)

/-- A pair fault latches: the source stays asserted, and a SAFETY record is written (R220). -/
def State.latchPair (s : State) (k : Fin 16) (f : SafePair → SafePair) : State :=
  let old := s.isl.pair.get k
  let new := f { old with source := true, bothDemand := false, okA := false, okB := false }
  let s := s.setPair k fun _ => new
  if (old.disc, old.test, old.cross) = (new.disc, new.test, new.cross) then s else s.noteSafeFault k.val 0

/-- The sides have differed for DISC_MS (R220). -/
def execPairDiscFault (pair : Fin 16) (s : State) : Host.Outcome State Fault Refusal :=
  let e := s.safetySet.PAIR.get pair
  .next (if s.validSet.isSome && e.KIND != 0#8 && s.ran (s.isl.pair.get pair).differSince (ms e.DISC_MS.toNat) then
      (s.latchPair pair fun p => { p with disc := true }).evalMatrix
    else s)

/-- One side of a pair is judged at the end of a pulse's mask (R221): its own pulse must have shown low in its second half
while the contact reads high; a low in the other output's pulse that is high again is a cross circuit. -/
def State.judgeSide (s : State) (x : SafetySet) (tp : Fin 2) (low : BitVec 32) (k : Fin 16) (chanB : Bool) : State :=
  let e := x.PAIR.get k
  let p := s.isl.pair.get k
  let own := (if chanB then 1 else 0) == tp.val
  let was := if chanB then p.nowB else p.nowA
  let wasHigh := if e.runsHigh chanB then !was else was
  let seen := low.getLsbD (e.chan chanB)
  if e.KIND == 0#8 || !e.fed chanB then s
  else if own then
    if !wasHigh then s
    else if seen then
      s.setPair k fun p => if chanB then { p with okB := p.bothDemand && !p.demandB } else { p with okA := p.bothDemand && !p.demandA }
    else if e.runsHigh chanB then s.latchPair k fun p => { p with test := true }
    else s
  else if seen && s.contactHigh (e.chan chanB) false then s.latchPair k fun p => { p with cross := true }
  else s

/-- A test output has given its dark pulse, and its mask ends: `low` names the channels that read low in the second half of
their own pulse, or during the other output's (R221). -/
def execTestPulse (tp : Fin 2) (low : BitVec 32) (s : State) : Host.Outcome State Fault Refusal :=
  .next (match s.validSet with
    | some x =>
      if s.tpRuns && us (x.TP_WIDTH_US.toNat + x.TP_SETTLE_US.toNat) ≤ s.pulseAge x tp then
        (((idx 16).foldl (fun s k => (s.judgeSide x tp low k false).judgeSide x tp low k true) s).samplePairs).evalMatrix
      else s
    | none => s)

/-! ### Safety outputs (R222 to R225, R392) -/

/-- The channel is wired in series with the peer's, and this module has the given position (R392). -/
def State.seriesAt (s : State) (e : SoEntry) (pos : Bool) : Bool := e.PAIR_WIRING == 2#8 && s.sys.straps.pairPos == pos

/-- The task that commits an SO channel, as the running program declares it. -/
def State.soWriter (s : State) (c : Fin 4) : Option (Fin 128) :=
  (s.tk.prog.tasks.find? fun d => d.island.any fun v => match v with | .so k _ => k == c | _ => false).map fun d => d.task

/-- This module drives an SO channel: it runs the task that commits it, or still holds it in a swap (R390, R392). -/
def State.drivesSo (s : State) (c : Fin 4) : Bool :=
  s.pr.releaseSo.getLsbD c.val || (match s.soWriter c with | some t => s.hasTask t | none => s.owner)

/-- The module commands an SO channel on: its command, with no fault, no brake test and no failed one; as STANDBY only in
series wiring (R222, R224, R229, R392). -/
def State.soCommand (s : State) (c : Fin 4) : Bool :=
  let e := s.safetySet.SO.get c
  let o := s.isl.so.get c
  s.inRun && o.cmd && !o.fault && !o.btFail && e.FUNCTION != 0#8 && !(match s.isl.bt with | some b => b.so == c | none => false)
    && (s.drivesSo c || e.PAIR_WIRING == 2#8)

/-- Its high-side and low-side switch commands; in series wiring each module uses one switch (R269, R392). -/
def State.soSwitches (s : State) (c : Fin 4) : Bool × Bool :=
  let e := s.safetySet.SO.get c
  (s.soCommand c && !s.seriesAt e true, s.soCommand c && !s.seriesAt e false)

/-- A field switch command that both copies give (R23, R269). -/
def Dio.bothCopies (d : Dio) (f : FieldSide → BitVec 4) (c : Fin 4) : Bool := (f (d.field.get 0)).getLsbD c.val && (f (d.field.get 2)).getLsbD c.val

/-- The field side lets a channel close: neither copy lost or waiting, its QL line seen high and re-armed, its supply
permitted (R23, R24, R61). -/
def Dio.soFree (d : Dio) (c : Fin 4) : Bool :=
  !d.soKill.getLsbD c.val && !d.soWait.getLsbD c.val && [0, 2].all fun n => let f := d.field.get n; f.armed && !f.lost && f.grpOn

/-- The high-side and the low-side switch of a channel, as they stand on the field side (R222). -/
def Dio.soClosed (d : Dio) (c : Fin 4) : Bool × Bool :=
  (d.soFree c && d.bothCopies FieldSide.soHs c, d.soFree c && d.bothCopies FieldSide.soLs c)

/-- No switch of the channel is closed. -/
def Dio.soOff (d : Dio) (c : Fin 4) : Bool := d.soClosed c == (false, false)

/-- The peer commands its channel on (R392). -/
def State.peerSo (s : State) (c : Fin 4) : Bool :=
  match s.pr.peer with
  | some p => p.soCmd.getLsbD c.val
  | none => false

/-- The bias check of an off channel passes on a readback band: both terminals 1.5 to 3.5 V; by the wiring, one terminal or
none is judged (R223, R268, R392). -/
def State.biasPasses (s : State) (c : Fin 4) (band : BitVec 7) : Bool :=
  let e := s.safetySet.SO.get c
  let inBand (v : Nat) : Bool := v = 2 || v = 3
  let p := inBand (band.toNat % 8)
  let n := inBand (band.toNat / 8 % 8)
  if e.PAIR_WIRING == 1#8 && s.peerSo c then true
  else if e.PAIR_WIRING == 2#8 then (if s.sys.straps.pairPos then n else p)
  else p && n

/-- A readback of an SO channel arrives: the bias check while it is off, and its current while it is on (R223, R268). -/
def State.soReadback (s : State) (c : Fin 4) (band : BitVec 7) : State :=
  if (s.safetySet.SO.get c).FUNCTION == 0#8 then s
  else
    let off := s.dio.soOff c
    let ok := s.biasPasses c band
    { s with isl.so := upd s.isl.so c fun o =>
        { o with biasOk := if off then ok else o.biasOk, biasFaultSince := runTimer (off && !ok) s.now o.biasFaultSince,
                 overSince := runTimer (!off && band.getLsbD 6) s.now o.overSince } }

/-- A fault of an SO channel: both switches open, SO_FAULT, source 31 and a SAFETY record (R224). -/
def State.soFail (s : State) (c : Fin 4) : State :=
  (({ s with isl.so := upd s.isl.so c fun o => { o with fault := true } }).noteSafeFault c.val 0).evalMatrix

/-- A bias fault has persisted for 1 ms (R223, R224). -/
def execSoBiasFault (so : Fin 4) (s : State) : Host.Outcome State Fault Refusal :=
  .next (if !(s.isl.so.get so).fault && s.ran (s.isl.so.get so).biasFaultSince (ms 1) then s.soFail so else s)

/-- The load current has stood above 3.0 A for 50 µs (R223, R224). -/
def execSoOvercurrent (so : Fin 4) (s : State) : Host.Outcome State Fault Refusal :=
  .next (if !(s.isl.so.get so).fault && s.ran (s.isl.so.get so).overSince (us 50) then s.soFail so else s)

/-- A test of a channel is due: in use, without a fault, SO_TEST_S after its last (R223). (log 109) -/
def State.soTestDue (s : State) (c : Fin 4) : Bool :=
  let x := s.safetySet
  s.sys.phase == .serving && (x.SO.get c).FUNCTION != 0#8 && !(s.isl.so.get c).fault && s.since (s.isl.so.get c).testAt (sec x.SO_TEST_S.toNat)

/-- The light test of an off channel; not while the bias check shows a fault, nor in parallel wiring while the peer's channel
is on (R223, R392). (log 109) -/
def execSoLightTest (so : Fin 4) (ok : Bool) (s : State) : Host.Outcome State Fault Refusal :=
  let o := s.isl.so.get so
  .next (if s.soTestDue so && s.dio.soOff so && o.biasOk && !((s.safetySet.SO.get so).PAIR_WIRING == 1#8 && s.peerSo so) then
      let s := { s with isl.so := put s.isl.so so { o with testAt := s.now } }
      if ok then s else s.soFail so
    else s)

/-- The dark test of an on channel: high side and low side in turn; skipped in parallel wiring while the peer's channel is
on (R223, R392). (log 109) -/
def execSoDarkTest (so : Fin 4) (ok : Bool) (s : State) : Host.Outcome State Fault Refusal :=
  let o := s.isl.so.get so
  .next (if s.soTestDue so && !s.dio.soOff so && !((s.safetySet.SO.get so).PAIR_WIRING == 1#8 && s.peerSo so) then
      let s := { s with isl.so := put s.isl.so so { o with testAt := s.now, testLow := !o.testLow } }
      if ok then s else s.soFail so
    else s)

/-! ### Monitored axes (R226, R227) -/

/-- Axis entry `n` of the set. -/
def State.axisEntry (s : State) (n : Fin 8) : AxisEntry := s.safetySet.AXIS.get n

/-- Axis `n` of the island changed. -/
def State.setSafeAxis (s : State) (n : Fin 8) (f : SafeAxis → SafeAxis) : State := { s with isl.axis := upd s.isl.axis n f }

/-- The brake test in progress is of an axis entry. -/
def State.testing (s : State) (n : Fin 8) : Bool :=
  match s.isl.bt with
  | some b => (s.safetySet.SO.get b.so).BRAKE_AXIS.toNat == n.val
  | none => false

/-- A function of an axis entry is active: SLS 0, SLP 1, SDI 2 (R227, R245). -/
def State.axisFunc (s : State) (n : Fin 8) (k : Nat) : Bool :=
  let e := s.axisEntry n
  e.used && e.FUNC.getLsbD k && (e.ENABLE_SRC == 0#8 || (s.isl.axis.get n).enable.getLsbD k)

/-- A count scaled to SPU (R226). (log 115) -/
def spu (count : Int) (num den : BitVec 32) : Int := count * num.toInt / (den.toNat : Int)

/-- The furthest point in the permitted direction (R227). (log 115) -/
def furthest (dir : BitVec 8) (best : Option Int) (pos : Int) : Option Int :=
  match best with
  | none => some pos
  | some b => some (if dir == 0#8 then max b pos else min b pos)

/-- The positions of the window, and the newest one before it. (log 115) -/
def windowed (from_ : Nat) : List (Nat × Int × Int) → List (Nat × Int × Int)
  | [] => []
  | e :: r => if from_ < e.1 then e :: windowed from_ r else [e]

/-- One monitored axis takes the encoder counts: its positions, the speed window, the discrepancy timer and the furthest
points (R226, R227). (log 115) -/
def State.sampleAxis (s : State) (counts : Vector (BitVec 32) 8) (n : Fin 8) : SafeAxis :=
  let e := s.axisEntry n
  let a := s.isl.axis.get n
  if s.validSet.isNone || !e.used then a
  else
    let count (k : BitVec 8) : Int := (counts.toList.getD k.toNat 0#32).toInt
    let p1 := spu (count e.SRC1_ENC) e.SCALE1_NUM e.SCALE1_DEN
    let p2 := spu (if e.SRC2_KIND == 0#8 then count e.SRC2_ENC else (s.mot.axis.toList.getD e.AXIS.toNat Axis.init).pos) e.SCALE2_NUM e.SCALE2_DEN
    let sdi := s.axisFunc n 2
    { a with
      pos1 := p1, pos2 := p2, history := (s.now, p1, p2) :: windowed (s.now - us e.SPEED_WIN_US.toNat) a.history,
      discSince := runTimer (!s.testing n && e.DISC_TOL.toNat < (p1 - p2).natAbs) s.now a.discSince,
      sdiBest1 := if sdi then furthest e.SDI_DIR a.sdiBest1 p1 else none, sdiBest2 := if sdi then furthest e.SDI_DIR a.sdiBest2 p2 else none }

/-- The brake test keeps the furthest movement of either encoder source (R229). -/
def State.testMoved (s : State) (b : BrakeTest) : BrakeTest :=
  let e := s.safetySet.SO.get b.so
  let a := s.isl.axis.toList.getD e.BRAKE_AXIS.toNat SafeAxis.init
  let x := s.safetySet.AXIS.toList.getD e.BRAKE_AXIS.toNat AxisEntry.dflt
  { b with moved := max b.moved (max (a.pos1 - b.start1).natAbs (if x.SRC2_KIND == 0#8 then (a.pos2 - b.start2).natAbs else 0)) }

/-- The change of position over the window exceeds a limit in SPU per second, on source 1 or source 2 (R227). (log 115) -/
def SafeAxis.faster (a : SafeAxis) (limit : Nat) : Bool × Bool :=
  match a.history, a.history.getLast? with
  | (t, p, q) :: _, some (t0, p0, q0) =>
    let quick (d : Int) : Bool := limit * (t - t0) < d.natAbs * sec 1
    (t0 < t && quick (p - p0), t0 < t && quick (q - q0))
  | _, _ => (false, false)

/-- A position has moved against the permitted direction by more than a tolerance (R227). -/
def against (dir : BitVec 8) (tol : Nat) (best : Option Int) (pos : Int) : Bool :=
  match best with
  | none => false
  | some b => (tol : Int) < (if dir == 0#8 then b - pos else pos - b)

/-- The speed window is full. -/
def SafeAxis.windowFull (a : SafeAxis) (e : AxisEntry) : Bool :=
  match a.history.head?, a.history.getLast? with
  | some (t, _), some (t0, _) => us e.SPEED_WIN_US.toNat ≤ t - t0
  | _, _ => false

/-- SLS, SLP or SDI is violated; during a brake test SLS and SLP act on SRC1 alone (R227, R229). -/
def State.axisViolates (s : State) (n : Fin 8) : Bool :=
  let e := s.axisEntry n
  let a := s.isl.axis.get n
  let bt := s.testing n
  let (f1, f2) := a.faster e.SLS_LIMIT.toNat
  let outside (p : Int) : Bool := p < e.SLP_MIN.toInt || e.SLP_MAX.toInt < p
  (s.axisFunc n 0 && a.windowFull e && (f1 || (!bt && f2)))
    || (s.axisFunc n 1 && (outside a.pos1 || (!bt && outside a.pos2)))
    || (s.axisFunc n 2 && !bt && (against e.SDI_DIR e.SDI_TOL.toNat a.sdiBest1 a.pos1 || against e.SDI_DIR e.SDI_TOL.toNat a.sdiBest2 a.pos2))

/-- The discrepancy has lasted DISC_MS (R227). (log 115) -/
def State.axisDiffers (s : State) (n : Fin 8) : Bool :=
  !s.testing n && s.ran (s.isl.axis.get n).discSince (ms (s.axisEntry n).DISC_MS.toNat)

/-- A failed brake test holds the axis source until a passing one (R229). -/
def State.brakeFailed (s : State) (n : Fin 8) : Bool :=
  (idx 4).any fun c => (s.safetySet.SO.get c).FUNCTION == 2#8 && (s.safetySet.SO.get c).BRAKE_AXIS.toNat == n.val
    && (s.isl.so.get c).btFail

/-- The axis source latches, with a SAFETY record (R227). -/
def State.latchAxis (s : State) (n : Fin 8) : State :=
  if (s.isl.axis.get n).latched then s else (s.setSafeAxis n fun a => { a with latched := true }).noteSafeFault n.val 0

/-- Every axis whose condition holds latches (R227). -/
def State.checkAxes (s : State) : State :=
  if s.validSet.isNone then s
  else (idx 8).foldl (fun s n => if (s.axisEntry n).used && (s.axisViolates n || s.axisDiffers n) then s.latchAxis n else s) s

/-- The island takes the encoder counts and evaluates (R226, R227). -/
def State.sampleAxes (s : State) (counts : Vector (BitVec 32) 8) : State :=
  let s := { s with isl.axis := Vector.ofFn (s.sampleAxis counts) }
  let s := { s with isl.bt := s.isl.bt.map s.testMoved }
  s.checkAxes.evalMatrix

/-- A source asserts: both channels take it in and evaluate every target (R231, R237). -/
def execSafetySourceAssert (s : State) : Host.Outcome State Fault Refusal :=
  .next (if s.sys.phase == .serving then s.checkAxes.evalMatrix else s)

/-- Axis entries that take an encoder as a source. -/
def SafetySet.axesOf (x : SafetySet) (enc : Nat) : List (Fin 8) :=
  (idx 8).filter fun n => let e := x.AXIS.get n
    e.used && (e.SRC1_ENC.toNat == enc || (e.SRC2_KIND == 0#8 && e.SRC2_ENC.toNat == enc))

/-- A quadrature error of an encoder: QUAD_ERR of the motion unit, and the source of the axes that it feeds (R226, R317). -/
def execEncoderQuadError (enc : Fin 8) (s : State) : Host.Outcome State Fault Refusal :=
  .next (if s.sys.phase == .serving then
      let s := { s with mot.enc := upd s.mot.enc enc fun e => { e with quadErr := true } }
      match s.validSet with
      | some x => ((x.axesOf enc.val).foldl (fun s n => s.latchAxis n) s).evalMatrix
      | none => s
    else s)

/-- The two positions have differed beyond DISC_TOL for DISC_MS (R227). -/
def execAxisDiscrepancy (axis : Fin 8) (s : State) : Host.Outcome State Fault Refusal :=
  .next (if s.validSet.isSome && (s.axisEntry axis).used && s.axisDiffers axis then (s.latchAxis axis).evalMatrix else s)

/-- A cyclic safety-class task has made no commit for WD_MULT periods (R231). -/
def execWdTaskExpire (task : Fin 128) (s : State) : Host.Outcome State Fault Refusal :=
  .next (match s.validSet with
    | some x => if s.wdExpired x task then s.evalMatrix else s
    | none => s)

/-! ### Brake tests (R228 to R230) -/

/-- An hour in ticks. -/
def hours (n : Nat) : Nat := sec (3600 * n)

/-- The reasons of R230 for which a brake test is refused. (log 116) -/
def State.btRefused (s : State) (c : Fin 4) : Bool :=
  let e := s.safetySet.SO.get c
  let a := s.isl.axis.toList.getD e.BRAKE_AXIS.toNat SafeAxis.init
  let moves : Bool := match a.history.head?, a.history.getLast? with
    | some (_, p, q), some (_, p0, q0) => e.BT_TOL.toNat < (p - p0).natAbs || e.BT_TOL.toNat < (q - q0).natAbs
    | _, _ => false
  e.FUNCTION != 2#8 || moves || s.isl.killed.get 8 || (s.isl.so.get c).fault || s.isl.bt.isSome

/-- The motion axis that a brake channel's entry names. -/
def State.brakeMotion (s : State) (c : Fin 4) : Option (Fin 8) :=
  asFin 8 (s.safetySet.AXIS.toList.getD (s.safetySet.SO.get c).BRAKE_AXIS.toNat AxisEntry.dflt).AXIS.toNat

/-- A brake test starts: the island opens the channel, and the motion unit takes no new target for the axis (R229).
(log 116) -/
def State.startTest (s : State) (c : Fin 4) : State :=
  let a := s.isl.axis.toList.getD (s.safetySet.SO.get c).BRAKE_AXIS.toNat SafeAxis.init
  let base := match s.brakeMotion c with | some n => (s.mx n).pos | none => 0
  let s := { s with
    isl.so := upd s.isl.so c fun o => { o with cmd := false, btRequest := false },
    isl.bt := some ⟨c, .apply, s.now, a.pos1, a.pos2, 0, base⟩ }
  match s.brakeMotion c with
  | some n => s.setMx n fun x => { x with btHold := true }
  | none => s

/-- SAFE_BRAKE_TEST starts the test of an SBC channel (R229, R230). -/
def cmdSafeBrakeTest (rq : Request) (s : State) : State :=
  serve Cmd.safeBrakeTest rq s fun s =>
    match asFin 4 (rq.u8 0) with
    | none => .refuse 0x0803 (rq.u8 0) 0
    | some c => refuseIf (s.btRefused c) 0x080A c.val <| .done (s.startTest c) []

/-- SAFE_BRAKE_TEST (R229). -/
def execSafeBrakeTest (rq : Request) (s : State) : Host.Outcome State Fault Refusal := .next (s.command rq cmdSafeBrakeTest)

/-- Ticks that the test's pulses take (R229). -/
def SoEntry.moveTicks (e : SoEntry) : Nat := (e.BT_STEPS.toNat * sec 1 + e.BT_RATE_HZ.toNat - 1) / max 1 e.BT_RATE_HZ.toNat

/-- How long a step of the test lasts, and the step after it (R229). -/
def SoEntry.phase (e : SoEntry) (p : BtStep) : Nat × Option BtStep :=
  match p with
  | .apply => (ms e.BT_APPLY_MS.toNat, some .posMove)
  | .posMove => (e.moveTicks + ms e.BT_HOLD_MS.toNat, some .posBack)
  | .posBack => (e.moveTicks, some .negMove)
  | .negMove => (e.moveTicks + ms e.BT_HOLD_MS.toNat, some .negBack)
  | .negBack => (e.moveTicks, some .settle)
  | .settle => (ms 50, none)

/-- The test ends with its result (R229): a pass clears BT_DUE and restarts the interval; a fail sets BT_FAIL, latches the
axis source and makes the position uncertain. (log 116) -/
def State.endTest (s : State) (b : BrakeTest) : State :=
  let e := s.safetySet.SO.get b.so
  let pass := b.moved ≤ e.BT_TOL.toNat
  let s := { s with
    isl.bt := none,
    isl.so := upd s.isl.so b.so fun o =>
      if pass then { o with cmd := false, btResult := .passed, btPassAt := s.now, btDue := false }
      else { o with cmd := false, btResult := .failed, btFail := true } }
  let s := match s.brakeMotion b.so with
    | some n => s.setMx n fun x =>
        { x with btHold := false, vel := if x.btHold then 0 else x.vel, stat := { x.stat with POSITION_UNCERTAIN := if pass then x.stat.POSITION_UNCERTAIN else 1#1 } }
    | none => s
  let s := match asFin 8 e.BRAKE_AXIS.toNat with
    | some n => if pass then s.setSafeAxis n fun a => { a with overdue := false } else s.latchAxis n
    | none => s
  (s.event 6 0x0883 b.so.val b.so.val (if pass then 0 else 1)).evalMatrix

/-- A step of the brake test ends and the next begins, or the result stands; without a test, one that a safety-class task has
requested starts (R229). -/
def execBrakeTestPhase (s : State) : Host.Outcome State Fault Refusal :=
  .next (match s.isl.bt with
    | none =>
      match (idx 4).find? fun c => (s.isl.so.get c).btRequest && !s.btRefused c with
      | some c => if s.inRun then s.startTest c else s
      | none => s
    | some b =>
      let (d, nxt) := (s.safetySet.SO.get b.so).phase b.step
      if s.since b.since d then
        let s := s.advanceAxes
        match nxt with
        | some p => { s with isl.bt := some { b with step := p, since := s.now } }
        | none => s.endTest b
      else s)

/-- BT_INTERVAL_H has passed since the last pass (R230). -/
def execBrakeTestDue (so : Fin 4) (s : State) : Host.Outcome State Fault Refusal :=
  let e := s.safetySet.SO.get so
  let o := s.isl.so.get so
  .next (if s.sys.phase == .serving && e.FUNCTION == 2#8 && !o.btDue && s.since o.btPassAt (hours e.BT_INTERVAL_H.toNat) then
      { s with isl.so := put s.isl.so so { o with btDue := true } }
    else s)

/-- BT_GRACE_H more has passed: an ALARM record every hour, or the axis source until a test passes (R230). -/
def execBrakeTestOverdue (so : Fin 4) (s : State) : Host.Outcome State Fault Refusal :=
  let e := s.safetySet.SO.get so
  let o := s.isl.so.get so
  .next (if s.sys.phase == .serving && e.FUNCTION == 2#8 && o.btDue && s.since o.btPassAt (hours (e.BT_INTERVAL_H.toNat + e.BT_GRACE_H.toNat)) then
      if e.BT_OVERDUE_ACTION == 0#8 then
        if o.btAlarmAt < o.btPassAt || s.since o.btAlarmAt (hours 1) then
          ({ s with isl.so := put s.isl.so so { o with btAlarmAt := s.now } }).event 4 0x0881 so.val 0
            (s.isl.pairFault + 65536 * s.isl.axisFault + 16777216 * s.isl.soFault) (1 + so.val)
        else s
      else match asFin 8 e.BRAKE_AXIS.toNat with
        | some n => ((s.setSafeAxis n fun a => { a with overdue := true }).latchAxis n).evalMatrix
        | none => s
    else s)

/-! ### Resets (R234) -/

/-- What SAFE_RESET clears besides targets: a failed brake test after a passing one, the latches of axes without a condition,
and the faults of outputs whose bias check passes (R224, R227, R229). (log 116) -/
def State.clearLatches (s : State) : State :=
  let s := { s with
    isl.so := s.isl.so.map fun o =>
      { o with btFail := o.btFail && o.btResult != .passed, fault := o.fault && !o.biasOk, biasFaultSince := if o.biasOk then none else o.biasFaultSince } }
  (idx 8).foldl (fun s n =>
    if s.axisViolates n || s.axisDiffers n || s.brakeFailed n || (s.isl.axis.get n).overdue then s
    else s.setSafeAxis n fun a => { a with latched := false }) s

/-- A reset of the killed, latched targets of a mask (R234): each whose f(T) is false is released; the released mask, and
whether one stays killed. (log 112) -/
def State.resetTargets (s : State) (mask : Nat) : State × Nat × Bool :=
  match s.validSet with
  | none => (s, 0, false)
  | some x =>
    let src := s.sourcesNow x
    let asked := (idx 10).filter fun t => mask.testBit t.val && s.isl.killed.get t
    let free := asked.filter fun t => !(x.TARGET.get t).trips src
    let killed := Vector.ofFn fun t => s.isl.killed.get t && !free.contains t
    let s := { s with
      isl.killed := killed, isl.killedB := killed, isl.stat := { s.isl.stat with RESET_COUNT := sat s.isl.stat.RESET_COUNT } }
    let s := if free.isEmpty then s else s.mirrorIsland
    (s.evalMatrix, (free.map fun t => 2 ^ t.val).sum, free.length < asked.length)

/-- SAFE_RESET releases the named targets whose kill condition is false (R234, R247). (log 112) -/
def cmdSafeReset (rq : Request) (s : State) : State :=
  serve Cmd.safeReset rq s fun s =>
    refuseIf (1024 ≤ rq.u16 0) 0x0803 0xFFFF <|
      let (s, freed, active) := s.clearLatches.resetTargets (rq.u16 0)
      if active then .refuseIn s 0x0807 0xFFFF 0 (leBytes 2 freed) else .done s (leBytes 2 freed)

/-- SAFE_RESET (R234). -/
def execSafeReset (rq : Request) (s : State) : Host.Outcome State Fault Refusal := .next (s.command rq cmdSafeReset)

/-- The level of RESET_DIO as a frame brings it: the length of a pulse is taken at its falling edge (R234). (log 112) -/
def State.sampleReset (s : State) (high : Bool) : State :=
  match s.isl.resetDioSince with
  | none => if high then { s with isl.resetDioSince := some s.now } else s
  | some t => if high then s else { s with isl.resetDioSince := none, isl.resetPulse := some (s.now - t) }

/-- The falling edge of a pulse on RESET_DIO: from 0.1 to 2.0 s it resets the targets with RESET_BY_DIO; a longer one is
ignored and recorded (R234). -/
def execResetDioPulse (s : State) : Host.Outcome State Fault Refusal :=
  .next (match s.isl.resetPulse with
    | none => s
    | some d =>
      let s := { s with isl.resetPulse := none }
      let x := s.safetySet
      if sec 2 < d then s.event 6 0x0881 x.RESET_DIO.toNat 0 (s.isl.pairFault + 65536 * s.isl.axisFault + 16777216 * s.isl.soFault) (d / ms 1)
      else if d < ms 100 then s
      else (s.resetTargets ((idx 10).map fun t => if (x.TARGET.get t).RESET_BY_DIO == 1#1 then 2 ^ t.val else 0).sum).1)

end Sys2Proof.Machine
end

