-- ==== Sys2Proof/Machine/Monitor.lean ====
section
/-! DEFINITION. The power and thermal monitor's readings (R53 to R72): sensors and their validity, VIN, the energy held, and the
budget record. -/

namespace Sys2Proof.Machine

/-! ### Temperatures (R68) -/

/-- The average of one sensor's last eight readings, in 1/16 °C (R68). (log 65) -/
def sensorAvg (rs : List (BitVec 16)) : Option Int :=
  if rs.isEmpty then none else some ((rs.map BitVec.toInt).sum / (rs.length : Int))

/-- −55 to +150 °C, in 1/16 °C (R68). (log 65) -/
def inSensorRange (t : Int) : Bool := -880 ≤ t && t ≤ 2400

/-- The average of a sensor whose newest reading lies in the range (R68). (log 65) -/
def Power.readable (p : Power) (i : Fin 6) : Option Int :=
  match p.temps.get i with
  | [] => none
  | r :: rs => if inSensorRange r.toInt then sensorAvg (r :: rs) else none

/-- The die averages within the range, sensors TS_DIE0 to TS_DIE3. -/
def Power.dieAvgs (p : Power) : List Int := (((idx 6).take 4).filterMap p.readable).filter inSensorRange

/-- A number put in its place in a rising list. -/
def insertInt (x : Int) : List Int → List Int
  | [] => [x]
  | y :: r => if x ≤ y then x :: y :: r else y :: insertInt x r

/-- Twice the median: with an even number the mean of the middle two (R68). -/
def median2 (xs : List Int) : Int :=
  let l := xs.foldr insertInt []
  let n := l.length
  (l.drop ((n - 1) / 2)).headD 0 + (l.drop (n / 2)).headD 0

/-- The valid die averages: with at least three in the range, those within 20 °C of their median (R68). -/
def Power.validDies (p : Power) : List Int :=
  let l := p.dieAvgs
  if l.length < 3 then l else l.filter fun a => let d := 2 * a - median2 l; -640 ≤ d && d ≤ 640

/-- The valid heat-sink averages, sensors TS_SINK0 and TS_SINK1. -/
def Power.validSinks (p : Power) : List Int := ((idx 6).drop 4).filterMap p.readable

/-- The die temperature: the highest valid die average (R68). -/
def Power.dieT (p : Power) : Option Int := p.validDies.max?

/-- The heat-sink temperature (R68). -/
def Power.sinkT (p : Power) : Option Int := p.validSinks.max?

/-- The floor that sensor faults raise under the heat level (R71). -/
def Power.heatFloor (p : Power) : Nat := max (if p.validDies.length < 2 then 2 else 0) (if p.validSinks.isEmpty then 1 else 0)

/-- A temperature, if there is one, above a bound. (log 65) -/
def above (t : Option Int) (b : Int) : Bool :=
  match t with
  | some x => b < x
  | none => false

/-- A temperature is known and at most a bound. (log 65) -/
def atMost (t : Option Int) (b : Int) : Bool :=
  match t with
  | some x => x ≤ b
  | none => false

/-- The level whose entry condition holds now, with the floor (R69, R71). -/
def Power.heatEntry (p : Power) : Nat :=
  max p.heatFloor <|
    if above p.dieT (115 * 16) then 3 else if above p.dieT (105 * 16) then 2
    else if above p.dieT (95 * 16) || above p.sinkT (85 * 16) then 1 else 0

/-- The exit condition of a level holds now (R69), and no floor stands at it (R71). (log 63) -/
def Power.heatExit (p : Power) (level : Nat) : Bool :=
  p.heatFloor < level &&
    (if level = 1 then atMost p.dieT (90 * 16) && atMost p.sinkT (80 * 16)
     else if level = 2 then atMost p.dieT (100 * 16) else atMost p.dieT (110 * 16))

/-- The temperature that R501 looks at: the higher valid average of the heat-sink sensors, else the highest
valid average of the dies. (log 71) -/
def Power.startTemp (p : Power) : Option Int := (p.sinkT).or p.dieT

/-! ### VIN and the store (R55, R57) -/

/-- VIN is taken as below 15.0 V while it is unknown (R55, log 29). -/
def vinUnknownMv : Nat := 14999

/-- VIN in mV: the lower of the valid readings of ILK0 and ILK2 (R55). -/
def Power.vin (p : Power) : Nat :=
  if p.vinUnknown then vinUnknownMv
  else match p.vinIlk0, p.vinIlk2 with
    | some a, some b => min a.toNat b.toNat
    | some a, none => a.toNat
    | none, some b => b.toNat
    | none, none => vinUnknownMv

/-- HOLDUP_MJ: ½·C·(VIN² − 64 V²) with the capacitance measured at power-up, in mJ (R57). -/
def Power.holdupMj (p : Power) : Nat := min 65535 (p.stat.HOLDUP_CAP.toNat * (p.vin * p.vin - 64000000) / 200000000)

/-- One sample of VIN (R54, R58, R60, R67, R75): the timers of every threshold, the lowest VIN, and HOLDUP_READY.
(log 62, 66, 67) -/
def Power.sampleVin (p : Power) (now : Nat) : Power :=
  let v := p.vin
  let h := p.act.VIN_HIGH_MV.toNat
  { p with
    e1OkSince := runTimer (17500 ≤ v) now p.e1OkSince
    e2OkSince := runTimer (16000 ≤ v) now p.e2OkSince
    waitOkSince := runTimer (p.pfStage == .wait && 18000 ≤ v) now p.waitOkSince
    vinHighSince := runTimer (h < v) now p.vinHighSince
    vinHighOkSince := runTimer (v ≤ h - 500) now p.vinHighOkSince
    holdupReady := p.holdupReady || (1250 ≤ p.stat.HOLDUP_CAP.toNat && 18000 ≤ v)
    stat := if p.vinUnknown then p.stat
      else if p.stat.MIN_VIN_MV = 0 || v < p.stat.MIN_VIN_MV.toNat then { p.stat with MIN_VIN_MV := BitVec.ofNat 16 v } else p.stat }

/-! ### The budget record (R72) -/

/-- E2_US: time in the present E2, or at E3 in the E2 before it, in µs (R72). -/
def Power.e2Time (p : Power) (now : Nat) : Nat :=
  match p.energy with
  | .e3 => p.e2Us.toNat
  | .e2 => match p.e2Since with | some a => min 65535 ((now - a) / us 1) | none => 0
  | .e0 | .e1 => 0

/-- The budget record as it stands now; a temperature without a valid sensor is given by the caller (R72). -/
def State.budget (s : State) (die sink : Int) : BudgetRec :=
  let p := s.pow
  { BudgetRec.dflt with
    HEAT := BitVec.ofNat 2 p.heat.num, ENERGY := BitVec.ofNat 2 p.energy.num, HOLDUP_WEAK := BitVec.ofNat 1 (bit p.holdupWeak),
    HOLDUP_READY := BitVec.ofNat 1 (bit p.holdupReady), PF_WARN := BitVec.ofNat 1 (bit p.pfWarn),
    FEED_A_OK := BitVec.ofNat 1 (bit (18000 ≤ p.feedA.toNat)), FEED_B_OK := BitVec.ofNat 1 (bit (18000 ≤ p.feedB.toNat)),
    VIN_HIGH := BitVec.ofNat 1 (bit p.vinHigh), FIELD_OFF := BitVec.ofNat 1 (bit (2 ≤ p.energy.num)),
    BOOST_LIMITED := BitVec.ofNat 1 (bit p.boostLimited), VIN_UNKNOWN := BitVec.ofNat 1 (bit p.vinUnknown),
    THERM_SENSOR_FAULT := BitVec.ofNat 1 (bit p.thermFault), SWAP_REQ := BitVec.ofNat 1 (bit p.swapReq), SEQ := p.seq,
    DIE_T := BitVec.ofInt 16 die, SINK_T := BitVec.ofInt 16 sink, VIN_MV := BitVec.ofNat 16 p.vin, BOOST_MA := p.boostMa,
    HOLDUP_MJ := BitVec.ofNat 16 p.holdupMj, E2_US := BitVec.ofNat 16 (p.e2Time s.now), PUBLISH_TS := s.ts }

/-- The budget word, bytes 0x00 to 0x03 (R72). -/
def State.budgetWord (s : State) : Nat := u32 (s.budget 0 0).toBytes 0

/-- An EVT_SUPPLY record: NEW the budget word, DETAIL VIN_MV (R520). -/
def State.supplyEvent (s : State) (sev : Nat) : State := s.event sev 0x0F91 0xFF 0 s.budgetWord s.pow.vin

/-- Time counted to the levels that hold (R75). -/
def countLevel (held : Bool) (dt acc : Nat) (seconds : BitVec 32) : Nat × BitVec 32 :=
  if held then ((acc + dt) % sec 1, satAdd seconds ((acc + dt) / sec 1)) else (acc, seconds)

/-- The level times are brought up to now (R75). -/
def Power.countHeat (p : Power) (now : Nat) : Power :=
  let dt := now - p.heatAt
  let (a1, n1) := countLevel (1 ≤ p.heat.num) dt p.h1At p.stat.H1_SECONDS
  let (a2, n2) := countLevel (2 ≤ p.heat.num) dt p.h2At p.stat.H2_SECONDS
  let (a3, n3) := countLevel (3 ≤ p.heat.num) dt p.h3At p.stat.H3_SECONDS
  { p with heatAt := now, h1At := a1, h2At := a2, h3At := a3,
           stat := { p.stat with H1_SECONDS := n1, H2_SECONDS := n2, H3_SECONDS := n3 } }

end Sys2Proof.Machine
end

