-- ==== Sys2Proof/Machine/Dio.lean ====
section
/-! DEFINITION. Digital field channels and the isolation links (R22 to R24, R61, R251 to R276): frames in both directions, what
each side judges, diagnostics and quality, the group record, and the commands of the channels and groups. -/

namespace Sys2Proof.Machine

/-! ### Frames on the wire (R266) -/

/-- One bit of the CRC-16. -/
def crc16Step (r : BitVec 16) (b : Bool) : BitVec 16 := if r.getMsbD 0 != b then (r <<< 1) ^^^ 0x1021#16 else r <<< 1

/-- The CRC-16 of a frame: over bits 0 to 83 in the order of transmission, from 0xFFFF (R266). -/
def frameCrc (n : Nat) : BitVec 16 := ((List.range 84).map n.testBit).foldl crc16Step 0xFFFF#16

/-- The 100 bits of an uplink frame with its CRC (R266, R267). -/
def UplinkFrame.wire (x : UplinkFrame) : BitVec 100 := BitVec.ofNat 100 (pack { x with CRC := frameCrc (pack x.fields) }.fields)

/-- The 100 bits of a downlink frame with its CRC (R266, R269). -/
def DownlinkFrame.wire (x : DownlinkFrame) : BitVec 100 := BitVec.ofNat 100 (pack { x with CRC := frameCrc (pack x.fields) }.fields)

/-- A received frame is valid: its CRC matches, and its SEQ follows the last valid one's or it is the first after a break (R266). -/
def frameOk (w : BitVec 100) (seqRef : BitVec 4) (broken : Bool) : Bool :=
  bitsAt w.toNat 84 16 == frameCrc w.toNat && (broken || bitsAt w.toNat 0 4 == seqRef + 1)

/-! ### Channels -/

/-- Channel `8n + i`. -/
def dioChan (n : Fin 4) (i : Fin 8) : Fin 32 := ⟨8 * n.val + i.val, by omega⟩

/-- The link of a channel, and its place there. -/
def dioLink (c : Fin 32) : Fin 4 := ⟨c.val / 8, by omega⟩
/-- Its place in the group. -/
def dioPos (c : Fin 32) : Fin 8 := ⟨c.val % 8, by omega⟩

/-- The descriptor in force of a channel. -/
def State.dioDesc (s : State) (c : Fin 32) : DioDesc := s.dio.act.get c

/-- The field side of a channel. -/
def State.dioField (s : State) (c : Fin 32) : DioField := (s.dio.field.get (dioLink c)).ch.get (dioPos c)

/-- The field side of a channel changed. -/
def State.setDio (s : State) (c : Fin 32) (f : DioField → DioField) : State :=
  { s with dio.field := upd s.dio.field (dioLink c) fun x => { x with ch := upd x.ch (dioPos c) f } }

/-- The group rail is powered: permitted, and its fuse whole (R61, R264, R267). -/
def FieldSide.railOn (f : FieldSide) : Bool := f.grpOn && !f.fuse

/-- An output switch is on (R23, R24, R255, R257, R265, R271). -/
def FieldSide.outOn (f : FieldSide) (mode : BitVec 8) (x : DioField) : Bool :=
  mode == 2#8 && x.cmd && x.latchedAt.isNone && f.railOn && f.armed && !f.lost && !f.cfgWait && !f.qlGrp && !f.qlWait && !f.fuseWait

/-- The switch of an output channel is on. -/
def State.dioOn (s : State) (c : Fin 32) : Bool := (s.dio.field.get (dioLink c)).outOn (s.dioDesc c).MODE (s.dioField c)

/-- The command of an output channel as the downlink carries it: its byte of the DO command line, while this module drives it
(R270, R272, R390, R456). -/
def State.doCommand (s : State) (c : Fin 32) : Bool :=
  (s.dioDesc c).MODE == 2#8 && s.inRun && (s.img.get (0x180 + c.val)).getLsbD 0
    && (s.drives (0x180 + c.val) || s.pr.releaseDo.contains c)

/-- The partner of paired wiring is commanded on (R261). -/
def State.partnerOn (s : State) (c : Fin 32) : Bool :=
  let d := s.dioDesc c
  d.MODE == 2#8 && d.PAIRED == 1#1 &&
    (if d.PAIR_PEER == 1#1 then (match s.pr.peer with | some p => p.doCmd.getLsbD c.val | none => false)
     else match asFin 32 d.PARTNER.toNat with
       | some p => s.doCommand p
       | none => false)

/-- EXT_FEED is suppressed: the partner is commanded on, or was within 2 ms (R261). (log 121) -/
def State.extQuiet (s : State) (c : Fin 32) : Bool := s.partnerOn c || (s.dio.partnerOffAt.get c).isSome

/-- The open-wire test is suppressed: the pin is held high by the partner while the channel is off, or the peer's channel is
commanded on (R261). (log 121) -/
def State.openQuiet (s : State) (c : Fin 32) : Bool :=
  s.partnerOn c && ((s.dioDesc c).PAIR_PEER == 1#1 || !(s.dioField c).cmd)

/-! ### The field side between frames (R24, R257, R258) -/

/-- The field side sees the QL lines: a line in kill leaves its channel or group waiting for its re-arm (R24). -/
def Dio.seeLines (d : Dio) : Dio :=
  let low := ~~~d.ql
  { d with
    soKill := low.setWidth 4, soWait := d.soWait ||| low.setWidth 4,
    field := Vector.ofFn fun n => let f := d.field.get n
      let k := low.getLsbD (4 + n.val)
      { f with qlGrp := k, qlWait := f.qlWait || k } }

/-- The conditions of one output channel as its field side finds them at a frame: what no longer holds clears its flag (R258).
(log 121) -/
def State.fieldCond (s : State) (c : Fin 32) (cond : BitVec 4) (x : DioField) : DioField :=
  let f := s.dio.field.get (dioLink c)
  let d := s.dioDesc c
  let on := f.outOn d.MODE x
  let live := d.MODE == 2#8 && f.railOn
  let openNow := live && cond.getLsbD 1 && !s.openQuiet c && ((!x.cmd && d.OW_OFF_EN == 1#1) || (on && d.OW_ON_EN == 1#1))
  let extNow := live && cond.getLsbD 3 && !s.extQuiet c && d.EXT_FEED_EN == 1#1 && (!x.cmd || f.qlGrp || x.latchedAt.isSome)
  { x with
    limitSince := runTimer (on && cond.getLsbD 0) s.dio.clock x.limitSince, hot := live && cond.getLsbD 2,
    openSince := runTimer openNow s.dio.clock x.openSince, openWire := x.openWire && openNow,
    extSince := runTimer extNow s.dio.clock x.extSince, extFeed := x.extFeed && extNow }

/-- A timer of the field clock has reached `t` ticks. -/
def State.fieldRan (s : State) (t0 : Option Nat) (t : Nat) : Bool :=
  match t0 with
  | some a => a + t ≤ s.dio.clock
  | none => false

/-- The field front-ends are supplied (R18). (log 118) -/
def State.fieldUp (s : State) : Bool := s.sys.phase != .off

/-- The logic side of the links runs: released from reset (R23). -/
def State.logicUp (s : State) : Bool := s.sys.phase != .off && s.sys.phase != .held && s.pow.pfStage != .wait

/-- A raw input state has held for the filter time (R254). -/
def execInputFilterPass (c : Fin 32) (level : Bool) (s : State) : Host.Outcome State Fault Refusal :=
  .next (if s.fieldUp && (s.dioDesc c).MODE == 1#8 then s.setDio c fun x => { x with filtered := level } else s)

/-- An output enters current limit: OVERLOAD, and the timer of OVL_MS starts (R257, R258). -/
def execDioCurrentLimit (c : Fin 32) (s : State) : Host.Outcome State Fault Refusal :=
  .next (if s.fieldUp && s.dioOn c then s.setDio c fun x => { x with limitSince := x.limitSince.or (some s.dio.clock) } else s)

/-- The channel's counters changed. (log 120) -/
def State.dioCount (s : State) (c : Fin 32) (f : DioStat → DioStat) : State := { s with dio.stat := upd s.dio.stat c f }

/-- An output in current limit for OVL_MS is latched off (R257). -/
def execDioOverloadLatch (c : Fin 32) (s : State) : Host.Outcome State Fault Refusal :=
  .next (if s.fieldUp && s.dioOn c && s.fieldRan (s.dioField c).limitSince (ms (s.dioDesc c).OVL_MS.toNat) then
      (s.setDio c fun x => { x with latchedAt := some s.dio.clock }).dioCount c fun x => { x with OVL_COUNT := sat x.OVL_COUNT }
    else s)

/-- An output reaches thermal shutdown: latched off at once (R257). -/
def execDioThermalShutdown (c : Fin 32) (s : State) : Host.Outcome State Fault Refusal :=
  .next (if s.fieldUp && s.dioOn c then
      (s.setDio c fun x => { x with hot := true, latchedAt := some s.dio.clock }).dioCount c fun x => { x with THERMAL_COUNT := sat x.THERMAL_COUNT }
    else s)

/-- RETRY_S after a latch it is released (R257). -/
def execDioRetryExpire (c : Fin 32) (s : State) : Host.Outcome State Fault Refusal :=
  let r := (s.dioDesc c).RETRY_S.toNat
  .next (if s.fieldUp && r != 0 && s.fieldRan (s.dioField c).latchedAt (sec r) then s.setDio c fun x => { x with latchedAt := none } else s)

/-- The open-wire condition has lasted OW_MS (R258). -/
def execDioOpenWire (c : Fin 32) (s : State) : Host.Outcome State Fault Refusal :=
  .next (if s.fieldUp && s.fieldRan (s.dioField c).openSince (ms (s.dioDesc c).OW_MS.toNat) then s.setDio c fun x => { x with openWire := true } else s)

/-- The pin has stood above 12 V for EXT_MS while off (R258). -/
def execDioExtFeed (c : Fin 32) (s : State) : Host.Outcome State Fault Refusal :=
  .next (if s.fieldUp && s.fieldRan (s.dioField c).extSince (ms (s.dioDesc c).EXT_MS.toNat) then s.setDio c fun x => { x with extFeed := true } else s)

/-- 2 ms after the partner's command went off, EXT_FEED is evaluated again (R261). -/
def execExtFeedSuppressEnd (c : Fin 32) (s : State) : Host.Outcome State Fault Refusal :=
  .next (if !s.partnerOn c && s.ran (s.dio.partnerOffAt.get c) (ms 2) then { s with dio.partnerOffAt := put s.dio.partnerOffAt c none } else s)

/-! ### Group fuses and sensor supplies (R251, R264, R265) -/

/-- The status word of a group, at 0x10 of its record (R272). -/
def Link.fstat (k : Link) : Nat :=
  ({ k.record with LINK_LOST := BitVec.ofNat 1 (bit k.lost), REARM_WAIT := BitVec.ofNat 1 (bit k.rearmWait) }.toBytes.getD 0x10 0#8).toNat

/-- The field side of a link changed. -/
def State.setField (s : State) (n : Fin 4) (f : FieldSide → FieldSide) : State := { s with dio.field := upd s.dio.field n f }

/-- The logic side of a link changed. -/
def State.setLink (s : State) (n : Fin 4) (f : Link → Link) : State := { s with dio.link := upd s.dio.link n f }

/-- A group fuse trips: its rail opens, GRP_FUSE, FUSE_TRIPS and an ALARM record (R264). -/
def execGroupFuseTrip (grp : Fin 4) (s : State) : Host.Outcome State Fault Refusal :=
  .next (if s.fieldUp && !(s.dio.field.get grp).fuse then
      let old := (s.dio.link.get grp).fstat
      let s := s.setField grp fun f => { f with fuse := true, fuseAt := s.dio.clock }
      let s := s.setLink grp fun k =>
        { k with record := { k.record with GRP_FUSE := 1#1 }, stat := { k.stat with FUSE_TRIPS := sat k.stat.FUSE_TRIPS } }
      s.event 4 0x0781 (0x40 + grp.val) old (s.dio.link.get grp).fstat
    else s)

/-- A sensor-supply fuse trips (R251). -/
def execSensFuseTrip (grp : Fin 4) (s : State) : Host.Outcome State Fault Refusal :=
  .next (if s.fieldUp && !(s.dio.field.get grp).sensFault then
      let s := s.setField grp fun f => { f with sensFault := true, sensAt := s.dio.clock }
      s.setLink grp fun k => { k with stat := { k.stat with SENS_TRIPS := sat k.stat.SENS_TRIPS } }
    else s)

/-- A tripped sensor-supply fuse retries every 1 s, until the fault is clear (R251). -/
def execSensRetry (grp : Fin 4) (clear : Bool) (s : State) : Host.Outcome State Fault Refusal :=
  let f := s.dio.field.get grp
  .next (if s.fieldUp && f.sensFault && f.sensAt + sec 1 ≤ s.dio.clock then
      s.setField grp fun f => if clear then { f with sensFault := false } else { f with sensAt := s.dio.clock }
    else s)

/-! ### The downlink (R23, R269 to R271) -/

/-- The configuration word of an address (R269, R271, R288). (log 119) -/
def State.cfgWord (s : State) (n : Fin 4) (addr : Nat) : BitVec 16 :=
  match asFin 8 addr with
  | some i => Config.dioWord (s.dioDesc (dioChan n i))
  | none =>
    if addr < 0x10 || 0x40 ≤ addr then 0#16
    else match asFin 4 ((addr - 0x10) / 8) with
      | some k => s.aioWord (aioChan n k) ((addr - 0x10) % 8)
      | none => Config.tpWord s.safetySet (addr - 0x30)

/-- Bits of the four SO channels. -/
def soBits (f : Fin 4 → Bool) : BitVec 4 := BitVec.ofNat 4 (ofBits ((idx 4).map f))

/-- The frames of ILK0 and ILK2 carry the safety front-end (R21, R267, R269). -/
def carriesSafety (n : Fin 4) : Bool := n == 0 || n == 2

/-- The next downlink frame of a link (R269, R270). -/
def State.downFrame (s : State) (n : Fin 4) : DownlinkFrame :=
  let k := s.dio.link.get n
  let safe := carriesSafety n
  { DownlinkFrame.dflt with
    SEQ := k.seqOut, DO := BitVec.ofNat 8 (ofBits ((idx 8).map fun i => s.doCommand (dioChan n i))),
    RE_ARM := BitVec.ofNat 1 (bit k.reArm),
    AIO_FAIL := BitVec.ofNat 1 (bit (s.isl.killed.get 9 && s.sys.mode != .halt && s.pow.pfStage == .idle)),
    GRP_ON := BitVec.ofNat 1 (bit (s.pow.energy == .e0 || s.pow.energy == .e1)),
    AIO := BitVec.ofNat 16 (s.aioCode (aioChan n ⟨k.seqOut.toNat % 4, by omega⟩)), CFG_ADDR := k.cfgNext, CFG_DATA := s.cfgWord n k.cfgNext.toNat,
    SO_HS := if safe then soBits fun c => (s.soSwitches c).1 else 0#4, SO_LS := if safe then soBits fun c => (s.soSwitches c).2 else 0#4,
    TP := if safe then BitVec.ofNat 2 (ofBits [s.tpDark 0, s.tpDark 1]) else 0#2 }

/-- The logic side sends its next frame: from the firmware phase on, until the blocks are held after stage 2 (R67, R270, R456). -/
def State.sendsFrames (s : State) : Bool := (s.sys.phase == .firmware || s.sys.phase == .serving) && s.pow.pfStage != .wait

/-- The port reads the command lines and sends the frame of a link (R270, R284). -/
def execDownlinkFrameSend (link : Fin 4) (s : State) : Host.Outcome State Fault Refusal :=
  .next (if s.sendsFrames then
      let f := s.downFrame link
      let c := aioChan link ⟨f.SEQ.toNat % 4, by omega⟩
      { s with
        dio.link := upd s.dio.link link fun k =>
          { k with down := some f.wire, doSent := f.DO, grpOnSent := f.GRP_ON == 1#1, seqOut := k.seqOut + 1, cfgNext := k.cfgNext + 1 },
        aio := upd s.aio c fun a => { a with failSent := (s.aioTarget c).2, cmdNow := s.aioExpected link c } }
    else s)

/-- A frame slot has passed on the field side without a valid frame (R266). (log 119) -/
def FieldSide.slotMissed (f : FieldSide) (clock : Nat) : Bool := f.lastValid + us 2 ≤ clock

/-- The field side takes a valid downlink frame (R23, R24, R257, R265, R269, R271). (log 118, 119) -/
def FieldSide.take (f : FieldSide) (n : Fin 4) (d : DownlinkFrame) (clock : Nat) : FieldSide :=
  let fresh := f.lost || f.broken || f.slotMissed clock
  let run := if f.lost then 0 else f.validRun
  let re := d.RE_ARM == 1#1
  let safe := carriesSafety n
  { f with
    ch := Vector.ofFn fun i => let x := f.ch.get i
      let cmd := d.DO.getLsbD i.val
      { x with cmd := cmd, latchedAt := if cmd then x.latchedAt else none },
    seqRef := d.SEQ, broken := false, lastValid := clock, lost := false, validRun := if fresh then 1 else min 16 (run + 1),
    armed := !f.cfgWait && ((f.armed && !f.lost) || (16 ≤ run && !fresh && re)),
    cfgSeen := if !f.cfgWait then f.cfgSeen else if fresh then 1 else f.cfgSeen + 1,
    aioCfg := match asFin 48 (d.CFG_ADDR.toNat - 0x10) with
      | some w => if 0x10 ≤ d.CFG_ADDR.toNat then put f.aioCfg w d.CFG_DATA else f.aioCfg
      | none => f.aioCfg,
    grpOn := d.GRP_ON == 1#1, reArm := re, aioFail := d.AIO_FAIL == 1#1, fuseWait := f.fuseWait && !re, qlWait := f.qlWait && (f.qlGrp || !re),
    soHs := if safe then d.SO_HS else 0#4, soLs := if safe then d.SO_LS else 0#4, tp := if safe then d.TP else 0#2 }

/-- SO channels whose line is high again are released by RE_ARM on both copies (R23, R24). -/
def Dio.releaseSo (d : Dio) : Dio :=
  let ready (n : Fin 4) : Bool := let f := d.field.get n; f.armed && !f.lost && f.reArm
  if ready 0 && ready 2 then { d with soWait := d.soWait &&& d.soKill } else d

/-- The field side judges a downlink frame, and applies a valid one (R266, R269, R270). -/
def execDownlinkFrameApply (link : Fin 4) (errors : BitVec 100) (s : State) : Host.Outcome State Fault Refusal :=
  .next (match (s.dio.link.get link).down with
    | none => s
    | some w =>
      if !s.fieldUp then s
      else
        let s := (s.setLink link fun k => { k with down := none })
        let s := { s with dio := s.dio.seeLines }
        let w := w ^^^ errors
        let f := s.dio.field.get link
        if frameOk w f.seqRef (f.broken || f.lost || f.slotMissed s.dio.clock) then
          let d := DownlinkFrame.ofBits w.toNat
          let s := s.setField link fun f => f.take link d s.dio.clock
          let c := aioChan link ⟨d.SEQ.toNat % 4, by omega⟩
          ({ s with dio := s.dio.releaseSo, aio := upd s.aio c fun a => { a with fieldCmd := d.AIO } }).setSources link
        else s.setField link fun f => { f with broken := true, rxErr := true, validRun := 0, cfgSeen := if f.cfgWait then 0 else f.cfgSeen })

/-- A field front-end has received a full configuration pass; its outputs then wait as after a loss (R271). -/
def execConfigPassComplete (link : Fin 4) (s : State) : Host.Outcome State Fault Refusal :=
  let f := s.dio.field.get link
  .next (if s.fieldUp && f.cfgWait && 256 ≤ f.cfgSeen then
      (s.setField link fun f => { f with cfgWait := false, validRun := 0, armed := false }).setSources link
    else s)

/-- No valid downlink frame for 3 µs: the outputs of the group, and its share of the SO channels, are off, and the AIO outputs
source HOLD_CODE (R23). -/
def execFieldLinkLoss (link : Fin 4) (s : State) : Host.Outcome State Fault Refusal :=
  let f := s.dio.field.get link
  .next (if s.fieldUp && !f.lost && f.lastValid + us 3 ≤ s.dio.clock then
      (s.setField link fun f =>
        { f with lost := true, broken := true, validRun := 0, armed := false, reArm := false, cfgSeen := if f.cfgWait then 0 else f.cfgSeen }).setSources link
    else s)

/-- A QL line goes low: the field side kills what hangs on it (R24). -/
def execQlLineKill (line : Fin 8) (s : State) : Host.Outcome State Fault Refusal :=
  .next (if s.fieldUp && !s.dio.ql.getLsbD line.val then s.fieldKill line else s)

/-! ### The uplink (R22, R258, R259, R266 to R268, R272) -/

/-- SLOT of the next uplink frame (R268). -/
def FieldSide.slotBits (f : FieldSide) (n : Fin 4) (bands : BitVec 7) : BitVec 7 :=
  match asFin 8 f.upSeq.toNat with
  | some i =>
    let x := f.ch.get i
    BitVec.ofNat 7 (ofBits [x.limitSince.isSome, x.openWire, x.hot, x.extFeed, x.latchedAt.isSome, f.fuse, f.sensFault])
  | none => if carriesSafety n then bands else 0#7

/-- The state that the field side reports of a channel: the filtered input, or the pin of an output (R254, R259). -/
def reportedState (mode : BitVec 8) (x : DioField) (pin : Bool) : Bool := if mode == 1#8 then x.filtered else mode == 2#8 && pin

/-- The next uplink frame of a link (R267). (log 55) -/
def State.upFrame (s : State) (n : Fin 4) (p : FieldSample) : UplinkFrame :=
  let f := s.dio.field.get n
  let k : Fin 4 := ⟨f.upSeq.toNat % 4, by omega⟩
  let safe := carriesSafety n
  { SEQ := f.upSeq,
    VAL := BitVec.ofNat 8 (ofBits ((idx 8).map fun i => reportedState (s.dioDesc (dioChan n i)).MODE (f.ch.get i) (p.pins.getLsbD i.val))),
    SLOT := f.slotBits n p.bands, AIO := BitVec.ofNat 16 (f.aioUp (s.aio.get (aioChan n k))),
    RX_ERR := BitVec.ofNat 1 (bit (f.rxErr || f.slotMissed s.dio.clock)), GRP_PWR := BitVec.ofNat 1 (bit f.railOn),
    VIN := if safe then p.vin else 0#10, QL_SEEN_GRP := BitVec.ofNat 1 (bit f.qlGrp), QL_SEEN_SO := if safe then s.dio.soKill else 0#4,
    RAW := if safe then p.raw else 0#32, CRC := 0#16 }

/-- The field side samples its terminals for a frame (R22, R258, R283). -/
def State.fieldSample (s : State) (n : Fin 4) (p : FieldSample) : State :=
  let s := { s with dio := s.dio.seeLines }
  let f := s.dio.field.get n
  let k : Fin 4 := ⟨f.upSeq.toNat % 4, by omega⟩
  { s with
    dio.field := put s.dio.field n { f with ch := Vector.ofFn fun i => s.fieldCond (dioChan n i) (p.cond.get i) (f.ch.get i) },
    aio := upd s.aio (aioChan n k) (f.convert k p.aio) }

/-- A partner commanded on is noted (R261). -/
def State.notePartners (s : State) (n : Fin 4) : State :=
  { s with dio.partnerOffAt := (idx 8).foldl (fun v i =>
      if s.partnerOn (dioChan n i) then put v (dioChan n i) (some s.now) else v) s.dio.partnerOffAt }

/-- The logic side of a link takes a valid frame: its counts, the re-arm, the E2 window and what SLOT carries (R23, R61, R266,
R268, R274). (log 56) -/
def Link.take (k : Link) (u : UplinkFrame) (n : Fin 4) (now : Nat) (e2 : Bool) : Link :=
  let rx := u.RX_ERR == 1#1
  let run := if rx then k.rxErrRun + 1 else 0
  let lossSeen := run == 3
  { k with
    seqRef := u.SEQ, broken := false, lastValid := some now, lost := false, rxErrRun := run,
    rearmWait := k.rearmWait || lossSeen, reArm := k.reArm && !lossSeen, clearRun := if rx || !k.reArm then 0 else k.clearRun + 1,
    e2Window := e2, stat := if rx then { k.stat with DOWN_CRC_ERR := sat k.stat.DOWN_CRC_ERR } else k.stat,
    slot := match asFin 8 u.SEQ.toNat with | some i => put k.slot i u.SLOT | none => k.slot,
    soBand := if carriesSafety n && 8 ≤ u.SEQ.toNat then put k.soBand ⟨u.SEQ.toNat % 4, by omega⟩ u.SLOT else k.soBand }

/-- FSTAT of the record that a frame gives (R272). -/
def Link.groupRecord (k : Link) (u : UplinkFrame) (ts : BitVec 64) : GroupRec :=
  let r := k.record
  let slot := u.SEQ.toNat < 8
  { r with
    LINK_LOST := 0#1, REARM_WAIT := BitVec.ofNat 1 (bit k.rearmWait), GRP_FUSE := if slot then BitVec.ofNat 1 (bit (u.SLOT.getLsbD 5)) else r.GRP_FUSE,
    SENS_FAULT := if slot then BitVec.ofNat 1 (bit (u.SLOT.getLsbD 6)) else r.SENS_FAULT,
    FIELD_OFF := if u.GRP_PWR == 1#1 then 0#1 else if k.grpOnSent then r.FIELD_OFF else 1#1,
    QL_KILL := u.QL_SEEN_GRP, CFG_WAIT := BitVec.ofNat 1 (bit (u.AIO == 0xFFF1#16)), RX_ERR := u.RX_ERR, FRAME_TS := ts }

/-- DIAG of an output channel from the flags last carried, behind the suppression of R258 and R261; an input reports none
(R258, R272). (log 121) -/
def State.diagByte (s : State) (c : Fin 32) (k : Link) (r : GroupRec) : BitVec 8 :=
  if (s.dioDesc c).MODE != 2#8 then 0#8
  else
    let x := k.slot.get (dioPos c)
    let all := k.e2Window || r.FIELD_OFF == 1#1 || r.GRP_FUSE == 1#1
    let ext := s.extQuiet c && (s.dioDesc c).PAIRED == 1#1
    let ow := s.openQuiet c
    BitVec.ofNat 8 (ofBits [x.getLsbD 0 && !all, x.getLsbD 1 && !all && !ow, x.getLsbD 2 && !all, x.getLsbD 3 && !all && !ext, false,
      x.getLsbD 4, r.QL_KILL == 1#1, all || ext || ow])

/-- The quality of a channel whose link is up (R259). -/
def dioQuality (mode diag : BitVec 8) (k : Link) (r : GroupRec) : BitVec 4 :=
  let out := mode == 2#8
  if mode == 0#8 then qNone
  else if out && (diag.getLsbD 0 || diag.getLsbD 2 || diag.getLsbD 5 || r.GRP_FUSE == 1#1) then qBad
  else if k.e2Window then qUncertain
  else if out && (r.FIELD_OFF == 1#1 || diag.getLsbD 1 || diag.getLsbD 3) then qUncertain
  else qGood

/-- The flags of a DIAG byte, without SUPPRESSED and KILLED. -/
def diagFlags (d : BitVec 8) : BitVec 8 := d &&& 0x2F#8

/-- A change of a channel's flags: its counters, DIAG_SEEN and the record of R258 (R274). (log 121) -/
def State.noteDiag (s : State) (c : Fin 32) (old new : BitVec 8) : State :=
  let o := diagFlags old
  let f := diagFlags new
  let rise := f &&& ~~~o
  let s := s.dioCount c fun x =>
    { x with
      DIAG_SEEN := if f = 0#8 then x.DIAG_SEEN else 1#1, EXT_FEED_COUNT := if rise.getLsbD 3 then sat x.EXT_FEED_COUNT else x.EXT_FEED_COUNT,
      OW_COUNT := if rise.getLsbD 1 then sat x.OW_COUNT else x.OW_COUNT }
  if o = f then s else s.event (if rise = 0#8 then 2 else 3) 0x0781 c.val old.toNat new.toNat

/-- A change of a channel's state in IMAGE: TRANSITIONS, and the edge triggers (R88, R254, R274). (log 80) -/
def State.noteEdge (s : State) (c : Fin 32) (was : Bool) : State :=
  let is := (s.img.get (dioOff c.val)).getLsbD 0
  if was == is then s
  else
    let s := s.dioCount c fun x => { x with TRANSITIONS := sat x.TRANSITIONS }
    s.trigger 1 fun a => a % 32 == c.val && (a / 256).testBit (bit !is)

/-- The group record, with the records of its AIO channels, goes into IMAGE as one group (R22, R272, R291). (log 55) -/
def State.writeGroup (s : State) (n : Fin 4) (u : UplinkFrame) (fresh : Bool) : State :=
  let tick := (s.now - us 1) / us 1 * us 1
  let k := s.dio.link.get n
  let r := k.groupRecord u (timeAt s.tm.baseTs s.tm.baseCnt s.tm.rateQ48 tick)
  let diag := Vector.ofFn fun i => s.diagByte (dioChan n i) k r
  let r := { r with
    DIAG := diag,
    VAL := Vector.ofFn fun i =>
      BitVec.ofNat 8 (16 * (dioQuality (s.dioDesc (dioChan n i)).MODE (diag.get i) k r).toNat + bit (u.VAL.getLsbD i.val)) }
  let a : Fin 4 := ⟨u.SEQ.toNat % 4, by omega⟩
  let s := { s with aio := upd s.aio (aioChan n a) fun x => x.receive (s.aioMode (aioChan n a)) s.now tick u.AIO.toNat }
  let s := { s with aio := (idx 4).foldl (fun v k => put v (aioChan n k) (s.aioFrame n tick k)) s.aio }
  let was := Vector.ofFn fun (i : Fin 8) => (s.img.get (groupOff n.val + i.val)).getLsbD 0
  let old := k.record.DIAG
  let s := s.setLink n fun k => { k with record := r }
  let s := s.writeImage (groupOff n.val) (r.toBytes.take 32 ++ ((idx 4).map fun k => (s.aio.get (aioChan n k)).record.toBytes).flatten) qGood
  let s := (idx 8).foldl (fun s i => s.noteDiag (dioChan n i) (old.get i) (diag.get i)) s
  if fresh then s else (idx 8).foldl (fun s i => s.noteEdge (dioChan n i) (was.get i)) s

/-- The safety front-end copy of a frame: the raw states, the comparison of the copies, the readback of the SO channel in
rotation, and RESET_DIO (R217, R219, R223, R234). -/
def State.takeSafety (s : State) (n : Fin 4) (u : UplinkFrame) : State :=
  let s := if n == 0 then { s with isl.raw1 := u.RAW } else { s with isl.raw2 := u.RAW }
  let both := !(s.dio.link.get 0).lost && !(s.dio.link.get 2).lost && (s.dio.link.get 0).lastValid.isSome && (s.dio.link.get 2).lastValid.isSome
  let s := if n == 2 && both then
      if s.isl.raw1 == s.isl.raw2 then { s with isl.copyDiffer := 0, isl.sfeFault := false } else { s with isl.copyDiffer := s.isl.copyDiffer + 1 }
    else s
  let s := if 8 ≤ u.SEQ.toNat then s.soReadback ⟨u.SEQ.toNat % 4, by omega⟩ u.SLOT else s
  s.samplePairs

/-- RESET_DIO follows the filtered state that a frame of its group brings (R234). -/
def State.takeReset (s : State) (n : Fin 4) (u : UplinkFrame) : State :=
  match asFin 32 s.safetySet.RESET_DIO.toNat with
  | some c => if s.validSet.isSome && dioLink c == n then s.sampleReset (u.VAL.getLsbD (dioPos c).val) else s
  | none => s

/-- VIN as ILK0 and ILK2 report it (R55, R267). -/
def State.takeVin (s : State) (n : Fin 4) (u : UplinkFrame) : State :=
  let v := some (BitVec.ofNat 16 (8000 + 40 * u.VIN.toNat))
  let p := if n == 0 then { s.pow with vinIlk0 := v, vinUnknown := false } else { s.pow with vinIlk2 := v, vinUnknown := false }
  { s with pow := p.sampleVin s.now }

/-- The logic side takes a valid uplink frame (R22, R23, R272). (log 55) -/
def State.takeUplink (s : State) (n : Fin 4) (u : UplinkFrame) : State :=
  let k := s.dio.link.get n
  let fresh := k.lastValid.isNone
  let s := s.setLink n fun k => k.take u n s.now (s.pow.energy == .e2 || s.pow.energy == .e3)
  let s := if carriesSafety n then (s.takeVin n u).takeSafety n u else s
  ((s.takeReset n u).writeGroup n u fresh).evalMatrix

/-- A frame slot has passed on the logic side without a valid frame (R266). -/
def State.upBroken (s : State) (k : Link) : Bool :=
  k.broken || (match k.lastValid with | some a => s.since a (us 2) | none => true)

/-- An uplink frame: the field side samples and sends it, and the logic side judges it (R22, R266). -/
def execUplinkFrameReceive (link : Fin 4) (f : FieldSample) (errors : BitVec 100) (s : State) : Host.Outcome State Fault Refusal :=
  .next (if s.logicUp then
      let s := (s.notePartners link).fieldSample link f
      let w := (s.upFrame link f).wire ^^^ errors
      let s := s.setField link fun f => { f with upSeq := f.upSeq + 1, rxErr := false }
      let k := s.dio.link.get link
      if frameOk w k.seqRef (s.upBroken k) then s.takeUplink link (UplinkFrame.ofBits w.toNat)
      else s.setLink link fun k => { k with broken := true, stat := { k.stat with UP_CRC_ERR := sat k.stat.UP_CRC_ERR } }
    else s)

/-- A value takes a class, STALE included, and stays FORCED where it is (R142, R259). -/
def State.reclass (s : State) (off : Nat) (q : BitVec 4) : State := s.setQuality off (q ||| (s.qualityAt off &&& qForced))

/-- No valid uplink frame for 3 µs: the values of the link are BAD and STALE, the lost bit is set, the outputs wait for their
re-arm, and an ALARM record names the link (R23). -/
def execLogicLinkLoss (link : Fin 4) (s : State) : Host.Outcome State Fault Refusal :=
  let k := s.dio.link.get link
  .next (if s.logicUp && !k.lost && s.ran k.lastValid (us 3) then
      let s := s.setLink link fun k =>
        { k with
          lost := true, broken := true, rearmWait := true, reArm := false, clearRun := 0, rxErrRun := 0,
          stat := { k.stat with LOSS_COUNT := sat k.stat.LOSS_COUNT, LAST_LOSS_TS := s.ts },
          record := { k.record with LINK_LOST := 1#1, REARM_WAIT := 1#1 } }
      let s := (idx 8).foldl (fun s i => s.reclass (groupOff link.val + i.val) qBadStale) s
      let s := (idx 4).foldl (fun s k => s.reclass (aioOff (aioChan link k).val) qBadStale) s
      let s := s.setMem 0 (s.img.set (groupOff link.val + 0x10) (BitVec.ofNat 8 (s.dio.link.get link).fstat))
      let p := if link == 0 then { s.pow with vinIlk0 := none } else if link == 2 then { s.pow with vinIlk2 := none } else s.pow
      ({ s with pow := p.sampleVin s.now }.event 4 0x0780 (0x40 + link.val) 0 link.val).evalMatrix
    else s)

/-- 32 uplink frames in a row have reported RX_ERR clear: RE_ARM and REARM_WAIT end (R23). -/
def execRearmComplete (link : Fin 4) (s : State) : Host.Outcome State Fault Refusal :=
  let k := s.dio.link.get link
  .next (if k.reArm && 32 ≤ k.clearRun then s.setLink link fun k => { k with reArm := false, rearmWait := false, clearRun := 0 } else s)

/-! ### Commands (R273 to R275) -/

/-- Every field of a channel descriptor lies in its range (R273). -/
def DioDesc.ok (d : DioDesc) : Bool :=
  d.CH_ID.toNat < 32 && d.MODE.toNat ≤ 2 && (d.INPUT_TYPE == 1#8 || d.INPUT_TYPE == 3#8) && d.FILTER.toNat ≤ 7
    && (d.PARTNER.toNat < 32 || d.PARTNER == 0xFF#8) && between 1 d.OVL_MS.toNat 100 && d.RETRY_S.toNat ≤ 60
    && between 10 d.OW_MS.toNat 10000 && between 1 d.EXT_MS.toNat 1000

/-- FIO_DIO_SET (R273). -/
def cmdFioDioSet (rq : Request) (s : State) : State :=
  serve Cmd.fioDioSet rq s fun s =>
    let d := DioDesc.ofBytes rq.payload
    match asFin 32 d.CH_ID.toNat with
    | none => .refuse 0x0701 d.CH_ID.toNat 0
    | some c => refuseIf (!d.ok) 0x0701 c.val <| .done { s with dio.desc := put s.dio.desc c d } []

/-- FIO_DIO_SET (R273). -/
def execFioDioSet (rq : Request) (s : State) : Host.Outcome State Fault Refusal := .next (s.command rq cmdFioDioSet)

/-- FIO_DIO_GET returns the descriptor as written (R273). -/
def cmdFioDioGet (rq : Request) (s : State) : State :=
  serve Cmd.fioDioGet rq s fun s =>
    match asFin 32 (rq.u8 0) with
    | none => .refuse 0x0701 (rq.u8 0) 0
    | some c => .done s { s.dio.desc.get c with CH_ID := BitVec.ofNat 8 c.val }.toBytes

/-- FIO_DIO_GET (R273). -/
def execFioDioGet (rq : Request) (s : State) : Host.Outcome State Fault Refusal := .next (s.command rq cmdFioDioGet)

/-- FIO_DIO_STATUS (R274). -/
def cmdFioDioStatus (rq : Request) (s : State) : State :=
  serve Cmd.fioDioStatus rq s fun s =>
    match asFin 32 (rq.u8 0) with
    | none => .refuse 0x0701 (rq.u8 0) 0
    | some c =>
      let k := s.dio.link.get (dioLink c)
      .done s ((s.dio.stat.get c).toBytes (DIAG := (k.record.DIAG.get (dioPos c)).toNat) (COMMAND := bit (k.doSent.getLsbD (dioPos c).val)))

/-- FIO_DIO_STATUS (R274). -/
def execFioDioStatus (rq : Request) (s : State) : Host.Outcome State Fault Refusal := .next (s.command rq cmdFioDioStatus)

/-- FIO_GROUP_STATUS (R274). -/
def cmdFioGroupStatus (rq : Request) (s : State) : State :=
  serve Cmd.fioGroupStatus rq s fun s =>
    match asFin 4 (rq.u8 0) with
    | none => .refuse 0x0701 (rq.u8 0) 0
    | some n => .done s ((s.dio.link.get n).stat.toBytes (FSTAT := (s.dio.link.get n).fstat))

/-- FIO_GROUP_STATUS (R274). -/
def execFioGroupStatus (rq : Request) (s : State) : Host.Outcome State Fault Refusal := .next (s.command rq cmdFioGroupStatus)

/-- FIO_GROUP_RESET closes a tripped fuse; the outputs wait for RE_ARM (R265, R275). -/
def cmdFioGroupReset (rq : Request) (s : State) : State :=
  serve Cmd.fioGroupReset rq s fun s =>
    match asFin 4 (rq.u8 0) with
    | none => .refuse 0x0701 (rq.u8 0) 0
    | some n =>
      let f := s.dio.field.get n
      refuseIf (!f.fuse) 0x0705 n.val <|
        refuseIf (s.dio.clock < f.fuseAt + sec 1) 0x0706 n.val <|
          let s := s.setField n fun f => { f with fuse := false, fuseWait := true }
          .done (s.setLink n fun k => { k with rearmWait := true, reArm := false, clearRun := 0, record := { k.record with GRP_FUSE := 0#1 } }) []

/-- FIO_GROUP_RESET (R265). -/
def execFioGroupReset (rq : Request) (s : State) : Host.Outcome State Fault Refusal := .next (s.command rq cmdFioGroupReset)

/-- FIO_DIO_UNLATCH releases a latch (R257, R275). -/
def cmdFioDioUnlatch (rq : Request) (s : State) : State :=
  serve Cmd.fioDioUnlatch rq s fun s =>
    match asFin 32 (rq.u8 0) with
    | none => .refuse 0x0701 (rq.u8 0) 0
    | some c =>
      refuseIf ((s.dioDesc c).MODE != 2#8) 0x0703 c.val <|
        refuseIf (s.dioField c).latchedAt.isNone 0x0704 c.val <| .done (s.setDio c fun x => { x with latchedAt := none }) []

/-- FIO_DIO_UNLATCH (R257). -/
def execFioDioUnlatch (rq : Request) (s : State) : Host.Outcome State Fault Refusal := .next (s.command rq cmdFioDioUnlatch)

/-- The counters and sticky bits of a channel and of its group cleared (R274). (log 120) -/
def State.clearDio (s : State) (c : Fin 32) : State :=
  (s.dioCount c fun _ => DioStat.dflt).setLink (dioLink c) fun k => { k with stat := { GroupStat.dflt with LAST_LOSS_TS := k.stat.LAST_LOSS_TS } }

/-- FIO_DIO_CLEAR (R274). -/
def cmdFioDioClear (rq : Request) (s : State) : State :=
  serve Cmd.fioDioClear rq s fun s =>
    if rq.u8 0 = 0xFF then .done ((idx 32).foldl State.clearDio s) []
    else match asFin 32 (rq.u8 0) with
      | none => .refuse 0x0701 (rq.u8 0) 0
      | some c => .done (s.clearDio c) []

/-- FIO_DIO_CLEAR (R274). -/
def execFioDioClear (rq : Request) (s : State) : Host.Outcome State Fault Refusal := .next (s.command rq cmdFioDioClear)

end Sys2Proof.Machine
end

