-- ==== Sys2Proof/Machine/Aio.lean ====
section
/-! DEFINITION. Current-loop channels (R279 to R294): the comparison of R287, the NE 43 timer, faults of the field side, and the
commands of the channels and their trims. -/

namespace Sys2Proof.Machine

/-- A channel changed. -/
def State.setAio (s : State) (c : Fin 16) (f : Aio → Aio) : State := { s with aio := upd s.aio c f }

/-! ### Compliance and open loop (R287) -/

/-- The timers of R287 after a comparison: the error above 0.1 mA, at or below it, and an open loop; none while the command is
0 mA. (log 124) -/
def Aio.judge (a : Aio) (now : Nat) : Aio :=
  let n := a.sumBack.2
  let b := a.sumBack.1
  let far : Bool := decide (nA 100000 * n < (((b : Int) - a.sumCmd).natAbs : Int))
  let opn : Bool := a.act.OPEN_LOOP_EN == 1#1 && decide ((b : Int) < nA 1000000 * n) && decide (nA 3500000 * n ≤ (a.sumCmd : Int))
  let live := a.sumCmd != 0
  { a with
    errSince := runTimer (live && far) now a.errSince, okSince := runTimer (live && !far) now a.okSince,
    openSince := runTimer (live && opn) now a.openSince, cmpAt := now, sumBack := (0, 0), sumCmd := 0 }

/-- A timer that runs, `t` ticks old. (log 124) -/
def aged (t0 : Option Nat) (now t : Nat) : Bool :=
  match t0 with
  | some a => a + t ≤ now
  | none => false

/-- What a comparison decides: the record's flags, the counters, and the severity of a record, if one is due (R287).
(log 124) -/
def Aio.decide287 (a : Aio) (now : Nat) : Aio × Option Nat :=
  let r := a.record
  if aged a.openSince now (ms 10) && r.OPEN_LOOP == 0#1 then
    ({ a with stat := { a.stat with OPEN_COUNT := sat a.stat.OPEN_COUNT } }.seal false { r with OPEN_LOOP := 1#1, AO_COMPLIANCE := 0#1 }, some 4)
  else if aged a.errSince now (ms 10) && r.OPEN_LOOP == 0#1 && r.AO_COMPLIANCE == 0#1 then
    ({ a with stat := { a.stat with COMPL_COUNT := sat a.stat.COMPL_COUNT } }.seal false { r with AO_COMPLIANCE := 1#1 }, some 3)
  else if aged a.okSince now (ms 100) && (r.OPEN_LOOP == 1#1 || r.AO_COMPLIANCE == 1#1) then
    (a.seal false { r with OPEN_LOOP := 0#1, AO_COMPLIANCE := 0#1 }, some 2)
  else (a, none)

/-- Every 1 ms the means of readback and command are compared (R287). -/
def execAioComplianceCompare (c : Fin 16) (s : State) : Host.Outcome State Fault Refusal :=
  let a := s.aio.get c
  .next (if s.logicUp && s.aioMode c = 3 && s.since a.cmpAt (ms 1) && a.sumBack.2 != 0 then
      let old := a.record.flags
      let (a, sev) := (a.judge s.now).decide287 s.now
      let s := { s with aio := put s.aio c a }
      match sev with
      | some v => s.event v 0x0781 (0x20 + c.val) old a.record.flags
      | none => s
    else s)

/-! ### NE 43 and faults of the field side (R279, R285) -/

/-- An input has stood beyond a limit of NE 43 for FAIL_MS (R285). -/
def execNe43FailTimer (c : Fin 16) (s : State) : Host.Outcome State Fault Refusal :=
  let a := s.aio.get c
  .next (if s.logicUp && a.record.MARKER == 0#1 && (s.aioMode c = 1 || s.aioMode c = 2) then
      s.setAio c fun a => a.seal false (match a.failSince with
        | some t => a.record.classify a.record.CODE.toNat s.now a.act.FAIL_MS.toNat (some t)
        | none => a.record)
    else s)

/-- The place of a channel on its link. -/
def aioPos (c : Fin 16) : Fin 4 := ⟨c.val % 4, by omega⟩
/-- The link of a channel. -/
def aioLink (c : Fin 16) : Fin 4 := ⟨c.val / 4, by omega⟩

/-- The field mode of a channel, as its field side has received it. -/
def State.fieldMode (s : State) (c : Fin 16) : Nat := (s.dio.field.get (aioLink c)).aioMode (aioPos c)

/-- A loop-powered input has been in its current limit for 1 ms (R279). -/
def execLoopShortDetect (c : Fin 16) (s : State) : Host.Outcome State Fault Refusal :=
  .next (if s.fieldUp && s.fieldMode c = 1 then s.setAio c fun a => { a with loopShort := true } else s)

/-- An output stage shuts down on over-temperature and sources 0 mA (R279). -/
def execSrcFaultShutdown (c : Fin 16) (s : State) : Host.Outcome State Fault Refusal :=
  .next (if s.fieldUp && s.fieldMode c = 3 then (s.setAio c fun a => { a with srcFault := true }).setSources (aioLink c) else s)

/-- The converter self-check of a channel fails (R279). -/
def execAdcSelfCheckFail (c : Fin 16) (s : State) : Host.Outcome State Fault Refusal :=
  .next (if s.fieldUp then s.setAio c fun a => { a with adcFault := true } else s)

/-! ### Commands (R282, R292 to R294) -/

/-- Every field of a channel descriptor lies in its range (R292). -/
def AioDesc.ok (d : AioDesc) : Bool := d.MODE.toNat ≤ 3 && d.FILTER.toNat ≤ 4 && d.FAIL_SEL.toNat ≤ 2 && d.FAIL_MS.toNat ≤ 10000

/-- FIO_AIO_SET (R292). -/
def cmdFioAioSet (rq : Request) (s : State) : State :=
  serve Cmd.fioAioSet rq s fun s =>
    let d := AioDesc.ofBytes rq.payload
    match asFin 16 d.CH_ID.toNat with
    | none => .refuse 0x0701 d.CH_ID.toNat 0
    | some c => refuseIf (!d.ok) 0x0701 c.val <| .done (s.setAio c fun a => { a with desc := d }) []

/-- FIO_AIO_SET (R292). -/
def execFioAioSet (rq : Request) (s : State) : Host.Outcome State Fault Refusal := .next (s.command rq cmdFioAioSet)

/-- FIO_AIO_GET returns the descriptor as written (R292). -/
def cmdFioAioGet (rq : Request) (s : State) : State :=
  serve Cmd.fioAioGet rq s fun s =>
    match asFin 16 (rq.u8 0) with
    | none => .refuse 0x0701 (rq.u8 0) 0
    | some c => .done s { (s.aio.get c).desc with CH_ID := BitVec.ofNat 8 c.val }.toBytes

/-- FIO_AIO_GET (R292). -/
def execFioAioGet (rq : Request) (s : State) : Host.Outcome State Fault Refusal := .next (s.command rq cmdFioAioGet)

/-- FIO_AIO_STATUS (R293). -/
def cmdFioAioStatus (rq : Request) (s : State) : State :=
  serve Cmd.fioAioStatus rq s fun s =>
    match asFin 16 (rq.u8 0) with
    | none => .refuse 0x0701 (rq.u8 0) 0
    | some c =>
      let a := s.aio.get c
      .done s (a.stat.toBytes (FLAGS := a.record.flags) (TRIM_DRIVEN := bit (a.trimPoint != 0#8)) (FACT_CODE := a.factCode.toNat))

/-- FIO_AIO_STATUS (R293). -/
def execFioAioStatus (rq : Request) (s : State) : Host.Outcome State Fault Refusal := .next (s.command rq cmdFioAioStatus)

/-- A trim of a path belongs to the mode of the channel (R294). -/
def pathFits (mode : BitVec 8) (path : Nat) : Bool := if path = 1 then mode == 3#8 else mode == 1#8 || mode == 2#8

/-- A current in nA lies in a window given in µA. (log 123) -/
def inWindow (lo n hi : Nat) : Bool := between (1000 * lo) n (1000 * hi)

/-- The integrator trim of two points, gain in ppm and offset in nA, each to nearest (R282). (log 123) -/
def trimOf (n1 t1 n2 t2 : Int) : Int × Int :=
  let gain := roundDiv (1000000 * (t2 - t1)) (n2 - n1).toNat - 1000000
  (gain, roundDiv (1000000 * t1 - n1 * (1000000 + gain)) 1000000)

/-- FIO_AIO_TRIM_SET computes and stores the integrator trim of a path, at once in effect (R282, R290, R294). -/
def cmdFioAioTrimSet (rq : Request) (s : State) : State :=
  serve Cmd.fioAioTrimSet rq s fun s =>
    match asFin 16 (rq.u8 0) with
    | none => .refuse 0x0701 (rq.u8 0) 0
    | some c =>
      let path := rq.u8 1
      let (n1, t1, n2, t2) := (rq.u32 4, rq.u32 8, rq.u32 12, rq.u32 16)
      let (gain, ofs) := trimOf n1 t1 n2 t2
      refuseIf (1 < path) 0x0701 c.val <|
        refuseIf (!pathFits (s.aio.get c).act.MODE path) 0x0707 c.val <|
          refuseIf (!inWindow 3000 n1 5000 || !inWindow 3000 t1 5000 || !inWindow 19000 n2 22000 || !inWindow 19000 t2 22000) 0x0708 c.val <|
            refuseIf (20000 < gain.natAbs || 200000 < ofs.natAbs) 0x0709 c.val <|
              let put_ (t : TrimRec) : TrimRec :=
                { t with INT_VALID := 1#1, GAIN_PPM := BitVec.ofInt 32 gain, OFS_NA := BitVec.ofInt 32 ofs, INT_TS := s.ts }
              .done (s.setAio c fun a => if path = 1 then { a with trimOut := put_ a.trimOut, trimNew := true } else { a with trimIn := put_ a.trimIn }) []

/-- FIO_AIO_TRIM_SET (R282). -/
def execFioAioTrimSet (rq : Request) (s : State) : Host.Outcome State Fault Refusal := .next (s.command rq cmdFioAioTrimSet)

/-- FIO_AIO_TRIM_GET (R293). -/
def cmdFioAioTrimGet (rq : Request) (s : State) : State :=
  serve Cmd.fioAioTrimGet rq s fun s =>
    match asFin 16 (rq.u8 0) with
    | none => .refuse 0x0701 (rq.u8 0) 0
    | some c =>
      let a := s.aio.get c
      refuseIf (1 < rq.u8 1) 0x0701 c.val <|
        .done s { (if rq.u8 1 = 1 then a.trimOut else a.trimIn) with CH_ID := BitVec.ofNat 8 c.val, PATH := BitVec.ofNat 8 (rq.u8 1) }.toBytes

/-- FIO_AIO_TRIM_GET (R293). -/
def execFioAioTrimGet (rq : Request) (s : State) : Host.Outcome State Fault Refusal := .next (s.command rq cmdFioAioTrimGet)

/-- FIO_AIO_TRIM_DRIVE drives an output at a point, or releases it (R282, R294); the point needs the link's re-arm (log 46). -/
def cmdFioAioTrimDrive (rq : Request) (s : State) : State :=
  serve Cmd.fioAioTrimDrive rq s fun s =>
    match asFin 16 (rq.u8 0) with
    | none => .refuse 0x0701 (rq.u8 0) 0
    | some c =>
      refuseIf (2 < rq.u8 1) 0x0701 c.val <|
        refuseIf ((s.aio.get c).act.MODE != 3#8) 0x0707 c.val <|
          .done ((s.setAio c fun a => { a with trimPoint := BitVec.ofNat 8 (rq.u8 1), trimNew := false }).rearmLink (aioLink c)) []

/-- FIO_AIO_TRIM_DRIVE (R282). -/
def execFioAioTrimDrive (rq : Request) (s : State) : Host.Outcome State Fault Refusal := .next (s.command rq cmdFioAioTrimDrive)

/-- FIO_AIO_TRIM_REMOVE deletes the integrator trim of a path (R282). -/
def cmdFioAioTrimRemove (rq : Request) (s : State) : State :=
  serve Cmd.fioAioTrimRemove rq s fun s =>
    match asFin 16 (rq.u8 0) with
    | none => .refuse 0x0701 (rq.u8 0) 0
    | some c =>
      refuseIf (1 < rq.u8 1) 0x0701 c.val <|
        let clear (t : TrimRec) : TrimRec := { t with INT_VALID := 0#1, GAIN_PPM := 0#32, OFS_NA := 0#32, INT_TS := 0#64 }
        .done (s.setAio c fun a => if rq.u8 1 = 1 then { a with trimOut := clear a.trimOut } else { a with trimIn := clear a.trimIn }) []

/-- FIO_AIO_TRIM_REMOVE (R282). -/
def execFioAioTrimRemove (rq : Request) (s : State) : Host.Outcome State Fault Refusal := .next (s.command rq cmdFioAioTrimRemove)

/-- FIO_AIO_CLEAR clears the counters and FLAGS_SEEN (R293). -/
def cmdFioAioClear (rq : Request) (s : State) : State :=
  serve Cmd.fioAioClear rq s fun s =>
    if rq.u8 0 = 0xFF then .done { s with aio := s.aio.map fun (a : Aio) => { a with stat := AioStat.dflt } } []
    else match asFin 16 (rq.u8 0) with
      | none => .refuse 0x0701 (rq.u8 0) 0
      | some c => .done (s.setAio c fun a => { a with stat := AioStat.dflt }) []

/-- FIO_AIO_CLEAR (R293). -/
def execFioAioClear (rq : Request) (s : State) : Host.Outcome State Fault Refusal := .next (s.command rq cmdFioAioClear)

end Sys2Proof.Machine
end

