-- ==== Sys2Proof/Machine/Tasks.lean ====
section
/-! DEFINITION. Tasks and remote stations (R77 to R106): their commands, the limits and holds of event tasks, overruns,
imports and exports, and the check of R106. -/

namespace Sys2Proof.Machine

/-! ### Task commands -/

/-- The field of a cyclic task lies in its range (R102). -/
def TaskDesc.cyclicOk (d : TaskDesc) : Bool :=
  let p := d.PERIOD_US.toNat
  let ph := d.PHASE_US.toNat
  100 ≤ p && p ≤ 10000000 && p % 10 == 0 && ph + 10 ≤ p && ph % 10 == 0

/-- The fields of an event task lie in their ranges (R102); TRIG_SRC 0 is left to R106 (log 31). -/
def TaskDesc.eventOk (d : TaskDesc) : Bool :=
  d.TRIG_SRC.toNat ≤ 6 && 10 ≤ d.MIN_GAP_US.toNat && 10 ≤ d.EVT_LIMIT_US.toNat && d.EVT_LIMIT_US.toNat ≤ 10000000

/-- Every tested field lies in its range (R102, R105). -/
def TaskDesc.inRange (d : TaskDesc) : Bool :=
  d.TASK_ID.toNat ≤ 127 && d.KIND.toNat ≤ 2
    && (d.KIND == 0#8 || (d.PRIORITY.toNat ≤ 31 && d.OVERRUN_LIMIT != 0#8 && (if d.KIND == 1#8 then d.cyclicOk else d.eventOk)))

/-- PRG_TASK_SET writes a task descriptor (R102, R105). -/
def cmdPrgTaskSet (rq : Request) (s : State) : State :=
  serve Cmd.prgTaskSet rq s fun s =>
    let d := TaskDesc.ofBytes rq.payload
    match asFin 128 d.TASK_ID.toNat with
    | some t => refuseIf (!d.inRange) 0x0301 t.val (.done (s.setTask t fun k => { k with desc := d }) [])
    | none => .refuse 0x0301 d.TASK_ID.toNat 0

/-- A command about one task: 0x0301 above 127 (R105). -/
def onTask (n : Nat) (k : Fin 128 → Served) : Served :=
  match asFin 128 n with
  | some t => k t
  | none => .refuse 0x0301 n 0

/-- PRG_TASK_GET reads a task descriptor (R102). -/
def cmdPrgTaskGet (rq : Request) (s : State) : State :=
  serve Cmd.prgTaskGet rq s fun s => onTask (rq.u8 0) fun t => .done s { (s.task t).desc with TASK_ID := BitVec.ofNat 8 t.val }.toBytes

/-- ACTUAL_PERIOD_US: the present latch-to-latch interval in µs; 0 before the second latch (R103). -/
def Task.actualPeriod (k : Task) : Nat := if k.prevLatchAt = 0 then 0 else (k.latchAt - k.prevLatchAt) / 125

/-- PRG_TASK_STATUS reads the task status (R103). -/
def cmdPrgTaskStatus (rq : Request) (s : State) : State :=
  serve Cmd.prgTaskStatus rq s fun s =>
    onTask (rq.u8 0) fun t => .done s ((s.task t).stat.toBytes (STATE := (s.task t).run.num) (ACTUAL_PERIOD_US := (s.task t).actualPeriod))

/-- PRG_TASK_RESUME restarts a faulted task at its next boundary; an event task waits for its next trigger (R92,
R105). -/
def cmdPrgTaskResume (rq : Request) (s : State) : State :=
  serve Cmd.prgTaskResume rq s fun s =>
    onTask (rq.u8 0) fun t =>
      let k := s.task t
      refuseIf (k.stat.FAULT == 0#1) 0x0303 t.val <|
        if k.desc.KIND == 2#8 then
          .done (s.setTask t fun k => { k with run := .idle, stat := { k.stat with FAULT := 0#1, MEMFAULT := 0#1 } }) []
        else .done (s.setTask t fun k => { k with resume := true }) []

/-- The counters and EXEC_US_MAX cleared (R103). -/
def TaskStat.cleared (x : TaskStat) : TaskStat :=
  { x with CYCLE_COUNT := 0#32, OVERRUN_COUNT := 0#32, HELD_COUNT := 0#32, EXEC_US_MAX := 0#32, EVT_COALESCED := 0#16, UNDELIVERED_COUNT := 0#16 }

/-- PRG_TASK_CLEAR clears one task's counters, or every task's with 0xFF. -/
def cmdPrgTaskClear (rq : Request) (s : State) : State :=
  serve Cmd.prgTaskClear rq s fun s =>
    if rq.u8 0 = 255 then .done { s with tk.task := s.tk.task.map fun k => { k with stat := k.stat.cleared } } []
    else onTask (rq.u8 0) fun t => .done (s.setTask t fun k => { k with stat := k.stat.cleared }) []

/-! ### Remote stations -/

/-- The fields of a remote descriptor lie in their ranges (R104). -/
def RemoteDesc.inRange (d : RemoteDesc) : Bool :=
  d.STATION_ADDR.toNat ≤ 1023 && 100 ≤ d.PRODUCE_US.toNat && d.PRODUCE_US.toNat ≤ 10000000
    && (d.ABSENT_US == 0#32 || (d.PRODUCE_US.toNat ≤ d.ABSENT_US.toNat && d.ABSENT_US.toNat ≤ 60000000))

/-- The remote stations with one descriptor written, in the order of their addresses. -/
def remotePut : List Remote → RemoteDesc → List Remote
  | [], d => [{ Remote.init with desc := d }]
  | r :: rs, d =>
    if r.desc.STATION_ADDR == d.STATION_ADDR then { r with desc := d } :: rs
    else if d.STATION_ADDR.toNat < r.desc.STATION_ADDR.toNat then { Remote.init with desc := d } :: r :: rs
    else r :: remotePut rs d

/-- PRG_REMOTE_SET writes a remote descriptor; at most 256 (R104, R105). -/
def cmdPrgRemoteSet (rq : Request) (s : State) : State :=
  serve Cmd.prgRemoteSet rq s fun s =>
    let d := RemoteDesc.ofBytes rq.payload
    let rs := remotePut s.tk.remotes d
    refuseIf (!d.inRange || 256 < rs.length) 0x0304 d.STATION_ADDR.toNat (.done { s with tk.remotes := rs } [])

/-- PRG_REMOTE_STATUS reads a remote status; a station without a descriptor reads its defaults (R104, log 32). -/
def cmdPrgRemoteStatus (rq : Request) (s : State) : State :=
  serve Cmd.prgRemoteStatus rq s fun s =>
    refuseIf (1023 < rq.u16 0) 0x0304 (rq.u16 0) <|
      match s.tk.remotes.find? fun r => r.desc.STATION_ADDR.toNat == rq.u16 0 with
      | some r => .done s (r.stat.toBytes (STATE := r.state.num))
      | none => .done s (RemoteStat.dflt.toBytes (STATE := 1))

/-- PRG_TASK_SET (R102). -/
def execPrgTaskSet (rq : Request) (s : State) : Host.Outcome State Fault Refusal := .next (s.command rq cmdPrgTaskSet)
/-- PRG_TASK_GET (R102). -/
def execPrgTaskGet (rq : Request) (s : State) : Host.Outcome State Fault Refusal := .next (s.command rq cmdPrgTaskGet)
/-- PRG_TASK_STATUS (R103). -/
def execPrgTaskStatus (rq : Request) (s : State) : Host.Outcome State Fault Refusal := .next (s.command rq cmdPrgTaskStatus)
/-- PRG_TASK_RESUME (R92). -/
def execPrgTaskResume (rq : Request) (s : State) : Host.Outcome State Fault Refusal := .next (s.command rq cmdPrgTaskResume)
/-- PRG_TASK_CLEAR (R103). -/
def execPrgTaskClear (rq : Request) (s : State) : Host.Outcome State Fault Refusal := .next (s.command rq cmdPrgTaskClear)
/-- PRG_REMOTE_SET (R104). -/
def execPrgRemoteSet (rq : Request) (s : State) : Host.Outcome State Fault Refusal := .next (s.command rq cmdPrgRemoteSet)
/-- PRG_REMOTE_STATUS (R104). -/
def execPrgRemoteStatus (rq : Request) (s : State) : Host.Outcome State Fault Refusal := .next (s.command rq cmdPrgRemoteStatus)

/-- A remote station of an address changed. -/
def State.setRemote (s : State) (a : BitVec 16) (f : Remote → Remote) : State :=
  { s with tk.remotes := s.tk.remotes.map fun r => if r.desc.STATION_ADDR == a then f r else r }

/-- The EVT_REMOTE record of a change of state (R99, R520). (log 82) -/
def State.remoteEvent (s : State) (sev : Nat) (a : BitVec 16) (old new : RemoteState) : State :=
  s.event sev 0x0383 0xFF old.num new.num a.toNat

/-- The imports that the program declares of a station. -/
def State.importsOf (s : State) (a : BitVec 16) : List ImportDecl := s.tk.prog.imports.filter fun i => i.station == a

/-- ABSENT_US as it counts: 0 means three times PRODUCE_US (R104). -/
def RemoteDesc.absentUs (d : RemoteDesc) : Nat := if d.ABSENT_US == 0#32 then 3 * d.PRODUCE_US.toNat else d.ABSENT_US.toNat

/-- A process-data object of a station moves into its IMAGE lines with its receive time-stamp, and the station is
RETURNING, then PRESENT once every object is fresh (R99, R101). (log 82) -/
def State.importData (s : State) (r : Remote) (epoch : BitVec 64) (obj : BitVec 16) (data : List Byte) : State :=
  let a := r.desc.STATION_ADDR
  let imports := s.importsOf a
  let s := imports.foldl (fun s i => if i.object == obj then s.writeImage i.off (data.take i.len) qGood else s) s
  let fresh := if r.state == .absent then [obj] else r.fresh.insert obj
  let whole := imports.all fun i => fresh.contains i.object
  let s := s.setRemote a fun r =>
    { r with
      lastRx := s.now, epoch := epoch, stat := { r.stat with LAST_RX_TS := s.ts }, fresh := fresh,
      state := if r.state == .present || whole then .present else .returning,
      presentAt := if r.state != .present && whole then s.now else r.presentAt }
  if r.state == .absent then s.remoteEvent 2 a .absent .returning else s

/-- REMOTE_ABSENT (R99): no valid frame for ABSENT_US; every value of the station is NOT_AVAILABLE and STALE. (log 82) -/
def execRemoteAbsent (station : BitVec 16) (s : State) : Host.Outcome State Fault Refusal :=
  .next <|
    match s.tk.remotes.find? fun r => r.desc.STATION_ADDR == station with
    | some r =>
      if r.state != .absent && s.since r.lastRx (us r.desc.absentUs) then
        let s := (s.importsOf station).foldl (fun s i => s.setQuality i.off (s.qualityAt i.off &&& qForced ||| qNone ||| qStale)) s
        let s := s.setRemote station fun r =>
          { r with state := .absent, fresh := [], stat := { r.stat with ABSENT_COUNT := sat r.stat.ABSENT_COUNT } }
        s.remoteEvent 4 station r.state .absent
      else s
    | none => s

/-- REMOTE_VALUE_STALE (R99): a value is older than twice PRODUCE_US. -/
def execRemoteValueStale (station : BitVec 16) (obj : BitVec 16) (s : State) : Host.Outcome State Fault Refusal :=
  .next <|
    match s.tk.remotes.find? fun r => r.desc.STATION_ADDR == station with
    | some r =>
      (s.importsOf station).foldl (fun s i =>
        if i.object == obj && (s.writtenAt i.off).toNat + 2000 * r.desc.PRODUCE_US.toNat < s.ts.toNat then
          s.setQuality i.off (s.qualityAt i.off ||| qStale)
        else s) s
    | none => s

/-- One export frame: station, WATCHDOG_US, the object's place and its data (R86, R100); the frame's own form is
the plant network's (log 33). -/
def State.exportFrame (s : State) (o : OutDecl) (a : BitVec 16) : List Byte :=
  let wd := match s.tk.remotes.find? fun r => r.desc.STATION_ADDR == a with
    | some r => r.desc.WATCHDOG_US.toNat
    | none => 0
  leBytes 2 a.toNat ++ leBytes 4 wd ++ leBytes 4 o.off ++ s.img.read o.off o.len

/-- PROCESS_DATA_SEND (R86, R100): the frames of a task's last commit, built from IMAGE, for the stations that take
them; a QUARANTINED module exports nothing (R400). -/
def execProcessDataSend (task : Fin 128) (s : State) : Host.Outcome State Fault Refusal :=
  .next <|
    if s.inRun && s.pr.role != .quarantined then
      let frames := (s.outputsOf task).filterMap fun o =>
        match o.station with
        | some a => if (s.task task).sentFrom.contains a then some (s.exportFrame o a) else none
        | none => none
      (s.setTask task fun k => { k with sentFrom := [] }).sendFrames frames
    else s

/-! ### Overruns and the end of a run -/

/-- One more overrun (R90 to R92). -/
def State.countOverrun (s : State) (t : Fin 128) : State :=
  s.setTask t fun k => { k with consecOvr := k.consecOvr + 1, stat := { k.stat with OVERRUN_COUNT := sat k.stat.OVERRUN_COUNT } }

/-- The undo log's lines are written back to the task data (R91, R116). (log 79) -/
def State.undo (s : State) (t : Fin 128) : State :=
  s.setMem 1 ((s.task t).data0.foldl (fun m e => m.write e.1 e.2) (s.gro.mem.get 1))

/-- A cycle is abandoned to its checkpoint (R91): task data of a safety-class task return to the cycle start,
RETAIN stands. -/
def State.abandon (s : State) (t : Fin 128) : State :=
  let s := if (s.task t).desc.SAFETY == 1#1 then s.undo t else s
  (s.setTask t fun k =>
    { k with
      run := .idle, cycleOpen := false, finished := none, bufHeld := false, restoreAt := none, reexec := false, data0 := [], undoRetain := [],
      heldCycle := false,
      codeOfs := k.ckptOfs, stat := { k.stat with ABANDONED := 1#1, OVERRUN := 0#1 } }).offLane t

/-- The task abandons its overrunning cycles: OVR_ABANDON, and every safety-class task (R91). -/
def Task.abandons (k : Task) : Bool := k.desc.SAFETY == 1#1 || k.desc.OVR_ABANDON == 1#1

/-- The finished run is committed: its outputs, what it drives at the island, and its replies to application
mailboxes (R84, R468). -/
def State.commitRun (s : State) (t : Fin 128) (r : TaskRun) : State :=
  let s := s.commit t r.outputs r.island
  r.appReplies.foldl (fun s e => { s with host.appReply := put s.host.appReply e.1 (some e.2) }) s

/-- An event task's run commits at its finish; its outstanding trigger then runs it again (R25, R89). -/
def State.endEventRun (s : State) (t : Fin 128) : State :=
  match (s.task t).finished with
  | some r => ((s.commitRun t r).setTask t fun k => { k with run := .idle }).runOutstanding t
  | none => s

/-- BUFFER_HOLD_EXPIRE (R85): the held buffer write is made; an event task commits. -/
def execBufferHoldExpire (task : Fin 128) (s : State) : Host.Outcome State Fault Refusal :=
  .next <|
    let k := s.task task
    if k.bufHeld && k.bufFreeAt ≤ s.now && s.hasTask task then
      let s := s.setTask task fun k => { k with bufHeld := false }
      if k.desc.KIND == 2#8 then (s.endEventRun task).dispatch else s
    else s

/-- EVT_LIMIT_EXPIRE (R90 to R92): an event task has run for EVT_LIMIT_US since its start. (log 75) -/
def execEvtLimitExpire (task : Fin 128) (s : State) : Host.Outcome State Fault Refusal :=
  .next <|
    let k := s.task task
    if s.hasTask task && k.desc.KIND == 2#8 && k.begun && k.stat.OVERRUN == 0#1 && k.stat.DEBUG_HALT == 0#1
        && s.since k.startAt (us k.desc.EVT_LIMIT_US.toNat) then
      let s := s.countOverrun task
      if k.desc.OVERRUN_LIMIT.toNat ≤ (s.task task).consecOvr then (s.taskFault task false).dispatch
      else if k.abandons then
        if k.undoOverflow then (s.taskFault task false).dispatch
        else (((s.abandon task).missCommit task).runOutstanding task).dispatch
      else s.setTask task fun k => { k with stat := { k.stat with OVERRUN := 1#1 } }
    else s

/-- MIN_GAP_EXPIRE (R89): the outstanding trigger is no longer held back. (log 75) -/
def execMinGapExpire (task : Fin 128) (s : State) : Host.Outcome State Fault Refusal :=
  .next <|
    match (s.task task).gapUntil with
    | some a => if a ≤ s.now && s.hasTask task then (s.runOutstanding task).dispatch else s
    | none => s

/-! ### The task check (R106) -/

/-- The load of a task as a pair of numbers, numerator and denominator: k·WCET over T, with k in hundredths. (log 81) -/
def TaskDesc.load (d : TaskDesc) : Nat × Nat :=
  (d.WCET_US.toNat * (if d.SAFETY == 1#1 then 204 else 100), 100 * (if d.KIND == 1#8 then d.PERIOD_US.toNat else d.MIN_GAP_US.toNat))

/-- A sum of fractions exceeds a number of hundredths; a denominator of 0 counts as exceeding. (log 81) -/
def sumExceeds (xs : List (Nat × Nat)) (hundredths : Nat) : Bool :=
  let (n, d) := xs.foldl (fun (a : Nat × Nat) x => (a.1 * x.2 + x.1 * a.2, a.2 * x.2)) (0, 1)
  d == 0 || hundredths * d < 100 * n

/-- The lane mask names one lane only, lane `l`. -/
def TaskDesc.onlyLane (d : TaskDesc) (l : Nat) : Bool := d.LANE_MASK.toNat == 2 ^ l

/-- The load limits of R106: refused with 0x020B, the instance and item of R451. (log 81) -/
def overload (ds : List TaskDesc) (code : Nat) : Option (Nat × Nat × Nat) :=
  match ds.find? fun d => d.load.2 < d.load.1 with
  | some d => some (code, d.TASK_ID.toNat, 0)
  | none =>
    if sumExceeds (ds.map TaskDesc.load) 300 then some (code, 0xFFFF, 0)
    else match (List.range 4).find? fun l => sumExceeds ((ds.filter fun d => d.onlyLane l).map TaskDesc.load) 75 with
      | some l => some (code, 0xFFFF, 0x100 + l)
      | none => none

/-- The descriptors of the tasks that are used, by number. -/
def State.usedTasks (s : State) : List TaskDesc :=
  ((idx 128).map fun t => { (s.task t).desc with TASK_ID := BitVec.ofNat 8 t.val }).filter fun d => d.KIND != 0#8

/-- A value of IMAGE with who writes it, as the program and the descriptors declare it: offset, length, writer. The
module's own blocks write the first 0x0180 bytes and the axis and encoder records (R72, R106, R272, R319, R358). -/
def ownRanges : List (Nat × Nat) := [(0, 0x180), (0x280, 0x100), (0x400, 0x80), (0x480, 0x100)]

/-- Outputs of used tasks, each with its task. -/
def declaredOutputs (prog : ProgInfo) : List (Fin 128 × OutDecl) := prog.tasks.flatMap fun d => d.outputs.map fun o => (d.task, o)

/-- What loops write: the AIO commands and IMAGE values that are outputs of a used loop. -/
def outputClash (prog : ProgInfo) (loops : List (Nat × Nat)) : Option (Fin 128 × OutDecl) :=
  let outs := declaredOutputs prog
  outs.find? fun e =>
    (outs.any fun f => f.1 != e.1 && meets e.2.off e.2.len f.2.off f.2.len)
      || (ownRanges ++ loops).any fun r => meets e.2.off e.2.len r.1 r.2

/-- Two loops write one value. -/
def loopClash : List (Nat × Nat) → Bool
  | [] => false
  | r :: rs => (rs.any fun q => meets r.1 r.2 q.1 q.2) || loopClash rs

/-- The task check: lanes and triggers, writers, loads (R106). (log 81) -/
def State.taskCheck (s : State) (loops : List (Nat × Nat)) : Option (Nat × Nat × Nat) :=
  let ds := s.usedTasks
  match ds.find? fun d => d.LANE_MASK == 0#4 || (d.KIND == 2#8 && d.TRIG_SRC == 0#8) with
  | some d => some (0x020C, d.TASK_ID.toNat, 0)
  | none =>
    match outputClash s.tk.prog loops with
    | some (t, o) => some (0x020D, t.val, o.off)
    | none => if loopClash loops then some (0x020D, 0xFFFF, 0) else overload ds 0x020B

end Sys2Proof.Machine
end

