-- ==== Sys2Proof/Machine/Temper.lean ====
section
/-! DEFINITION. The Temper pass, lanes, breakpoints, variables and the program image (R107 to R134, R516). -/

namespace Sys2Proof.Machine

/-! ### Lanes (R122 to R125, R133) -/

/-- The status of a lane changed. -/
def State.setLane (s : State) (l : Fin 4) (f : LaneStat → LaneStat) : State :=
  { s with dbg.lane := upd s.dbg.lane l fun x => { x with stat := f x.stat } }

/-- The lane's status. -/
def State.lane (s : State) (l : Fin 4) : LaneStat := (s.dbg.lane.get l).stat

/-- Tasks that are used and of the safety class. -/
def State.safetyTasks (s : State) : List TaskDesc := s.usedTasks.filter fun d => d.SAFETY == 1#1

/-- A safety-class cycle is in progress on the lane (R124, R133). -/
def State.safetyActive (s : State) (l : Fin 4) : Bool :=
  (idx 128).any fun t => let k := s.task t; k.desc.SAFETY == 1#1 && k.desc.KIND != 0#8 && k.begun && k.stat.LANE.toNat == l.val && k.run != .idle

/-- Lanes that stay unsplit and unfaulted when lane `l` is split; a lane with a split pending does not count
(log 34). -/
def State.lanesLeft (s : State) (l : Fin 4) : List (Fin 4) :=
  (idx 4).filter fun k => k != l && (s.lane k).SPLIT == 0#1 && (s.lane k).SPLIT_PENDING == 0#1 && (s.lane k).LANE_FAULT == 0#1

/-- The refusals of a split that are tested again before it takes effect (R123, R124). (log 84) -/
def State.splitRefusal (s : State) (l : Fin 4) : Option Nat :=
  let left := s.lanesLeft l
  if (s.lane l).LANE_FAULT == 1#1 then some 0x0308
  else if 2 ≤ s.heatNow then some 0x0305
  else if s.safetyTasks.any fun d => !left.any fun k => d.LANE_MASK.getLsbD k.val then some 0x0306
  else if sumExceeds (s.safetyTasks.map TaskDesc.load) (75 * left.length) then some 0x0307
  else none

/-- The split takes effect. -/
def LaneStat.split (x : LaneStat) : LaneStat := { x with SPLIT := 1#1, SPLIT_PENDING := 0#1, SPLIT_COUNT := sat x.SPLIT_COUNT }

/-- A command about one lane: 0x0301 above 3 (R105). -/
def onLane (n : Nat) (k : Fin 4 → Served) : Served :=
  match asFin 4 n with
  | some l => k l
  | none => .refuse 0x0301 n 0

/-- PRG_LANE_SPLIT (R123, R124): in STOP it takes effect at acceptance. -/
def cmdPrgLaneSplit (rq : Request) (s : State) : State :=
  serve Cmd.prgLaneSplit rq s fun s =>
    onLane (rq.u8 0) fun l =>
      let x := s.lane l
      refuseIf (x.LANE_FAULT == 1#1) 0x0308 l.val <|
      refuseIf (x.SPLIT == 1#1 || x.SPLIT_PENDING == 1#1) 0x0309 l.val <|
        match s.splitRefusal l with
        | some c => .refuse c l.val 0
        | none =>
          if s.sys.mode = .stop then .done (s.setLane l LaneStat.split) []
          else .done (s.setLane l fun x => { x with SPLIT_PENDING := 1#1 }) []

/-- PRG_LANE_JOIN (R125): in STOP it takes effect at acceptance. -/
def cmdPrgLaneJoin (rq : Request) (s : State) : State :=
  serve Cmd.prgLaneJoin rq s fun s =>
    onLane (rq.u8 0) fun l =>
      refuseIf ((s.lane l).SPLIT == 0#1) 0x0309 l.val <|
        if s.sys.mode = .stop then .done (s.setLane l fun x => { x with SPLIT := 0#1, JOIN_PENDING := 0#1 }) []
        else .done (s.setLane l fun x => { x with JOIN_PENDING := 1#1 }) []

/-- The number by which a stream reports its task: 0xFF when idle (R133). -/
def State.streamTask (s : State) (e : Fin 8) : Nat := match s.tk.laneTask.get e with | some t => t.val | none => 255

/-- PRG_LANE_STATUS reads the lane status (R133). -/
def cmdPrgLaneStatus (rq : Request) (s : State) : State :=
  serve Cmd.prgLaneStatus rq s fun s =>
    onLane (rq.u8 0) fun l =>
      .done s ((s.lane l).toBytes (SAFETY_ACTIVE := bit (s.safetyActive l)) (STREAM0_TASK := s.streamTask ⟨l.val, by omega⟩)
        (STREAM1_TASK := s.streamTask ⟨l.val + 4, by omega⟩))

/-- PRG_TEMPER_STATUS reads the Temper status of a safety-class task (R134). -/
def cmdPrgTemperStatus (rq : Request) (s : State) : State :=
  serve Cmd.prgTemperStatus rq s fun s =>
    onTask (rq.u8 0) fun t =>
      refuseIf ((s.task t).desc.SAFETY == 0#1 || (s.task t).desc.KIND == 0#8) 0x030A t.val (.done s (s.dbg.temper.get t).stat.toBytes)

/-- The counters, LAST_CP and UNDO_LINES_MAX cleared; LANE_FAULTED and the window of R121 stand. -/
def TemperStat.cleared (x : TemperStat) : TemperStat :=
  { x with LAST_CP := 0#3, MISMATCH_COUNT := 0#32, REEXEC_COUNT := 0#32, HOLD_COUNT := 0#32, RANGE_ESCAPE_COUNT := 0#32, UNDO_LINES_MAX := 0#16 }

/-- PRG_TEMPER_CLEAR clears one task's Temper counters, or every task's with 0xFF. -/
def cmdPrgTemperClear (rq : Request) (s : State) : State :=
  serve Cmd.prgTemperClear rq s fun s =>
    if rq.u8 0 = 255 then .done { s with dbg.temper := s.dbg.temper.map fun x => { x with stat := x.stat.cleared } } []
    else onTask (rq.u8 0) fun t => .done { s with dbg.temper := upd s.dbg.temper t fun x => { x with stat := x.stat.cleared } } []

/-! ### Variables (R126 to R129) -/

/-- The role of a request's session. -/
def State.roleOf (s : State) (rq : Request) : Nat := (s.host.session.get rq.session).role.val

/-- PRG_VAR_READ reads one variable (R129). -/
def cmdPrgVarRead (rq : Request) (s : State) : State :=
  serve Cmd.prgVarRead rq s fun s =>
    let q := VarReq.ofBytes rq.payload
    match s.varOf q.HANDLE with
    | none => .refuse 0x030C 0xFFFF q.HANDLE.toNat
    | some v =>
      refuseIf (q.SIZE != v.size) 0x030D 0xFFFF
        (.done s (ValReply.toBytes { ValReply.dflt with
          VALUE := BitVec.ofNat 64 (if v.chamber = 0 then s.valueAt v.off v.size.toNat else (s.gro.mem.get v.chamber).num v.off v.size.toNat),
          QUAL := if v.chamber = 0 then s.qualityAt v.off else 0#4 })) q.HANDLE.toNat

/-- PRG_VAR_WRITE writes a TASK or RETAIN variable: at once in STOP, else at its owner's next cycle start (R129). -/
def cmdPrgVarWrite (rq : Request) (s : State) : State :=
  serve Cmd.prgVarWrite rq s fun s =>
    let q := VarReq.ofBytes rq.payload
    match s.varOf q.HANDLE with
    | none => .refuse 0x030C 0xFFFF q.HANDLE.toNat
    | some v =>
      refuseIf (q.SIZE != v.size) 0x030D 0xFFFF (item := q.HANDLE.toNat) <|
      refuseIf (v.chamber != 1 && v.chamber != 2) 0x030E 0xFFFF (item := q.HANDLE.toNat) <|
      refuseIf (v.safetyRead && s.roleOf rq < 3) 0x030F 0xFFFF (item := q.HANDLE.toNat) <|
        let w := (q.HANDLE, q.VALUE)
        if s.sys.mode = .stop then .done (s.applyVar w) []
        else match v.owner with
          | some t => .done (s.setTask t fun k => { k with varWrites := k.varWrites ++ [w] }) []
          | none => .done { s with dbg.retainWrites := s.dbg.retainWrites ++ [w] } []

/-! ### Breakpoints (R128, R130 to R132) -/

/-- The task is used and of the safety class. -/
def State.isSafety (s : State) (t : Fin 128) : Bool := (s.task t).desc.KIND != 0#8 && (s.task t).desc.SAFETY == 1#1

/-- PRG_BREAK_SET arms a breakpoint and returns its number (R130, R132). -/
def cmdPrgBreakSet (rq : Request) (s : State) : State :=
  serve Cmd.prgBreakSet rq s fun s =>
    onTask (rq.u8 0) fun t =>
      let ofs := BitVec.ofNat 32 (rq.u32 4)
      let known := match s.declOf t with | some d => d.instrs.contains ofs | none => false
      refuseIf ((s.task t).desc.KIND == 0#8 || !known) 0x0311 t.val (item := ofs.toNat) <|
      refuseIf (s.isSafety t && s.roleOf rq < 3) 0x030F t.val (item := ofs.toNat) <|
        match (idx 16).find? fun b => (s.dbg.brk.get b).STATE == 0#8 with
        | none => .refuse 0x0310 t.val ofs.toNat
        | some b =>
          .done { s with dbg.brk := put s.dbg.brk b { BreakEntry.dflt with TASK_ID := BitVec.ofNat 8 t.val, STATE := 1#8, CODE_OFS := ofs } }
            (leBytes 1 b.val ++ [0#8, 0#8, 0#8])

/-- PRG_BREAK_CLEAR clears a breakpoint; a task halted at it stays halted (R130, R132). -/
def cmdPrgBreakClear (rq : Request) (s : State) : State :=
  serve Cmd.prgBreakClear rq s fun s =>
    match asFin 16 (rq.u8 0) with
    | none => .refuse 0x0301 (rq.u8 0) 0
    | some b => refuseIf ((s.dbg.brk.get b).STATE == 0#8) 0x0312 b.val (.done { s with dbg.brk := put s.dbg.brk b BreakEntry.dflt } [])

/-- The breakpoint at which a task is halted is armed again. (log 83) -/
def State.rearmBreak (s : State) (t : Fin 128) : State :=
  match (s.task t).haltedAt with
  | some b =>
    { s.setTask t fun k => { k with haltedAt := none } with
      dbg.brk := upd s.dbg.brk b fun e => if e.STATE == 2#8 then { e with STATE := 1#8 } else e }
  | none => s

/-- PRG_BREAK_RELEASE lets a halted task go on: at the halted instruction, or, of the safety class, at its next
boundary with a fresh latch (R128, R130). -/
def cmdPrgBreakRelease (rq : Request) (s : State) : State :=
  serve Cmd.prgBreakRelease rq s fun s =>
    onTask (rq.u8 0) fun t =>
      refuseIf (s.isSafety t && s.roleOf rq < 3) 0x030F t.val <|
      refuseIf ((s.task t).stat.DEBUG_HALT == 0#1) 0x0312 t.val <|
        let s := (s.rearmBreak t).setTask t fun k =>
          { k with
            stepsLeft := 0#32, stat := { k.stat with DEBUG_HALT := 0#1 },
            run := if k.desc.SAFETY == 1#1 then .idle else .ready,
            cycleOpen := k.cycleOpen && k.desc.SAFETY == 0#1, finished := if k.desc.SAFETY == 1#1 then none else k.finished }
        .done (s.runOutstanding t).dispatch []

/-- PRG_STEP lets a halted task run COUNT instructions (R130). -/
def cmdPrgStep (rq : Request) (s : State) : State :=
  serve Cmd.prgStep rq s fun s =>
    onTask (rq.u8 0) fun t =>
      refuseIf (rq.u8 1 == 0) 0x0301 t.val <|
      refuseIf (s.isSafety t && s.roleOf rq < 3) 0x030F t.val <|
      refuseIf ((s.task t).stat.DEBUG_HALT == 0#1) 0x0312 t.val <|
        .done ((s.rearmBreak t).setTask t fun k => { k with stepsLeft := BitVec.ofNat 32 (rq.u8 1), run := .ready }).dispatch []

/-- PRG_BREAK_STATUS reads the sixteen breakpoints (R131). -/
def cmdPrgBreakStatus (rq : Request) (s : State) : State :=
  serve Cmd.prgBreakStatus rq s fun s => .done s (s.dbg.brk.toList.flatMap BreakEntry.toBytes)

/-! ### The program image (R516) -/

/-- The bytes of the program image as loaded. -/
def State.programBytes (s : State) : List Byte := s.tk.image.read 0 s.tk.imageLen

/-- PRG_IMAGE_LOAD writes the program image part by part (R516). -/
def cmdPrgImageLoad (rq : Request) (s : State) : State :=
  serve Cmd.prgImageLoad rq s fun s =>
    let off := rq.u32 0
    let data := rq.payload.drop 4
    if off = 0 then
      .done { s with
        tk.image := Memory.write [] 0 data, tk.imageLen := data.length, tk.prog := ProgInfo.empty, olc.running := none, olc.mixed := false } []
    else if off = s.tk.imageLen then .done { s with tk.image := s.tk.image.write off data, tk.imageLen := off + data.length } []
    else .refuseIn { s with tk.image := [], tk.imageLen := 0, tk.prog := ProgInfo.empty, olc.running := none, olc.mixed := false } 0x030B 0xFFFF 0 []

/-- PRG_IMAGE_INFO returns the SHA-256 of the loaded image, or zeros (R516). -/
def cmdPrgImageInfo (rq : Request) (s : State) : State :=
  serve Cmd.prgImageInfo rq s fun s =>
    .done s (leBytes 32 (if s.tk.imageLen = 0 then 0 else (Config.sha256 s.programBytes).toNat))

/-- PRG_LANE_SPLIT (R123). -/
def execPrgLaneSplit (rq : Request) (s : State) : Host.Outcome State Fault Refusal := .next (s.command rq cmdPrgLaneSplit)
/-- PRG_LANE_JOIN (R125). -/
def execPrgLaneJoin (rq : Request) (s : State) : Host.Outcome State Fault Refusal := .next (s.command rq cmdPrgLaneJoin)
/-- PRG_LANE_STATUS (R133). -/
def execPrgLaneStatus (rq : Request) (s : State) : Host.Outcome State Fault Refusal := .next (s.command rq cmdPrgLaneStatus)
/-- PRG_TEMPER_STATUS (R134). -/
def execPrgTemperStatus (rq : Request) (s : State) : Host.Outcome State Fault Refusal := .next (s.command rq cmdPrgTemperStatus)
/-- PRG_TEMPER_CLEAR (R134). -/
def execPrgTemperClear (rq : Request) (s : State) : Host.Outcome State Fault Refusal := .next (s.command rq cmdPrgTemperClear)
/-- PRG_VAR_READ (R129). -/
def execPrgVarRead (rq : Request) (s : State) : Host.Outcome State Fault Refusal := .next (s.command rq cmdPrgVarRead)
/-- PRG_VAR_WRITE (R129). -/
def execPrgVarWrite (rq : Request) (s : State) : Host.Outcome State Fault Refusal := .next (s.command rq cmdPrgVarWrite)
/-- PRG_BREAK_SET (R130). -/
def execPrgBreakSet (rq : Request) (s : State) : Host.Outcome State Fault Refusal := .next (s.command rq cmdPrgBreakSet)
/-- PRG_BREAK_CLEAR (R130). -/
def execPrgBreakClear (rq : Request) (s : State) : Host.Outcome State Fault Refusal := .next (s.command rq cmdPrgBreakClear)
/-- PRG_BREAK_RELEASE (R130). -/
def execPrgBreakRelease (rq : Request) (s : State) : Host.Outcome State Fault Refusal := .next (s.command rq cmdPrgBreakRelease)
/-- PRG_STEP (R130). -/
def execPrgStep (rq : Request) (s : State) : Host.Outcome State Fault Refusal := .next (s.command rq cmdPrgStep)
/-- PRG_BREAK_STATUS (R131). -/
def execPrgBreakStatus (rq : Request) (s : State) : Host.Outcome State Fault Refusal := .next (s.command rq cmdPrgBreakStatus)
/-- PRG_IMAGE_LOAD (R516). -/
def execPrgImageLoad (rq : Request) (s : State) : Host.Outcome State Fault Refusal := .next (s.command rq cmdPrgImageLoad)
/-- PRG_IMAGE_INFO (R516). -/
def execPrgImageInfo (rq : Request) (s : State) : Host.Outcome State Fault Refusal := .next (s.command rq cmdPrgImageInfo)

/-! ### Mismatch (R118 to R121) -/

/-- The Temper state of a task changed. -/
def State.setTemper (s : State) (t : Fin 128) (f : TemperStat → TemperStat) : State :=
  { s with dbg.temper := upd s.dbg.temper t fun x => { x with stat := f x.stat } }

/-- The end of the task's present cycle: its next period boundary, or the limit of an event task (R119). -/
def Task.cycleEnd (k : Task) : Nat :=
  if k.desc.KIND == 2#8 then k.startAt + us k.desc.EVT_LIMIT_US.toNat
  else k.latchAt + us k.desc.PERIOD_US.toNat * (if k.stat.STRETCHED == 1#1 then 2 else 1)

/-- A lane fault (R121): a task fault of the task, the lane out of service, its tasks back to READY or faulted, and a
failover request where the module is ACTIVE. (log 85) -/
def State.laneFault (s : State) (l : Fin 4) (t : Fin 128) : State :=
  let s := (s.taskFault t false false).setTemper t fun x => { x with LANE_FAULTED := 1#1 }
  let s := (s.setLane l fun x => { x with LANE_FAULT := 1#1, SPLIT_PENDING := 0#1 }).event 5 0x0382 t.val l.val t.val
  let s := ((idx 8).filter fun e => laneOf e == l).foldl (fun s e =>
    match s.tk.laneTask.get e with
    | some v => s.preempt v
    | none => s) s
  let lost := (idx 128).filter fun v =>
    let k := s.task v
    k.desc.KIND != 0#8 && k.desc.LANE_MASK.toNat == 2 ^ l.val && k.stat.FAULT == 0#1
  let s := lost.foldl (fun s v => s.taskFault v false) s
  if s.paired && s.pr.role == .active then s.requestFailover else s

/-- The restore of a cycle and a full re-execution fit before the cycle's end (R116, R119): times in ns. -/
def Task.reexecFits (k : Task) (now lines : Nat) : Bool :=
  100 * (1000 + 16 * lines) + 204 * 1000 * k.desc.WCET_US.toNat ≤ 100 * (8 * (k.cycleEnd - now)) && now ≤ k.cycleEnd

/-- A mismatch at a commit point (R118 to R121). -/
def State.mismatch (s : State) (t : Fin 128) (cp : BitVec 3) (lines : Nat) : State :=
  let k := s.task t
  let x := s.dbg.temper.get t
  let l : Fin 4 := k.stat.LANE.toFin
  let second := k.undoOverflow || (match x.lastMismatch with | some c => x.cycles < c + 16 | none => false)
  let s := s.setTemper t fun x => { x with MISMATCH_COUNT := sat x.MISMATCH_COUNT, LAST_CP := cp, LAST_MISMATCH_TS := s.ts }
  let s := { s with dbg.temper := upd s.dbg.temper t fun x => { x with lastMismatch := some x.cycles } }
  let s := s.setLane l fun y => { y with LANE_MISMATCH_COUNT := sat y.LANE_MISMATCH_COUNT }
  let s := s.event 4 0x0381 t.val l.val cp.toNat
  if second then s.laneFault l t
  else if k.reexecFits s.now lines then
    (s.setTemper t fun x => { x with REEXEC_COUNT := sat x.REEXEC_COUNT, REEXEC_LAST := 1#1, HELD_LAST := 0#1 }).setTask t fun k =>
      { k with restoreAt := some s.now, reexec := true }
  else
    (s.setTemper t fun x => { x with HOLD_COUNT := sat x.HOLD_COUNT, REEXEC_LAST := 0#1, HELD_LAST := 1#1 }).setTask t fun k =>
      { k with restoreAt := some s.now, reexec := false }

/-- RESTORE_COMPLETE (R116, R119): every logged line is written back; the cycle is executed again on its lane, or ends
in its hold. -/
def execRestoreComplete (task : Fin 128) (s : State) : Host.Outcome State Fault Refusal :=
  .next <|
    let k := s.task task
    if k.restoreAt.isSome && s.hasTask task then
      let s := k.undoRetain.foldl (fun s e => s.writeRetain e.1 e.2) (s.undo task)
      let s := s.setTask task fun k => { k with restoreAt := none, data0 := [], undoRetain := [], codeOfs := k.ckptOfs }
      if k.reexec then s
      else
        let s := (s.setTask task fun k => { k with run := .idle }).offLane task
        if k.desc.KIND == 2#8 then
          (((s.setTask task fun k => { k with cycleOpen := false }).missCommit task).runOutstanding task).dispatch
        else (s.setTask task fun k => { k with heldCycle := true }).dispatch
    else s

/-! ### The finish of a run (R85, R113 to R115) -/

/-- A store of a finished run touches a variable. (log 79) -/
def TaskRun.touches (r : TaskRun) (v : VarDecl) : Bool :=
  let hit (l : List (Nat × List Byte)) := l.any fun e => meets e.1 e.2.length v.off v.size.toNat
  (v.chamber == 1 && hit r.stores) || (v.chamber == 2 && hit r.retains) || (v.chamber == 0 && hit (r.outputs.map fun o => (o.off, o.bytes)))

/-- What a task writes to a Crucible slot it drives (R183). (log 99) -/
def State.cruWrite (s : State) (w : CruWrite) : State :=
  { s with cru.slot := upd s.cru.slot w.slot fun x =>
      match w.inset with
      | some i => { x with inset := upd x.inset i fun m => m.write w.off w.data }
      | none =>
        let r := CruReq.ofBytes ((Memory.write (Memory.write [] 0 x.req.toBytes) w.off w.data).read 0 64)
        { x with req := r, reqNew := x.reqNew || (w.off < 4 && r.REQ_SEQ != x.lastSeq && r.REQ_SEQ != 0#32) } }

/-- A FLOW_REC call of a task (R410): its record goes to the task's queue of 16 entries, or is lost and counted where the queue
is full. A severity above the task's bound makes no record (log 54). -/
def State.queueRecord (s : State) (t : Fin 128) (x : TaskRec) : State :=
  let most := if (s.task t).desc.SAFETY == 1#1 then 6 else s.flow.act.TASK_MAX_SEV.toNat
  if most < x.2.1.toNat then s
  else if 16 ≤ (s.task t).msgQueue.length then
    { s with flow.stat := { s.flow.stat with TASK_REC_DROP := sat s.flow.stat.TASK_REC_DROP, DROP_SEEN := 1#1 } }
  else s.setTask t fun k => { k with msgQueue := k.msgQueue ++ [x] }

/-- Every store of a finished run but its outputs: task data, RETAIN, MSG, CRUC and its records (R84, R113, R410). (log 79) -/
def State.runStores (s : State) (t : Fin 128) (r : TaskRun) : State :=
  let s := r.stores.foldl (fun s e => (s.writeChamber 1 e.1 e.2).mirror (.taskLine t 1 e.1 e.2)) s
  let s := r.retains.foldl (fun s e => s.writeRetain e.1 e.2) s
  let s := r.msgs.foldl (fun s e => s.setMem 5 ((s.gro.mem.get 5).write e.1 e.2)) s
  let s := r.cru.foldl State.cruWrite s
  r.records.foldl (State.queueRecord · t) s

/-- The commit point at which the passes of a run differ, if any: as the lane found it, or where a JTAG write has
parted main and shadow copy (R113, R127). -/
def State.runMismatch (s : State) (t : Fin 128) (r : TaskRun) : Option (BitVec 3) :=
  if (s.task t).desc.SAFETY == 1#1 then
    match r.mismatch with
    | some c => some (c.setWidth 3)
    | none => if s.dbg.jtag.any fun h => match s.varOf h with | some v => r.touches v | none => false then some 4#3 else none
  else none

/-- What a run of a safety-class task adds to its Temper status (R112, R117). (log 79) -/
def State.noteRun (s : State) (t : Fin 128) (r : TaskRun) : State :=
  let fill := max r.undoLines.1 r.undoLines.2
  let tooFull := 2048 < fill
  let s := s.setTemper t fun x =>
    { x with
      RANGE_ESCAPE_COUNT := satAdd x.RANGE_ESCAPE_COUNT r.edges, UNDO_LINES_MAX := maxBv x.UNDO_LINES_MAX (min fill 2048),
      UNDO_OVERFLOW := if tooFull then 1#1 else x.UNDO_OVERFLOW }
  s.setTask t fun k => { k with undoOverflow := k.undoOverflow || tooFull }

/-- The run has finished without a mismatch: its stores are made, its staging area waits for the commit, and its
lane is free (R84, R85); an event task commits at once, unless its buffer is held. (log 79) -/
def State.finishRun (s : State) (t : Fin 128) (r : TaskRun) : State :=
  let s := s.runStores t r
  let s := (s.setTask t fun k =>
    { k with
      run := .idle, finished := if k.cycleOpen then some r else none, reexec := false, stepsLeft := 0#32, haltedAt := none,
      bufHeld := k.cycleOpen && 8 < outLines r.outputs && s.now < k.bufFreeAt,
      consecOvr := if k.desc.KIND == 2#8 && k.stat.OVERRUN == 0#1 then 0 else k.consecOvr,
      stat := { k.stat with
        DEBUG_HALT := 0#1, EXEC_US_LAST := r.execUs, EXEC_US_MAX := if k.stat.EXEC_US_MAX.toNat < r.execUs.toNat then r.execUs else k.stat.EXEC_US_MAX } }).offLane t
  if (s.task t).desc.KIND == 2#8 && !(s.task t).bufHeld then s.endEventRun t else s

/-- TASK_FINISH (R85, R113, R118): a running task reaches its finish, or a commit point at which its passes
differ. -/
def execTaskFinish (task : Fin 128) (run : TaskRun) (s : State) : Host.Outcome State Fault Refusal :=
  .next <|
    let k := s.task task
    if s.hasTask task && k.run == .running && k.restoreAt.isNone && (s.streamOf task).isSome then
      let cp := s.runMismatch task run
      let s := if k.desc.SAFETY == 1#1 then s.noteRun task run else s
      match cp with
      | some c =>
        let s := { s with dbg.jtag := s.dbg.jtag.filter fun h => match s.varOf h with | some v => !run.touches v | none => true }
        ((run.records.foldl (State.queueRecord · task) s).mismatch task c (run.undoLines.1 + run.undoLines.2)).dispatch
      | none => (s.finishRun task run).dispatch
    else s

/-! ### Debugging events -/

/-- BREAKPOINT_HIT (R128, R130): the running task stops before the instruction; a safety-class event task takes its safe
states at once (log 35). (log 83) -/
def execBreakpointHit (brk : Fin 16) (s : State) : Host.Outcome State Fault Refusal :=
  .next <|
    let e := s.dbg.brk.get brk
    match asFin 128 e.TASK_ID.toNat with
    | some t =>
      if e.STATE != 0#8 && s.hasTask t && (s.task t).run == .running && (s.task t).restoreAt.isNone then
        let s := { s with dbg.brk := put s.dbg.brk brk { e with STATE := 2#8, HIT_COUNT := sat e.HIT_COUNT } }
        let s := (s.setTask t fun k =>
          { k with run := .stopped, codeOfs := e.CODE_OFS, haltedAt := some brk, stepsLeft := 0#32, stat := { k.stat with DEBUG_HALT := 1#1 } }).offLane t
        let s := if (s.task t).desc.SAFETY == 1#1 && (s.task t).desc.KIND == 2#8 then s.commitSafe t else s
        s.dispatch
      else s
    | none => s

/-- STEP_COMPLETE (R130): the instructions of a step have run, and the task is halted again. (log 83) -/
def execStepComplete (task : Fin 128) (ofs : BitVec 32) (s : State) : Host.Outcome State Fault Refusal :=
  .next <|
    let k := s.task task
    if k.stepsLeft != 0#32 && k.run == .running && s.hasTask task then
      ((s.setTask task fun k => { k with run := .stopped, stepsLeft := 0#32, codeOfs := ofs }).offLane task).dispatch
    else s

/-- JTAG_WRITE (R127): the main copy of a variable is written alone; a safety-class task's shadow copy stands as it
was. -/
def execJtagWrite (handle : BitVec 32) (value : BitVec 64) (s : State) : Host.Outcome State Fault Refusal :=
  .next <|
    match s.varOf handle with
    | some v =>
      let s := s.writeChamber v.chamber v.off (leBytes v.size.toNat value.toNat)
      match v.owner with
      | some t => if s.isSafety t && v.chamber == 1 then { s with dbg.jtag := s.dbg.jtag.insert handle } else s
      | none => s
    | none => s

end Sys2Proof.Machine
end

