-- ==== Sys2Proof/Machine/Flowstone.lean ====
section
/-! DEFINITION. Flowstone (R408 to R422, R522): descriptor, flushing, compaction, reading, export and notes. -/

namespace Sys2Proof.Machine

/-! ### Reading the log (R416) -/

/-- A record goes to its place in a list in SEQ order. -/
def insertSeq (r : FlowRec) : List FlowRec → List FlowRec
  | [] => [r]
  | q :: t => if r.SEQ.toNat ≤ q.SEQ.toNat then r :: q :: t else q :: insertSeq r t

/-- The records, staged or flushed, from a SEQ up to another and at or above a severity, in ascending
order of SEQ (R416). -/
def Flow.gather (f : Flow) (lo hi sev : Nat) : List FlowRec :=
  let all := f.log.map Prod.snd ++ f.staging
  (all.filter fun r => lo ≤ r.SEQ.toNat && r.SEQ.toNat ≤ hi && sev ≤ r.SEVERITY.toNat).foldr insertSeq []

/-- OVERWRITE_TOTAL: the sum of OVERWRITTEN, saturating (R416). -/
def Flow.overwriteTotal (f : Flow) : Nat := min (f.stat.OVERWRITTEN.toList.map BitVec.toNat).sum 0xFFFFFFFF

/-- Compaction is held: at H1 and above and at E1 and above (R415). -/
def State.compactHeld (s : State) : Bool := 1 ≤ s.heatNow || 1 ≤ s.energyNow

/-- The recorder status (R419). -/
def State.flowStatus (s : State) : List Byte :=
  let f := s.flow
  f.stat.toBytes (COMPACT_HELD := bit s.compactHeld) (LOG_FULL := bit (firstFree 0 f.log == logSlots))
    (FLUSHING := bit f.flushOn) (EXPORT_ACTIVE := bit f.exp.isSome) (STAGED := f.staging.length)
    (HEAD_SEQ := f.headSeq) (FLUSHED_SEQ := f.flushedSeq)
    (OLDEST_SEQ := ((f.log.map fun e => e.2.SEQ.toNat).min?).getD 0) (LOG_RECORDS := f.log.length)
    (BOOT_COUNT := f.bootCount.toNat) (PF_LOST := f.pfLost.toNat)

/-! ### Commands -/

/-- The recorder descriptor's fields lie in their ranges (R418). -/
def FlowDesc.inRange (d : FlowDesc) : Bool :=
  d.MIN_SEVERITY.toNat ≤ 4 && 1 ≤ d.TASK_MAX_SEV.toNat && d.TASK_MAX_SEV.toNat ≤ 5
    && 10000 ≤ d.RATE_LIMIT.toNat && d.RATE_LIMIT.toNat ≤ 1000000

/-- FLOW_SET writes the recorder descriptor (R418, R420). -/
def cmdFlowSet (rq : Request) (s : State) : State :=
  serve Cmd.flowSet rq s fun s =>
    let d := FlowDesc.ofBytes rq.payload
    refuseIf (!d.inRange) 0x0D01 0xFFFF (.done { s with flow.desc := d } [])

/-- FLOW_GET reads the recorder descriptor (R418). -/
def cmdFlowGet (rq : Request) (s : State) : State :=
  serve Cmd.flowGet rq s fun s => .done s s.flow.desc.toBytes

/-- FLOW_FLUSH triggers a flush and is answered as it ends; one that arrives during a flush waits for the next
(R412, R470). -/
def cmdFlowFlush (rq : Request) (s : State) : State :=
  serve Cmd.flowFlush rq s fun s => .later { s with flow := { s.flow with flushRqsNext := s.flow.flushRqsNext ++ [rq] }.trigger s.now }

/-- FLOW_STATUS reads the recorder status (R419). -/
def cmdFlowStatus (rq : Request) (s : State) : State :=
  serve Cmd.flowStatus rq s fun s => .done s s.flowStatus

/-- FLOW_READ returns records in ascending order behind its 16-byte head (R416, R420). -/
def cmdFlowRead (rq : Request) (s : State) : State :=
  serve Cmd.flowRead rq s fun s =>
    let lo := rq.u64 0
    let sev := rq.u8 8
    let n := rq.u8 9
    refuseIf (n == 0 || 63 < n || 7 < sev) 0x0D01 0xFFFF <|
      let rs := (s.flow.gather lo s.flow.headSeq sev).take n
      .done s (FlowReadHead.toBytes { FlowReadHead.dflt with
          HEAD_SEQ := BitVec.ofNat 64 s.flow.headSeq, COUNT := BitVec.ofNat 8 rs.length,
          OVERWRITE_TOTAL := BitVec.ofNat 32 s.flow.overwriteTotal }
        ++ rs.flatMap FlowRec.toBytes)

/-- Bytes of the stream that one call returns at most (R417). -/
def exportPart : Nat := 4064

/-- The firmware version that runs (R417, R457). -/
def State.fwVersion (s : State) : BitVec 32 := (s.sys.slot.get s.sys.runningSlot).version

/-- The start of an export: its header (R417). (log 149) -/
def State.exportStart (s : State) (rq : Request) : Export :=
  let hi := min (rq.u64 8) s.flow.headSeq
  let head : ExportHead := { ExportHead.dflt with
    STATION_ADDR := s.sys.straps.addr.setWidth 16, SERIAL := s.sys.serial, FROM_SEQ := BitVec.ofNat 64 (rq.u64 0),
    TO_SEQ := BitVec.ofNat 64 hi, EXPORT_TS := s.ts, FW_VERSION := s.fwVersion, MIN_SEV := BitVec.ofNat 8 (rq.u8 16) }
  { session := rq.session, fromSeq := rq.u64 0, toSeq := hi, minSev := rq.u8 16, next := 0, stream := head.toBytes,
    nextSeq := rq.u64 0, count := 0, whole := false, lastAt := s.now }

/-- The stream gathered on: up to 64 further records, and the trailer with its signature once no record
is left (R417). -/
def State.exportMore (s : State) (e : Export) : Export :=
  if e.whole then e
  else
    let rs := (s.flow.gather e.nextSeq e.toSeq e.minSev).take 64
    let e := { e with stream := e.stream ++ rs.flatMap FlowRec.toBytes, count := e.count + rs.length,
                      nextSeq := match rs.getLast? with | some r => r.SEQ.toNat + 1 | none => e.toSeq + 1 }
    if rs.length < 64 then
      let tail := leBytes 4 e.count ++ leBytes 4 (e.toSeq + 1 - e.fromSeq - e.count) ++ (s.flowStatus.drop 0x40).take 56
      let body := e.stream ++ tail
      { e with stream := body ++ leBytes 64 (Config.deviceSignature body).toNat, whole := true }
    else e

/-- One call of an export: the next part of its stream; at its end the export is released (R417). -/
def State.exportCall (s : State) (e : Export) : Served :=
  let e := s.exportMore e
  let part := (e.stream.drop e.next).take exportPart
  let e := { e with next := e.next + part.length, lastAt := s.now }
  .done { s with flow.exp := if e.whole && e.stream.length ≤ e.next then none else some e } part

/-- FLOW_EXPORT starts an export at OFFSET 0 and returns its stream part by part; a call at any other
offset than the next ends it (R417, R420). -/
def cmdFlowExport (rq : Request) (s : State) : State :=
  serve Cmd.flowExport rq s fun s =>
    refuseIf (rq.u64 8 < rq.u64 0 || 7 < rq.u8 16) 0x0D01 0xFFFF <|
      match s.flow.exp with
      | none => refuseIf (rq.u32 20 != 0) 0x0D04 0xFFFF (s.exportCall (s.exportStart rq))
      | some e =>
        refuseIf (e.session != rq.session) 0x0D03 0xFFFF <|
          if rq.u32 20 = e.next then s.exportCall e
          else .refuseIn { s with flow.exp := none } 0x0D04 0xFFFF 0 []

/-- FLOW_CLEAR clears the counters and sticky bits; PF_LOST and BOOT_COUNT stand, and so does the number
of the last record overwritten (R419). -/
def cmdFlowClear (rq : Request) (s : State) : State :=
  serve Cmd.flowClear rq s fun s =>
    .done { s with flow.stat := { FlowStat.dflt with LAST_OVERWRITE_SEQ := s.flow.stat.LAST_OVERWRITE_SEQ } } []

/-- FLOW_NOTE stages a note under its receipt time and answers its SEQ, 0 where it is not staged (R410,
R420, R522). (log 148) -/
def cmdFlowNote (rq : Request) (s : State) : State :=
  serve Cmd.flowNote rq s fun s =>
    refuseIf (3 < rq.u8 0) 0x0D01 0xFFFF <|
      let n : Note := { sev := rq.u8 0, code := 0x0D80, session := rq.session.val, payload := (rq.payload.drop 4).take 32 }
      match s.flow.limit n.sev s.now with
      | none => let s := s.stageAt n rq.rxTs; .done s (leBytes 8 s.flow.headSeq)
      | some d => .done { s with flow := s.flow.noteDrop d } (leBytes 8 0)

/-- FLOW_SET (R418). -/
def execFlowSet (rq : Request) (s : State) : Host.Outcome State Fault Refusal := .next (s.command rq cmdFlowSet)
/-- FLOW_GET (R418). -/
def execFlowGet (rq : Request) (s : State) : Host.Outcome State Fault Refusal := .next (s.command rq cmdFlowGet)
/-- FLOW_FLUSH (R412). -/
def execFlowFlush (rq : Request) (s : State) : Host.Outcome State Fault Refusal := .next (s.command rq cmdFlowFlush)
/-- FLOW_STATUS (R419). -/
def execFlowStatus (rq : Request) (s : State) : Host.Outcome State Fault Refusal := .next (s.command rq cmdFlowStatus)
/-- FLOW_READ (R416). -/
def execFlowRead (rq : Request) (s : State) : Host.Outcome State Fault Refusal := .next (s.command rq cmdFlowRead)
/-- FLOW_EXPORT (R417). -/
def execFlowExport (rq : Request) (s : State) : Host.Outcome State Fault Refusal := .next (s.command rq cmdFlowExport)
/-- FLOW_CLEAR (R419). -/
def execFlowClear (rq : Request) (s : State) : Host.Outcome State Fault Refusal := .next (s.command rq cmdFlowClear)
/-- FLOW_NOTE (R522). -/
def execFlowNote (rq : Request) (s : State) : Host.Outcome State Fault Refusal := .next (s.command rq cmdFlowNote)

/-! ### Events -/

/-- The recorder runs: not before the firmware serves, nor after power is gone. -/
def State.flowRuns (s : State) : Bool := s.sys.phase == .serving

/-- FLOW_FLUSH_PERIODIC (R412): a flush starts 1 s after the previous one started. -/
def execFlowFlushPeriodic (s : State) : Host.Outcome State Fault Refusal :=
  .next (if s.flowRuns && s.since s.flow.flushAt (sec 1) then s.flushTrigger else s)

/-- The records of a flush are in the log body and no longer staged; FLUSH_COUNT rises and LAST_TS is
written (R357, R412, R414). (log 69) -/
def State.flushEnds (s : State) : State :=
  let f := s.flow.flushing.foldl Flow.place s.flow
  { s with
    flow := { f with staging := f.staging.drop f.flushing.length, flushing := [], flushOn := false,
                     flushRqs := [], stat := { f.stat with FLUSH_COUNT := sat f.stat.FLUSH_COUNT } },
    tm.lastTs := s.ts }

/-- FLOW_FLUSH_COMPLETE (R412): the flush ends, the requests that waited for it are answered, and a
trigger that came during it starts the next. -/
def execFlowFlushComplete (s : State) : Host.Outcome State Fault Refusal :=
  .next <|
    if s.flow.flushOn then
      let rqs := s.flow.flushRqs
      let again := s.flow.flushAgain
      let s := rqs.foldl (fun s rq => s.reply Cmd.flowFlush rq 0 []) s.flushEnds
      if again then s.flushTrigger else s
    else s

/-- The check of R415 over the log body: slots whose record fails its CRC, or that lie in an
uncorrectable block, become free and are counted. (log 149) -/
def Flow.scan (f : Flow) (bad : List Nat) (now : Nat) : Flow :=
  let kept := f.log.filter fun e => !bad.contains e.1 && e.2 == e.2.seal
  { f with log := kept, logBad := [], compactAt := now,
           stat := { f.stat with CRC_FREED := satAdd f.stat.CRC_FREED (f.log.length - kept.length) } }

/-- COMPACTION_PASS (R415): every 24 h, unless held at H1 and above or E1 and above. -/
def execCompactionPass (bad : List Nat) (s : State) : Host.Outcome State Fault Refusal :=
  .next <|
    if s.flowRuns && !s.compactHeld && s.since s.flow.compactAt (sec 86400) then
      { s with flow := s.flow.scan (bad ++ s.flow.logBad) s.now }
    else s

/-- EXPORT_TIMEOUT (R417): an export without a call for 60 s is released. -/
def execExportTimeout (s : State) : Host.Outcome State Fault Refusal :=
  .next <|
    match s.flow.exp with
    | some e => if s.since e.lastAt (sec 60) then { s with flow.exp := none } else s
    | none => s

/-- TASK_RECORD_MOVE (R410): what FLOW_REC calls the running task has made so far go to its queue, and the queue's oldest
entry goes to staging. (log 79) -/
def execTaskRecordMove (task : Fin 128) (calls : List TaskRec) (s : State) : Host.Outcome State Fault Refusal :=
  .next <|
    let s := if (s.task task).run == .running then calls.foldl (State.queueRecord · task) s else s
    match (s.task task).msgQueue with
    | [] => s
    | (ts, sev, code, payload) :: rest =>
      (s.setTask task fun k => { k with msgQueue := rest }).recordAt
        { sev := sev.toNat, code := 0x03C0 + code.toNat % 64, inst := task.val, payload := leBytes 32 payload.toNat } ts

end Sys2Proof.Machine
end

