-- ==== Sys2Proof/Machine/Boot.lean ====
section
/-! DEFINITION. Reset and boot (R436 to R446, R452 to R457, R485, R486, R501): what a reset flushes and keeps, the
ROM and firmware phases, and the firmware, start and boot-information commands. -/

namespace Sys2Proof.Machine

/-! ### The MRAM write buffer (R34) -/

/-- The oldest write of the buffer reaches MRAM; what is not RETAIN stands in its typed place already
(log 22). -/
def Grotto.drainOne (g : Grotto) : Grotto :=
  match g.wbuf with
  | [] => g
  | e :: r => { g with wbuf := r, retainMram := if e.region = .retain then g.retainMram.write e.off e.data else g.retainMram }

/-- The whole buffer drains, in grant order (R34). -/
def Grotto.drainAll (g : Grotto) : Grotto :=
  { g with wbuf := [], retainMram := g.wbuf.foldl (fun m e => if e.region = .retain then m.write e.off e.data else m) g.retainMram }

/-! ### What a reset keeps -/

/-- Flowstone after a reset: the log body, SEQ_RESERVED, PF_LOST and its sticky bit, the boot count and the descriptor are in
MRAM (R409, R413, R418). (log 70) -/
def Flow.afterReset (f : Flow) : Flow :=
  { Flow.init with
    act := f.act, desc := f.act, stat := { FlowStat.dflt with PF_LOST_SEEN := f.stat.PF_LOST_SEEN }, log := f.log, logBad := f.logBad, seqReserved := f.seqReserved, headSeq := f.seqReserved,
    bootCount := f.bootCount, pfLost := f.pfLost }

/-- The Grotto after a reset: the persistent copy of RETAIN, the firmware slots and what is known of bad
MRAM blocks: the working copy of such a block is lost, and with it the second copy (R33, R40). -/
def Grotto.afterReset (g : Grotto) : Grotto :=
  { Grotto.init with
    retainMram := g.retainMram, retainMramBad := g.retainMramBad, retainBad := g.retainBad || !g.retainMramBad.isEmpty,
    imageInvalid := g.imageInvalid }

/-- A current-loop channel after a reset: its trims and recorded mode are in MRAM, and its field side runs
on but sources 0 mA (R281, R289, R456). -/
def Aio.afterReset (a : Aio) : Aio :=
  { Aio.init with
    mramMode := a.mramMode, trimIn := a.trimIn, trimOut := a.trimOut, conv := a.conv, fieldCmd := a.fieldCmd,
    srcFault := a.srcFault, loopShort := a.loopShort, adcFault := a.adcFault }

/-- The isolation links after a reset: the field front-ends run on from VIN (R18, R437), and the logic side starts with
LOSS_COUNT unchanged (R23). (log 118, 120) -/
def Dio.afterReset (d : Dio) : Dio :=
  { Dio.init with
    link := d.link.map fun k => { Link.init with stat := { GroupStat.dflt with LOSS_COUNT := k.stat.LOSS_COUNT } },
    field := d.field, soKill := d.soKill, soWait := d.soWait, clock := d.clock }

/-- The plant network and time after a reset: the RTC, the leap-second offset, LAST_TS and the network
descriptor are kept, and the ports' links are the network's (R344, R357, R363). -/
def Time.afterReset (t : Time) : Time :=
  { Time.init with
    rtc := { t.rtc with shadow := none, shadowAt := 0 }, utcOffset := t.utcOffset, lastTs := t.lastTs, netDesc := t.netAct,
    netAct := t.netAct, ports := t.ports.map fun p => { NetPort.init with linkUp := p.linkUp } }

/-- The power and thermal monitor after a reset: E3_COUNT is in MRAM, HOLDUP_CAP is that of the last power-up, and its sensors are read on (R75,
R501). (log 71) -/
def Power.afterReset (p : Power) : Power :=
  { Power.init with
    stat := { PowerStat.dflt with E3_COUNT := p.stat.E3_COUNT, HOLDUP_CAP := p.stat.HOLDUP_CAP }, temps := p.temps, feedA := p.feedA, feedB := p.feedB,
    holdupReady := p.holdupReady, holdupWeak := p.holdupWeak, thermFault := p.thermFault }

/-- Start-up's own state after a reset: the system records, and the mode BOOT with every block held in
reset (R436, R438, R440, R443). -/
def Sys.afterReset (y : Sys) (cause : Nat) : Sys :=
  { Sys.init with
    resetCause := BitVec.ofNat 8 cause, bootFails := y.bootFails, clean := y.clean, lastMode := y.lastMode, slot := y.slot,
    preferred := y.preferred, versionFloor := y.versionFloor, trialStarted := y.trialStarted, runningSlot := y.runningSlot,
    stored := y.stored, startDesc := y.startDesc, startAct := y.startDesc, retainLayout := y.retainLayout, fatal := y.fatal,
    extended := y.extended, serial := y.serial, straps := y.straps, nrstIn := y.nrstIn }

/-- The host port after a reset: mailboxes and registers at their defaults, sessions closed; the session
descriptor and the anchors are in MRAM (R467, R470, R472, R479). -/
def HostPort.afterReset (h : HostPort) : HostPort :=
  { HostPort.init with
    sessDesc := h.sessDesc, sessAct := h.sessDesc, anchors := h.anchors, replies := h.replies, perst := h.perst,
    msiSent := h.msiSent }

/-- The panel after a reset: the journal, the level frame and the stored waveform set (R431). (log 70) -/
def Panel.afterReset (p : Panel) : Panel := { Panel.init with journal := p.journal, frame := p.frame, updSeq := p.updSeq }

/-- Every block at its reset value, with what MRAM, the backup domain and the field domain keep. (log 113) -/
def State.afterReset (s : State) (cause : Nat) : State :=
  { State.reset with
    gro := s.gro.afterReset, pow := s.pow.afterReset, isl := { Island.init with signed := s.isl.signed }, dio := s.dio.afterReset,
    aio := s.aio.map Aio.afterReset, tm := s.tm.afterReset,
    pr := { Pair.init with epoch := s.pr.epoch, peerOkIn := s.pr.peerOkIn }, flow := s.flow.afterReset, pnl := s.pnl.afterReset,
    sys := s.sys.afterReset cause, olc := { Change.init with cleared := if cause = 1 then 0 else s.olc.forces.length },
    host := s.host.afterReset, free := s.free, pending := s.pending }

/-! ### Reset entry (R437) -/

/-- A change that is under way is gone after a reset; where some of its tasks had switched and the package
went to MRAM with the program, the program is mixed (R140). (log 91) -/
def State.keepsMixed (s : State) : Bool :=
  s.olc.mixed || (match s.olc.info with
    | some p => p.toFlash && !s.olc.pendingTasks.isEmpty && s.olc.pendingTasks.length < p.tasks.length
    | none => false)

/-- A reset of cause 2, 4, 5 or 6 (R437): outputs killed, nFAULT asserted, the gate closed, staging flushed
and the buffer drained; then every block is held in reset. With the supervisor stopped the flush is not
guaranteed: how many records reach MRAM is a free value (log 13). (log 152) -/
def State.resetEntry (s : State) (cause : Nat) : State :=
  let s := { s.killAll with pr.peerOkOut := false, sys.nFault := true, gro.gateClosed := true }
  let s :=
    if s.sys.supervisorDead then
      let (v, s) := s.draw
      s.emergencyFlush (v.toNat % 65537)
    else s.endFlush.emergencyFlush 65536
  let mixed := s.keepsMixed
  let s := ({ s with gro := s.gro.drainAll }).afterReset cause
  { s with olc.mixed := mixed }

/-- NRST_IN_ASSERT (R436, R486): a reset of cause EXT; during a power-fail sequence the level is ignored
until stage 2 has ended. (log 68) -/
def execNrstInAssert (s : State) : Host.Outcome State Fault Refusal :=
  .next <|
    if s.sys.phase = .off || s.pow.pfStage ≠ .idle then { s with sys.nrstIn := true }
    else { s.resetEntry 2 with sys.nrstIn := true }

/-- BOOT_WATCHDOG_EXPIRE (R436): the firmware phase has lasted 5 s. -/
def execBootWatchdogExpire (s : State) : Host.Outcome State Fault Refusal :=
  .next (if s.sys.phase = .firmware && s.pow.pfStage = .idle && s.since s.sys.firmwareAt (sec 5) then s.resetEntry 4 else s)

/-- HALT_TIMER_EXPIRE (R436, R455): HALT has lasted HALT_RESTART_S; 0 never. -/
def execHaltTimerExpire (s : State) : Host.Outcome State Fault Refusal :=
  .next <|
    let n := s.sys.startAct.HALT_RESTART_S.toNat
    if s.sys.mode = .halt && s.pow.pfStage = .idle && n ≠ 0 && s.since s.sys.haltAt (sec n) then s.resetEntry 5 else s

/-- CLOCK_FAULT (R19, R437): outputs killed and nFAULT asserted; what staging and the write buffer hold is
lost, the reason is held in MRAM, and the module restarts through BOOT. -/
def execClockFault (s : State) : Host.Outcome State Fault Refusal :=
  .next <|
    if s.sys.phase = .off then s
    else
      let mixed := s.keepsMixed
      let s := ({ s with sys.fatal := some .clock }).afterReset 3
      { s with olc.mixed := mixed }

/-- POWER_ON_RESET (R436, R67): VIN has stood at or above 18.0 V for 100 ms after OFF or after the wait of the
power-fail sequence. After OFF the field front-ends start anew as well. (log 68) -/
def execPowerOnReset (s : State) : Host.Outcome State Fault Refusal :=
  .next <|
    if s.sys.phase = .off then
      let mixed := s.keepsMixed
      let s := s.afterReset 1
      { s with olc.mixed := mixed, dio := Dio.init, pow.holdupReady := false, pow.holdupWeak := false,
               aio := s.aio.map fun a => { Aio.init with mramMode := a.mramMode, trimIn := a.trimIn, trimOut := a.trimOut } }
    else if s.pow.pfStage = .wait && s.ran s.pow.waitOkSince (ms 100) then
      let mixed := s.keepsMixed
      { s.afterReset 1 with olc.mixed := mixed }
    else s

/-! ### Reset release and the ROM phase -/

/-- The lower operating limit of the variant in 1/16 °C: −25 °C, or −40 °C of the LF-800-EX (R500). (log 71) -/
def Sys.lowerLimit (y : Sys) : Int := if y.extended then -640 else -400

/-- Records of one layout, one after another. -/
def records (n : Nat) (bs : List Byte) : List Byte := (List.replicate n bs).flatten

/-- The record of a group before its first valid uplink frame, with the records of its AIO channels: every value reads BAD and
STALE, and the link waits for its re-arm (R23, R259, R286). -/
def unheardRecord : List Byte :=
  { GroupRec.dflt with VAL := Vector.replicate 8 0xA0#8, REARM_WAIT := 1#1 }.toBytes.take 32
    ++ records 4 { AioRec.dflt with QUAL := 10#4 }.toBytes

/-- IMAGE as the logic side starts with it: the four group records, and the axis, gear and encoder records at the defaults of
their layouts (R23, R272, R305, R317, R319). -/
def startImage (m : Memory) : Memory :=
  (((m.write 0x80 (records 4 unheardRecord)).write 0x280 (records 8 AxisStat.dflt.toBytes)).write 0x380 (records 8 GearRec.dflt.toBytes)).write
    0x400 (records 8 EncRec.dflt.toBytes)

/-- The module is released: the straps are sampled and the ROM phase starts; every mailbox is EMPTY
(R439, R467, R485), and no link has delivered a frame yet (R23). (log 152) -/
def State.release (s : State) (straps : Straps) : State :=
  { s with
    gro.mem := upd s.gro.mem 0 startImage,
    sys.phase := .rom, sys.straps := straps, sys.nrstIn := false, sys.coldHold := none, sys.releaseAt := s.now,
    host.mb := Vector.replicate 8 Mailbox.init }

/-- RESET_RELEASE (R439, R485, R501): below the lower limit of its variant, or without a valid sensor, the module
holds itself in reset instead. -/
def execResetRelease (straps : Straps) (s : State) : Host.Outcome State Fault Refusal :=
  .next <|
    if s.sys.phase = .held && s.pow.pfStage = .idle && !s.sys.romFault && s.sys.coldHold.isNone then
      match s.pow.startTemp with
      | some t => if s.sys.lowerLimit ≤ t then s.release straps else { s with sys.coldHold := some s.now }
      | none => { s with sys.coldHold := some s.now }
    else s

/-- COLD_START_HOLD_END (R501): the temperature has reached the lower limit. (log 71) -/
def execColdStartHoldEnd (straps : Straps) (s : State) : Host.Outcome State Fault Refusal :=
  .next <|
    if s.sys.phase = .held && s.sys.coldHold.isSome then
      match s.pow.startTemp with
      | some t => if s.sys.lowerLimit ≤ t then s.release straps else s
      | none => s
    else s

/-- COLD_START_HOLD_TIMEOUT (R501): 60 s of hold without a valid sensor; THERM_SENSOR_FAULT is set, and
RESET_CAUSE is POWER_ON. (log 71) -/
def execColdStartHoldTimeout (straps : Straps) (s : State) : Host.Outcome State Fault Refusal :=
  .next <|
    if s.sys.phase = .held && s.ran s.sys.coldHold (sec 60) && s.pow.startTemp.isNone then
      { s.release straps with pow.thermFault := true, sys.resetCause := 1#8 }
    else s

/-- ROM_FAULT_HOLD_END (R446): the fault of the ROM phase has been clear for 100 ms; BOOT starts again with its
earlier RESET_CAUSE, and the interrupted boot counts as unclean. (log 68, 155) -/
def execRomFaultHoldEnd (s : State) : Host.Outcome State Fault Refusal :=
  .next <|
    if s.sys.romFault && s.pow.pfStage = .idle then { s with sys.romFault := false, sys.phase := .rom, sys.clean := false, sys.releaseAt := s.now } else s

/-- The bytes of a firmware slot's image. -/
def FwSlot.bytes (x : FwSlot) : List Byte := x.image.read 0 x.len

/-- The other slot. -/
def otherSlot (i : Fin 2) : Fin 2 := if i = 0 then 1 else 0

/-- The slot may run: TRIAL or CONFIRMED. -/
def FwSlot.live (x : FwSlot) : Bool := x.state == .trial || x.state == .confirmed

/-- The slot's signature and digest verify and its version is not below the floor (R441). -/
def Sys.slotOk (y : Sys) (i : Fin 2) : Bool :=
  Config.firmwareVerifies (y.slot.get i).bytes && y.versionFloor.toNat ≤ (y.slot.get i).version.toNat

/-- A slot's state replaced. -/
def Sys.setSlot (y : Sys) (i : Fin 2) (st : FwState) : Sys := { y with slot := upd y.slot i fun x => { x with state := st } }

/-- A preferred image whose trial boot never ended is INVALID, and the other slot is preferred (R441,
R442). (log 154) -/
def Sys.dropTrial (y : Sys) : Sys :=
  if (y.slot.get y.preferred).state == .trial && y.trialStarted then
    { y.setSlot y.preferred .invalid with preferred := otherSlot y.preferred, trialStarted := false }
  else y

/-- One slot is tried: run it, or mark it INVALID where it fails (R441). (log 154) -/
def Sys.trySlot (y : Sys) (i : Fin 2) : Bool × Sys :=
  let x := y.slot.get i
  if x.live && y.slotOk i then (true, { y with trialStarted := y.trialStarted || x.state == .trial, runningSlot := i })
  else (false, if x.live then y.setSlot i .invalid else y)

/-- The ROM selects an image (R441): a slot in an uncorrectable block is INVALID first (R40). (log 154) -/
def Sys.selectImage (y : Sys) (bad : Vector Bool 2) : Bool × Sys :=
  let y := (idx 2).foldl (fun y i => if bad.get i then y.setSlot i .invalid else y) y
  let y := y.dropTrial
  let (a, y) := y.trySlot y.preferred
  if a then (true, y) else y.trySlot (otherSlot y.preferred)

/-- ROM_PHASE_END (R439, R441, R443): the firmware phase starts, BOOT_FAILS counts an unclean boot and CLEAN is
cleared; or ROM recovery is entered. HSR forwarding runs from within this phase on (R344). -/
def execRomPhaseEnd (s : State) : Host.Outcome State Fault Refusal :=
  .next <|
    if s.sys.phase = .rom then
      let (found, y) := s.sys.selectImage s.gro.imageInvalid
      let s := { s with sys := y, tm.forwarding := s.tm.netAct.NET_MODE == 1#8, tm.netAt := some s.now }
      if found then
        { s with
          sys.phase := .firmware, sys.firmwareAt := s.now, sys.nRstOut := false,
          sys.bootFails := if y.clean then y.bootFails else sat y.bootFails, sys.clean := false }
      else ({ s with sys.phase := .recovery }).setReason 3 0x0104
    else s

/-! ### The firmware phase -/

/-- The stored configuration is loaded (R439): descriptors as written and in force are those that the last
accepted ENABLE stored. (log 139, 153) -/
def State.loadConfig (s : State) (c : StoredCfg) : State :=
  { s with
    gro.desc := c.chambers, gro.act := c.chambers, pow.desc := c.power, pow.act := c.power,
    tk.task := Vector.ofFn fun i => { s.tk.task.get i with desc := c.tasks.get i },
    tk.remotes := c.remotes.map fun d => { Remote.init with desc := d },
    tk.image := c.image, tk.imageLen := c.imageLen, tk.prog := c.prog, olc.running := c.running,
    lp.loop := Vector.ofFn fun i => { s.lp.loop.get i with desc := c.loops.get i, bankA := (c.banks.get i).1, bankB := (c.banks.get i).2 },
    cru.slot := Vector.ofFn fun i => { s.cru.slot.get i with
      desc := c.slots.get i, qp := c.qps.get i, pattern := (c.patterns.get i).1, patternLen := (c.patterns.get i).2,
      state := (c.analyses.get i).1, info := (c.analyses.get i).2.1, qpInfo := (c.analyses.get i).2.2 },
    dio.desc := c.dio, dio.act := c.dio,
    aio := Vector.ofFn fun i => { s.aio.get i with desc := c.aio.get i, act := c.aio.get i },
    mot.axis := Vector.ofFn fun i => { s.mot.axis.get i with desc := c.axes.get i },
    mot.enc := Vector.ofFn fun i => { s.mot.enc.get i with desc := c.encs.get i },
    can.ctrl := Vector.ofFn fun i => { s.can.ctrl.get i with desc := c.cans.get i, filters := c.filters.get i },
    can.objects := c.objects, tm.ptpDesc := c.ptp, tm.ptpAct := c.ptp,
    tm.cmp := Vector.ofFn fun i => (s.tm.cmp.get i).arm (c.cmps.get i),
    tm.tci := Vector.ofFn fun i => { s.tm.tci.get i with desc := c.tcis.get i },
    pr.desc := c.pair, pr.act := c.pair, sys.configured := true }

/-- The panel descriptor and the waveform set of the last accepted ENABLE, which are MRAM system records and serve in MINIMAL
too (R432, R445). (log 151) -/
def State.loadPanel (s : State) (c : StoredCfg) : State :=
  { s with
    pnl.desc := c.panel, pnl.act := c.panel, pnl.waves := c.waves, pnl.wavesTo := if c.wavesOk then waveBytes else 0,
    pnl.wavesOk := c.wavesOk }

/-- The reason for MINIMAL, by the order of R444; 0 for none. (log 153) -/
def State.minimalReason (s : State) (cfgBad : Bool) : Nat :=
  if s.sys.straps.bootSafe then 0x0102
  else if 3 ≤ s.sys.bootFails.toNat then 0x0101
  else if cfgBad && s.sys.stored.isSome then 0x0103
  else 0

/-- The local clock starts FREE, from the RTC calendar, or from LAST_TS plus 1 s where OSF is set (R357). -/
def Time.bootClock (t : Time) : Time :=
  { t with
    baseTs := if t.rtc.osf then t.lastTs + 1000000000#64 else taiOf t.rtc.cal t.rtc.subsec t.utcOffset,
    baseCnt := t.c, rateQ48 := 0, clk := .free, timeValid := !t.rtc.osf }

/-- The log body is scanned, numbering resumes at SEQ_RESERVED + 1, and the boot is counted (R409, R415). -/
def Flow.boot (f : Flow) (now : Nat) : Flow :=
  let f := f.scan f.logBad now
  { f with headSeq := f.seqReserved, seqReserved := f.seqReserved + 65536, bootCount := f.bootCount + 1, flushAt := now }

/-- The payload of EVT_BOOT (R521). -/
def State.bootPayload (s : State) (minReason : Nat) : List Byte :=
  leBytes 1 s.sys.resetCause.toNat ++ leBytes 1 s.sys.bootFails.toNat ++ leBytes 2 minReason ++ leBytes 4 0
    ++ leBytes 8 (s.flow.headSeq + 1) ++ leBytes 8 s.flow.flushedSeq ++ leBytes 4 s.fwVersion.toNat

/-- A trial image is confirmed at the end of its firmware phase, and the floor rises to its FLOOR (R442). (log 154) -/
def Sys.confirm (y : Sys) : Sys :=
  let x := y.slot.get y.runningSlot
  if x.state == .trial then
    { y.setSlot y.runningSlot .confirmed with
      trialStarted := false, trial := true, versionFloor := if y.versionFloor.toNat < x.floor.toNat then x.floor else y.versionFloor }
  else y

/-- FIRMWARE_PHASE_END (R357, R409, R415, R432, R439, R442 to R445): clock, log, EVT_BOOT, a held fatal reason,
the stored configuration, the trial's confirmation, and STOP or MINIMAL with CLEAN set. (log 87, 153, 158) -/
def execFirmwarePhaseEnd (cfgBad : Bool) (fit : ModuleId) (s : State) : Host.Outcome State Fault Refusal :=
  .next <|
    if s.sys.phase = .firmware then
      let why := s.minimalReason cfgBad
      let s := { s with
        sys.serial := fit.serial, sys.extended := fit.extended, sys.bootLastMode := s.sys.lastMode,
        sys.phase := .serving, tm := s.tm.bootClock, flow := s.flow.boot s.now }
      let s := { s with sys.bootTs := s.stampAt (s.now - s.sys.releaseAt) 0 }
      let s := s.stageAt { sev := 1, code := 0x0110, payload := s.bootPayload why } s.ts
      let s := match s.sys.fatal with
        | some c => { s.event 7 0x0113 0xFF 0 0 c.detail with sys.fatal := none }
        | none => s
      let s := if s.pow.thermFault then s.event 4 0x0F91 0xFF 0 0 else s
      let s := match s.sys.stored with
        | some c => (if why = 0 then s.loadConfig c else s).loadPanel c
        | none => s
      let s := s.journalRedraw
      let s := if s.tm.rtc.alarmFlag || s.tm.rtc.wakeFlag then s.raise irqTimeEvent else s
      let s := { s.record { sev := 2, code := 0x0480, payload := evData s.olc.cleared 0 (4 * 2 ^ 32) } with olc.cleared := 0 }
      let s := { s with
        sys := s.sys.confirm, isl.pending := none }
      let s := { s with
        sys.clean := true, sys.minReason := BitVec.ofNat 16 why, sys.configured := s.sys.configured && why == 0,
        sys.bootMs := BitVec.ofNat 32 ((s.now - s.sys.releaseAt) / ms 1) }
      if why = 0 then { (s.setMode .stop).canModes with sys.nFault := false }
      else ((s.setMode .minimal).event 4 why 0xFF 0 0).setReason 2 why
    else s

/-! ### Firmware and start commands -/

/-- The slot that is not running (R442). (log 165) -/
def Sys.loadSlot (y : Sys) : Fin 2 := otherSlot y.runningSlot

/-- SYS_FW_LOAD writes a part of an image into the slot that is not running, which becomes EMPTY (R442). The slot
is half of the FW region (R33); a part that would run past it is not written (log 23). (log 154) -/
def cmdSysFwLoad (rq : Request) (s : State) : State :=
  serve Cmd.sysFwLoad rq s fun s =>
    let off := rq.u32 0
    let data := rq.payload.drop 4
    let keep := data.take (16 * 1048576 - off)
    .done { s with
      sys.slot := upd s.sys.slot s.sys.loadSlot fun x =>
        { x with state := .empty, version := 0#32, floor := 0#32, image := x.image.write off keep, len := if off = 0 then keep.length else max x.len (off + keep.length) },
      gro.imageInvalid := put s.gro.imageInvalid s.sys.loadSlot false } []

/-- SYS_FW_ACTIVATE verifies the image, marks it TRIAL and PREFERRED and clears TRIAL_STARTED (R442, R458). (log 165) -/
def cmdSysFwActivate (rq : Request) (s : State) : State :=
  serve Cmd.sysFwActivate rq s fun s =>
    let i := s.sys.loadSlot
    let b := (s.sys.slot.get i).bytes
    refuseIf (!Config.firmwareVerifies b) 0x0125 0xFFFF <|
    refuseIf ((Config.firmwareVersion b).toNat < s.sys.versionFloor.toNat) 0x0126 0xFFFF <|
    refuseIf ((s.sys.slot.get i).state == .trial) 0x0127 0xFFFF <|
      .done { s with
        sys.slot := upd s.sys.slot i fun x => { x with state := .trial, version := Config.firmwareVersion b, floor := Config.firmwareFloor b },
        sys.preferred := i, sys.trialStarted := false } []

/-- The start descriptor's fields lie in their ranges (R455). -/
def StartDesc.inRange (d : StartDesc) : Bool := d.START_MODE.toNat ≤ 3 && d.HALT_RESTART_S.toNat ≤ 3600

/-- SYS_START_SET writes the start descriptor, for the next boot (R455, R458). -/
def cmdSysStartSet (rq : Request) (s : State) : State :=
  serve Cmd.sysStartSet rq s fun s =>
    let d := StartDesc.ofBytes rq.payload
    refuseIf (!d.inRange) 0x0129 0xFFFF (.done { s with sys.startDesc := d } [])

/-- SYS_START_GET reads the start descriptor (R455). -/
def cmdSysStartGet (rq : Request) (s : State) : State := serve Cmd.sysStartGet rq s fun s => .done s s.sys.startDesc.toBytes

/-- The boot information (R457). -/
def State.bootInfo (s : State) : BootInfo :=
  let y := s.sys
  { BootInfo.dflt with
    RESET_CAUSE := y.resetCause, BOOT_FAILS := y.bootFails, MIN_REASON := y.minReason, CONFIGURED := BitVec.ofNat 1 (bit y.configured),
    CLEAN := BitVec.ofNat 1 (bit y.clean), RUNNING_SLOT := BitVec.ofNat 1 y.runningSlot.val, TRIAL := BitVec.ofNat 1 (bit y.trial),
    LAST_MODE := y.lastMode, STATE_A := BitVec.ofNat 4 (y.slot.get 0).state.num, STATE_B := BitVec.ofNat 4 (y.slot.get 1).state.num,
    VERSION_A := (y.slot.get 0).version, VERSION_B := (y.slot.get 1).version, VERSION_FLOOR := y.versionFloor,
    BOOT_MS := y.bootMs, BOOT_TS := y.bootTs }

/-- SYS_BOOT_INFO reads the boot information (R457). -/
def cmdSysBootInfo (rq : Request) (s : State) : State := serve Cmd.sysBootInfo rq s fun s => .done s s.bootInfo.toBytes

/-- SYS_RESTART is accepted (R443, R470): CLEAN is set, KIND 1 clears BOOT_FAILS, and the reset is to follow. Any
other KIND restarts as KIND 0 (log 24). -/
def acceptRestart (rq : Request) (s : State) : State :=
  serve Cmd.sysRestart rq s fun s =>
    .done { s with
      sys.clean := true, sys.bootFails := if rq.u8 0 = 1 then 0#8 else s.sys.bootFails, sys.resetPending := some 6#8 } []

/-- SYS_RESTART (R436, R437, R470): the reply, then the reset of cause COMMAND; the mailbox holds the reply until
reset release. (log 152) -/
def cmdSysRestart (rq : Request) (s : State) : State :=
  let s := acceptRestart rq s
  if s.sys.resetPending.isSome then
    let mb := s.host.mb
    { s.resetEntry 6 with host.mb := mb }
  else s

/-- SYS_FW_LOAD (R442). -/
def execSysFwLoad (rq : Request) (s : State) : Host.Outcome State Fault Refusal := .next (s.command rq cmdSysFwLoad)
/-- SYS_FW_ACTIVATE (R442). -/
def execSysFwActivate (rq : Request) (s : State) : Host.Outcome State Fault Refusal := .next (s.command rq cmdSysFwActivate)
/-- SYS_START_SET (R455). -/
def execSysStartSet (rq : Request) (s : State) : Host.Outcome State Fault Refusal := .next (s.command rq cmdSysStartSet)
/-- SYS_START_GET (R455). -/
def execSysStartGet (rq : Request) (s : State) : Host.Outcome State Fault Refusal := .next (s.command rq cmdSysStartGet)
/-- SYS_BOOT_INFO (R457). -/
def execSysBootInfo (rq : Request) (s : State) : Host.Outcome State Fault Refusal := .next (s.command rq cmdSysBootInfo)
/-- SYS_RESTART (R437). -/
def execSysRestart (rq : Request) (s : State) : Host.Outcome State Fault Refusal := .next (s.command rq cmdSysRestart)

/-! ### Faults that end in HALT, and the run timer -/

/-- A logic-rail fault or a thermal trip (R56, R70, R446): HALT with the supervisor stopped; in the ROM phase every
block is held in reset instead. -/
def State.supervisorFatal (s : State) (c : FatalCause) : State :=
  match s.sys.phase with
  | .rom | .recovery => { s with sys.romFault := true, sys.phase := .held }
  | .firmware | .serving => if s.sys.mode = .halt then s else s.enterHalt c true
  | .off | .held => s

/-- LOGIC_RAIL_FAULT (R56). (log 155) -/
def execLogicRailFault (rail : Nat) (s : State) : Host.Outcome State Fault Refusal := .next (s.supervisorFatal (.rail rail))

/-- THERMAL_TRIP (R70): a die average has stood at or above 125 °C for 1 ms. (log 72, 155) -/
def execThermalTrip (s : State) : Host.Outcome State Fault Refusal :=
  .next (if s.ran s.pow.die125Since (ms 1) then s.supervisorFatal .thermal else s)

/-- BOOT_FAILS_CLEAR (R443): after 60 s of continuous RUN. -/
def execBootFailsClear (s : State) : Host.Outcome State Fault Refusal :=
  .next (if s.sys.mode = .run && s.since s.sys.runAt (sec 60) then { s with sys.bootFails := 0#8 } else s)

/-- HOLDUP_DEPLETED (R67, R446): VIN has fallen below 8.0 V during the wait, and the module is OFF. -/
def execHoldupDepleted (s : State) : Host.Outcome State Fault Refusal :=
  .next (if s.pow.pfStage = .wait then { s with sys.mode := .off, sys.phase := .off, pow.pfStage := .idle } else s)

end Sys2Proof.Machine
end

