-- ==== Sys2Proof/Machine/Can.lean ====
section
/-! DEFINITION. The CAN FD controllers (R322 to R340): their commands, receipt into rings and objects, transmission, error
confinement, bus-off, and references. -/

namespace Sys2Proof.Machine

/-- A controller changed. -/
def State.setCan (s : State) (c : Fin 4) (f : CanCtrl → CanCtrl) : State := { s with can.ctrl := upd s.can.ctrl c f }

/-- The statistics of a controller changed. -/
def State.canStat (s : State) (c : Fin 4) (f : CanStat → CanStat) : State := s.setCan c fun x => { x with stat := f x.stat }

/-! ### Commands -/

/-- Every field of a controller descriptor lies in its range (R335). -/
def CanDesc.ok (d : CanDesc) : Bool :=
  d.MODE.toNat ≤ 2 && d.TIME_ROLE.toNat ≤ 2 && between 1 d.NBRP.toNat 32 && between 2 d.NTSEG1.toNat 128 && between 2 d.NTSEG2.toNat 64
    && between 1 d.NSJW.toNat d.NTSEG2.toNat && between 1 d.DBRP.toNat d.NBRP.toNat && between 1 d.DTSEG1.toNat 32
    && between 1 d.DTSEG2.toNat 16 && between 1 d.DSJW.toNat d.DTSEG2.toNat && d.TDCO.toNat ≤ 127 && d.BUSOFF_POLICY.toNat ≤ 1
    && d.BOFF_HOLD_MS.toNat ≤ 60000 && between 1000 d.REF_PERIOD_US.toNat 1000000

/-- CAN_CTRL_SET (R335). -/
def cmdCanCtrlSet (rq : Request) (s : State) : State :=
  serve Cmd.canCtrlSet rq s fun s =>
    let d := CanDesc.ofBytes rq.payload
    match asFin 4 d.CTRL_ID.toNat with
    | none => .refuse 0x0A01 d.CTRL_ID.toNat 0
    | some c => refuseIf (!d.ok) 0x0A01 c.val (.done (s.setCan c fun x => { x with desc := d }) [])

/-- CAN_CTRL_SET (R335). -/
def execCanCtrlSet (rq : Request) (s : State) : Host.Outcome State Fault Refusal := .next (s.command rq cmdCanCtrlSet)

/-- CAN_CTRL_GET (R335). -/
def cmdCanCtrlGet (rq : Request) (s : State) : State :=
  serve Cmd.canCtrlGet rq s fun s =>
    match asFin 4 (rq.u8 0) with
    | none => .refuse 0x0A01 (rq.u8 0) 0
    | some c => .done s { (s.can.ctrl.get c).desc with CTRL_ID := BitVec.ofNat 8 c.val }.toBytes

/-- CAN_CTRL_GET (R335). -/
def execCanCtrlGet (rq : Request) (s : State) : Host.Outcome State Fault Refusal := .next (s.command rq cmdCanCtrlGet)

/-- CAN_FILTER_SET (R336). -/
def cmdCanFilterSet (rq : Request) (s : State) : State :=
  serve Cmd.canFilterSet rq s fun s =>
    let d := CanFilter.ofBytes rq.payload
    match asFin 4 d.CTRL_ID.toNat, asFin 64 d.FILT_NO.toNat with
    | some c, some f =>
      refuseIf (!(between 1 d.DEPTH.toNat 8) || 2 ^ 29 ≤ d.FILT_ID.toNat || 2 ^ 29 ≤ d.MASK.toNat) 0x0A01 c.val
        (.done (s.setCan c fun x => { x with filters := put x.filters f d }) [])
    | _, _ => .refuse 0x0A01 d.CTRL_ID.toNat 0

/-- CAN_FILTER_SET (R336). -/
def execCanFilterSet (rq : Request) (s : State) : Host.Outcome State Fault Refusal := .next (s.command rq cmdCanFilterSet)

/-- Every field of an object entry lies in its range (R336): a code above 8 needs an FD frame. -/
def CanObject.ok (d : CanObject) : Bool :=
  d.OBJ_NO.toNat ≤ 2047 && d.CTRL_ID.toNat ≤ 3 && d.DIR.toNat ≤ 2 && d.ID.toNat % 2 ^ 31 < 2 ^ 29
    && (d.DIR != 2#8 || d.DLC.toNat ≤ (if d.FDF == 1#1 then 15 else 8))

/-- The object table with one entry written, in the order of OBJ_NO; an unused entry is taken out. -/
def objectPut : List CanObject → CanObject → List CanObject
  | [], d => if d.DIR == 0#8 then [] else [d]
  | o :: r, d =>
    if o.OBJ_NO == d.OBJ_NO then (if d.DIR == 0#8 then r else d :: r)
    else if d.OBJ_NO.toNat < o.OBJ_NO.toNat then (if d.DIR == 0#8 then o :: r else d :: o :: r)
    else o :: objectPut r d

/-- CAN_OBJECT_SET (R336); the table holds 2048 objects (R340). -/
def cmdCanObjectSet (rq : Request) (s : State) : State :=
  serve Cmd.canObjectSet rq s fun s =>
    let d := CanObject.ofBytes rq.payload
    let l := objectPut s.can.objects d
    refuseIf (!d.ok) 0x0A01 d.CTRL_ID.toNat <|
    refuseIf (2048 < l.length) 0x0A06 d.CTRL_ID.toNat <| .done { s with can.objects := l } []

/-- CAN_OBJECT_SET (R336). -/
def execCanObjectSet (rq : Request) (s : State) : Host.Outcome State Fault Refusal := .next (s.command rq cmdCanObjectSet)

/-- CAN_RECOVER starts the wait and clears BOFF_LOCKED (R330). -/
def cmdCanRecover (rq : Request) (s : State) : State :=
  serve Cmd.canRecover rq s fun s =>
    match asFin 4 (rq.u8 0) with
    | none => .refuse 0x0A01 (rq.u8 0) 0
    | some c =>
      let x := s.can.ctrl.get c
      refuseIf (x.state != .busOff && !x.boffLocked) 0x0A03 c.val
        (.done (s.setCan c fun x => { x with boffLocked := false, recovering := x.state == .busOff }) [])

/-- CAN_RECOVER (R330). -/
def execCanRecover (rq : Request) (s : State) : Host.Outcome State Fault Refusal := .next (s.command rq cmdCanRecover)

/-- The controller status (R339): TEC reads 255 in bus-off. -/
def CanCtrl.status (x : CanCtrl) : List Byte :=
  x.stat.toBytes (STATE := x.state.num) (BOFF_LOCKED := bit x.boffLocked) (RECOVERING := bit x.recovering)
    (RESTRICTED := bit (x.mode == .restricted)) (WARN := bit (96 ≤ x.tecCount || 96 ≤ x.recCount))
    (TEC := min 255 x.tecCount) (REC := min 255 x.recCount)

/-- CAN_STATUS (R339). -/
def cmdCanStatus (rq : Request) (s : State) : State :=
  serve Cmd.canStatus rq s fun s =>
    match asFin 4 (rq.u8 0) with
    | none => .refuse 0x0A01 (rq.u8 0) 0
    | some c => .done s (s.can.ctrl.get c).status

/-- CAN_STATUS (R339). -/
def execCanStatus (rq : Request) (s : State) : Host.Outcome State Fault Refusal := .next (s.command rq cmdCanStatus)

/-- Bytes of data that a DLC stands for (R337). -/
def dlcBytes (dlc : Nat) (fdf : Bool) : Nat :=
  if dlc ≤ 8 then dlc
  else if !fdf then 8
  else match dlc with
  | 9 => 12 | 10 => 16 | 11 => 20 | 12 => 24 | 13 => 32 | 14 => 48 | _ => 64

/-- The first `n` bytes of the data, the rest 0. -/
def keepData (d : BitVec 512) (n : Nat) : BitVec 512 := BitVec.ofNat 512 (d.toNat % 2 ^ (8 * n))

/-- Two identifiers with IDE agree, whatever RTR says (R324). -/
def sameId (a b : BitVec 32) : Bool := a &&& 0x9FFFFFFF#32 == b &&& 0x9FFFFFFF#32

/-- The frame record of CAN_TX_ONCE can be sent by this controller: a code within its frame's kind, an FD frame only with
FD_EN, and no remote frame (R322, R337). (log 133) -/
def FrameRec.sendable (r : FrameRec) (d : CanDesc) : Bool :=
  r.ID.toNat % 2 ^ 31 < 2 ^ 29 && r.DLC.toNat ≤ (if r.FDF == 1#1 then 15 else 8) && (r.FDF == 0#1 || d.FD_EN == 1#1)

/-- CAN_TX_ONCE queues one frame (R327, R340). -/
def cmdCanTxOnce (rq : Request) (s : State) : State :=
  serve Cmd.canTxOnce rq s fun s =>
    match asFin 4 (rq.u8 0) with
    | none => .refuse 0x0A01 (rq.u8 0) 0
    | some c =>
      let r := FrameRec.ofBytes (rq.payload.drop 4)
      let x := s.can.ctrl.get c
      refuseIf (!r.sendable x.desc) 0x0A01 c.val <|
      refuseIf (s.can.objects.any fun o => o.CTRL_ID.toNat == c.val && o.DIR == 2#8 && sameId o.ID r.ID) 0x0A04 c.val <|
      refuseIf (x.mode != .normal || x.state == .busOff || x.state == .off || 16 ≤ x.queue.length) 0x0A05 c.val <|
        let f : CanFrame := { id := r.ID, dlc := r.DLC.setWidth 4, fdf := r.FDF == 1#1, brs := r.BRS == 1#1, esi := false, res := false,
                              data := keepData r.DATA (dlcBytes r.DLC.toNat (r.FDF == 1#1)) }
        .done (s.setCan c fun x => { x with queue := x.queue ++ [f] }) []

/-- CAN_TX_ONCE (R327). -/
def execCanTxOnce (rq : Request) (s : State) : Host.Outcome State Fault Refusal := .next (s.command rq cmdCanTxOnce)

/-- The counters and sticky bits cleared (R339). (log 134) -/
def CanStat.cleared (x : CanStat) : CanStat :=
  { x with
    PROT_EXC_SEEN := 0#1, HP_OVERRUN_SEEN := 0#1, TDC_LONG := 0#1, RX_FRAMES := 0#32, TX_FRAMES := 0#32, BUSOFF_COUNT := 0#16,
    PASSIVE_COUNT := 0#16, LOST_COUNT := 0#16, UNMATCHED_COUNT := 0#16, TX_REPLACED := 0#16, HP_OVERRUN := 0#16 }

/-- CAN_CLEAR (R339). -/
def cmdCanClear (rq : Request) (s : State) : State :=
  serve Cmd.canClear rq s fun s =>
    if rq.u8 0 = 255 then .done { s with can.ctrl := s.can.ctrl.map fun (x : CanCtrl) => { x with stat := x.stat.cleared } } []
    else match asFin 4 (rq.u8 0) with
    | none => .refuse 0x0A01 (rq.u8 0) 0
    | some c => .done (s.canStat c CanStat.cleared) []

/-- CAN_CLEAR (R339). -/
def execCanClear (rq : Request) (s : State) : Host.Outcome State Fault Refusal := .next (s.command rq cmdCanClear)

/-! ### Error confinement (R329, R330) -/

/-- The state that the counters give (R329). -/
def canStateOf (tec rc : Nat) : CanState := if 255 < tec then .busOff else if 128 ≤ tec || 128 ≤ rc then .passive else .active

/-- Bus-off begins (R330): what was read goes back, the queue is discarded, and the limit is checked. -/
def CanCtrl.busOff (x : CanCtrl) (now : Nat) : CanCtrl :=
  let times := (x.boffTimes.filter fun t => now < t + sec 60) ++ [now]
  { x.unread with
    state := .busOff, queue := [], refPending := none, boffAt := now, recovering := false, boffTimes := times,
    boffLocked := x.boffLocked || (x.desc.BOFF_LIMIT != 0#8 && decide (x.desc.BOFF_LIMIT.toNat ≤ times.length)),
    stat := { x.stat with BUSOFF_COUNT := sat x.stat.BUSOFF_COUNT, MASTER_ACTIVE := 0#1 } }

/-- The counters take new values, and the state follows with its record (R329); both stand in restricted operation
(R331). -/
def State.canCount (s : State) (c : Fin 4) (tec rc : Nat) : State :=
  let x := s.can.ctrl.get c
  if x.mode != .normal then s
  else
    let rc' := min rc 255
    let new := canStateOf tec rc'
    let s := s.setCan c fun x => { x with tecCount := tec, recCount := rc' }
    if new = x.state then s
    else
      let s := s.setCan c fun (x : CanCtrl) =>
        match new with
        | .busOff => x.busOff s.now
        | .passive => { x with state := .passive, stat := { x.stat with PASSIVE_COUNT := sat x.stat.PASSIVE_COUNT } }
        | _ => { x with state := new }
      s.event (match new with | .busOff => 4 | .passive => 3 | _ => 2) 0x0A80 c.val x.state.num new.num

/-- The controller takes part on the bus: not off, and not in bus-off (R329). -/
def CanCtrl.onBus (x : CanCtrl) : Bool := x.mode != .off && x.state != .busOff && x.state != .off

/-! ### Receiving (R324 to R326) -/

/-- A used filter takes a frame (R324). -/
def CanFilter.takes (d : CanFilter) (f : CanFrame) : Bool :=
  d.USED == 1#1 && ((f.id ^^^ d.FILT_ID) &&& d.MASK &&& 0x1FFFFFFF#32) == 0#32 && f.id.getLsbD 31 == (d.IDE == 1#1)
    && (d.FDF_CARE == 0#1 || f.fdf == (d.FDF == 1#1))

/-- The record of a received frame (R326, R337): GOOD; a remote frame carries no data. -/
def frameRecord (f : CanFrame) (seq : BitVec 16) (lost : Bool) (ts : BitVec 64) : FrameRec :=
  { FrameRec.dflt with
    ID := f.id &&& 0xDFFFFFFF#32, DLC := f.dlc.setWidth 8, QUAL := 0#4, LOST := BitVec.ofNat 1 (bit lost), ESI := BitVec.ofNat 1 (bit f.esi),
    BRS := BitVec.ofNat 1 (bit f.brs), FDF := BitVec.ofNat 1 (bit f.fdf), SEQ := seq, TS := ts,
    DATA := if f.id.getLsbD 30 then 0#512 else keepData f.data (dlcBytes f.dlc.toNat f.fdf) }

/-- A frame enters the ring of a filter (R325): record, then ring line, then the trigger of its event task. (log 134) -/
def State.canRing (s : State) (c : Fin 4) (k : Fin 64) (f : CanFrame) (ts : BitVec 64) : State :=
  let off := canRingOff c.val k.val
  let m := s.gro.mem.get 5
  let line := RingLine.ofBytes (m.read off 64)
  let depth := (((s.can.ctrl.get c).filters.get k).DEPTH).toNat
  let lapped : Bool := depth ≤ (line.WR_SEQ - line.RD_SEQ).toNat
  let seq := line.WR_SEQ + 1
  let m := m.write (off + 0x80 + 0x80 * (line.WR_SEQ.toNat % depth)) ((frameRecord f (seq.setWidth 16) lapped ts).toBytes)
  let line := { line with WR_SEQ := seq, LAST_TS := ts, RING_OVR := if lapped then sat line.RING_OVR else line.RING_OVR }
  let s := s.setMem 5 (m.write off (line.toBytes.take 32))
  let s := if lapped then s.canStat c fun y => { y with HP_OVERRUN := sat y.HP_OVERRUN, HP_OVERRUN_SEEN := 1#1 } else s
  s.trigger 2 fun a => a % 64 == k.val && a / 256 % 4 == c.val

/-- A frame enters its receive object (R326). (log 135) -/
def State.canReceive (s : State) (c : Fin 4) (o : CanObject) (f : CanFrame) (ts : BitVec 64) : State :=
  let off := canObjOff o.OBJ_NO.toNat
  let m := s.gro.mem.get 5
  let old := FrameRec.ofBytes (m.read off 128)
  let lost := old.RS_SEQ != old.SEQ
  let s := s.setMem 5 (m.write off ((frameRecord f (old.SEQ + 1) lost ts).toBytes.take 80))
  if lost then s.canStat c fun y => { y with LOST_COUNT := sat y.LOST_COUNT } else s

/-- The receive object of a frame (R324). -/
def State.canObjectFor (s : State) (c : Fin 4) (f : CanFrame) : Option CanObject :=
  s.can.objects.find? fun o => o.DIR == 1#8 && o.CTRL_ID.toNat == c.val && sameId o.ID f.id

/-- A frame is a reference message of the family that REF_ID names (R333): classical, with its byte. -/
def CanFrame.refersTo (f : CanFrame) (ref : BitVec 32) : Bool :=
  !f.fdf && !f.id.getLsbD 30 && 1 ≤ f.dlc.toNat && (f.id &&& 0x9FFFFFF8#32) == (ref &&& 0x9FFFFFF8#32)

/-- What a reference does to a controller (R333): a follower takes it; a master that hears a lower REF_ID is silent.
(log 131, 135) -/
def CanCtrl.hear (x : CanCtrl) (f : CanFrame) (ts : BitVec 64) (now : Nat) : CanCtrl :=
  if !f.refersTo x.desc.REF_ID then x
  else if x.desc.TIME_ROLE == 2#8 then
    { x with refAt := some now, lastRefTs := ts,
             stat := { x.stat with REF_LOST := 0#1, CYCLE_COUNT := (f.data.setWidth 6).setWidth 8 } }
  else if x.desc.TIME_ROLE == 1#8 && f.id.toNat % 8 < x.desc.REF_ID.toNat % 8 then
    { x with refAt := some now, refPending := none, stat := { x.stat with MASTER_ACTIVE := 0#1 } }
  else x

/-- REC after a frame received without error, as ISO 11898-1 lays down: one less, or from the error-passive range to a
value from 119 to 127, a free value (R329). (log 131) -/
def State.recAfter (s : State) (rc : Nat) : Nat × State :=
  if rc < 128 then (rc - 1, s) else let (v, s) := s.draw; (119 + v.toNat % 9, s)

/-- A frame received is counted, and heard as a reference (R333, R339). (log 131) -/
def CanCtrl.count (x : CanCtrl) (f : CanFrame) (ts : BitVec 64) (now : Nat) : CanCtrl :=
  { x.hear f ts now with stat := { (x.hear f ts now).stat with RX_FRAMES := sat x.stat.RX_FRAMES } }

/-- A frame goes to the first filter that takes it, else to its receive object, else nowhere (R324). (log 132) -/
def State.canPlace (s : State) (c : Fin 4) (f : CanFrame) (ts : BitVec 64) : State :=
  match (idx 64).find? fun k => ((s.can.ctrl.get c).filters.get k).takes f with
  | some k => s.canRing c k f ts
  | none =>
    match s.canObjectFor c f with
    | some o => s.canReceive c o f ts
    | none => s.canStat c fun y => { y with UNMATCHED_COUNT := sat y.UNMATCHED_COUNT }

/-- A valid frame is filtered into a ring or an object, or discarded (R324, R331). An FD frame that the controller does not
take part in is a protocol exception (R322). -/
def execCanFrameReceive (ctrl : Fin 4) (f : CanFrame) (age : Nat) (phase : Fin 8) (s : State) : Host.Outcome State Fault Refusal :=
  let x := s.can.ctrl.get ctrl
  .next <|
    if !x.onBus then s
    else if f.fdf && (x.desc.FD_EN == 0#1 || f.res) then
      if x.desc.PROT_EXC == 1#1 then s.canStat ctrl fun y => { y with PROT_EXC_SEEN := 1#1 } else s
    else
      let ts := s.stampAt age phase
      let (rc, s) := s.recAfter x.recCount
      let s := s.canCount ctrl x.tecCount rc
      (s.setCan ctrl fun x => x.count f ts s.now).canPlace ctrl f ts

/-- The object's last receipt is older than TIMEOUT_MS: STALE in QUAL (R326). -/
def State.canScan (s : State) (o : CanObject) : State :=
  let off := canObjOff o.OBJ_NO.toNat
  let m := s.gro.mem.get 5
  if o.DIR == 1#8 && o.TIME_MS != 0#16 && m.num (off + 8) 8 + 1000000 * o.TIME_MS.toNat < s.ts.toNat then
    s.setMem 5 (m.set (off + 5) (m.get (off + 5) ||| 0x80#8))
  else s

/-- Every 1 ms the controllers scan their receive objects (R326). -/
def execCanReceiveTimeoutScan (s : State) : Host.Outcome State Fault Refusal :=
  .next ((s.can.objects.filter fun o => match asFin 4 o.CTRL_ID.toNat with
    | some c => (s.can.ctrl.get c).mode != .off
    | none => false).foldl State.canScan s)

/-! ### Transmitting (R327, R328) -/

/-- The transmit object of a controller with a number. -/
def State.txObject (s : State) (c : Fin 4) (k : BitVec 16) : Option CanObject :=
  s.can.objects.find? fun o => o.OBJ_NO == k && o.CTRL_ID.toNat == c.val && o.DIR == 2#8

/-- An object with ON_PERIOD becomes pending every TX_PERIOD_MS (R327). -/
def execCanTxPeriod (ctrl : Fin 4) (obj : BitVec 16) (s : State) : Host.Outcome State Fault Refusal :=
  let x := s.can.ctrl.get ctrl
  .next <|
    match s.txObject ctrl obj with
    | some o =>
      if s.inRun && x.mode != .off && o.ON_PERIOD == 1#1 && o.TIME_MS != 0#16 && s.since ((x.txAt.lookup obj).getD 0) (ms o.TIME_MS.toNat) then
        s.setCan ctrl fun x => { x with pendingTx := x.pendingTx.insert obj, txAt := assocPut x.txAt obj s.now }
      else s
    | none => s

/-- Rank of an identifier on the bus: its eleven high bits, then a base before an extended one, then the low bits
(R327). (log 132) -/
def idRank (id : BitVec 32) : Nat :=
  if id.getLsbD 31 then (id.toNat % 2 ^ 29 / 2 ^ 18) * 2 ^ 19 + 2 ^ 18 + id.toNat % 2 ^ 18 else id.toNat % 2 ^ 11 * 2 ^ 19

/-- What an object sends (R328, R336): its entry's identifier, kind and code with the content of its record. (log 133) -/
def State.objectFrame (s : State) (o : CanObject) : FrameRec :=
  let off := canObjOff o.OBJ_NO.toNat
  let r := FrameRec.ofBytes ((s.gro.mem.get 5).read off 128)
  { r with ID := o.ID, DLC := o.DLC, FDF := o.FDF, BRS := o.BRS, DATA := keepData r.DATA (dlcBytes o.DLC.toNat (o.FDF == 1#1)) }

/-- The frame record of a queued frame. (log 133) -/
def CanFrame.toRec (f : CanFrame) : FrameRec :=
  { FrameRec.dflt with
    ID := f.id, DLC := f.dlc.setWidth 8, QUAL := 0#4, FDF := BitVec.ofNat 1 (bit f.fdf), BRS := BitVec.ofNat 1 (bit f.brs), DATA := f.data }

/-- A reference message (R333): one byte, the cycle count in bits 5:0. (log 134) -/
def refFrame (d : CanDesc) (n : BitVec 6) : FrameRec :=
  { FrameRec.dflt with ID := d.REF_ID, DLC := 1#8, QUAL := 0#4, DATA := n.setWidth 512 }

/-- What stands for arbitration, each with its content (R327). (log 132) -/
def State.txCandidates (s : State) (c : Fin 4) : List (CanTx × FrameRec) :=
  let x := s.can.ctrl.get c
  (x.pendingTx.filterMap fun k => (s.txObject c k).map fun o => (CanTx.object k, s.objectFrame o))
    ++ x.queue.map (fun f => (CanTx.once f, f.toRec))
    ++ (match x.refPending with | some n => [(CanTx.reference n, refFrame x.desc n)] | none => [])

/-- The first of the lowest rank. (log 132) -/
def lowestId : List (CanTx × FrameRec) → Option (CanTx × FrameRec)
  | [] => none
  | a :: r =>
    match lowestId r with
    | some b => some (if idRank b.2.ID < idRank a.2.ID then b else a)
    | none => some a

/-- What is read for arbitration leaves the pending ones (R328). -/
def CanCtrl.read (x : CanCtrl) (t : CanTx × FrameRec) : CanCtrl :=
  let x := { x with wire := some t }
  match t.1 with
  | .object k => { x with pendingTx := x.pendingTx.erase k }
  | .once f => { x with queue := x.queue.erase f }
  | .reference _ => { x with refPending := none }

/-- An attempt has failed: with ONE_SHOT the frame is dropped, else it stands again (R322, R328). (log 131) -/
def CanCtrl.failed (x : CanCtrl) : CanCtrl := if x.desc.ONE_SHOT == 1#1 then { x with wire := none } else x.unread

/-- The controller reads the lowest pending object or queued frame for arbitration (R327, R328); what it had read before
lost arbitration and is read again. -/
def execCanArbitrationPrepare (ctrl : Fin 4) (s : State) : Host.Outcome State Fault Refusal :=
  let x := s.can.ctrl.get ctrl
  .next <|
    if x.mode == .normal && x.onBus then
      let s := s.setCan ctrl CanCtrl.failed
      match lowestId (s.txCandidates ctrl) with
      | some t => s.setCan ctrl fun x => x.read t
      | none => s
    else s

/-- The loop delay that a sent FD frame measures (R323): more than three data bit times sets TDC_LONG. (log 135) -/
def CanCtrl.measure (x : CanCtrl) (fd : Bool) (delay : BitVec 8) : CanCtrl :=
  if fd && x.desc.TDC_EN == 1#1 then
    let d := x.desc
    let long : Bool := decide (3 * (1 + d.DTSEG1.toNat + d.DTSEG2.toNat) * d.DBRP.toNat < delay.toNat)
    { x with stat := { x.stat with TDC_MEAS := delay, TDC_LONG := if long then 1#1 else x.stat.TDC_LONG } }
  else x

/-- A frame is sent (R327, R329): SENT_SEQ and SENT_TS of its object, and one less in TEC. -/
def execCanTxComplete (ctrl : Fin 4) (age : Nat) (phase : Fin 8) (delay : BitVec 8) (s : State) : Host.Outcome State Fault Refusal :=
  let x := s.can.ctrl.get ctrl
  .next <|
    match x.wire with
    | some (t, r) =>
      if x.mode == .normal && x.onBus then
        let ts := s.stampAt age phase
        let s := s.setCan ctrl fun (x : CanCtrl) =>
          { x.measure (r.FDF == 1#1) delay with wire := none, stat := { (x.measure (r.FDF == 1#1) delay).stat with TX_FRAMES := sat x.stat.TX_FRAMES } }
        let s := match t with
          | .object k =>
            s.setMem 5 ((s.gro.mem.get 5).write (canObjOff k.toNat + 0x50) ({ r with RS_SEQ := r.SEQ, SENT_TS := ts }.toBytes.drop 80 |>.take 16))
          | .once _ | .reference _ => s
        s.canCount ctrl (x.tecCount - 1) x.recCount
      else s
    | none => s

/-! ### Errors (R329 to R331) -/

/-- TEC and REC after an error, as ISO 11898-1 lays down (R329): 8 more for a transmitter, 1 more for a receiver, 8 more for
either in or after an error flag; no change for an ACK error of an error-passive transmitter, nor for a stuff error in
arbitration. (log 131) -/
def afterError (x : CanCtrl) (err : CanErr) (tx : Bool) (site : CanSite) : Nat × Nat :=
  match tx, site with
  | true, .frame => if err = .ack && x.state = .passive then (x.tecCount, x.recCount) else (x.tecCount + 8, x.recCount)
  | true, .arbitration => (x.tecCount, x.recCount)
  | true, .flag => (x.tecCount + 8, x.recCount)
  | false, .flag => (x.tecCount, x.recCount + 8)
  | false, _ => (x.tecCount, x.recCount + 1)

/-- A bus error (R323, R328 to R331). -/
def execCanBusError (ctrl : Fin 4) (err : CanErr) (transmitting : Bool) (site : CanSite) (delay : BitVec 8) (s : State) : Host.Outcome State Fault Refusal :=
  let x := s.can.ctrl.get ctrl
  .next <|
    if !x.onBus || (transmitting && (x.mode != .normal || x.wire.isNone)) then s
    else
      let fd := match x.wire with | some (_, r) => transmitting && r.FDF == 1#1 | none => false
      let s := s.setCan ctrl fun (x : CanCtrl) =>
        let x := { x with stat := { x.stat with LAST_ERR := BitVec.ofNat 8 err.num } }
        let x := x.measure fd delay
        if transmitting then x.failed else x
      let (tec, rc) := afterError x err transmitting site
      s.canCount ctrl tec rc

/-- BOFF_HOLD_MS after bus-off the wait for recovery starts under policy 0 (R330). -/
def execCanBusoffHoldExpire (ctrl : Fin 4) (s : State) : Host.Outcome State Fault Refusal :=
  let x := s.can.ctrl.get ctrl
  .next <|
    if x.state == .busOff && !x.recovering && x.desc.BUSOFF_POLICY == 0#8 && !x.boffLocked && s.since x.boffAt (ms x.desc.BOFF_HOLD_MS.toNat) then
      s.setCan ctrl fun x => { x with recovering := true }
    else s

/-- 128 occurrences of 11 recessive bits end bus-off: error-active, both counters at 0 (R330). -/
def execCanRecoveryComplete (ctrl : Fin 4) (s : State) : Host.Outcome State Fault Refusal :=
  let x := s.can.ctrl.get ctrl
  .next <|
    if x.state == .busOff && x.recovering && x.mode != .off then
      (s.setCan ctrl fun x => { x with state := .active, recovering := false, tecCount := 0, recCount := 0 }).event
        2 0x0A80 ctrl.val CanState.busOff.num CanState.active.num
    else s

/-! ### References (R333) -/

/-- A time master prepares a reference at each multiple of REF_PERIOD_US, unless a lower REF_ID has been heard within the
present period (R333). -/
def execCanRefMessage (ctrl : Fin 4) (s : State) : Host.Outcome State Fault Refusal :=
  let x := s.can.ctrl.get ctrl
  .next <|
    if x.mode == .normal && x.onBus && x.desc.TIME_ROLE == 1#8 && s.crossed (1000 * x.desc.REF_PERIOD_US.toNat) then
      let heard := match x.refAt with | some a => decide (s.now < a + us x.desc.REF_PERIOD_US.toNat) | none => false
      if heard then s.canStat ctrl fun y => { y with MASTER_ACTIVE := 0#1 }
      else s.setCan ctrl fun x =>
        { x with refPending := some x.cycleNext, cycleNext := x.cycleNext + 1,
                 stat := { x.stat with MASTER_ACTIVE := 1#1, CYCLE_COUNT := x.cycleNext.setWidth 8 } }
    else s

/-- A follower has had no reference for twice REF_PERIOD_US (R333). -/
def execCanRefLost (ctrl : Fin 4) (s : State) : Host.Outcome State Fault Refusal :=
  let x := s.can.ctrl.get ctrl
  .next <|
    if x.mode != .off && x.desc.TIME_ROLE == 2#8 && s.ran x.refAt (us (2 * x.desc.REF_PERIOD_US.toNat)) then
      s.canStat ctrl fun y => { y with REF_LOST := 1#1 }
    else s

end Sys2Proof.Machine
end

