-- ==== Sys2Proof/Machine/Compare.lean ====
section
/-! DEFINITION. Compare units with their timed pulses (R359 to R361), and capture inputs (R362). -/

namespace Sys2Proof.Machine

/-- Compare units run in STOP, RUN and HALT, and not in a power-fail sequence (R361). -/
def State.compareUp (s : State) : Bool :=
  s.pow.pfStage == .idle && (s.sys.mode == .stop || s.sys.mode == .run || s.sys.mode == .halt)

/-- A unit fires at the present time (R359, R360): its next time is the first grid point after now, grid points passed are
counted, and its pulse begins, at its time or, where that is past, now. (log 139) -/
def Compare.fire (x : Compare) (n : Fin 8) (now t : BitVec 64) : Compare :=
  let behind := now.toNat - t.toNat
  let p := x.desc.PERIOD_NS.toNat
  let late : Bool := decide (16 < behind)
  let passed := if x.desc.MODE == 2#8 then behind / p else 0
  { x with
    next := if x.desc.MODE == 2#8 then some (t + BitVec.ofNat 64 ((passed + 1) * p)) else none,
    late := x.late || late, skip := satAdd x.skip passed,
    pulse := if x.desc.OUT_EN == 1#1 && n.val < 4 then some (if late then now else t, x.desc.WIDTH_NS, x.desc.POL == 1#1) else x.pulse }

/-- Unit `n` fires where its time has come, and triggers its event tasks (R88, R359). -/
def State.fireCompare (s : State) (n : Fin 8) : State :=
  let x := s.tm.cmp.get n
  match x.next with
  | some t =>
    if s.compareUp && t.toNat ≤ s.ts.toNat then
      ({ s with tm.cmp := put s.tm.cmp n (x.fire n s.ts t) }).trigger 3 fun a => a == n.val
    else s
  | none => s

/-- Units whose time lies more than 16 ns back fire late, after a step or at arming (R360). (log 139) -/
def State.fireLate (s : State) : State :=
  (idx 8).foldl (fun s n =>
    match (s.tm.cmp.get n).next with
    | some t => if t.toNat + 16 < s.ts.toNat then s.fireCompare n else s
    | none => s) s

/-- A compare unit fires at its time (R359, R360). -/
def execCompareFire (n : Fin 8) (s : State) : Host.Outcome State Fault Refusal :=
  .next (s.fireCompare n)

/-- A pulse ends after WIDTH_NS of local time (R359). -/
def execTpoPulseEnd (n : Fin 8) (s : State) : Host.Outcome State Fault Refusal :=
  let x := s.tm.cmp.get n
  .next <|
    match x.pulse with
    | some (t, w, _) => if t.toNat + w.toNat ≤ s.ts.toNat then { s with tm.cmp := put s.tm.cmp n { x with pulse := none } } else s
    | none => s

/-- The level of TPOn (R361): low in reset, BOOT and MINIMAL, while OUT_EN is clear and on a QUARANTINED module (R400),
whatever POL holds. -/
def State.tpo (s : State) (n : Fin 4) : Bool :=
  let x := s.tm.cmp.get ⟨n.val, by omega⟩
  s.compareUp && s.pr.role != .quarantined
    && (match x.pulse with
      | some (_, _, pol) => !pol
      | none => x.desc.OUT_EN == 1#1 && x.desc.POL == 1#1)

/-- Every field of a compare descriptor lies in its range (R361). -/
def CmpDesc.ok (d : CmpDesc) : Bool :=
  d.MODE.toNat ≤ 2 && between 8 d.WIDTH_NS.toNat 1000000000 && (d.OUT_EN == 0#1 || d.CMP_ID.toNat < 4)
    && (d.MODE != 2#8 || (between 1000 d.PERIOD_NS.toNat 1000000000000 && d.WIDTH_NS.toNat + 8 < d.PERIOD_NS.toNat))

/-- TIME_CMP_SET arms at acceptance; a START already past fires at once (R360, R361). -/
def cmdTimeCmpSet (rq : Request) (s : State) : State :=
  serve Cmd.timeCmpSet rq s fun s =>
    let d := CmpDesc.ofBytes rq.payload
    match asFin 8 d.CMP_ID.toNat with
    | none => .refuse 0x0B01 d.CMP_ID.toNat 0
    | some n => refuseIf (!d.ok) 0x0B01 n.val (.done ({ s with tm.cmp := upd s.tm.cmp n fun x => x.arm d }).fireLate [])

/-- TIME_CMP_SET (R361). -/
def execTimeCmpSet (rq : Request) (s : State) : Host.Outcome State Fault Refusal := .next (s.command rq cmdTimeCmpSet)

/-- TIME_CMP_GET: descriptor, LATE and SKIP_COUNT (R361). -/
def cmdTimeCmpGet (rq : Request) (s : State) : State :=
  serve Cmd.timeCmpGet rq s fun s =>
    match asFin 8 (rq.u8 0) with
    | none => .refuse 0x0B01 (rq.u8 0) 0
    | some n =>
      let x := s.tm.cmp.get n
      .done s ({ x.desc with CMP_ID := BitVec.ofNat 8 n.val }.toBytes ++ [BitVec.ofNat 8 (bit x.late)] ++ leBytes 4 x.skip.toNat)

/-- TIME_CMP_GET (R361). -/
def execTimeCmpGet (rq : Request) (s : State) : Host.Outcome State Fault Refusal := .next (s.command rq cmdTimeCmpGet)

/-! ### Capture inputs -/

/-- TIME_TCI_SET (R362). -/
def cmdTimeTciSet (rq : Request) (s : State) : State :=
  serve Cmd.timeTciSet rq s fun s =>
    let d := TciDesc.ofBytes rq.payload
    match asFin 2 d.TCI_ID.toNat with
    | none => .refuse 0x0B01 d.TCI_ID.toNat 0
    | some k =>
      refuseIf (3 < d.EDGE_SEL.toNat || 1000 < d.GLITCH_NS.toNat) 0x0B01 k.val
        (.done { s with tm.tci := upd s.tm.tci k fun x => { x with desc := d } } [])

/-- TIME_TCI_SET (R362). -/
def execTimeTciSet (rq : Request) (s : State) : Host.Outcome State Fault Refusal := .next (s.command rq cmdTimeTciSet)

/-- The edges that EDGE_SEL takes (R362). -/
def TciDesc.takes (d : TciDesc) (rising : Bool) : Bool := if rising then d.EDGE_SEL.getLsbD 0 else d.EDGE_SEL.getLsbD 1

/-- An edge is captured with the local time less DELAY_NS, or dropped and counted (R362). -/
def execTciCapture (k : Fin 2) (rising : Bool) (phase : Fin 8) (s : State) : Host.Outcome State Fault Refusal :=
  let x := s.tm.tci.get k
  let ts := s.stampAt 0 phase
  .next <|
    if s.sys.phase != .serving || !x.desc.takes rising then s
    else
      let near := match x.lastAt with | some a => decide ((ts - a).toInt.natAbs < 100) | none => false
      { s with tm.tci := put s.tm.tci k <|
          if 16 ≤ x.queue.length || near then { x with ovr := sat x.ovr }
          else { x with lastAt := some ts,
                        queue := x.queue ++ [⟨ts - BitVec.ofInt 64 x.desc.DELAY_NS.toInt, if rising then 1#2 else 2#2⟩] } }

/-- The quality of a captured time (R362): GOOD when LOCKED, else UNCERTAIN with TIME_VALID, BAD without. -/
def State.captureQuality (s : State) : BitVec 4 := if s.tm.clk == .locked then qGood else if s.tm.timeValid then qUncertain else qBad

/-- The supervisor moves the oldest capture into its block, header and entry as one group (R362). -/
def execTciCaptureMove (k : Fin 2) (s : State) : Host.Outcome State Fault Refusal :=
  let x := s.tm.tci.get k
  .next <|
    match x.queue with
    | [] => s
    | c :: rest =>
      if !s.firmwareUp then s
      else
        let seq := x.seq + 1
        let off := 0x480 + 0x80 * k.val
        let h : TciHead := { TciHead.dflt with WR_SEQ := seq, OVR_COUNT := x.ovr }
        let e : TciEntry := { TciEntry.dflt with TS := c.ts, QUAL := s.captureQuality, EDGE := c.edge, SEQ := seq }
        let s := { s with tm.tci := put s.tm.tci k { x with queue := rest, seq := seq } }
        (s.writeImage off h.toBytes qGood).writeImage (off + 0x10 + 16 * (seq.toNat % 7)) e.toBytes s.captureQuality

end Sys2Proof.Machine
end

