-- ==== Sys2Proof/Machine/Double.lean ====
section
/-! DEFINITION. F64, IEEE 754 binary64 (R4): exact dyadic values, comparison, and the operations that the Crucible's
units round to nearest even (R175). -/

namespace Sys2Proof.Machine

/-- The sign bit is set. -/
def F64.neg (x : F64) : Bool := x.getLsbD 63

/-- The exponent field. -/
def F64.field (x : F64) : Nat := x.toNat / 2 ^ 52 % 2048

/-- The fraction field. -/
def F64.frac (x : F64) : Nat := x.toNat % 2 ^ 52

/-- Neither an infinity nor a NaN. -/
def F64.finite (x : F64) : Bool := F64.field x != 2047

/-- A NaN. -/
def F64.isNan (x : F64) : Bool := F64.field x == 2047 && F64.frac x != 0

/-- Plus or minus infinity. -/
def F64.isInf (x : F64) : Bool := F64.field x == 2047 && F64.frac x == 0

/-- Plus zero. -/
def F64.zero : F64 := 0#64

/-- Plus infinity. -/
def F64.inf : F64 := 0x7FF0000000000000#64

/-- Minus infinity. -/
def F64.ninf : F64 := 0xFFF0000000000000#64

/-- The quiet NaN that an operation without a result gives. -/
def F64.nan : F64 := 0x7FF8000000000000#64

/-- A dyadic number: `m · 2^e`. Every finite F64 is one, exactly. -/
structure Dyad where
  m : Int
  e : Int
  deriving DecidableEq, Repr

/-- The magnitude of a finite F64 as its significand and the exponent of its last place, plus 2200. -/
def F64.mag (x : F64) : Nat × Nat :=
  if F64.field x = 0 then (F64.frac x, 1126) else (2 ^ 52 + F64.frac x, 1125 + F64.field x)

/-- The exact value of a finite F64. -/
def F64.val (x : F64) : Dyad :=
  let (m, e) := F64.mag x
  ⟨if F64.neg x then -(m : Int) else m, (e : Int) - 2200⟩

/-- Two dyadic numbers over one exponent, the smaller. -/
def Dyad.align (a b : Dyad) : Int × Int × Int :=
  let e := min a.e b.e
  (a.m * 2 ^ (a.e - e).toNat, b.m * 2 ^ (b.e - e).toNat, e)

/-- The exact sum. -/
def Dyad.add (a b : Dyad) : Dyad :=
  let (m, n, e) := a.align b
  ⟨m + n, e⟩

/-- The exact product. -/
def Dyad.mul (a b : Dyad) : Dyad := ⟨a.m * b.m, a.e + b.e⟩

/-- Exactly less than. -/
def Dyad.lt (a b : Dyad) : Bool :=
  let (m, n, _) := a.align b
  decide (m < n)

/-- The larger of two. -/
def Dyad.max (a b : Dyad) : Dyad := if a.lt b then b else a

/-- Less than, among numbers and infinities; false with a NaN. -/
def F64.lt (a b : F64) : Bool :=
  if F64.isNan a || F64.isNan b then false
  else if F64.isInf a && F64.isInf b then F64.neg a && !F64.neg b
  else if F64.isInf a then F64.neg a
  else if F64.isInf b then !F64.neg b
  else (F64.val a).lt (F64.val b)

/-- At most; false with a NaN. -/
def F64.le (a b : F64) : Bool := !F64.isNan a && !F64.isNan b && !F64.lt b a

/-- Equal values; the zeros are equal. -/
def F64.eq (a b : F64) : Bool := F64.le a b && F64.le b a

/-- The value within a closed range of F64. -/
def F64.inRange (x lo hi : F64) : Bool := F64.le lo x && F64.le x hi

/-- The magnitude. -/
def F64.abs (x : F64) : F64 := BitVec.ofNat 64 (x.toNat % 2 ^ 63)

/-- The other sign. -/
def F64.opp (x : F64) : F64 := x ^^^ 0x8000000000000000#64

/-- The larger of two. -/
def F64.max (a b : F64) : F64 := if F64.lt a b then b else a

/-- The smaller of two. -/
def F64.min (a b : F64) : F64 := if F64.lt b a then b else a

/-- The largest magnitude of a list: its ‖·‖∞. -/
def F64.norm (xs : List F64) : F64 := xs.foldl (fun a x => F64.max a (F64.abs x)) F64.zero

/-- `m · 2^(e − 2200)` rounded to nearest even; `sticky` says that the exact value lies a little above. -/
def F64.round (negative : Bool) (m e : Nat) (sticky : Bool) : F64 :=
  let bits := Nat.log2 m + 1
  let k := Nat.max (bits - 53) (1126 - e)
  let q := m / 2 ^ k
  let r := m % 2 ^ k
  let half := if k = 0 then 0 else 2 ^ (k - 1)
  let up := k != 0 && (half < r || (r == half && (sticky || q % 2 == 1)))
  let q := if up then q + 1 else q
  let q := if k = 0 && 1126 < e && q < 2 ^ 52 && q != 0 then q * 2 ^ Nat.min (e - 1126) (53 - bits) else q
  let e := if k = 0 && 1126 < e && m < 2 ^ 52 then e - Nat.min (e - 1126) (53 - bits) else e + k
  let n := if q < 2 ^ 52 then q else (e - 1126) * 2 ^ 52 + q
  let n := if 2047 * 2 ^ 52 ≤ n then 2047 * 2 ^ 52 else n
  BitVec.ofNat 64 (n + (if negative then 2 ^ 63 else 0))

/-- A dyadic number rounded to nearest even. -/
def Dyad.round (a : Dyad) : F64 := F64.round (decide (a.m < 0)) a.m.natAbs (a.e + 2200).toNat false

/-- The sum, rounded to nearest even; an exact zero from unlike signs is plus zero. -/
def F64.add (a b : F64) : F64 :=
  if F64.isNan a || F64.isNan b then F64.nan
  else if F64.isInf a then (if F64.isInf b && F64.neg a != F64.neg b then F64.nan else a)
  else if F64.isInf b then b
  else
    let d := (F64.val a).add (F64.val b)
    if d.m = 0 then (if F64.neg a && F64.neg b then 0x8000000000000000#64 else F64.zero) else d.round

/-- The difference. -/
def F64.sub (a b : F64) : F64 := F64.add a (F64.opp b)

/-- The product of finite numbers, rounded to nearest even. -/
def F64.mul (a b : F64) : F64 :=
  let (m, e) := F64.mag a
  let (n, f) := F64.mag b
  let negative := F64.neg a != F64.neg b
  if m * n = 0 then (if negative then 0x8000000000000000#64 else F64.zero)
  else if 2200 ≤ e + f then F64.round negative (m * n) (e + f - 2200) false
  else F64.round negative (m * n / 2 ^ (2200 - (e + f))) 0 true

/-- The quotient of finite numbers, the divisor not zero, correctly rounded. -/
def F64.div (a b : F64) : F64 :=
  let (m, e) := F64.mag a
  let (n, f) := F64.mag b
  let negative := F64.neg a != F64.neg b
  if m = 0 then (if negative then 0x8000000000000000#64 else F64.zero)
  else
    let q := m * 2 ^ 128 / n
    F64.round negative (2 * q + (if m * 2 ^ 128 % n = 0 then 0 else 1)) (e + 2200 - f - 129) false

/-- The square root of a finite number that is not negative, correctly rounded. -/
def F64.sqrt (x : F64) : F64 :=
  let (m, e) := F64.mag x
  let (m, e) := if e % 2 = 0 then (m, e) else (2 * m, e - 1)
  let r := Nat.sqrt (m * 2 ^ 128)
  F64.round false (2 * r + (if r * r = m * 2 ^ 128 then 0 else 1)) (e / 2 + 1100 - 65) false

end Sys2Proof.Machine
end

