-- ==== Sys2Proof/Machine/CruJob.lean ====
section
/-! DEFINITION. Crucible jobs (R175 to R212): the pattern image, Check and Apply, the tests, refinement, and how a job
ends. The kernel's numbers depend on an order of operations that the spec leaves to the analysis: they are free
values, and what the spec decides from them is decided here (log 40). -/

namespace Sys2Proof.Machine

/-! ### Free values in numbers -/

/-- `n` free values as F64 numbers (log 13). -/
def State.drawList (s : State) (n : Nat) : List F64 × State :=
  ((List.range n).map fun k => Config.freeValue (s.free + k), { s with free := s.free + n })

/-- A free value as a non-negative number (log 13). -/
def State.drawMag (s : State) : F64 × State :=
  let (v, s) := s.draw
  (F64.abs v, s)

/-- A free bit (log 13). (log 100) -/
def State.drawBit (s : State) : Bool × State :=
  let (v, s) := s.draw
  (v.getLsbD 0, s)

/-! ### The pattern image (R179, R197) -/

/-- The next multiple of 8. -/
def align8 (n : Nat) : Nat := (n + 7) / 8 * 8

/-- Slot `n`. -/
def State.cs (s : State) (n : Fin 16) : Slot := s.cru.slot.get n

/-- Slot `n` changed. -/
def State.setCs (s : State) (n : Fin 16) (f : Slot → Slot) : State := { s with cru.slot := upd s.cru.slot n f }

/-- Unknowns of the slot. -/
def Slot.size (x : Slot) : Nat := x.desc.N.toNat

/-- Entries of the slot's pattern. -/
def Slot.nnz (x : Slot) : Nat := x.desc.NNZ_A.toNat

/-- The slot's first constraint row. -/
def Slot.pos (x : Slot) : Nat := x.desc.N_POS.toNat

/-- The slot holds a QP. -/
def Slot.qpJob (x : Slot) : Bool := x.desc.JOB_TYPE == 2#8

/-- Where the row indices of the image begin. -/
def Slot.rowsAt (x : Slot) : Nat := align8 (8 + 4 * (x.size + 1))

/-- Where the initial values begin. -/
def Slot.valsAt (x : Slot) : Nat := align8 (x.rowsAt + 4 * x.nnz)

/-- Where the permutation begins. -/
def Slot.permAt (x : Slot) : Nat := x.valsAt + 8 * x.nnz

/-- The bytes of a whole image. -/
def Slot.imageLen (x : Slot) : Nat := if x.desc.ORDERING == 3#8 then x.permAt + 4 * x.size else x.permAt

/-- The column pointers. -/
def Slot.colPtr (x : Slot) : List Nat := (List.range (x.size + 1)).map fun k => x.pattern.num (8 + 4 * k) 4

/-- The row indices. -/
def Slot.rowIdx (x : Slot) : List Nat := (List.range x.nnz).map fun k => x.pattern.num (x.rowsAt + 4 * k) 4

/-- The initial values (R179, R184). -/
def Slot.initial0 (x : Slot) : List F64 := (List.range x.nnz).map fun k => BitVec.ofNat 64 (x.pattern.num (x.valsAt + 8 * k) 8)

/-- The permutation of ORDERING 3. -/
def Slot.perm (x : Slot) : List Nat := (List.range x.size).map fun k => x.pattern.num (x.permAt + 4 * k) 4

/-- Positions of each column: its first and the one past its last. -/
def Slot.columns (x : Slot) : List (Nat × Nat) := List.zip x.colPtr (x.colPtr.drop 1)

/-- Row and column of every entry, in pattern order. -/
def Slot.entries (x : Slot) : List (Nat × Nat) :=
  (x.columns.zipIdx).flatMap fun e => ((x.rowIdx.drop e.1.1).take (e.1.2 - e.1.1)).map fun r => (r, e.2)

/-- Rows of one column ascend from its diagonal and stay below the size. -/
def columnOk (n col : Nat) (rows : List Nat) : Bool :=
  rows.head? == some col && rows.all (fun r => r < n) && (List.zip rows (rows.drop 1)).all fun e => e.1 < e.2

/-- The image has the form of R179 and R197. -/
def Slot.formOk (x : Slot) : Bool :=
  x.patternLen == x.imageLen && x.pattern.num 0 4 == x.size && x.pattern.num 4 4 == x.nnz
    && x.colPtr.head? == some 0 && x.colPtr.getLast? == some x.nnz && x.columns.all (fun e => e.1 ≤ e.2)
    && (x.columns.zipIdx).all (fun e =>
      let rows := (x.rowIdx.drop e.1.1).take (e.1.2 - e.1.1)
      columnOk x.size e.2 rows && (!(x.qpJob && x.pos ≤ e.2) || rows.length == 1))

/-- The permutation is one. -/
def Slot.permOk (x : Slot) : Bool := x.desc.ORDERING != 3#8 || (List.range x.size).all fun k => x.perm.contains k

/-- The entry is the diagonal of a constraint row, which the module owns (R197). -/
def Slot.owned (x : Slot) (e : Nat × Nat) : Bool := x.qpJob && e.1 == e.2 && x.pos ≤ e.1

/-- Row norms of A_cur, for a QP of P and C alone (R186, R197). -/
def Slot.rowNorms (x : Slot) (vals : List F64) : List F64 :=
  let es := (List.zip x.entries vals).filter fun e => !x.owned e.1
  (List.range x.size).map fun r => F64.norm ((es.filter fun e => e.1.1 == r || e.1.2 == r).map fun e => e.2)

/-! ### The events of R184 -/

/-- The slot as RUN entry, a restart and a takeover leave it (R184, R203): A_cur at the initial values, no factor, no
solution, and its public part at its defaults (log 41). -/
def Slot.renewed (x : Slot) : Slot :=
  { x with
    aCur := x.initial0, initial := true, front := none, rhoCur := x.qp.RHO_INIT, warmOk := false,
    eqRows := [], job := none, ignored := false, req := CruReq.dflt, reqNew := false, lastSeq := 0#32, index := IndexLine.dflt }

/-- Every slot is renewed, and no job is left (R184). (log 103) -/
def State.renewSlots (s : State) : State :=
  { s with cru.slot := s.cru.slot.map Slot.renewed, cru.queue := [], cru.running := none }

/-! ### The caps and the times (R95, R188, R190, R209) -/

/-- Caps are halved: H1 or H2 (R95, R97). -/
def State.capsHalved (s : State) : Bool := cruEffect s.heatNow s.energyNow == .halved

/-- A cap as it counts now. -/
def State.cap (s : State) (n : Nat) : Nat := if s.capsHalved then n / 2 else n

/-- STALE_RESERVE_NS as it counts (R181). -/
def Slot.reserveNs (x : Slot) : Nat :=
  if x.desc.STALE_RESERVE_NS == 0#32 then x.info.SOLVE_WC_NS.toNat + 2 * x.info.STEP_WC_NS.toNat else x.desc.STALE_RESERVE_NS.toNat

/-- The factor cut-off has passed (R190). (log 106) -/
def State.pastCutoff (s : State) (x : Slot) (j : Job) : Bool := 8 * j.deadline ≤ 8 * s.now + x.reserveNs

/-- The raw count at which the local time reaches a deadline (R185, R353). -/
def Time.countOf (t : Time) (d : BitVec 64) : Nat :=
  ((t.baseCnt : Int) + (d - t.baseTs).toInt * 2 ^ 48 / (8 * (2 ^ 48 + t.rateQ48))).toNat

/-! ### The end of a job (R191, R208, R210) -/

/-- What a job publishes: the vector, its two residual figures, and whether it meets the test. -/
structure Solution where
  x     : List F64
  resid : F64
  bnorm : F64
  met   : Bool
  deriving DecidableEq, Repr

/-- The job's status word at its end. -/
def Slot.endStatus (x : Slot) (j : Job) (code : Nat) (sol : Option Solution) : JobStatus :=
  { j.status with
    CODE := BitVec.ofNat 4 code, SPILLED := x.info.SPILL, REQ_IGNORED_SEEN := BitVec.ofNat 1 (bit x.ignored),
    NEW_X := BitVec.ofNat 1 (bit sol.isSome), TEST_MET := BitVec.ofNat 1 (bit (match sol with | some v => v.met | none => false)) }

/-- Replaced pivots of the factor that the job used. (log 101) -/
def Slot.perturbed (x : Slot) (j : Job) : BitVec 16 :=
  match j.phase, x.front with
  | .queued, _ | .factor, _ | _, none => 0#16
  | _, some f => f.perturb

/-- The index line at the end of a job (R191, R210). -/
def Slot.endIndex (x : Slot) (j : Job) (status : JobStatus) (sol : Option Solution) (now : Nat) (ts : BitVec 64) : IndexLine :=
  let i := x.index
  let qp := x.qpJob
  { JOB_SEQ := j.seq, STATUS := status,
    X_SEQ := if sol.isSome then j.seq else i.X_SEQ,
    BUF := if sol.isSome then 1#8 - i.BUF else i.BUF,
    REFINE_STEPS := BitVec.ofNat 8 (min 255 j.steps), PERTURB_COUNT := x.perturbed j, DONE_TS := ts,
    RESID := match sol with | some v => v.resid | none => i.RESID,
    BNORM := match sol with | some v => v.bnorm | none => i.BNORM,
    FACTOR_NS := satAdd 0#32 j.factorNs, JOB_NS := satAdd 0#32 (8 * (now - j.takenAt)), IN_TAG := j.inTag,
    ITERS := BitVec.ofNat 16 (if qp then j.iters else 0), REFACTORS := BitVec.ofNat 8 (if qp then j.refactors else 0),
    POLISH_DONE := BitVec.ofNat 8 (if qp then j.polished else 0) }

/-- The engine's counters after a job (R194). (log 103) -/
def CruStat.counted (x : CruStat) (code : Nat) : CruStat :=
  { x with
    JOB_COUNT := sat x.JOB_COUNT,
    DEADLINE_COUNT := if code = 2 then sat x.DEADLINE_COUNT else x.DEADLINE_COUNT,
    STALE_COUNT := if code = 3 then sat x.STALE_COUNT else x.STALE_COUNT,
    OVERFLOW_COUNT := if code = 4 then sat x.OVERFLOW_COUNT else x.OVERFLOW_COUNT }

/-- The QP counters after a job (R214). -/
def QpInfo.counted (x : QpInfo) (code : Nat) (status : JobStatus) : QpInfo :=
  { x with
    POLISH_REJECT_COUNT := if status.POLISH_NOT_USED == 1#1 then sat x.POLISH_REJECT_COUNT else x.POLISH_REJECT_COUNT,
    INFEAS_COUNT := if code = 8 || code = 9 then sat x.INFEAS_COUNT else x.INFEAS_COUNT }

/-- The slot's job ends and is published: the unnamed buffer where there is a solution, then the index line (R191). -/
def Slot.publish (x : Slot) (j : Job) (code : Nat) (sol : Option Solution) (now : Nat) (ts : BitVec 64) : Slot :=
  let status := x.endStatus j code sol
  let x := { x with
    index := x.endIndex j status sol now ts, job := none, ignored := false,
    qpInfo := x.qpInfo.counted code status,
    buf := match sol with
      | some v => x.buf.set (if x.index.BUF == 0#8 then 1 else 0) ⟨j.seq, ts, BitVec.ofNat 32 (pack status.fields), v.x, j.seq⟩ (by split <;> decide)
      | none => x.buf }
  { x with warmOk := x.warmOk || sol.isSome }

/-- The running job ends: publication, counters, and the event tasks on the completion (R88, R186, R191). -/
def State.endJob (s : State) (n : Fin 16) (code : Nat) (sol : Option Solution) : State :=
  match (s.cs n).job with
  | none => s
  | some j =>
    let s := s.setCs n fun x => x.publish j code sol s.now s.ts
    ({ s with cru.running := none, cru.stat := s.cru.stat.counted code }).trigger 4 fun a => a % 16 == n.val

/-- The slot's job changed. -/
def State.setJob (s : State) (n : Fin 16) (f : Job → Job) : State := s.setCs n fun x => { x with job := x.job.map f }

/-- The job that runs, with its slot. -/
def State.runningJob (s : State) : Option (Fin 16 × Slot × Job) :=
  match s.cru.running with
  | some n => (s.cs n).job.map fun j => (n, s.cs n, j)
  | none => none

/-! ### Check and Apply (R183, R186, R189, R197, R198) -/

/-- The delta entries of an input set. -/
def deltas (m : Memory) (n : Nat) : List DeltaEntry := (List.range n).map fun k => DeltaEntry.ofBytes (m.read (16 + 16 * k) 16)

/-- `n` numbers of an input set from a byte on. -/
def numbers (m : Memory) (off n : Nat) : List F64 := (List.range n).map fun k => BitVec.ofNat 64 (m.num (off + 8 * k) 8)

/-- Bytes of an input set: header, DELTA_MAX entries, and b, or q, l and u (R183, R198). -/
def Slot.insetBytes (x : Slot) : Nat :=
  16 + 16 * x.desc.DELTA_MAX.toNat + 8 * (if x.qpJob then x.pos + 2 * (x.size - x.pos) else x.size)

/-- The vectors of an input set: b or q, then l and u (R183, R198). -/
def Slot.vectors (x : Slot) (m : Memory) : List F64 × List F64 × List F64 :=
  let off := 16 + 16 * x.desc.DELTA_MAX.toNat
  if x.qpJob then
    let k := x.size - x.pos
    (numbers m off x.pos, numbers m (off + 8 * x.pos) k, numbers m (off + 8 * x.pos + 8 * k) k)
  else (numbers m off x.size, [], [])

/-- A delta entry names a value of the pattern that it may change (R189, R197). -/
def Slot.deltaOk (x : Slot) (es : List (Nat × Nat)) (d : DeltaEntry) : Bool :=
  d.OP.toNat ≤ 1 && (match es[d.INDEX.toNat]? with | some e => !x.owned e | none => false)

/-- The bounds of a constraint row are in order (R198). -/
def boundOk (lo hi : F64) : Bool := F64.le lo hi && !(lo == F64.inf) && !(hi == F64.ninf)

/-- What Check finds of an input set: the code that ends the job, or its deltas (R186, R189, R198). (log 103) -/
def Slot.check (x : Slot) (m : Memory) : Except Nat (List DeltaEntry) :=
  let n := m.num 0 4
  if x.desc.DELTA_MAX.toNat < n then .error 5
  else
    let ds := deltas m n
    let (b, lo, hi) := x.vectors m
    let es := x.entries
    if !(ds.all (x.deltaOk es)) || !((List.zip lo hi).all fun e => boundOk e.1 e.2) then .error 5
    else if !(ds.all fun d => F64.finite d.VALUE) || !(b.all F64.finite) then .error 4
    else .ok ds

/-- A delta entry acts on A_cur (R184). -/
def applyDelta (a : List F64) (d : DeltaEntry) : List F64 :=
  let i := d.INDEX.toNat
  match a[i]? with
  | some v => a.set i (if d.OP == 0#8 then d.VALUE else F64.add v d.VALUE)
  | none => a

/-! ### The tests -/

/-- `EPS_ABS + EPS_REL · m`, exactly. -/
def SlotDesc.bound (d : SlotDesc) (m : F64) : Dyad := (F64.val d.EPS_ABS).add ((F64.val d.EPS_REL).mul (F64.val m))

/-- A residual meets a bound. -/
def within (r : F64) (b : Dyad) : Bool := F64.finite r && !(b.lt (F64.val r))

/-- Refinement (R188): while the test is not met and steps are left, a step is made; a step that does not gain ends
it. Answers the best iterate, its residual, the steps, and whether every number was finite. (log 102) -/
def refine (bound : Dyad) : Nat → State → List F64 → F64 → Nat → (List F64 × F64 × Nat × Bool) × State
  | 0, s, x, r, k => ((x, r, k, true), s)
  | cap + 1, s, x, r, k =>
    if within r bound then ((x, r, k, true), s)
    else
      let (y, s) := s.drawList x.length
      let (ry, s) := s.drawMag
      if !(y.all F64.finite && F64.finite ry) then ((x, r, k + 1, false), s)
      else if F64.lt ry r then refine bound cap s y ry (k + 1)
      else ((x, r, k + 1, true), s)

/-- The larger of two ratios, each a pair, compared by their cross products. (log 104) -/
def ratioLe (a b : Dyad × Dyad) : Bool := !((b.1.mul a.2).lt (a.1.mul b.2))

/-- `max(r_p/ε_p, r_d/ε_d)` of an iterate as a pair (R202). (log 104) -/
def Iterate.ratio (d : SlotDesc) (i : Iterate) : Dyad × Dyad :=
  let p := (F64.val i.rp, d.bound i.np)
  let q := (F64.val i.rd, d.bound i.nd)
  if ratioLe p q then q else p

/-- Test 1 of R202. (log 104) -/
def Iterate.test (d : SlotDesc) (i : Iterate) : Bool := within i.rp (d.bound i.np) && within i.rd (d.bound i.nd)

/-- Every number of an iterate is finite. -/
def Iterate.finite (i : Iterate) : Bool := i.x.all F64.finite && i.y.all F64.finite && F64.finite i.rp && F64.finite i.rd

/-- What an iterate publishes (R210): `[x; y]`, r_p and r_d. -/
def Iterate.solution (i : Iterate) : Solution := ⟨i.x ++ i.y, i.rp, i.rd, i.met⟩

/-- The projection onto `[l, u]` (R201). -/
def project (v lo hi : F64) : F64 := F64.max lo (F64.min v hi)

/-- An iterate whose x, y and the argument of the projection are free, and whose tests are formed from free
residuals and the exact norms of z and q (R201, R202). -/
def State.freeIterate (s : State) (x : Slot) (j : Job) : Iterate × State :=
  let m := x.size - x.pos
  let (xs, s) := s.drawList x.pos
  let (zs, s) := s.drawList m
  let (ys, s) := s.drawList m
  let (rp, s) := s.drawMag
  let (rd, s) := s.drawMag
  let (cx, s) := s.drawMag
  let (px, s) := s.drawMag
  let (cy, s) := s.drawMag
  let z := (List.zip zs (List.zip j.lo j.hi)).map fun e => project e.1 e.2.1 e.2.2
  let i : Iterate := { x := xs, z := z, y := ys, rp := rp, rd := rd, np := F64.max cx (F64.norm z),
                       nd := F64.max px (F64.max cy (F64.norm j.b)), met := false }
  ({ i with met := i.test x.desc }, s)

/-! ### A job that its deadline ends (R190, R208) -/

/-- The code of an iterate that the cap or the deadline ends, on the stale path or off it. (log 102) -/
def Job.codeOr (j : Job) (code : Nat) : Nat := if j.stale then 3 else code

/-- The deadline ends the running job at its step boundary, or a hold does as if it had (R190, R208). How far a solve
had come is a free value. (log 106) -/
def State.endAtDeadline (s : State) (n : Fin 16) (held : Bool) : State :=
  let s := s.setJob n fun j => { j with status := { j.status with HELD := BitVec.ofNat 1 (bit held) } }
  let x := s.cs n
  match x.job with
  | none => s
  | some j =>
    match j.phase with
    | .queued => s
    | .factor | .publish => s.endJob n 2 none
    | .solve =>
      let (first, s) := s.drawBit
      if first then s.endJob n 2 none
      else
        let (v, s) := s.drawList x.size
        let (r, s) := s.drawMag
        let (k, s) := s.draw
        let cap := s.cap (if j.stale then x.desc.STALE_STEPS_MAX else x.desc.REFINE_MAX).toNat
        let s := s.setJob n fun j => { j with steps := if cap = 0 then 0 else k.toNat % cap }
        let bn := F64.norm j.b
        if v.all F64.finite && F64.finite r then s.endJob n (j.codeOr 2) (some ⟨v, r, bn, within r (x.desc.bound bn)⟩)
        else s.endJob n 4 none
    | .iterate | .refactor =>
      if j.iters = 0 then s.endJob n 2 none
      else s.endJob n (j.codeOr 2) (j.cur.map Iterate.solution)
    | .polish =>
      (s.setJob n fun j => { j with status := { j.status with POLISH_NOT_USED := 1#1 } }).endJob n (j.codeOr 0) (j.best.map Iterate.solution)

/-- A held Crucible stops its job (R96, R190). (log 106) -/
def State.holdCrucible (s : State) : State :=
  match s.cru.running with
  | some n => if (cruEffect s.heatNow s.energyNow).holds then s.endAtDeadline n true else s
  | none => s

end Sys2Proof.Machine
end

