-- ==== Sys2Proof/Machine/Crucible.lean ====
section
/-! DEFINITION. The Crucible's commands, its symbolic analysis, and the events of a job (R175 to R215, R517). -/

namespace Sys2Proof.Machine

/-! ### Descriptors (R181, R196, R199, R200) -/

/-- The QP fields of a slot descriptor lie in their ranges (R196, R199). -/
def SlotDesc.qpOk (d : SlotDesc) : Bool :=
  1 ≤ d.N_POS.toNat && d.N_POS.toNat < d.N.toNat && 1 ≤ d.ITER_MAX.toNat && d.ITER_MAX.toNat ≤ 4000
    && (d.ADAPT_EVERY == 0#16 || (5 ≤ d.ADAPT_EVERY.toNat && d.ADAPT_EVERY.toNat ≤ 1000)) && d.POLISH_STEPS.toNat ≤ 4
    && 1 ≤ d.CHECK_EVERY.toNat && d.CHECK_EVERY.toNat ≤ 25 && d.ADAPT_MAX.toNat ≤ 8

/-- The fields of a slot descriptor lie in their ranges (R181); of an unused slot only JOB_TYPE counts. -/
def SlotDesc.inRange (d : SlotDesc) : Bool :=
  d.SLOT_ID.toNat ≤ 15 && d.JOB_TYPE.toNat ≤ 2
    && (d.JOB_TYPE == 0#8
      || (d.ORDERING.toNat ≤ 3 && 1 ≤ d.N.toNat && d.N.toNat ≤ 8192 && d.N.toNat ≤ d.NNZ_A.toNat && d.NNZ_A.toNat ≤ 262144
          && d.N_POS.toNat ≤ d.N.toNat && F64.inRange d.TAU 0x3C9CD2B297D889BC#64 0x3EB0C6F7A0B5ED8D#64
          && F64.le F64.zero d.EPS_ABS && F64.finite d.EPS_ABS && F64.le F64.zero d.EPS_REL && F64.finite d.EPS_REL
          && d.REFINE_MAX.toNat ≤ 3 && 1 ≤ d.STALE_STEPS_MAX.toNat && d.STALE_STEPS_MAX.toNat ≤ 64
          && d.DELTA_MAX.toNat ≤ d.NNZ_A.toNat && (d.JOB_TYPE != 2#8 || d.qpOk)))

/-- The QP parameters lie in their ranges (R200, R215). -/
def QpParams.inRange (p : QpParams) : Bool :=
  F64.inRange p.DELTA_REG 0x3D719799812DEA11#64 0x3F50624DD2F1A9FC#64 && F64.le 0x3E112E0BE826D695#64 p.RHO_MIN
    && F64.le p.RHO_MIN p.RHO_MAX && F64.le p.RHO_MAX 0x41CDCD6500000000#64 && F64.inRange p.RHO_INIT p.RHO_MIN p.RHO_MAX
    && F64.inRange p.RELAX 0x3FF0000000000000#64 0x3FFE666666666666#64
    && F64.inRange p.EQ_WEIGHT 0x3FF0000000000000#64 0x412E848000000000#64
    && F64.inRange p.BALANCE_BAND 0x4000000000000000#64 0x408F400000000000#64
    && (F64.eq p.EPS_INF F64.zero || F64.inRange p.EPS_INF 0x3D719799812DEA11#64 0x3F847AE147AE147B#64)

/-- A command about one slot: CRU_RANGE above 15 (R195). (log 164) -/
def onSlot (n : Nat) (k : Fin 16 → Served) : Served :=
  match asFin 16 n with
  | some c => k c
  | none => .refuse 0x0601 n 0

/-- A command about a slot that is used (R195). (log 164) -/
def State.onUsed (s : State) (n : Nat) (k : Fin 16 → Served) : Served :=
  onSlot n fun c => refuseIf ((s.cs c).desc.JOB_TYPE == 0#8) 0x0609 c.val (k c)

/-- CRU_SLOT_SET writes a slot descriptor (R179, R181). -/
def cmdCruSlotSet (rq : Request) (s : State) : State :=
  serve Cmd.cruSlotSet rq s fun s =>
    let d := SlotDesc.ofBytes rq.payload
    onSlot d.SLOT_ID.toNat fun c => refuseIf (!d.inRange) 0x0601 c.val (.done (s.setCs c fun x => { x with desc := d }) [])

/-- CRU_SLOT_GET reads a slot descriptor (R181). -/
def cmdCruSlotGet (rq : Request) (s : State) : State :=
  serve Cmd.cruSlotGet rq s fun s =>
    onSlot (rq.u8 0) fun c => .done s { (s.cs c).desc with SLOT_ID := BitVec.ofNat 8 c.val }.toBytes

/-- A part of a pattern image; one at offset 0 begins a new image (R179, log 42). -/
def Slot.load (x : Slot) (off : Nat) (part : List Byte) : Slot :=
  let base : Memory := if off = 0 then [] else x.pattern
  { x with
    pattern := base.write off part, patternLen := max (if off = 0 then 0 else x.patternLen) (off + part.length), reloaded := true,
    state := match x.state with | .analysed => .analysed | _ => .loading }

/-- CRU_PATTERN_LOAD writes a part of the pattern image (R179). -/
def cmdCruPatternLoad (rq : Request) (s : State) : State :=
  serve Cmd.cruPatternLoad rq s fun s =>
    s.onUsed (rq.u8 0) fun c => .done (s.setCs c fun x => x.load (rq.u32 4) (rq.payload.drop 8)) []

/-- CRU_ANALYSE starts the symbolic analysis; the reply follows its end (R180). -/
def cmdCruAnalyse (rq : Request) (s : State) : State :=
  serve Cmd.cruAnalyse rq s fun s =>
    s.onUsed (rq.u8 0) fun c =>
      .later (s.setCs c fun x => { x with analysing := x.analysing ++ [rq], analysisAt := if x.analysing.isEmpty then s.now else x.analysisAt })

/-- CRU_SLOT_INFO reads the slot information (R182). -/
def cmdCruSlotInfo (rq : Request) (s : State) : State :=
  serve Cmd.cruSlotInfo rq s fun s =>
    s.onUsed (rq.u8 0) fun c =>
      let x := s.cs c
      refuseIf (x.state != .analysed) 0x0606 c.val (.done s (x.info.toBytes (STATE := x.state.num)))

/-- The next REQ_SEQ of a submitted job: one more than the last written, never 0 (R183). (log 99) -/
def nextSeq (q : BitVec 32) : BitVec 32 := if q = BitVec.allOnes 32 then 1#32 else q + 1

/-- CRU_JOB_SUBMIT writes the request line of a slot that sessions drive; the reply carries its JOB_SEQ (R185, R195).
(log 99) -/
def cmdCruJobSubmit (rq : Request) (s : State) : State :=
  serve Cmd.cruJobSubmit rq s fun s =>
    onSlot (rq.u8 0) fun c =>
      let x := s.cs c
      refuseIf (1 < rq.u8 1) 0x0601 c.val <|
        refuseIf (x.desc.JOB_TYPE == 0#8) 0x0609 c.val <|
          refuseIf (x.state != .analysed) 0x0606 c.val <|
            refuseIf (x.desc.REQ_BY_SESSION == 0#1) 0x0607 c.val <|
              refuseIf x.job.isSome 0x0608 c.val <|
                let q := nextSeq x.req.REQ_SEQ
                let r : CruReq := { REQ_SEQ := q, INSET := BitVec.ofNat 8 (rq.u8 1), DEADLINE := BitVec.ofNat 64 (rq.u64 4) }
                .done (s.setCs c fun x => { x with req := r, reqNew := true }) (leBytes 4 q.toNat)

/-- CRU_RESULT_READ reads the index line and elements of a consistent copy of x (R192). -/
def cmdCruResultRead (rq : Request) (s : State) : State :=
  serve Cmd.cruResultRead rq s fun s =>
    s.onUsed (rq.u8 0) fun c =>
      let x := s.cs c
      let xs : List F64 := if x.index.X_SEQ == 0#32 then [] else (x.buf.get (if x.index.BUF == 0#8 then 0 else 1)).x
      .done s (x.index.toBytes ++ ((xs.drop (rq.u32 4)).take 500).flatMap fun v => leBytes 8 v.toNat)

/-- CRU_STATUS reads the engine status (R194). -/
def cmdCruStatus (rq : Request) (s : State) : State :=
  serve Cmd.cruStatus rq s fun s =>
    let e := cruEffect s.heatNow s.energyNow
    .done s (s.cru.stat.toBytes (BUSY := bit s.cru.running.isSome) (CAPS_HALVED_NOW := bit (1 ≤ s.heatNow && s.heatNow ≤ 2))
      (HELD_NOW := bit e.holds) (RUNNING_SLOT := match s.cru.running with | some n => n.val | none => 255) (QUEUED := s.cru.queue.length))

/-- CRU_CLEAR clears the engine's counters and sticky bit, every FACTOR_MAX_NS and the QP counters (R194, R214). -/
def cmdCruClear (rq : Request) (s : State) : State :=
  serve Cmd.cruClear rq s fun s =>
    .done { s with
      cru.stat := CruStat.dflt,
      cru.slot := s.cru.slot.map fun x => { x with
        info := { x.info with FACTOR_MAX_NS := 0#32 },
        qpInfo := { x.qpInfo with ADAPT_COUNT := 0#32, POLISH_REJECT_COUNT := 0#32, INFEAS_COUNT := 0#32 } } } []

/-- A command about a QP slot (R215). -/
def State.onQp (s : State) (n : Nat) (k : Fin 16 → Served) : Served :=
  onSlot n fun c => refuseIf (!(s.cs c).qpJob) 0x060B c.val (k c)

/-- CRU_QP_SET writes the QP parameter block (R200, R215). -/
def cmdCruQpSet (rq : Request) (s : State) : State :=
  serve Cmd.cruQpSet rq s fun s =>
    let p := QpParams.ofBytes (rq.payload.drop 8)
    s.onQp (rq.u8 0) fun c => refuseIf (!p.inRange) 0x060A c.val (.done (s.setCs c fun x => { x with qp := p }) [])

/-- CRU_QP_GET reads the QP parameter block (R200). -/
def cmdCruQpGet (rq : Request) (s : State) : State :=
  serve Cmd.cruQpGet rq s fun s => s.onQp (rq.u8 0) fun c => .done s (s.cs c).qp.toBytes

/-- CRU_QP_INFO reads the QP information (R214). -/
def cmdCruQpInfo (rq : Request) (s : State) : State :=
  serve Cmd.cruQpInfo rq s fun s =>
    s.onQp (rq.u8 0) fun c => .done s ((s.cs c).qpInfo.toBytes (RHO_CUR := (s.cs c).rhoCur.toNat))

/-- CRU_INPUT_WRITE writes part of an input set of a slot that sessions drive (R517). -/
def cmdCruInputWrite (rq : Request) (s : State) : State :=
  serve Cmd.cruInputWrite rq s fun s =>
    onSlot (rq.u8 0) fun c =>
      let x := s.cs c
      let off := rq.u32 4
      let part := rq.payload.drop 8
      refuseIf (x.desc.JOB_TYPE == 0#8) 0x0609 c.val <|
        refuseIf (x.state != .analysed) 0x0606 c.val <|
          refuseIf (x.desc.REQ_BY_SESSION == 0#1) 0x0607 c.val <|
            match asFin 2 (rq.u8 1) with
            | none => .refuse 0x0601 c.val 0
            | some i =>
              refuseIf (x.insetBytes < off + part.length) 0x0601 c.val (item := off) <|
                refuseIf (match x.job with | some j => j.inset == i | none => false) 0x0608 c.val <|
                  .done (s.setCs c fun x => { x with inset := upd x.inset i fun m => m.write off part }) []

/-- CRU_SLOT_SET (R181). -/
def execCruSlotSet (rq : Request) (s : State) : Host.Outcome State Fault Refusal := .next (s.command rq cmdCruSlotSet)
/-- CRU_SLOT_GET (R181). -/
def execCruSlotGet (rq : Request) (s : State) : Host.Outcome State Fault Refusal := .next (s.command rq cmdCruSlotGet)
/-- CRU_PATTERN_LOAD (R179). -/
def execCruPatternLoad (rq : Request) (s : State) : Host.Outcome State Fault Refusal := .next (s.command rq cmdCruPatternLoad)
/-- CRU_ANALYSE (R180). (log 105) -/
def execCruAnalyse (rq : Request) (s : State) : Host.Outcome State Fault Refusal := .next (s.command rq cmdCruAnalyse)
/-- CRU_SLOT_INFO (R182). -/
def execCruSlotInfo (rq : Request) (s : State) : Host.Outcome State Fault Refusal := .next (s.command rq cmdCruSlotInfo)
/-- CRU_JOB_SUBMIT (R185). -/
def execCruJobSubmit (rq : Request) (s : State) : Host.Outcome State Fault Refusal := .next (s.command rq cmdCruJobSubmit)
/-- CRU_RESULT_READ (R192). -/
def execCruResultRead (rq : Request) (s : State) : Host.Outcome State Fault Refusal := .next (s.command rq cmdCruResultRead)
/-- CRU_STATUS (R194). -/
def execCruStatus (rq : Request) (s : State) : Host.Outcome State Fault Refusal := .next (s.command rq cmdCruStatus)
/-- CRU_CLEAR (R194). -/
def execCruClear (rq : Request) (s : State) : Host.Outcome State Fault Refusal := .next (s.command rq cmdCruClear)
/-- CRU_QP_SET (R200). -/
def execCruQpSet (rq : Request) (s : State) : Host.Outcome State Fault Refusal := .next (s.command rq cmdCruQpSet)
/-- CRU_QP_GET (R200). -/
def execCruQpGet (rq : Request) (s : State) : Host.Outcome State Fault Refusal := .next (s.command rq cmdCruQpGet)
/-- CRU_QP_INFO (R214). -/
def execCruQpInfo (rq : Request) (s : State) : Host.Outcome State Fault Refusal := .next (s.command rq cmdCruQpInfo)
/-- CRU_INPUT_WRITE (R517). -/
def execCruInputWrite (rq : Request) (s : State) : Host.Outcome State Fault Refusal := .next (s.command rq cmdCruInputWrite)

/-! ### The symbolic analysis (R180, R182) -/

/-- The place of every row in the order of elimination, where the descriptor gives the order (R181). -/
def Slot.order (x : Slot) : Option (List Nat) :=
  match x.desc.ORDERING.toNat with
  | 2 => some (List.range x.size)
  | 3 => some ((List.range x.size).map fun r => x.perm.idxOf r)
  | _ => none

/-- The rows of column `j` of L below its diagonal: those of A, and those of its children in the elimination tree. -/
def columnOf (es : List (Nat × Nat)) (done : List (Nat × List Nat × Nat)) (j : Nat) : List Nat × Nat :=
  let own := es.filterMap fun e => if min e.1 e.2 = j && j < max e.1 e.2 then some (max e.1 e.2) else none
  let kids := done.filter fun d => d.2.1.min? == some j
  let rows := (own ++ kids.flatMap fun d => d.2.1).eraseDups.filter fun r => j < r
  (rows, 1 + (kids.map fun d => d.2.2).foldl max 0)

/-- Entries of L and D, and the height of the elimination tree, under an order of elimination (R182). -/
def fillOf (es : List (Nat × Nat)) (n : Nat) (order : List Nat) : Nat × Nat :=
  let es := es.map fun e => (order.getD e.1 0, order.getD e.2 0)
  let cols := (List.range n).foldl (fun done j => let c := columnOf es done j; (j, c.1, c.2) :: done) []
  ((cols.map fun d => d.2.1.length + 1).sum, (cols.map fun d => d.2.2).foldl max 0)

/-- What the analysis finds (R182): fill and tree under a given order are counted; under an order that the analysis
chooses, and for what depends on its schedule, they are free values (log 40). BOUND_NS and SPILL follow from them. -/
def Slot.analyse (x : Slot) (now : Nat) (s : State) : (SlotInfo × QpInfo) × State :=
  let (v, s) := s.drawList 13
  let w (k : Nat) : BitVec 32 := (v.getD k 0#64).setWidth 32
  let (nnz, height) := match x.order with
    | some o => fillOf x.entries x.size o
    | none => ((w 0).toNat, (w 1).toNat)
  let flops := v.getD 2 0#64
  ({ SlotInfo.dflt with
     SPILL := BitVec.ofNat 1 (bit (decide (4096 < (w 3).toNat))), N_SUPERNODES := (w 4).setWidth 16, NNZ_L := BitVec.ofNat 32 nnz,
     TREE_HEIGHT := BitVec.ofNat 32 height, SCRATCH_PEAK_KIB := w 3, FLOPS_FACTOR := flops,
     BOUND_NS := BitVec.ofNat 32 (max (flops.toNat / 8) (44 * height)), SOLVE_WC_NS := w 5, STEP_WC_NS := w 6,
     APPLY_WC_NS := w 7, FACTOR_WC_NS := w 8, SLOT_KIB := w 9, FACTOR_MAX_NS := x.info.FACTOR_MAX_NS,
     ANALYSIS_MS := BitVec.ofNat 32 ((now - x.analysisAt) / 125000), PATTERN_CRC := crc32 (x.pattern.read 0 x.patternLen) },
   { x.qpInfo with ITER_WC_NS := w 10, POLISH_WC_NS := w 11 }, s)
  |> fun (i, q, s) => ((i, q), s)

/-- The code that refuses an analysis, if any (R195). (log 105) -/
def Slot.analysisCode (x : Slot) (i : SlotInfo) : Nat :=
  if !x.formOk then 0x0603 else if !x.permOk then 0x0605 else if 262144 < i.NNZ_L.toNat then 0x0604 else 0

/-- ANALYSIS_COMPLETE (R180, R195): the slot is ANALYSED or FAILED, and the commands that wait are answered. -/
def execAnalysisComplete (slot : Fin 16) (s : State) : Host.Outcome State Fault Refusal :=
  .next <|
    let x := s.cs slot
    if x.analysing.isEmpty then s
    else
      let ((i, q), s) := x.analyse s.now s
      let c := x.analysisCode i
      let s := s.setCs slot fun x =>
        if c = 0 then { x with state := .analysed, info := i, qpInfo := q, reloaded := false, analysing := [] }
        else { x with state := .failed, analysing := [] }
      x.analysing.foldl (fun s rq =>
        if c = 0 then s.reply Cmd.cruAnalyse rq 0 [] else s.refuse Cmd.cruAnalyse rq c slot.val 0) s

/-! ### From request to start (R183 to R186, R204) -/

/-- The queue with a slot put in by its deadline, ties to the lower slot (R186). (log 99) -/
def State.enqueue (s : State) (n : Fin 16) : State :=
  let key (k : Fin 16) : Nat × Nat := (match (s.cs k).job with | some j => j.deadline | none => 0, k.val)
  { s with cru.queue := insertBy (fun a b => (key a).1 < (key b).1 || ((key a).1 == (key b).1 && a.val < b.val)) n s.cru.queue }

/-- A job as it is taken (R185). -/
def Job.fresh (seq : BitVec 32) (inset : Fin 2) (deadline now : Nat) (rho : F64) : Job :=
  { seq := seq, inset := inset, deadline := deadline, takenAt := now, inTag := 0#64, phase := .queued, status := JobStatus.dflt,
    factorAt := 0, factorNs := 0, steps := 0, iters := 0, refactors := 0, polished := 0, stale := false, rho := rho, rhoNext := rho,
    b := [], lo := [], hi := [], cur := none, best := none, checks := 0, last := none, polishPt := none }

/-- CRU_REQUEST_TAKE (R185): a request is taken as a job, or ignored while its slot is outstanding. An INSET above 1
names no set: which is read is free. (log 100) -/
def execCruRequestTake (slot : Fin 16) (s : State) : Host.Outcome State Fault Refusal :=
  .next <|
    let x := s.cs slot
    if s.inRun && x.reqNew && x.desc.JOB_TYPE != 0#8 then
      let s := s.setCs slot fun x => { x with reqNew := false }
      if x.job.isSome then
        { s.setCs slot fun x => { x with ignored := true } with
          cru.stat := { s.cru.stat with REQ_IGNORED_COUNT := sat s.cru.stat.REQ_IGNORED_COUNT } }
      else
        let (b, s) := if 1 < x.req.INSET.toNat then s.drawBit else (x.req.INSET == 1#8, s)
        let j := Job.fresh x.req.REQ_SEQ (if b then 1 else 0) (s.tm.countOf x.req.DEADLINE) s.now x.rhoCur
        (s.setCs slot fun x => { x with lastSeq := x.req.REQ_SEQ, job := some j }).enqueue slot
    else s

/-- The job goes on to its solve or its iteration, with what the factor it uses says (R189, R201, R203). -/
def State.beginSolve (s : State) (n : Fin 16) (stale : Bool) : State :=
  let x := s.cs n
  let f := x.front
  let warm := x.desc.WARM == 1#1 && x.warmOk
  s.setJob n fun j =>
    { j with
      stale := stale, phase := if x.qpJob then .iterate else .solve,
      status := { j.status with
        PIVOT_PERTURBED := BitVec.ofNat 1 (bit (match f with | some f => f.perturb != 0#16 | none => false)),
        INERTIA_WRONG := BitVec.ofNat 1 (bit (match f with | some f => f.inertia | none => false)),
        WARM_STARTED := BitVec.ofNat 1 (bit (x.qpJob && warm)) } }

/-- The deltas have passed Check: A_cur, its norms and the equality rows, and whether the front factor still belongs to
them (R184, R186, R204). -/
def Slot.applied (x : Slot) (ds : List DeltaEntry) (lo hi : List F64) : Slot :=
  let a := ds.foldl applyDelta x.aCur
  let eqs := (List.zip lo hi).map fun e => F64.eq e.1 e.2
  let same := a == x.aCur && (!x.qpJob || eqs == x.eqRows)
  { x with
    aCur := a, norms := x.rowNorms a, eqRows := eqs, front := x.front.map fun f => { f with ofCur := f.ofCur && same },
    qpInfo := { x.qpInfo with N_EQ := BitVec.ofNat 32 (eqs.filter id).length } }

/-- The front factor serves the job as it stands (R186, R204). (log 101) -/
def Slot.factorServes (x : Slot) : Bool :=
  match x.front with
  | some f => f.ofCur && (!x.qpJob || f.rho == x.rhoCur)
  | none => false

/-- CRU_JOB_START (R186): the first job of the queue runs its Check and Apply; a held Crucible starts none (R96). -/
def execCruJobStart (s : State) : Host.Outcome State Fault Refusal :=
  .next <|
    match s.cru.running, s.cru.queue with
    | none, n :: rest =>
      let x := s.cs n
      match x.job with
      | none => s
      | some j =>
        if !s.inRun || (cruEffect s.heatNow s.energyNow).holds then s
        else
          let m := x.inset.get j.inset
          let (b, lo, hi) := x.vectors m
          let s : State := { s with cru.queue := rest, cru.running := some n }
          let s := s.setCs n fun x => { x with initial := false }
          let s := s.setJob n fun j =>
            { j with
              inTag := BitVec.ofNat 64 (m.num 8 8), b := b, lo := lo, hi := hi, rho := x.rhoCur,
              status := { j.status with VALUES_INITIAL := BitVec.ofNat 1 (bit x.initial) } }
          match x.check m with
          | .error c =>
            (s.setJob n fun j => { j with status := { j.status with INPUT_NONFINITE := BitVec.ofNat 1 (bit (c == 4)) } }).endJob n c none
          | .ok ds =>
            let s := s.setCs n fun x => x.applied ds lo hi
            if !((s.cs n).aCur.all F64.finite) then s.endJob n 4 none
            else if j.deadline ≤ s.now then s.endJob n 2 none
            else if (s.cs n).factorServes then s.beginSolve n false
            else s.setJob n fun j => { j with phase := .factor, factorAt := s.now }
    | _, _ => s

/-! ### The factorisation (R187, R189, R190, R204 to R206) -/

/-- The time of a factorisation that ends now is counted. -/
def State.factorTime (s : State) (n : Fin 16) (whole : Bool) : State :=
  s.setCs n fun x =>
    match x.job with
    | some j =>
      let t := 8 * (s.now - j.factorAt)
      { x with
        job := some { j with factorNs := j.factorNs + t },
        info := if whole then { x.info with FACTOR_MAX_NS := maxBv x.info.FACTOR_MAX_NS t } else x.info }
    | none => x

/-- A factorisation completes with a penalty: whether its numbers stayed finite; and the factor, whose replaced pivots
and signs are free values (R189, log 40). -/
def State.newFactor (s : State) (rho : F64) : Bool × Factor × State :=
  let (p, s) := s.draw
  let (i, s) := s.drawBit
  let (ok, s) := s.drawBit
  (ok, { ofCur := true, rho := rho, perturb := p.setWidth 16, inertia := i, key := s.free }, s)

/-- CRU_FACTOR_COMPLETE (R186, R187, R189): the back factor becomes the front factor, and the job goes on; a wrong sign
ends a QP job as NONCONVEX (R208). -/
def execCruFactorComplete (s : State) : Host.Outcome State Fault Refusal :=
  .next <|
    match s.runningJob with
    | some (n, x, j) =>
      if j.phase == .factor then
        let s := s.factorTime n true
        let (ok, f, s) := s.newFactor j.rho
        if !ok then s.endJob n 4 none
        else
          let s := (s.setCs n fun x => { x with front := some f }).beginSolve n false
          if x.qpJob && f.inertia then s.endJob n 10 none else s
      else s
    | none => s

/-- CRU_FACTOR_CUTOFF (R190, R205, R206): Factor stops where a front factor exists, and the job goes on with that one;
a refactor is given up. -/
def execCruFactorCutoff (s : State) : Host.Outcome State Fault Refusal :=
  .next <|
    match s.runningJob with
    | some (n, x, j) =>
      if !s.pastCutoff x j then s
      else
        match j.phase with
        | .factor => if x.front.isSome then (s.factorTime n false).beginSolve n true else s
        | .refactor => ((s.factorTime n false).setJob n fun j => { j with phase := .iterate, rhoNext := j.rho })
        | _ => s
    | none => s

/-- CRU_DEADLINE (R190, R208): the running job's deadline has passed. -/
def execCruDeadline (slot : Fin 16) (s : State) : Host.Outcome State Fault Refusal :=
  .next <|
    match s.runningJob with
    | some (n, _, j) => if n = slot && j.deadline ≤ s.now then s.endAtDeadline n false else s
    | none => s

/-! ### LIN jobs (R188) -/

/-- CRU_SOLVE_COMPLETE (R188, R190): solve and refinement have ended on the test, the cap or no gain. -/
def execCruSolveComplete (s : State) : Host.Outcome State Fault Refusal :=
  .next <|
    match s.runningJob with
    | some (n, x, j) =>
      if j.phase == .solve then
        let halved := s.capsHalved
        let cap := s.cap (if j.stale then x.desc.STALE_STEPS_MAX else x.desc.REFINE_MAX).toNat
        let bn := F64.norm j.b
        let bound := x.desc.bound bn
        let (v, s) := s.drawList x.size
        let (r, s) := s.drawMag
        let s := s.setJob n fun j => { j with status := { j.status with CAP_HALVED := BitVec.ofNat 1 (bit halved) } }
        if !(v.all F64.finite && F64.finite r) then s.endJob n 4 none
        else
          let ((v, r, k, ok), s) := refine bound cap s v r 0
          let s := s.setJob n fun j => { j with steps := k }
          if !ok then s.endJob n 4 none
          else s.endJob n (j.codeOr (if within r bound then 0 else 1)) (some ⟨v, r, bn, within r bound⟩)
      else s
    | none => s

/-! ### QP jobs (R201 to R209) -/

/-- ITER_MAX as it counts now (R209). -/
def State.iterCap (s : State) (x : Slot) : Nat := max 1 (s.cap x.desc.ITER_MAX.toNat)

/-- Refinement steps of one KKT solve (R201, R206): none on a fresh factor without replaced pivots; else a free number
within its cap. -/
def State.kktSteps (s : State) (x : Slot) (j : Job) : Nat × State :=
  let perturbed := match x.front with | some f => f.perturb != 0#16 | none => false
  if !j.stale && !perturbed then (0, s)
  else
    let cap := s.cap (if j.stale then x.desc.STALE_STEPS_MAX else x.desc.REFINE_MAX).toNat
    let (k, s) := s.draw
    (k.toNat % (cap + 1), s)

/-- The sum of test 2 has no open side with weight. -/
def closedSides (dy lo hi : List F64) : Bool :=
  (List.zip dy (List.zip lo hi)).all fun e =>
    !(F64.lt F64.zero e.1 && F64.isInf e.2.2) && !(F64.lt e.1 F64.zero && F64.isInf e.2.1)

/-- A number of C·δx lies within a tolerance of the recession cone of its side (R202). -/
def inCone (v : F64) (tol : Dyad) (lo hi : F64) : Bool :=
  (F64.isInf hi || !(tol.lt (F64.val v))) && (F64.isInf lo || !((F64.val v).lt ⟨-tol.m, tol.e⟩))

/-- The differences of two vectors. -/
def diffs (a b : List F64) : List F64 := List.zipWith F64.sub a b

/-- The negative of a dyadic number. -/
def Dyad.neg (a : Dyad) : Dyad := ⟨-a.m, a.e⟩

/-- Tests 2 and 3 of R202 between two checks, with free values for the products that they take: 8, 9, or none. -/
def State.infeasible (s : State) (x : Slot) (j : Job) (old new : Iterate) : Option Nat × State :=
  let dy := diffs new.y old.y
  let dx := diffs new.x old.x
  let tolY := (F64.val x.qp.EPS_INF).mul (F64.val (F64.norm dy))
  let tolX := (F64.val x.qp.EPS_INF).mul (F64.val (F64.norm dx))
  let (cy, s) := s.drawMag
  let (sum, s) := s.draw
  let (px, s) := s.drawMag
  let (qx, s) := s.draw
  let (cx, s) := s.drawList j.lo.length
  if within cy tolY && closedSides dy j.lo j.hi && F64.finite sum && (F64.val sum).lt tolY.neg then (some 8, s)
  else if within px tolX && F64.finite qx && (F64.val qx).lt tolX.neg
      && (List.zip cx (List.zip j.lo j.hi)).all (fun e => F64.finite e.1 && inCone e.1 tolX e.2.1 e.2.2) then (some 9, s)
  else (none, s)

/-- The iteration ends on an iterate with a code: it is published, or polished first (R207, R208). (log 102) -/
def State.endIteration (s : State) (n : Fin 16) (code : Nat) : State :=
  let x := s.cs n
  match x.job with
  | none => s
  | some j =>
    let steps := s.cap x.desc.POLISH_STEPS.toNat
    let wanted := x.desc.POLISH_STEPS != 0#8 && code == 0 && !j.stale
    let room := 8 * s.now + steps * x.qpInfo.POLISH_WC_NS.toNat ≤ 8 * j.deadline
    if wanted && steps != 0 && room then s.setJob n fun j => { j with phase := .polish, polished := 0, polishPt := none }
    else
      (s.setJob n fun j => { j with status := { j.status with POLISH_NOT_USED := BitVec.ofNat 1 (bit wanted) } }).endJob n
        (j.codeOr code) (j.best.map Iterate.solution)

/-- The least value of a normalised bound, 1e−30 (R205). -/
def tiny : F64 := 0x39B4484BFEEBC2A0#64

/-- The penalty that residual balancing proposes (R205). -/
def proposeRho (p : QpParams) (rho : F64) (i : Iterate) : Option F64 :=
  let a := (F64.val i.rp).mul (F64.val (F64.max i.nd tiny))
  let b := (F64.val i.rd).mul (F64.val (F64.max i.np tiny))
  let mu := F64.val p.BALANCE_BAND
  let r :=
    if (mu.mul b).lt a then F64.min (F64.mul rho (F64.sqrt p.BALANCE_BAND)) p.RHO_MAX
    else if (mu.mul a).lt b then F64.max (F64.div rho (F64.sqrt p.BALANCE_BAND)) p.RHO_MIN
    else rho
  if r == rho then none else some r

/-- The adaptation test at a check (R205): a refactor begins, or the proposal is skipped. -/
def State.adapt (s : State) (n : Fin 16) (x : Slot) (j : Job) (i : Iterate) : State :=
  if j.stale || x.desc.ADAPT_EVERY == 0#16 || j.iters % x.desc.ADAPT_EVERY.toNat != 0 then s
  else
    match proposeRho x.qp j.rho i with
    | none => s
    | some r =>
      let room := 8 * s.now + x.info.FACTOR_WC_NS.toNat + x.reserveNs < 8 * j.deadline
      if j.refactors < x.desc.ADAPT_MAX.toNat && room then
        s.setJob n fun j => { j with phase := .refactor, rhoNext := r, factorAt := s.now }
      else s.setJob n fun j => { j with status := { j.status with ADAPT_SKIPPED := 1#1 } }

/-- The termination checks on an iterate, in the order of R202, and the adaptation (R202, R205). -/
def State.checkIterate (s : State) (n : Fin 16) (x : Slot) (j : Job) (i : Iterate) : State :=
  let best := match j.best with
    | some b => if ratioLe (b.ratio x.desc) (i.ratio x.desc) then b else i
    | none => i
  let s := s.setJob n fun j => { j with best := some best, checks := j.checks + 1, last := some i }
  if i.met then s.endIteration n 0
  else
    let (bad, s) := match j.last with
      | some o => if j.stale || F64.eq x.qp.EPS_INF F64.zero then (none, s) else s.infeasible x j o i
      | none => (none, s)
    match bad with
    | some c => s.endJob n c none
    | none => if s.iterCap x ≤ j.iters then s.endIteration n 1 else s.adapt n x j i

/-- QP_ITERATION_COMPLETE (R201, R202, R205, R206, R209): one iteration, with the checks at every CHECK_EVERY-th. -/
def execQpIterationComplete (s : State) : Host.Outcome State Fault Refusal :=
  .next <|
    match s.runningJob with
    | some (n, x, j) =>
      if j.phase == .iterate then
        let halved := s.capsHalved
        let (k, s) := s.kktSteps x j
        let (i, s) := s.freeIterate x j
        let j := { j with iters := j.iters + 1, steps := j.steps + k, cur := some i,
                          status := { j.status with CAP_HALVED := j.status.CAP_HALVED ||| BitVec.ofNat 1 (bit halved) } }
        let s := s.setJob n fun _ => j
        if !i.finite then s.endJob n 4 none
        else if j.iters % x.desc.CHECK_EVERY.toNat = 0 then s.checkIterate n x j i
        else s
      else s
    | none => s

/-- QP_REFACTOR_COMPLETE (R205, R208): the factor for the new penalty is swapped to the front. -/
def execQpRefactorComplete (s : State) : Host.Outcome State Fault Refusal :=
  .next <|
    match s.runningJob with
    | some (n, _, j) =>
      if j.phase == .refactor then
        let s := s.factorTime n true
        let (ok, f, s) := s.newFactor j.rhoNext
        if !ok then s.endJob n 4 none
        else
          let s := s.setCs n fun x =>
            { x with front := some f, rhoCur := j.rhoNext,
                     qpInfo := { x.qpInfo with ADAPT_COUNT := sat x.qpInfo.ADAPT_COUNT } }
          let s := s.setJob n fun j =>
            { j with phase := .iterate, rho := j.rhoNext, refactors := j.refactors + 1,
                     status := { j.status with
                       RHO_CHANGED := 1#1,
                       PIVOT_PERTURBED := j.status.PIVOT_PERTURBED ||| BitVec.ofNat 1 (bit (f.perturb != 0#16)),
                       INERTIA_WRONG := j.status.INERTIA_WRONG ||| BitVec.ofNat 1 (bit f.inertia) } }
          if f.inertia then s.endJob n 10 none else s
      else s
    | none => s

/-- The end of a polish (R207): the polished point where it meets test 1 and is no worse than the best iterate, else
the best iterate. (log 104) -/
def State.endPolish (s : State) (n : Fin 16) (accept : Bool) (i : Iterate) : State :=
  match (s.cs n).job with
  | none => s
  | some j =>
    if accept then
      (s.setJob n fun j => { j with status := { j.status with POLISHED := 1#1 } }).endJob n 0 (some i.solution)
    else
      (s.setJob n fun j => { j with status := { j.status with POLISH_NOT_USED := 1#1 } }).endJob n 0 (j.best.map Iterate.solution)

/-- POLISH_STEP_COMPLETE (R207, R208): one Newton step, whose point and signs are free values; a wrong sign rejects the
polish. -/
def execPolishStepComplete (s : State) : Host.Outcome State Fault Refusal :=
  .next <|
    match s.runningJob with
    | some (n, x, j) =>
      if j.phase == .polish then
        let (wrong, s) := s.drawBit
        let (i, s) := s.freeIterate x j
        let s := s.setJob n fun j => { j with polished := j.polished + 1, polishPt := some i }
        if wrong then s.endPolish n false i
        else if !i.finite then s.endJob n 4 none
        else if j.polished + 1 < s.cap x.desc.POLISH_STEPS.toNat then s
        else s.endPolish n (i.met && (match j.best with | some b => ratioLe (i.ratio x.desc) (b.ratio x.desc) | none => true)) i
      else s
    | none => s

/-! ### Scratch errors (R177) -/

/-- The running job ends with FAULT; the slot's next job factorises from the resident values, whether a front factor still
stands, as after an error in scratch, or not, as after one in CRUC (R40, R177). (log 101) -/
def State.faultJob (s : State) (n : Fin 16) (frontLost : Bool := true) : State :=
  (s.endJob n 6 none).setCs n fun x => { x with front := if frontLost then none else x.front.map fun f => { f with ofCur := false } }

/-- SCRATCH_ERROR (R177): a corrected error is counted; an uncorrectable one ends the job with FAULT. -/
def execScratchError (uncorrectable : Bool) (s : State) : Host.Outcome State Fault Refusal :=
  .next <|
    if !uncorrectable then { s with cru.stat := { s.cru.stat with SCRATCH_CE_COUNT := sat s.cru.stat.SCRATCH_CE_COUNT } }
    else
      let s : State := { s with cru.stat := { s.cru.stat with SCRATCH_UE_SEEN := 1#1 } }
      let s := s.event 4 0x0680 0xFF 0 (match s.cru.running with | some n => n.val | none => 0xFF)
      match s.cru.running with
      | some n => s.faultJob n (frontLost := false)
      | none => s

end Sys2Proof.Machine
end

