-- ==== Sys2Proof/Machine/Motion.lean ====
section
/-! DEFINITION. The motion unit (R295 to R321): requests, moves, tables, gearing, the drive link, limits, homing, encoders, and
the commands of the unit. -/

namespace Sys2Proof.Machine

/-! ### Inputs of the unit -/

/-- The command record of an axis (R299). -/
def State.axisCmd (s : State) (n : Fin 8) : AxisCmd := AxisCmd.ofBytes (s.img.read (0x200 + 16 * n.val) 16)

/-- The gear record of an axis (R305). -/
def State.gearRec (s : State) (n : Fin 8) : GearRec := GearRec.ofBytes (s.img.read (0x380 + 16 * n.val) 16)

/-- The axis is in use (R318). -/
def Axis.used (x : Axis) : Bool := x.desc.USED == 1#1

/-- The unit takes commands of an axis: in RUN, on the module that drives it (R297). (log 125) -/
def State.takesMotion (s : State) (n : Fin 8) : Bool := (s.mx n).used && s.drives (0x200 + 16 * n.val)

/-- The filtered state of a DIO input in IMAGE. -/
def State.dioState (s : State) (c : Nat) : Bool := (s.img.get (dioOff c)).getLsbD 0

/-- A limit input reads tripped: it is on, or its value is BAD, NOT_AVAILABLE or STALE (R311). -/
def State.limitReads (s : State) (c : BitVec 8) : Bool :=
  c != 0xFF#8 && (let q := s.qualityAt (dioOff c.toNat); s.dioState c.toNat || 2 ≤ classOf q || isStale q)

/-- The input of a limit. -/
def Axis.limitDio (x : Axis) (positive : Bool) : BitVec 8 := if positive then x.desc.LIM_POS_DIO else x.desc.LIM_NEG_DIO

/-- The flag of a limit. -/
def Axis.limited (x : Axis) (positive : Bool) : Bool := if positive then x.stat.LIMIT_POS == 1#1 else x.stat.LIMIT_NEG == 1#1

/-- The axis with the flag of a limit set or cleared. -/
def Axis.setLimited (x : Axis) (positive on : Bool) : Axis :=
  let b := BitVec.ofNat 1 (bit on)
  { x with stat := if positive then { x.stat with LIMIT_POS := b } else { x.stat with LIMIT_NEG := b } }

/-- A direction is forbidden by NO_REV (R301). (log 130) -/
def forbids (noRev : BitVec 2) (positive : Bool) : Bool := if positive then noRev == 2#2 else noRev == 1#2

/-! ### Ends of modes -/

/-- The axis keeps no table, gear or homing run. -/
def Axis.endMode (x : Axis) : Axis := { x with tbl := none, gear := none, armed := none, home := none, stat := { x.stat with REVERSING := 0#1, GEAR_SYNC := 0#1, LAG := 0#32 } }

/-- The axis decelerates to rest at a rate, and ends every mode (R302, R306, R311). -/
def Axis.rampDown (x : Axis) (rate : Nat) : Axis :=
  if x.state == .disabled || x.state == .idle then x
  else if x.atRest then { x.endMode with state := .idle }
  else { x.endMode with state := .stopping, stopRate := rate }

/-- The reason of a refusal, or of a failed homing or gearing, is reported (R319). -/
def Axis.report (x : Axis) (code : Nat) : Axis := { x with stat := { x.stat with REFUSE := BitVec.ofNat 16 code } }

/-- A request is refused: the axis does on what it did (R300). -/
def Axis.refuse (x : Axis) (code : Nat) : Axis :=
  { x.report code with stat := { (x.report code).stat with TARGET_REFUSED := 1#1 }, count := { x.count with REFUSED_COUNT := sat x.count.REFUSED_COUNT } }

/-- A failed homing: HOME_FAIL, its reason, and the position uncertain (R313). (log 130) -/
def Axis.homeFail (x : Axis) (code : Nat) : Axis :=
  let x := (x.rampDown x.desc.DEC.toNat).report code
  { x with stat := { x.stat with HOME_FAIL := 1#1, POSITION_UNCERTAIN := 1#1, HOMED := 0#1 } }

/-! ### What a motion includes (R301, R304) -/

/-- A target as the axis reaches it: on a modulo axis the shorter way round, ties positive, or the permitted direction (R295).
(log 126) -/
def Axis.targetOf (x : Axis) (cmd : AxisCmd) : Int :=
  let t := if cmd.ARG.getLsbD 0 then x.pos + cmd.TARGET.toInt else cmd.TARGET.toInt
  if x.turn = 0 then t
  else
    let d := (t - x.pos) % x.turn
    x.pos + (if x.desc.NO_REV = 1#2 then d else if x.desc.NO_REV = 2#2 then (if d = 0 then 0 else d - x.turn) else if 2 * d ≤ x.turn then d else d - x.turn)

/-- The target lies ahead: it is reached without reversal (R301). -/
def Axis.ahead (x : Axis) (target : Int) : Bool :=
  let left := target * stepUnit - x.exact
  if x.atRest then true else if 0 < x.vel then decide (x.stopDist ≤ left) else decide (left ≤ -x.stopDist)

/-- A move to a target travels in a direction (R301). -/
def Axis.moveGoes (x : Axis) (target : Int) (positive : Bool) : Bool :=
  let left := target * stepUnit - x.exact
  if x.atRest then (if positive then decide (0 < left) else decide (left < 0))
  else if x.ahead target then decide (0 < x.vel) == positive
  else true

/-- What the curve of a segment does: its peaks exceed a speed or an acceleration, it travels forward, it travels backward
(R304). Lengths `p`, `q` in fine steps, speeds `v`, `w` in fine steps per second, `d` in µs. -/
def curveFacts (p v q w : Int) (d vmax amax : Nat) : Bool × Bool × Bool :=
  let n : Int := d
  let a : Int := 6000000 * (p - q) + 3 * n * (v + w)
  let b : Int := -6000000 * (p - q) - n * (4 * v + 2 * w)
  let c : Int := n * v
  let inside : Bool := if 0 < a then decide (0 < -b) && decide (-b < 2 * a) else if a < 0 then decide (0 < b) && decide (b < -2 * a) else false
  let peak : Int := 4 * a * c - b * b
  let up : Bool := decide (0 < peak) == decide (0 < a)
  let fast := vmax < v.natAbs || vmax < w.natAbs || (inside && decide ((4 * vmax * d : Int) * a.natAbs < peak.natAbs))
  let acc0 : Int := 1000000 * b
  let acc1 : Int := 1000000 * (2 * a + b)
  let hard := decide (((amax * d * d : Nat) : Int) < acc0.natAbs) || decide (((amax * d * d : Nat) : Int) < acc1.natAbs)
  (fast || hard, decide (0 < v) || decide (0 < w) || (inside && peak != 0 && up), decide (v < 0) || decide (w < 0) || (inside && peak != 0 && !up))

/-- Segments of a table that count. -/
def SegTable.count (t : SegTable) : Nat := t.head.N_SEG.toNat

/-- The facts of every segment of a table, from a position. (log 127) -/
def SegTable.facts (t : SegTable) (x : Axis) (start : Int) : List (Bool × Bool × Bool) :=
  (List.range t.count).map fun k =>
    let (p, v) := t.from k start
    let (q, w) := t.until k start
    curveFacts p v q w (t.dur k) x.desc.VEL_MAX.toNat x.desc.DEC_QUICK.toNat

/-- Why a table may not run from a position, with the codes of R300: not loaded, a peak, a tripped limit, a forbidden direction,
or an end beyond the range. (log 127) -/
def SegTable.refused (t : SegTable) (x : Axis) (start : Int) : Option Nat :=
  let f := t.facts x start
  let fwd := f.any fun e => e.2.1
  let back := f.any fun e => e.2.2
  let ends := (List.range t.count).map fun k => (t.until k start).1
  if !t.loaded then some 0x0912
  else if f.any fun e => e.1 then some 0x0904
  else if (fwd && x.limited true) || (back && x.limited false) then some 0x0907
  else if (fwd && forbids x.desc.NO_REV true) || (back && forbids x.desc.NO_REV false) then some 0x0906
  else if x.turn = 0 && ends.any fun p => p < -(2 ^ 31) || 2 ^ 31 ≤ p then some 0x0911
  else none

/-! ### Requests (R300) -/

/-- The direction in which a homing search runs: positive for HOME_DIR 0 (R312). -/
def Axis.homeUp (x : Axis) : Bool := x.desc.HOME_DIR == 0#8

/-- The input that homing watches: the limit in HOME_DIR for method 2, else the home switch (R312). -/
def Axis.homeDio (x : Axis) : BitVec 8 := if x.desc.HOME_METHOD == 2#8 then x.limitDio x.homeUp else x.desc.HOME_DIO

/-- The state of the input that homing watches. -/
def State.homeSwitch (s : State) (x : Axis) : Bool := if x.desc.HOME_METHOD == 2#8 then s.limitReads x.homeDio else s.dioState x.homeDio.toNat

/-- A homing run begins by leaving the switch (R312). -/
def State.homeLeaves (s : State) (x : Axis) : Bool := (x.desc.HOME_METHOD == 1#8 || x.desc.HOME_METHOD == 3#8) && s.homeSwitch x

/-- Why the gear record of an axis is refused (R300, R305). (log 128) -/
def State.gearInvalid (s : State) (g : GearRec) : Bool :=
  g.DEN == 0#32 || 65536 * g.DEN.toNat < g.NUM.toInt.natAbs
    || (match asFin 8 g.MASTER_ENC.toNat with | some e => (s.mot.enc.get e).desc.MODE != 1#8 | none => true)

/-- The first code of R300 that refuses a request. (log 125) -/
def State.requestCode (s : State) (n : Fin 8) (cmd : AxisCmd) : Option Nat :=
  let x := s.mx n
  let m := cmd.MODE_REQ.toNat
  if m = 0 || m = 1 || m = 2 || m = 9 || 9 < m then none
  else if s.isl.killed.get 8 then some 0x0908
  else if x.btHold then some 0x0909
  else if m = 8 then none
  else if x.stat.EN_ON == 0#1 then some 0x090A
  else if (m = 3 || m = 5) && x.stat.POSITION_UNCERTAIN == 1#1 then some 0x0905
  else if (m = 5 || m = 7) && !x.atRest then some 0x090C
  else if m = 3 then
    let t := x.targetOf cmd
    let up := x.moveGoes t true
    let down := x.moveGoes t false
    if (up && x.limited true) || (down && x.limited false) then some 0x0907
    else if (up && forbids x.desc.NO_REV true) || (down && forbids x.desc.NO_REV false) then some 0x0906
    else if x.turn = 0 && (t < -(2 ^ 31) || 2 ^ 31 ≤ t) then some 0x0911
    else none
  else if m = 4 then
    if (decide (0 < cmd.VEL.toInt) && x.limited true) || (decide (cmd.VEL.toInt < 0) && x.limited false) then some 0x0907 else none
  else if m = 5 then
    match asFin 16 cmd.ARG.toNat with
    | none => some 0x0912
    | some k =>
      let t := s.mot.table.get k
      if t.loaded && t.head.V_START != 0#32 then some 0x0904 else t.refused x x.pos
  else if m = 6 then (if s.gearInvalid (s.gearRec n) then some 0x090B else none)
  else if x.desc.HOME_METHOD == 4#8 then none
  else if x.limited (x.homeUp != s.homeLeaves x) then some 0x0907
  else if x.desc.NO_REV != 0#2 then some 0x0906
  else none

/-- HOME_FAST and HOME_VEL as velocities, in or against HOME_DIR (R312). -/
def Axis.homeSpeed (x : Axis) (v : BitVec 32) (along : Bool) : Int := if x.homeUp == along then (v.toNat * velUnit : Nat) else -((v.toNat * velUnit : Nat) : Int)

/-- The speed of a phase of a homing run (R312). -/
def Axis.phaseSpeed (x : Axis) (p : HomePhase) : Int :=
  match p with
  | .leave => x.homeSpeed x.desc.HOME_VEL false
  | .search => x.homeSpeed x.desc.HOME_FAST true
  | .searchBack => x.homeSpeed x.desc.HOME_FAST false
  | .back => x.homeSpeed x.desc.HOME_VEL false
  | .seek | .index => x.homeSpeed x.desc.HOME_VEL true
  | .stop | .captured => 0

/-- The next phase of a homing run (R312). -/
def Axis.homeNext (x : Axis) (p : HomePhase) (now : Nat) : Axis :=
  { x with want := x.phaseSpeed p, stopRate := if p == .stop && x.desc.HOME_METHOD == 2#8 then x.desc.DEC_QUICK.toNat else x.desc.DEC.toNat,
           home := x.home.map fun h => { h with phase := p, since := now } }

/-- A captured position is taken, and the axis decelerates (R312). -/
def Axis.homeCapture (x : Axis) (p : Int) (now : Nat) : Axis :=
  let x := x.homeNext .captured now
  { x with home := x.home.map fun h => { h with capture := some p } }

/-- A homing run starts (R312). -/
def State.startHome (s : State) (x : Axis) : Axis :=
  let h : Homing := { phase := .search, begun := s.now, since := s.now, chatter := 0, sw := s.homeSwitch x, edgeAt := s.now, edgePos := x.pos,
                      capture := none, turned := false }
  let x := { x.endMode with state := .homing, home := some h, stat := { x.stat with HOME_FAIL := 0#1 } }
  if x.desc.HOME_METHOD == 4#8 then x.homeCapture x.pos s.now else x.homeNext (if s.homeLeaves x then .leave else .search) s.now

/-- An axis that stops aborts the brake test that held it (R230). -/
def State.stopAxis (s : State) (n : Fin 8) (f : Axis → Axis) : State :=
  if (s.mx n).btHold then (s.setMx n f).abortTest else s.setMx n f

/-- A request that is not refused acts (R300 to R307, R312). (log 125) -/
def State.applyRequest (s : State) (n : Fin 8) (cmd : AxisCmd) : State :=
  let x := s.mx n
  let m := cmd.MODE_REQ.toNat
  let cleared (x : Axis) : Axis := { x with stat := { x.stat with AT_TARGET := 0#1, VEL_SRC_BAD := 0#1 } }
  if m = 1 then s.stopAxis n fun x => x.rampDown x.desc.DEC.toNat
  else if m = 2 then s.stopAxis n fun x => x.stopNow s.ts
  else if m = 9 then s.stopAxis n fun x => (x.stopNow s.ts).disable
  else if m = 8 then s.setMx n fun x => if x.en then x else { x with en := true, enAt := some s.now }
  else if m = 3 then
    let t := x.targetOf cmd
    let rev := !x.ahead t
    s.setMx n fun x =>
      let x := (cleared x).endMode
      { x with state := .position, target := t, profVel := cmd.PROF_VEL, stat := { x.stat with REVERSING := BitVec.ofNat 1 (bit rev) } }
  else if m = 4 then s.setMx n fun x => { (cleared x).endMode with state := .velocity, want := 0 }
  else if m = 5 then
    match asFin 16 cmd.ARG.toNat with
    | some k => s.setMx n fun x =>
        let x := (cleared x).endMode
        { x with state := .table, tbl := some (k, 0, s.now, x.pos), stat := { x.stat with CHAIN_BREAK := 0#1 } }
    | none => s
  else if m = 6 then
    let g := s.gearRec n
    match asFin 8 g.MASTER_ENC.toNat with
    | some e => s.setMx n fun x =>
        let x := (cleared x).endMode
        { x with state := .gear, gseq := g.GSEQ, stat := { x.stat with GEAR_FAULT := 0#1 },
                 gear := some { m0 := (s.mot.enc.get e).total, p0 := x.pos, num := g.NUM.toInt, den := g.DEN.toNat, enc := e, frac := 0, best := x.pos } }
    | none => s
  else if m = 7 then s.setMx n fun x => s.startHome (cleared x)
  else s

/-- The request of an axis is taken where CMD_SEQ differs from the last value taken (R299, R300). -/
def State.takeRequest (s : State) (n : Fin 8) : State :=
  let cmd := s.axisCmd n
  if !s.takesMotion n || cmd.CMD_SEQ == (s.mx n).lastSeq then s
  else
    let code := s.requestCode n cmd
    let s := s.setMx n fun x => { x with lastSeq := cmd.CMD_SEQ, stat := { x.stat with TARGET_REFUSED := 0#1 } }
    match code with
    | some c => s.setMx n fun x => x.refuse c
    | none => s.applyRequest n cmd

/-- VEL is followed in VELOCITY mode: a bad quality, or a forbidden sign, is taken as rest (R301, R302). -/
def State.followVel (s : State) (n : Fin 8) : State :=
  let cmd := s.axisCmd n
  let bad := 2 ≤ classOf cmd.VQUAL || isStale cmd.VQUAL
  s.setMx n fun x =>
    if x.state != .velocity then x
    else
      let q := cmd.VEL.toInt
      let q := if bad || (q != 0 && forbids x.desc.NO_REV (decide (0 < q))) then 0 else q
      { x with want := q * x.desc.VEL_MAX.toNat * velUnit / 32768, stat := { x.stat with VEL_SRC_BAD := BitVec.ofNat 1 (bit bad) } }

/-! ### Gearing (R306, R307) -/

/-- The signed difference of two counts. -/
def countDiff (a b : BitVec 32) : Int := (a - b).toInt

/-- An armed ratio is due: at once, or the count lies on the far side of CHANGE_POS or on it (R307). (log 128) -/
def ArmedRatio.due (a : ArmedRatio) (count : BitVec 32) : Bool :=
  !a.atPos || (let d0 := countDiff a.pos a.count
    let d := countDiff a.pos count
    decide (d = 0) || (decide (0 < d0) != decide (0 < d)) || decide (d0 = 0))

/-- An armed ratio that is due is applied: the reference goes on from its exact value there (R307). (log 128) -/
def State.applyRatio (s : State) (n : Fin 8) : State :=
  match (s.mx n).armed, (s.mx n).gear with
  | some a, some g =>
    let e := s.mot.enc.get g.enc
    if a.due e.count then
      let m := if a.atPos then e.total + countDiff a.pos e.count else e.total
      let p := g.exactAt m
      s.setMx n fun x => { x with armed := none, gear := some { g with m0 := m, p0 := p / 2 ^ 32, frac := (p % 2 ^ 32).toNat, num := a.num, den := a.den } }
    else s
  | _, _ => s

/-- A change of GSEQ arms a new ratio (R307). (log 128) -/
def State.armRatio (s : State) (n : Fin 8) : State :=
  let r := s.gearRec n
  match (s.mx n).gear with
  | some g =>
    if r.GSEQ == (s.mx n).gseq then s
    else s.setMx n fun x =>
      { x with gseq := r.GSEQ,
               armed := if s.gearInvalid r then x.armed
                 else some { num := r.NUM.toInt, den := r.DEN.toNat, atPos := r.AT_POS == 1#1, pos := r.CHANGE_POS, count := (s.mot.enc.get g.enc).count } }
  | none => s

/-- An armed ratio is applied (R307). -/
def execGearRatioChange (axis : Fin 8) (s : State) : Host.Outcome State Fault Refusal :=
  .next (if s.inRun then s.advanceAxes.applyRatio axis else s)

/-- The lag exceeds its limit: a stop at DEC_QUICK, GEAR_FAULT, and the reason (R306). -/
def execGearLagFault (axis : Fin 8) (s : State) : Host.Outcome State Fault Refusal :=
  let s1 := s.advanceAxes
  .next (if s.inRun && (s1.mx axis).state == .gear && 256 * (s1.mx axis).desc.LAG_MAX_FS.toNat < (s1.mx axis).stat.LAG.toInt.natAbs then
      s1.setMx axis fun x =>
        let x := (x.rampDown x.desc.DEC_QUICK.toNat).report 0x0910
        { x with stat := { x.stat with GEAR_FAULT := 1#1 } }
    else s)

/-! ### Limits (R311) -/

/-- A limit trips in the direction of travel: every mode ends, but a homing search is stopped or sent back (R311, R312).
(log 130) -/
def State.tripLimit (s : State) (n : Fin 8) (positive : Bool) : State :=
  s.stopAxis n fun x =>
    let x := x.setLimited positive true
    let x := { x with count := { x.count with LIMIT_TRIPS := sat x.count.LIMIT_TRIPS },
                      limPos := if positive then none else x.limPos, limNeg := if positive then x.limNeg else none }
    match x.home with
    | some h =>
      if x.desc.HOME_METHOD == 2#8 && h.phase == .search && positive == x.homeUp then x.homeNext .stop s.now
      else if h.phase == .search && !h.turned && positive == x.homeUp then
        let x := x.homeNext .searchBack s.now
        { x with home := x.home.map fun h => { h with turned := true } }
      else x.homeFail 0x090F
    | none => if x.desc.LIMIT_ACTION == 1#8 then x.stopNow s.ts else x.rampDown x.desc.DEC_QUICK.toNat

/-- A limit is to trip: of a used axis, reading tripped, in the direction of travel; a limit that is tripped already ends a motion that a
velocity command or a gear has turned into it (R311). (log 130) -/
def State.limitHit (s : State) (n : Fin 8) (positive : Bool) : Bool :=
  let x := s.mx n
  let toward (v : Int) : Bool := if positive then decide (0 < v) else decide (v < 0)
  x.used && s.limitReads (x.limitDio positive) && toward x.vel && x.state != .disabled
    && (!x.limited positive || x.state == .gear || (x.state == .velocity && toward x.want))

/-- One limit is read at a motion tick: a trip, or the wait for its release, which a trip restarts (R311). -/
def State.readLimit (s : State) (n : Fin 8) (positive : Bool) : State :=
  if s.limitHit n positive then s.tripLimit n positive
  else
    let on := s.limitReads ((s.mx n).limitDio positive)
    s.setMx n fun x =>
      if !x.limited positive then x
      else
        let t := if positive then x.limPos else x.limNeg
        let x := if on && t.isSome then { x with count := { x.count with CHATTER_COUNT := sat x.count.CHATTER_COUNT } } else x
        let t := runTimer (!on) s.now t
        if positive then { x with limPos := t } else { x with limNeg := t }

/-- A limit input in the direction of travel trips (R311). -/
def execLimitTrip (axis : Fin 8) (positive : Bool) (s : State) : Host.Outcome State Fault Refusal :=
  .next (let s1 := s.advanceAxes
    if s.inRun && s1.limitHit axis positive then s1.tripLimit axis positive else s)

/-- A limit has read not tripped for SW_STABLE_MS (R311). -/
def execLimitRelease (axis : Fin 8) (positive : Bool) (s : State) : Host.Outcome State Fault Refusal :=
  let x := s.mx axis
  .next (if x.limited positive && !s.limitReads (x.limitDio positive) && s.ran (if positive then x.limPos else x.limNeg) (ms x.desc.SW_STABLE_MS.toNat) then
      s.setMx axis fun x => if positive then { x.setLimited true false with limPos := none } else { x.setLimited false false with limNeg := none }
    else s)

/-! ### Homing (R312, R313) -/

/-- The time of a FILTER code in µs (R254). -/
def filterUs (f : BitVec 8) : Nat :=
  match f.toNat with
  | 0 => 0 | 1 => 10 | 2 => 100 | 3 => 500 | 4 => 1000 | 5 => 3000 | 6 => 10000 | _ => 20000

/-- The position at the frame tick that brought a channel's state (R313). -/
def State.framePos (s : State) (x : Axis) (c : BitVec 8) : Int :=
  let age : Int := (s.ts.toNat : Int) - ((s.dio.link.get ⟨c.toNat / 8 % 4, by omega⟩).record.FRAME_TS.toNat : Int)
  x.pos - x.vel * age / 1000000000000000

/-- The home input is watched at a motion tick: a change is an edge, one that breaks an unsettled state is chatter (R313). -/
def State.watchHome (s : State) (n : Fin 8) : State :=
  let x := s.mx n
  match x.home with
  | none => s
  | some h =>
    let sw := s.homeSwitch x
    if x.desc.HOME_METHOD == 4#8 then s
    else if x.desc.HOME_METHOD != 2#8 && classOf (s.qualityAt (dioOff x.homeDio.toNat)) == 2 && h.phase != .captured then s.setMx n fun x => x.homeFail 0x090F
    else if h.phase == .index || h.phase == .captured || sw == h.sw then s
    else
      let bounce := s.now < h.edgeAt + ms x.desc.SW_STABLE_MS.toNat && h.since ≤ h.edgeAt && h.edgeAt != h.begun
      let k := h.chatter + bit bounce
      let p := s.framePos x x.homeDio
      s.setMx n fun x =>
        let x := { x with
          home := some { h with sw := sw, edgeAt := s.now, edgePos := p, chatter := k },
          count := if bounce then { x.count with CHATTER_COUNT := sat x.count.CHATTER_COUNT } else x.count }
        if x.desc.CHATTER_MAX.toNat < k then x.homeFail 0x090E else x

/-- The state of the switch that a phase waits for. -/
def HomePhase.awaits (p : HomePhase) : Option Bool :=
  match p with
  | .leave | .back => some false
  | .search | .searchBack | .seek => some true
  | .stop | .index | .captured => none

/-- The capture of a switch edge lies on the switch's own transition: HOME_VEL times the filter time earlier (R313). -/
def State.edgeCapture (s : State) (x : Axis) (h : Homing) : Int :=
  let f := match asFin 32 x.homeDio.toNat with
    | some c => filterUs (s.dioDesc c).FILTER
    | none => 0
  let d := roundDiv (x.desc.HOME_VEL.toNat * f) 1000000
  if 0 ≤ x.vel then h.edgePos - d else h.edgePos + d

/-- An edge that has held for SW_STABLE_MS ends its phase; a Z edge ends the index phase (R312, R313). -/
def execHomeEdgeCapture (axis : Fin 8) (s : State) : Host.Outcome State Fault Refusal :=
  .next (let s1 := s.advanceAxes
    let x := s1.mx axis
    match x.home with
    | none => s
    | some h =>
      if !s.inRun || x.state != .homing then s
      else if h.phase == .index then (if h.sw && h.since ≤ h.edgeAt then s1.setMx axis fun x => x.homeCapture h.edgePos s.now else s)
      else if h.phase.awaits == some h.sw && h.since ≤ h.edgeAt && h.edgeAt != h.begun && s.since h.edgeAt (ms x.desc.SW_STABLE_MS.toNat) then
        s1.setMx axis fun x =>
          match h.phase with
          | .leave => x.homeNext .search s.now
          | .search | .searchBack => if x.desc.HOME_METHOD == 2#8 then x else x.homeNext .stop s.now
          | .back => if x.desc.HOME_METHOD == 2#8 then x.homeCapture (s1.edgeCapture x h) s.now else x.homeNext .seek s.now
          | .seek =>
            if x.desc.HOME_METHOD == 3#8 then
              let x := x.homeNext .index s.now
              { x with home := x.home.map fun h => { h with sw := false } }
            else x.homeCapture (s1.edgeCapture x h) s.now
          | .stop | .index | .captured => x
      else s)

/-- After a capture the axis is at rest: the captured point equals HOME_POS (R312). -/
def execHomeComplete (axis : Fin 8) (s : State) : Host.Outcome State Fault Refusal :=
  .next (let s1 := s.advanceAxes
    let x := s1.mx axis
    match x.home with
    | some h =>
      match h.capture with
      | some p =>
        if s.inRun && h.phase == .captured && x.atRest then
          s1.setMx axis fun x =>
            { x.endMode with
              state := .idle, pos := x.pos - p + x.desc.HOME_POS.toInt, frac := 0, stat := { x.endMode.stat with HOMED := 1#1, POSITION_UNCERTAIN := 0#1 },
              count := { x.count with HOME_COUNT := sat x.count.HOME_COUNT } }
        else s
      | none => s
    | none => s)

/-- Homing has lasted HOME_TIMEOUT_S (R313). -/
def execHomeTimeout (axis : Fin 8) (s : State) : Host.Outcome State Fault Refusal :=
  .next (let s1 := s.advanceAxes
    let x := s1.mx axis
    match x.home with
    | some h => if s.inRun && s.since h.begun (sec x.desc.HOME_TIMEOUT_S.toNat) then s1.setMx axis fun x => x.homeFail 0x090D else s
    | none => s)

/-- A Z edge: the count is captured, and the position of an axis that seeks it (R313, R317). -/
def execZEdgeCapture (enc : Fin 8) (s : State) : Host.Outcome State Fault Refusal :=
  .next (if s.sys.phase == .serving && (s.mot.enc.get enc).desc.MODE == 1#8 then
      let s := s.advanceAxes
      let s := { s with mot.enc := upd s.mot.enc enc fun e => { e with zCount := e.count, zSeen := true, zSeq := e.zSeq + 1 } }
      { s with mot.axis := s.mot.axis.map fun (x : Axis) =>
          { x with home := x.home.map fun h =>
              if h.phase == .index && x.desc.HOME_ENC.toNat == enc.val && !h.sw then { h with sw := true, edgeAt := s.now, edgePos := x.pos } else h } }
    else s)

/-! ### Ends of motion (R300 to R304) -/

/-- EN_DELAY_US after ENABLE (R300). -/
def execEnDelayExpire (axis : Fin 8) (s : State) : Host.Outcome State Fault Refusal :=
  .next (if s.inRun && s.ran (s.mx axis).enAt (us (s.mx axis).desc.EN_DELAY_US.toNat) then
      s.setMx axis fun x => { x with enAt := none, state := if x.state == .disabled then .idle else x.state, stat := { x.stat with EN_ON := 1#1 } }
    else s)

/-- A reversing axis reaches rest, and approaches its target (R301). -/
def execReversalRest (axis : Fin 8) (s : State) : Host.Outcome State Fault Refusal :=
  .next (let s1 := s.advanceAxes
    let x := s1.mx axis
    if s.inRun && x.state == .position && x.stat.REVERSING == 1#1 && x.atRest then
      s1.setMx axis fun x => { x with stat := { x.stat with REVERSING := 0#1 } }
    else s)

/-- The reference reaches the target at rest (R301). -/
def execMoveArrival (axis : Fin 8) (s : State) : Host.Outcome State Fault Refusal :=
  .next (let s1 := s.advanceAxes
    let x := s1.mx axis
    if s.inRun && x.state == .position && x.stat.REVERSING == 0#1 && x.atRest && x.exact == x.target * stepUnit then
      s1.setMx axis fun x => { x with stat := { x.stat with AT_TARGET := 1#1 } }
    else s)

/-- An axis that decelerates reaches rest: its mode ends, or the next phase of homing begins (R302, R306, R311, R312). -/
def execAxisRestReached (axis : Fin 8) (s : State) : Host.Outcome State Fault Refusal :=
  .next <| State.afterRest <|
    let s1 := s.advanceAxes
    let x := s1.mx axis
    if !s.inRun || !x.atRest then s
    else match x.state with
      | .stopping => s1.setMx axis fun x => { x.endMode with state := .idle }
      | .homing => match x.home with
        | some h => if h.phase == .stop then s1.setMx axis fun x => x.homeNext .back s.now else s
        | none => s
      | .disabled | .idle | .position | .velocity | .table | .gear => s

/-- A running table ends its segment: the next one, a chained table that begins with the same velocity, or the end (R304).
(log 125) -/
def State.nextSegment (s : State) (n : Fin 8) (k : Fin 16) (seg at_ : Nat) (start : Int) : State :=
  let t := s.mot.table.get k
  let e := at_ + us (t.dur seg)
  if seg + 1 < t.count then s.setMx n fun x => { x with tbl := some (k, seg + 1, e, start) }
  else
    let (p, v) := t.until seg start
    let s := s.setMx n fun x => { x with pos := p, frac := 0, vel := v * velUnit }
    if t.head.NEXT == 0xFF#8 then s.setMx n fun x => { x.endMode with state := .idle, vel := 0 }
    else match asFin 16 t.head.NEXT.toNat with
      | none => s
      | some j =>
        let u := s.mot.table.get j
        let broken (x : Axis) : Axis := { (x.rampDown x.desc.DEC.toNat) with stat := { (x.rampDown x.desc.DEC.toNat).stat with CHAIN_BREAK := 1#1 } }
        match u.refused (s.mx n) p with
        | some c => s.setMx n fun x => (broken x).refuse c
        | none =>
          if u.head.V_START.toInt = v then s.setMx n fun x => { x with tbl := some (j, 0, e, p) }
          else s.setMx n broken

/-- A segment of a running table ends (R304). -/
def execTableSegmentEnd (axis : Fin 8) (s : State) : Host.Outcome State Fault Refusal :=
  .next (let s1 := s.advanceAxes
    match (s1.mx axis).tbl with
    | some (k, seg, at_, start) =>
      if s.inRun && (s1.mx axis).state == .table && s.since at_ (us ((s.mot.table.get k).dur seg)) then s1.nextSegment axis k seg at_ start else s
    | none => s)

/-! ### Resolution and the drive link (R308 to R310) -/

/-- The pulse rate at a code stays below a number of thousandths of PULSE_MAX_HZ (R308). -/
def Axis.rateBelow (x : Axis) (code thousandths : Nat) : Bool :=
  1000 * x.vel.natAbs < thousandths * x.desc.PULSE_MAX_HZ.toNat * finePer code * velUnit

/-- The code change that the pulse rate calls for (R308). -/
def Axis.wantedCode (x : Axis) : Option (BitVec 3) :=
  let c := x.resCode.toNat
  if x.desc.RES_MODE != 0#8 then none
  else if 0 < c && x.rateAbove c 750 then some (BitVec.ofNat 3 (c - 1))
  else if c < x.desc.RES_CODE.toNat && c < 7 && x.rateBelow (c + 1) 500 then some (BitVec.ofNat 3 (c + 1))
  else none

/-- The code that the link sends for an axis; 0 with RES_MODE 2 (R308, R310). -/
def Axis.sentCode (x : Axis) : Nat := if x.desc.RES_MODE == 2#8 then 0 else if x.desc.RES_MODE == 1#8 then x.desc.RES_CODE.toNat % 8 else (x.resWanted.getD x.resCode).toNat

/-- A drive-link frame goes out (R310). -/
def State.sendDrive (s : State) : State :=
  let f := pack ((s.mot.axis.toList.map fun x => (3, x.sentCode)) ++ [(4, 0), (4, s.mot.dlSeq.toNat)])
  { s with mot.dlFrame := some (BitVec.ofNat 32 f), mot.dlSeq := s.mot.dlSeq + 1, mot.dlAt := s.now }

/-- The drive link runs: in STOP and RUN. (log 129) -/
def State.driveRuns (s : State) : Bool := (s.sys.mode == .stop || s.sys.mode == .run) && s.pow.pfStage == .idle

/-- The pulse rate crosses a threshold: a code change is pending, and a frame is sent where the link is free (R308, R310). -/
def execResCodeChange (axis : Fin 8) (s : State) : Host.Outcome State Fault Refusal :=
  .next (let s1 := s.advanceAxes
    let x := s1.mx axis
    match x.wantedCode with
    | some c =>
      if s.inRun && x.used && x.resWanted.isNone then
        let s := s1.setMx axis fun x => { x with resWanted := some c }
        if s.mot.dlFrame.isNone then s.sendDrive else s
      else s
    | none => s)

/-- A refresh frame, every 1 ms (R310). -/
def execDriveLinkRefresh (s : State) : Host.Outcome State Fault Refusal :=
  .next (if s.driveRuns && s.mot.dlFrame.isNone && s.since s.mot.dlAt (ms 1) then s.sendDrive else s)

/-- An axis latches the code of a frame (R309). (log 129) -/
def Axis.latchCode (x : Axis) (c : BitVec 3) : Axis :=
  if x.desc.RES_MODE == 2#8 || c == x.resCode then x
  else
    { x with
      resCode := c, resWanted := if x.resWanted == some c then none else x.resWanted, stat := { x.stat with RES_CLAMP := 0#1 },
      count := { x.count with RES_CHANGES := sat x.count.RES_CHANGES } }

/-- The axes on the drive link count a resent frame (R310). -/
def Axis.countResend (x : Axis) : Axis :=
  if x.desc.RES_MODE == 2#8 then x else { x with count := { x.count with LINK_RESEND := sat x.count.LINK_RESEND } }

/-- An axis on the drive link stops at once (R310). -/
def Axis.linkStop (x : Axis) (ts : BitVec 64) : Axis := if x.desc.RES_MODE == 2#8 then x else x.stopNow ts

/-- A brake test holds an axis of the drive link. -/
def State.linkHeld (s : State) : Bool := s.mot.axis.toList.any fun x => x.btHold && x.desc.RES_MODE != 2#8

/-- The echo of a frame is judged: one mismatch has the frame resent, a second in a row stops the axes and sets
DRIVE_LINK_FAULT, and 16 matches in a row clear it (R310). (log 129) -/
def State.judgeEcho (s : State) (frame : BitVec 32) (ok : Bool) : State :=
  if ok then
    let n := min 16 (s.mot.dlGood + 1)
    { s with mot.dlBad := false, mot.dlGood := n, mot.dlFault := s.mot.dlFault && n < 16 }
  else if s.mot.dlBad then
    let u := { s with mot.dlBad := false, mot.dlGood := 0, mot.dlFault := true, mot.axis := s.mot.axis.map fun (x : Axis) => x.linkStop s.ts }
    let s := if s.linkHeld then u.abortTest else u
    s.event 4 0x0980 0xFF 0 ((s.mot.axis.toList.map fun x => x.count.LINK_RESEND.toNat).foldl max 0)
  else
    { s with
      mot.dlBad := true, mot.dlGood := 0, mot.axis := s.mot.axis.map Axis.countResend, mot.dlFrame := some frame, mot.dlAt := s.now }

/-- A frame has gone out whole: the drives latch its codes (R309, R310). (log 129) -/
def State.latchFrame (s : State) (f : BitVec 32) : State :=
  { s with
    mot.dlFrame := none, mot.dlPrev := some f,
    mot.axis := Vector.ofFn fun (n : Fin 8) => (s.mot.axis.get n).latchCode (bitsAt f.toNat (3 * n.val) 3) }

/-- The echo of a frame is that of the frame before it; the first is not checked (R310). -/
def State.echoOk (s : State) (echo : BitVec 32) : Bool := match s.mot.dlPrev with | some p => p == echo | none => true

/-- A free link sends a code change that waits (R310). -/
def State.sendWaiting (s : State) : State :=
  if s.mot.dlFrame.isNone && s.mot.axis.toList.any fun x => x.resWanted.isSome then s.sendDrive else s

/-- A drive-link frame completes: the drives latch its codes, and the chain returns the frame before it (R309, R310). -/
def execDriveLinkFrameComplete (echo : BitVec 32) (s : State) : Host.Outcome State Fault Refusal :=
  .next (match s.mot.dlFrame with
    | some f =>
      if s.driveRuns && s.since s.mot.dlAt 320 then
        let s := s.advanceAxes
        ((s.latchFrame f).judgeEcho f (s.echoOk echo)).sendWaiting
      else s
    | none => s)

/-! ### The motion tick (R298) -/

/-- The encoders take their counts (R317). -/
def Encoder.sample (e : Encoder) (raw : BitVec 32) : Encoder :=
  if e.desc.MODE != 1#8 then e
  else
    let c := if e.desc.INVERT == 1#1 then -raw else raw
    { e with count := c, total := e.total + countDiff c e.count }

/-- The record of an encoder (R317). -/
def Encoder.record (e : Encoder) : EncRec :=
  { COUNT := e.count, Z_COUNT := e.zCount, QUAD_ERR := BitVec.ofNat 1 (bit e.quadErr), Z_SEEN := BitVec.ofNat 1 (bit e.zSeen),
    QUAL := if e.desc.MODE != 1#8 then qNone else if e.quadErr then qUncertain else qGood, Z_SEQ := e.zSeq }

/-- A linear axis has left its range: it stops at once (R295, R314). -/
def State.checkRange (s : State) (n : Fin 8) : State :=
  let x := s.mx n
  if x.posOk || x.state == .disabled || x.state == .idle then s else s.setMx n fun x => (x.stopNow s.ts).report 0x0911

/-- The records of a motion tick (R298, R317, R319); the axis state goes to the peer (R379). -/
def State.writeMotion (s : State) : State :=
  let s := (idx 8).foldl (fun s n => let r := s.axisRecord n; s.writeImage (0x280 + 32 * n.val) r.toBytes r.QUAL) s
  let s := (idx 8).foldl (fun s k => let r := (s.mot.enc.get k).record; s.writeImage (0x400 + 16 * k.val) r.toBytes r.QUAL) s
  (idx 8).foldl (fun s n => let x := s.mx n
    if x.used then s.mirror (.axis n x.pos (x.atRest && x.stat.POSITION_UNCERTAIN == 0#1) (x.stat.EN_ON == 1#1)) else s) s

/-- One axis takes what the motion tick reads for it: its limits, home input, request, VEL and gear record (R298, R316). -/
def State.axisTick (s : State) (n : Fin 8) : State :=
  if s.takesMotion n then (((((s.readLimit n true).readLimit n false).watchHome n).takeRequest n).followVel n |>.applyRatio n).armRatio n else s

/-- A motion tick (R298): the references are brought up to it, the records are written, the command and gear lines are read,
and the island takes the same contacts by its own decoders (R226). -/
def execAxisRequestTake (counts : Vector (BitVec 32) 8) (s : State) : Host.Outcome State Fault Refusal :=
  .next (if s.sys.phase == .serving && s.pow.pfStage == .idle && s.now % us 10 = 0 then
      let s := { s with mot.enc := Vector.ofFn fun (k : Fin 8) => (s.mot.enc.get k).sample (counts.get k) }
      let s := (idx 8).foldl State.checkRange s.advanceAxes
      let s := (idx 8).foldl State.axisTick s.writeMotion
      s.sampleAxes counts
    else s)

/-! ### Commands (R303, R317, R318, R320) -/

/-- Every field of an axis descriptor lies in its range (R318). -/
def AxisDesc.ok (d : AxisDesc) : Bool :=
  let dio (c : BitVec 8) : Bool := c.toNat < 32 || c == 0xFF#8
  d.AXIS_ID.toNat < 8 && d.NO_REV != 3#2 && d.RES_MODE.toNat ≤ 2 && d.RES_CODE.toNat ≤ 7
    && between 40 d.STEP_HIGH_NS.toNat 2000 && d.STEP_HIGH_NS.toNat % 4 == 0 && between 20 d.DIR_SETUP_NS.toNat 10000
    && between 1000 d.PULSE_MAX_HZ.toNat 5000000 && d.VEL_START.toNat ≤ d.VEL_MAX.toNat && d.ACC != 0#32 && d.DEC != 0#32
    && d.DEC.toNat ≤ d.DEC_QUICK.toNat && dio d.LIM_POS_DIO && dio d.LIM_NEG_DIO && dio d.HOME_DIO && between 1 d.HOME_METHOD.toNat 4
    && (d.HOME_ENC.toNat < 8 || d.HOME_ENC == 0xFF#8) && d.HOME_DIR.toNat ≤ 1 && between 1 d.SW_STABLE_MS.toNat 1000
    && between 1 d.HOME_TIMEOUT_S.toNat 3600 && d.LIMIT_ACTION.toNat ≤ 1 && 1 ≤ d.LAG_MAX_FS.toNat

/-- MOT_AXIS_SET (R318). -/
def cmdMotAxisSet (rq : Request) (s : State) : State :=
  serve Cmd.motAxisSet rq s fun s =>
    let d := AxisDesc.ofBytes rq.payload
    match asFin 8 d.AXIS_ID.toNat with
    | none => .refuse 0x0901 d.AXIS_ID.toNat 0
    | some n => refuseIf (!d.ok) 0x0901 n.val <| .done (s.setMx n fun x => { x with desc := d }) []

/-- MOT_AXIS_SET (R318). -/
def execMotAxisSet (rq : Request) (s : State) : Host.Outcome State Fault Refusal := .next (s.command rq cmdMotAxisSet)

/-- MOT_AXIS_GET (R318). -/
def cmdMotAxisGet (rq : Request) (s : State) : State :=
  serve Cmd.motAxisGet rq s fun s =>
    match asFin 8 (rq.u8 0) with
    | none => .refuse 0x0901 (rq.u8 0) 0
    | some n => .done s { (s.mx n).desc with AXIS_ID := BitVec.ofNat 8 n.val }.toBytes

/-- MOT_AXIS_GET (R318). -/
def execMotAxisGet (rq : Request) (s : State) : Host.Outcome State Fault Refusal := .next (s.command rq cmdMotAxisGet)

/-- Every field of an encoder descriptor lies in its range (R317). -/
def EncDesc.ok (d : EncDesc) : Bool := d.ENC_ID.toNat < 8 && d.MODE.toNat ≤ 1 && d.GLITCH_NS.toNat ≤ 40 && d.GLITCH_NS.toNat % 4 == 0

/-- MOT_ENC_SET (R317). -/
def cmdMotEncSet (rq : Request) (s : State) : State :=
  serve Cmd.motEncSet rq s fun s =>
    let d := EncDesc.ofBytes rq.payload
    match asFin 8 d.ENC_ID.toNat with
    | none => .refuse 0x0901 d.ENC_ID.toNat 0
    | some n => refuseIf (!d.ok) 0x0901 n.val <| .done { s with mot.enc := upd s.mot.enc n fun e => { e with desc := d } } []

/-- MOT_ENC_SET (R317). -/
def execMotEncSet (rq : Request) (s : State) : Host.Outcome State Fault Refusal := .next (s.command rq cmdMotEncSet)

/-- MOT_ENC_GET (R317). -/
def cmdMotEncGet (rq : Request) (s : State) : State :=
  serve Cmd.motEncGet rq s fun s =>
    match asFin 8 (rq.u8 0) with
    | none => .refuse 0x0901 (rq.u8 0) 0
    | some n => .done s { (s.mot.enc.get n).desc with ENC_ID := BitVec.ofNat 8 n.val }.toBytes

/-- MOT_ENC_GET (R317). -/
def execMotEncGet (rq : Request) (s : State) : Host.Outcome State Fault Refusal := .next (s.command rq cmdMotEncGet)

/-- A table read out of its bytes (R303). -/
def SegTable.ofBytes (bs : List Byte) : SegTable :=
  { loaded := true, head := TableHead.ofBytes (bs.take 16), segs := Vector.ofFn fun k => Segment.ofBytes ((bs.drop (16 + 16 * k.val)).take 16) }

/-- A table's bytes (R303). -/
def SegTable.toBytes (t : SegTable) : List Byte := t.head.toBytes ++ (t.segs.toList.map fun x => x.toBytes).flatten

/-- Every field of a table lies in its range, and a table that does not chain ends at rest (R303). -/
def SegTable.ok (t : SegTable) : Bool :=
  let n := t.head.N_SEG.toNat
  t.head.TABLE_ID.toNat < 16 && between 1 n 64 && (t.head.NEXT.toNat < 16 || t.head.NEXT == 0xFF#8)
    && ((t.segs.toList.take n).all fun x => between 10 x.DUR_US.toNat 10000000)
    && !(t.head.NEXT == 0xFF#8 && (t.segs.toList.getD (n - 1) Segment.dflt).VEL != 0#32)

/-- A table is running, or chained as the next of a running one (R303). -/
def State.tableInUse (s : State) (k : Fin 16) : Bool :=
  s.mot.axis.toList.any fun x => match x.tbl with
    | some (j, _) => j == k || (s.mot.table.get j).head.NEXT.toNat == k.val
    | none => false

/-- MOT_TABLE_LOAD (R303). -/
def cmdMotTableLoad (rq : Request) (s : State) : State :=
  serve Cmd.motTableLoad rq s fun s =>
    let t := SegTable.ofBytes rq.payload
    match asFin 16 t.head.TABLE_ID.toNat with
    | none => .refuse 0x0901 t.head.TABLE_ID.toNat 0
    | some k =>
      refuseIf (!t.ok) 0x0901 k.val <| refuseIf (s.tableInUse k) 0x0903 k.val <| .done { s with mot.table := put s.mot.table k t } []

/-- MOT_TABLE_LOAD (R303). -/
def execMotTableLoad (rq : Request) (s : State) : Host.Outcome State Fault Refusal := .next (s.command rq cmdMotTableLoad)

/-- MOT_TABLE_READ (R303). -/
def cmdMotTableRead (rq : Request) (s : State) : State :=
  serve Cmd.motTableRead rq s fun s =>
    match asFin 16 (rq.u8 0) with
    | none => .refuse 0x0901 (rq.u8 0) 0
    | some k => let t := s.mot.table.get k; .done s { t with head := { t.head with TABLE_ID := BitVec.ofNat 8 k.val } }.toBytes

/-- MOT_TABLE_READ (R303). -/
def execMotTableRead (rq : Request) (s : State) : Host.Outcome State Fault Refusal := .next (s.command rq cmdMotTableRead)

/-- MOT_STATUS: the status record and the counters (R320). -/
def cmdMotStatus (rq : Request) (s : State) : State :=
  serve Cmd.motStatus rq s fun s =>
    match asFin 8 (rq.u8 0) with
    | none => .refuse 0x0901 (rq.u8 0) 0
    | some n => let s := s.advanceAxes; .done s ((s.axisRecord n).toBytes ++ (s.mx n).count.toBytes)

/-- MOT_STATUS (R320). -/
def execMotStatus (rq : Request) (s : State) : Host.Outcome State Fault Refusal := .next (s.command rq cmdMotStatus)

/-- The counters of an axis, and QUAD_ERR of the encoder of its number, cleared (R317, R320, log 47). -/
def State.clearMotion (s : State) (n : Fin 8) : State :=
  let s := s.setMx n fun x => { x with count := { AxisCount.dflt with LAST_STOP_TS := x.count.LAST_STOP_TS } }
  { s with mot.enc := upd s.mot.enc n fun e => { e with quadErr := false } }

/-- MOT_CLEAR (R317, R320). -/
def cmdMotClear (rq : Request) (s : State) : State :=
  serve Cmd.motClear rq s fun s =>
    if rq.u8 0 = 0xFF then .done ((idx 8).foldl State.clearMotion s) []
    else match asFin 8 (rq.u8 0) with
      | none => .refuse 0x0901 (rq.u8 0) 0
      | some n => .done (s.clearMotion n) []

/-- MOT_CLEAR (R320). -/
def execMotClear (rq : Request) (s : State) : Host.Outcome State Fault Refusal := .next (s.command rq cmdMotClear)

end Sys2Proof.Machine
end

