-- ==== Sys2Proof/Machine/LoopLaw.lean ====
section
/-! DEFINITION. The loop engine's arithmetic and laws (R154, R160 to R167): one sample of one loop as a function of its slot,
its sources and its boundary. -/

namespace Sys2Proof.Machine

/-! ### Fixed point (R154) -/

/-- A quotient rounded to nearest, ties away from zero; the divisor is even. -/
def roundAway (n : Int) (d : Nat) : Int := if 0 ≤ n then (n + (d / 2 : Nat)) / d else -((-n + (d / 2 : Nat)) / d)

/-- A number held within limits. -/
def clampInt (lo hi x : Int) : Int := max lo (min hi x)

/-- A store of an accumulator on the Q30 grid to a Q15 value: rounded, then saturated. (log 92) -/
def store (acc : Int) : Int := clampInt (-32768) 32767 (roundAway acc 32768)

/-- The store saturates. -/
def clips (acc : Int) : Bool := store acc != roundAway acc 32768

/-- A wide value within its 40 bits. -/
def wide (x : Int) : Int := clampInt (-549755813888) 549755813887 x

/-- The wide value saturates. -/
def wideClips (x : Int) : Bool := wide x != x

/-- The product of a coefficient with its shift and a Q15 value, at Q30. -/
def prod (c : Int) (sh : Nat) (x : Int) : Int := c * x * 2 ^ sh

/-- The product of a coefficient with its shift and a wide value, rounded to the Q30 grid. -/
def wideProd (c : Int) (sh : Nat) (y : Int) : Int := roundAway (c * y * 2 ^ sh) 32768

/-! ### Banks and filters (R160, R171) -/

/-- A Q15 number of CORE at a byte offset. -/
def Bank.word (b : Bank) (off : Nat) : Int := (bitsAt b.CORE.toNat (8 * off) 16).toInt

/-- A shift of CORE at a byte offset. -/
def Bank.byte (b : Bank) (off : Nat) : Nat := (bitsAt b.CORE.toNat (8 * off) 8).toNat

/-- A biquad record of CORE at a byte offset. -/
def Bank.stage (b : Bank) (off : Nat) : Biquad := Biquad.ofBits (b.CORE.toNat / 2 ^ (8 * off))

/-- The post-filters of a bank. -/
def Bank.posts (b : Bank) : List Biquad := [b.O1, b.O2, b.O3, b.O4]

/-- One biquad stage, direct form II transposed: the value it passes on, its states, and whether anything
saturated. -/
def Biquad.run (k : Biquad) (st : BiqState) (x : Int) : Int × BiqState × Bool :=
  let sh := k.SH.toNat
  let y := prod k.B0.toInt sh x + st.s1
  let w := wide y
  let s1 := prod k.B1.toInt sh x - wideProd k.A1.toInt sh w + st.s2
  let s2 := prod k.B2.toInt sh x - wideProd k.A2.toInt sh w
  (store w, ⟨wide s1, wide s2⟩, wideClips y || clips w || wideClips s1 || wideClips s2)

/-- Stages one after another; states beyond the last stage stand. -/
def runChain : List Biquad → List BiqState → Int → Int × List BiqState × Bool
  | k :: ks, st :: sts, x =>
    let (y, st, a) := k.run st x
    let (z, sts, b) := runChain ks sts y
    (z, st :: sts, a || b)
  | _, sts, x => (x, sts, false)

/-! ### The laws (R160, R161) -/

/-- The output limits. -/
def LoopDesc.clampOut (d : LoopDesc) (x : Int) : Int := clampInt d.OUT_MIN.toInt d.OUT_MAX.toInt x

/-- The PID's derivative term after this sample, and whether its store saturates. (log 92) -/
def pidD (d : LoopDesc) (b : Bank) (s : LoopSlot) (e pvf : Int) : Int × Bool :=
  let delta := clampInt (-32768) 32767 (if d.D_ON_ERROR == 1#1 then e - s.ePrev else s.pvPrev - pvf)
  let acc := prod (b.word 0x06) 0 s.deriv + prod (b.word 0x04) (b.byte 0x0E) delta
  (store acc, clips acc)

/-- The PID's accumulator without its integrator, with a derivative term. -/
def pidRest (b : Bank) (e ff deriv : Int) : Int :=
  prod (b.word 0x00) (b.byte 0x0C) e + deriv * 32768 + prod (b.word 0x08) (b.byte 0x0F) ff + b.word 0x0A * 32768

/-- The integrator after this sample: KI·e added unless frozen or driven further into a limit (R161). (log 94) -/
def pidI (d : LoopDesc) (b : Bank) (s : LoopSlot) (e : Int) (freeze : Bool) : Int × Bool :=
  let ke := prod (b.word 0x02) (b.byte 0x0D) e
  if freeze || (d.OUT_MAX.toInt < s.uF && 0 < ke) || (s.uF < d.OUT_MIN.toInt && ke < 0) then (s.integ, false)
  else
    let acc := s.integ * 32768 + ke
    (d.clampOut (store acc), clips acc)

/-- LAW 1, PID: its accumulator, slot and saturation. -/
def lawPid (d : LoopDesc) (b : Bank) (s : LoopSlot) (e pvf ff : Int) (freeze : Bool) : Int × LoopSlot × Bool :=
  let (dv, sd) := pidD d b s e pvf
  let (i, si) := pidI d b s e freeze
  (pidRest b e ff dv + i * 32768, { s with deriv := dv, integ := i }, sd || si)

/-- LAW 2, BIQ2. -/
def lawBiq2 (b : Bank) (s : LoopSlot) (e ff : Int) : Int × LoopSlot × Bool :=
  let (y, st, a) := runChain [b.stage 0x00, b.stage 0x0C] s.stages e
  (prod (b.word 0x18) (b.byte 0x1E) y + prod (b.word 0x1A) (b.byte 0x1F) ff + b.word 0x1C * 32768, { s with stages := st }, a)

/-- y = B0·x + B1·x(k−1) − A1·y(k−1), at full width. -/
def firstOrder (b : Bank) (s : LoopSlot) (x xPrev : Int) : Int × Bool :=
  let sh := b.byte 0x0A
  let y := prod (b.word 0x00) sh x + prod (b.word 0x02) sh xPrev - wideProd (b.word 0x04) sh s.yPrev
  (wide y, wideClips y)

/-- LAW 3, LEADLAG. -/
def lawLeadLag (b : Bank) (s : LoopSlot) (e ff : Int) : Int × LoopSlot × Bool :=
  let (y, a) := firstOrder b s e s.ePrev
  (y + prod (b.word 0x06) (b.byte 0x0B) ff + b.word 0x08 * 32768, { s with yPrev := y }, a)

/-- LAW 4, FF. -/
def lawFf (b : Bank) (s : LoopSlot) (ff : Int) : Int × LoopSlot × Bool :=
  let (y, a) := firstOrder b s ff s.ffPrev
  (y + b.word 0x08 * 32768, { s with yPrev := y }, a)

/-- One run of the law and the post-filters: u_c, u_f and the clamped output (R160). (log 93) -/
def lawSample (d : LoopDesc) (b : Bank) (s : LoopSlot) (e pvf ff : Int) (freeze : Bool) : LoopSlot × Bool :=
  let (acc, s, a) := match d.LAW.toNat with
    | 1 => lawPid d b s e pvf ff freeze
    | 2 => lawBiq2 b s e ff
    | 3 => lawLeadLag b s e ff
    | _ => lawFf b s ff
  let uc := store acc
  let (uf, post, c) := runChain (b.posts.take d.N_POST.toNat) s.post uc
  ({ s with ePrev := e, pvPrev := pvf, ffPrev := ff, uPrev := uc, uF := uf, post := post, out := d.clampOut uf }, a || clips acc || c)

/-- The integrator that a bumpless swap gives: u_c with the new bank equals that of the sample before, within the
limits (R167). (log 94) -/
def bumpless (d : LoopDesc) (b : Bank) (s : LoopSlot) (e pvf ff : Int) : Int :=
  d.clampOut (store (s.uPrev * 32768 - pidRest b e ff (pidD d b s e pvf).1))

/-! ### Set-point (R154, R162, R163) -/

/-- A position that moves toward a target by at most a rate in LSB per second times a period in µs, all in units of
10⁻⁶ LSB; rate 0 moves at once. (log 92) -/
def toward (pos tgt : Int) (rate per : Nat) : Int :=
  if rate = 0 then tgt
  else if pos ≤ tgt then min tgt (pos + (rate * per : Nat)) else max tgt (pos - (rate * per : Nat))

/-- SP_INT, with 16 fraction bits. (log 92) -/
def LoopSlot.sp16 (s : LoopSlot) : Int := roundAway (s.spPos * 65536) 1000000

/-- SP_INT − pv_f with its 16 fraction bits. -/
def LoopSlot.diff16 (s : LoopSlot) (pvf : Int) : Int := s.sp16 - pvf * 65536

/-- The error as a Q15 value (R160). (log 92) -/
def LoopSlot.err (s : LoopSlot) (d : LoopDesc) (pvf : Int) : Int :=
  clampInt (-32768) 32767 (roundAway (if d.REVERSE == 1#1 then -s.diff16 pvf else s.diff16 pvf) 65536)

/-! ### Modes (R162, R163) -/

/-- The law's states at zero; the pre-filters run on. -/
def LoopSlot.cleared (s : LoopSlot) : LoopSlot :=
  { s with
    integ := 0, deriv := 0, pvPrev := 0, ePrev := 0, ffPrev := 0, yPrev := 0, uPrev := 0, uF := 0, stages := [⟨0, 0⟩, ⟨0, 0⟩],
    post := [⟨0, 0⟩, ⟨0, 0⟩, ⟨0, 0⟩, ⟨0, 0⟩] }

/-- Entry to a mode with the present pv_f (R162, R163). (log 94) -/
def LoopSlot.enter (s : LoopSlot) (d : LoopDesc) (m : LoopMode) (pvf : Int) : LoopSlot :=
  match m with
  | .auto =>
    let s := if d.LAW == 1#8 then { s with integ := d.clampOut s.out, deriv := 0, uPrev := s.out, uF := s.out } else s.cleared
    { s with mode := .auto, spPos := pvf * 1000000, pvPrev := pvf, ePrev := 0 }
  | .off => { s.cleared with mode := .off }
  | m => { s with mode := m }

/-- The mode that a number names in a request (R171). -/
def modeOfNum : Nat → Option LoopMode
  | 0 => some .off
  | 1 => some .manual
  | 2 => some .auto
  | 3 => some .hold
  | _ => none

/-- A source that trips a loop in AUTO: CLASS BAD or NOT_AVAILABLE, or STALE (R159). -/
def SrcVal.bad (x : SrcVal) : Bool := 2 ≤ x.cls.toNat || x.stale

/-- The value of a source, 0 where there is none. -/
def srcVal : Option SrcVal → Int
  | some x => x.v
  | none => 0

/-- The sources that a law uses (R159, R160). -/
def LoopSources.used (x : LoopSources) (d : LoopDesc) : List SrcVal :=
  (if d.LAW == 4#8 then [x.ff] else [x.pv, x.sp, x.ff]).filterMap id

/-- The worst CLASS of the sources. -/
def worstClass (xs : List SrcVal) : BitVec 2 := BitVec.ofNat 2 ((xs.map fun x => x.cls.toNat).foldl max 0)

/-! ### Banks in use (R167) -/

/-- The active bank. -/
def Loop.bank (l : Loop) : Bank := if l.stat.ACTIVE_BANK == 0#1 then l.bankA else l.bankB

/-- The other bank. -/
def Loop.other (l : Loop) : Bank := if l.stat.ACTIVE_BANK == 0#1 then l.bankB else l.bankA

/-- The banks are swapped, in the sample of a given time. -/
def Loop.swap (l : Loop) (ts : BitVec 64) : Loop :=
  { l with swapReq := none, stat := { l.stat with
      ACTIVE_BANK := ~~~l.stat.ACTIVE_BANK, SWAP_COUNT := sat l.stat.SWAP_COUNT, LAST_SWAP_TS := ts } }

/-! ### Trips (R164, R165) -/

/-- Entry to TRIPPED with a cause; a ramp to safe starts at the last output. -/
def Loop.trip (l : Loop) (cause : Nat) (ts : BitVec 64) : Loop :=
  { l with
    slot := { l.slot with mode := .tripped, rampPos := l.slot.out * 1000000 }, feSince := none,
    stat := { l.stat with
      TRIP_CAUSE := BitVec.ofNat 3 cause, TRIP_COUNT := sat l.stat.TRIP_COUNT, LAST_TRIP_TS := ts, FE_TIMING := 0#1, RAMPING := 0#1 } }

/-- The output of a sample in TRIPPED: frozen, or one step of the ramp to safe (R164). -/
def Loop.tripOut (l : Loop) : Loop :=
  let s := l.slot
  let s := { s with outQual := 1#2 }
  if l.desc.FE_ACTION == 2#2 then
    let p := toward s.rampPos (l.desc.SAFE_OUT.toInt * 1000000) l.desc.SAFE_RATE.toNat l.desc.PERIOD_US.toNat
    { l with slot := { s with rampPos := p, out := roundAway p 1000000 } }
  else { l with slot := s }

/-- What one sample brings about: the loop after it, the mode it tripped from and the cause if it trips, and whether
FE_ALARM was set or cleared in it. -/
structure Sampled where
  loop    : Loop
  trip    : Option (LoopMode × Nat)
  alarm   : Bool
  cleared : Bool
  deriving DecidableEq, Repr

/-- A sample that trips. -/
def Loop.tripped (l : Loop) (cause : Nat) (ts : BitVec 64) (alarm : Bool) : Sampled :=
  { loop := (l.trip cause ts).tripOut, trip := some (l.slot.mode, cause), alarm := alarm, cleared := false }

/-- Following-error supervision of an AUTO sample (R164). -/
def Loop.supervise (l : Loop) (b : Nat) (pvf : Int) (ts : BitVec 64) : Sampled :=
  let d := l.desc
  let a := (l.slot.diff16 pvf).natAbs
  let l := { l with stat := { l.stat with FE_MAX := maxBv l.stat.FE_MAX (min 32767 ((a + 32768) / 65536)) } }
  if a ≤ d.FE_LIMIT.toNat * 65536 then
    let clear := l.stat.FE_ALARM == 1#1 && d.FE_ACTION == 0#2
    { loop := { l with feSince := none, stat := { l.stat with FE_TIMING := 0#1, FE_ALARM := if clear then 0#1 else l.stat.FE_ALARM } },
      trip := none, alarm := false, cleared := clear }
  else
    let since := if l.feSince.isNone && l.stat.FE_ALARM == 0#1 then some b else l.feSince
    let l := { l with feSince := since, stat := { l.stat with FE_TIMING := BitVec.ofNat 1 (bit since.isSome) } }
    match since with
    | some t =>
      if t + ms d.FE_TIME_MS.toNat ≤ b then
        let l := { l with feSince := none, stat := { l.stat with FE_TIMING := 0#1, FE_ALARM := 1#1 } }
        if d.FE_ACTION == 0#2 then { loop := l, trip := none, alarm := true, cleared := false } else l.tripped 1 ts true
      else { loop := l, trip := none, alarm := false, cleared := false }
    | none => { loop := l, trip := none, alarm := false, cleared := false }

/-! ### One sample -/

/-- A sample in AUTO (R159 to R164, R166, R167). -/
def Loop.auto (l : Loop) (b : Nat) (x : LoopSources) (pvf : Int) (swapped forced : Bool) (ts : BitVec 64) : Sampled × Bool :=
  let d := l.desc
  if (x.used d).any SrcVal.bad then (l.tripped 2 ts false, false)
  else
    let ff := srcVal x.ff
    let tgt := srcVal x.sp * 1000000
    let s := if d.LAW == 4#8 then l.slot else { l.slot with spPos := toward l.slot.spPos tgt d.SP_RAMP_RATE.toNat d.PERIOD_US.toNat }
    let e := if d.LAW == 4#8 then 0 else s.err d pvf
    let bump := swapped && d.LAW == 1#8 && d.BUMPLESS_SWAP == 1#1
    let s := if bump then { s with integ := bumpless d l.bank s e pvf ff } else s
    let (s, a) := lawSample d l.bank s e pvf ff (bump || forced)
    let beyond := s.uF < d.OUT_MIN.toInt || d.OUT_MAX.toInt < s.uF
    let l := { l with
      slot := { s with outQual := worstClass (x.used d) }
      stat := { l.stat with
        OUT_SAT := BitVec.ofNat 1 (bit beyond), RAMPING := BitVec.ofNat 1 (bit (d.LAW != 4#8 && s.spPos != tgt)) } }
    if d.LAW != 4#8 && d.FE_ENABLE == 1#1 then (l.supervise b pvf ts, a) else (⟨l, none, false, false⟩, a)

/-- A sample in MANUAL: the clamped manual value; a PID's integrator tracks it, other laws are cleared (R162). (log 93) -/
def Loop.manualSample (l : Loop) (pvf : Int) : Loop × Bool :=
  let d := l.desc
  let out := d.clampOut l.slot.manual
  let (dv, a) := if d.LAW == 1#8 then pidD d l.bank { l.slot with ePrev := 0 } 0 pvf else (0, false)
  let s := if d.LAW == 1#8 then { l.slot with deriv := dv, integ := d.clampOut (out - dv), pvPrev := pvf, ePrev := 0 } else l.slot.cleared
  ({ l with slot := { s with out := out, outQual := 0#2, spPos := pvf * 1000000 } }, a)

/-- Flags that AUTO alone forms, in OFF and MANUAL. (log 93) -/
def Loop.quiet (l : Loop) : Loop :=
  { l with feSince := none, stat := { l.stat with OUT_SAT := 0#1, RAMPING := 0#1, FE_TIMING := 0#1 } }

/-- What the control word, or a command, asks of the sample of a boundary: the mode, the manual value, the bank swap
and whether a swap is refused (R163, R167). (log 95) -/
def Loop.asked (l : Loop) (b : Nat) (ctrl : Option (BitVec 32)) : Option LoopMode × Int × Bool × Bool :=
  match ctrl with
  | some w =>
    let c := LoopCtrl.ofBits w.toNat
    let target := match l.ctrlRef with
      | some r => if r != c.MODE_REQ then modeOfNum c.MODE_REQ.toNat else none
      | none => none
    let differs := c.BANK_SEL != l.stat.ACTIVE_BANK
    (target, c.MAN_OUT.toInt, differs && l.other.BANK_SEQ != 0#32, differs && l.other.BANK_SEQ == 0#32)
  | none =>
    let (target, man) := match l.modeReq with
      | some (m, v, t) => if t + us 2 ≤ b then (some m, if m = .manual then v else l.slot.manual) else (none, l.slot.manual)
      | none => (none, l.slot.manual)
    (target, man, (match l.swapReq with | some t => t + us 2 ≤ b | none => false), false)

/-- INIT_MODE as a mode (R168, R170). -/
def LoopDesc.initMode (d : LoopDesc) : LoopMode := (modeOfNum d.INIT_MODE.toNat).getD .off

/-- The loop after the requests that a sample takes: references, manual value, bank, and the mode it is to run in
(R163, R167, R168). (log 95) -/
def Loop.takeRequests (l : Loop) (b : Nat) (ctrl : Option (BitVec 32)) (ts : BitVec 64) : Loop × LoopMode × Bool :=
  let (target, man, swap, refused) := l.asked b ctrl
  let target := target.or (if l.fresh then some l.desc.initMode else none)
  let due : Bool := match l.modeReq with | some (_, _, t) => decide (t + us 2 ≤ b) | none => false
  let l := { l with
    slot := { l.slot with manual := man }, modeReq := if due then none else l.modeReq,
    ctrlRef := match ctrl with | some w => some (LoopCtrl.ofBits w.toNat).MODE_REQ | none => none,
    stat := { l.stat with SWAP_REFUSED := if refused then 1#1 else l.stat.SWAP_REFUSED } }
  (if swap then l.swap ts else l, if l.slot.mode = .tripped then .tripped else target.getD l.slot.mode, swap)

/-- One sample of a loop (R153 to R167): its boundary, what it read, whether its output is forced, and the local time
of the boundary. (log 93) -/
def Loop.compute (l : Loop) (b : Nat) (x : LoopSources) (forced : Bool) (ts : BitVec 64) : Sampled :=
  let (l, m, swapped) := l.takeRequests b x.ctrl ts
  let d := l.desc
  let runs := d.LAW != 4#8 && (m = .off || m = .manual || m = .auto)
  let (pvf, pre, a) := if runs then runChain ([l.bank.P1, l.bank.P2].take d.N_PRE.toNat) l.slot.pre (srcVal x.pv) else (l.slot.pvF, l.slot.pre, false)
  let s := { l.slot with pre := pre, pvF := pvf }
  let s := if l.fresh || m ≠ s.mode then s.enter d m pvf else s
  let l := { l with slot := s, fresh := false, stat := { l.stat with OUT_FORCED := BitVec.ofNat 1 (bit forced) } }
  let (r, c) : Sampled × Bool := match m with
    | .off => (⟨{ l.quiet with slot := { l.slot.cleared with out := d.SAFE_OUT.toInt, outQual := 0#2, spPos := pvf * 1000000 } }, none, false, false⟩, false)
    | .manual => let (l, c) := l.quiet.manualSample pvf; (⟨l, none, false, false⟩, c)
    | .auto => l.auto b x pvf swapped forced ts
    | .hold => (⟨{ l with slot := { l.slot with outQual := 0#2 } }, none, false, false⟩, false)
    | .tripped => (⟨l.tripOut, none, false, false⟩, false)
  if a || c then { r with loop := { r.loop with stat := { r.loop.stat with SAT_COUNT := sat r.loop.stat.SAT_COUNT, SAT_SEEN := 1#1 } } } else r

end Sys2Proof.Machine
end

