-- ==== Sys2Proof/Machine/Loops.lean ====
section
/-! DEFINITION. The loop engine (R153 to R174): its commands, the boundary, the sample, trips, and the schedule check. -/

namespace Sys2Proof.Machine

/-- Loop `n`. -/
def State.loop (s : State) (n : Fin 256) : Loop := s.lp.loop.get n

/-- Loop `n` replaced. -/
def State.setLoop (s : State) (n : Fin 256) (l : Loop) : State := { s with lp.loop := put s.lp.loop n l }

/-! ### Sources and destinations (R158, R159) -/

/-- KIND of a source or destination word. -/
def srcKind (w : BitVec 32) : Nat := w.toNat / 2 ^ 28

/-- ARG of a source or destination word. -/
def srcArg (w : BitVec 32) : Nat := w.toNat % 2 ^ 28

/-- A Q15 value of IMAGE with its quality. -/
def State.q15At (s : State) (off : Nat) : SrcVal :=
  let q := s.qualityAt off
  { v := signed 16 (s.img.num off 2), cls := q.setWidth 2, stale := isStale q }

/-- What reads as BAD: a handle that names nothing. -/
def badSrc : SrcVal := { v := 0, cls := 2#2, stale := false }

/-- A PV, SP or FF source as the boundary reads it (R155, R158). (log 59, 97) -/
def State.readSrc (s : State) (w : BitVec 32) (const : BitVec 16) : Option SrcVal :=
  match srcKind w with
  | 0 => none
  | 1 => some (s.q15At (aioOff (srcArg w % 16)))
  | 2 => some (match s.varOf (BitVec.ofNat 32 (srcArg w)) with | some v => s.q15At v.off | none => badSrc)
  | _ => some { v := const.toInt, cls := 0#2, stale := false }

/-- The control word as it stands in IMAGE (R171). (log 95) -/
def State.readCtrl (s : State) (w : BitVec 32) : Option (BitVec 32) :=
  if srcKind w = 0 then none
  else match s.varOf (BitVec.ofNat 32 (srcArg w)) with
    | some v => some (BitVec.ofNat 32 (s.img.num v.off 4))
    | none => none

/-- The bytes of IMAGE that a destination writes (R158, R291, R299). -/
def State.dstRange (s : State) (w : BitVec 32) : Option (Nat × Nat) :=
  match srcKind w with
  | 1 => some (0x1C0 + 4 * (srcArg w % 16), 4)
  | 2 => some (0x208 + 16 * (srcArg w % 8), 3)
  | 3 => (s.varOf (BitVec.ofNat 32 (srcArg w))).map fun v => (v.off, 2)
  | _ => none

/-- A loop's output is written with its quality: AIO command, velocity target, or IMAGE value (R155, R158, R159). (log 98) -/
def State.writeOut (s : State) (w : BitVec 32) (out : Int) (cls : BitVec 2) : State :=
  let v := leBytes 2 (BitVec.ofInt 16 out).toNat
  let q := cls.setWidth 4
  match s.dstRange w with
  | none => s
  | some (off, n) => (s.writeImage off ((v ++ [BitVec.ofNat 8 (16 * cls.toNat), 0#8]).take n) q).noteOutput off n

/-- The output of a loop is forced (R166). -/
def State.outForced (s : State) (w : BitVec 32) : Bool :=
  match s.dstRange w with
  | some (off, n) => s.olc.forces.any fun f => s.inRange off n f.HANDLE
  | none => false

/-! ### Commands -/

/-- Core MAC of a law (R160). -/
def lawMac : Nat → Nat
  | 1 => 6
  | 2 => 12
  | 3 => 4
  | 4 => 3
  | _ => 0

/-- COST: the MAC of one sample (R160). -/
def LoopDesc.cost (d : LoopDesc) : Nat := if d.LAW = 0 then 0 else lawMac d.LAW.toNat + 5 * (d.N_PRE.toNat + d.N_POST.toNat)

/-- The loop descriptor's fields lie in their ranges (R170). -/
def LoopDesc.inRange (d : LoopDesc) : Bool :=
  d.LAW.toNat ≤ 4 && d.FE_ACTION.toNat ≤ 2 && 20 ≤ d.PERIOD_US.toNat && d.PERIOD_US.toNat ≤ 10000
    && d.PHASE_US.toNat < d.PERIOD_US.toNat && d.OUT_MIN.toInt < d.OUT_MAX.toInt && d.OUT_MIN.toInt ≤ d.SAFE_OUT.toInt
    && d.SAFE_OUT.toInt ≤ d.OUT_MAX.toInt && 1 ≤ d.FE_LIMIT.toInt && d.N_PRE.toNat ≤ 2 && d.N_POST.toNat ≤ 4
    && d.INIT_MODE.toNat ≤ 2 && d.LATE_LIMIT != 0#8 && [d.PV_SRC, d.SP_SRC, d.FF_SRC, d.CTRL_SRC, d.OUT_DST].all fun w => srcKind w ≤ 3

/-- A command about one loop. -/
def onLoop (n : Nat) (k : Fin 256 → Served) : Served :=
  match asFin 256 n with
  | some i => k i
  | none => .refuse 0x0501 n 0

/-- LOOP_SET writes a loop descriptor (R170, R174). -/
def cmdLoopSet (rq : Request) (s : State) : State :=
  serve Cmd.loopSet rq s fun s =>
    let d := LoopDesc.ofBytes rq.payload
    onLoop d.LOOP_ID.toNat fun n => refuseIf (!d.inRange) 0x0501 n.val (.done (s.setLoop n { s.loop n with desc := d }) [])

/-- LOOP_GET reads a loop descriptor with its COST (R160, R170). -/
def cmdLoopGet (rq : Request) (s : State) : State :=
  serve Cmd.loopGet rq s fun s =>
    onLoop (rq.u8 0) fun n =>
      let d := (s.loop n).desc
      .done s { d with LOOP_ID := BitVec.ofNat 8 n.val, COST := BitVec.ofNat 8 d.cost }.toBytes

/-- CTRL_SRC is set (R171). -/
def LoopDesc.byTask (d : LoopDesc) : Bool := srcKind d.CTRL_SRC != 0

/-- A swap is pending (R167). -/
def State.swapPending (s : State) (l : Loop) : Bool :=
  l.swapReq.isSome ||
    (match s.readCtrl l.desc.CTRL_SRC with
     | some w => (LoopCtrl.ofBits w.toNat).BANK_SEL != l.stat.ACTIVE_BANK
     | none => false)

/-- LOOP_SWAP_BANK requests a swap; in STOP it takes effect at acceptance (R167, R174). -/
def cmdLoopSwapBank (rq : Request) (s : State) : State :=
  serve Cmd.loopSwapBank rq s fun s =>
    onLoop (rq.u8 0) fun n =>
      let l := s.loop n
      refuseIf (l.desc.LAW == 0#8) 0x0507 n.val <|
      refuseIf l.desc.byTask 0x0505 n.val <|
      refuseIf (s.swapPending l) 0x0503 n.val <|
      refuseIf (l.other.BANK_SEQ == 0#32) 0x0504 n.val <|
        .done (s.setLoop n (if s.sys.mode = .stop then l.swap s.ts else { l with swapReq := some s.now })) []

/-- A shift of the bank that the law uses is above 3 (R167, R171). -/
def Bank.shiftBad (b : Bank) (law : Nat) : Bool :=
  ([b.P1, b.P2, b.O1, b.O2, b.O3, b.O4].any fun k => 3 < k.SH.toNat)
    || ((match law with
         | 1 => [0x0C, 0x0D, 0x0E, 0x0F]
         | 2 => [0x0A, 0x16, 0x1E, 0x1F]
         | _ => [0x0A, 0x0B]).any fun o => 3 < b.byte o)

/-- LOOP_BANK_WRITE writes the inactive bank; BANK_SEQ counts the writes of the slot from 1 (R167, R174). (log 97) -/
def cmdLoopBankWrite (rq : Request) (s : State) : State :=
  serve Cmd.loopBankWrite rq s fun s =>
    onLoop (rq.u8 0) fun n =>
      let l := s.loop n
      let b := Bank.ofBytes (rq.payload.drop 4)
      refuseIf (l.desc.LAW == 0#8) 0x0507 n.val <|
      refuseIf (s.swapPending l) 0x0503 n.val <|
      refuseIf (b.shiftBad l.desc.LAW.toNat) 0x0508 n.val <|
        let seq := sat (if l.bankA.BANK_SEQ.toNat < l.bankB.BANK_SEQ.toNat then l.bankB.BANK_SEQ else l.bankA.BANK_SEQ)
        let b := { b with BANK_SEQ := seq }
        .done (s.setLoop n (if l.stat.ACTIVE_BANK == 0#1 then { l with bankB := b } else { l with bankA := b })) (leBytes 4 seq.toNat)

/-- LOOP_BANK_READ reads a bank (R171). -/
def cmdLoopBankRead (rq : Request) (s : State) : State :=
  serve Cmd.loopBankRead rq s fun s =>
    onLoop (rq.u8 0) fun n =>
      refuseIf (1 < rq.u8 1) 0x0501 n.val (.done s (if rq.u8 1 = 0 then (s.loop n).bankA else (s.loop n).bankB).toBytes)

/-- LOOP_MODE requests a mode (R163, R174). -/
def cmdLoopMode (rq : Request) (s : State) : State :=
  serve Cmd.loopMode rq s fun s =>
    onLoop (rq.u8 0) fun n =>
      let l := s.loop n
      match modeOfNum (rq.u8 1) with
      | none => .refuse 0x0501 n.val 0
      | some m =>
        refuseIf (l.desc.LAW == 0#8) 0x0507 n.val <|
        refuseIf l.desc.byTask 0x0505 n.val <|
        refuseIf (l.slot.mode == .tripped) 0x0509 n.val <|
          .done (s.setLoop n { l with modeReq := some (m, signed 16 (rq.u16 2), s.now) }) []

/-- LOOP_RESET_TRIP takes a tripped loop to MANUAL with its present output; the cause and the alarm are cleared (R165,
R174). (log 96) -/
def cmdLoopResetTrip (rq : Request) (s : State) : State :=
  serve Cmd.loopResetTrip rq s fun s =>
    onLoop (rq.u8 0) fun n =>
      let l := s.loop n
      refuseIf (l.desc.LAW == 0#8) 0x0507 n.val <|
      refuseIf (l.slot.mode != .tripped) 0x0506 n.val <|
        .done (s.setLoop n { l with
          slot := { l.slot with mode := .manual, manual := l.slot.out }, modeReq := none,
          stat := { l.stat with TRIP_CAUSE := 0#3, FE_ALARM := 0#1 } }) []

/-- LOOP_STATUS reads the loop status (R172). -/
def cmdLoopStatus (rq : Request) (s : State) : State :=
  serve Cmd.loopStatus rq s fun s =>
    onLoop (rq.u8 0) fun n =>
      let l := s.loop n
      .done s (l.stat.toBytes (SWAP_PENDING := bit (s.swapPending l)) (MODE := l.slot.mode.num)
        (OUT := (BitVec.ofInt 16 l.slot.out).toNat) (SP_INT := (BitVec.ofInt 16 (clampInt (-32768) 32767 (roundAway l.slot.sp16 65536))).toNat)
        (PV_F := (BitVec.ofInt 16 l.slot.pvF).toNat) (BANK_SEQ := l.bank.BANK_SEQ.toNat))

/-- Counters, sticky bits and FE_MAX cleared. (log 96) -/
def LoopStat.cleared (x : LoopStat) : LoopStat :=
  { x with
    LATE_COUNT := 0#32, SAT_COUNT := 0#32, TRIP_COUNT := 0#16, SWAP_COUNT := 0#16, FE_MAX := 0#16, SAT_SEEN := 0#1, LATE_SEEN := 0#1,
    SWAP_REFUSED := 0#1 }

/-- LOOP_CLEAR clears one loop, or every loop and the engine's count with 0xFFFF (R172, R173). -/
def cmdLoopClear (rq : Request) (s : State) : State :=
  serve Cmd.loopClear rq s fun s =>
    if rq.u16 0 = 0xFFFF then
      .done { s with lp.loop := s.lp.loop.map fun l => { l with stat := l.stat.cleared }, lp.eng := { s.lp.eng with TOTAL_LATE := 0#32 } } []
    else onLoop (rq.u16 0) fun n => .done (s.setLoop n { s.loop n with stat := (s.loop n).stat.cleared }) []

/-! ### The schedule check (R169) -/

/-- The loops that are used, by number. -/
def State.usedLoops (s : State) : List (Fin 256 × LoopDesc) :=
  ((idx 256).map fun n => (n, (s.loop n).desc)).filter fun e => e.2.LAW != 0#8

/-- Distinct IMAGE lines among the sources of a loop (R169). -/
def State.srcLines (s : State) (d : LoopDesc) : Nat :=
  let line (w : BitVec 32) : Option Nat :=
    match srcKind w with
    | 1 => some (aioOff (srcArg w % 16) / 64)
    | 2 => (s.varOf (BitVec.ofNat 32 (srcArg w))).map fun v => v.off / 64
    | _ => none
  ([d.PV_SRC, d.SP_SRC, d.FF_SRC, d.CTRL_SRC].filterMap line).eraseDups.length

/-- The load of a loop: cycles per 10⁶ periods over its period in µs. -/
def LoopDesc.load (d : LoopDesc) : Nat × Nat := ((d.cost + 16) * 1000000, d.PERIOD_US.toNat)

/-- The line rate of a loop in the same form. -/
def State.lineLoad (s : State) (d : LoopDesc) : Nat × Nat := ((s.srcLines d + 2) * 1000000, d.PERIOD_US.toNat)

/-- A sum of fractions per mille of a capacity, rounded down. (log 97) -/
def perMille (xs : List (Nat × Nat)) (capacity : Nat) : Nat :=
  let (n, d) := xs.foldl (fun (a : Nat × Nat) x => (a.1 * x.2 + x.1 * a.2, a.2 * x.2)) (0, 1)
  min 65535 (1000 * n / (d * capacity))

/-- A source exists and has the right type or AIO mode (R158, R169). (log 97) -/
def State.srcOk (s : State) (w : BitVec 32) (ctrl sp : Bool) : Bool :=
  match srcKind w with
  | 0 => true
  | 1 => !ctrl && (match asFin 16 (srcArg w) with | some c => (s.aio.get c).desc.MODE != 0#8 | none => false)
  | 2 => (match s.varOf (BitVec.ofNat 32 (srcArg w)) with | some v => v.chamber == 0 && v.size.toNat == (if ctrl then 4 else 2) | none => false)
  | _ => sp

/-- A destination exists and has the right type or AIO mode (R158, R169). -/
def State.dstOk (s : State) (w : BitVec 32) : Bool :=
  match srcKind w with
  | 0 => true
  | 1 => (match asFin 16 (srcArg w) with | some c => (s.aio.get c).desc.MODE == 3#8 | none => false)
  | 2 => srcArg w < 8
  | _ => (match s.varOf (BitVec.ofNat 32 (srcArg w)) with | some v => v.chamber == 0 && v.size.toNat == 2 | none => false)

/-- The field at fault in a loop's sources, by its descriptor offset. -/
def State.loopFault (s : State) (d : LoopDesc) : Option Nat :=
  if !s.srcOk d.PV_SRC false false then some 0x08
  else if !s.srcOk d.SP_SRC false true then some 0x0C
  else if !s.srcOk d.FF_SRC false false then some 0x10
  else if !s.srcOk d.CTRL_SRC true false then some 0x14
  else if !s.dstOk d.OUT_DST then some 0x18
  else if d.LAW == 4#8 then
    if srcKind d.FF_SRC = 0 then some 0x10 else if d.N_PRE != 0#8 then some 0x30 else if d.FE_ENABLE == 1#1 then some 0x02 else none
  else if srcKind d.PV_SRC = 0 then some 0x08 else if srcKind d.SP_SRC = 0 then some 0x0C else none

/-- The schedule check: sources, load, lines (R169). -/
def State.loopCheck (s : State) : Option (Nat × Nat × Nat) :=
  let ls := s.usedLoops
  match ls.findSome? fun e => (s.loopFault e.2).map fun o => (e.1, o) with
  | some (n, o) => some (0x0205, n.val, o)
  | none =>
    if sumExceeds (ls.map fun e => e.2.load) 170000000000 then some (0x0207, 0xFFFF, 0)
    else if sumExceeds (ls.map fun e => s.lineLoad e.2) 3840000000 then some (0x020E, 0xFFFF, 0)
    else none

/-- What the used loops write, for the writers' check (R106, R158). -/
def State.loopOutputs (s : State) : List (Nat × Nat) := s.usedLoops.filterMap fun e => s.dstRange e.2.OUT_DST

/-- LOOP_ENGINE_STATUS reads the engine status (R173). -/
def cmdLoopEngineStatus (rq : Request) (s : State) : State :=
  serve Cmd.loopEngineStatus rq s fun s =>
    let ls := s.usedLoops
    .done s (s.lp.eng.toBytes (LOAD_PM := perMille (ls.map fun e => e.2.load) 2000000000)
      (LINES_PM := perMille (ls.map fun e => s.lineLoad e.2) 38400000) (ACTIVE_SLOTS := ls.length))

/-- LOOP_SET (R170). -/
def execLoopSet (rq : Request) (s : State) : Host.Outcome State Fault Refusal := .next (s.command rq cmdLoopSet)
/-- LOOP_GET (R170). -/
def execLoopGet (rq : Request) (s : State) : Host.Outcome State Fault Refusal := .next (s.command rq cmdLoopGet)
/-- LOOP_SWAP_BANK (R167). -/
def execLoopSwapBank (rq : Request) (s : State) : Host.Outcome State Fault Refusal := .next (s.command rq cmdLoopSwapBank)
/-- LOOP_BANK_WRITE (R167). -/
def execLoopBankWrite (rq : Request) (s : State) : Host.Outcome State Fault Refusal := .next (s.command rq cmdLoopBankWrite)
/-- LOOP_BANK_READ (R171). -/
def execLoopBankRead (rq : Request) (s : State) : Host.Outcome State Fault Refusal := .next (s.command rq cmdLoopBankRead)
/-- LOOP_MODE (R163). -/
def execLoopMode (rq : Request) (s : State) : Host.Outcome State Fault Refusal := .next (s.command rq cmdLoopMode)
/-- LOOP_RESET_TRIP (R165). -/
def execLoopResetTrip (rq : Request) (s : State) : Host.Outcome State Fault Refusal := .next (s.command rq cmdLoopResetTrip)
/-- LOOP_STATUS (R172). -/
def execLoopStatus (rq : Request) (s : State) : Host.Outcome State Fault Refusal := .next (s.command rq cmdLoopStatus)
/-- LOOP_CLEAR (R172). -/
def execLoopClear (rq : Request) (s : State) : Host.Outcome State Fault Refusal := .next (s.command rq cmdLoopClear)
/-- LOOP_ENGINE_STATUS (R173). -/
def execLoopEngineStatus (rq : Request) (s : State) : Host.Outcome State Fault Refusal := .next (s.command rq cmdLoopEngineStatus)

/-! ### Boundary and sample -/

/-- A boundary of a grid: the raw counter less the phase is a whole multiple of the period, both in µs (R78, R155). -/
def onGrid (now period phase : Nat) : Bool := period != 0 && us phase ≤ now && (now - us phase) % us period == 0

/-- A loop has entered TRIPPED: a TRIP record, and the event tasks on it (R165). (log 96) -/
def State.loopTripped (s : State) (n : Fin 256) (old : LoopMode) (cause : Nat) : State :=
  (s.event 5 0x0580 n.val old.num cause).trigger 5 fun a => a % 256 == n.val

/-- A loop that is not tripped trips with a cause from outside its sample (R156, R165). -/
def State.tripLoop (s : State) (n : Fin 256) (cause : Nat) : State :=
  let l := s.loop n
  if l.slot.mode = .tripped then s else (s.setLoop n (l.trip cause s.ts)).loopTripped n l.slot.mode cause

/-- A late sample: discarded, counted and recorded; LATE_LIMIT of them in a row trip the loop (R156). (log 96) -/
def State.lateSample (s : State) (n : Fin 256) : State :=
  let l := s.loop n
  let l := { l with
    sample := none, lateRun := l.lateRun + 1,
    stat := { l.stat with LOOP_LATE := 1#1, LATE_SEEN := 1#1, LATE_COUNT := sat l.stat.LATE_COUNT } }
  let s := { s.setLoop n l with lp.eng := { s.lp.eng with TOTAL_LATE := sat s.lp.eng.TOTAL_LATE } }
  let s := s.event 3 0x0580 n.val l.slot.mode.num 3
  if l.desc.LATE_LIMIT.toNat ≤ l.lateRun then s.tripLoop n 3 else s

/-- The output that a boundary writes: SAFE_OUT at the first, else the result of the sample before (R155, R156, R168,
R385). (log 98) -/
def State.boundaryOut (s : State) (n : Fin 256) : State :=
  let l := s.loop n
  if l.sample.isSome then s.lateSample n
  else if l.fresh then
    let v := l.desc.SAFE_OUT.toInt
    (s.setLoop n { l with slot := { l.slot with out := v, outQual := 0#2 } }).writeOut l.desc.OUT_DST v 0#2
  else if l.result || l.taken then
    (s.setLoop n { l with result := false, taken := false, lateRun := 0, stat := { l.stat with LOOP_LATE := 0#1 } }).writeOut
      l.desc.OUT_DST l.slot.out l.slot.outQual
  else s

/-- The sources of the new sample are read (R155). -/
def State.readSources (s : State) (n : Fin 256) : State :=
  let l := s.loop n
  let d := l.desc
  let x : LoopSources :=
    { pv := s.readSrc d.PV_SRC 0, sp := s.readSrc d.SP_SRC d.SP_CONST, ff := s.readSrc d.FF_SRC 0, ctrl := s.readCtrl d.CTRL_SRC }
  s.setLoop n { l with sample := some (s.now, x) }

/-- LOOP_BOUNDARY (R155): the output write, then the source reads. -/
def execLoopBoundary (n : Fin 256) (s : State) : Host.Outcome State Fault Refusal :=
  .next <|
    let d := (s.loop n).desc
    if s.runsLoops && d.LAW != 0#8 && onGrid s.now d.PERIOD_US.toNat d.PHASE_US.toNat then (s.boundaryOut n).readSources n else s

/-- The sample of a loop that is in progress is computed, and what it brings about is recorded (R153, R164, R165). -/
def State.finishSample (s : State) (n : Fin 256) (b : Nat) (x : LoopSources) : State :=
  let l := s.loop n
  let r := l.compute b x (s.outForced l.desc.OUT_DST) (timeAt s.tm.baseTs s.tm.baseCnt s.tm.rateQ48 b)
  let s := s.setLoop n { r.loop with sample := none, result := true }
  let s := { s with lp.eng := { s.lp.eng with MAX_RESPONSE_NS := maxBv s.lp.eng.MAX_RESPONSE_NS (8 * (s.now - b)) } }
  let s := if r.alarm then s.event 4 0x0581 n.val 0 r.loop.stat.FE_MAX.toNat else s
  let s := if r.cleared then s.event 2 0x0581 n.val 0 r.loop.stat.FE_MAX.toNat else s
  match r.trip with
  | some (m, c) => s.loopTripped n m c
  | none => if r.alarm then s.trigger 5 fun a => a % 256 == n.val else s

/-- LOOP_SAMPLE_COMPLETE (R153): the sample is computed on a MAC unit. -/
def execLoopSampleComplete (n : Fin 256) (s : State) : Host.Outcome State Fault Refusal :=
  .next <|
    match (s.loop n).sample with
    | some (b, x) => if s.runsLoops then s.finishSample n b x else s
    | none => s

/-- FE_TIMER_EXPIRE (R164): the sample that is in progress is the first whose boundary lies at least FE_TIME_MS after
the one that started the timer; its computation sets FE_ALARM and applies FE_ACTION where |fe| is still beyond the limit. -/
def execFeTimerExpire (n : Fin 256) (s : State) : Host.Outcome State Fault Refusal :=
  .next <|
    match (s.loop n).sample, (s.loop n).feSince with
    | some (b, x), some t => if s.runsLoops && t + ms (s.loop n).desc.FE_TIME_MS.toNat ≤ b then s.finishSample n b x else s
    | _, _ => s

/-- A loop as it enters RUN: descriptor, banks and counters stand, the running state is initial (R168, R453). -/
def Loop.start (l : Loop) : Loop :=
  { Loop.init with
    desc := l.desc, bankA := l.bankA, bankB := l.bankB,
    stat := { l.stat with
      RAMPING := 0#1, OUT_SAT := 0#1, OUT_FORCED := 0#1, LOOP_LATE := 0#1, FE_TIMING := 0#1, FE_ALARM := 0#1, TRIP_CAUSE := 0#3 } }

end Sys2Proof.Machine
end

