-- ==== Sys2Proof/Machine/Olc.lean ====
section
/-! DEFINITION. Online change and forcing (R135 to R152): the package, the checks of its activation, and the force
commands with their supervisor writes. -/

namespace Sys2Proof.Machine

/-! ### The change package (R136, R139, R152) -/

/-- A session holds the safety role. -/
def State.safetyRole (s : State) (n : Fin 17) : Bool := (s.host.session.get n).role == 3

/-- Another session holds the change, or tasks still switch to it (R136). (log 88) -/
def State.olcBusy (s : State) (n : Fin 17) : Bool :=
  s.olc.stat.STATE == 2#8 || (s.olc.stat.STATE == 1#8 && s.olc.stat.SESSION.toNat != n.val)

/-- OLC_LOAD loads a part of a package; a part at offset 0 starts a new package (R136, log 39). -/
def cmdOlcLoad (rq : Request) (s : State) : State :=
  serve Cmd.olcLoad rq s fun s =>
    let off := rq.u32 0
    let part := rq.payload.drop 4
    let base : Memory := if off = 0 then [] else s.olc.pkg
    let len := if off = 0 then part.length else max s.olc.stat.BYTES_LOADED.toNat (off + part.length)
    refuseIf (s.olcBusy rq.session) 0x0406 0xFFFF <|
      .done { s with
        olc.pkg := base.write off part, olc.info := none,
        olc.stat := { s.olc.stat with STATE := 1#8, SESSION := BitVec.ofNat 8 rq.session.val, BYTES_LOADED := BitVec.ofNat 32 len } } []

/-- The descriptors of the used tasks with the worst cases that a package gives (R139). -/
def State.tasksAfter (s : State) (p : PkgInfo) : List TaskDesc :=
  s.usedTasks.map fun d =>
    match asFin 128 d.TASK_ID.toNat with
    | some t => { d with WCET_US := p.wcetOf t d.WCET_US }
    | none => d

/-- Bytes of code that the program holds of a task. (log 89) -/
def State.codeBytes (s : State) (t : Fin 128) : Nat :=
  match s.declOf t with
  | some d => d.codeBytes
  | none => 0

/-- A chamber's quota in force, in bytes. (log 89) -/
def State.quotaBytes (s : State) (c : Fin 11) : Nat := 1024 * quotas s.gro.act c

/-- The condition of 0x020D holds after the change (R106, R139). -/
def State.writersAfter (s : State) (p : PkgInfo) : Option (Nat × Nat) :=
  let loops := { s with tk.prog := p.prog : State }.loopOutputs
  match outputClash p.prog loops with
  | some (t, o) => some (t.val, o.off)
  | none => if loopClash loops then some (0xFFFF, 0) else none

/-- The peer is not ready for a change: not STANDBY, or another package in it (R139). -/
def State.peerLacks (s : State) (p : PkgInfo) : Bool :=
  s.paired && !((match s.pr.peer with | some x => x.role == .standby | none => false)
    && (match s.pr.peerCfg with | some c => c.package == p.digest | none => false))

/-- The checks of R139 but the mode, which the mailbox layer has made. (log 89) -/
def State.activateCheck (s : State) (p : PkgInfo) (k : Served) : Served :=
  let big := p.tasks.find? fun x => 256 < x.mapLines
  let safe := p.tasks.find? fun x => (s.task x.task).desc.SAFETY == 1#1
  refuseIf (p.base != s.runningDigest) 0x0408 0xFFFF <|
  refuseIf (!p.valid) 0x0409 0xFFFF <|
  refuseIf (p.safety || safe.isSome) 0x040A ((safe.map fun x => x.task.val).getD 0xFFFF) <|
  refuseIf p.sharedLayout 0x040B 0xFFFF <|
  refuseIf big.isSome 0x040C ((big.map fun x => x.task.val).getD 0xFFFF) <|
  refuseIf (s.quotaBytes 1 < (p.tasks.map fun x => s.codeBytes x.task + x.codeBytes).sum) 0x0401 1 <|
  refuseIf (s.quotaBytes 2 < p.retainBytes) 0x0402 2 <|
  refuseIf (mirrorShort s.gro.act s.paired p.taskBytes) 0x0403 6 <|
  refuseIf (s.quotaBytes 0 < p.imageBytes) 0x0404 0 <|
  match s.writersAfter p with
  | some (t, o) => .refuse 0x0405 t o
  | none =>
    match overload (s.tasksAfter p) 0x040D with
    | some (c, t, o) => .refuse c t o
    | none =>
      refuseIf (3 ≤ s.heatNow || 2 ≤ s.energyNow) 0x040E 0xFFFF <|
      refuseIf (s.peerLacks p) 0x040F 0xFFFF k

/-- The package is accepted: its affected tasks wait for their switches; in STOP, where no task runs, they switch at
once (R137, log 36). (log 88) -/
def State.acceptChange (s : State) (p : PkgInfo) : State :=
  let ts := p.tasks.map fun x => x.task
  let s := { s with
    olc.info := some p, olc.pendingTasks := ts, olc.before := some (s.tk.prog, ts.map fun t => (t, (s.tk.task.get t).desc.WCET_US)),
    olc.stat := { s.olc.stat with STATE := 2#8, SESSION := 0xFF#8, ACCEPT_TS := s.ts } }
  if ts.isEmpty then s.changeDone p
  else if s.sys.mode == .run then s
  else ts.foldl State.switchTask s

/-- The reply of OLC_ACTIVATE: handle and reason of every force that will be dropped (R145). -/
def State.dropReply (s : State) (p : PkgInfo) : List Byte :=
  (s.dropList p).flatMap fun e => leBytes 4 e.1.HANDLE.toNat ++ leBytes 2 e.2

/-- OLC_ACTIVATE checks the package and, if accepted, schedules its switches; the ACTIVE module hands it on to the
standby (R137 to R139, R519). -/
def cmdOlcActivate (rq : Request) (s : State) : State :=
  serve Cmd.olcActivate rq s fun s =>
    let p := Config.packageInfo (s.olc.pkg.read 0 s.olc.stat.BYTES_LOADED.toNat)
    refuseIf (s.olc.stat.STATE == 0#8 || s.olc.stat.STATE == 3#8) 0x041A 0xFFFF <|
      refuseIf (s.olcBusy rq.session) 0x0406 0xFFFF <|
        s.activateCheck p <|
          let reply := s.dropReply p
          let s := if s.paired then s.pairSend .olcActivate else s
          .done (s.acceptChange p) reply

/-- The package is discarded (R136, R140). -/
def State.discardPackage (s : State) : State :=
  { s with olc.pkg := [], olc.info := none, olc.pendingTasks := [], olc.before := none, olc.stat := ChangeStat.dflt }

/-- OLC_ABORT discards a package that is not yet activated: for its session, or for one with the safety role (R136,
R519). -/
def cmdOlcAbort (rq : Request) (s : State) : State :=
  serve Cmd.olcAbort rq s fun s =>
    refuseIf (s.olc.stat.STATE == 0#8 || s.olc.stat.STATE == 3#8) 0x041A 0xFFFF <|
      refuseIf (s.olcBusy rq.session && !(s.olc.stat.STATE == 1#8 && s.safetyRole rq.session)) 0x0406 0xFFFF <|
        .done s.discardPackage []

/-- OLC_STATUS reads the change status (R152). -/
def cmdOlcStatus (rq : Request) (s : State) : State :=
  serve Cmd.olcStatus rq s fun s => .done s (s.olc.stat.toBytes (PENDING_TASKS := s.olc.pendingTasks.length))

/-! ### Forces (R141 to R148) -/

/-- A byte range is the state byte of an input of a declared safety pair (R141, R241). -/
def State.pairInput (s : State) (off : Nat) : Bool :=
  s.safetySet.PAIR.toList.any fun p => p.KIND != 0#8
    && [p.CH_A, p.CH_B].any fun c => c.toNat < 32 && off == 0x80 + 0x40 * (c.toNat / 8) + c.toNat % 8

/-- A variable that no force may hold (R141): not in IMAGE, locked, in the budget record, or an input of a safety
pair. -/
def State.unforceable (s : State) (v : VarDecl) : Bool :=
  v.chamber != 0 || v.locked || v.off < 24 || s.pairInput v.off

/-- A session may change or release a force (R147). -/
def State.mayRelease (s : State) (n : Fin 17) (f : ForceEntry) : Bool :=
  f.OWNER.toNat == n.val || f.OWNER == 0xFF#8 || s.safetyRole n

/-- Forces that stand, and those that wait to be set (R148). (log 88) -/
def State.forcesToCome (s : State) : List (BitVec 32) :=
  (s.olc.forces.map (fun f => f.HANDLE) ++ (s.olc.batch.filter fun p => p.value.isSome).map fun p => p.handle).eraseDups

/-- A request enters the batch of its value (R146). -/
def State.joinBatch (s : State) (rq : Request) (handle : BitVec 32) (value : Option (BitVec 64)) (all : Bool) : State :=
  { s with olc.batch := s.olc.batch ++ [⟨handle, value, rq.session, rq.rxTs.toNat, rq, all⟩] }

/-- The low SIZE bytes of a forced value (R150). -/
def ForceReq.used (r : ForceReq) : BitVec 64 := BitVec.ofNat 64 (r.VALUE.toNat % 2 ^ (8 * r.SIZE.toNat))

/-- OLC_FORCE_SET: a set or a change that passes its checks enters its batch (R146, R148). (log 88) -/
def cmdOlcForceSet (rq : Request) (s : State) : State :=
  serve Cmd.olcForceSet rq s fun s =>
    let r := ForceReq.ofBytes rq.payload
    let h := r.HANDLE.toNat
    match s.varOf r.HANDLE with
    | none => .refuse 0x0418 0xFFFF h
    | some v =>
      let old := s.forceOf r.HANDLE
      refuseIf (r.SIZE != v.size || !([1, 2, 4, 8].contains r.SIZE.toNat)) 0x0419 0xFFFF (item := h) <|
        refuseIf (old.isNone && s.unforceable v) 0x0416 0xFFFF (item := h) <|
          refuseIf (v.safetyRead && !s.safetyRole rq.session) 0x0417 0xFFFF (item := h) <|
            refuseIf (match old with | some f => !s.mayRelease rq.session f | none => false) 0x0414 0xFFFF (item := h) <|
              refuseIf (!s.forcesToCome.contains r.HANDLE && 256 ≤ s.forcesToCome.length) 0x0415 0xFFFF (item := h) <|
                .later (s.joinBatch rq r.HANDLE (some r.used) false)

/-- OLC_FORCE_RELEASE: the release of a standing force enters its batch; a value without a force is done at once
(R146, R148). -/
def cmdOlcForceRelease (rq : Request) (s : State) : State :=
  serve Cmd.olcForceRelease rq s fun s =>
    let h := BitVec.ofNat 32 (rq.u32 0)
    refuseIf (s.varOf h).isNone 0x0418 0xFFFF (item := h.toNat) <|
      match s.forceOf h with
      | none => .done s []
      | some f => refuseIf (!s.mayRelease rq.session f) 0x0414 0xFFFF (item := h.toNat) (.later (s.joinBatch rq h none false))

/-- OLC_FORCE_RELEASE_ALL: a release of every force that the session may release; the reply counts those made
(R147). -/
def cmdOlcForceReleaseAll (rq : Request) (s : State) : State :=
  serve Cmd.olcForceReleaseAll rq s fun s =>
    let mine := s.olc.forces.filter (s.mayRelease rq.session)
    if mine.isEmpty then .done s (leBytes 2 0)
    else
      let s : State := { s with olc.releaseAll := s.olc.releaseAll ++ [(rq, mine.length, 0)] }
      .later (mine.foldl (fun (s : State) f => s.joinBatch rq f.HANDLE none true) s)

/-- OLC_FORCE_LIST reads FORCE_COUNT and up to 127 entries (R149, R151). -/
def cmdOlcForceList (rq : Request) (s : State) : State :=
  serve Cmd.olcForceList rq s fun s =>
    .done s (leBytes 2 s.olc.forces.length ++ [0#8, 0#8] ++ ((s.olc.forces.drop (rq.u8 0)).take 127).flatMap ForceEntry.toBytes)

/-- OLC_LOAD (R136). -/
def execOlcLoad (rq : Request) (s : State) : Host.Outcome State Fault Refusal := .next (s.command rq cmdOlcLoad)
/-- OLC_ACTIVATE (R137). -/
def execOlcActivate (rq : Request) (s : State) : Host.Outcome State Fault Refusal := .next (s.command rq cmdOlcActivate)
/-- OLC_ABORT (R136). -/
def execOlcAbort (rq : Request) (s : State) : Host.Outcome State Fault Refusal := .next (s.command rq cmdOlcAbort)
/-- OLC_STATUS (R152). -/
def execOlcStatus (rq : Request) (s : State) : Host.Outcome State Fault Refusal := .next (s.command rq cmdOlcStatus)
/-- OLC_FORCE_SET (R141). -/
def execOlcForceSet (rq : Request) (s : State) : Host.Outcome State Fault Refusal := .next (s.command rq cmdOlcForceSet)
/-- OLC_FORCE_RELEASE (R142). -/
def execOlcForceRelease (rq : Request) (s : State) : Host.Outcome State Fault Refusal := .next (s.command rq cmdOlcForceRelease)
/-- OLC_FORCE_RELEASE_ALL (R147). -/
def execOlcForceReleaseAll (rq : Request) (s : State) : Host.Outcome State Fault Refusal := .next (s.command rq cmdOlcForceReleaseAll)
/-- OLC_FORCE_LIST (R151). -/
def execOlcForceList (rq : Request) (s : State) : Host.Outcome State Fault Refusal := .next (s.command rq cmdOlcForceList)

/-! ### The supervisor's writes (R142, R143, R149) -/

/-- FORCE_APPLY_WRITE (R143, R146): the batch of a value ends with the supervisor's write of the forced value. -/
def execForceApplyWrite (handle : BitVec 32) (s : State) : Host.Outcome State Fault Refusal :=
  .next <|
    match batchWinner (s.olc.batch.filter fun p => p.handle == handle) with
    | some w =>
      match w.value with
      | none => s
      | some value =>
        let s := s.resolveBatch handle
        match s.varOf handle with
        | some v => s.putForced v.off v.size.toNat value.toNat true
        | none => s
    | none => s

/-- The supervisor's write of a released value (R142): the last underlying value, FORCED clear. (log 86) -/
def State.writeReleased (s : State) (f : ForceEntry) : State :=
  match s.varOf f.HANDLE with
  | some v => s.putForced v.off f.SIZE.toNat f.UNDERLYING.toNat false
  | none => s

/-- FORCE_RELEASE_WRITE (R142, R146): the batch of a value that a release wins ends, and the supervisor writes the
underlying value where its writer has not written it since. -/
def execForceReleaseWrite (handle : BitVec 32) (s : State) : Host.Outcome State Fault Refusal :=
  .next <|
    let s := match batchWinner (s.olc.batch.filter fun p => p.handle == handle) with
      | some w => if w.value.isNone then s.resolveBatch handle else s
      | none => s
    match s.olc.releaseWrites.find? fun f => f.HANDLE == handle with
    | some f => { s with olc.releaseWrites := s.olc.releaseWrites.filter fun g => g.HANDLE != handle }.writeReleased f
    | none => s

/-- Forces that have stood for more than 24 h (R149). (log 90) -/
def State.agedForces (s : State) : Nat := (s.olc.forces.filter fun f => f.SET_TS.toNat + 86400000000000 < s.ts.toNat).length

/-- FORCE_AGED_WARNING (R149): once every 24 h while any force has stood for more than 24 h. (log 90) -/
def execForceAgedWarning (s : State) : Host.Outcome State Fault Refusal :=
  .next <|
    if 0 < s.agedForces && (match s.olc.agedAt with | some a => s.since a (sec 86400) | none => true) then
      { s with olc.agedAt := some s.now }.event 3 0x0481 0xFF 0 s.agedForces
    else s

end Sys2Proof.Machine
end

