-- ==== Sys2Proof/Machine/PairCore.lean ====
section
/-! DEFINITION. Ownership of a pair (R374 to R400): roles and epoch, takeover, yield, the loss of ownership, quarantine, and what
one module mirrors to the other. -/

namespace Sys2Proof.Machine

/-! ### Role and epoch -/

/-- The role owns the station (R374). -/
def Role.owns (r : Role) : Bool := r == .active || r == .alone

/-- The module takes a role: ROLE_OUT follows it, and ROLE_CHANGE is raised (R372, R374, R462). (log 143) -/
def State.setRole (s : State) (r : Role) : State :=
  if s.pr.role = r then s else { s with pr.role := r, pr.roleOut := r.owns }.raise irqRoleChange

/-- At a transfer of ownership the new owner raises its epoch above both, sends it where the link is up, and records it
(R376). -/
def State.raiseEpoch (s : State) (old : Role) : State :=
  let e := (if s.pr.epoch.toNat < s.pr.peerEpoch.toNat then s.pr.peerEpoch else s.pr.epoch) + 1
  let was := s.pr.epoch
  let s := { s with pr.epoch := e }
  let s := if s.pairSilent then s else s.pairSend (.epoch e)
  s.event 2 0x0C80 0xFF was.toNat e.toNat (old.num + 256 * s.pr.role.num)

/-- A path fault: PATH_FAULT and an ALARM record (R382). (log 143) -/
def State.pathFault (s : State) : State := { s with pr.stat := { s.pr.stat with PATH_FAULT := 1#1 } }.pairAlarm

/-! ### Losing ownership -/

/-- No Crucible job is left or running (R448). (log 146) -/
def State.dropJobs (s : State) : State :=
  { s with cru.queue := [], cru.running := none, cru.slot := s.cru.slot.map fun (x : Slot) => { x with job := none } }

/-- What an owner stops as it loses the station: tasks, samples, jobs, axes, CAN traffic (R374, R381, R384). -/
def State.leaveStation (s : State) (r : Role) : State :=
  let s := (((s.idleTasks (idx 128)).dropSamples).dropJobs.stopAxes true).abortTest
  let s := { s with
    pr.yielding := false, pr.stopAfter := false, pr.handed := [], pr.swapping := false, pr.swapArm := false, pr.swapWait := none, pr.retryAt := none,
    pr.sync := none, pr.written := [] }
  (s.setRole r).canModes.evalMatrix

/-- A stop of RUN (R443, R448, R462): safe states at once, every QL line in kill, loops, axes and jobs stopped, and STOP with CLEAN
set. (log 159) -/
def State.stopRun (s : State) : State :=
  let ts := (idx 128).filter fun t => (s.task t).desc.KIND != 0#8 && s.hasTask t
  let s := ts.foldl State.commitSafe s
  let s := (((s.idleTasks (idx 128)).dropLines.dropSamples).dropJobs.stopAxes true).abortTest
  (({ s with pr.startWait := none, sys.clean := true }.clearRunEn.setMode .stop).setReason 5 0).canModes.evalMatrix

/-- A module becomes QUARANTINED (R399, R400). -/
def State.quarantine (s : State) : State :=
  let s := s.leaveStation .quarantined
  { s with pr.peerOkOut := false, pr.stat := { s.pr.stat with QUARANTINE_COUNT := sat s.pr.stat.QUARANTINE_COUNT } }.pairAlarm

/-- An owner learns of another owner of its pair and its epoch: quarantined where that is higher, and at PAIR_POS 1 where
they are equal (R399). -/
def State.learnOwner (s : State) (epoch : BitVec 64) : State :=
  if s.paired && s.pr.role.owns && (s.pr.epoch.toNat < epoch.toNat || (s.pr.epoch == epoch && s.sys.straps.pairPos)) then s.quarantine else s

/-! ### What a new owner starts with (R385) -/

/-- A loop with its mirrored mode, bank and state; its first boundary writes its last output (R385). -/
def State.takeLoop (s : State) (e : Fin 256 × LoopSlot × BitVec 1 × Bank × Bank) : State :=
  let l := s.loop e.1
  s.setLoop e.1 { l with
    slot := e.2.1, bankA := e.2.2.2.1, bankB := e.2.2.2.2, stat := { l.stat with ACTIVE_BANK := e.2.2.1 },
    fresh := false, taken := true, sample := none, result := false, lateRun := 0 }

/-- Every mirrored loop is taken. -/
def State.takeLoops (s : State) : State := s.pr.mirLoops.foldl State.takeLoop s

/-- An axis that stood at rest with EN_ON keeps its position; every other starts uncertain (R315). -/
def State.takeAxes (s : State) : State :=
  { s with mot.axis := Vector.ofFn fun n =>
      let x := s.mot.axis.get n
      match s.pr.mirAxes.find? fun e => e.1 == n with
      | some (_, p, true) => { x with pos := p, frac := 0, stat := { x.stat with POSITION_UNCERTAIN := 0#1 } }
      | _ => { x with stat := { x.stat with POSITION_UNCERTAIN := 1#1, HOMED := 0#1 } } }

/-- The island starts with the mirrored targets and latches (R236). (log 145) -/
def State.takeIsland (s : State) : State :=
  match s.pr.mirIsland with
  | none => s
  | some (killed, pf, af) =>
    { s with
      isl.killed := killed, isl.killedB := killed,
      isl.pair := Vector.ofFn fun k => let p := s.isl.pair.get k; { p with disc := p.disc || pf.getLsbD k.val, needCycle := false },
      isl.axis := Vector.ofFn fun k => let x := s.isl.axis.get k; { x with latched := x.latched || af.getLsbD k.val } }

/-- A task's mirrored output block is committed again (R384, R389): its outputs, and what it commits to the island. -/
def State.redrive (s : State) (t : Fin 128) : State :=
  match s.pr.outBlocks.lookup t with
  | none => s
  | some (outs, isl) =>
    let s := outs.foldl (fun s v => s.publishOut t v) s
    (isl.foldl State.commitIsland s).setTask t fun k => { k with commitAt := some s.now }

/-- A task on its new module: no cycle yet, its last latch as mirrored (R384 to R386). -/
def State.takeTask (s : State) (t : Fin 128) : State :=
  s.setTask t fun k =>
    { k with run := if k.run = .stopped then .stopped else .idle, cycleOpen := false, finished := none, trigger := none, started := false, missed := 0,
             latchAt := (s.pr.latchAges.lookup t).getD k.latchAt, commitAt := some s.now }

/-- The new owner takes over (R384, R385): epoch, mirror, role ALONE, and the re-drive of every block, with which its CAN
controllers leave restricted operation. (log 146) -/
def State.takeover (s : State) : State :=
  let old := s.pr.role
  let s := { s with
    pr.swapping := false, pr.handed := [], pr.swapArm := false, pr.swapWait := none, pr.sync := none, pr.witnessAt := none, pr.witnessAsk := none,
    pr.xfade := [], pr.releaseDo := [], pr.releaseSo := 0#4, pr.held := [], pr.retryAt := none,
    pr.stat := { s.pr.stat with TAKEOVER_COUNT := sat s.pr.stat.TAKEOVER_COUNT } }
  let s := (s.setRole .alone).raiseEpoch old
  let s := (s.takeLoops.takeAxes.renewSlots).takeIsland
  let s := (idx 128).foldl (fun s t => (s.takeTask t).redrive t) s
  s.canTakeover.evalMatrix.pairSend .redrive

/-! ### When a standby takes over (R382, R383) -/

/-- The conditions of R382 but the witness. -/
def State.peerGone (s : State) : Bool := s.pairSilent && !s.pr.peerOkIn

/-- A frame that asks the witness (R383); its form is the plant network's (log 33). -/
def State.askWitness (s : State) : State :=
  let frame := leBytes 2 s.pr.act.WITNESS_ADDR.toNat ++ leBytes 2 s.sys.straps.addr.toNat ++ leBytes 2 s.pr.act.WITNESS_SILENT_US.toNat
  { s.sendFrames [frame] with pr.witnessAt := some s.now, pr.witnessAsk := some s.now }

/-- The peer is gone: takeover, or the question to the witness (R382, R383). (log 143) -/
def State.standbyActs (s : State) : State :=
  if s.pr.act.WITNESS_EN == 1#1 then (if s.pr.witnessAsk.isSome then s else s.askWitness) else s.takeover

/-- A SYNCING module whose owner is lost writes an ALARM record and goes to STOP (R398). (log 143) -/
def State.ownerLost (s : State) : State := { s.pairAlarm.stopRun with pr.sync := none }

/-- An owner loses its standby: ALONE. What a swap had handed over is taken back, as a takeover (R382, R389). -/
def State.loseStandby (s : State) : State :=
  if s.pr.swapping then
    let ts := s.pr.handed
    let s := { s with pr.swapping := false, pr.handed := [], pr.releaseDo := [], pr.releaseSo := 0#4, pr.xfade := [], pr.held := [],
                      pr.stat := { s.pr.stat with TAKEOVER_COUNT := sat s.pr.stat.TAKEOVER_COUNT } }
    let s := s.takeLoops
    ((ts.foldl (fun s t => (s.takeTask t).redrive t) s).evalMatrix).setRole .alone
  else { s with pr.swapArm := false, pr.swapWait := none, pr.sync := none, pr.written := [] }.setRole .alone

end Sys2Proof.Machine
end

