-- ==== Sys2Proof/Machine/Pair.lean ====
section
/-! DEFINITION. The redundant pair (R372 to R407): commands, heartbeat and PEER_OK, mirrored frames, swap, signatures, comeback,
and the witness. -/

namespace Sys2Proof.Machine

/-! ### Commands (R405 to R407) -/

/-- Every field of a pair descriptor lies in its range (R405). -/
def PairDesc.ok (d : PairDesc) : Bool :=
  d.PAIR_MODE.toNat ≤ 1 && d.SWAP_MODE.toNat ≤ 1 && between 60 d.SWAP_PERIOD_MIN.toNat 10080 && between 100 d.START_WAIT_MS.toNat 60000
    && d.WITNESS_ADDR.toNat ≤ 1023 && between 2000 d.WITNESS_SILENT_US.toNat 8000 && between 2500 d.WITNESS_TIMEOUT_US.toNat 9000

/-- PAIR_SET, for the next ENABLE (R405). -/
def cmdPairSet (rq : Request) (s : State) : State :=
  serve Cmd.pairSet rq s fun s =>
    let d := PairDesc.ofBytes rq.payload
    refuseIf (!d.ok) 0x0C01 0xFFFF (.done { s with pr.desc := d } [])

/-- PAIR_SET (R405). -/
def execPairSet (rq : Request) (s : State) : Host.Outcome State Fault Refusal := .next (s.command rq cmdPairSet)

/-- PAIR_GET (R405). -/
def cmdPairGet (rq : Request) (s : State) : State := serve Cmd.pairGet rq s fun s => .done s s.pr.desc.toBytes

/-- PAIR_GET (R405). -/
def execPairGet (rq : Request) (s : State) : Host.Outcome State Fault Refusal := .next (s.command rq cmdPairGet)

/-- PAIR_STATUS (R406). How LINK_LOAD_PM is averaged the spec does not say: a free value (log 13). (log 145) -/
def cmdPairStatus (rq : Request) (s : State) : State :=
  serve Cmd.pairStatus rq s fun s =>
    let (v, s) := s.draw
    .done s { s with pr.stat := { s.pr.stat with LINK_LOAD_PM := BitVec.ofNat 32 (v.toNat % 1001) } }.pairStatus

/-- PAIR_STATUS (R406). -/
def execPairStatus (rq : Request) (s : State) : Host.Outcome State Fault Refusal := .next (s.command rq cmdPairStatus)

/-- PAIR_SWAP starts a swap, or refuses it (R388, R407). -/
def cmdPairSwap (rq : Request) (s : State) : State :=
  serve Cmd.pairSwap rq s fun s =>
    refuseIf (!s.paired) 0x0C03 0xFFFF <|
    refuseIf s.swapPendingNow 0x0C06 0xFFFF <|
    refuseIf (s.pairSilent || s.peerRole != .standby) 0x0C04 0xFFFF <|
    refuseIf (!s.owner || s.swapBlocked) 0x0C05 0xFFFF <| .done (s.acceptSwap false) []

/-- PAIR_SWAP (R388). -/
def execPairSwap (rq : Request) (s : State) : Host.Outcome State Fault Refusal := .next (s.command rq cmdPairSwap)

/-- PAIR_READMIT takes a QUARANTINED module to SYNCING (R400, R407). -/
def cmdPairReadmit (rq : Request) (s : State) : State :=
  serve Cmd.pairReadmit rq s fun s =>
    refuseIf (!s.paired) 0x0C03 0xFFFF <|
    refuseIf (s.pr.role != .quarantined) 0x0C07 0xFFFF <|
    refuseIf (s.pairSilent || !s.peerRole.owns) 0x0C08 0xFFFF <|
      .done ({ s with
        pr.sync := some .retain, pr.markersSeen := [], pr.sigClean := false,
        pr.stat := { s.pr.stat with RETAIN_SYNCED := 0#1, SYNC_PCT := 0#8 } }.setRole .syncing).canModes []

/-- PAIR_READMIT (R400). -/
def execPairReadmit (rq : Request) (s : State) : Host.Outcome State Fault Refusal := .next (s.command rq cmdPairReadmit)

/-- The pair counters cleared (R406). -/
def PairStat.cleared (x : PairStat) : PairStat :=
  { x with SWAP_COUNT := 0#32, TAKEOVER_COUNT := 0#32, DIVERGE_COUNT := 0#32, LINK_CRC_ERR := 0#16, QUARANTINE_COUNT := 0#16 }

/-- PAIR_CLEAR clears what its mask names (R387, R395, R406). -/
def cmdPairClear (rq : Request) (s : State) : State :=
  serve Cmd.pairClear rq s fun s =>
    let m := BitVec.ofNat 8 (rq.u8 0)
    let x := if m.getLsbD 0 then s.pr.stat.cleared else s.pr.stat
    let x := if m.getLsbD 1 then { x with YIELD_FAULT := 0#1 } else x
    let x := if m.getLsbD 2 then { x with DIVERGE_FAULT := 0#1 } else x
    .done { s with pr.stat := x, pr.diverge := if m.getLsbD 2 then [] else s.pr.diverge } []

/-- PAIR_CLEAR (R406). -/
def execPairClear (rq : Request) (s : State) : Host.Outcome State Fault Refusal := .next (s.command rq cmdPairClear)

/-! ### Heartbeat and PEER_OK (R377, R378) -/

/-- The module keeps up its pair link: paired, with a live supervisor, in STOP or RUN (R375, R377). -/
def State.linkUp (s : State) : Bool := s.paired && s.firmwareUp && (s.sys.mode == .stop || s.sys.mode == .run)

/-- Every descriptor as written, as bytes (R403). (log 142) -/
def State.descriptors (s : State) : List Byte :=
  s.gro.desc.toList.flatMap ChamberDesc.toBytes ++ s.pow.desc.toBytes
    ++ (s.tk.task.toList.flatMap fun k => k.desc.toBytes) ++ (s.tk.remotes.flatMap fun r => r.desc.toBytes)
    ++ (s.lp.loop.toList.flatMap fun l => l.desc.toBytes) ++ (s.cru.slot.toList.flatMap fun x => x.desc.toBytes ++ x.qp.toBytes)
    ++ s.dio.desc.toList.flatMap DioDesc.toBytes ++ (s.aio.toList.flatMap fun a => a.desc.toBytes)
    ++ (s.mot.axis.toList.flatMap fun x => x.desc.toBytes) ++ (s.mot.enc.toList.flatMap fun x => x.desc.toBytes)
    ++ (s.can.ctrl.toList.flatMap fun x => x.desc.toBytes ++ x.filters.toList.flatMap CanFilter.toBytes)
    ++ s.can.objects.flatMap CanObject.toBytes ++ s.tm.netDesc.toBytes ++ s.tm.ptpDesc.toBytes
    ++ (s.tm.cmp.toList.flatMap fun x => x.desc.toBytes) ++ (s.tm.tci.toList.flatMap fun x => x.desc.toBytes) ++ s.pnl.desc.toBytes

/-- The package that the module holds (R139). -/
def State.packageDigest (s : State) : BitVec 256 :=
  match s.olc.info with
  | some p => p.digest
  | none => if s.olc.pkg.isEmpty then 0 else (Config.packageInfo (s.olc.pkg.read 0 s.olc.stat.BYTES_LOADED.toNat)).digest

/-- What the module reports of its configuration (R403). (log 142) -/
def State.configReport (s : State) : PeerConfig :=
  { addr := s.sys.straps.addr, pos := s.sys.straps.pairPos,
    firmware := Config.sha256 (s.sys.slot.get s.sys.runningSlot).bytes, program := s.runningDigest,
    descriptors := Config.sha256 s.descriptors, setCrc := s.safetySet.CRC, pairDesc := s.pr.desc, package := s.packageDigest }

/-- What a heartbeat carries (R377). -/
def State.beat (s : State) : PeerInfo :=
  { role := s.pr.role, epoch := s.pr.epoch, mode := s.sys.mode, heat := s.pow.heat, energy := s.pow.energy,
    faulty := s.pr.stat.YIELD_FAULT == 1#1 || s.pr.stat.DIVERGE_FAULT == 1#1 || (idx 4).any fun l => (s.dbg.lane.get l).stat.LANE_FAULT == 1#1,
    doCmd := BitVec.ofNat 32 (ofBits ((idx 32).map fun c => (s.dioDesc c).PAIR_PEER == 1#1 && s.doCommand c)),
    soCmd := BitVec.ofNat 4 (ofBits ((idx 4).map fun c => (s.safetySet.SO.get c).PAIR_WIRING != 0#8 && s.soCommand c)) }

/-- Every 50 µs a heartbeat is sent; a module with a role, but for QUARANTINED, retriggers PEER_OK_OUT with it (R374,
R377, R378). -/
def execHeartbeatSend (s : State) : Host.Outcome State Fault Refusal :=
  .next <|
    if s.linkUp && s.since s.pr.heartbeatAt (us 50) then
      let s := (s.pairSend (.config s.configReport)).pairSend (.heartbeat s.beat)
      { s with pr.heartbeatAt := s.now, pr.peerOkOut := s.pr.role != .none && s.pr.role != .quarantined }
    else s

/-- PEER_OK_OUT falls 75 µs after the last heartbeat (R378). -/
def execPeerOkDrop (s : State) : Host.Outcome State Fault Refusal :=
  .next (if s.since s.pr.heartbeatAt (us 75) then { s with pr.peerOkOut := false } else s)

/-- Once every second the owner drives PEER_OK_OUT low for 1 µs, and announces it (R378). -/
def execPeerOkTestPulse (s : State) : Host.Outcome State Fault Refusal :=
  .next <|
    if s.linkUp && s.pr.role.owns && s.since s.pr.pulseAt (sec 1) then
      { s.pairSend (.testPulse true) with pr.pulseAt := s.now, pr.pulseLow := some s.now }
    else s

/-- The level on PEER_OK_OUT. -/
def State.peerOkLevel (s : State) : Bool :=
  s.pr.peerOkOut && (match s.pr.pulseLow with | some a => s.since a (us 1) | none => true)

/-- The peer's last heartbeat carried a role that drives PEER_OK_OUT (R374). (log 143) -/
def State.peerHolds (s : State) : Bool := s.peerRole != .none && s.peerRole != .quarantined

/-- PEER_OK_IN has been low for 4 µs (R378): with a silent link the peer is gone; with a running one a path is faulty (R382). -/
def execPeerOkInLow (s : State) : Host.Outcome State Fault Refusal :=
  .next <|
    let s := { s with pr.peerOkIn := false }
    if !s.paired || !s.inRun then s
    else if s.pairSilent then
      match s.pr.role with
      | .standby => s.standbyActs
      | .syncing => s.ownerLost
      | .none | .alone | .active | .quarantined => s
    else if s.peerHolds then (if s.pr.role == .active then s.pathFault.loseStandby else s.pathFault)
    else s

/-- An accepted ENABLE that waits for its peer does not enter RUN: STOP, with its code (R375, R450). -/
def State.notReady (s : State) : State :=
  { s with sys.starting := none, pr.startWait := none, pr.witnessAt := none, pr.witnessAsk := none }.clearRunEn.setReason 1 0x0C04

/-- PEER_OK_IN rises; during the wait of START_WAIT_MS with a silent link it ends the wait (R375). -/
def execPeerOkInRise (s : State) : Host.Outcome State Fault Refusal :=
  .next <|
    let s := { s with pr.peerOkIn := true }
    if s.pr.startWait.isSome && s.pairSilent then { s.notReady with pr.stat := { s.pr.stat with PATH_FAULT := 1#1 } } else s

/-- No valid frame for 75 µs (R382, R398). -/
def execPairLinkSilent (s : State) : Host.Outcome State Fault Refusal :=
  .next <|
    if !s.paired || !s.inRun || !s.pairSilent then s
    else match s.pr.role with
    | .standby => if s.pr.peerOkIn then s.pathFault else s.standbyActs
    | .syncing => if s.pr.peerOkIn then s.pathFault else s.ownerLost
    | .active => (if s.pr.peerOkIn then s.pathFault else s).loseStandby
    | .alone =>
      let s := if s.pr.peerOkIn then s.pathFault else s
      if s.pr.swapping then s.loseStandby else { s with pr.sync := none, pr.written := [] }
    | .none | .quarantined => s

/-- One lane of the pair link fails (R377). -/
def execPairLaneFail (s : State) : Host.Outcome State Fault Refusal :=
  .next (if s.linkUp then { s with pr.stat := { s.pr.stat with LANE_DOWN := 1#1 } }.pairAlarm else s)

/-! ### The witness (R383) -/

/-- The other conditions for asking the witness still hold: a STANDBY whose peer is gone, or an ENABLE that waits. -/
def State.asking (s : State) : Bool := s.peerGone && ((s.inRun && s.pr.role == .standby) || s.pr.startWait.isSome)

/-- The witness confirms, or its silence counts so: takeover, or ALONE at ENABLE (R375, R383). (log 146) -/
def State.confirmed (s : State) : State :=
  let s := { s with pr.witnessAt := none, pr.witnessAsk := none, pr.stat := { s.pr.stat with WITNESS_LOST := 0#1 } }
  if s.pr.startWait.isSome then { s.setRole .alone with pr.startWait := none } else s.takeover

/-- The witness does not confirm: WITNESS_LOST, and it is asked again after 10 ms. (log 146) -/
def State.denied (s : State) : State := { s with pr.witnessAt := none, pr.stat := { s.pr.stat with WITNESS_LOST := 1#1 } }

/-- A reply of the witness (R383). -/
def execWitnessReply (answer : WitnessAnswer) (s : State) : Host.Outcome State Fault Refusal :=
  .next <|
    if s.pr.witnessAt.isSome && s.asking then
      match answer with
      | .confirm => s.confirmed
      | .deny | .unknown => s.denied
    else s

/-- No reply by WITNESS_TIMEOUT_US (R383). -/
def execWitnessTimeout (s : State) : Host.Outcome State Fault Refusal :=
  .next <|
    if s.asking && s.ran s.pr.witnessAt (us s.pr.act.WITNESS_TIMEOUT_US.toNat) then
      if s.pr.act.WITNESS_REQUIRED == 0#1 then s.confirmed else s.denied
    else s

/-- The witness is asked again every 10 ms while the conditions hold (R383). -/
def execWitnessRetry (s : State) : Host.Outcome State Fault Refusal :=
  .next <|
    if s.asking && s.pr.witnessAt.isNone && s.ran s.pr.witnessAsk (ms 10) then s.askWitness else s

/-- A presence frame, every 1 ms, of a paired module with a witness (R383, R401); its form is the plant network's (log 33). -/
def execWitnessPresenceFrame (s : State) : Host.Outcome State Fault Refusal :=
  .next <|
    if s.linkUp && s.pr.act.WITNESS_EN == 1#1 then
      s.sendFrames [leBytes 2 s.sys.straps.addr.toNat ++ [BitVec.ofNat 8 s.pr.role.num] ++ leBytes 8 s.pr.epoch.toNat]
    else s

/-- A reply of this module as witness: the asker, and 0 CONFIRM, 1 DENY or 2 UNKNOWN (log 33). -/
def State.answerWitness (s : State) (asker : BitVec 16) (n : Nat) : State := s.sendFrames [leBytes 2 asker.toNat ++ [BitVec.ofNat 8 n]]

/-- Some remote descriptor names either address of the pair of a station (R383, R401). -/
def State.knowsPair (s : State) (a : BitVec 16) : Bool := s.tk.remotes.any fun r => r.desc.STATION_ADDR.toNat / 2 == a.toNat / 2

/-- This module is asked as witness (R383). -/
def State.takeQuery (s : State) (asker peer silentUs : BitVec 16) : State :=
  if s.knowsPair peer then { s with pr.witnessFor := s.pr.witnessFor ++ [(asker, peer, silentUs, s.now)] } else s.answerWitness asker 2

/-- A frame of a station has been seen: queries about it are denied (R383). -/
def State.notePresence (s : State) (a : BitVec 16) : State :=
  let (mine, rest) := s.pr.witnessFor.partition fun q => q.2.1 == a
  let s := { s with pr.presence := assocPut s.pr.presence a s.now, pr.witnessFor := rest }
  mine.foldl (fun s q => s.answerWitness q.1 1) s

/-- The station asked about has been silent for WITNESS_SILENT_US: CONFIRM (R383). -/
def execWitnessSilenceConfirm (s : State) : Host.Outcome State Fault Refusal :=
  .next <|
    let (done, rest) := s.pr.witnessFor.partition fun q => s.since ((s.pr.presence.lookup q.2.1).getD 0) (us q.2.2.1.toNat)
    done.foldl (fun s q => s.answerWitness q.1 0) { s with pr.witnessFor := rest }

/-! ### Mirrored content (R379, R380, R397) -/

/-- Loop slot state, at most every 100 µs per slot (R379). -/
def execMirrorLoopSend (n : Fin 256) (s : State) : Host.Outcome State Fault Refusal :=
  .next <|
    let l := s.loop n
    if s.runsLoops && s.mirrors && l.desc.LAW != 0#8 && s.since l.mirrorAt (us 100) then
      (s.setLoop n { l with mirrorAt := s.now }).mirror (.loop n l.slot l.stat.ACTIVE_BANK l.bankA l.bankB)
    else s

/-- The module takes mirrored content: STANDBY or SYNCING, or the old owner of a swap (R379, R389). (log 145) -/
def State.takesMirror (s : State) : Bool := s.paired && (s.pr.role == .standby || s.pr.role == .syncing || s.pr.swapping)

/-- A RETAIN line is applied and written through; a closed gate discards it (R34, R36, R379). -/
def State.applyRetain (s : State) (off : Nat) (data : List Byte) : State :=
  if s.gro.gateClosed then s.chamberEvent 2 fun x => { x with GATE_DISCARD := sat x.GATE_DISCARD }
  else { s.setMem 2 ((s.gro.mem.get 2).write off data) with gro.wbuf := (s.gro.buffer ⟨.retain, off, data⟩).wbuf, gro.backpressure := (s.gro.buffer ⟨.retain, off, data⟩).backpressure }

/-- Commands of pair-series channels are taken at the marker (R392). -/
def State.takeSeries (s : State) (island : List SafeVal) : State :=
  island.foldl (fun s v => match v with
    | .so c _ => if (s.safetySet.SO.get c).PAIR_WIRING == 2#8 then s.commitIsland v else s
    | _ => s) s

/-- A commit marker applies the held lines of its cycle (R380), after the task's switch where the owner has made it (R140); the
old owner of a swap lets go of what it still holds for the task (R390). (log 145) -/
def State.applyMarker (s : State) (t : Fin 128) (outs : List ImgVal) (island : List SafeVal) (age : Nat) (pending : Bool) : State :=
  let s := if !pending && s.olc.pendingTasks.contains t then s.switchTask t else s
  let (mine, rest) := s.pr.held.partition fun e => e.1 == t
  let s := mine.foldl (fun s e => s.setMem e.2.1 ((s.gro.mem.get e.2.1).write e.2.2.1 e.2.2.2)) { s with pr.held := rest }
  let (offs, isl) := s.writes t
  let gone := s.pairDo offs
  let s := { s with
    pr.outBlocks := assocPut s.pr.outBlocks t (outs, island), pr.latchAges := assocPut s.pr.latchAges t (s.now - age),
    pr.markersSeen := if s.pr.sync == some .secondPass || s.pr.sync == some .markers then s.pr.markersSeen.insert t else s.pr.markersSeen,
    pr.releaseDo := s.pr.releaseDo.filter fun c => !gone.contains c, pr.releaseSo := s.pr.releaseSo &&& ~~~(s.pairSo isl) }
  if s.owner then s else (s.takeSeries island).evalMatrix

/-! ### Signatures (R394, R395) -/

/-- A block has differed: counted and recorded; the third time within 24 h sets DIVERGE_FAULT. -/
def State.diverged (s : State) (b : Nat) : State :=
  let l := (s.pr.diverge.filter fun e => s.now < e.2 + sec 86400) ++ [(b, s.now)]
  let fault := 3 ≤ (l.filter fun e => e.1 == b).length
  let s := { s with
    pr.diverge := l,
    pr.stat := { s.pr.stat with
      DIVERGE_COUNT := sat s.pr.stat.DIVERGE_COUNT, LAST_DIVERGE_BLOCK := BitVec.ofNat 32 b,
      DIVERGE_FAULT := if fault then 1#1 else s.pr.stat.DIVERGE_FAULT } }
  let s := (s.event 2 0x0C82 0xFF 0 b).pairSend (.resend b)
  if fault then s.event 4 0x0C82 0xFF 0 b else s

/-- The owner's signatures are compared with this module's (R394). -/
def State.compare (s : State) (l : List (Nat × BitVec 32)) : State :=
  let bad := l.filter fun e => blockSig (s.gro.mem.get 2) e.1 != e.2
  bad.foldl (fun s e => s.diverged e.1) { s with pr.sigClean := bad.isEmpty }

/-! ### Swap on the receiving side (R389) -/

/-- Event tasks and loops of the owner run here from now on: their mirrored outputs are committed again (R389). (log 147) -/
def State.joinSwap (s : State) : State :=
  if s.pr.role == .standby && s.inRun then
    let ts := s.eventTasks
    let s := { s with pr.swapping := true, pr.handed := ts }.takeLoops
    let s := ts.foldl (fun s t => ((s.takeTask t).redrive t).fade (s.pairAo (s.writes t).1) true) s
    (s.fade (s.pairAo s.loopOffs) true).evalMatrix
  else s

/-- A cyclic task is handed over: its mirrored block is committed again, and it latches at its next boundary here (R389 to
R391). -/
def State.takeHandover (s : State) (t : Fin 128) : State :=
  if s.pr.swapping && !s.owner then
    let s := { s with pr.handed := s.pr.handed.insert t }
    (((s.takeTask t).redrive t).fade (s.pairAo (s.writes t).1) true).evalMatrix
  else s

/-- A swap has ended (R388, R406). -/
def State.noteSwap (s : State) : State :=
  { s with
    pr.swapping := false, pr.handed := [], pr.lastSwapAt := s.now,
    pr.stat := { s.pr.stat with
      SWAP_COUNT := sat s.pr.stat.SWAP_COUNT, LAST_SWAP_TS := s.ts,
      NEXT_SWAP_TS := s.ts + BitVec.ofNat 64 (60000000000 * s.pr.act.SWAP_PERIOD_MIN.toNat) } }

/-- The new owner of a swap: ROLE_OUT rises, and the epoch is raised (R376, R389). -/
def State.endSwap (s : State) : State :=
  if s.pr.swapping && !s.owner then
    let old := s.pr.role
    let s := ((s.noteSwap.setRole .active).raiseEpoch old).takeAxes.renewSlots
    s.takeIsland.evalMatrix
  else s

/-- The old owner hands a task over at its boundary: after its commit it does not latch; with the last cyclic task ROLE_OUT
falls (R389). -/
def State.handOver (s : State) (t : Fin 128) : State :=
  let s := ((s.letGo t).idleTasks [t]).pairSend (.handover t)
  let s := { s with pr.handed := s.pr.handed.insert t }
  if (idx 128).all fun t => (s.task t).desc.KIND != 1#8 || s.pr.handed.contains t then
    let s := s.pairSend .swapDone
    let keep := (s.pr.releaseDo, s.pr.releaseSo, s.pr.xfade)
    let s := s.noteSwap.leaveStation .standby
    { s with pr.releaseDo := keep.1, pr.releaseSo := keep.2.1, pr.xfade := keep.2.2 }
  else s

/-! ### Comeback (R397) -/

/-- The owner begins to fill a SYNCING peer: RETAIN, LOOP, mirrored IMAGE lines, task data, and the tables (R397). (log 145) -/
def State.fill (s : State) : State :=
  let s := { s with pr.sync := some .retain, pr.written := [] }
  let s := s.pairSend (.bulkAll 2 (s.gro.mem.get 2))
  let s := (idx 256).foldl (fun s n =>
    let l := s.loop n
    if l.desc.LAW == 0#8 then s else s.pairSend (.loop n l.slot l.stat.ACTIVE_BANK l.bankA l.bankB)) s
  let s := (s.pairSend (.bulkAll 0 s.img)).pairSend (.bulkAll 1 (s.gro.mem.get 1))
  let s := (s.pairSend (.forces s.olc.forces)).pairSend (.change s.olc.stat s.olc.info s.olc.pendingTasks s.olc.pkg)
  s.pairSend (.island s.isl.killed (BitVec.ofNat 16 s.isl.pairFault) (BitVec.ofNat 8 s.isl.axisFault))

/-- A chamber's content in the bulk copy (R397): RETAIN is written through, and sets RETAIN_SYNCED; of IMAGE only the lines
that the owner mirrors, the outputs of the program, are taken. -/
def State.takeBulk (s : State) (c : Fin 11) (m : Memory) : State :=
  let pct (n : Nat) (s : State) : State := { s with pr.stat := { s.pr.stat with SYNC_PCT := BitVec.ofNat 8 n } }
  if s.pr.role != .syncing then s
  else if c = 2 then
    { pct 25 (s.setMem 2 m) with gro.retainMram := m, pr.sync := some .loop, pr.stat := { s.pr.stat with RETAIN_SYNCED := 1#1, SYNC_PCT := 25#8 } }
  else if c = 0 then
    let outs := s.tk.prog.tasks.flatMap fun d => d.outputs.map fun o => (o.off, o.len)
    { pct 50 (s.setMem 0 (outs.foldl (fun i e => i.write e.1 (m.read e.1 e.2)) s.img)) with pr.sync := some .image }
  else { pct 75 (s.setMem c m) with pr.sync := some .task }

/-- The bulk copy is complete: the lines written meanwhile follow in a second pass, then signatures at the next marker
(R397). -/
def execSyncBulkComplete (s : State) : Host.Outcome State Fault Refusal :=
  .next <|
    match s.pr.sync with
    | none => s
    | some _ =>
      if s.owner then
        let s := s.pr.written.foldl (fun s e => s.pairSend (.bulk e.1 (64 * e.2) ((s.gro.mem.get e.1).read (64 * e.2) 64))) s
        { s with pr.sync := some .secondPass, pr.written := [], pr.sigDue := true }
      else if s.pr.role == .syncing then { s with pr.sync := some .secondPass, pr.markersSeen := [] }
      else s

/-- A SYNCING module becomes STANDBY: every task has passed a marker after the second pass, and the signatures agree (R397). -/
def execSyncComplete (s : State) : Host.Outcome State Fault Refusal :=
  .next <|
    let used := (idx 128).filter fun t => (s.task t).desc.KIND != 0#8
    if s.inRun && s.pr.role == .syncing && s.pr.sync == some .secondPass && s.pr.sigClean && used.all s.pr.markersSeen.contains then
      { s with pr.sync := none, pr.stat := { s.pr.stat with SYNC_PCT := 100#8 } }.setRole .standby
    else s

/-! ### Frames (R376, R377) -/

/-- A STANDBY or SYNCING module adopts every epoch it receives (R376). -/
def State.adoptEpoch (s : State) (e : BitVec 64) : State :=
  let s := { s with pr.peerEpoch := e }
  if s.pr.role == .standby || s.pr.role == .syncing then { s with pr.epoch := e } else s

/-- A heartbeat (R377): the peer's state; another owner is learnt of (R399), a SYNCING peer is filled (R397), a STANDBY one makes
an owner ACTIVE, and one without a role leaves it ALONE (R374). -/
def State.takeBeat (s : State) (p : PeerInfo) : State :=
  let s := { s with pr.peer := some p }.adoptEpoch p.epoch
  let s := if p.role.owns && s.inRun && !s.pr.swapping then s.learnOwner p.epoch else s
  if !s.inRun || !s.pr.role.owns then s
  else match p.role with
  | .standby => { s with pr.sync := none, pr.written := [] }.setRole .active
  | .syncing => if s.pr.sync.isNone then s.fill else s
  | .none | .quarantined => if s.pr.role == .active then s.loseStandby else s
  | .alone | .active => s

/-- The yield is complete: the peer's re-drive is announced (R387, R448); a lane fault then halts the module (R121).
(log 85) -/
def State.yielded (s : State) : State :=
  let stop := s.pr.stopAfter
  let s := s.leaveStation .standby
  if stop then s.stopRun
  else
    let s := { s with pr.stat := { s.pr.stat with YIELD_FAULT := 1#1 } }
    match (idx 4).find? fun l => (s.dbg.lane.get l).stat.LANE_FAULT == 1#1 with
    | some l => s.enterHalt (.laneFault l) false
    | none => s

/-- The content of a valid frame (R376, R378 to R380, R387, R389, R394, R397). -/
def State.takeFrame (s : State) (msg : PairMsg) : State :=
  match msg with
  | .heartbeat p => s.takeBeat p
  | .config c => { s with pr.peerCfg := some c }
  | .retain off data => if s.takesMirror then s.applyRetain off data else s
  | .taskLine t c off data => if s.takesMirror then { s with pr.held := s.pr.held ++ [(t, c, off, data)] } else s
  | .marker t outs island age pending => if s.takesMirror || !s.pr.releaseDo.isEmpty || s.pr.releaseSo != 0#4 then s.applyMarker t outs island age pending else s
  | .loop n slot active a b => if s.takesMirror then { s with pr.mirLoops := assocPut s.pr.mirLoops n (slot, active, a, b) } else s
  | .axis n pos rest enOn => if s.takesMirror then { s with pr.mirAxes := assocPut s.pr.mirAxes n (pos, rest && enOn) } else s
  | .forces f => if s.takesMirror then { s with olc.forces := f, pnl := s.pnl.mark f.length } else s
  | .island killed pf af => if s.takesMirror then { s with pr.mirIsland := some (killed, pf, af) } else s
  | .change st info pending pkg =>
    if s.takesMirror then { s with olc := { s.olc with stat := st, info := info, pendingTasks := pending, pkg := pkg } } else s
  | .epoch e => s.adoptEpoch e
  | .yield => if s.pr.role == .standby && s.inRun then s.takeover else s
  | .swap => s.joinSwap
  | .handover t => s.takeHandover t
  | .swapDone => s.endSwap
  | .testPulse seen =>
    if s.pr.role == .standby && !seen then { s with pr.stat := { s.pr.stat with PEER_OK_FAULT := 1#1 } }.pairAlarm else s
  | .signatures l => if s.takesMirror then s.compare l else s
  | .resend b => if s.owner then { s.pairSend (.block (65536 * b) ((s.gro.mem.get 2).read (65536 * b) 65536)) with pr.sigDue := s.pr.sync.isSome } else s
  | .block off data => if s.takesMirror then s.applyRetain off data else s
  | .redrive => if s.pr.yielding then s.yielded else s
  | .bulkAll c m => s.takeBulk c m
  | .bulk c off data =>
    if s.pr.role != .syncing then s
    else if c = 2 then s.applyRetain off data
    else s.setMem c ((s.gro.mem.get c).write off data)
  | .olcActivate =>
    if s.takesMirror && s.olc.stat.STATE == 1#8 then s.acceptChange (Config.packageInfo (s.olc.pkg.read 0 s.olc.stat.BYTES_LOADED.toNat)) else s

/-- A pair-link frame (R377): one whose CRC fails is counted, and sent again; a valid one ends every wait for the witness. -/
def execPairFrameReceive (crcOk : Bool) (msg : PairMsg) (s : State) : Host.Outcome State Fault Refusal :=
  .next <|
    if !s.linkUp then s
    else if !crcOk then { s with pr.stat := { s.pr.stat with LINK_CRC_ERR := sat s.pr.stat.LINK_CRC_ERR } }
    else { s with pr.lastFrame := some s.now, pr.witnessAt := none, pr.witnessAsk := none }.takeFrame msg

/-! ### Timed swaps (R388, R389) -/

/-- SWAP_PERIOD_MIN has passed since the last swap (R388). -/
def execSwapStart (s : State) : Host.Outcome State Fault Refusal :=
  .next <|
    if s.inRun && s.paired && s.pr.role.owns && s.pr.act.SWAP_MODE == 0#8 && !s.swapPendingNow && s.pr.retryAt.isNone
        && s.pr.stat.DIVERGE_FAULT == 0#1 && s.since s.pr.lastSwapAt (sec (60 * s.pr.act.SWAP_PERIOD_MIN.toNat)) then
      s.trySwap false
    else s

/-- A postponed swap is tried again; one of SWAP_REQ only while it stands (R388). -/
def execSwapRetry (s : State) : Host.Outcome State Fault Refusal :=
  .next <|
    if s.inRun && s.paired && s.pr.role.owns && s.pr.act.SWAP_MODE == 0#8 && !s.swapPendingNow && s.ran s.pr.retryAt 0 then
      let s := { s with pr.retryAt := none }
      if s.pr.swapByReq && !s.pow.swapReq then s else s.trySwap s.pr.swapByReq
    else s

/-- An accepted swap has waited more than 60 s for its axes (R389). -/
def execSwapAxisWaitTimeout (s : State) : Host.Outcome State Fault Refusal :=
  .next (if s.ran s.pr.swapWait (sec 60) then s.postponeSwap s.pr.swapByReq else s)

end Sys2Proof.Machine
end

