-- ==== Sys2Proof/Machine/Cycle.lean ====
section
/-! DEFINITION. The period boundary (R82 to R101, R124, R125, R129, R137, R389): commits, overruns, what is applied between
commits and latches, latches, and the decision. -/

namespace Sys2Proof.Machine

/-! ### Which tasks -/

/-- A cyclic task that this module runs has a boundary now (R78). -/
def State.dueNow (s : State) (t : Fin 128) : Bool :=
  let d := (s.task t).desc
  s.hasTask t && d.KIND == 1#8 && onGrid s.now d.PERIOD_US.toNat d.PHASE_US.toNat

/-- The tasks due now, by priority and then number (R82). -/
def State.dueTasks (s : State) : List (Fin 128) :=
  ((idx 128).filter s.dueNow).foldr
    (insertBy fun a b =>
      let p := (s.task a).desc.PRIORITY.toNat
      let q := (s.task b).desc.PRIORITY.toNat
      p < q || (p == q && a.val < b.val)) []

/-- The boundary is a whole multiple of twice the task's period, plus its phase (R98). (log 78) -/
def State.evenBoundary (s : State) (t : Fin 128) : Bool :=
  let d := (s.task t).desc
  onGrid s.now (2 * d.PERIOD_US.toNat) d.PHASE_US.toNat

/-- The middle of a stretched cycle: no boundary of it (R98). (log 78) -/
def State.midCycle (s : State) (t : Fin 128) : Bool := (s.task t).stat.STRETCHED == 1#1 && (s.task t).cycleOpen && !s.evenBoundary t

/-! ### The end of a cycle (R82, R90 to R93) -/

/-- A boundary passed without an overrun. (log 74) -/
def State.inTime (s : State) (t : Fin 128) : State := s.setTask t fun k => { k with consecOvr := 0 }

/-- A cycle not finished at its boundary (R90 to R92). (log 74) -/
def State.overran (s : State) (t : Fin 128) : State :=
  let s := s.countOverrun t
  let k := s.task t
  if k.desc.OVERRUN_LIMIT.toNat ≤ k.consecOvr || (k.abandons && k.undoOverflow) then s.taskFault t false
  else if k.abandons then (s.abandon t).missCommit t
  else (s.setTask t fun k => { k with stat := { k.stat with OVERRUN := 1#1 } }).missCommit t

/-- The boundary of a task halted at a breakpoint: of the safety class its outputs take their safe states once; any other
counts an overrun that does not count toward the limit (R128, R130). (log 78, 83) -/
def State.haltedBoundary (s : State) (t : Fin 128) : State :=
  let k := s.task t
  if k.desc.SAFETY == 1#1 then (if k.cycleOpen then s.commitSafe t else s.missCommit t)
  else
    (s.setTask t fun k => { k with stat := { k.stat with OVERRUN_COUNT := sat k.stat.OVERRUN_COUNT, OVERRUN := 1#1 } }).missCommit t

/-- What a boundary does to the task's cycle, before any latch (R82): the commit of a finished cycle, or what takes its
place. -/
def State.closeCycle (s : State) (t : Fin 128) : State :=
  let k := s.task t
  if !s.hasTask t || s.midCycle t then s
  else if k.stat.FAULT == 1#1 then s.missCommit t
  else if k.stat.DEBUG_HALT == 1#1 then s.haltedBoundary t
  else if !k.cycleOpen then (if k.stat.HELD == 1#1 then s.missCommit t else s).inTime t
  else if k.heldCycle then ((s.setTask t fun k => { k with cycleOpen := false, heldCycle := false }).missCommit t).inTime t
  else if k.restoreAt.isSome && !k.reexec then (s.missCommit t).inTime t
  else match k.finished, k.bufHeld with
    | some r, false => (s.commitRun t r).inTime t
    | _, _ => s.overran t

/-! ### Between commits and latches -/

/-- Held writes to RETAIN variables that no task writes are applied (R129). (log 84) -/
def State.applyUnowned (s : State) : State := s.dbg.retainWrites.foldl State.applyVar { s with dbg.retainWrites := [] }

/-- A pending split takes effect once no safety-class cycle is left on the lane, or is withdrawn with its reason code (R124).
(log 84) -/
def State.splitNow (s : State) (l : Fin 4) : State :=
  if (s.lane l).SPLIT_PENDING == 1#1 && !s.safetyActive l then
    match s.splitRefusal l with
    | some c => (s.setLane l fun x => { x with SPLIT_PENDING := 0#1 }).event 2 c l.val 0 0
    | none => s.setLane l LaneStat.split
  else s

/-- A pending join takes effect: the task on stream 1 goes back to READY (R125). -/
def State.joinNow (s : State) (l : Fin 4) : State :=
  if (s.lane l).JOIN_PENDING == 1#1 then
    let s := match s.tk.laneTask.get ⟨l.val + 4, by omega⟩ with
      | some t => s.preempt t
      | none => s
    s.setLane l fun x => { x with SPLIT := 0#1, JOIN_PENDING := 0#1 }
  else s

/-! ### The next cycle (R82, R83, R96, R98) -/

/-- The latch at a boundary: the switch to a change package first (R137), then the copy; the task is READY from the boundary
on (R81). -/
def State.beginLatched (s : State) (t : Fin 128) (stretched : Bool) : State :=
  ((s.switchTask t).latch t).setTask t fun k =>
    { k with run := .ready, readyAt := s.now, stretchWait := false,
             stat := { k.stat with HELD := 0#1, STRETCHED := BitVec.ofNat 1 (bit stretched) } }

/-- A task with no open cycle meets its boundary: held, waiting for a multiple of 2T, or latched (R96, R98). (log 78) -/
def State.nextCycle (s : State) (t : Fin 128) : State :=
  let e := s.effectOn t
  if e.holds then
    s.setTask t fun k =>
      { k with stretchWait := false, stat := { k.stat with HELD := 1#1, HELD_COUNT := sat k.stat.HELD_COUNT, STRETCHED := 0#1 } }
  else if e = .stretched && !s.evenBoundary t then
    s.setTask t fun k => { k with stretchWait := true, stat := { k.stat with HELD := 0#1, STRETCHED := 1#1 } }
  else s.beginLatched t (e = .stretched)

/-- A faulted task restarts from its program entry where PRG_TASK_RESUME has asked for it (R92). -/
def State.resumeTask (s : State) (t : Fin 128) : State :=
  s.setTask t fun k => { k with resume := false, run := .idle, consecOvr := 0, stat := { k.stat with FAULT := 0#1, MEMFAULT := 0#1 } }

/-- What a boundary starts for a task, after every commit (R82): the hand-over of a swap (R389), nothing under a yield (R387), a
fault, a halt or an open cycle, else its next cycle. -/
def State.openCycle (s : State) (t : Fin 128) : State :=
  let k := s.task t
  if !s.hasTask t then s
  else if s.pr.swapping && s.owner then (if !k.cycleOpen || k.stat.DEBUG_HALT == 1#1 then s.handOver t else s)
  else if s.pr.yielding || k.stat.DEBUG_HALT == 1#1 || k.cycleOpen then s
  else if k.stat.FAULT == 1#1 then (if k.resume then (s.resumeTask t).nextCycle t else s)
  else s.nextCycle t

/-- PERIOD_BOUNDARY (R82): all due commits, then what takes effect between, then all due latches, then the decision (R80).
(log 74) -/
def execPeriodBoundary (s : State) : Host.Outcome State Fault Refusal :=
  .next <|
    match s.dueTasks with
    | [] => s
    | ts =>
      let s := (ts.foldl State.closeCycle s).applyUnowned
      let s := (idx 4).foldl (fun s l => (s.splitNow l).joinNow l) s
      (ts.foldl State.openCycle s).dispatch

end Sys2Proof.Machine
end

