-- ==== Sys2Proof/Machine/Fabric.lean ====
section
/-! DEFINITION. The fabric, error correction, the scrubber and the MRAM write buffer's drain (R16, R31, R34 to R36, R38 to R41,
R45 to R50). -/

namespace Sys2Proof.Machine

/-! ### Rights and bounds (R16, R45) -/

/-- The chambers that a port may write and read, by ID (R16). -/
def portRights : Vector (List (Fin 11) × List (Fin 11)) 14 :=
  let lane : List (Fin 11) × List (Fin 11) := ([0, 1, 2, 5, 4], [0, 1, 2, 3, 4, 5])
  #v[lane, lane, lane, lane, ([3, 0], [3, 0]), ([4], [4]), (idx 11, idx 11), ([9], [9]), ([5, 9], [5, 9]), ([5], [5]), ([0], [0]),
     ([0], [0, 3]), ([8], [8]), ([6], [6])]

/-- The request lies within its port's rights and its chamber's bounds (R16, R45). -/
def State.permits (s : State) (p : Fin 14) (r : PortReq) : Bool :=
  let rights := portRights.get p
  (if r.write.isSome then rights.1 else rights.2).contains r.chamber && r.off + 64 * r.lines ≤ s.quotaBytes r.chamber + r.off % 64

/-- A request outside: a memory fault of the lane's task, or the module fault of any other port (R45). -/
def State.outside (s : State) (p : Fin 14) (r : PortReq) : State :=
  if p.val < 4 then (match r.task with | some t => s.taskFault t true | none => s) else s.enterHalt (.portFault p) false

/-! ### Corrected errors (R38, R39) -/

/-- A WARNING or NOTICE record of the Grotto: its status word, with chamber and block in DETAIL. -/
def State.grottoEvent (s : State) (sev : Nat) (c : Fin 11) (block : Nat) : State :=
  s.event sev 0x0F81 0xFF 0 s.gro.statusWord (c.val + 256 * (32 * block))

/-- An occurrence of one of the conditions of R39. (log 61) -/
def State.degrade (s : State) (c : Fin 11) (block : Nat) : State := { s with gro.degraded := true }.grottoEvent 3 c block

/-- The hourly count of a chamber (R39): an occurrence as it first exceeds CE_LIMIT. (log 61) -/
def State.countHour (s : State) (c : Fin 11) : State :=
  let old := (s.gro.ceHour.get c).filter fun t => s.now < t + sec 3600
  let lim := (s.gro.act.get c).CE_LIMIT.toNat
  let s := { s with gro.ceHour := put s.gro.ceHour c (old ++ [s.now]) }
  if old.length = lim then s.degrade c 0 else s

/-- The corrections of a block within 24 h (R39): an occurrence at the third, after which they count anew. (log 61) -/
def State.countBlock (s : State) (c : Fin 11) (b : Nat) : State :=
  let l := s.gro.ceBlocks.filter fun e => s.now < e.2.2 + sec 86400
  let mine (e : Fin 11 × Nat × Nat) : Bool := e.1 == c && e.2.1 == b
  if 2 ≤ (l.filter mine).length then { s with gro.ceBlocks := l.filter fun e => !mine e }.degrade c b
  else { s with gro.ceBlocks := l ++ [(c, b, s.now)] }

/-- The NOTICE record of a correction: the first of a block within 24 h, or every one with CE_RECORD (R38). -/
def State.noteCorrection (s : State) (c : Fin 11) (b : Nat) : State :=
  let l := s.gro.ceNoted.filter fun e => s.now < e.2.2 + sec 86400
  let known := l.any fun e => e.1 == c && e.2.1 == b
  let s := { s with gro.ceNoted := if known then l else l ++ [(c, b, s.now)] }
  if !known || (s.gro.act.get c).CE_RECORD == 1#1 then s.event 2 0x0F80 0xFF c.val (32 * b) else s

/-- A corrected error in a block of a chamber (R38, R39). -/
def State.corrected (s : State) (c : Fin 11) (b : Nat) : State :=
  (((s.chamberEvent c fun x => { x with CE_COUNT := sat x.CE_COUNT }).noteCorrection c b).countHour c).countBlock c b

/-! ### Uncorrectable errors (R40) -/

/-- CLASS of a quality nibble made BAD. (log 59) -/
def classBad (q : BitVec 4) : BitVec 4 := q &&& 12#4 ||| qBad

/-- Offsets of the values of IMAGE that begin in a block: those written so far, and the channels of its group records.
(log 59) -/
def State.valuesIn (s : State) (b : Nat) : List Nat :=
  let known := (s.gro.imgMeta.map fun e => e.1).filter fun a => a / 32 == b && !inGroupRecord a
  known ++ (((List.range 32).map fun k => 32 * b + k).filter fun a => isDioByte a || isAioValue a)

/-- The task that owns a block of TASK (log 51). -/
def State.taskOf (s : State) (b : Nat) (req : Option (Fin 128)) : Option (Fin 128) :=
  match s.tk.prog.vars.find? fun v => v.chamber == 1 && meets v.off v.size.toNat (32 * b) 32 with
  | some v => v.owner
  | none => req.or (Config.taskOfBlock b)

/-- The task of a poisoned block stops, and failover is requested whatever its descriptor says (R40, R92). -/
def State.taskUe (s : State) (b : Nat) (req : Option (Fin 128)) : State :=
  match s.taskOf b req with
  | some t =>
    let s := s.taskFault t true (failover := false)
    if s.paired && s.pr.role == .active then s.requestFailover else s
  | none => s

/-- RETAIN is re-read from the persistent copy, with buffered writes merged; where that is bad too, a warm restart is
refused (R34, R40). -/
def State.retainUe (s : State) (b : Nat) : State :=
  if s.gro.retainMramBad.contains b then { s with gro.retainBad := true, gro.poison := s.gro.poison.insert (2, b) }
  else
    let m := s.gro.drainAll.retainMram
    { s.setMem 2 ((s.gro.mem.get 2).write (32 * b) (m.read (32 * b) 32)) with gro.poison := s.gro.poison.filter fun e => e != (2, b) }

/-- The object or ring record that lies in a block of MSG, by its offset: discarded, with LOST set (R40). -/
def State.msgUe (s : State) (b : Nat) : State :=
  let a := 32 * b
  let off : Option Nat :=
    if 0x48000 ≤ a then
      if s.can.objects.any fun o => o.OBJ_NO.toNat == (a - 0x48000) / 0x80 then some (0x48000 + (a - 0x48000) / 0x80 * 0x80) else none
    else if 0x80 ≤ a % 0x480 then some (a / 0x480 * 0x480 + a % 0x480 / 0x80 * 0x80) else none
  match off with
  | some o =>
    let m := s.gro.mem.get 5
    let r := FrameRec.ofBytes (m.read o 128)
    s.setMem 5 (m.write o { FrameRec.dflt with SEQ := r.SEQ, RS_SEQ := r.RS_SEQ, LOST := 1#1 }.toBytes)
  | none => s

/-- The records of a block of staging are lost and counted; record SEQ stands in slot SEQ modulo their number (R40, log 51). -/
def State.stagingUe (s : State) (b : Nat) : State :=
  let gone (r : FlowRec) : Bool := r.SEQ.toNat % stagingFull == b / 2
  let n := (s.flow.staging.filter gone).length
  if n = 0 then s
  else
    { s with
      flow.staging := s.flow.staging.filter fun r => !gone r, flow.flushing := s.flow.flushing.filter fun r => !gone r,
      flow.stat := { s.flow.stat with STAGE_DROP := satAdd s.flow.stat.STAGE_DROP n, DROP_SEEN := 1#1 } }

/-- The message of a block of MBX is discarded, and its session receives an error reply, whose code the spec leaves open
(R40, log 51). -/
def State.mbxUe (s : State) (b : Nat) : State :=
  match (Config.messageOfBlock b).bind fun n => s.host.waiting[n]? with
  | some w =>
    let (v, s) := s.draw
    { s with host.waiting := s.host.waiting.erase w }.reply { Cmd.sysStop with code := w.code.toNat } w.rq (v.toNat % 65535 + 1) []
  | none => s

/-- Severity of the record of an uncorrectable block (R40). -/
def State.ueSeverity (s : State) (c : Fin 11) (b : Nat) : Nat :=
  match Chamber.ofId c with
  | .task | .loop => 5
  | .retain => if s.gro.retainMramBad.contains b then 5 else 4
  | .image | .cruc | .fw => 4
  | .msg | .mirror | .flow | .mbx => 3
  | .panel => 2

/-- The action on an uncorrectable block of a chamber (R40). (log 59) -/
def State.ueAction (s : State) (c : Fin 11) (b : Nat) (req : Option (Fin 128)) : State :=
  match Chamber.ofId c with
  | .image => (s.valuesIn b).foldl (fun s a => s.setQuality a (classBad (s.qualityAt a))) s
  | .task => s.taskUe b req
  | .retain => s.retainUe b
  | .loop => (Config.loopsOfBlock b).foldl (fun s n => if (s.loop n).desc.LAW == 0#8 then s else s.tripLoop n 4) s
  | .cruc => match s.cru.running with
    | some n => s.faultJob n
    | none => s
  | .msg => s.msgUe b
  | .mirror => ({ s with gro.dirty := s.gro.dirty.insert (6, b) }).mirror (.bulk 6 (32 * b) ((s.gro.mem.get 6).read (32 * b) 32))
  | .flow => s.stagingUe b
  | .panel => s
  | .mbx => s.mbxUe b
  | .fw => { s with gro.imageInvalid := if h : b / 524288 < 2 then s.gro.imageInvalid.set (b / 524288) true h else s.gro.imageInvalid }

/-- An uncorrectable block: poisoned, counted and recorded, and its chamber's action at once (R40, R52). (log 58) -/
def State.uncorrectable (s : State) (c : Fin 11) (b : Nat) (req : Option (Fin 128)) : State :=
  let s := s.chamberEvent c fun x => { x with UE_COUNT := sat x.UE_COUNT }
  let s := if c = 10 then { s with gro.mramUe := true } else { s with gro.ueSeen := true }
  let s := { s with gro.poison := s.gro.poison.insert (c, b) }
  (s.event (s.ueSeverity c b) 0x0F80 0xFF c.val (32 * b)).ueAction c b req

/-! ### A granted request (R31, R34, R36, R142) -/

/-- A request writes through to MRAM: RETAIN, FW, and what the panel driver writes, the journal (R16, R34). -/
def writesThrough (p : Fin 14) (r : PortReq) : Bool := r.write.isSome && (r.chamber == 2 || r.chamber == 10 || (r.chamber == 8 && p == 12))

/-- Blocks that a write covers whole. (log 58) -/
def wholeBlock (off len b : Nat) : Bool := off ≤ 32 * b && 32 * b + 32 ≤ off + len

/-- The undo log of a safety-class cycle takes the previous content of the lines that a store is about to change: the first
store to a line of task data, and every RETAIN store; a log that would take a 2049th line overflows (R116, R117). (log 79) -/
def State.logUndo (s : State) (r : PortReq) (d : List Byte) : State :=
  match r.task with
  | none => s
  | some t =>
    let k := s.task t
    if k.desc.SAFETY == 1#1 && k.begun && (r.chamber == 1 || r.chamber == 2) then
      let a := r.off / 64
      let lines := (List.range ((r.off + d.length + 63) / 64 - a)).map fun i => 64 * (a + i)
      let fresh := (lines.filter fun x => r.chamber == 2 || !k.data0.any fun e => e.1 == x).map fun x =>
        (x, (s.gro.mem.get r.chamber).read x 64)
      let fill := k.data0.length + k.undoRetain.length + fresh.length
      if 2048 < fill then
        (s.setTask t fun k => { k with undoOverflow := true }).setTemper t fun x => { x with UNDO_OVERFLOW := 1#1, UNDO_LINES_MAX := 2048#16 }
      else
        (s.setTask t fun k =>
          if r.chamber == 1 then { k with data0 := k.data0 ++ fresh } else { k with undoRetain := fresh.reverse ++ k.undoRetain }).setTemper t
          fun x => { x with UNDO_LINES_MAX := maxBv x.UNDO_LINES_MAX fill }
    else s

/-- The write of a granted request reaches its chamber (R34, R36, R142). (log 58) -/
def State.grantWrite (s : State) (p : Fin 14) (r : PortReq) (d : List Byte) : State :=
  let s := s.logUndo r d
  let s := { s with gro.poison := s.gro.poison.filter fun e => e.1 != r.chamber || !wholeBlock r.off d.length e.2 }
  if r.chamber = 10 then
    if s.gro.gateClosed then s.chamberEvent 10 fun x => { x with GATE_DISCARD := sat x.GATE_DISCARD }
    else { s with gro := s.gro.buffer ⟨.fw, r.off, d⟩ }.setMem 10 ((s.gro.mem.get 10).write r.off d)
  else if r.chamber = 8 && p = 12 then
    let s := { s with gro := s.gro.buffer ⟨.journal, r.off, d⟩ }
    s.setMem 8 ((s.gro.mem.get 8).write r.off d)
  else s.writeChamber r.chamber r.off d

/-- The block in which the decoder's finding lies: a poisoned one of the request's range, else its first. -/
def State.foundBlock (s : State) (r : PortReq) : Option Nat :=
  (s.gro.poison.find? fun e => e.1 == r.chamber && r.off / 32 ≤ e.2 && e.2 < r.off / 32 + 2 * r.lines).map fun e => e.2

/-- A granted request: what the decoder finds where a block is read, and the write. A partial write of an uncorrectable block is
not made (R31, R38, R40). (log 58) -/
def State.grant (s : State) (p : Fin 14) (r : PortReq) : State :=
  let bad := s.foundBlock r
  let b := bad.getD (r.off / 32)
  let found := if bad.isSome then Ecc.uncorrectable else r.ecc
  match r.write with
  | none =>
    match found with
    | .clean => s
    | .corrected => s.corrected r.chamber b
    | .uncorrectable => s.uncorrectable r.chamber b r.task
  | some d =>
    if wholeBlock r.off d.length b then s.grantWrite p r d
    else match found with
      | .clean => s.grantWrite p r d
      | .corrected => (s.corrected r.chamber b).grantWrite p r d
      | .uncorrectable => s.uncorrectable r.chamber b r.task

/-! ### Arbitration (R46 to R48, R50) -/

/-- The lines of each floor per window, classes 0 to 3 (R46). -/
def floors : Vector Nat 4 := #v[0, 96, 48, 8]

/-- The request that a port offers: its oldest that backpressure does not hold (R35). -/
def State.offered (s : State) (p : Fin 14) : Option PortReq :=
  (s.gro.waiting.get p).find? fun r => !(s.gro.backpressure && writesThrough p r)

/-- A class has a pending request. -/
def State.classPending (s : State) (k : Fin 4) : Bool := (classPorts.get k).any fun p => (s.offered p).isSome

/-- The class that is granted, and whether a floor raised it (R47). (log 57) -/
def State.chooseClass (s : State) : Option (Fin 4 × Bool) :=
  if s.classPending 0 then some (0, false)
  else
    let lowest := ([1, 2, 3] : List (Fin 4)).find? s.classPending
    match ([1, 2, 3] : List (Fin 4)).find? fun k => s.gro.winCount.get k < floors.get k && s.classPending k with
    | some k => some (k, lowest != some k)
    | none => lowest.map fun k => (k, false)

/-- The port of a class that is granted: the first at or after the token (R47). (log 57) -/
def State.choosePort (s : State) (k : Fin 4) : Option (Fin 14) :=
  let ps := classPorts.get k
  let t := s.gro.token.get k
  (ps.drop t ++ ps.take t).find? fun p => (s.offered p).isSome

/-- The two requests write a line in common. -/
def collide (r q : PortReq) : Bool :=
  r.chamber == q.chamber && r.write.isSome && q.write.isSome && r.off / 64 < q.off / 64 + q.lines && q.off / 64 < r.off / 64 + r.lines

/-- A write-write collision is counted, and recorded at most once per chamber and second (R50). -/
def State.collision (s : State) (c : Fin 11) (earlier later : Fin 14) : State :=
  let s := s.chamberEvent c fun x =>
    { x with WW_COUNT := sat x.WW_COUNT, WW_EARLIER := BitVec.ofNat 8 earlier.val, WW_LATER := BitVec.ofNat 8 later.val }
  let s := { s with gro.wwSeen := true }
  if match s.gro.wwNoted.get c with | some t => decide (s.now < t + sec 1) | none => false then s
  else { s with gro.wwNoted := put s.gro.wwNoted c (some s.now) }.grottoEvent 2 c 0

/-- One grant: the request leaves its port, its lines are counted and its tokens turned, and it takes effect; among requests
of one fabric cycle a later write of a line meets the earlier (R47, R48, R50). (log 57) -/
def State.grantOne (s : State) (fresh done : List (Fin 14 × PortReq)) (k : Fin 4) (floor : Bool) (p : Fin 14) (r : PortReq) : State :=
  let s := { s with
    gro.waiting := upd s.gro.waiting p fun l => l.erase r, gro.floorHit := s.gro.floorHit || floor,
    gro.winCount := upd s.gro.winCount k fun n => n + r.lines, gro.linesClass := upd s.gro.linesClass k fun n => satAdd n r.lines }
  let s := { s with gro := s.gro.spin r.lines }
  let s := if fresh.contains (p, r) then
      match done.find? fun e => collide e.2 r with
      | some e => s.collision r.chamber e.1 p
      | none => s
    else s
  s.grant p r

/-- Grants go on until no request can be granted: at most `n` of them. (log 57) -/
def State.grantAll (fresh : List (Fin 14 × PortReq)) : Nat → List (Fin 14 × PortReq) → State → State
  | 0, _, s => s
  | n + 1, done, s =>
    match s.chooseClass with
    | none => s
    | some (k, floor) =>
      match s.choosePort k with
      | none => s
      | some p =>
        match s.offered p with
        | none => s
        | some r =>
          let d := if fresh.contains (p, r) then (p, r) :: done else done
          State.grantAll fresh n d (s.grantOne fresh done k floor p r)

/-- Requests that wait at all ports. -/
def State.waitingCount (s : State) : Nat := (s.gro.waiting.toList.map List.length).sum

/-- The requests of one fabric cycle are presented: those outside rights or bounds fault, the others wait (R45, R48).
(log 57) -/
def State.present (s : State) (reqs : List (Fin 14 × PortReq)) : State :=
  reqs.foldl (fun s e =>
    if s.permits e.1 e.2 then { s with gro.waiting := upd s.gro.waiting e.1 fun l => l ++ [e.2] } else s.outside e.1 e.2) s

/-- The fabric runs: the module is out of reset and powered (R18, R437). -/
def State.fabricUp (s : State) : Bool := s.sys.phase != .off && s.sys.phase != .held

/-- GROTTO_REQUEST (R45 to R50): the requests presented in one fabric cycle are arbitrated and granted. -/
def execGrottoRequest (reqs : List (Fin 14 × PortReq)) (s : State) : Host.Outcome State Fault Refusal :=
  .next <|
    if s.fabricUp then
      let s := s.present reqs
      (State.grantAll reqs s.waitingCount [] s).dispatch
    else s

/-! ### The write buffer (R34, R35) -/

/-- One block of the oldest write reaches MRAM (R34, R36). -/
def Grotto.drainBlock (g : Grotto) : Grotto :=
  match g.wbuf with
  | [] => g
  | e :: r =>
    let n := 32 - e.off % 32
    let rest := e.data.drop n
    { g with
      wbuf := if rest.isEmpty then r else { e with off := e.off + n, data := rest } :: r,
      retainMram := if e.region = .retain then g.retainMram.write e.off (e.data.take n) else g.retainMram }

/-- MRAM_BUFFER_DRAIN (R34, R35): below 32 KiB of fill held requests proceed. -/
def execMramBufferDrain (s : State) : Host.Outcome State Fault Refusal :=
  .next <|
    if s.sys.phase = .off then s
    else
      let s := { s with gro := s.gro.drainBlock }
      if s.gro.backpressure && s.gro.wbFill < 32 * 1024 then
        let s := { s with gro.backpressure := false }
        (State.grantAll [] s.waitingCount [] s).dispatch
      else s

/-! ### The scrubber (R41) -/

/-- The parts of a tier that a pass reads, SCRUB_FIRST ones first: in DRAM the chambers and the supervisor reserve, which the list
calls 10; in MRAM firmware, log body, RETAIN, journal and the system records, which it calls 0. (log 60) -/
def State.passOrder (s : State) (mram : Bool) : List (Fin 11) :=
  let l : List (Fin 11) := if mram then [2, 7, 8, 10, 0] else idx 11
  let own (c : Fin 11) : Bool := (if mram then c != 0 else c != 10) && (s.gro.act.get c).SCRUB_FIRST == 1#1
  l.filter own ++ l.filter fun c => !own c

/-- Blocks of one part of a pass (R30, R33, R42). (log 60) -/
def State.passBlocks (s : State) (mram : Bool) (c : Fin 11) : Nat :=
  if mram then
    match Chamber.ofId c with
    | .fw | .task | .loop | .cruc | .msg | .mirror | .mbx => 1048576
    | .flow => 8388608
    | .retain => s.quotaBytes 2 / 32
    | .panel => 16384
    | .image => 32768
  else if c = 10 then 16777216 else s.quotaBytes c / 32

/-- Seconds of a pass: 4 h in DRAM, 24 h in MRAM. -/
def passSeconds (mram : Bool) : Nat := if mram then 86400 else 14400

/-- Index of a tier's pass. -/
def tier (mram : Bool) : Fin 2 := if mram then 1 else 0

/-- Blocks of a pass in all, and those read so far. (log 60) -/
def State.passProgress (s : State) (mram : Bool) : Nat × Nat :=
  let sum (l : List (Fin 11)) : Nat := (l.map (s.passBlocks mram)).sum
  let all := sum (s.passOrder mram)
  (all, all - sum (s.gro.scrubPass.get (tier mram)) + s.gro.scrubPos.get (tier mram))

/-- The pass stands behind a share, in tenths, of what its time asks for. (log 60) -/
def State.passBehind (s : State) (mram : Bool) (tenths : Nat) : Bool :=
  match s.gro.scrubAt.get (tier mram), s.gro.scrubPass.get (tier mram) with
  | some t, _ :: _ =>
    let (all, done) := s.passProgress mram
    10 * done * sec (passSeconds mram) < tenths * (s.now - t) * all
  | _, _ => false

/-- An uncorrectable block of MRAM (R40, R415). (log 58) -/
def State.mramUncorrectable (s : State) (c : Fin 11) (b : Nat) : State :=
  if c = 10 then s.uncorrectable 10 b none
  else
    let s := { s with gro.mramUe := true }
    if c = 2 then { s with gro.retainMramBad := s.gro.retainMramBad.insert b }.event 4 0x0F80 0xFF 2 (32 * b)
    else if c = 7 then { s with flow.logBad := s.flow.logBad.insert (b / 2) }.event 3 0x0F80 0xFF 7 (32 * b)
    else s.event 3 0x0F80 0xFF c.val (32 * b)

/-- What the scrubber finds in a block (R38, R40, R41): in the reserve an uncorrectable block is the supervisor's end. -/
def State.scrubbed (s : State) (mram : Bool) (c : Fin 11) (b : Nat) (e : Ecc) : State :=
  match e with
  | .clean => s
  | .corrected => if !mram && c = 10 then s else s.corrected c b
  | .uncorrectable =>
    if mram then s.mramUncorrectable c b
    else if c = 10 then s.enterHalt (.uncorrectable 10) true
    else s.uncorrectable c b none

/-- A pass begins where its time has come (R41). -/
def State.beginPass (s : State) (mram : Bool) : State :=
  let i := tier mram
  let due := match s.gro.scrubAt.get i with
    | some t => s.since t (sec (passSeconds mram))
    | none => true
  if (s.gro.scrubPass.get i).isEmpty && due then
    { s with gro.scrubPass := put s.gro.scrubPass i (s.passOrder mram), gro.scrubPos := put s.gro.scrubPos i 0,
             gro.scrubAt := put s.gro.scrubAt i (some s.now) }
  else s

/-- The pass goes one block on. (log 60) -/
def State.advancePass (s : State) (mram : Bool) (c : Fin 11) (rest : List (Fin 11)) : State :=
  let i := tier mram
  let pos := s.gro.scrubPos.get i + 1
  let s := if pos < s.passBlocks mram c then { s with gro.scrubPos := put s.gro.scrubPos i pos }
    else { s with gro.scrubPos := put s.gro.scrubPos i 0, gro.scrubPass := put s.gro.scrubPass i rest }
  { s with gro.scrubActive := s.gro.scrubPass.toList.any fun l => !l.isEmpty,
           gro.scrubRaised := s.gro.scrubRaised && (s.passBehind false 10 || s.passBehind true 10) }

/-- SCRUB_READ (R41): a block is read in a fabric cycle with no request pending, or in class 3 when behind. -/
def execScrubRead (mram : Bool) (ecc : Ecc) (s : State) : Host.Outcome State Fault Refusal :=
  .next <|
    if s.sys.phase = .serving && (s.waitingCount = 0 || s.gro.scrubRaised) then
      let s := s.beginPass mram
      match s.gro.scrubPass.get (tier mram) with
      | c :: rest =>
        let b := s.gro.scrubPos.get (tier mram)
        (((s.advancePass mram c rest).scrubbed mram c b ecc)).dispatch
      | [] => s
    else s

/-- SCRUB_BEHIND (R41): more than 10 % behind its schedule. -/
def execScrubBehind (s : State) : Host.Outcome State Fault Refusal :=
  .next (if s.sys.phase = .serving && (s.passBehind false 9 || s.passBehind true 9) then { s with gro.scrubRaised := true } else s)

end Sys2Proof.Machine
end

