-- ==== Sys2Proof/Machine/HostSessions.lean ====
section
/-! DEFINITION. The host port, the mailboxes and the sessions (R459 to R480): writes into the window, the link,
handshakes, closing, and the session commands. -/

namespace Sys2Proof.Machine

/-! ### Sessions (R471 to R476) -/

/-- EVT_SESSION (R472, R521): opened or closed, with CERT_ID. -/
def State.noteSession (s : State) (k : Fin 17) (closed : Nat) (certId : BitVec 64) : State :=
  s.record { sev := 2, code := 0x0114, inst := k.val, session := k.val, payload := evData closed certId.toNat }

/-- A session opens with its role (R460, R472, R480). (log 163) -/
def State.openSession (s : State) (k : Fin 17) (role : Fin 4) (peer : BitVec 32) (certId : BitVec 64) : State :=
  let x : Session :=
    { open_ := true, role := role, outstanding := 0, lastAt := s.now,
      entry := { SessEntry.dflt with PEER_IPV4 := peer, OPEN_TS := s.ts, CERT_ID := certId } }
  ({ s with host.session := put s.host.session k x }).noteSession k 0 certId

/-- Requests of a network session that have been taken and not yet answered: an ENABLE whose check runs, analyses, and flushes
(R470). (log 163) -/
def State.inProgress (s : State) (k : Fin 17) : List Request :=
  let check := match s.sys.check with | some ⟨.command rq, _⟩ => [rq] | _ => []
  (check ++ s.cru.slot.toList.flatMap (·.analysing) ++ s.flow.flushRqs ++ s.flow.flushRqsNext).filter fun rq =>
    rq.session == k && rq.mailbox.isNone

/-- What a session leaves behind as it closes (R474): requests not yet taken are discarded, its forces pass to
owner 0xFF, its package has no holder, its export is released; the
replies to those taken are dropped. A mailbox whose request is discarded is EMPTY
again (log 25). (log 88, 149) -/
def State.dropSession (s : State) (k : Fin 17) : State :=
  { s with
    host.waiting := s.host.waiting.filter fun w => w.rq.session != k, host.orphans := s.host.orphans ++ s.inProgress k,
    host.mb := if k = 0 then s.host.mb.map fun m => if m.state = .posted then { m with state := .empty } else m else s.host.mb,
    olc.forces := s.olc.forces.map fun f => if f.OWNER.toNat = k.val then { f with OWNER := 0xFF#8 } else f,
    olc.stat := if s.olc.stat.SESSION.toNat = k.val then { s.olc.stat with SESSION := 0xFF#8 } else s.olc.stat,
    flow.exp := match s.flow.exp with
      | some e => if e.session = k then none else some e
      | none => none }

/-- A session closes, whatever the reason (R472, R474). -/
def State.closeSession (s : State) (k : Fin 17) : State :=
  let x := s.host.session.get k
  if x.open_ then ({ s.dropSession k with host.session := put s.host.session k Session.init }).noteSession k 1 x.entry.CERT_ID else s

/-- SESSION_CLOSE (R474). -/
def execSessionClose (session : Fin 17) (s : State) : Host.Outcome State Fault Refusal := .next (s.closeSession session)

/-- SESSION_IDLE_TIMEOUT (R473): a network session without traffic for IDLE_S; 0 never. -/
def execSessionIdleTimeout (session : Fin 17) (s : State) : Host.Outcome State Fault Refusal :=
  .next <|
    let n := s.host.sessAct.IDLE_S.toNat
    if session ≠ 0 && n ≠ 0 && s.since (s.host.session.get session).lastAt (sec n) then s.closeSession session else s

/-- The lowest network session that is closed. -/
def HostPort.freeSession (h : HostPort) : Option (Fin 17) := ((idx 17).drop 1).find? fun k => !(h.session.get k).open_

/-- Network sessions open now. -/
def HostPort.openCount (h : HostPort) : Nat := (((idx 17).drop 1).filter fun k => (h.session.get k).open_).length

/-- UTC seconds of the local clock (R8). -/
def State.utcSecs (s : State) : Int := (s.ts.toNat : Int) / 1000000000 - s.tm.utcOffset

/-- The certificate's dates hold, or are not checked while TIME_VALID is clear (R472). -/
def State.datesOk (s : State) (c : ClientCert) : Bool :=
  !s.tm.timeValid || ((c.notBefore.toNat : Int) ≤ s.utcSecs && s.utcSecs ≤ (c.notAfter.toNat : Int))

/-- A failed handshake is counted; five from one address within 60 s bar it, with a WARNING (R472). (log 163) -/
def State.handshakeFails (s : State) (addr : BitVec 32) : State :=
  let fails := (s.host.handshakeFails.filter fun f => s.now < f.2 + sec 60) ++ [(addr, s.now)]
  let n := (fails.filter fun f => f.1 == addr).length
  let s := { s with host.handshakeFails := fails }
  if 5 ≤ n then
    ({ s with host.barred := (addr, s.now) :: s.host.barred }).record
      { sev := 3, code := 0x0115, payload := evData 0 addr.toNat n }
  else s

/-- SESSION_HANDSHAKE (R471 to R473): a barred address and a connection beyond MAX_SESSIONS are turned away; a
certificate that chains to an anchor opens the lowest free session with its role, with a WARNING while the
dates cannot be checked. (log 163) -/
def execSessionHandshake (cert : ClientCert) (s : State) : Host.Outcome State Fault Refusal :=
  .next <|
    if s.sys.phase ≠ .serving || s.sys.supervisorDead || s.host.barred.any (fun b => b.1 == cert.peer) then s
    else if !cert.chainOk || s.host.anchors.isEmpty || !s.datesOk cert then s.handshakeFails cert.peer
    else if s.host.sessAct.MAX_SESSIONS.toNat ≤ s.host.openCount then s
    else
      match s.host.freeSession with
      | none => s
      | some k =>
        let s := s.openSession k cert.role cert.peer cert.certId
        if s.tm.timeValid then s
        else s.record { sev := 3, code := 0x0114, inst := k.val, session := k.val, payload := evData 0 cert.certId.toNat }

/-- ADDRESS_BAR_EXPIRE (R472): the 60 s bar on an address ends. -/
def execAddressBarExpire (addr : BitVec 32) (s : State) : Host.Outcome State Fault Refusal :=
  .next { s with host.barred := s.host.barred.filter fun b => b.1 != addr || s.now < b.2 + sec 60 }

/-! ### The host link (R460) -/

/-- HP_PERST (R460): the link and its configuration space are reset, HPW_IRQ_MASK is cleared and session 0 closes;
nothing else is reset. -/
def execHpPerst (s : State) : Host.Outcome State Fault Refusal :=
  .next (({ s with host := ({ s.host with perst := true, inL0 := false, outOfL0 := none, irqMask := 0#32 }).rewake }).closeSession 0)

/-- HOST_LINK_UP (R460, R476): the link reaches L0, HP_WAKE is released and session 0 opens with HOST_ROLE, unless it
is open still. -/
def execHostLinkUp (s : State) : Host.Outcome State Fault Refusal :=
  .next <|
    let s := { s with host := ({ s.host with perst := false, inL0 := true, outOfL0 := none }).rewake }
    if (s.host.session.get 0).open_ then s
    else s.openSession 0 ⟨s.host.sessAct.HOST_ROLE.toNat % 4, by omega⟩ 0 0

/-- HOST_LINK_LEAVES_L0 (R460): the 1 s timer of session 0 starts, and HP_WAKE may be driven. -/
def execHostLinkLeavesL0 (s : State) : Host.Outcome State Fault Refusal :=
  .next (if s.host.inL0 then { s with host := ({ s.host with inL0 := false, outOfL0 := some s.now }).rewake } else s)

/-- HOST_LINK_LOST_TIMEOUT (R460): out of L0 for 1 s closes session 0. -/
def execHostLinkLostTimeout (s : State) : Host.Outcome State Fault Refusal :=
  .next (if s.ran s.host.outOfL0 (sec 1) then s.closeSession 0 else s)

/-! ### The window (R461, R464) -/

/-- The host port answers: the module is powered and out of reset (R439). (log 152) -/
def State.hostPortUp (s : State) : Bool := s.sys.phase != .off && s.sys.phase != .held

/-- MAILBOX_WRITE (R461): stored while EMPTY or DONE; otherwise discarded and counted in WR_DISCARD. -/
def execMailboxWrite (mb : Fin 8) (off : Nat) (data : List Byte) (s : State) : Host.Outcome State Fault Refusal :=
  .next <|
    if !s.hostPortUp then s else
    match (s.host.mb.get mb).state with
    | .empty | .done => { s with host.mb := upd s.host.mb mb fun m => { m with data := m.data.write off (data.take (4096 - off)) } }
    | .posted | .busy =>
      { s with host.session := upd s.host.session 0 fun x => { x with entry := { x.entry with WR_DISCARD := sat x.entry.WR_DISCARD } } }

/-- IRQ_STATUS_CLEAR (R464): bits written 1 are cleared; an MSI goes out if the masked result stays non-zero. -/
def execIrqStatusClear (bits : BitVec 32) (s : State) : Host.Outcome State Fault Refusal :=
  .next <|
    if !s.hostPortUp then s else
    let h := { s.host with irqStatus := s.host.irqStatus &&& ~~~bits }
    { s with host := ({ h with msiSent := if h.irqPending then h.msiSent + 1 else h.msiSent }).rewake }

/-- IRQ_MASK_WRITE (R464): the mask is set; an MSI goes out if the masked result is non-zero. -/
def execIrqMaskWrite (mask : BitVec 32) (s : State) : Host.Outcome State Fault Refusal :=
  .next <|
    if !s.hostPortUp then s else
    let h := { s.host with irqMask := mask }
    { s with host := ({ h with msiSent := if h.irqPending then h.msiSent + 1 else h.msiSent }).rewake }

/-- REGISTER_WRITE_OTHER (R461): a write to a read-only, reserved or wrongly sized location is ignored. -/
def execRegisterWriteOther (_off : Nat) (_data : List Byte) (s : State) : Host.Outcome State Fault Refusal := .next s

/-- ALIVE_TICK (R462): the supervisor increments ALIVE; it wraps, and stands still after a supervisor fatal. -/
def execAliveTick (s : State) : Host.Outcome State Fault Refusal :=
  .next <|
    match s.sys.phase with
    | .firmware | .serving => if s.sys.supervisorDead then s else { s with host.alive := s.host.alive + 1 }
    | _ => s

/-! ### Application mailboxes (R468) -/

/-- MBn is served by the application: bit n of MB_APP. -/
def HostPort.isApp (h : HostPort) (n : Fin 8) : Bool := h.sessAct.MB_APP.getLsbD n.val

/-- APP_REPLY_COPY (R468): the committed reply is copied back with REPLY set, and the mailbox is DONE. -/
def execAppReplyCopy (mb : Fin 8) (s : State) : Host.Outcome State Fault Refusal :=
  .next <|
    match s.host.appReply.get mb with
    | none => s
    | some bytes =>
      let s := { s with host.appReply := put s.host.appReply mb none }
      if (s.host.mb.get mb).state = .busy && s.host.isApp mb && !s.sys.supervisorDead then
        let m := (s.host.mb.get mb).data.write 0 (bytes.take 4096)
        ({ s with
            host.mb := upd s.host.mb mb fun x => { x with data := m.set 7 (m.get 7 ||| 1#8), state := .done, appAt := none },
            host.session := upd s.host.session 0 fun x => x.answered 0 }).raise (irqMbDone mb)
      else s

/-- APP_TIMEOUT (R468): no reply was committed within APP_TIMEOUT_MS; the supervisor replies with
SYS_APP_TIMEOUT. -/
def execAppTimeout (mb : Fin 8) (s : State) : Host.Outcome State Fault Refusal :=
  .next <|
    let m := s.host.mb.get mb
    if m.state = .busy && !s.sys.supervisorDead && s.ran m.appAt (ms s.host.sessAct.APP_TIMEOUT_MS.toNat) then
      let bytes := replyBytes (m.data.num 0 2) (m.data.num 2 2) 0 m.rxTs (replyPayload 0x010B [])
      ({ s with
          host.mb := upd s.host.mb mb fun x => x.answer bytes,
          host.session := upd s.host.session 0 fun x => x.answered 0x010B }).raise (irqMbDone mb)
    else s

/-! ### Session commands -/

/-- One session entry of the session list (R480). -/
def HostPort.entryBytes (h : HostPort) (k : Fin 17) : List Byte :=
  let x := h.session.get k
  x.entry.toBytes (SESSION := k.val) (STATE := bit x.open_) (ROLE := x.role.val) (OUTSTANDING := x.outstanding)

/-- SYS_SESSION_LIST reads the 17 session entries (R480). -/
def cmdSysSessionList (rq : Request) (s : State) : State :=
  serve Cmd.sysSessionList rq s fun s => .done s ((idx 17).flatMap s.host.entryBytes)

/-- SYS_SESSION_CLOSE closes another session; it takes a role at least equal to that session's (R474). -/
def cmdSysSessionClose (rq : Request) (s : State) : State :=
  serve Cmd.sysSessionClose rq s fun s =>
    match asFin 17 (rq.u8 0) with
    | none => .refuse 0x010A (rq.u8 0) 0
    | some k =>
      refuseIf (!(s.host.session.get k).open_) 0x010A (rq.u8 0) <|
      refuseIf ((s.host.session.get rq.session).role < (s.host.session.get k).role) 0x0108 (rq.u8 0) <|
        .done (s.closeSession k) []

/-- Certificates of SYS_TRUST_SET, each preceded by its length; none where the payload does not divide so
(R519). -/
def certificates : Nat → List Byte → Option (List (List Byte))
  | _, [] => some []
  | 0, _ => none
  | fuel + 1, bs =>
    let n := u16 bs 0
    if bs.length < 2 || bs.length < 2 + n then none
    else (certificates fuel (bs.drop (2 + n))).map fun r => (bs.drop 2).take n :: r

/-- SYS_TRUST_SET installs up to four trust anchors, on the host port alone (R472, R476, R519). -/
def cmdSysTrustSet (rq : Request) (s : State) : State :=
  serve Cmd.sysTrustSet rq s fun s =>
    refuseIf (rq.session != 0) 0x0109 0xFFFF <|
      match certificates 5 rq.payload with
      | none => .refuse 0x010D 0xFFFF 0
      | some cs =>
        refuseIf (4 < cs.length || cs.any (fun c => !Config.anchorForm c)) 0x010D 0xFFFF (.done { s with host.anchors := cs } [])

/-- SYS_TRUST_GET reads the digests of the four anchors; a place without one reads 0 (R472). -/
def cmdSysTrustGet (rq : Request) (s : State) : State :=
  serve Cmd.sysTrustGet rq s fun s =>
    .done s ((s.host.anchors.flatMap fun c => leBytes 32 (Config.sha256 c).toNat) ++ List.replicate (32 * (4 - s.host.anchors.length)) 0#8)

/-- The session descriptor's fields lie in their ranges (R479). -/
def SessDesc.inRange (d : SessDesc) : Bool :=
  8 ≤ d.PREFIX.toNat && d.PREFIX.toNat ≤ 21 && d.HOST_ROLE.toNat ≤ 3 && 1024 ≤ d.TCP_PORT.toNat
    && (d.IDLE_S == 0#16 || 30 ≤ d.IDLE_S.toNat) && 1 ≤ d.MAX_SESSIONS.toNat && d.MAX_SESSIONS.toNat ≤ 16
    && 1 ≤ d.APP_TIMEOUT_MS.toNat && d.APP_TIMEOUT_MS.toNat ≤ 10000

/-- SYS_SESS_SET writes the session descriptor, for the next boot; HOST_ROLE 3 takes a session that holds SAFETY
(R476, R479, log 26). -/
def cmdSysSessSet (rq : Request) (s : State) : State :=
  serve Cmd.sysSessSet rq s fun s =>
    let d := SessDesc.ofBytes rq.payload
    refuseIf (!d.inRange) 0x010C 0xFFFF <|
    refuseIf (d.HOST_ROLE == 3#8 && (s.host.session.get rq.session).role != 3) 0x0108 0xFFFF <|
      .done { s with host.sessDesc := d } []

/-- SYS_SESS_GET reads the session descriptor (R479). -/
def cmdSysSessGet (rq : Request) (s : State) : State := serve Cmd.sysSessGet rq s fun s => .done s s.host.sessDesc.toBytes

/-- SYS_SESSION_LIST (R480). -/
def execSysSessionList (rq : Request) (s : State) : Host.Outcome State Fault Refusal := .next (s.command rq cmdSysSessionList)
/-- SYS_SESSION_CLOSE (R474). -/
def execSysSessionClose (rq : Request) (s : State) : Host.Outcome State Fault Refusal := .next (s.command rq cmdSysSessionClose)
/-- SYS_TRUST_SET (R472). -/
def execSysTrustSet (rq : Request) (s : State) : Host.Outcome State Fault Refusal := .next (s.command rq cmdSysTrustSet)
/-- SYS_TRUST_GET (R472). -/
def execSysTrustGet (rq : Request) (s : State) : Host.Outcome State Fault Refusal := .next (s.command rq cmdSysTrustGet)
/-- SYS_SESS_SET (R479). -/
def execSysSessSet (rq : Request) (s : State) : Host.Outcome State Fault Refusal := .next (s.command rq cmdSysSessSet)
/-- SYS_SESS_GET (R479). -/
def execSysSessGet (rq : Request) (s : State) : Host.Outcome State Fault Refusal := .next (s.command rq cmdSysSessGet)

end Sys2Proof.Machine
end

