-- ==== Sys2Proof/Machine/TimeSync.lean ====
section
/-! DEFINITION. Precision time (R348 to R358): the PTP descriptor, the servo and the clock states, steps, holdover, and the time
record. -/

namespace Sys2Proof.Machine

/-! ### The time record (R358) -/

/-- Supervision frames of another node have arrived on a port within 3·LIFE_CHECK_MS (R346). -/
def State.lanOk (s : State) (p : Fin 2) : Bool :=
  match (s.tm.ports.get p).lanOkAt with
  | some a => decide (s.now < a + ms (3 * s.tm.netAct.LIFE_CHECK_MS.toNat))
  | none => false

/-- The module's own supervision frames return on both ports of its ring (R346). -/
def State.ringOk (s : State) : Bool :=
  s.tm.netAct.NET_MODE == 1#8 && (idx 2).all fun p =>
    match (s.tm.ports.get p).ownSeen with
    | some a => decide (s.now < a + ms (3 * s.tm.netAct.LIFE_CHECK_MS.toNat))
    | none => false

/-- HOLDOVER_S: whole seconds in the present HOLDOVER (R354, R358). (log 138) -/
def State.holdoverS (s : State) : Nat := if s.tm.clk == .holdover then (s.now - s.tm.holdAt) / sec 1 else 0

/-- A signed value in 32 bits, saturating. -/
def sat32 (x : Int) : BitVec 32 := BitVec.ofInt 32 (max (-2147483648) (min 2147483647 x))

/-- The time record as it would be written now (R358). -/
def State.timeRecord (s : State) : TimeRec :=
  let t := s.tm
  { CLK_STATE := BitVec.ofNat 2 t.clk.num, TIME_VALID := BitVec.ofNat 1 (bit t.timeValid), IS_MASTER := BitVec.ofNat 1 (bit t.isMaster),
    UTC_VALID := BitVec.ofNat 1 (bit t.utcValid), LEAP61 := BitVec.ofNat 1 (bit t.leap61), LEAP59 := BitVec.ofNat 1 (bit t.leap59),
    PORT_SEL := BitVec.ofNat 1 t.portSel.val, RTC_OSF := BitVec.ofNat 1 (bit t.rtc.osf), ALARM_FLAG := BitVec.ofNat 1 (bit t.rtc.alarmFlag),
    WAKE_FLAG := BitVec.ofNat 1 (bit t.rtc.wakeFlag), LAN_OK_A := BitVec.ofNat 1 (bit (s.lanOk 0)), LAN_OK_B := BitVec.ofNat 1 (bit (s.lanOk 1)),
    RING_OK := BitVec.ofNat 1 (bit s.ringOk), UTC_OFFSET := BitVec.ofInt 16 t.utcOffset, STEP_SEQ := t.stepSeq, OFFSET_NS := sat32 t.offsetNs,
    RATE_PPB := sat32 (roundDiv (t.rateQ48 * 1000000000) (2 ^ 48)), MEAN_PATH_NS := t.meanPath, HOLDOVER_S := BitVec.ofNat 32 s.holdoverS,
    GM_ID := t.gmId, BASE_TS := t.baseTs, BASE_CNT := BitVec.ofNat 64 t.baseCnt, RATE_Q48 := BitVec.ofInt 64 t.rateQ48, WRITE_TS := s.ts }

/-- The supervisor writes the time record as one line of IMAGE (R358). -/
def execTimeRecordWrite (s : State) : Host.Outcome State Fault Refusal :=
  .next (if s.firmwareUp then s.writeImage 0x40 s.timeRecord.toBytes qGood else s)

/-- TIME_STATUS returns the time record (R358). -/
def cmdTimeStatus (rq : Request) (s : State) : State := serve Cmd.timeStatus rq s fun s => .done s (s.img.read 0x40 64)

/-- TIME_STATUS (R358). -/
def execTimeStatus (rq : Request) (s : State) : Host.Outcome State Fault Refusal := .next (s.command rq cmdTimeStatus)

/-! ### The PTP descriptor (R351) -/

/-- Every field of a PTP descriptor lies in its range (R351). -/
def PtpDesc.ok (d : PtpDesc) : Bool :=
  let sb (lo : Int) (x : BitVec 8) (hi : Int) : Bool := decide (lo ≤ x.toInt) && decide (x.toInt ≤ hi)
  d.PTP_MODE.toNat ≤ 2 && d.DELAY_MECH.toNat ≤ 1 && d.STEP_MODE.toNat ≤ 1 && d.DOMAIN.toNat ≤ 127 && sb (-7) d.LOG_SYNC 1
    && sb (-3) d.LOG_ANNOUNCE 4 && sb (-7) d.LOG_DELAY 5 && between 2 d.ANNOUNCE_TIMEOUT.toNat 10 && between 10 d.LOCK_NS.toNat 10000
    && 1 ≤ d.STEP_US.toNat && between 1000 d.RATE_MAX_PPB.toNat 500000 && 1 ≤ d.HOLD_ALARM_S.toNat

/-- TIME_PTP_SET, for the next ENABLE (R351). -/
def cmdTimePtpSet (rq : Request) (s : State) : State :=
  serve Cmd.timePtpSet rq s fun s =>
    let d := PtpDesc.ofBytes rq.payload
    refuseIf (!d.ok) 0x0B01 0xFFFF (.done { s with tm.ptpDesc := d } [])

/-- TIME_PTP_SET (R351). -/
def execTimePtpSet (rq : Request) (s : State) : Host.Outcome State Fault Refusal := .next (s.command rq cmdTimePtpSet)

/-- TIME_PTP_GET (R351). -/
def cmdTimePtpGet (rq : Request) (s : State) : State := serve Cmd.timePtpGet rq s fun s => .done s s.tm.ptpDesc.toBytes

/-- TIME_PTP_GET (R351). -/
def execTimePtpGet (rq : Request) (s : State) : Host.Outcome State Fault Refusal := .next (s.command rq cmdTimePtpGet)

/-! ### The clock states (R354) -/

/-- Ticks in `n` intervals of 2^`k` seconds. -/
def intervals (n : Nat) (k : Int) : Nat := if 0 ≤ k then sec n * 2 ^ k.toNat else sec n / 2 ^ (-k).toNat

/-- The clock enters a state, with its NOTICE record (R354); a HOLDOVER begins or ends with it (R358, R370). -/
def State.setClock (s : State) (c : ClkState) : State :=
  if s.tm.clk = c then s
  else
    let old := s.tm.clk
    let held := s.holdoverS
    let t := { s.tm with clk := c, goodRun := 0, badRun := 0 }
    let t := if old = .holdover then { t with netStat := { t.netStat with MAX_HOLDOVER_S := maxBv t.netStat.MAX_HOLDOVER_S held } } else t
    let t := match c with
      | .holdover => { t with holdAt := s.now, holdAlarm := false, netStat := { t.netStat with HOLDOVER_COUNT := sat t.netStat.HOLDOVER_COUNT } }
      | .locked => { t with everLocked := true, timeValid := true }
      | _ => t
    { s with tm := t }.event 2 0x0B80 0xFF old.num c.num s.tm.gmId.toNat

/-- Sync, announcement or master are lost: HOLDOVER from ACQUIRING or LOCKED (R354). -/
def State.loseSync (s : State) : State := if s.tm.clk == .acquiring || s.tm.clk == .locked then s.setClock .holdover else s

/-- Rate and base are replaced together at this tick; time goes on without a jump (R353). (log 138) -/
def State.setRate (s : State) (rate : Int) : State := { s with tm.baseTs := s.ts, tm.baseCnt := s.now, tm.rateQ48 := rate }

/-- The clock steps so that an offset becomes 0 (R355); compare units whose time is passed fire late (R360). (log 138) -/
def State.stepClock (s : State) (x : Int) : State :=
  let t := s.ts - BitVec.ofInt 64 x
  let s := { s with
    tm.baseTs := t, tm.baseCnt := s.now, tm.stepSeq := s.tm.stepSeq + 1,
    tm.netStat := { s.tm.netStat with STEP_COUNT := sat s.tm.netStat.STEP_COUNT, LAST_STEP_TS := t } }
  (s.event 3 0x0B81 0xFF 0 (BitVec.ofInt 64 (-x)).toNat).fireLate

/-- 2^-17 ppb, the unit of the servo's sums: KP·x/T_s and KI·x/T_s are whole in it. -/
def servoUnit : Int := 131072

/-- The gain's share of a measurement in that unit: gain / 2^16 · x / 2^LOG_SYNC. (log 138) -/
def servoTerm (gain : BitVec 32) (x logSync : Int) : Int := 2 * gain.toNat * x * 2 ^ (7 - logSync).toNat / 2 ^ 7

/-- The servo takes a measurement (R354): I, frozen while the output is clamped, R, and RATE_Q48 rounded to nearest.
(log 138) -/
def State.servo (s : State) (x : Int) : State :=
  let d := s.tm.ptpAct
  let p := servoTerm d.KP x d.LOG_SYNC.toInt
  let i := s.tm.servoI + servoTerm d.KI x d.LOG_SYNC.toInt
  let top := servoUnit * d.RATE_MAX_PPB.toNat
  let i := if top < (p + i).natAbs then s.tm.servoI else i
  let r := max (-top) (min top (p + i))
  { s with tm.servoI := i }.setRate (roundDiv (-(r * 2 ^ 48)) (131072 * 1000000000))

/-- Runs of measurements below LOCK_NS and at or above four times it decide between ACQUIRING and LOCKED (R354). -/
def State.judgeLock (s : State) (x : Int) : State :=
  let n := s.tm.ptpAct.LOCK_NS.toNat
  let good := if x.natAbs < n then s.tm.goodRun + 1 else 0
  let bad := if 4 * n ≤ x.natAbs then s.tm.badRun + 1 else 0
  let s := { s with tm.goodRun := good, tm.badRun := bad }
  if s.tm.clk == .acquiring && 16 ≤ good then s.setClock .locked
  else if s.tm.clk == .locked && 4 ≤ bad then s.setClock .acquiring
  else s

/-- A port has had an accepted Sync within the last four sync intervals (R350). -/
def State.syncFresh (s : State) (p : Fin 2) : Bool :=
  match (s.tm.ports.get p).syncAt with
  | some a => decide (s.now < a + intervals 4 s.tm.ptpAct.LOG_SYNC.toInt)
  | none => false

/-- PORT_SEL (R350): PORT_A while it is fresh, else PORT_B while that is; its changes are counted. (log 141) -/
def State.selectPort (s : State) : State :=
  let sel : Fin 2 := if s.syncFresh 0 then 0 else if s.syncFresh 1 then 1 else s.tm.portSel
  if sel = s.tm.portSel then s
  else { s with tm.portSel := sel, tm.netStat := { s.tm.netStat with PORT_SWITCHES := sat s.tm.netStat.PORT_SWITCHES } }

/-- What the selected master announces: identity, UTC offset and leap flags (R354, R358); a change of grandmaster is
counted and loses the lock. (log 141) -/
def State.followMaster (s : State) (m : PtpMaster) : State :=
  let changed := s.tm.gmKnown && s.tm.gmId != m.gmId
  let s := if changed then
      { s with tm.netStat := { s.tm.netStat with MASTER_CHANGES := sat s.tm.netStat.MASTER_CHANGES } }.loseSync
    else s
  { s with
    tm.gmId := m.gmId, tm.gmKnown := true, tm.isMaster := false, tm.announceAt := s.now, tm.utcValid := m.utcOffset.isSome,
    tm.utcOffset := m.utcOffset.getD s.tm.utcOffset, tm.leap61 := m.leap61, tm.leap59 := m.leap59 }

/-- PTP runs: the firmware is up, and PTP_MODE is not off (R351). -/
def State.ptpUp (s : State) : Bool := s.firmwareUp && s.tm.ptpAct.PTP_MODE != 0#8

/-- A Sync has been accepted on a port, and PORT_SEL follows (R350). -/
def State.syncOn (s : State) (p : Fin 2) : State :=
  ({ s with tm.ports := upd s.tm.ports p fun x => { x with syncAt := some s.now } }).selectPort

/-- A measurement of more than STEP_US steps the clock: with STEP_ANYTIME, or before the first LOCKED since boot (R355). -/
def State.steps (s : State) (x : Int) : Bool :=
  decide (1000 * s.tm.ptpAct.STEP_US.toNat < x.natAbs) && (s.tm.ptpAct.STEP_ANYTIME == 1#1 || !s.tm.everLocked)

/-- A measurement on the selected port: its master is followed, the clock leaves FREE or HOLDOVER, and steps or takes the
servo's rate (R353 to R355, R357). -/
def State.measured (s : State) (offset : Int) (meanPath : BitVec 32) (ann : PtpMaster) : State :=
  let s := s.followMaster ann
  let s := if s.tm.clk == .free || s.tm.clk == .holdover then s.setClock .acquiring else s
  let s := { s with tm.syncAt := s.now, tm.offsetNs := offset, tm.meanPath := meanPath }
  (if s.steps offset then (s.stepClock offset).servo 0 else s.servo offset).judgeLock offset

/-- An accepted measurement on a port (R350, R353 to R355, R357). -/
def execPtpSyncReceive (port : Fin 2) (offset : Int) (meanPath : BitVec 32) (ann : PtpMaster) (s : State) : Host.Outcome State Fault Refusal :=
  .next <|
    if !s.ptpUp then s
    else
      let s := s.syncOn port
      if s.tm.portSel != port then s else s.measured offset meanPath ann

/-- No accepted Sync for four intervals on a port: the other port is taken, or the clock goes to HOLDOVER (R350, R354). -/
def execPtpSyncTimeout (port : Fin 2) (s : State) : Host.Outcome State Fault Refusal :=
  .next <|
    if s.ptpUp && !s.syncFresh port && s.tm.portSel = port then
      let s := s.selectPort
      if s.syncFresh s.tm.portSel then s else s.loseSync
    else s

/-- The announce timeout: ANNOUNCE_TIMEOUT intervals without an Announce; a master-capable module becomes grandmaster
(R348, R354). -/
def execAnnounceTimeout (s : State) : Host.Outcome State Fault Refusal :=
  .next <|
    let d := s.tm.ptpAct
    if s.ptpUp && !s.tm.isMaster && s.since s.tm.announceAt (intervals d.ANNOUNCE_TIMEOUT.toNat d.LOG_ANNOUNCE.toInt) then
      let s := s.loseSync
      if d.PTP_MODE == 2#8 then { s with tm.isMaster := true, tm.gmId := Config.clockIdentity } else s
    else s

/-- HOLDOVER_S reaches HOLD_ALARM_S (R354). -/
def execHoldoverAlarm (s : State) : Host.Outcome State Fault Refusal :=
  .next <|
    if s.firmwareUp && s.tm.clk == .holdover && !s.tm.holdAlarm && s.since s.tm.holdAt (sec s.tm.ptpAct.HOLD_ALARM_S.toNat) then
      { s with tm.holdAlarm := true }.event 4 0x0B80 0xFF s.tm.clk.num s.tm.clk.num s.tm.gmId.toNat
    else s

/-- A PTP message is sent at its interval (R348, R349). (log 141) -/
def execPtpMessageSend (data : List Byte) (s : State) : Host.Outcome State Fault Refusal :=
  .next (if s.ptpUp then s.sendFrames [data] else s)

end Sys2Proof.Machine
end

