-- ==== Sys2Proof/Machine/Net.lean ====
section
/-! DEFINITION. The plant network (R341 to R347, R370): the network descriptor, received frames, duplicates, forwarding, the node
table, the ports' links, supervision frames, and process data from remote stations (R99, R101, R401). -/

namespace Sys2Proof.Machine

/-! ### Commands (R347, R370) -/

/-- Every field of a network descriptor lies in its range (R347). -/
def NetDesc.ok (d : NetDesc) : Bool :=
  d.NET_MODE.toNat ≤ 2 && d.SPEED_A.toNat ≤ 2 && d.SPEED_B.toNat ≤ 2 && d.PHY_ADDR_A.toNat ≤ 31 && d.PHY_ADDR_B.toNat ≤ 31
    && d.PD_PCP.toNat ≤ 7 && d.PTP_PCP.toNat ≤ 7 && d.SESS_PCP.toNat ≤ 7 && d.VID.toNat ≤ 4094
    && between 100 d.ENTRY_FORGET_MS.toNat 10000 && between 100 d.LIFE_CHECK_MS.toNat 10000 && between 10 d.NODE_FORGET_S.toNat 3600

/-- CFG_NET_SET writes the network descriptor, for the next ENABLE (R347). -/
def cmdCfgNetSet (rq : Request) (s : State) : State :=
  serve Cmd.cfgNetSet rq s fun s =>
    let d := NetDesc.ofBytes rq.payload
    refuseIf (!d.ok) 0x021B 0xFFFF (.done { s with tm.netDesc := d } [])

/-- CFG_NET_SET (R347). -/
def execCfgNetSet (rq : Request) (s : State) : Host.Outcome State Fault Refusal := .next (s.command rq cmdCfgNetSet)

/-- CFG_NET_GET returns the network descriptor as written (R347). -/
def cmdCfgNetGet (rq : Request) (s : State) : State := serve Cmd.cfgNetGet rq s fun s => .done s s.tm.netDesc.toBytes

/-- CFG_NET_GET (R347). -/
def execCfgNetGet (rq : Request) (s : State) : Host.Outcome State Fault Refusal := .next (s.command rq cmdCfgNetGet)

/-- The network status as it stands: the table's nodes, and the present holdover where it is the longest (R370). -/
def State.netStatus (s : State) : List Byte :=
  { s.tm.netStat with MAX_HOLDOVER_S := maxBv s.tm.netStat.MAX_HOLDOVER_S s.holdoverS }.toBytes (NODES := s.tm.nodes.length)

/-- DIAG_NET_STATUS returns the network status (R370). -/
def cmdDiagNetStatus (rq : Request) (s : State) : State := serve Cmd.diagNetStatus rq s fun s => .done s s.netStatus

/-- DIAG_NET_STATUS (R370). -/
def execDiagNetStatus (rq : Request) (s : State) : Host.Outcome State Fault Refusal := .next (s.command rq cmdDiagNetStatus)

/-! ### The network unit (R341, R344) -/

/-- The network unit runs: 10 ms past its start, outside a power-fail sequence (R341, R344). -/
def State.netUp (s : State) : Bool := s.ran s.tm.netAt (ms 10) && s.pow.pfStage == .idle

/-- The port is used: PORT_B is held in PHY reset in mode 2 (R343). -/
def State.portUsed (s : State) (p : Fin 2) : Bool := p == 0 || s.tm.netAct.NET_MODE != 2#8

/-- PHY_RST is held low for 10 ms at each start of the network unit (R341). -/
def State.phyReset (s : State) : Bool := !s.ran s.tm.netAt (ms 10)

/-- Bytes of the longest frame: 1522, and the six of a PRP trailer or HSR tag in their modes (R341, log 50). -/
def State.longestFrame (s : State) : Nat := if s.tm.netAct.NET_MODE == 2#8 then 1522 else 1528

/-- Network counters changed. -/
def State.netCount (s : State) (f : NetStat → NetStat) : State := { s with tm.netStat := f s.tm.netStat }

/-! ### What a frame does besides its payload (R343, R344) -/

/-- Sender and sequence number have been seen within ENTRY_FORGET_MS, on port `p` or on any (R343). -/
def State.seenFrame (s : State) (f : NetFrame) (p : Option (Fin 2)) : Bool :=
  s.tm.seen.any fun e =>
    e.1 == f.src && e.2.1 == f.seq && decide (s.now < e.2.2.2 + ms s.tm.netAct.ENTRY_FORGET_MS.toNat)
      && (match p with | some q => e.2.2.1 == q | none => true)

/-- The frame is entered for duplicate discard, and entries past ENTRY_FORGET_MS leave (R343). (log 136) -/
def State.noteSeen (s : State) (f : NetFrame) : State :=
  { s with tm.seen := (f.src, f.seq, f.port, s.now) :: s.tm.seen.filter fun e => decide (s.now < e.2.2.2 + ms s.tm.netAct.ENTRY_FORGET_MS.toNat) }

/-- The frame's node in the table of 2048 nodes; beyond it the node is not tracked, and its frame counted (R343). -/
def State.noteNode (s : State) (mac : BitVec 48) : State :=
  if (s.tm.nodes.lookup mac).isSome || s.tm.nodes.length < 2048 then { s with tm.nodes := assocPut s.tm.nodes mac s.now }
  else s.netCount fun x => { x with NODE_TABLE_FULL := sat x.NODE_TABLE_FULL }

/-- The frame is for this module alone, so mode H does not forward it (R343, log 50). -/
def NetPayload.forUs : NetPayload → Bool
  | .session _ | .witnessQuery _ _ _ => true
  | .processData _ _ _ _ _ | .supervision | .presence _ _ _ | .announce _ | .ptp _ | .other _ => false

/-- In a ring the frame goes on through the other port, unless this port has brought it before (R343, R344). -/
def State.forward (s : State) (f : NetFrame) : State :=
  if s.tm.forwarding && !f.data.forUs && !s.seenFrame f (some f.port) then
    s.netCount fun x => { x with FORWARDED := sat x.FORWARDED }
  else s

/-! ### The payload (R42, R345, R346, R383) -/

/-- Bytes that the receive queue holds. -/
def State.queuedBytes (s : State) : Nat := (s.tm.msgQueue.map fun f => f.len).sum

/-- A frame enters the MSG receive queue; a full queue drops it (R42, R345). -/
def State.queueFrame (s : State) (f : NetFrame) : State :=
  if Config.netQueueBytes (s.gro.act.get 5).QUOTA_KIB.toNat < s.queuedBytes + f.len then
    s.netCount fun x => { x with QUEUE_DROPS := sat x.QUEUE_DROPS }
  else { s with tm.msgQueue := s.tm.msgQueue ++ [f] }

/-- The other address of this module's pair (R372). (log 137) -/
def State.isPeerAddr (s : State) (a : BitVec 16) : Bool :=
  a.toNat / 2 == s.sys.straps.addr.toNat / 2 && a.toNat != s.sys.straps.addr.toNat

/-- An owner at the other address of the pair is learned of (R399, R401). (log 137) -/
def State.heardOwner (s : State) (a : BitVec 16) (owner : Bool) (epoch : BitVec 64) : State :=
  if owner && s.isPeerAddr a && s.firmwareUp then s.learnOwner epoch else s

/-- What a frame brings once (R345, R383, R401). Sessions and what PTP measures have their own rows. -/
def State.takePayload (s : State) (f : NetFrame) : State :=
  match f.data with
  | .processData a _ _ _ _ => (s.notePresence a).queueFrame f
  | .presence a o e => (s.notePresence a).heardOwner a o e
  | .witnessQuery a p n => if s.firmwareUp then s.takeQuery a p n else s
  | .other _ => s.queueFrame f
  | .supervision | .announce _ | .ptp _ | .session _ => s

/-- What each port takes of a frame for itself, duplicate or not: supervision frames (R346), and the announcements of the
selected master (R350, R354). (log 136) -/
def State.takeOnPort (s : State) (f : NetFrame) : State :=
  match f.data with
  | .supervision => { s with tm.ports := upd s.tm.ports f.port fun p => { p with lanOkAt := some s.now } }
  | .announce m =>
    if s.ptpUp && s.tm.gmKnown && !s.tm.isMaster && m.gmId == s.tm.gmId then
      { s with tm.announceAt := s.now, tm.utcValid := m.utcOffset.isSome, tm.utcOffset := m.utcOffset.getD s.tm.utcOffset,
               tm.leap61 := m.leap61, tm.leap59 := m.leap59 }
    else s
  | .processData _ _ _ _ _ | .presence _ _ _ | .witnessQuery _ _ _ | .ptp _ | .session _ | .other _ => s

/-- A good frame of another node (R343 to R346). (log 136) -/
def State.takeNetFrame (s : State) (f : NetFrame) : State :=
  let s := ((if f.wrongLan && s.tm.netAct.NET_MODE == 0#8 then s.netCount fun x => { x with WRONG_LAN := sat x.WRONG_LAN } else s).forward f).takeOnPort f
  if s.tm.netAct.NET_MODE == 2#8 then s.takePayload f
  else
    let s := s.noteNode f.src
    if s.seenFrame f none then (s.noteSeen f).netCount fun x => { x with DUP_DISCARD := sat x.DUP_DISCARD }
    else (s.noteSeen f).takePayload f

/-- An own frame that returns in the ring is removed; of a supervision frame the port is noted (R343, R346). (log 136) -/
def State.removeOwn (s : State) (f : NetFrame) : State :=
  match f.data with
  | .supervision => { s with tm.ports := upd s.tm.ports f.port fun p => { p with ownSeen := some s.now } }
  | .processData _ _ _ _ _ | .presence _ _ _ | .witnessQuery _ _ _ | .announce _ | .ptp _ | .session _ | .other _ => s

/-- NET_FRAME_RECEIVE (R341 to R346). -/
def execNetFrameReceive (f : NetFrame) (s : State) : Host.Outcome State Fault Refusal :=
  .next <|
    if !(s.netUp && s.portUsed f.port && (s.tm.ports.get f.port).linkUp) then s
    else if !f.good || s.longestFrame < f.len then s.netCount fun x => { x with RX_ERRORS := sat x.RX_ERRORS }
    else
      let s := s.netCount fun x =>
        if f.port = 0 then { x with RX_FRAMES_A := sat x.RX_FRAMES_A } else { x with RX_FRAMES_B := sat x.RX_FRAMES_B }
      if f.src == Config.macAddress then s.removeOwn f else s.takeNetFrame f

/-! ### Process data (R99, R101, R401) -/

/-- The queued frame that holds an object of a station. -/
def NetFrame.holds (f : NetFrame) (station : BitVec 16) (owner : Bool) (epoch : BitVec 64) (obj : BitVec 16) (data : List Byte) : Bool :=
  f.data == .processData station owner epoch obj data

/-- The remote descriptor that takes a station's data: its own, else that of the other address of its pair (R401). (log 137) -/
def State.remoteFor (s : State) (a : BitVec 16) : Option Remote :=
  match s.tk.remotes.find? fun r => r.desc.STATION_ADDR == a with
  | some r => some r
  | none => s.tk.remotes.find? fun r => r.desc.STATION_ADDR.toNat / 2 == a.toNat / 2

/-- PROCESS_DATA_RECEIVE (R99, R101, R401): the frame leaves its receive queue, and its object moves into IMAGE where an owner
sent it, of two owners the one with the higher epoch. (log 137) -/
def execProcessDataReceive (station : BitVec 16) (owner : Bool) (epoch : BitVec 64) (obj : BitVec 16) (data : List Byte) (s : State) : Host.Outcome State Fault Refusal :=
  .next <|
    if !s.firmwareUp then s
    else
      let h := fun (f : NetFrame) => f.holds station owner epoch obj data
      let s := if s.tm.msgQueue.any h then { s with tm.msgQueue := s.tm.msgQueue.eraseP h } else s.notePresence station
      let s := s.heardOwner station owner epoch
      match s.remoteFor station with
      | some r => if owner && (r.state == .absent || r.epoch.toNat ≤ epoch.toNat) then s.importData r epoch obj data else s
      | none => s

/-! ### Links and nodes (R343, R346) -/

/-- PORT_LINK_DOWN (R346, R370). -/
def execPortLinkDown (port : Fin 2) (s : State) : Host.Outcome State Fault Refusal :=
  .next <|
    if (s.tm.ports.get port).linkUp then
      let s := { s with tm.ports := upd s.tm.ports port fun p => { p with linkUp := false } }
      if s.netUp && s.portUsed port then
        let s := s.netCount fun x =>
          if port = 0 then { x with LINK_DOWN_A := sat x.LINK_DOWN_A } else { x with LINK_DOWN_B := sat x.LINK_DOWN_B }
        if s.firmwareUp then s.event 4 0x0B82 0xFF 0 port.val else s
      else s
    else s

/-- PORT_LINK_UP (R346). -/
def execPortLinkUp (port : Fin 2) (s : State) : Host.Outcome State Fault Refusal :=
  .next <|
    if (s.tm.ports.get port).linkUp then s
    else
      let s := { s with tm.ports := upd s.tm.ports port fun p => { p with linkUp := true } }
      if s.netUp && s.portUsed port && s.firmwareUp then s.event 2 0x0B82 0xFF 0 port.val else s

/-- SUPERVISION_FRAME_SEND: every LIFE_CHECK_MS in the redundancy modes (R343); the frame's form is the standard's (log 33). -/
def execSupervisionFrameSend (s : State) : Host.Outcome State Fault Refusal :=
  .next <|
    if s.netUp && s.tm.netAct.NET_MODE != 2#8 && s.since s.tm.suprAt (ms s.tm.netAct.LIFE_CHECK_MS.toNat) then
      { s.sendFrames [leBytes 6 Config.macAddress.toNat] with tm.suprAt := s.now }
    else s

/-- LAN_OK_TIMEOUT (R346): no supervision frame of another node for 3·LIFE_CHECK_MS. -/
def execLanOkTimeout (port : Fin 2) (s : State) : Host.Outcome State Fault Refusal :=
  .next <|
    if s.ran (s.tm.ports.get port).lanOkAt (ms (3 * s.tm.netAct.LIFE_CHECK_MS.toNat)) then
      { s with tm.ports := upd s.tm.ports port fun p => { p with lanOkAt := none } }
    else s

/-- NODE_FORGET (R343): a node not heard for NODE_FORGET_S leaves the table. -/
def execNodeForget (mac : BitVec 48) (s : State) : Host.Outcome State Fault Refusal :=
  .next <|
    match s.tm.nodes.lookup mac with
    | some a => if s.since a (sec s.tm.netAct.NODE_FORGET_S.toNat) then { s with tm.nodes := s.tm.nodes.filter fun e => e.1 != mac } else s
    | none => s

end Sys2Proof.Machine
end

