-- ==== Sys2Proof/Machine/Power.lean ====
section
/-! DEFINITION. Supply, heat and hold-up (R53 to R76): levels, publication, the power-fail sequence and the power commands. -/

namespace Sys2Proof.Machine

/-! ### Commands -/

/-- The power descriptor's fields lie in their ranges (R74). -/
def PowerDesc.inRange (d : PowerDesc) : Bool :=
  d.FEED_MODE.toNat ≤ 2 && d.H3_SWAP.toNat ≤ 1 && 10 ≤ d.FEED_LOSS_MS.toNat && d.FEED_LOSS_MS.toNat ≤ 60000
    && 28000 ≤ d.VIN_HIGH_MV.toNat && d.VIN_HIGH_MV.toNat ≤ 32000

/-- CFG_POWER_SET writes the power descriptor (R74). -/
def cmdCfgPowerSet (rq : Request) (s : State) : State :=
  serve Cmd.cfgPowerSet rq s fun s =>
    let d := PowerDesc.ofBytes rq.payload
    refuseIf (!d.inRange) 0x0209 0xFFFF (.done { s with pow.desc := d } [])

/-- CFG_POWER_GET reads the power descriptor (R74). -/
def cmdCfgPowerGet (rq : Request) (s : State) : State := serve Cmd.cfgPowerGet rq s fun s => .done s s.pow.desc.toBytes

/-- DIAG_POWER_STATUS reads the status block, with the latest budget record (R75). -/
def cmdDiagPowerStatus (rq : Request) (s : State) : State :=
  serve Cmd.diagPowerStatus rq s fun s => .done s (s.img.read 0 24 ++ s.pow.stat.toBytes)

/-- The sticky bits, the counters except E3_COUNT, the extremes and the level times are cleared; the extremes begin
again at the present readings (R75). (log 66) -/
def Power.cleared (p : Power) : Power :=
  { p with
    h1At := 0, h2At := 0, h3At := 0,
    stat := { PowerStat.dflt with
      HOLDUP_CAP := p.stat.HOLDUP_CAP, E3_COUNT := p.stat.E3_COUNT, LAST_E2_US := p.stat.LAST_E2_US,
      MIN_VIN_MV := if p.vinUnknown then 0#16 else BitVec.ofNat 16 p.vin,
      MAX_DIE_T := match p.dieT with | some t => BitVec.ofInt 16 t | none => p.stat.MAX_DIE_T,
      MAX_SINK_T := match p.sinkT with | some t => BitVec.ofInt 16 t | none => p.stat.MAX_SINK_T } }

/-- DIAG_POWER_CLEAR (R75). -/
def cmdDiagPowerClear (rq : Request) (s : State) : State :=
  serve Cmd.diagPowerClear rq s fun s => .done { s with pow := (s.pow.countHeat s.now).cleared } []

/-- CFG_POWER_SET (R74). -/
def execCfgPowerSet (rq : Request) (s : State) : Host.Outcome State Fault Refusal := .next (s.command rq cmdCfgPowerSet)
/-- CFG_POWER_GET (R74). -/
def execCfgPowerGet (rq : Request) (s : State) : Host.Outcome State Fault Refusal := .next (s.command rq cmdCfgPowerGet)
/-- DIAG_POWER_STATUS (R75). -/
def execDiagPowerStatus (rq : Request) (s : State) : Host.Outcome State Fault Refusal := .next (s.command rq cmdDiagPowerStatus)
/-- DIAG_POWER_CLEAR (R75). -/
def execDiagPowerClear (rq : Request) (s : State) : Host.Outcome State Fault Refusal := .next (s.command rq cmdDiagPowerClear)

/-! ### Publication (R69 to R73) -/

/-- A temperature, or a free value where no sensor is valid (log 13). -/
def State.orFree (s : State) (t : Option Int) : Int × State :=
  match t with
  | some x => (x, s)
  | none => let (v, s) := s.draw; ((v.setWidth 16).toInt, s)

/-- The budget record is written into IMAGE; a change of the levels reaches the dispatcher with it (R72, R80, R97). (log 64) -/
def State.publish (s : State) : State :=
  let heat := s.heatNow
  let energy := s.energyNow
  let (die, s) := s.orFree s.pow.dieT
  let (sink, s) := s.orFree s.pow.sinkT
  let s := { s with pow := { s.pow.countHeat s.now with seq := s.pow.seq + 1, publishAt := s.now, budgetStale := false } }
  let s := s.writeImage 0 (s.budget die sink).toBytes qGood
  if s.heatNow = heat && s.energyNow = energy then s else s.levelChanged.holdCrucible

/-- EVT_LEVEL (R76): OLD and NEW are bits 3:0 of the budget word. -/
def State.levelEvent (s : State) (sev oldHeat oldEnergy : Nat) : State :=
  s.event sev 0x0F90 0xFF (oldHeat + 4 * oldEnergy) (s.pow.heat.num + 4 * s.pow.energy.num)

/-- The larger of a kept signed extreme and a reading; the first reading counts alone. (log 66) -/
def maxTemp (first : Bool) (x : BitVec 16) (t : Option Int) : BitVec 16 :=
  match t with
  | some v => if first || x.toInt < v then BitVec.ofInt 16 v else x
  | none => x

/-- The feed is expected under FEED_MODE (R54). -/
def Power.expects (p : Power) (i : Fin 2) : Bool := p.act.FEED_MODE == 0#8 || p.act.FEED_MODE.toNat == i.val + 1

/-- What the monitor samples for one publication is taken in (R54, R63, R68). (log 72) -/
def Power.take (p : Power) (m : MonitorSample) (now : Nat) : Power :=
  let low (i : Fin 2) : Bool := (if i = 0 then m.feedA else m.feedB).toNat < 18000
  let p := { p with
    temps := Vector.ofFn fun i => (m.temps.get i :: p.temps.get i).take 8, feedA := m.feedA, feedB := m.feedB, boostMa := m.boostMa,
    feedLowSince := Vector.ofFn fun i => runTimer (p.expects i && low i) now (p.feedLowSince.get i),
    feedLost := Vector.ofFn fun i => p.feedLost.get i && p.expects i && low i }
  { p with
    die125Since := runTimer (!atMost p.dieT 1999 && p.dieT.isSome) now p.die125Since,
    stat := { p.stat with
      MAX_DIE_T := maxTemp (p.publishAt == 0) p.stat.MAX_DIE_T p.dieT, MAX_SINK_T := maxTemp (p.publishAt == 0) p.stat.MAX_SINK_T p.sinkT } }

/-- The heat level after the readings: raised at once to every level whose entry condition holds; the timer of its
exit restarts at each change (R69, R71). (log 63) -/
def Power.raiseHeat (p : Power) (now : Nat) : Power :=
  let n := p.heatEntry
  if p.heat.num < n then { p.countHeat now with heat := Heat.ofNum n, heatOkSince := none }
  else { p with heatOkSince := runTimer (p.heatExit p.heat.num) now p.heatOkSince }

/-- A fault of the sensors sets THERM_SENSOR_FAULT, with an ALARM record, and stands until they are valid again
(R71, R75). -/
def State.sensorFault (s : State) : State :=
  let bad := s.pow.heatFloor != 0
  if bad && !s.pow.thermFault then
    { s with pow.thermFault := true, pow.stat := { s.pow.stat with SENSOR_FAULT_SEEN := 1#1 } }.supplyEvent 4
  else { s with pow.thermFault := bad }

/-- The monitor works from BOOT on while the module has power (R73). -/
def State.powered (s : State) : Bool := s.sys.phase != .off

/-- BUDGET_PUBLISH (R54, R68 to R72): readings taken in, the heat level raised, and the record published. -/
def execBudgetPublish (m : MonitorSample) (s : State) : Host.Outcome State Fault Refusal :=
  .next <|
    if s.powered then
      let old := s.pow.heat.num
      let s := { s with pow := (s.pow.take m s.now).raiseHeat s.now }
      let s := s.sensorFault
      let s := { s with pow.swapReq := s.swapReqNow }
      let s := if old < s.pow.heat.num then s.levelEvent (if s.pow.heat == .h3 then 4 else 3) old s.pow.energy.num else s
      s.publish.swapOnRequest
    else s

/-- HEAT_LEVEL_FALL (R69): the exit condition of the level has held for 1 s, and it falls one step. (log 63) -/
def execHeatLevelFall (s : State) : Host.Outcome State Fault Refusal :=
  .next <|
    let n := s.pow.heat.num
    if 0 < n && s.pow.heatExit n && s.ran s.pow.heatOkSince (sec 1) then
      let p := { s.pow.countHeat s.now with heat := Heat.ofNum (n - 1) }
      let s := { s with pow := { p with heatOkSince := runTimer (0 < n - 1 && p.heatExit (n - 1)) s.now none } }
      { s with pow.swapReq := s.swapReqNow }.levelEvent 2 n s.pow.energy.num
    else s

/-- BUDGET_STALE (R73): over 300 µs after the last publication the levels are taken as H3 and E2. -/
def execBudgetStale (s : State) : Host.Outcome State Fault Refusal :=
  .next <|
    if s.powered && !s.pow.budgetStale && s.pow.publishAt + us 300 < s.now then { s with pow.budgetStale := true }.levelChanged.holdCrucible else s

/-! ### The power-fail sequence (R64 to R67, R413) -/

/-- The power-fail record's payload (R413, R521). -/
def State.powerFailPayload (s : State) : List Byte :=
  leBytes 2 (s.img.num 8 2) ++ leBytes 2 (s.img.num 14 2) ++ leBytes 2 (s.img.num 12 2) ++ leBytes 1 (s.budgetByte % 16)
    ++ [0#8] ++ leBytes 4 s.flow.staging.length

/-- The power-fail record is staged whatever the fill of staging, and a running flush and an export end (R413). -/
def State.stagePowerFail (s : State) : State :=
  let s := s.endFlush
  let seq := s.flow.headSeq + 1
  let r := s.recordOf { sev := 5, code := 0x0111, payload := s.powerFailPayload } seq s.ts
  { s with
    flow.headSeq := seq, flow.seqReserved := reserveSeq s.flow.seqReserved seq, flow.pfRecord := some r,
    flow.exp := none }.raise irqFlowAlarm

/-- Entry to E3 (R65): E3 latched, the gate closed, every QL line in kill, PEER_OK_OUT low, the blocks stopped, the
record with ENERGY 3 published, and stage 1 begun. -/
def State.enterE3 (s : State) : State :=
  let us2 := s.pow.e2Time s.now
  let s := { s with
    pow.e2Us := BitVec.ofNat 16 us2, pow.energy := .e3, pow.e2Since := none, pow.boostLimited := true, pow.boostStopped := true,
    pow.stat := { s.pow.stat with E3_COUNT := sat s.pow.stat.E3_COUNT, LAST_E2_US := if us2 = 0 then s.pow.stat.LAST_E2_US else BitVec.ofNat 32 us2 },
    pow.pfStage := .stage1, gro.gateClosed := true, pr.peerOkOut := false, tm.forwarding := false }
  let s := s.dropLines.holdBlocks
  { s.publish.stagePowerFail with sys.phase := .held }

/-- The level whose entry condition a sample meets (R60). -/
def Power.energyEntry (p : Power) : Nat := if p.vin < 12000 then 3 else if p.vin < 15000 then 2 else if p.vin < 17000 then 1 else 0

/-- Levels E1 and E2 that a rise enters, passed over or reached, are counted (R60, R75). -/
def PowerStat.entered (x : PowerStat) (old new : Nat) : PowerStat :=
  let x := if old < 1 && 1 ≤ new then { x with E1_SEEN := 1#1, E1_COUNT := sat x.E1_COUNT } else x
  if old < 2 && 2 ≤ new then { x with E2_SEEN := 1#1, E2_COUNT := sat x.E2_COUNT } else x

/-- ENERGY_LEVEL_RISE (R60, R61, R63, R76): to the highest level whose entry condition the sample meets. -/
def execEnergyLevelRise (s : State) : Host.Outcome State Fault Refusal :=
  .next <|
    let old := s.pow.energy.num
    let n := s.pow.energyEntry
    if s.powered && s.pow.pfStage == .idle && old < n then
      let s := { s with pow.stat := s.pow.stat.entered old n }
      if n = 3 then s.enterE3
      else
        let s := { s with
          pow.energy := if n = 2 then .e2 else .e1, pow.boostLimited := true, pow.boostStopped := n == 2,
          pow.e2Since := if n = 2 then some s.now else none }
        (s.levelEvent (if n = 2 then 4 else 3) s.pow.heat.num old).publish
    else s

/-- E3_TIMER_EXPIRE (R61): E2 has lasted 10 ms. -/
def execE3TimerExpire (s : State) : Host.Outcome State Fault Refusal :=
  .next (if s.pow.energy == .e2 && s.ran s.pow.e2Since (ms 10) then s.enterE3 else s)

/-- E2_EXIT (R60, R61): VIN has stood at or above 16.0 V for 1 ms; the duration of the E2 is kept. (log 62, 64) -/
def execE2Exit (s : State) : Host.Outcome State Fault Refusal :=
  .next <|
    if s.pow.energy == .e2 && s.ran s.pow.e2OkSince (ms 1) then
      let d := match s.pow.e2Since with | some a => (s.now - a) / us 1 | none => 0
      { s with
        pow.energy := .e1, pow.e2Since := none, pow.boostStopped := false,
        pow.stat := { s.pow.stat with LAST_E2_US := BitVec.ofNat 32 d } }.levelEvent 2 s.pow.heat.num 2
    else s

/-- E1_EXIT (R60, R63): VIN has stood at or above 17.5 V for 100 ms. (log 62) -/
def execE1Exit (s : State) : Host.Outcome State Fault Refusal :=
  .next <|
    if s.pow.energy == .e1 && s.ran s.pow.e1OkSince (ms 100) then
      { s with pow.energy := .e0, pow.boostLimited := false }.levelEvent 2 s.pow.heat.num 1
    else s

/-- The power-fail record and then at most `n` others are in the log body, the rest is counted in PF_LOST, and the buffer has
drained (R64, R413). (log 70) -/
def State.endStage1 (s : State) (n : Nat) : State :=
  let f := match s.flow.pfRecord with | some r => s.flow.place r | none => s.flow
  let lost := f.staging.length - n
  let st := if lost = 0 then f.stat else { f.stat with PF_LOST_SEEN := 1#1 }
  let s := { s with flow := { f with pfRecord := none, pfLost := satAdd f.pfLost lost, stat := st } }.emergencyFlush n
  { s with gro := s.gro.drainAll, pow.pfStage := .stage2 }

/-- POWER_FAIL_STAGE1_END (R64, R413): at most 65,536 records are flushed. (log 68) -/
def execPowerFailStage1End (s : State) : Host.Outcome State Fault Refusal :=
  .next (if s.pow.pfStage == .stage1 then s.endStage1 65535 else s)

/-- POWER_FAIL_STAGE2_END (R64, R67, R432): every panel update in flight has ended with its balancing frame, CLEAN is
set, and the module holds every block in reset and waits. (log 68) -/
def execPowerFailStage2End (s : State) : Host.Outcome State Fault Refusal :=
  .next <|
    if s.pow.pfStage == .stage2 then
      { s with pnl := s.pnl.powerDown, sys.clean := true, pow.pfStage := .wait, pow.waitOkSince := none }
    else s

/-! ### Supply events (R54, R55, R58, R60) -/

/-- PF_WARN_CHANGE (R60): set below 16.0 V with a WARNING record, cleared at 16.5 V. -/
def execPfWarnChange (s : State) : Host.Outcome State Fault Refusal :=
  .next <|
    if !s.powered then s
    else if !s.pow.pfWarn && s.pow.vin < 16000 then { s with pow.pfWarn := true }.supplyEvent 3
    else if s.pow.pfWarn && 16500 ≤ s.pow.vin then { s with pow.pfWarn := false }
    else s

/-- FEED_LOSS (R54, R75): an expected feed has stood below 18.0 V for FEED_LOSS_MS. -/
def execFeedLoss (feed : Fin 2) (s : State) : Host.Outcome State Fault Refusal :=
  .next <|
    if s.powered && !s.pow.feedLost.get feed && s.ran (s.pow.feedLowSince.get feed) (ms s.pow.act.FEED_LOSS_MS.toNat) then
      let x := s.pow.stat
      { s with
        pow.feedLost := put s.pow.feedLost feed true,
        pow.stat := if feed = 0 then { x with FEED_A_LOST_SEEN := 1#1 } else { x with FEED_B_LOST_SEEN := 1#1 } }.supplyEvent 4
    else s

/-- VIN_HIGH_SET (R54, R75): VIN has stood above VIN_HIGH_MV for 10 ms. -/
def execVinHighSet (s : State) : Host.Outcome State Fault Refusal :=
  .next <|
    if s.powered && !s.pow.vinHigh && s.ran s.pow.vinHighSince (ms 10) then
      { s with pow.vinHigh := true, pow.stat := { s.pow.stat with VIN_HIGH_SEEN := 1#1 } }.supplyEvent 3
    else s

/-- VIN_HIGH_CLEAR (R54): VIN has stood at or below VIN_HIGH_MV − 500 mV for 100 ms. -/
def execVinHighClear (s : State) : Host.Outcome State Fault Refusal :=
  .next <|
    if s.powered && s.pow.vinHigh && s.ran s.pow.vinHighOkSince (ms 100) then { s with pow.vinHigh := false }.supplyEvent 2 else s

/-- A link has delivered no valid frame for 3 µs (R55). -/
def State.linkSilent (s : State) (n : Fin 4) : Bool :=
  match (s.dio.link.get n).lastValid with
  | some a => s.since a (us 3)
  | none => true

/-- VIN_UNKNOWN_SET (R55): neither ILK0 nor ILK2 has delivered a valid frame for 3 µs. -/
def execVinUnknownSet (s : State) : Host.Outcome State Fault Refusal :=
  .next <|
    if s.powered && s.linkSilent 0 && s.linkSilent 2 then
      { s with pow := { s.pow with vinUnknown := true, vinIlk0 := none, vinIlk2 := none }.sampleVin s.now }
    else s

/-- HOLDUP_MEASURE (R58): the capacitance measured during the inrush, in µF. (log 67) -/
def execHoldupMeasure (uF : Nat) (s : State) : Host.Outcome State Fault Refusal :=
  .next <|
    if s.powered then
      let cap := BitVec.ofNat 16 (min 65535 (uF / 10))
      let s := { s with pow := { s.pow with stat := { s.pow.stat with HOLDUP_CAP := cap } } }
      if 12500 ≤ uF then { s with pow.holdupWeak := false, pow.holdupReady := decide (18000 ≤ s.pow.vin) }
      else if 8500 ≤ uF then { s with pow.holdupWeak := true, pow.holdupReady := true }.supplyEvent 4
      else { s with pow.holdupWeak := false, pow.holdupReady := false }.supplyEvent 4
    else s

end Sys2Proof.Machine
end

