-- ==== Sys2Proof/Machine/Rtc.lean ====
section
/-! DEFINITION. The RTC (R363 to R369): its commands, its shadow registers, shift, alarm and wake, leap seconds, and its
discipline by the firmware. -/

namespace Sys2Proof.Machine

/-- The RTC record of the live counters (R364). -/
def Rtc.record (r : Rtc) (ts : BitVec 64) : RtcRec :=
  { YEAR := BitVec.ofNat 16 r.cal.year, MONTH := BitVec.ofNat 8 r.cal.month, DAY := BitVec.ofNat 8 r.cal.day,
    HOUR := BitVec.ofNat 8 r.cal.hour, MINUTE := BitVec.ofNat 8 r.cal.minute, SECOND := BitVec.ofNat 8 r.cal.second,
    OSF := BitVec.ofNat 1 (bit r.osf), ALARM_FLAG := BitVec.ofNat 1 (bit r.alarmFlag), WAKE_FLAG := BitVec.ofNat 1 (bit r.wakeFlag),
    SHIFT_BUSY := BitVec.ofNat 1 (bit (r.shiftLeft != 0)), LEAP_ARMED := BitVec.ofNat 1 (bit r.leapArmed),
    ALARM_ARMED := BitVec.ofNat 1 (bit r.alarm.isSome), ALARM_LATE := BitVec.ofNat 1 (bit r.alarmLate),
    WAKE_LATE := BitVec.ofNat 1 (bit r.wakeLate), SUBSEC := BitVec.ofNat 16 r.subsec, SHIFT_LEFT := BitVec.ofInt 16 r.shiftLeft,
    WAKE_COUNT := r.wakeCount, LATCH_TS := ts }

/-- The record as a sequence of reads gives it: the shadow's, within 1 ms of its last read, or a new copy (R364). (log 140) -/
def State.rtcShadow (s : State) : RtcRec :=
  match s.tm.rtc.shadow with
  | some r => if s.since s.tm.rtc.shadowAt (ms 1) then s.tm.rtc.record s.ts else r
  | none => s.tm.rtc.record s.ts

/-- The first read of a register copies the record into the shadow; every read keeps it (R364). -/
def execRtcRegisterRead (s : State) : Host.Outcome State Fault Refusal :=
  .next { s with tm.rtc := { s.tm.rtc with shadow := some s.rtcShadow, shadowAt := s.now } }

/-- The shadow is released (R364). -/
def execRtcShadowRelease (s : State) : Host.Outcome State Fault Refusal :=
  .next { s with tm.rtc := { s.tm.rtc with shadow := none } }

/-- TIME_RTC_READ returns one whole record; the read of WAKE_COUNT that ends it releases the shadow (R364). -/
def cmdTimeRtcRead (rq : Request) (s : State) : State :=
  serve Cmd.timeRtcRead rq s fun s => .done { s with tm.rtc := { s.tm.rtc with shadow := none } } s.rtcShadow.toBytes

/-- TIME_RTC_READ (R364). -/
def execTimeRtcRead (rq : Request) (s : State) : Host.Outcome State Fault Refusal := .next (s.command rq cmdTimeRtcRead)

/-- A calendar in a request, laid out as in the RTC record, with its SUBSEC (R364). -/
def calendarAt (rq : Request) (off : Nat) : Calendar × Nat :=
  (⟨rq.u16 off, rq.u8 (off + 2), rq.u8 (off + 3), rq.u8 (off + 4), rq.u8 (off + 5), rq.u8 (off + 6)⟩, rq.u16 (off + 8))

/-- TIME_RTC_SET (R363, R365 to R367). -/
def cmdTimeRtcSet (rq : Request) (s : State) : State :=
  serve Cmd.timeRtcSet rq s fun s =>
    let (c, n) := calendarAt rq 0
    refuseIf (!c.valid n) 0x0B01 0xFFFF (.done (s.withRtc (s.tm.rtc.set c n)) [])

/-- TIME_RTC_SET (R363). -/
def execTimeRtcSet (rq : Request) (s : State) : Host.Outcome State Fault Refusal := .next (s.command rq cmdTimeRtcSet)

/-- TIME_RTC_SHIFT starts a shift (R365). -/
def cmdTimeRtcShift (rq : Request) (s : State) : State :=
  serve Cmd.timeRtcShift rq s fun s =>
    let n := (BitVec.ofNat 16 (rq.u16 0)).toInt
    refuseIf (16384 < n.natAbs) 0x0B01 0xFFFF <|
    refuseIf (s.tm.rtc.shiftLeft != 0) 0x0B03 0xFFFF <| .done { s with tm.rtc := { s.tm.rtc with shiftLeft := n } } []

/-- TIME_RTC_SHIFT (R365). -/
def execTimeRtcShift (rq : Request) (s : State) : Host.Outcome State Fault Refusal := .next (s.command rq cmdTimeRtcShift)

/-- TIME_RTC_ALARM arms or disarms the alarm (R366). -/
def cmdTimeRtcAlarm (rq : Request) (s : State) : State :=
  serve Cmd.timeRtcAlarm rq s fun s =>
    let (c, n) := calendarAt rq 1
    let on : Bool := rq.u8 0 = 1
    refuseIf (1 < rq.u8 0 || (on && !c.valid n)) 0x0B01 0xFFFF <|
    refuseIf (on && rtcCounts c n ≤ s.tm.rtc.counts) 0x0B04 0xFFFF <|
      .done { s with tm.rtc := { s.tm.rtc with alarm := if on then some (c, n) else none } } []

/-- TIME_RTC_ALARM (R366). -/
def execTimeRtcAlarm (rq : Request) (s : State) : Host.Outcome State Fault Refusal := .next (s.command rq cmdTimeRtcAlarm)

/-- TIME_RTC_WAKE arms the periodic wake, its grid from the next 1/64 s on; period 0 disarms it (R367). -/
def cmdTimeRtcWake (rq : Request) (s : State) : State :=
  serve Cmd.timeRtcWake rq s fun s =>
    let p := rq.u32 0
    refuseIf (5529600 < p) 0x0B01 0xFFFF <|
      .done { s with tm.rtc := { s.tm.rtc with wakePeriod := p, wakeNext := (s.tm.rtc.counts + 511) / 512 + p } } []

/-- TIME_RTC_WAKE (R367). -/
def execTimeRtcWake (rq : Request) (s : State) : Host.Outcome State Fault Refusal := .next (s.command rq cmdTimeRtcWake)

/-- The counters of the network status cleared (R370). -/
def NetStat.cleared (x : NetStat) : NetStat := { NetStat.dflt with MAX_HOLDOVER_S := x.MAX_HOLDOVER_S, LAST_STEP_TS := x.LAST_STEP_TS }

/-- TIME_CLEAR clears the RTC flags that bit 0 names and the counters that bit 1 names (R367, R370). -/
def cmdTimeClear (rq : Request) (s : State) : State :=
  serve Cmd.timeClear rq s fun s =>
    let m := rq.u16 0
    let s := if m % 2 = 1 then { s with tm.rtc := { s.tm.rtc with alarmFlag := false, alarmLate := false, wakeFlag := false, wakeLate := false } } else s
    .done (if m / 2 % 2 = 1 then { s with tm.netStat := s.tm.netStat.cleared } else s) []

/-- TIME_CLEAR (R367). -/
def execTimeClear (rq : Request) (s : State) : Host.Outcome State Fault Refusal := .next (s.command rq cmdTimeClear)

/-! ### What the RTC does by itself -/

/-- The ring oscillator has seen no crystal edge for 4 ms (R363). -/
def execRtcOscStop (s : State) : Host.Outcome State Fault Refusal :=
  .next { s with tm.rtc := { s.tm.rtc with osf := true } }

/-- A 1/1024 s boundary with a shift under way (R365): SUBSEC is advanced by one more count, or held for one, and
SHIFT_LEFT moves one step toward 0. What lies between is passed late (R366, R367). -/
def execRtcShiftTick (s : State) : Host.Outcome State Fault Refusal :=
  let r := s.tm.rtc
  .next <|
    if 0 < r.shiftLeft then
      s.withRtc ({ r.advance 1 with shiftLeft := r.shiftLeft - 1 }.passed r.counts (r.counts + 2))
    else if r.shiftLeft < 0 then { s with tm.rtc := { r with hold := true, shiftLeft := r.shiftLeft + 1 } }
    else s

/-- The live time has reached the alarm time (R366). -/
def execRtcAlarmFire (s : State) : Host.Outcome State Fault Refusal :=
  let r := s.tm.rtc
  .next <|
    match r.alarm with
    | some (c, n) => if rtcCounts c n ≤ r.counts then s.withRtc { r with alarm := none, alarmFlag := true } else s
    | none => s

/-- A grid point of the wake is crossed (R367). -/
def execRtcWake (s : State) : Host.Outcome State Fault Refusal :=
  let r := s.tm.rtc
  .next <|
    if r.wakePeriod != 0 && 512 * r.wakeNext ≤ r.counts then
      s.withRtc { r with wakeFlag := true, wakeCount := r.wakeCount + 1, wakeNext := r.gridAfter r.counts }
    else s

/-- The end of the UTC day with a leap second (R368): an armed RTC counts 23:59:60; a deletion is applied as a set to
00:00:00 at the end of 23:59:58, with its new offset. -/
def execRtcLeapSecond (s : State) : Host.Outcome State Fault Refusal :=
  let r := s.tm.rtc
  .next <|
    if r.leapArmed && r.cal.dayEnd then { s with tm.rtc := { r with cal := { r.cal with second := 60 }, subsec := 0 } }
    else if r.leapDel && s.firmwareUp && r.cal.hour == 23 && r.cal.minute == 59 && r.cal.second == 58 then
      { s.withRtc ({ r.set ({ r.cal with second := 59 }.next false) 0 with leapDel := false, osf := r.osf }) with tm.utcOffset := s.tm.utcOffset - 1 }
    else s

/-- Once per second while LOCKED with UTC_VALID the firmware compares the RTC with UTC (R369), and arms what the master
shows of a leap second (R368). -/
def execRtcDiscipline (s : State) : Host.Outcome State Fault Refusal :=
  .next <|
    if s.firmwareUp && s.tm.clk == .locked && s.tm.utcValid then
      let r := s.tm.rtc
      let r := { r with leapArmed := r.leapArmed || s.tm.leap61, leapDel := r.leapDel || s.tm.leap59 }
      let d : Int := (r.counts : Int) * 1000000000 - s.utcNs * 32768
      let s := { s with tm.rtc := r }
      if r.osf = true ∨ 500000000 * 32768 < d.natAbs then { s with tm.rtcSetAt := some (s.utcNs / 1000000000 + 1).toNat }
      else if 2 * 1000000000 < d.natAbs ∧ r.shiftLeft = 0 then
        { s with tm.rtc := { r with shiftLeft := -(roundDiv d 1000000000) } }
      else s
    else s

end Sys2Proof.Machine
end

