-- ==== Sys2Proof/Machine/EnableCheck.lean ====
section
/-! DEFINITION. The consistency check of ENABLE (R449 to R454): its stages in their order, each with the first code that applies and
the instance and item that it concerns. -/

namespace Sys2Proof.Machine

/-- What a stage answers: nothing, or a code with the instance and item of R451. -/
abbrev Finding := Option (Nat × Nat × Nat)

/-- A refusal where a condition holds. -/
def foundIf (c : Bool) (code : Nat) (inst : Nat := 0xFFFF) (item : Nat := 0) : Finding := if c then some (code, inst, item) else none

/-- A refusal that concerns the first number for which a condition holds. -/
def foundAt {n : Nat} (p : Fin n → Bool) (code : Nat) (item : Nat := 0) : Finding := ((idx n).find? p).map fun i => (code, i.val, item)

/-- The first of several findings. -/
def firstOf (l : List Finding) : Finding := l.findSome? id

/-! ### The program that ENABLE starts (R140, R516) -/

/-- A package that is under way when ENABLE comes is discarded (R140): the tasks that it has switched go back to what they were, unless
it is committed to flash. A program with no online change behind it is what its image declares. -/
def State.atEnable (s : State) : State :=
  match s.olc.info, s.olc.before with
  | some p, some (prog, wcets) =>
    if p.toFlash && s.olc.pendingTasks.length < p.tasks.length then s
    else { s with
      tk.prog := prog,
      tk.task := wcets.foldl (fun ts e => upd ts e.1 fun (k : Task) => { k with desc := { k.desc with WCET_US := e.2 } }) s.tk.task }
  | _, _ => if s.olc.running.isNone && !s.olc.mixed then { s with tk.prog := Config.programInfo s.programBytes } else s

/-! ### Stages 1 and 2: the module and its program (R59, R450) -/

/-- Mode, hold-up, heat and energy (R59, R450). -/
def State.checkModule (s : State) : Finding :=
  firstOf [foundIf (s.sys.mode != .stop) 0x0122, foundIf (!s.pow.holdupReady) 0x0121, foundIf (2 < s.heatNow || 1 < s.energyNow) 0x0123]

/-- A signed, valid program image is loaded (R450). -/
def State.checkProgram (s : State) : Finding := foundIf (s.tk.imageLen == 0 || !Config.programVerifies s.programBytes) 0x0224

/-! ### Stage 6: Crucible slots (R181) -/

/-- The slots that jobs use are analysed, and all slots find room in CRUC (R181). (log 105) -/
def State.checkSlots (s : State) : Finding :=
  firstOf
    [foundAt (fun i : Fin 16 => let x := s.cru.slot.get i; x.desc.JOB_TYPE != 0#8 && (x.state != .analysed || x.reloaded)) 0x0206,
     foundIf ((s.gro.desc.get 4).QUOTA_KIB.toNat < (s.cru.slot.toList.map fun x => x.info.SLOT_KIB.toNat).sum + 1024) 0x0206]

/-! ### Who uses what -/

/-- What the program declares of the used tasks. -/
def State.usedDecls (s : State) : List TaskDecl := s.tk.prog.tasks.filter fun d => (s.task d.task).desc.KIND != 0#8

/-- The bytes of IMAGE that used loops read (R158). -/
def State.loopReads (s : State) : List (Nat × Nat) :=
  s.usedLoops.flatMap fun e => [e.2.PV_SRC, e.2.SP_SRC, e.2.FF_SRC, e.2.CTRL_SRC].filterMap fun w =>
    match srcKind w with
    | 1 => some (aioOff (srcArg w % 16), 2)
    | 2 => (s.varOf (BitVec.ofNat 32 (srcArg w))).map fun v => (v.off, v.size.toNat)
    | _ => none

/-- A used task or loop reads one of some bytes of IMAGE. -/
def State.reads (s : State) (off len : Nat) : Bool :=
  (s.usedDecls.any fun d => d.inputs.any fun r => meets r.1 r.2 off len) || s.loopReads.any fun r => meets r.1 r.2 off len

/-- A used task or loop writes one of some bytes of IMAGE. -/
def State.writesAny (s : State) (off len : Nat) : Bool :=
  (s.usedDecls.any fun d => d.outputs.any fun o => meets o.off o.len off len) || s.loopOutputs.any fun r => meets r.1 r.2 off len

/-! ### Stage 7: the safety set and its writers (R241) -/

/-- A channel of a declared safety pair, or RESET_DIO (R241, R276). -/
def SafetySet.usesDio (x : SafetySet) (c : Nat) : Bool :=
  x.RESET_DIO.toNat == c || x.PAIR.toList.any fun p => p.KIND != 0#8 && (p.CH_A.toNat == c || p.CH_B.toNat == c)

/-- A valid signed set, the one that the program was built against, and safety writers (R241). -/
def State.checkSafety (s : State) : Finding :=
  match s.validSet with
  | none => some (0x020F, 0xFFFF, 0)
  | some x =>
    firstOf
      [foundIf (x.CRC != s.tk.prog.safetyCrc) 0x020F,
       (s.usedDecls.find? fun d => !d.island.isEmpty && (s.task d.task).desc.SAFETY == 0#1).map fun d => (0x021F, d.task.val, 0),
       foundAt (fun c : Fin 32 => x.usesDio c.val && (s.dio.desc.get c).MODE == 2#8) 0x021F 0x01]

/-! ### Stage 8: digital, current-loop and motion channels (R276, R294, R321) -/

/-- A channel is misused: an unused one that something uses, or one that is no output and has its command written (R276). -/
def State.dioMisused (s : State) (c : Fin 32) : Bool :=
  let mode := (s.dio.desc.get c).MODE
  (mode == 0#8 && (s.reads (dioOff c.val) 1 || s.safetySet.usesDio c.val
      || s.usedTasks.any fun d => d.KIND == 2#8 && d.TRIG_SRC == 1#8 && d.TRIG_ARG.toNat % 32 == c.val))
    || (mode != 2#8 && s.writesAny (0x180 + c.val) 1)

/-- A channel's partner is not what paired wiring asks for (R261, R276). -/
def State.dioUnpaired (s : State) (c : Fin 32) : Bool :=
  let d := s.dio.desc.get c
  (d.PAIR_PEER == 1#1 && d.PARTNER != 0xFF#8)
    || (d.PAIRED == 1#1
      && (d.MODE == 1#8 || (d.PARTNER == 0xFF#8 && d.PAIR_PEER == 0#1)
        || (d.PARTNER != 0xFF#8
          && (match asFin 32 d.PARTNER.toNat with
            | some p => p == c || (s.dio.desc.get p).PAIRED == 0#1 || (s.dio.desc.get p).PARTNER.toNat != c.val
            | none => true))))

/-- Digital channels (R276). -/
def State.checkDio (s : State) : Finding := firstOf [foundAt s.dioMisused 0x0212 0x01, foundAt s.dioUnpaired 0x0213 0x04]

/-- Current-loop channels (R294). -/
def State.checkAio (s : State) : Finding :=
  firstOf
    [foundAt (fun c : Fin 16 =>
        let mode := (s.aio.get c).desc.MODE
        (mode == 3#8 && !s.writesAny (0x1C0 + 4 * c.val) 4)
          || (mode == 0#8 && (s.reads (aioOff c.val) 8 || s.writesAny (0x1C0 + 4 * c.val) 4))) 0x0214 0x01,
     foundAt (fun c : Fin 16 => (s.aio.get c).desc.PAIR_PEER == 1#1 && (s.aio.get c).desc.MODE != 3#8) 0x0215 0x01]

/-- A channel number names a DIO input. -/
def State.isDioInput (s : State) (c : BitVec 8) : Bool :=
  match asFin 32 c.toNat with
  | some i => (s.dio.desc.get i).MODE == 1#8
  | none => false

/-- An axis is misused (R321). -/
def State.axisMisused (s : State) (n : Fin 8) : Bool :=
  let d := (s.mot.axis.get n).desc
  if d.USED == 0#1 then
    s.writesAny (0x200 + 16 * n.val) 16 || s.writesAny (0x380 + 16 * n.val) 16
      || s.usedLoops.any fun e => srcKind e.2.OUT_DST == 2 && srcArg e.2.OUT_DST % 8 == n.val
  else
    ([d.LIM_POS_DIO, d.LIM_NEG_DIO, d.HOME_DIO].any fun c => c != 0xFF#8 && !s.isDioInput c)
      || (d.HOME_METHOD == 3#8
        && (match asFin 8 d.HOME_ENC.toNat with
          | some k => (s.mot.enc.get k).desc.MODE == 0#8
          | none => true))
      || ((d.HOME_METHOD == 1#8 || d.HOME_METHOD == 3#8) && d.HOME_DIO == 0xFF#8)
      || 3 * d.PULSE_MAX_HZ.toNat * (if d.RES_MODE == 0#8 then 256 else finePer d.RES_CODE.toNat) < 4 * d.VEL_MAX.toNat
      || 1000000000 < (d.STEP_HIGH_NS.toNat + 40) * d.PULSE_MAX_HZ.toNat

/-- Motion (R321). -/
def State.checkMotion (s : State) : Finding := foundAt s.axisMisused 0x0216

/-! ### Stage 9: CAN, network, time and panel (R340, R352, R371, R435) -/

/-- Objects of a controller that are used. -/
def State.objectsOf (s : State) (c : Fin 4) : List CanObject := s.can.objects.filter fun o => o.DIR != 0#8 && o.CTRL_ID.toNat == c.val

/-- Bit timing, and frames that the controller cannot send (R323, R340): bit times in units of 1/80 MHz. -/
def State.canTimingBad (s : State) (c : Fin 4) : Bool :=
  let d := (s.can.ctrl.get c).desc
  let n := (1 + d.NTSEG1.toNat + d.NTSEG2.toNat) * d.NBRP.toNat
  let q := (1 + d.DTSEG1.toNat + d.DTSEG2.toNat) * d.DBRP.toNat
  n < 80 || 4000 < n || n < q || q < 10 || (d.BRS_EN == 1#1 && d.FD_EN == 0#1)
    || (d.FD_EN == 0#1 && (s.objectsOf c).any fun o => o.FDF == 1#1)

/-- Two objects of a list share identifier and IDE. -/
def idsClash : List CanObject → Bool
  | [] => false
  | o :: r => (r.any fun p => sameId p.ID o.ID) || idsClash r

/-- Identifiers of a controller's objects, and their writers (R327, R340). -/
def State.canIdsBad (s : State) (c : Fin 4) : Bool :=
  let d := (s.can.ctrl.get c).desc
  let tx := (s.objectsOf c).filter fun o => o.DIR == 2#8
  idsClash (s.objectsOf c) || (d.TIME_ROLE == 1#8 && tx.any fun o => sameId o.ID d.REF_ID)
    || tx.any fun o => !s.usedDecls.any fun t => t.outputs.any fun u => u.canObj == some (c, o.OBJ_NO)

/-- CAN (R340). (log 157) -/
def State.checkCan (s : State) : Finding := firstOf [foundAt s.canTimingBad 0x0217, foundAt s.canIdsBad 0x0218]

/-- The network and PTP descriptors agree (R352). -/
def State.checkNet (s : State) : Finding :=
  let n := s.tm.netDesc
  let p := s.tm.ptpDesc
  let auto := n.SPEED_A == 0#8 || (n.NET_MODE != 2#8 && n.SPEED_B == 0#8)
  foundIf ((p.PTP_MODE != 0#8 && auto) || (n.NET_MODE == 1#8 && (p.DELAY_MECH == 0#8 || n.SPEED_A != n.SPEED_B))
    || (p.TC_EN == 1#1 && n.NET_MODE != 1#8)) 0x0219

/-- A contact that the carrier declaration marks absent (R450). -/
def State.absent (s : State) (bit : Nat) : Bool := s.tk.prog.absent.getLsbD bit

/-- Compare units and TPO outputs (R371). (log 157) -/
def State.checkTime (s : State) : Finding :=
  firstOf
    [(s.usedTasks.find? fun d => d.KIND == 2#8 && d.TRIG_SRC == 3#8
        && (s.tm.cmp.get ⟨d.TRIG_ARG.toNat % 8, by omega⟩).desc.MODE == 0#8).map fun d => (0x021A, d.TASK_ID.toNat, 0),
     foundAt (fun k : Fin 4 => (s.tm.cmp.get ⟨k.val, by omega⟩).desc.OUT_EN == 1#1 && s.absent (20 + k.val)) 0x021A]

/-- The zones end one below the other, unused ones last, the last used one at HEIGHT (R433, R435). -/
def zonesAscend (height : Nat) : Nat → List Nat → Bool
  | last, [] => last == height
  | last, e :: r => if e = 0 then last == height && r.all (· == 0) else last < e && zonesAscend height e r

/-- The panel is configured: some of its waveform set has been loaded (R450). (log 151) -/
def State.panelUsed (s : State) : Bool := s.pnl.wavesTo != 0

/-- The panel (R435): a carrier without one, and with nothing loaded for one, needs no waveforms. (log 151) -/
def State.checkPanel (s : State) : Finding :=
  let d := s.pnl.desc
  foundIf ((!s.pnl.wavesOk && (s.panelUsed || !s.absent 26)) || !zonesAscend d.HEIGHT.toNat 0 (d.ZONE_END.toList.map BitVec.toNat)) 0x0222

/-! ### Stage 10: the carrier's pin use (R450) -/

/-- Nothing is configured whose contacts the carrier declaration marks absent. (log 157) -/
def State.checkPins (s : State) : Finding :=
  firstOf
    [foundAt (fun c : Fin 4 => (s.can.ctrl.get c).desc.MODE != 0#8 && s.absent c.val) 0x0223,
     foundAt (fun n : Fin 8 => (s.mot.axis.get n).desc.USED == 1#1 && s.absent (4 + n.val)) 0x0223,
     foundAt (fun k : Fin 8 => (s.mot.enc.get k).desc.MODE != 0#8 && s.absent (12 + k.val)) 0x0223,
     foundAt (fun k : Fin 4 => (s.tm.cmp.get ⟨k.val, by omega⟩).desc.OUT_EN == 1#1 && s.absent (20 + k.val)) 0x0223,
     foundAt (fun k : Fin 2 => (s.tm.tci.get k).desc.EDGE_SEL != 0#8 && s.absent (24 + k.val)) 0x0223,
     foundIf (s.panelUsed && s.absent 26) 0x0223]

/-! ### Stage 11: a warm restart (R454) -/

/-- A warm restart finds one program, and RETAIN whole and written under its layout (R454). (log 157) -/
def State.checkWarm (s : State) : Finding :=
  firstOf
    [foundIf s.keepsMixed 0x0410,
     foundIf (s.gro.retainBad || (match s.sys.retainLayout with | some d => d != s.tk.prog.retainLayout | none => false)) 0x0124]

/-! ### Stage 12: the pair (R375, R403) -/

/-- The peer's configuration is that of the other module of one pair (R403). (log 142) -/
def State.checkPeer (s : State) (p : PeerConfig) : Finding :=
  let me := s.configReport
  let d := s.pr.desc
  let a := me.addr.toNat
  firstOf
    [foundIf (a % 2 != bit me.pos || p.addr.toNat != a - a % 2 + (1 - a % 2) || p.pos == me.pos || d.WITNESS_ADDR.toNat / 2 == a / 2) 0x021D,
     foundIf (p.firmware != me.firmware || p.program != me.program || p.descriptors != me.descriptors || p.setCrc != me.setCrc
       || p.pairDesc != me.pairDesc) 0x021E,
     foundIf (600000000 < Config.linkLoad s.tk.prog (s.tk.task.map fun k => k.desc) (s.lp.loop.map fun l => l.desc)) 0x0220,
     foundIf (d.WITNESS_TIMEOUT_US.toNat < d.WITNESS_SILENT_US.toNat + 500) 0x0221]

/-- The module is set up as one of a pair (R405). -/
def State.toPair (s : State) : Bool := s.pr.desc.PAIR_MODE == 1#8

/-- A paired module (R375, R450): no ENABLE on a silent link with PEER_OK_IN high; with the link up the pair check.
(log 142) -/
def State.checkPair (s : State) : Finding :=
  if !s.toPair then none
  else if s.pairSilent then foundIf s.pr.peerOkIn 0x0C04
  else match s.pr.peerCfg with
    | some p => s.checkPeer p
    | none => some (0x0C04, 0xFFFF, 0)

/-! ### The whole check (R450) -/

/-- The stages in their order, on the program that ENABLE would start (R450). (log 157) -/
def State.enableCheck (s : State) (cold : Bool) : Finding :=
  let s := s.atEnable
  firstOf
    [s.checkModule, s.checkProgram, chamberCheck s.gro.desc s.toPair s.tk.prog.taskBytes, s.taskCheck s.loopOutputs, s.loopCheck,
     s.checkSlots, s.checkSafety, s.checkDio, s.checkAio, s.checkMotion, s.checkCan, s.checkNet, s.checkTime, s.checkPanel, s.checkPins,
     if cold then none else s.checkWarm, s.checkPair]

end Sys2Proof.Machine
end

