-- ==== Sys2Proof/Machine/Start.lean ====
section
/-! DEFINITION. From ENABLE to RUN and back (R374, R375, R448 to R455, R463): the requests, the end of the check, the initialisation
in its order, the wait for the peer, entry to RUN, and the stop. -/

namespace Sys2Proof.Machine

/-! ### Requests (R449, R455, R463) -/

/-- A check runs, or an accepted ENABLE is on its way to RUN (R449). -/
def State.enabling (s : State) : Bool := s.sys.check.isSome || s.sys.starting.isSome

/-- SYS_ENABLE starts the check; a second one meanwhile is refused (R449). (log 156) -/
def cmdSysEnable (rq : Request) (s : State) : State :=
  serve Cmd.sysEnable rq s fun s =>
    refuseIf s.enabling 0x0128 0xFFFF (.later { s with sys.check := some ⟨.command rq, rq.u8 0 == 1⟩ })

/-- SYS_ENABLE (R449). -/
def execSysEnable (rq : Request) (s : State) : Host.Outcome State Fault Refusal := .next (s.command rq cmdSysEnable)

/-- RUN_EN changes from 0 to 1 (R463): a warm ENABLE; ignored during a check. (log 156) -/
def execRunEnSet (s : State) : Host.Outcome State Fault Refusal :=
  .next <|
    if s.host.runEn || s.enabling || !s.serves 0 || (s.sys.mode != .stop && s.sys.mode != .minimal) then s
    else { s with host.runEn := true, sys.check := some ⟨.runEn, false⟩ }

/-- The automatic ENABLE of a boot that ends in STOP (R455). -/
def execAutoStart (s : State) : Host.Outcome State Fault Refusal :=
  .next <|
    if s.sys.mode == .stop && s.firmwareUp && !s.sys.autoDone && !s.enabling then
      let s := { s with sys.autoDone := true }
      let ran := s.sys.bootLastMode == 4#8
      match s.sys.startAct.START_MODE.toNat with
      | 1 => if ran then { s with sys.check := some ⟨.automatic, false⟩ } else s
      | 2 => { s with sys.check := some ⟨.automatic, false⟩ }
      | 3 => if ran then { s with sys.check := some ⟨.automatic, true⟩ } else s
      | _ => s
    else s

/-! ### The stop (R448) -/

/-- A stop of RUN is asked for (R448): the owner of a pair with a STANDBY peer first hands the station over. (log 159) -/
def State.stopRequest (s : State) (noYield : Bool) : State :=
  if !noYield && s.paired && s.pr.role.owns && !s.pairSilent && s.peerRole == .standby then
    { s.pairSend .yield with pr.yielding := true, pr.stopAfter := true }
  else s.stopRun

/-- SYS_STOP (R448). -/
def cmdSysStop (rq : Request) (s : State) : State :=
  serve Cmd.sysStop rq s fun s => .done (s.stopRequest ((rq.u8 0).testBit 0)) []

/-- SYS_STOP (R448). -/
def execSysStop (rq : Request) (s : State) : Host.Outcome State Fault Refusal := .next (s.command rq cmdSysStop)

/-- RUN_EN changes from 1 to 0 (R463): in RUN the module stops; ignored during a check. (log 156) -/
def execRunEnClear (s : State) : Host.Outcome State Fault Refusal :=
  .next <|
    if !s.host.runEn || s.enabling || !s.serves 0 then s
    else
      let s := { s with host.runEn := false }
      if s.sys.mode == .run then s.stopRequest false else s

/-! ### The role at ENABLE (R375) -/

/-- The role that a paired module with a running link takes (R375). -/
def State.roleNow (s : State) : Role := if s.peerRole.owns || s.sys.straps.pairPos then .syncing else .active

/-- The module takes its role; a SYNCING one is to be filled (R374, R375, R397). -/
def State.takeRole (s : State) : State :=
  let r := s.roleNow
  let s := if r == .syncing then
      { s with
        pr.sync := some .retain, pr.markersSeen := [], pr.sigClean := false,
        pr.stat := { s.pr.stat with RETAIN_SYNCED := 0#1, SYNC_PCT := 0#8 } }
    else { s with pr.sync := none }
  s.setRole r

/-- A paired module takes its role, or waits for its peer; an unpaired one has none (R374, R375). (log 142) -/
def State.meetPeer (s : State) : State :=
  let s := { s with pr.startWait := none, pr.witnessAt := none, pr.witnessAsk := none, pr.held := [], pr.outBlocks := [], pr.latchAges := [],
                    pr.mirLoops := [], pr.mirAxes := [], pr.mirIsland := none, pr.releaseDo := [], pr.releaseSo := 0#4, pr.xfade := [] }
  if !s.paired then { s with pr.sync := none }.setRole .none
  else if s.pairSilent then { s with pr.startWait := some s.now, pr.sync := none }.setRole .none
  else s.takeRole

/-! ### Initialisation (R452, R453) -/

/-- Pending descriptors take effect, and the chambers are placed (R43, R452). -/
def State.applyDescriptors (s : State) : State :=
  { s with
    gro.act := placeChambers s.gro.desc, pow.act := s.pow.desc, dio.act := s.dio.desc,
    aio := s.aio.map fun a => { a with act := a.desc, mramMode := a.desc.MODE },
    tm.netAct := s.tm.netDesc, tm.netAt := some s.now, tm.forwarding := s.tm.netDesc.NET_MODE == 1#8, tm.ptpAct := s.tm.ptpDesc,
    pr.act := s.pr.desc, flow.act := s.flow.desc, pnl.act := s.pnl.desc }

/-- The initial values that the program image gives a chamber, over what a memory holds. -/
def ProgInfo.initialOf (p : ProgInfo) (c : Fin 11) (m : Memory) : Memory :=
  (p.initial.filter fun e => e.1 == c).foldl (fun m e => m.write e.2.1 e.2.2) m

/-- Warm (R37, R452): the working copy of RETAIN is loaded from the MRAM copy, but for blocks that MRAM cannot give. -/
def Grotto.warm (g : Grotto) : Grotto :=
  let g := g.drainAll
  { g with
    backpressure := false,
    mem := put g.mem 2 (g.retainMramBad.foldl (fun m b => m.write (32 * b) ((g.mem.get 2).read (32 * b) 32)) g.retainMram) }

/-- Cold (R452): the initial values of the program image in both copies of RETAIN. -/
def Grotto.cold (g : Grotto) (p : ProgInfo) : Grotto :=
  let m := p.initialOf 2 []
  { g.drainAll with
    backpressure := false, mem := put g.mem 2 m, retainMram := m, retainMramBad := [], retainBad := false,
    poison := g.poison.filter fun e => e.1 != 2 }

/-- A force is cleared: IMAGE takes its underlying value (R142, R144). -/
def State.clearForce (s : State) (f : ForceEntry) : State :=
  match s.varOf f.HANDLE with
  | some v => s.putForced v.off f.SIZE.toNat f.UNDERLYING.toNat false
  | none => s

/-- Every force is cleared, with a NOTICE record of their number (R144). (log 87) -/
def State.clearForces (s : State) : State :=
  let n := s.olc.forces.length
  (((s.olc.forces.foldl State.clearForce s).setForces [])).record { sev := 2, code := 0x0480, payload := evData n 0 (4 * 2 ^ 32) }

/-- Task data and the outputs in IMAGE take their initial values (R452, R453). -/
def State.initialData (s : State) : State :=
  let p := s.tk.prog
  let outs := declaredOutputs p
  let img := p.initialOf 0 (outs.foldl (fun m e => m.write e.2.off (List.replicate e.2.len 0#8)) s.img)
  { s with
    gro.mem := put (put s.gro.mem 1 (p.initialOf 1 [])) 0 img,
    gro.imgMeta := s.gro.imgMeta.filter fun e => !outs.any fun o => o.2.off == e.1 }

/-- A task's context is new; its counters stand (R103, R452). -/
def Task.fresh (k : Task) : Task :=
  { Task.init with
    desc := k.desc,
    stat := { k.stat with
      DEBUG_HALT := 0#1, HELD := 0#1, STRETCHED := 0#1, OVERRUN := 0#1, ABANDONED := 0#1, FAULT := 0#1, MEMFAULT := 0#1,
      UNDELIVERED := 0#1 } }

/-- Lanes are unsplit and LANE_FAULT is cleared, no window of mismatches runs, and no breakpoint stands (R124, R130, R452). -/
def Debug.fresh (d : Debug) : Debug :=
  { lane := d.lane.map fun l => { stat := { l.stat with SPLIT := 0#1, SPLIT_PENDING := 0#1, JOIN_PENDING := 0#1, LANE_FAULT := 0#1, SPLIT_COUNT := 0#32 } },
    temper := d.temper.map fun t => { stat := { t.stat with UNDO_OVERFLOW := 0#1 }, cycles := 0, lastMismatch := none },
    brk := Vector.replicate 16 BreakEntry.dflt, jtag := [], retainWrites := [] }

/-- The change package is cleared (R140, R453): a mixed program that a cold restart starts keeps what has switched. (log 91) -/
def State.clearPackage (s : State) : State :=
  let running := if s.keepsMixed then some s.runningDigest else s.olc.running
  { s with olc := { s.olc with
      stat := if s.olc.stat.STATE == 3#8 then s.olc.stat else ChangeStat.dflt, pkg := [], info := none, pendingTasks := [], before := none,
      running := running, mixed := false } }

/-- An axis starts DISABLED at position 0, which is uncertain (R315). -/
def Axis.fresh (x : Axis) : Axis :=
  { Axis.init with
    desc := x.desc, count := x.count, resCode := x.desc.RES_CODE.setWidth 3,
    stat := { AxisStat.dflt with POSITION_UNCERTAIN := 1#1, DRIVE_LINK_FAULT := x.stat.DRIVE_LINK_FAULT } }

/-- The configuration as it is stored (R37, R439). (log 105) -/
def State.configNow (s : State) : StoredCfg :=
  { chambers := s.gro.act, power := s.pow.desc, tasks := s.tk.task.map fun k => k.desc, remotes := s.tk.remotes.map fun r => r.desc,
    image := s.tk.image, imageLen := s.tk.imageLen, prog := s.tk.prog, running := s.olc.running,
    loops := s.lp.loop.map fun l => l.desc, banks := s.lp.loop.map fun l => (l.bankA, l.bankB),
    slots := s.cru.slot.map fun x => x.desc, qps := s.cru.slot.map fun x => x.qp, patterns := s.cru.slot.map fun x => (x.pattern, x.patternLen),
    analyses := s.cru.slot.map fun x => (x.state, x.info, x.qpInfo), dio := s.dio.desc, aio := s.aio.map fun a => a.desc,
    axes := s.mot.axis.map fun x => x.desc, encs := s.mot.enc.map fun x => x.desc, cans := s.can.ctrl.map fun x => x.desc,
    filters := s.can.ctrl.map fun x => x.filters, objects := s.can.objects, ptp := s.tm.ptpDesc, cmps := s.tm.cmp.map fun x => x.desc,
    tcis := s.tm.tci.map fun x => x.desc, pair := s.pr.desc, panel := s.pnl.desc, waves := s.pnl.waves, wavesOk := s.pnl.wavesOk }

/-- What a module that owns its content, unlike a SYNCING one, initialises (R388, R397, R452): RETAIN, forces, task data. -/
def State.initContent (s : State) (cold : Bool) : State :=
  let s := { s with gro := if cold then s.gro.cold s.tk.prog else s.gro.warm }
  s.clearForces.initialData

/-- The initialisation of an accepted ENABLE, in the order of R452, up to the QL tests; `qlOk` names the lines whose kill was reported
(R218). The restart discards the pending safety set (R239). (log 113, 147, 158) -/
def State.initialise (s : State) (c : Check) (cold : Bool) (qlOk : BitVec 8) : State :=
  let s := s.applyDescriptors.meetPeer
  let s := if s.pr.role == .syncing then s else s.initContent cold
  let s := s.clearPackage
  let s := { s with
    tk.task := s.tk.task.map Task.fresh, tk.laneTask := Vector.replicate 8 none, dbg := s.dbg.fresh,
    lp.loop := s.lp.loop.map Loop.start, mot.axis := s.mot.axis.map Axis.fresh,
    sys.retainLayout := some s.tk.prog.retainLayout, sys.configured := true, isl.pending := none }
  let s := s.renewSlots
  { s with
    sys.stored := some s.configNow, sys.starting := some c, sys.t0 := (s.now / ms 1 + 1) * ms 1 }.testLines qlOk

/-! ### The end of the check (R449 to R451) -/

/-- The reply to ENABLE after its reason code (R451). (log 156) -/
def enableBody (code inst item : Nat) : List Byte := leBytes 2 code ++ leBytes 2 inst ++ leBytes 4 item

/-- SOURCE of HPW_REASON for an ENABLE: 1, or 4 of an automatic start (R462). -/
def Check.source (c : Check) : Nat :=
  match c.by_ with
  | .automatic => 4
  | .command _ | .runEn => 1

/-- The record of a refused ENABLE that no command asked for: a NOTICE with the host port's session, an ALARM of an automatic start (R455,
R521). (log 148) -/
def State.noteEnable (s : State) (sev session code inst item : Nat) : State :=
  s.record { sev := sev, code := code, inst := if inst == 0xFFFF then 0xFF else inst % 256, session := session,
             payload := leBytes 2 0 ++ leBytes 2 0 ++ leBytes 2 inst ++ [0#8, 0#8] ++ leBytes 4 item }

/-- The check refuses (R450, R451, R455, R463): HPW_REASON, the reply or the record, and RUN_EN cleared. (log 156) -/
def State.enableRefused (s : State) (c : Check) (code inst item : Nat) : State :=
  let s := ({ s with sys.check := none }.setReason c.source code).clearRunEn
  let s := if code == 0x0C04 && s.pairSilent then { s with pr.stat := { s.pr.stat with PATH_FAULT := 1#1 } } else s
  match c.by_ with
  | .command rq => (s.noteRefusal Cmd.sysEnable rq code inst item).reply Cmd.sysEnable rq code (enableBody code inst item)
  | .runEn => s.noteEnable 2 0 code inst item
  | .automatic => s.noteEnable 4 0xFF code inst item

/-- The restart of an ENABLE is cold: as asked, but for a module whose owner was lost while it was SYNCING (R398). (log 147) -/
def State.restartCold (s : State) (c : Check) : Bool :=
  if s.toPair && s.pr.role == .syncing then s.pr.stat.RETAIN_SYNCED == 0#1 else c.cold

/-- ENABLE is accepted (R451, R452): HPW_REASON 0, its reply, and the initialisation. -/
def State.enableAccepted (s : State) (c : Check) (qlOk : BitVec 8) : State :=
  let cold := s.restartCold c
  let s := { s with sys.check := none }.setReason c.source 0
  let s := match c.by_ with
    | .command rq => s.reply Cmd.sysEnable rq 0 (enableBody 0 0xFFFF 0)
    | .runEn | .automatic => s
  s.atEnable.initialise c cold qlOk

/-- ENABLE_CHECK_COMPLETE (R449 to R452). -/
def execEnableCheckComplete (qlOk : BitVec 8) (s : State) : Host.Outcome State Fault Refusal :=
  .next <|
    match s.sys.check with
    | some c =>
      if s.firmwareUp then
        match s.enableCheck (s.restartCold c) with
        | some (code, inst, item) => s.enableRefused c code inst item
        | none => s.enableAccepted c qlOk
      else s
    | none => s

/-! ### The wait for the peer (R375) -/

/-- START_WAIT_EXPIRE (R375, R383): the link has stayed silent and PEER_OK_IN low; the module becomes ALONE, or asks its witness. -/
def execStartWaitExpire (s : State) : Host.Outcome State Fault Refusal :=
  .next <|
    if s.ran s.pr.startWait (ms s.pr.act.START_WAIT_MS.toNat) && s.peerGone then
      if s.pr.act.WITNESS_EN == 1#1 then (if s.pr.witnessAsk.isSome then s else s.askWitness)
      else { s.setRole .alone with pr.startWait := none }
    else s

/-- The peer has answered during the wait: the pair check, and the role; or no entry to RUN (R375, R403). (log 147) -/
def State.peerCame (s : State) : State :=
  if s.pr.startWait.isSome && !s.pairSilent then
    match s.checkPair with
    | some (code, _, _) => s.notReady.setReason 1 code
    | none => { s with pr.startWait := none, pr.witnessAt := none, pr.witnessAsk := none }.takeRole
  else s

/-! ### Entry to RUN (R452) -/

/-- RUN from T0 (R234, R282, R332, R388, R443, R452, R463): RUN_EN is set, CLEAN cleared, and every target killed. (log 159) -/
def State.enterRun (s : State) : State :=
  let s := { s with
    sys.starting := none, sys.t0 := s.now, sys.runAt := s.now, sys.clean := false, host.runEn := true,
    aio := s.aio.map (fun (a : Aio) => { a with trimPoint := 0#8, trimNew := false }), pr.lastSwapAt := s.now,
    pr.stat := { s.pr.stat with NEXT_SWAP_TS := s.ts + BitVec.ofNat 64 (60000000000 * s.pr.act.SWAP_PERIOD_MIN.toNat) } }
  ((s.setMode .run).canStart.killForRun).evalMatrix

/-- RUN_ENTRY (R452): at T0, or at the whole millisecond of the raw counter after the role is taken. (log 144, 158) -/
def execRunEntry (s : State) : Host.Outcome State Fault Refusal :=
  .next <|
    if s.sys.starting.isSome && s.firmwareUp && s.sys.mode == .stop && s.sys.t0 ≤ s.now && s.now % ms 1 == 0 then
      let s := s.peerCame
      if s.sys.starting.isSome && s.pr.startWait.isNone then s.enterRun else s
    else s

end Sys2Proof.Machine
end

