-- ==== Sys2Proof/Machine/Mailbox.lean ====
section
/-! DEFINITION. Messages on their way to the supervisor (R465 to R477): the doorbell, application mailboxes, session messages, and the
order in which commands are taken. -/

namespace Sys2Proof.Machine

/-! ### The commands of the catalogue (R512) -/

/-- The system commands and their meanings. -/
def systemServed : List (CmdInfo × (Request → State → State)) :=
  [(Cmd.sysEnable, cmdSysEnable), (Cmd.sysStop, cmdSysStop), (Cmd.sysRestart, cmdSysRestart),
   (Cmd.sysBootInfo, cmdSysBootInfo), (Cmd.sysStartSet, cmdSysStartSet), (Cmd.sysStartGet, cmdSysStartGet),
   (Cmd.sysFwLoad, cmdSysFwLoad), (Cmd.sysFwActivate, cmdSysFwActivate), (Cmd.sysSessionList, cmdSysSessionList),
   (Cmd.sysSessionClose, cmdSysSessionClose), (Cmd.sysTrustSet, cmdSysTrustSet), (Cmd.sysTrustGet, cmdSysTrustGet),
   (Cmd.sysSessSet, cmdSysSessSet), (Cmd.sysSessGet, cmdSysSessGet)]

/-- The configuration commands and their meanings. -/
def configurationServed : List (CmdInfo × (Request → State → State)) :=
  [(Cmd.cfgChamberSet, cmdCfgChamberSet), (Cmd.cfgChamberGet, cmdCfgChamberGet), (Cmd.cfgPowerSet, cmdCfgPowerSet),
   (Cmd.cfgPowerGet, cmdCfgPowerGet), (Cmd.cfgNetSet, cmdCfgNetSet), (Cmd.cfgNetGet, cmdCfgNetGet)]

/-- The program commands and their meanings. -/
def programServed : List (CmdInfo × (Request → State → State)) :=
  [(Cmd.prgTaskSet, cmdPrgTaskSet), (Cmd.prgTaskGet, cmdPrgTaskGet), (Cmd.prgTaskStatus, cmdPrgTaskStatus),
   (Cmd.prgTaskResume, cmdPrgTaskResume), (Cmd.prgTaskClear, cmdPrgTaskClear), (Cmd.prgRemoteSet, cmdPrgRemoteSet),
   (Cmd.prgRemoteStatus, cmdPrgRemoteStatus), (Cmd.prgLaneSplit, cmdPrgLaneSplit), (Cmd.prgLaneJoin, cmdPrgLaneJoin),
   (Cmd.prgLaneStatus, cmdPrgLaneStatus), (Cmd.prgTemperStatus, cmdPrgTemperStatus),
   (Cmd.prgTemperClear, cmdPrgTemperClear), (Cmd.prgImageLoad, cmdPrgImageLoad), (Cmd.prgImageInfo, cmdPrgImageInfo),
   (Cmd.prgVarRead, cmdPrgVarRead), (Cmd.prgVarWrite, cmdPrgVarWrite), (Cmd.prgBreakSet, cmdPrgBreakSet),
   (Cmd.prgBreakClear, cmdPrgBreakClear), (Cmd.prgBreakRelease, cmdPrgBreakRelease), (Cmd.prgStep, cmdPrgStep),
   (Cmd.prgBreakStatus, cmdPrgBreakStatus)]

/-- The change commands and their meanings. -/
def changeServed : List (CmdInfo × (Request → State → State)) :=
  [(Cmd.olcLoad, cmdOlcLoad), (Cmd.olcActivate, cmdOlcActivate), (Cmd.olcAbort, cmdOlcAbort), (Cmd.olcStatus, cmdOlcStatus),
   (Cmd.olcForceSet, cmdOlcForceSet), (Cmd.olcForceRelease, cmdOlcForceRelease),
   (Cmd.olcForceReleaseAll, cmdOlcForceReleaseAll), (Cmd.olcForceList, cmdOlcForceList)]

/-- The loop commands and their meanings. -/
def loopServed : List (CmdInfo × (Request → State → State)) :=
  [(Cmd.loopSet, cmdLoopSet), (Cmd.loopGet, cmdLoopGet), (Cmd.loopSwapBank, cmdLoopSwapBank),
   (Cmd.loopBankWrite, cmdLoopBankWrite), (Cmd.loopBankRead, cmdLoopBankRead), (Cmd.loopMode, cmdLoopMode),
   (Cmd.loopResetTrip, cmdLoopResetTrip), (Cmd.loopStatus, cmdLoopStatus), (Cmd.loopClear, cmdLoopClear),
   (Cmd.loopEngineStatus, cmdLoopEngineStatus)]

/-- The crucible commands and their meanings. -/
def crucibleServed : List (CmdInfo × (Request → State → State)) :=
  [(Cmd.cruSlotSet, cmdCruSlotSet), (Cmd.cruSlotGet, cmdCruSlotGet), (Cmd.cruPatternLoad, cmdCruPatternLoad),
   (Cmd.cruAnalyse, cmdCruAnalyse), (Cmd.cruSlotInfo, cmdCruSlotInfo), (Cmd.cruJobSubmit, cmdCruJobSubmit),
   (Cmd.cruResultRead, cmdCruResultRead), (Cmd.cruStatus, cmdCruStatus), (Cmd.cruClear, cmdCruClear),
   (Cmd.cruQpSet, cmdCruQpSet), (Cmd.cruQpGet, cmdCruQpGet), (Cmd.cruQpInfo, cmdCruQpInfo),
   (Cmd.cruInputWrite, cmdCruInputWrite)]

/-- The field commands and their meanings. -/
def fieldServed : List (CmdInfo × (Request → State → State)) :=
  [(Cmd.fioDioSet, cmdFioDioSet), (Cmd.fioDioGet, cmdFioDioGet), (Cmd.fioDioStatus, cmdFioDioStatus),
   (Cmd.fioGroupStatus, cmdFioGroupStatus), (Cmd.fioGroupReset, cmdFioGroupReset), (Cmd.fioDioUnlatch, cmdFioDioUnlatch),
   (Cmd.fioDioClear, cmdFioDioClear), (Cmd.fioAioSet, cmdFioAioSet), (Cmd.fioAioGet, cmdFioAioGet),
   (Cmd.fioAioStatus, cmdFioAioStatus), (Cmd.fioAioTrimSet, cmdFioAioTrimSet), (Cmd.fioAioTrimGet, cmdFioAioTrimGet),
   (Cmd.fioAioTrimDrive, cmdFioAioTrimDrive), (Cmd.fioAioTrimRemove, cmdFioAioTrimRemove),
   (Cmd.fioAioClear, cmdFioAioClear)]

/-- The safety commands and their meanings. -/
def safetyServed : List (CmdInfo × (Request → State → State)) :=
  [(Cmd.safeParamLoad, cmdSafeParamLoad), (Cmd.safeParamRead, cmdSafeParamRead), (Cmd.safeSignOff, cmdSafeSignOff),
   (Cmd.safeStatus, cmdSafeStatus), (Cmd.safeReset, cmdSafeReset), (Cmd.safeBrakeTest, cmdSafeBrakeTest),
   (Cmd.safeClear, cmdSafeClear)]

/-- The motion commands and their meanings. -/
def motionServed : List (CmdInfo × (Request → State → State)) :=
  [(Cmd.motAxisSet, cmdMotAxisSet), (Cmd.motAxisGet, cmdMotAxisGet), (Cmd.motEncSet, cmdMotEncSet),
   (Cmd.motEncGet, cmdMotEncGet), (Cmd.motTableLoad, cmdMotTableLoad), (Cmd.motTableRead, cmdMotTableRead),
   (Cmd.motStatus, cmdMotStatus), (Cmd.motClear, cmdMotClear)]

/-- The CAN commands and their meanings. -/
def canServed : List (CmdInfo × (Request → State → State)) :=
  [(Cmd.canCtrlSet, cmdCanCtrlSet), (Cmd.canCtrlGet, cmdCanCtrlGet), (Cmd.canFilterSet, cmdCanFilterSet),
   (Cmd.canObjectSet, cmdCanObjectSet), (Cmd.canRecover, cmdCanRecover), (Cmd.canStatus, cmdCanStatus),
   (Cmd.canTxOnce, cmdCanTxOnce), (Cmd.canClear, cmdCanClear)]

/-- The time commands and their meanings. -/
def timeServed : List (CmdInfo × (Request → State → State)) :=
  [(Cmd.timePtpSet, cmdTimePtpSet), (Cmd.timePtpGet, cmdTimePtpGet), (Cmd.timeStatus, cmdTimeStatus),
   (Cmd.timeCmpSet, cmdTimeCmpSet), (Cmd.timeCmpGet, cmdTimeCmpGet), (Cmd.timeTciSet, cmdTimeTciSet),
   (Cmd.timeRtcRead, cmdTimeRtcRead), (Cmd.timeRtcSet, cmdTimeRtcSet), (Cmd.timeRtcShift, cmdTimeRtcShift),
   (Cmd.timeRtcAlarm, cmdTimeRtcAlarm), (Cmd.timeRtcWake, cmdTimeRtcWake), (Cmd.timeClear, cmdTimeClear)]

/-- The pair commands and their meanings. -/
def pairServed : List (CmdInfo × (Request → State → State)) :=
  [(Cmd.pairSet, cmdPairSet), (Cmd.pairGet, cmdPairGet), (Cmd.pairStatus, cmdPairStatus), (Cmd.pairSwap, cmdPairSwap),
   (Cmd.pairReadmit, cmdPairReadmit), (Cmd.pairClear, cmdPairClear)]

/-- The recorder commands and their meanings. -/
def recorderServed : List (CmdInfo × (Request → State → State)) :=
  [(Cmd.flowSet, cmdFlowSet), (Cmd.flowGet, cmdFlowGet), (Cmd.flowFlush, cmdFlowFlush), (Cmd.flowStatus, cmdFlowStatus),
   (Cmd.flowRead, cmdFlowRead), (Cmd.flowExport, cmdFlowExport), (Cmd.flowClear, cmdFlowClear), (Cmd.flowNote, cmdFlowNote)]

/-- The panel commands and their meanings. -/
def panelServed : List (CmdInfo × (Request → State → State)) :=
  [(Cmd.pnlSet, cmdPnlSet), (Cmd.pnlGet, cmdPnlGet), (Cmd.pnlWaveLoad, cmdPnlWaveLoad), (Cmd.pnlDraw, cmdPnlDraw),
   (Cmd.pnlUpdate, cmdPnlUpdate), (Cmd.pnlStatus, cmdPnlStatus), (Cmd.pnlClear, cmdPnlClear)]

/-- The diagnostic commands and their meanings. -/
def diagnosticServed : List (CmdInfo × (Request → State → State)) :=
  [(Cmd.diagGrottoStatus, cmdDiagGrottoStatus), (Cmd.diagGrottoClear, cmdDiagGrottoClear),
   (Cmd.diagPowerStatus, cmdDiagPowerStatus), (Cmd.diagPowerClear, cmdDiagPowerClear),
   (Cmd.diagNetStatus, cmdDiagNetStatus)]

/-- Every mailbox command with its meaning (R512). -/
def served : List (CmdInfo × (Request → State → State)) :=
  systemServed ++ configurationServed ++ programServed ++ changeServed ++ loopServed ++ crucibleServed
    ++ fieldServed ++ safetyServed ++ motionServed ++ canServed ++ timeServed ++ pairServed ++ recorderServed ++ panelServed ++ diagnosticServed

/-- The command that a code names, with its meaning. -/
def servedBy (code : BitVec 16) : Option (CmdInfo × (Request → State → State)) := served.find? fun e => e.1.code == code.toNat

/-- A code outside the catalogue: refused, and nothing recorded (R477). (log 148) -/
def CmdInfo.unknown (code : BitVec 16) : CmdInfo :=
  { code := code.toNat, modes := [], rom := false, least := 0, most := 0, role := 0, lock := 0x0105, instAt := none, base := 0 }

/-- A message is served (R477): an unknown code whatever its LENGTH, a LENGTH above 4080, else the command's meaning. -/
def State.serveMessage (s : State) (w : Waiting) : State :=
  match servedBy w.code with
  | none => s.refuse (CmdInfo.unknown w.code) w.rq 0x0105 0xFFFF 0
  | some (e, meaning) => if 4080 < w.length.toNat then s.refuse e w.rq 0x0107 (e.inst w.rq) 0 else meaning w.rq s

/-! ### The doorbell (R467 to R469) -/

/-- The message in a mailbox (R465). (log 161) -/
def State.messageIn (s : State) (n : Fin 8) : Waiting :=
  let m := (s.host.mb.get n).data
  let len := m.num 4 2
  { code := BitVec.ofNat 16 (m.num 0 2), length := BitVec.ofNat 16 len,
    rq := ⟨0, some n, BitVec.ofNat 16 (m.num 2 2), m.read 16 (min len 4080), (s.host.mb.get n).rxTs⟩ }

/-- An application mailbox is copied into its request object, and its event task is triggered (R88, R468). (log 161) -/
def State.toApplication (s : State) (n : Fin 8) : State :=
  { s with
    host.appReq := put s.host.appReq n (s.host.mb.get n).data, host.appReply := put s.host.appReply n none,
    host.mb := upd s.host.mb n fun m => { m with state := .busy, appAt := some s.now } }.trigger 6 fun a => a % 8 == n.val

/-- One mailbox is rung (R467 to R469): POSTED, or DB_ERROR while it is POSTED or BUSY. (log 161) -/
def State.ring (s : State) (n : Fin 8) : State :=
  match (s.host.mb.get n).state with
  | .posted | .busy => s.raise irqDbError
  | .empty | .done =>
    let s := { s with host.mb := upd s.host.mb n fun m => { m with state := .posted, rxTs := s.ts } }
    let w := s.messageIn n
    let s := s.receive w.rq
    if s.host.isApp n && s.serves 0 then s.toApplication n else { s with host.waiting := s.host.waiting ++ [w] }

/-- MAILBOX_RING (R467, R469): the mailboxes that one doorbell write rings, in ascending order with one time-stamp. -/
def execMailboxRing (mask : BitVec 8) (s : State) : Host.Outcome State Fault Refusal :=
  .next (if s.hostPortUp then ((idx 8).filter fun n => mask.getLsbD n.val).foldl State.ring s else s)

/-! ### Network sessions (R471, R473) -/

/-- SESSION_MESSAGE_RECEIVE (R465, R469, R471, R473): a whole message on an open session. LENGTH above 4080 or REPLY set closes the
session; a request beyond the limits is answered at once; every other waits its turn. (log 161) -/
def execSessionMessageReceive (session : Fin 17) (msg : List Byte) (s : State) : Host.Outcome State Fault Refusal :=
  .next <|
    if session = 0 || !(s.host.session.get session).open_ || msg.length < 16 then s
    else
      let len := u16 msg 4
      if 4080 < len || u8 msg 7 % 2 = 1 then s.closeSession session
      else if msg.length < 16 + len then s
      else
        let w : Waiting :=
          { code := BitVec.ofNat 16 (u16 msg 0), length := BitVec.ofNat 16 len,
            rq := ⟨session, none, BitVec.ofNat 16 (u16 msg 2), (msg.drop 16).take len, s.ts⟩ }
        let s := s.receive w.rq
        let t := { s with host.waiting := s.host.waiting ++ [w] }
        if t.queueFull w.rq && s.serves session then
          let u := t.serveMessage w
          { u with host.waiting := u.host.waiting.erase w }
        else t

/-! ### The order (R469) -/

/-- A message is taken before another: the earlier receipt, then the lower session, then the lower mailbox (R469). (log 162) -/
def Waiting.before (a b : Waiting) : Bool :=
  a.rq.rxTs.toNat < b.rq.rxTs.toNat
    || (a.rq.rxTs == b.rq.rxTs
      && (a.rq.session < b.rq.session
        || (a.rq.session == b.rq.session && (match a.rq.mailbox, b.rq.mailbox with | some i, some k => decide (i < k) | _, _ => false))))

/-- The first of some messages in their order. (log 162) -/
def firstWaiting : List Waiting → Option Waiting
  | [] => none
  | x :: r =>
    match firstWaiting r with
    | some y => some (if y.before x then y else x)
    | none => some x

/-- The command changes nothing: the VIEW role may use it (R469). (log 162) -/
def Waiting.viewOnly (w : Waiting) : Bool :=
  match servedBy w.code with
  | some (e, _) => e.role == 0
  | none => true

/-- The next message to be taken (R469): a command that changes nothing is served at once, the others in receipt order.
(log 162) -/
def State.nextMessage (s : State) : Option Waiting :=
  let l := s.host.waiting.filter fun w => s.serves w.rq.session
  (firstWaiting (l.filter Waiting.viewOnly)).or (firstWaiting l)

/-- COMMAND_TAKE (R467 to R470): the supervisor takes the next message; its mailbox is BUSY. -/
def execCommandTake (s : State) : Host.Outcome State Fault Refusal :=
  .next <|
    match s.nextMessage with
    | none => s
    | some w =>
      let s := { s with host.waiting := s.host.waiting.erase w }
      match w.rq.mailbox with
      | none => s.serveMessage w
      | some n =>
        if s.host.isApp n then s.toApplication n
        else { s with host.mb := upd s.host.mb n fun m => { m with state := .busy } }.serveMessage w

end Sys2Proof.Machine
end

