-- ==== Sys2Proof/Machine/Dispatch.lean ====
section
/-! DEFINITION. exec: the effect of each command of the table on everything but the queue. -/

namespace Sys2Proof.Machine

open Sys2Proof

def exec (i : Instr) (s : State) : Host.Outcome State Fault Refusal :=
  match i with
  | .sysEnable rq => Sys2Proof.Machine.execSysEnable rq s
  | .sysStop rq => Sys2Proof.Machine.execSysStop rq s
  | .sysRestart rq => Sys2Proof.Machine.execSysRestart rq s
  | .sysBootInfo rq => Sys2Proof.Machine.execSysBootInfo rq s
  | .sysStartSet rq => Sys2Proof.Machine.execSysStartSet rq s
  | .sysStartGet rq => Sys2Proof.Machine.execSysStartGet rq s
  | .sysFwLoad rq => Sys2Proof.Machine.execSysFwLoad rq s
  | .sysFwActivate rq => Sys2Proof.Machine.execSysFwActivate rq s
  | .sysSessionList rq => Sys2Proof.Machine.execSysSessionList rq s
  | .sysSessionClose rq => Sys2Proof.Machine.execSysSessionClose rq s
  | .sysTrustSet rq => Sys2Proof.Machine.execSysTrustSet rq s
  | .sysTrustGet rq => Sys2Proof.Machine.execSysTrustGet rq s
  | .sysSessSet rq => Sys2Proof.Machine.execSysSessSet rq s
  | .sysSessGet rq => Sys2Proof.Machine.execSysSessGet rq s
  | .cfgChamberSet rq => Sys2Proof.Machine.execCfgChamberSet rq s
  | .cfgChamberGet rq => Sys2Proof.Machine.execCfgChamberGet rq s
  | .cfgPowerSet rq => Sys2Proof.Machine.execCfgPowerSet rq s
  | .cfgPowerGet rq => Sys2Proof.Machine.execCfgPowerGet rq s
  | .cfgNetSet rq => Sys2Proof.Machine.execCfgNetSet rq s
  | .cfgNetGet rq => Sys2Proof.Machine.execCfgNetGet rq s
  | .prgTaskSet rq => Sys2Proof.Machine.execPrgTaskSet rq s
  | .prgTaskGet rq => Sys2Proof.Machine.execPrgTaskGet rq s
  | .prgTaskStatus rq => Sys2Proof.Machine.execPrgTaskStatus rq s
  | .prgTaskResume rq => Sys2Proof.Machine.execPrgTaskResume rq s
  | .prgTaskClear rq => Sys2Proof.Machine.execPrgTaskClear rq s
  | .prgRemoteSet rq => Sys2Proof.Machine.execPrgRemoteSet rq s
  | .prgRemoteStatus rq => Sys2Proof.Machine.execPrgRemoteStatus rq s
  | .prgLaneSplit rq => Sys2Proof.Machine.execPrgLaneSplit rq s
  | .prgLaneJoin rq => Sys2Proof.Machine.execPrgLaneJoin rq s
  | .prgLaneStatus rq => Sys2Proof.Machine.execPrgLaneStatus rq s
  | .prgTemperStatus rq => Sys2Proof.Machine.execPrgTemperStatus rq s
  | .prgTemperClear rq => Sys2Proof.Machine.execPrgTemperClear rq s
  | .prgImageLoad rq => Sys2Proof.Machine.execPrgImageLoad rq s
  | .prgImageInfo rq => Sys2Proof.Machine.execPrgImageInfo rq s
  | .prgVarRead rq => Sys2Proof.Machine.execPrgVarRead rq s
  | .prgVarWrite rq => Sys2Proof.Machine.execPrgVarWrite rq s
  | .prgBreakSet rq => Sys2Proof.Machine.execPrgBreakSet rq s
  | .prgBreakClear rq => Sys2Proof.Machine.execPrgBreakClear rq s
  | .prgBreakRelease rq => Sys2Proof.Machine.execPrgBreakRelease rq s
  | .prgStep rq => Sys2Proof.Machine.execPrgStep rq s
  | .prgBreakStatus rq => Sys2Proof.Machine.execPrgBreakStatus rq s
  | .olcLoad rq => Sys2Proof.Machine.execOlcLoad rq s
  | .olcActivate rq => Sys2Proof.Machine.execOlcActivate rq s
  | .olcAbort rq => Sys2Proof.Machine.execOlcAbort rq s
  | .olcStatus rq => Sys2Proof.Machine.execOlcStatus rq s
  | .olcForceSet rq => Sys2Proof.Machine.execOlcForceSet rq s
  | .olcForceRelease rq => Sys2Proof.Machine.execOlcForceRelease rq s
  | .olcForceReleaseAll rq => Sys2Proof.Machine.execOlcForceReleaseAll rq s
  | .olcForceList rq => Sys2Proof.Machine.execOlcForceList rq s
  | .loopSet rq => Sys2Proof.Machine.execLoopSet rq s
  | .loopGet rq => Sys2Proof.Machine.execLoopGet rq s
  | .loopSwapBank rq => Sys2Proof.Machine.execLoopSwapBank rq s
  | .loopBankWrite rq => Sys2Proof.Machine.execLoopBankWrite rq s
  | .loopBankRead rq => Sys2Proof.Machine.execLoopBankRead rq s
  | .loopMode rq => Sys2Proof.Machine.execLoopMode rq s
  | .loopResetTrip rq => Sys2Proof.Machine.execLoopResetTrip rq s
  | .loopStatus rq => Sys2Proof.Machine.execLoopStatus rq s
  | .loopClear rq => Sys2Proof.Machine.execLoopClear rq s
  | .loopEngineStatus rq => Sys2Proof.Machine.execLoopEngineStatus rq s
  | .cruSlotSet rq => Sys2Proof.Machine.execCruSlotSet rq s
  | .cruSlotGet rq => Sys2Proof.Machine.execCruSlotGet rq s
  | .cruPatternLoad rq => Sys2Proof.Machine.execCruPatternLoad rq s
  | .cruAnalyse rq => Sys2Proof.Machine.execCruAnalyse rq s
  | .cruSlotInfo rq => Sys2Proof.Machine.execCruSlotInfo rq s
  | .cruJobSubmit rq => Sys2Proof.Machine.execCruJobSubmit rq s
  | .cruResultRead rq => Sys2Proof.Machine.execCruResultRead rq s
  | .cruStatus rq => Sys2Proof.Machine.execCruStatus rq s
  | .cruClear rq => Sys2Proof.Machine.execCruClear rq s
  | .cruQpSet rq => Sys2Proof.Machine.execCruQpSet rq s
  | .cruQpGet rq => Sys2Proof.Machine.execCruQpGet rq s
  | .cruQpInfo rq => Sys2Proof.Machine.execCruQpInfo rq s
  | .cruInputWrite rq => Sys2Proof.Machine.execCruInputWrite rq s
  | .fioDioSet rq => Sys2Proof.Machine.execFioDioSet rq s
  | .fioDioGet rq => Sys2Proof.Machine.execFioDioGet rq s
  | .fioDioStatus rq => Sys2Proof.Machine.execFioDioStatus rq s
  | .fioGroupStatus rq => Sys2Proof.Machine.execFioGroupStatus rq s
  | .fioGroupReset rq => Sys2Proof.Machine.execFioGroupReset rq s
  | .fioDioUnlatch rq => Sys2Proof.Machine.execFioDioUnlatch rq s
  | .fioDioClear rq => Sys2Proof.Machine.execFioDioClear rq s
  | .fioAioSet rq => Sys2Proof.Machine.execFioAioSet rq s
  | .fioAioGet rq => Sys2Proof.Machine.execFioAioGet rq s
  | .fioAioStatus rq => Sys2Proof.Machine.execFioAioStatus rq s
  | .fioAioTrimSet rq => Sys2Proof.Machine.execFioAioTrimSet rq s
  | .fioAioTrimGet rq => Sys2Proof.Machine.execFioAioTrimGet rq s
  | .fioAioTrimDrive rq => Sys2Proof.Machine.execFioAioTrimDrive rq s
  | .fioAioTrimRemove rq => Sys2Proof.Machine.execFioAioTrimRemove rq s
  | .fioAioClear rq => Sys2Proof.Machine.execFioAioClear rq s
  | .safeParamLoad rq => Sys2Proof.Machine.execSafeParamLoad rq s
  | .safeParamRead rq => Sys2Proof.Machine.execSafeParamRead rq s
  | .safeSignOff rq => Sys2Proof.Machine.execSafeSignOff rq s
  | .safeStatus rq => Sys2Proof.Machine.execSafeStatus rq s
  | .safeReset rq => Sys2Proof.Machine.execSafeReset rq s
  | .safeBrakeTest rq => Sys2Proof.Machine.execSafeBrakeTest rq s
  | .safeClear rq => Sys2Proof.Machine.execSafeClear rq s
  | .motAxisSet rq => Sys2Proof.Machine.execMotAxisSet rq s
  | .motAxisGet rq => Sys2Proof.Machine.execMotAxisGet rq s
  | .motEncSet rq => Sys2Proof.Machine.execMotEncSet rq s
  | .motEncGet rq => Sys2Proof.Machine.execMotEncGet rq s
  | .motTableLoad rq => Sys2Proof.Machine.execMotTableLoad rq s
  | .motTableRead rq => Sys2Proof.Machine.execMotTableRead rq s
  | .motStatus rq => Sys2Proof.Machine.execMotStatus rq s
  | .motClear rq => Sys2Proof.Machine.execMotClear rq s
  | .canCtrlSet rq => Sys2Proof.Machine.execCanCtrlSet rq s
  | .canCtrlGet rq => Sys2Proof.Machine.execCanCtrlGet rq s
  | .canFilterSet rq => Sys2Proof.Machine.execCanFilterSet rq s
  | .canObjectSet rq => Sys2Proof.Machine.execCanObjectSet rq s
  | .canRecover rq => Sys2Proof.Machine.execCanRecover rq s
  | .canStatus rq => Sys2Proof.Machine.execCanStatus rq s
  | .canTxOnce rq => Sys2Proof.Machine.execCanTxOnce rq s
  | .canClear rq => Sys2Proof.Machine.execCanClear rq s
  | .timePtpSet rq => Sys2Proof.Machine.execTimePtpSet rq s
  | .timePtpGet rq => Sys2Proof.Machine.execTimePtpGet rq s
  | .timeStatus rq => Sys2Proof.Machine.execTimeStatus rq s
  | .timeCmpSet rq => Sys2Proof.Machine.execTimeCmpSet rq s
  | .timeCmpGet rq => Sys2Proof.Machine.execTimeCmpGet rq s
  | .timeTciSet rq => Sys2Proof.Machine.execTimeTciSet rq s
  | .timeRtcRead rq => Sys2Proof.Machine.execTimeRtcRead rq s
  | .timeRtcSet rq => Sys2Proof.Machine.execTimeRtcSet rq s
  | .timeRtcShift rq => Sys2Proof.Machine.execTimeRtcShift rq s
  | .timeRtcAlarm rq => Sys2Proof.Machine.execTimeRtcAlarm rq s
  | .timeRtcWake rq => Sys2Proof.Machine.execTimeRtcWake rq s
  | .timeClear rq => Sys2Proof.Machine.execTimeClear rq s
  | .pairSet rq => Sys2Proof.Machine.execPairSet rq s
  | .pairGet rq => Sys2Proof.Machine.execPairGet rq s
  | .pairStatus rq => Sys2Proof.Machine.execPairStatus rq s
  | .pairSwap rq => Sys2Proof.Machine.execPairSwap rq s
  | .pairReadmit rq => Sys2Proof.Machine.execPairReadmit rq s
  | .pairClear rq => Sys2Proof.Machine.execPairClear rq s
  | .flowSet rq => Sys2Proof.Machine.execFlowSet rq s
  | .flowGet rq => Sys2Proof.Machine.execFlowGet rq s
  | .flowFlush rq => Sys2Proof.Machine.execFlowFlush rq s
  | .flowStatus rq => Sys2Proof.Machine.execFlowStatus rq s
  | .flowRead rq => Sys2Proof.Machine.execFlowRead rq s
  | .flowExport rq => Sys2Proof.Machine.execFlowExport rq s
  | .flowClear rq => Sys2Proof.Machine.execFlowClear rq s
  | .flowNote rq => Sys2Proof.Machine.execFlowNote rq s
  | .pnlSet rq => Sys2Proof.Machine.execPnlSet rq s
  | .pnlGet rq => Sys2Proof.Machine.execPnlGet rq s
  | .pnlWaveLoad rq => Sys2Proof.Machine.execPnlWaveLoad rq s
  | .pnlDraw rq => Sys2Proof.Machine.execPnlDraw rq s
  | .pnlUpdate rq => Sys2Proof.Machine.execPnlUpdate rq s
  | .pnlStatus rq => Sys2Proof.Machine.execPnlStatus rq s
  | .pnlClear rq => Sys2Proof.Machine.execPnlClear rq s
  | .diagGrottoStatus rq => Sys2Proof.Machine.execDiagGrottoStatus rq s
  | .diagGrottoClear rq => Sys2Proof.Machine.execDiagGrottoClear rq s
  | .diagPowerStatus rq => Sys2Proof.Machine.execDiagPowerStatus rq s
  | .diagPowerClear rq => Sys2Proof.Machine.execDiagPowerClear rq s
  | .diagNetStatus rq => Sys2Proof.Machine.execDiagNetStatus rq s
  | .mailboxWrite mb off data => Sys2Proof.Machine.execMailboxWrite mb off data s
  | .mailboxRing mask => Sys2Proof.Machine.execMailboxRing mask s
  | .runEnSet => Sys2Proof.Machine.execRunEnSet s
  | .runEnClear => Sys2Proof.Machine.execRunEnClear s
  | .irqStatusClear bits => Sys2Proof.Machine.execIrqStatusClear bits s
  | .irqMaskWrite mask => Sys2Proof.Machine.execIrqMaskWrite mask s
  | .registerWriteOther off data => Sys2Proof.Machine.execRegisterWriteOther off data s
  | .hpPerst => Sys2Proof.Machine.execHpPerst s
  | .hostLinkUp => Sys2Proof.Machine.execHostLinkUp s
  | .hostLinkLostTimeout => Sys2Proof.Machine.execHostLinkLostTimeout s
  | .commandTake => Sys2Proof.Machine.execCommandTake s
  | .appReplyCopy mb => Sys2Proof.Machine.execAppReplyCopy mb s
  | .appTimeout mb => Sys2Proof.Machine.execAppTimeout mb s
  | .aliveTick => Sys2Proof.Machine.execAliveTick s
  | .sessionHandshake cert => Sys2Proof.Machine.execSessionHandshake cert s
  | .addressBarExpire addr => Sys2Proof.Machine.execAddressBarExpire addr s
  | .sessionMessageReceive session msg => Sys2Proof.Machine.execSessionMessageReceive session msg s
  | .sessionIdleTimeout session => Sys2Proof.Machine.execSessionIdleTimeout session s
  | .sessionClose session => Sys2Proof.Machine.execSessionClose session s
  | .powerOnReset => Sys2Proof.Machine.execPowerOnReset s
  | .nrstInAssert => Sys2Proof.Machine.execNrstInAssert s
  | .bootWatchdogExpire => Sys2Proof.Machine.execBootWatchdogExpire s
  | .haltTimerExpire => Sys2Proof.Machine.execHaltTimerExpire s
  | .resetRelease straps => Sys2Proof.Machine.execResetRelease straps s
  | .romPhaseEnd => Sys2Proof.Machine.execRomPhaseEnd s
  | .romFaultHoldEnd => Sys2Proof.Machine.execRomFaultHoldEnd s
  | .firmwarePhaseEnd cfgBad fit => Sys2Proof.Machine.execFirmwarePhaseEnd cfgBad fit s
  | .coldStartHoldEnd straps => Sys2Proof.Machine.execColdStartHoldEnd straps s
  | .coldStartHoldTimeout straps => Sys2Proof.Machine.execColdStartHoldTimeout straps s
  | .autoStart => Sys2Proof.Machine.execAutoStart s
  | .enableCheckComplete qlOk => Sys2Proof.Machine.execEnableCheckComplete qlOk s
  | .startWaitExpire => Sys2Proof.Machine.execStartWaitExpire s
  | .runEntry => Sys2Proof.Machine.execRunEntry s
  | .bootFailsClear => Sys2Proof.Machine.execBootFailsClear s
  | .clockFault => Sys2Proof.Machine.execClockFault s
  | .energyLevelRise => Sys2Proof.Machine.execEnergyLevelRise s
  | .e1Exit => Sys2Proof.Machine.execE1Exit s
  | .e2Exit => Sys2Proof.Machine.execE2Exit s
  | .e3TimerExpire => Sys2Proof.Machine.execE3TimerExpire s
  | .powerFailStage1End => Sys2Proof.Machine.execPowerFailStage1End s
  | .powerFailStage2End => Sys2Proof.Machine.execPowerFailStage2End s
  | .holdupDepleted => Sys2Proof.Machine.execHoldupDepleted s
  | .pfWarnChange => Sys2Proof.Machine.execPfWarnChange s
  | .feedLoss feed => Sys2Proof.Machine.execFeedLoss feed s
  | .vinHighSet => Sys2Proof.Machine.execVinHighSet s
  | .vinHighClear => Sys2Proof.Machine.execVinHighClear s
  | .vinUnknownSet => Sys2Proof.Machine.execVinUnknownSet s
  | .holdupMeasure uF => Sys2Proof.Machine.execHoldupMeasure uF s
  | .logicRailFault rail => Sys2Proof.Machine.execLogicRailFault rail s
  | .budgetPublish m => Sys2Proof.Machine.execBudgetPublish m s
  | .heatLevelFall => Sys2Proof.Machine.execHeatLevelFall s
  | .thermalTrip => Sys2Proof.Machine.execThermalTrip s
  | .budgetStale => Sys2Proof.Machine.execBudgetStale s
  | .uplinkFrameReceive link f errors => Sys2Proof.Machine.execUplinkFrameReceive link f errors s
  | .downlinkFrameSend link => Sys2Proof.Machine.execDownlinkFrameSend link s
  | .downlinkFrameApply link errors => Sys2Proof.Machine.execDownlinkFrameApply link errors s
  | .fieldLinkLoss link => Sys2Proof.Machine.execFieldLinkLoss link s
  | .logicLinkLoss link => Sys2Proof.Machine.execLogicLinkLoss link s
  | .rearmComplete link => Sys2Proof.Machine.execRearmComplete link s
  | .configPassComplete link => Sys2Proof.Machine.execConfigPassComplete link s
  | .qlLineKill line => Sys2Proof.Machine.execQlLineKill line s
  | .inputFilterPass c level => Sys2Proof.Machine.execInputFilterPass c level s
  | .grottoRequest reqs => Sys2Proof.Machine.execGrottoRequest reqs s
  | .arbitrationWindowEnd => Sys2Proof.Machine.execArbitrationWindowEnd s
  | .mramBufferDrain => Sys2Proof.Machine.execMramBufferDrain s
  | .scrubRead mram ecc => Sys2Proof.Machine.execScrubRead mram ecc s
  | .scrubBehind => Sys2Proof.Machine.execScrubBehind s
  | .periodBoundary => Sys2Proof.Machine.execPeriodBoundary s
  | .taskFinish task run => Sys2Proof.Machine.execTaskFinish task run s
  | .bufferHoldExpire task => Sys2Proof.Machine.execBufferHoldExpire task s
  | .evtLimitExpire task => Sys2Proof.Machine.execEvtLimitExpire task s
  | .minGapExpire task => Sys2Proof.Machine.execMinGapExpire task s
  | .processDataReceive station owner epoch obj data => Sys2Proof.Machine.execProcessDataReceive station owner epoch obj data s
  | .remoteAbsent station => Sys2Proof.Machine.execRemoteAbsent station s
  | .remoteValueStale station obj => Sys2Proof.Machine.execRemoteValueStale station obj s
  | .processDataSend task => Sys2Proof.Machine.execProcessDataSend task s
  | .restoreComplete task => Sys2Proof.Machine.execRestoreComplete task s
  | .breakpointHit brk => Sys2Proof.Machine.execBreakpointHit brk s
  | .stepComplete task ofs => Sys2Proof.Machine.execStepComplete task ofs s
  | .taskRecordMove task calls => Sys2Proof.Machine.execTaskRecordMove task calls s
  | .forceApplyWrite handle => Sys2Proof.Machine.execForceApplyWrite handle s
  | .forceReleaseWrite handle => Sys2Proof.Machine.execForceReleaseWrite handle s
  | .forceAgedWarning => Sys2Proof.Machine.execForceAgedWarning s
  | .loopBoundary n => Sys2Proof.Machine.execLoopBoundary n s
  | .loopSampleComplete n => Sys2Proof.Machine.execLoopSampleComplete n s
  | .feTimerExpire n => Sys2Proof.Machine.execFeTimerExpire n s
  | .cruRequestTake slot => Sys2Proof.Machine.execCruRequestTake slot s
  | .cruJobStart => Sys2Proof.Machine.execCruJobStart s
  | .cruFactorComplete => Sys2Proof.Machine.execCruFactorComplete s
  | .cruFactorCutoff => Sys2Proof.Machine.execCruFactorCutoff s
  | .cruDeadline slot => Sys2Proof.Machine.execCruDeadline slot s
  | .cruSolveComplete => Sys2Proof.Machine.execCruSolveComplete s
  | .qpIterationComplete => Sys2Proof.Machine.execQpIterationComplete s
  | .qpRefactorComplete => Sys2Proof.Machine.execQpRefactorComplete s
  | .polishStepComplete => Sys2Proof.Machine.execPolishStepComplete s
  | .analysisComplete slot => Sys2Proof.Machine.execAnalysisComplete slot s
  | .scratchError uncorrectable => Sys2Proof.Machine.execScratchError uncorrectable s
  | .safetySourceAssert => Sys2Proof.Machine.execSafetySourceAssert s
  | .channelDisagree target => Sys2Proof.Machine.execChannelDisagree target s
  | .copyDisagree => Sys2Proof.Machine.execCopyDisagree s
  | .qlDailyTest qlOk => Sys2Proof.Machine.execQlDailyTest qlOk s
  | .pairDemand pair chanB => Sys2Proof.Machine.execPairDemand pair chanB s
  | .pairSourceClear pair => Sys2Proof.Machine.execPairSourceClear pair s
  | .pairDiscFault pair => Sys2Proof.Machine.execPairDiscFault pair s
  | .testPulse tp low => Sys2Proof.Machine.execTestPulse tp low s
  | .soBiasFault so => Sys2Proof.Machine.execSoBiasFault so s
  | .soLightTest so ok => Sys2Proof.Machine.execSoLightTest so ok s
  | .soDarkTest so ok => Sys2Proof.Machine.execSoDarkTest so ok s
  | .soOvercurrent so => Sys2Proof.Machine.execSoOvercurrent so s
  | .encoderQuadError enc => Sys2Proof.Machine.execEncoderQuadError enc s
  | .axisDiscrepancy axis => Sys2Proof.Machine.execAxisDiscrepancy axis s
  | .brakeTestPhase => Sys2Proof.Machine.execBrakeTestPhase s
  | .brakeTestDue so => Sys2Proof.Machine.execBrakeTestDue so s
  | .brakeTestOverdue so => Sys2Proof.Machine.execBrakeTestOverdue so s
  | .resetDioPulse => Sys2Proof.Machine.execResetDioPulse s
  | .wdTaskExpire task => Sys2Proof.Machine.execWdTaskExpire task s
  | .dioOverloadLatch c => Sys2Proof.Machine.execDioOverloadLatch c s
  | .dioThermalShutdown c => Sys2Proof.Machine.execDioThermalShutdown c s
  | .dioRetryExpire c => Sys2Proof.Machine.execDioRetryExpire c s
  | .dioOpenWire c => Sys2Proof.Machine.execDioOpenWire c s
  | .dioExtFeed c => Sys2Proof.Machine.execDioExtFeed c s
  | .extFeedSuppressEnd c => Sys2Proof.Machine.execExtFeedSuppressEnd c s
  | .groupFuseTrip grp => Sys2Proof.Machine.execGroupFuseTrip grp s
  | .sensFuseTrip grp => Sys2Proof.Machine.execSensFuseTrip grp s
  | .sensRetry grp clear => Sys2Proof.Machine.execSensRetry grp clear s
  | .aioComplianceCompare c => Sys2Proof.Machine.execAioComplianceCompare c s
  | .ne43FailTimer c => Sys2Proof.Machine.execNe43FailTimer c s
  | .loopShortDetect c => Sys2Proof.Machine.execLoopShortDetect c s
  | .axisRequestTake counts => Sys2Proof.Machine.execAxisRequestTake counts s
  | .enDelayExpire axis => Sys2Proof.Machine.execEnDelayExpire axis s
  | .reversalRest axis => Sys2Proof.Machine.execReversalRest axis s
  | .moveArrival axis => Sys2Proof.Machine.execMoveArrival axis s
  | .tableSegmentEnd axis => Sys2Proof.Machine.execTableSegmentEnd axis s
  | .gearRatioChange axis => Sys2Proof.Machine.execGearRatioChange axis s
  | .gearLagFault axis => Sys2Proof.Machine.execGearLagFault axis s
  | .resCodeChange axis => Sys2Proof.Machine.execResCodeChange axis s
  | .driveLinkFrameComplete echo => Sys2Proof.Machine.execDriveLinkFrameComplete echo s
  | .driveLinkRefresh => Sys2Proof.Machine.execDriveLinkRefresh s
  | .limitTrip axis positive => Sys2Proof.Machine.execLimitTrip axis positive s
  | .limitRelease axis positive => Sys2Proof.Machine.execLimitRelease axis positive s
  | .homeEdgeCapture axis => Sys2Proof.Machine.execHomeEdgeCapture axis s
  | .homeComplete axis => Sys2Proof.Machine.execHomeComplete axis s
  | .homeTimeout axis => Sys2Proof.Machine.execHomeTimeout axis s
  | .zEdgeCapture enc => Sys2Proof.Machine.execZEdgeCapture enc s
  | .canFrameReceive ctrl f age phase => Sys2Proof.Machine.execCanFrameReceive ctrl f age phase s
  | .canReceiveTimeoutScan => Sys2Proof.Machine.execCanReceiveTimeoutScan s
  | .canTxPeriod ctrl obj => Sys2Proof.Machine.execCanTxPeriod ctrl obj s
  | .canArbitrationPrepare ctrl => Sys2Proof.Machine.execCanArbitrationPrepare ctrl s
  | .canTxComplete ctrl age phase delay => Sys2Proof.Machine.execCanTxComplete ctrl age phase delay s
  | .canBusError ctrl err transmitting site delay => Sys2Proof.Machine.execCanBusError ctrl err transmitting site delay s
  | .canBusoffHoldExpire ctrl => Sys2Proof.Machine.execCanBusoffHoldExpire ctrl s
  | .canRecoveryComplete ctrl => Sys2Proof.Machine.execCanRecoveryComplete ctrl s
  | .canRefMessage ctrl => Sys2Proof.Machine.execCanRefMessage ctrl s
  | .canRefLost ctrl => Sys2Proof.Machine.execCanRefLost ctrl s
  | .netFrameReceive f => Sys2Proof.Machine.execNetFrameReceive f s
  | .portLinkDown port => Sys2Proof.Machine.execPortLinkDown port s
  | .portLinkUp port => Sys2Proof.Machine.execPortLinkUp port s
  | .supervisionFrameSend => Sys2Proof.Machine.execSupervisionFrameSend s
  | .lanOkTimeout port => Sys2Proof.Machine.execLanOkTimeout port s
  | .nodeForget mac => Sys2Proof.Machine.execNodeForget mac s
  | .ptpMessageSend data => Sys2Proof.Machine.execPtpMessageSend data s
  | .ptpSyncReceive port offset meanPath ann => Sys2Proof.Machine.execPtpSyncReceive port offset meanPath ann s
  | .ptpSyncTimeout port => Sys2Proof.Machine.execPtpSyncTimeout port s
  | .announceTimeout => Sys2Proof.Machine.execAnnounceTimeout s
  | .holdoverAlarm => Sys2Proof.Machine.execHoldoverAlarm s
  | .timeRecordWrite => Sys2Proof.Machine.execTimeRecordWrite s
  | .compareFire n => Sys2Proof.Machine.execCompareFire n s
  | .tpoPulseEnd n => Sys2Proof.Machine.execTpoPulseEnd n s
  | .tciCapture k rising phase => Sys2Proof.Machine.execTciCapture k rising phase s
  | .tciCaptureMove k => Sys2Proof.Machine.execTciCaptureMove k s
  | .rtcOscStop => Sys2Proof.Machine.execRtcOscStop s
  | .rtcRegisterRead => Sys2Proof.Machine.execRtcRegisterRead s
  | .rtcShadowRelease => Sys2Proof.Machine.execRtcShadowRelease s
  | .rtcShiftTick => Sys2Proof.Machine.execRtcShiftTick s
  | .rtcAlarmFire => Sys2Proof.Machine.execRtcAlarmFire s
  | .rtcWake => Sys2Proof.Machine.execRtcWake s
  | .rtcLeapSecond => Sys2Proof.Machine.execRtcLeapSecond s
  | .rtcDiscipline => Sys2Proof.Machine.execRtcDiscipline s
  | .heartbeatSend => Sys2Proof.Machine.execHeartbeatSend s
  | .pairFrameReceive crcOk msg => Sys2Proof.Machine.execPairFrameReceive crcOk msg s
  | .mirrorLoopSend n => Sys2Proof.Machine.execMirrorLoopSend n s
  | .pairLaneFail => Sys2Proof.Machine.execPairLaneFail s
  | .peerOkDrop => Sys2Proof.Machine.execPeerOkDrop s
  | .peerOkTestPulse => Sys2Proof.Machine.execPeerOkTestPulse s
  | .peerOkInLow => Sys2Proof.Machine.execPeerOkInLow s
  | .pairLinkSilent => Sys2Proof.Machine.execPairLinkSilent s
  | .witnessReply answer => Sys2Proof.Machine.execWitnessReply answer s
  | .witnessTimeout => Sys2Proof.Machine.execWitnessTimeout s
  | .witnessRetry => Sys2Proof.Machine.execWitnessRetry s
  | .witnessPresenceFrame => Sys2Proof.Machine.execWitnessPresenceFrame s
  | .witnessSilenceConfirm => Sys2Proof.Machine.execWitnessSilenceConfirm s
  | .swapStart => Sys2Proof.Machine.execSwapStart s
  | .swapRetry => Sys2Proof.Machine.execSwapRetry s
  | .syncBulkComplete => Sys2Proof.Machine.execSyncBulkComplete s
  | .syncComplete => Sys2Proof.Machine.execSyncComplete s
  | .flowFlushPeriodic => Sys2Proof.Machine.execFlowFlushPeriodic s
  | .flowFlushComplete => Sys2Proof.Machine.execFlowFlushComplete s
  | .compactionPass bad => Sys2Proof.Machine.execCompactionPass bad s
  | .exportTimeout => Sys2Proof.Machine.execExportTimeout s
  | .panelTempRead t => Sys2Proof.Machine.execPanelTempRead t s
  | .panelUpdateStart => Sys2Proof.Machine.execPanelUpdateStart s
  | .panelFrameComplete => Sys2Proof.Machine.execPanelFrameComplete s
  | .panelRailsOff => Sys2Proof.Machine.execPanelRailsOff s
  | .peerOkInRise => Sys2Proof.Machine.execPeerOkInRise s
  | .axisRestReached axis => Sys2Proof.Machine.execAxisRestReached axis s
  | .swapAxisWaitTimeout => Sys2Proof.Machine.execSwapAxisWaitTimeout s
  | .srcFaultShutdown c => Sys2Proof.Machine.execSrcFaultShutdown c s
  | .adcSelfCheckFail c => Sys2Proof.Machine.execAdcSelfCheckFail c s
  | .dioCurrentLimit c => Sys2Proof.Machine.execDioCurrentLimit c s
  | .hostLinkLeavesL0 => Sys2Proof.Machine.execHostLinkLeavesL0 s
  | .jtagWrite handle value => Sys2Proof.Machine.execJtagWrite handle value s

end Sys2Proof.Machine
end

