-- ==== Sys2Proof/WellFormed.lean ====
section
/-! DEFINITION. Well-formed commands: what a sender can put into one. -/

namespace Sys2Proof

open Machine

/-- A request is well formed: at most 4080 payload bytes (R465), and a mailbox exactly on the host
port (R469). -/
def requestOk (rq : Request) : Bool := rq.payload.length ≤ 4080 && (rq.mailbox.isSome == (rq.session == 0))

/-- A port request is well formed: one to eight lines (R31, R48), and a write's bytes lie in them. -/
def portReqOk (r : PortReq) : Bool :=
  1 ≤ r.lines && r.lines ≤ 8 && (match r.write with | some d => 1 ≤ d.length && d.length ≤ 64 * r.lines | none => true)

/-- A frame that a CAN bus can carry: a base identifier has 11 bits, a remote frame is classical, and BRS and ESI stand
in FD frames alone (R322, R337). -/
def canFrameOk (f : CanFrame) : Bool :=
  (f.id.getLsbD 31 || f.id.toNat % 2 ^ 29 < 2 ^ 11) && !(f.fdf && f.id.getLsbD 30) && (f.fdf || !(f.brs || f.esi))

/-- What a pair-link frame carries is data in its canonical form (R376). -/
def pairMsgOk : PairMsg → Bool
  | .bulkAll _ m => m.wf
  | .change _ _ _ pkg => pkg.wf
  | .heartbeat _ | .config _ | .retain _ _ | .taskLine _ _ _ _ | .marker _ _ _ _ _ | .loop _ _ _ _ _ | .axis _ _ _ _
  | .forces _ | .island _ _ _ | .epoch _ | .yield | .swap | .handover _ | .swapDone | .testPulse _ | .signatures _
  | .resend _ | .block _ _ | .redrive | .bulk _ _ _ | .olcActivate => true

/-- The command is one that a sender can send. -/
def Instr.wf : Instr → Bool
  | .sysEnable rq => requestOk rq
  | .sysStop rq => requestOk rq
  | .sysRestart rq => requestOk rq
  | .sysBootInfo rq => requestOk rq
  | .sysStartSet rq => requestOk rq
  | .sysStartGet rq => requestOk rq
  | .sysFwLoad rq => requestOk rq
  | .sysFwActivate rq => requestOk rq
  | .sysSessionList rq => requestOk rq
  | .sysSessionClose rq => requestOk rq
  | .sysTrustSet rq => requestOk rq
  | .sysTrustGet rq => requestOk rq
  | .sysSessSet rq => requestOk rq
  | .sysSessGet rq => requestOk rq
  | .cfgChamberSet rq => requestOk rq
  | .cfgChamberGet rq => requestOk rq
  | .cfgPowerSet rq => requestOk rq
  | .cfgPowerGet rq => requestOk rq
  | .cfgNetSet rq => requestOk rq
  | .cfgNetGet rq => requestOk rq
  | .prgTaskSet rq => requestOk rq
  | .prgTaskGet rq => requestOk rq
  | .prgTaskStatus rq => requestOk rq
  | .prgTaskResume rq => requestOk rq
  | .prgTaskClear rq => requestOk rq
  | .prgRemoteSet rq => requestOk rq
  | .prgRemoteStatus rq => requestOk rq
  | .prgLaneSplit rq => requestOk rq
  | .prgLaneJoin rq => requestOk rq
  | .prgLaneStatus rq => requestOk rq
  | .prgTemperStatus rq => requestOk rq
  | .prgTemperClear rq => requestOk rq
  | .prgImageLoad rq => requestOk rq
  | .prgImageInfo rq => requestOk rq
  | .prgVarRead rq => requestOk rq
  | .prgVarWrite rq => requestOk rq
  | .prgBreakSet rq => requestOk rq
  | .prgBreakClear rq => requestOk rq
  | .prgBreakRelease rq => requestOk rq
  | .prgStep rq => requestOk rq
  | .prgBreakStatus rq => requestOk rq
  | .olcLoad rq => requestOk rq
  | .olcActivate rq => requestOk rq
  | .olcAbort rq => requestOk rq
  | .olcStatus rq => requestOk rq
  | .olcForceSet rq => requestOk rq
  | .olcForceRelease rq => requestOk rq
  | .olcForceReleaseAll rq => requestOk rq
  | .olcForceList rq => requestOk rq
  | .loopSet rq => requestOk rq
  | .loopGet rq => requestOk rq
  | .loopSwapBank rq => requestOk rq
  | .loopBankWrite rq => requestOk rq
  | .loopBankRead rq => requestOk rq
  | .loopMode rq => requestOk rq
  | .loopResetTrip rq => requestOk rq
  | .loopStatus rq => requestOk rq
  | .loopClear rq => requestOk rq
  | .loopEngineStatus rq => requestOk rq
  | .cruSlotSet rq => requestOk rq
  | .cruSlotGet rq => requestOk rq
  | .cruPatternLoad rq => requestOk rq
  | .cruAnalyse rq => requestOk rq
  | .cruSlotInfo rq => requestOk rq
  | .cruJobSubmit rq => requestOk rq
  | .cruResultRead rq => requestOk rq
  | .cruStatus rq => requestOk rq
  | .cruClear rq => requestOk rq
  | .cruQpSet rq => requestOk rq
  | .cruQpGet rq => requestOk rq
  | .cruQpInfo rq => requestOk rq
  | .cruInputWrite rq => requestOk rq
  | .fioDioSet rq => requestOk rq
  | .fioDioGet rq => requestOk rq
  | .fioDioStatus rq => requestOk rq
  | .fioGroupStatus rq => requestOk rq
  | .fioGroupReset rq => requestOk rq
  | .fioDioUnlatch rq => requestOk rq
  | .fioDioClear rq => requestOk rq
  | .fioAioSet rq => requestOk rq
  | .fioAioGet rq => requestOk rq
  | .fioAioStatus rq => requestOk rq
  | .fioAioTrimSet rq => requestOk rq
  | .fioAioTrimGet rq => requestOk rq
  | .fioAioTrimDrive rq => requestOk rq
  | .fioAioTrimRemove rq => requestOk rq
  | .fioAioClear rq => requestOk rq
  | .safeParamLoad rq => requestOk rq
  | .safeParamRead rq => requestOk rq
  | .safeSignOff rq => requestOk rq
  | .safeStatus rq => requestOk rq
  | .safeReset rq => requestOk rq
  | .safeBrakeTest rq => requestOk rq
  | .safeClear rq => requestOk rq
  | .motAxisSet rq => requestOk rq
  | .motAxisGet rq => requestOk rq
  | .motEncSet rq => requestOk rq
  | .motEncGet rq => requestOk rq
  | .motTableLoad rq => requestOk rq
  | .motTableRead rq => requestOk rq
  | .motStatus rq => requestOk rq
  | .motClear rq => requestOk rq
  | .canCtrlSet rq => requestOk rq
  | .canCtrlGet rq => requestOk rq
  | .canFilterSet rq => requestOk rq
  | .canObjectSet rq => requestOk rq
  | .canRecover rq => requestOk rq
  | .canStatus rq => requestOk rq
  | .canTxOnce rq => requestOk rq
  | .canClear rq => requestOk rq
  | .timePtpSet rq => requestOk rq
  | .timePtpGet rq => requestOk rq
  | .timeStatus rq => requestOk rq
  | .timeCmpSet rq => requestOk rq
  | .timeCmpGet rq => requestOk rq
  | .timeTciSet rq => requestOk rq
  | .timeRtcRead rq => requestOk rq
  | .timeRtcSet rq => requestOk rq
  | .timeRtcShift rq => requestOk rq
  | .timeRtcAlarm rq => requestOk rq
  | .timeRtcWake rq => requestOk rq
  | .timeClear rq => requestOk rq
  | .pairSet rq => requestOk rq
  | .pairGet rq => requestOk rq
  | .pairStatus rq => requestOk rq
  | .pairSwap rq => requestOk rq
  | .pairReadmit rq => requestOk rq
  | .pairClear rq => requestOk rq
  | .flowSet rq => requestOk rq
  | .flowGet rq => requestOk rq
  | .flowFlush rq => requestOk rq
  | .flowStatus rq => requestOk rq
  | .flowRead rq => requestOk rq
  | .flowExport rq => requestOk rq
  | .flowClear rq => requestOk rq
  | .flowNote rq => requestOk rq
  | .pnlSet rq => requestOk rq
  | .pnlGet rq => requestOk rq
  | .pnlWaveLoad rq => requestOk rq
  | .pnlDraw rq => requestOk rq
  | .pnlUpdate rq => requestOk rq
  | .pnlStatus rq => requestOk rq
  | .pnlClear rq => requestOk rq
  | .diagGrottoStatus rq => requestOk rq
  | .diagGrottoClear rq => requestOk rq
  | .diagPowerStatus rq => requestOk rq
  | .diagPowerClear rq => requestOk rq
  | .diagNetStatus rq => requestOk rq
  | .mailboxWrite _ off data => 0 < data.length && off + data.length ≤ 4096
  | .mailboxRing _ => true
  | .runEnSet => true
  | .runEnClear => true
  | .irqStatusClear _ => true
  | .irqMaskWrite _ => true
  | .registerWriteOther off data => 0 < data.length && off + data.length ≤ 2 ^ 20
  | .hpPerst => true
  | .hostLinkUp => true
  | .hostLinkLostTimeout => true
  | .commandTake => true
  | .appReplyCopy _ => true
  | .appTimeout _ => true
  | .aliveTick => true
  | .sessionHandshake _ => true
  | .addressBarExpire _ => true
  | .sessionMessageReceive k msg => k != 0 && 16 ≤ msg.length && msg.length ≤ 4096
  | .sessionIdleTimeout _ => true
  | .sessionClose _ => true
  | .powerOnReset => true
  | .nrstInAssert => true
  | .bootWatchdogExpire => true
  | .haltTimerExpire => true
  | .resetRelease _ => true
  | .romPhaseEnd => true
  | .romFaultHoldEnd => true
  | .firmwarePhaseEnd _ _ => true
  | .coldStartHoldEnd _ => true
  | .coldStartHoldTimeout _ => true
  | .autoStart => true
  | .enableCheckComplete _ => true
  | .startWaitExpire => true
  | .runEntry => true
  | .bootFailsClear => true
  | .clockFault => true
  | .energyLevelRise => true
  | .e1Exit => true
  | .e2Exit => true
  | .e3TimerExpire => true
  | .powerFailStage1End => true
  | .powerFailStage2End => true
  | .holdupDepleted => true
  | .pfWarnChange => true
  | .feedLoss _ => true
  | .vinHighSet => true
  | .vinHighClear => true
  | .vinUnknownSet => true
  | .holdupMeasure uF => uF ≤ 65535
  | .logicRailFault rail => rail < 65536
  | .budgetPublish _ => true
  | .heatLevelFall => true
  | .thermalTrip => true
  | .budgetStale => true
  | .uplinkFrameReceive _ _ _ => true
  | .downlinkFrameSend _ => true
  | .downlinkFrameApply _ _ => true
  | .fieldLinkLoss _ => true
  | .logicLinkLoss _ => true
  | .rearmComplete _ => true
  | .configPassComplete _ => true
  | .qlLineKill _ => true
  | .inputFilterPass _ _ => true
  | .grottoRequest reqs => reqs.all fun e => portReqOk e.2
  | .arbitrationWindowEnd => true
  | .mramBufferDrain => true
  | .scrubRead _ _ => true
  | .scrubBehind => true
  | .periodBoundary => true
  | .taskFinish _ _ => true
  | .bufferHoldExpire _ => true
  | .evtLimitExpire _ => true
  | .minGapExpire _ => true
  | .processDataReceive _ _ _ _ data => data.length ≤ 1400
  | .remoteAbsent _ => true
  | .remoteValueStale _ _ => true
  | .processDataSend _ => true
  | .restoreComplete _ => true
  | .breakpointHit _ => true
  | .stepComplete _ _ => true
  | .taskRecordMove _ _ => true
  | .forceApplyWrite _ => true
  | .forceReleaseWrite _ => true
  | .forceAgedWarning => true
  | .loopBoundary _ => true
  | .loopSampleComplete _ => true
  | .feTimerExpire _ => true
  | .cruRequestTake _ => true
  | .cruJobStart => true
  | .cruFactorComplete => true
  | .cruFactorCutoff => true
  | .cruDeadline _ => true
  | .cruSolveComplete => true
  | .qpIterationComplete => true
  | .qpRefactorComplete => true
  | .polishStepComplete => true
  | .analysisComplete _ => true
  | .scratchError _ => true
  | .safetySourceAssert => true
  | .channelDisagree _ => true
  | .copyDisagree => true
  | .qlDailyTest _ => true
  | .pairDemand _ _ => true
  | .pairSourceClear _ => true
  | .pairDiscFault _ => true
  | .testPulse _ _ => true
  | .soBiasFault _ => true
  | .soLightTest _ _ => true
  | .soDarkTest _ _ => true
  | .soOvercurrent _ => true
  | .encoderQuadError _ => true
  | .axisDiscrepancy _ => true
  | .brakeTestPhase => true
  | .brakeTestDue _ => true
  | .brakeTestOverdue _ => true
  | .resetDioPulse => true
  | .wdTaskExpire _ => true
  | .dioOverloadLatch _ => true
  | .dioThermalShutdown _ => true
  | .dioRetryExpire _ => true
  | .dioOpenWire _ => true
  | .dioExtFeed _ => true
  | .extFeedSuppressEnd _ => true
  | .groupFuseTrip _ => true
  | .sensFuseTrip _ => true
  | .sensRetry _ _ => true
  | .aioComplianceCompare _ => true
  | .ne43FailTimer _ => true
  | .loopShortDetect _ => true
  | .axisRequestTake _ => true
  | .enDelayExpire _ => true
  | .reversalRest _ => true
  | .moveArrival _ => true
  | .tableSegmentEnd _ => true
  | .gearRatioChange _ => true
  | .gearLagFault _ => true
  | .resCodeChange _ => true
  | .driveLinkFrameComplete _ => true
  | .driveLinkRefresh => true
  | .limitTrip _ _ => true
  | .limitRelease _ _ => true
  | .homeEdgeCapture _ => true
  | .homeComplete _ => true
  | .homeTimeout _ => true
  | .zEdgeCapture _ => true
  | .canFrameReceive _ f _ _ => canFrameOk f
  | .canReceiveTimeoutScan => true
  | .canTxPeriod _ _ => true
  | .canArbitrationPrepare _ => true
  | .canTxComplete _ _ _ _ => true
  | .canBusError _ _ _ _ _ => true
  | .canBusoffHoldExpire _ => true
  | .canRecoveryComplete _ => true
  | .canRefMessage _ => true
  | .canRefLost _ => true
  | .netFrameReceive f => 0 < f.len && f.len ≤ 1536
  | .portLinkDown _ => true
  | .portLinkUp _ => true
  | .supervisionFrameSend => true
  | .lanOkTimeout _ => true
  | .nodeForget _ => true
  | .ptpMessageSend data => 0 < data.length && data.length ≤ 1500
  | .ptpSyncReceive _ _ _ _ => true
  | .ptpSyncTimeout _ => true
  | .announceTimeout => true
  | .holdoverAlarm => true
  | .timeRecordWrite => true
  | .compareFire _ => true
  | .tpoPulseEnd _ => true
  | .tciCapture _ _ _ => true
  | .tciCaptureMove _ => true
  | .rtcOscStop => true
  | .rtcRegisterRead => true
  | .rtcShadowRelease => true
  | .rtcShiftTick => true
  | .rtcAlarmFire => true
  | .rtcWake => true
  | .rtcLeapSecond => true
  | .rtcDiscipline => true
  | .heartbeatSend => true
  | .pairFrameReceive _ msg => pairMsgOk msg
  | .mirrorLoopSend _ => true
  | .pairLaneFail => true
  | .peerOkDrop => true
  | .peerOkTestPulse => true
  | .peerOkInLow => true
  | .pairLinkSilent => true
  | .witnessReply _ => true
  | .witnessTimeout => true
  | .witnessRetry => true
  | .witnessPresenceFrame => true
  | .witnessSilenceConfirm => true
  | .swapStart => true
  | .swapRetry => true
  | .syncBulkComplete => true
  | .syncComplete => true
  | .flowFlushPeriodic => true
  | .flowFlushComplete => true
  | .compactionPass bad => bad.all fun k => decide (k < logSlots)
  | .exportTimeout => true
  | .panelTempRead _ => true
  | .panelUpdateStart => true
  | .panelFrameComplete => true
  | .panelRailsOff => true
  | .peerOkInRise => true
  | .axisRestReached _ => true
  | .swapAxisWaitTimeout => true
  | .srcFaultShutdown _ => true
  | .adcSelfCheckFail _ => true
  | .dioCurrentLimit _ => true
  | .hostLinkLeavesL0 => true
  | .jtagWrite _ _ => true

end Sys2Proof
end

