-- ==== Sys2Proof/Safety.lean ====
section
/-! DEFINITION. What counts as a sound state of the block, and the terms in which claims speak of commands. -/

namespace Sys2Proof.Machine

open Sys2Proof

/-! ### Sound states -/

/-- Every chamber and the persistent copy of RETAIN hold their bytes in the canonical form. -/
def Grotto.Canonical (g : Grotto) : Prop := (∀ c, (g.mem.get c).wf = true) ∧ g.retainMram.wf = true

/-- Slots of the log body rise strictly from `lo` on, and each is one of its slots (R414). -/
def slotsRise : Nat → List (Nat × FlowRec) → Bool
  | _, [] => true
  | lo, (k, _) :: r => lo ≤ k && k < logSlots && slotsRise (k + 1) r

/-- The log body holds one record a slot in rising slots (R414), and no number beyond SEQ_RESERVED has been
assigned (R409). -/
def Flow.Ordered (f : Flow) : Prop := slotsRise 0 f.log = true ∧ f.headSeq ≤ f.seqReserved

/-- The record that a slot of the log body holds. -/
def Flow.at (f : Flow) (i : Nat) : Option FlowRec := (f.log.find? fun e => e.1 == i).map (·.2)

/-- Slot `i` of the log body holds the oldest record of the lowest severity that the log holds. -/
def Flow.OldestLowest (f : Flow) (i : Nat) (v : FlowRec) : Prop :=
  f.at i = some v ∧ (∀ j q, f.at j = some q → v.SEVERITY.toNat ≤ q.SEVERITY.toNat) ∧
    ∀ j q, j ≠ i → f.at j = some q → q.SEVERITY = v.SEVERITY → v.SEQ.toNat < q.SEQ.toNat

/-- The mailboxes and the request objects of application mailboxes hold their bytes in the canonical form. -/
def HostPort.Canonical (h : HostPort) : Prop := (∀ n, (h.mb.get n).data.wf = true) ∧ ∀ n, (h.appReq.get n).wf = true

/-- The invariant of the machine: its memories canonical, the event recorder in order. -/
structure State.Sound (s : State) : Prop where
  gro  : s.gro.Canonical
  flow : s.flow.Ordered
  host : s.host.Canonical

/-- Every command that waits is well formed. -/
def State.QueueWf (s : State) : Prop := ∀ c ∈ s.pending, c.wf = true

/-! ### Commands -/

/-- The request passes the mailbox layer: something is served, and LENGTH, mode, role and queue are in order
(R477). -/
structure State.Accepts (s : State) (e : CmdInfo) (rq : Request) : Prop where
  serves : s.serves rq.session = true
  check  : e.check rq (s.receive rq) = none

/-- The state in which a request has been received and answered with 0x0000 and what follows (R466). -/
def State.answered (s : State) (e : CmdInfo) (rq : Request) (body : List Byte) : State := (s.receive rq).reply e rq 0 body

end Sys2Proof.Machine
end

