-- ==== Sys2Proof/Laws/Commands.lean ====
section
/-! SUPPORT. What the mailbox layer answers once a request has passed it: one lemma for each way in which a command's own
meaning ends. -/

namespace Sys2Proof.Machine

open Sys2Proof

set_option Elab.async false

variable {s t : State} {e : CmdInfo} {rq : Request} {own : State → Served} {m : Request → State → State}

/-- A request that something serves reaches its command's meaning. -/
theorem State.Accepts.command_eq (h : s.Accepts e rq) : s.command rq m = m rq (s.receive rq) := by
  simp [State.command, h.serves]

/-- A served request whose meaning is done is answered with 0x0000. -/
theorem serve_done {body : List Byte} (hc : e.check rq s = none) (ho : own s = .done t body) :
    serve e rq s own = t.reply e rq 0 body := by
  simp [serve, hc, ho]

/-- A served request whose meaning refuses is refused. -/
theorem serve_refuse {c inst item : Nat} (hc : e.check rq s = none) (ho : own s = .refuse c inst item) :
    serve e rq s own = s.refuse e rq c inst item := by
  simp [serve, hc, ho]

/-- A served request whose meaning waits is not answered yet. -/
theorem serve_later (hc : e.check rq s = none) (ho : own s = .later t) : serve e rq s own = t := by
  simp [serve, hc, ho]

/-- A request that fails a check of the mailbox layer is refused with that check's code. -/
theorem serve_check {c : Nat} (hc : e.check rq s = some c) : serve e rq s own = s.refuse e rq c (e.inst rq) 0 := by
  simp [serve, hc]

/-- An accepted command that is done leaves what its meaning leaves, answered. -/
theorem State.Accepts.done {body : List Byte} (h : s.Accepts e rq)
    (hm : m rq (s.receive rq) = serve e rq (s.receive rq) own) (ho : own (s.receive rq) = .done t body) :
    s.command rq m = t.reply e rq 0 body := by
  rw [h.command_eq, hm, serve_done h.check ho]

/-- An accepted command that waits for its end leaves what its meaning leaves. -/
theorem State.Accepts.later (h : s.Accepts e rq)
    (hm : m rq (s.receive rq) = serve e rq (s.receive rq) own) (ho : own (s.receive rq) = .later t) :
    s.command rq m = t := by
  rw [h.command_eq, hm, serve_later h.check ho]

/-- An accepted command that is refused leaves the refusal. -/
theorem State.Accepts.refused {c inst item : Nat} (h : s.Accepts e rq)
    (hm : m rq (s.receive rq) = serve e rq (s.receive rq) own) (ho : own (s.receive rq) = .refuse c inst item) :
    s.command rq m = (s.receive rq).refuse e rq c inst item := by
  rw [h.command_eq, hm, serve_refuse h.check ho]

end Sys2Proof.Machine
end

