-- ==== Sys2Proof/Certificates/Slice0/Obligations.lean ====
section
/-! DEFINITION. The statements for the provers. -/

open Sys2Proof Sys2Proof.Machine

/-- An accepted CFG_CHAMBER_SET whose CHAMBER_ID names a chamber and whose CE_LIMIT is not 0 writes that chamber's descriptor, TIER
and BASE_KIB standing, and is answered with 0x0000; CFG_CHAMBER_GET is answered with the descriptor as last written and the base
in force; DIAG_GROTTO_STATUS is answered with the status word, the eleven chamber blocks and the four line counters, each FILL_KIB
a free value; DIAG_GROTTO_CLEAR clears the counters and the sticky bits. Nothing else of the machine changes but what receiving
and answering change. -/
def Obligations.GrottoCommandsAnswer : Prop :=
  (∀ (s : State) (rq : Request) (c : Fin 11), s.Accepts Cmd.cfgChamberSet rq →
    (ChamberDesc.ofBytes rq.payload).CHAMBER_ID.toNat = c.val → (ChamberDesc.ofBytes rq.payload).CE_LIMIT ≠ 0 →
    exec (.cfgChamberSet rq) s = .next (State.answered
      { s with gro.desc := upd s.gro.desc c fun o => { ChamberDesc.ofBytes rq.payload with TIER := o.TIER, BASE_KIB := o.BASE_KIB } }
      Cmd.cfgChamberSet rq [])) ∧
  (∀ (s : State) (rq : Request) (c : Fin 11), s.Accepts Cmd.cfgChamberGet rq → rq.u8 0 = c.val →
    exec (.cfgChamberGet rq) s = .next (s.answered Cmd.cfgChamberGet rq
      { s.gro.desc.get c with BASE_KIB := (s.gro.act.get c).BASE_KIB }.toBytes)) ∧
  (∀ (s : State) (rq : Request), s.Accepts Cmd.diagGrottoStatus rq →
    exec (.diagGrottoStatus rq) s = .next (State.answered { s with free := s.free + 11 } Cmd.diagGrottoStatus rq
      (leBytes 4 s.gro.statusWord ++ leBytes 4 0
        ++ ((idx 11).map fun c => (s.gro.stat.get c).toBytes (FILL_KIB := (Config.freeValue (s.free + c.val)).toNat)).flatten
        ++ s.gro.linesClass.toList.flatMap fun v => leBytes 8 v.toNat))) ∧
  (∀ (s : State) (rq : Request), s.Accepts Cmd.diagGrottoClear rq →
    exec (.diagGrottoClear rq) s = .next (State.answered
      { s with gro.stat := Vector.replicate 11 ChamberStat.dflt, gro.linesClass := Vector.replicate 4 0#64, gro.mramUe := false,
               gro.floorHit := false, gro.wwSeen := false, gro.ueSeen := false, gro.degraded := false }
      Cmd.diagGrottoClear rq []))

/-- With the fabric up, no request waiting and no backpressure, a clean write that one port presents, within its rights and bounds, to a
chamber other than IMAGE, RETAIN, PANEL and FW is granted in that step: its bytes stand in the chamber, every other chamber and
the persistent copy of RETAIN stand, nothing waits, and the lines count for the port's class; then the dispatcher decides. -/
def Obligations.PortWriteReachesItsChamber : Prop :=
  ∀ (s : State) (p : Fin 14) (k : Fin 4) (r : PortReq) (d : List Byte),
    s.fabricUp = true → (∀ q, s.gro.waiting.get q = []) → s.gro.backpressure = false → p ∈ classPorts.get k →
    s.permits p r = true → r.write = some d → r.chamber ∉ ([0, 2, 8, 10] : List (Fin 11)) → r.ecc = .clean → s.foundBlock r = none →
    ∃ t : State, exec (.grottoRequest [(p, r)]) s = .next t.dispatch ∧
      t.gro.mem = put s.gro.mem r.chamber ((s.gro.mem.get r.chamber).write r.off d) ∧ t.gro.retainMram = s.gro.retainMram ∧
      t.gro.waiting = s.gro.waiting ∧ t.gro.linesClass = upd s.gro.linesClass k fun n => satAdd n r.lines

/-- ARBITRATION_WINDOW_END starts the counts of granted lines again; MRAM_BUFFER_DRAIN, with no backpressure, takes one block's worth of
the oldest buffered write, which reaches the persistent copy of RETAIN if it is one of RETAIN; SCRUB_READ of a clean block inside a
pass, with no request pending, leaves the pass at the next block; SCRUB_BEHIND more than a tenth behind raises the scrubber. -/
def Obligations.GrottoEventsComplete : Prop :=
  (∀ s : State, exec .arbitrationWindowEnd s = .next { s with gro.winCount := Vector.replicate 4 0 }) ∧
  (∀ (s : State) (e : WbEntry) (r : List WbEntry), s.sys.phase ≠ .off → s.gro.backpressure = false → s.gro.wbuf = e :: r →
    e.off % 32 = 0 → e.data.length ≤ 32 →
    exec .mramBufferDrain s = .next { s with
      gro.wbuf := r
      gro.retainMram := if e.region = .retain then s.gro.retainMram.write e.off e.data else s.gro.retainMram }) ∧
  (∀ (s : State) (mram : Bool) (c : Fin 11) (rest : List (Fin 11)), s.sys.phase = .serving → s.waitingCount = 0 →
    s.gro.scrubPass.get (tier mram) = c :: rest → s.gro.scrubPos.get (tier mram) + 1 < s.passBlocks mram c →
    ∃ t : State, exec (.scrubRead mram .clean) s = .next t.dispatch ∧
      t.gro.scrubPos = put s.gro.scrubPos (tier mram) (s.gro.scrubPos.get (tier mram) + 1) ∧ t.gro.scrubPass = s.gro.scrubPass ∧
      t.gro.scrubActive = true ∧ t.gro.mem = s.gro.mem) ∧
  (∀ s : State, s.sys.phase = .serving → (s.passBehind false 9 = true ∨ s.passBehind true 9 = true) →
    exec .scrubBehind s = .next { s with gro.scrubRaised := true })

/-- A CFG_CHAMBER_SET of the right length in any mode other than STOP is refused with 0x0208. One that the mailbox layer accepts, in STOP, is refused with
0x0202 where CHAMBER_ID is above 10 or CE_LIMIT is 0, and a CFG_CHAMBER_GET that it accepts, in whatever mode, where CHAMBER_ID is above 10. Every other
CFG_CHAMBER_SET is accepted whatever its QUOTA_KIB, which the descriptor then holds, and whatever its TIER and BASE_KIB, which stand as they were. -/
def Obligations.ChamberDescriptorsAreLockedAndChecked : Prop :=
  (∀ (s : State) (rq : Request), s.serves rq.session = true → rq.payload.length = 16 → s.sys.mode ≠ .stop →
    exec (.cfgChamberSet rq) s = .next ((s.receive rq).refuse Cmd.cfgChamberSet rq 0x0208 (rq.u8 0) 0)) ∧
  (∀ (s : State) (rq : Request) (d : ChamberDesc), s.Accepts Cmd.cfgChamberSet rq → ChamberDesc.ofBytes rq.payload = d → s.sys.mode = .stop ∧
    (10 < d.CHAMBER_ID.toNat ∨ d.CE_LIMIT = 0#16 →
      exec (.cfgChamberSet rq) s = .next ((s.receive rq).refuse Cmd.cfgChamberSet rq 0x0202 d.CHAMBER_ID.toNat 0)) ∧
    (∀ c : Fin 11, d.CHAMBER_ID.toNat = c.val → d.CE_LIMIT ≠ 0#16 → ∃ t : State,
      exec (.cfgChamberSet rq) s = .next (State.answered t Cmd.cfgChamberSet rq []) ∧ (t.gro.desc.get c).QUOTA_KIB = d.QUOTA_KIB ∧
      (t.gro.desc.get c).CE_LIMIT = d.CE_LIMIT ∧ (t.gro.desc.get c).TIER = (s.gro.desc.get c).TIER ∧
      (t.gro.desc.get c).BASE_KIB = (s.gro.desc.get c).BASE_KIB ∧ ∀ k, k ≠ c → t.gro.desc.get k = s.gro.desc.get k)) ∧
  (∀ (s : State) (rq : Request), s.Accepts Cmd.cfgChamberGet rq → 10 < rq.u8 0 →
    exec (.cfgChamberGet rq) s = .next ((s.receive rq).refuse Cmd.cfgChamberGet rq 0x0202 (rq.u8 0) 0))

/-- An accepted CFG_POWER_SET in range writes the descriptor as written last and is answered with 0x0000, and one out of range is refused
with 0x0209; CFG_POWER_GET is answered with the descriptor; DIAG_POWER_STATUS with the latest budget record and the status fields;
DIAG_POWER_CLEAR clears the sticky bits, the counters but E3_COUNT, the extremes and the level times, and keeps HOLDUP_CAP. -/
def Obligations.PowerCommandsAnswer : Prop :=
  (∀ (s : State) (rq : Request), s.Accepts Cmd.cfgPowerSet rq → (PowerDesc.ofBytes rq.payload).inRange = true →
    exec (.cfgPowerSet rq) s = .next (State.answered { s with pow.desc := PowerDesc.ofBytes rq.payload } Cmd.cfgPowerSet rq [])) ∧
  (∀ (s : State) (rq : Request), s.Accepts Cmd.cfgPowerSet rq → (PowerDesc.ofBytes rq.payload).inRange = false →
    exec (.cfgPowerSet rq) s = .next ((s.receive rq).refuse Cmd.cfgPowerSet rq 0x0209 0xFFFF 0)) ∧
  (∀ (s : State) (rq : Request), s.Accepts Cmd.cfgPowerGet rq →
    exec (.cfgPowerGet rq) s = .next (s.answered Cmd.cfgPowerGet rq s.pow.desc.toBytes)) ∧
  (∀ (s : State) (rq : Request), s.Accepts Cmd.diagPowerStatus rq →
    exec (.diagPowerStatus rq) s = .next (s.answered Cmd.diagPowerStatus rq ((s.gro.mem.get 0).read 0 24 ++ s.pow.stat.toBytes))) ∧
  (∀ (s : State) (rq : Request), s.Accepts Cmd.diagPowerClear rq →
    ∃ p : Power, exec (.diagPowerClear rq) s = .next (State.answered { s with pow := p } Cmd.diagPowerClear rq []) ∧
      p.stat.E1_SEEN = 0#1 ∧ p.stat.E2_SEEN = 0#1 ∧ p.stat.FEED_A_LOST_SEEN = 0#1 ∧ p.stat.FEED_B_LOST_SEEN = 0#1 ∧
      p.stat.SENSOR_FAULT_SEEN = 0#1 ∧ p.stat.VIN_HIGH_SEEN = 0#1 ∧ p.stat.E1_COUNT = 0#32 ∧ p.stat.E2_COUNT = 0#32 ∧
      p.stat.H1_SECONDS = 0#32 ∧ p.stat.H2_SECONDS = 0#32 ∧ p.stat.H3_SECONDS = 0#32 ∧
      p.stat.E3_COUNT = s.pow.stat.E3_COUNT ∧ p.stat.HOLDUP_CAP = s.pow.stat.HOLDUP_CAP ∧ p.energy = s.pow.energy ∧ p.heat = s.pow.heat)

/-- While powered, with no power-fail sequence running and VIN below 17.0 V, at or above 15.0 V, a rise from E0 leaves E1 with the boost
limited, counted, with a WARNING record, and published; below 15.0 V and at or above 12.0 V it leaves E2 with the E3 timer started, boost
stopped and an ALARM record; below 12.0 V, or after 10 ms of E2, E3 is entered: its power-fail record waits and every block is held in
reset. After 1 ms at 16.0 V E2 falls to E1 with its duration kept, and after 100 ms at 17.5 V E1 falls to E0, each with a NOTICE. After
300 µs without a publication the budget counts as stale. -/
def Obligations.EnergyLevelsMove : Prop :=
  (∀ s : State, s.powered = true → s.pow.pfStage = .idle → s.pow.energy = .e0 → 15000 ≤ s.pow.vin → s.pow.vin < 17000 →
    exec .energyLevelRise s = .next (State.publish (State.levelEvent
      { s with pow := { s.pow with
        energy := .e1, boostLimited := true, boostStopped := false, e2Since := none,
        stat := { s.pow.stat with E1_SEEN := 1#1, E1_COUNT := sat s.pow.stat.E1_COUNT } } } 3 s.pow.heat.num 0))) ∧
  (∀ s : State, s.powered = true → s.pow.pfStage = .idle → (s.pow.energy = .e0 ∨ s.pow.energy = .e1) → 12000 ≤ s.pow.vin → s.pow.vin < 15000 →
    exec .energyLevelRise s = .next (State.publish (State.levelEvent
      { s with pow := { s.pow with
        energy := .e2, boostLimited := true, boostStopped := true, e2Since := some s.now,
        stat := s.pow.stat.entered s.pow.energy.num 2 } } 4 s.pow.heat.num s.pow.energy.num))) ∧
  (∀ s : State, s.powered = true → s.pow.pfStage = .idle → s.pow.energy ≠ .e3 → s.pow.vin < 12000 →
    ∃ t : State, exec .energyLevelRise s = .next t ∧ t.sys.phase = .held ∧ t.flow.pfRecord.isSome = true ∧ t.flow.flushOn = false) ∧
  (∀ s : State, s.pow.energy = .e2 → s.ran s.pow.e2Since (ms 10) = true →
    ∃ t : State, exec .e3TimerExpire s = .next t ∧ t.sys.phase = .held ∧ t.flow.pfRecord.isSome = true ∧ t.flow.flushOn = false) ∧
  (∀ (s : State) (a : Nat), s.pow.energy = .e2 → s.pow.e2Since = some a → s.ran s.pow.e2OkSince (ms 1) = true →
    exec .e2Exit s = .next (State.levelEvent
      { s with pow := { s.pow with
        energy := .e1, e2Since := none, boostStopped := false, stat := { s.pow.stat with LAST_E2_US := BitVec.ofNat 32 ((s.now - a) / us 1) } } }
      2 s.pow.heat.num 2)) ∧
  (∀ s : State, s.pow.energy = .e1 → s.ran s.pow.e1OkSince (ms 100) = true →
    exec .e1Exit s = .next (State.levelEvent { s with pow := { s.pow with energy := .e0, boostLimited := false } } 2 s.pow.heat.num 1)) ∧
  (∀ s : State, s.powered = true → s.pow.budgetStale = false → s.pow.publishAt + us 300 < s.now →
    exec .budgetStale s = .next (State.levelChanged { s with pow := { s.pow with budgetStale := true } }).holdCrucible)

/-- At the end of stage 1 the power-fail record and then the records chosen are in the log body, the write buffer has drained and stage 2
begins; at the end of stage 2 CLEAN is set and the module waits; a store that runs down in the wait leaves the module OFF. A logic-rail
fault, and a thermal trip after 1 ms at 125 °C, lead in firmware phase or while commands are served to HALT with the supervisor stopped. -/
def Obligations.PowerFailSequenceRuns : Prop :=
  (∀ s : State, s.pow.pfStage = .stage1 →
    ∃ t : State, exec .powerFailStage1End s = .next t ∧ t.pow.pfStage = .stage2 ∧ t.flow.staging = [] ∧ t.flow.pfRecord = none ∧
      t.gro.wbuf = [] ∧ t.gro.retainMram = s.gro.drainAll.retainMram ∧ t.tm.lastTs = s.ts) ∧
  (∀ s : State, s.pow.pfStage = .stage2 →
    exec .powerFailStage2End s = .next { s with
      pnl := s.pnl.powerDown, sys.clean := true, pow := { s.pow with pfStage := .wait, waitOkSince := none } }) ∧
  (∀ s : State, s.pow.pfStage = .wait →
    exec .holdupDepleted s = .next { s with sys := { s.sys with mode := .off, phase := .off }, pow := { s.pow with pfStage := .idle } }) ∧
  (∀ (s : State) (rail : Nat), (s.sys.phase = .firmware ∨ s.sys.phase = .serving) → s.sys.mode ≠ .halt →
    exec (.logicRailFault rail) s = .next (s.enterHalt (.rail rail) true)) ∧
  (∀ s : State, (s.sys.phase = .firmware ∨ s.sys.phase = .serving) → s.sys.mode ≠ .halt → s.ran s.pow.die125Since (ms 1) = true →
    exec .thermalTrip s = .next (s.enterHalt .thermal true))

/-- While powered: PF_WARN sets below 16.0 V with a WARNING record and clears at 16.5 V; a feed expected and below 18.0 V for FEED_LOSS_MS is
recorded as lost with an ALARM; VIN_HIGH sets after 10 ms with a WARNING and clears after 100 ms with a NOTICE; with both links silent VIN is
unknown; a measured store of 12.5 mF is ready once VIN is 18.0 V, one of 8.5 mF is ready and weak with an ALARM, a smaller one is not ready,
with an ALARM. -/
def Obligations.SupplyEventsComplete : Prop :=
  (∀ s : State, s.powered = true → s.pow.pfWarn = false → s.pow.vin < 16000 →
    exec .pfWarnChange s = .next (State.supplyEvent { s with pow := { s.pow with pfWarn := true } } 3)) ∧
  (∀ s : State, s.powered = true → s.pow.pfWarn = true → 16500 ≤ s.pow.vin →
    exec .pfWarnChange s = .next { s with pow := { s.pow with pfWarn := false } }) ∧
  (∀ (s : State) (feed : Fin 2), s.powered = true → s.pow.feedLost.get feed = false →
    s.ran (s.pow.feedLowSince.get feed) (ms s.pow.act.FEED_LOSS_MS.toNat) = true →
    exec (.feedLoss feed) s = .next (State.supplyEvent
      { s with pow := { s.pow with
        feedLost := put s.pow.feedLost feed true,
        stat := if feed = 0 then { s.pow.stat with FEED_A_LOST_SEEN := 1#1 } else { s.pow.stat with FEED_B_LOST_SEEN := 1#1 } } } 4)) ∧
  (∀ s : State, s.powered = true → s.pow.vinHigh = false → s.ran s.pow.vinHighSince (ms 10) = true →
    exec .vinHighSet s = .next (State.supplyEvent
      { s with pow := { s.pow with vinHigh := true, stat := { s.pow.stat with VIN_HIGH_SEEN := 1#1 } } } 3)) ∧
  (∀ s : State, s.powered = true → s.pow.vinHigh = true → s.ran s.pow.vinHighOkSince (ms 100) = true →
    exec .vinHighClear s = .next (State.supplyEvent { s with pow := { s.pow with vinHigh := false } } 2)) ∧
  (∀ s : State, s.powered = true → s.linkSilent 0 = true → s.linkSilent 2 = true →
    ∃ p : Power, exec .vinUnknownSet s = .next { s with pow := p } ∧ p.vinUnknown = true ∧ p.vin < 15000 ∧ p.energy = s.pow.energy) ∧
  (∀ (s : State) (uF : Nat), s.powered = true → 12500 ≤ uF →
    exec (.holdupMeasure uF) s = .next { s with pow := { s.pow with
      stat := { s.pow.stat with HOLDUP_CAP := BitVec.ofNat 16 (min 65535 (uF / 10)) }
      holdupWeak := false
      holdupReady := decide (18000 ≤ s.pow.vin) } }) ∧
  (∀ (s : State) (uF : Nat), s.powered = true → uF < 12500 →
    exec (.holdupMeasure uF) s = .next (State.supplyEvent { s with pow := { s.pow with
      stat := { s.pow.stat with HOLDUP_CAP := BitVec.ofNat 16 (min 65535 (uF / 10)) }
      holdupWeak := decide (8500 ≤ uF)
      holdupReady := decide (8500 ≤ uF) } } 4))

/-- While powered and with no sensor fault new or standing, BUDGET_PUBLISH with readings whose entry condition is above the present level raises
it at once with a WARNING, an ALARM at H3, and publishes; with no higher entry condition it publishes alone. After its exit condition has
held for 1 s a level above H0 falls one step with a NOTICE. -/
def Obligations.HeatLevelsPublish : Prop :=
  (∀ (s : State) (m : MonitorSample) (p : Power), s.powered = true → (s.pow.take m s.now).raiseHeat s.now = p → p.heatFloor = 0 →
    exec (.budgetPublish m) s = .next (State.swapOnRequest (State.publish
      (let s1 : State := { s with pow := { p with thermFault := false, swapReq := State.swapReqNow { s with pow := { p with thermFault := false } } } }
       if s.pow.heat.num < p.heat.num then s1.levelEvent (if p.heat = .h3 then 4 else 3) s.pow.heat.num p.energy.num else s1)))) ∧
  (∀ s : State, 0 < s.pow.heat.num → s.pow.heatExit s.pow.heat.num = true → s.ran s.pow.heatOkSince (sec 1) = true →
    ∃ s1 : State, exec .heatLevelFall s = .next (s1.levelEvent 2 s.pow.heat.num s.pow.energy.num) ∧
      s1.pow.heat = Heat.ofNum (s.pow.heat.num - 1) ∧ s1.pow.energy = s.pow.energy)

/-- PRG_TASK_SET in range writes the task's descriptor and out of range is refused with 0x0301; PRG_TASK_GET and PRG_TASK_STATUS answer with
the descriptor and the status; PRG_TASK_RESUME of a faulted cyclic task asks for its restart and of one without FAULT is refused with
0x0303; PRG_TASK_CLEAR clears one task's counters or every task's; PRG_REMOTE_SET in range, with room, writes the descriptor;
PRG_REMOTE_STATUS answers with the station's status. -/
def Obligations.TaskCommandsAnswer : Prop :=
  (∀ (s : State) (rq : Request) (t : Fin 128), s.Accepts Cmd.prgTaskSet rq → (TaskDesc.ofBytes rq.payload).TASK_ID.toNat = t.val →
    (TaskDesc.ofBytes rq.payload).inRange = true →
    exec (.prgTaskSet rq) s = .next (State.answered
      { s with tk.task := upd s.tk.task t fun k => { k with desc := TaskDesc.ofBytes rq.payload } } Cmd.prgTaskSet rq [])) ∧
  (∀ (s : State) (rq : Request) (t : Fin 128), s.Accepts Cmd.prgTaskSet rq → (TaskDesc.ofBytes rq.payload).TASK_ID.toNat = t.val →
    (TaskDesc.ofBytes rq.payload).inRange = false →
    exec (.prgTaskSet rq) s = .next ((s.receive rq).refuse Cmd.prgTaskSet rq 0x0301 t.val 0)) ∧
  (∀ (s : State) (rq : Request) (t : Fin 128), s.Accepts Cmd.prgTaskGet rq → rq.u8 0 = t.val →
    exec (.prgTaskGet rq) s = .next (s.answered Cmd.prgTaskGet rq
      (TaskDesc.toBytes { (s.tk.task.get t).desc with TASK_ID := BitVec.ofNat 8 t.val }))) ∧
  (∀ (s : State) (rq : Request) (t : Fin 128), s.Accepts Cmd.prgTaskStatus rq → rq.u8 0 = t.val →
    exec (.prgTaskStatus rq) s = .next (s.answered Cmd.prgTaskStatus rq
      ((s.tk.task.get t).stat.toBytes (STATE := (s.tk.task.get t).run.num) (ACTUAL_PERIOD_US := (s.tk.task.get t).actualPeriod)))) ∧
  (∀ (s : State) (rq : Request) (t : Fin 128), s.Accepts Cmd.prgTaskResume rq → rq.u8 0 = t.val →
    (s.tk.task.get t).stat.FAULT = 1#1 → (s.tk.task.get t).desc.KIND = 1#8 →
    exec (.prgTaskResume rq) s = .next (State.answered
      { s with tk.task := upd s.tk.task t fun k => { k with resume := true } } Cmd.prgTaskResume rq [])) ∧
  (∀ (s : State) (rq : Request) (t : Fin 128), s.Accepts Cmd.prgTaskResume rq → rq.u8 0 = t.val → (s.tk.task.get t).stat.FAULT = 0#1 →
    exec (.prgTaskResume rq) s = .next ((s.receive rq).refuse Cmd.prgTaskResume rq 0x0303 t.val 0)) ∧
  (∀ (s : State) (rq : Request) (t : Fin 128), s.Accepts Cmd.prgTaskClear rq → rq.u8 0 = t.val →
    exec (.prgTaskClear rq) s = .next (State.answered
      { s with tk.task := upd s.tk.task t fun k => { k with stat := { k.stat with
        CYCLE_COUNT := 0#32, OVERRUN_COUNT := 0#32, HELD_COUNT := 0#32, EXEC_US_MAX := 0#32, EVT_COALESCED := 0#16, UNDELIVERED_COUNT := 0#16 } } }
      Cmd.prgTaskClear rq [])) ∧
  (∀ (s : State) (rq : Request), s.Accepts Cmd.prgTaskClear rq → rq.u8 0 = 255 →
    exec (.prgTaskClear rq) s = .next (State.answered
      { s with tk.task := s.tk.task.map fun k => { k with stat := k.stat.cleared } } Cmd.prgTaskClear rq [])) ∧
  (∀ (s : State) (rq : Request), s.Accepts Cmd.prgRemoteSet rq → (RemoteDesc.ofBytes rq.payload).inRange = true →
    (remotePut s.tk.remotes (RemoteDesc.ofBytes rq.payload)).length ≤ 256 →
    exec (.prgRemoteSet rq) s = .next (State.answered
      { s with tk.remotes := remotePut s.tk.remotes (RemoteDesc.ofBytes rq.payload) } Cmd.prgRemoteSet rq [])) ∧
  (∀ (s : State) (rq : Request) (r : Remote), s.Accepts Cmd.prgRemoteStatus rq → rq.u16 0 ≤ 1023 →
    (s.tk.remotes.find? fun r => r.desc.STATION_ADDR.toNat == rq.u16 0) = some r →
    exec (.prgRemoteStatus rq) s = .next (s.answered Cmd.prgRemoteStatus rq (r.stat.toBytes (STATE := r.state.num))))

/-- At PERIOD_BOUNDARY every task due, in order of priority and number, first has its cycle closed, then held writes, splits and joins take
effect, then every task due opens its next cycle, then the dispatcher decides. Closing a finished cycle commits it; an unfinished cycle of a
task that does not abandon and has not reached its limit counts one overrun, with OVERRUN set, and misses its commit; at the limit the
task faults. A task held by the ladder makes no latch and counts HELD_COUNT. -/
def Obligations.BoundaryRunsCommitsThenLatches : Prop :=
  (∀ (s : State) (t : Fin 128) (ts : List (Fin 128)), s.dueTasks = t :: ts →
    exec .periodBoundary s = .next (State.dispatch ((t :: ts).foldl State.openCycle
      ((idx 4).foldl (fun s l => (s.splitNow l).joinNow l) ((t :: ts).foldl State.closeCycle s).applyUnowned)))) ∧
  (∀ (s : State) (t : Fin 128) (r : TaskRun), s.hasTask t = true → s.midCycle t = false → (s.tk.task.get t).stat.FAULT = 0#1 →
    (s.tk.task.get t).stat.DEBUG_HALT = 0#1 → (s.tk.task.get t).cycleOpen = true → (s.tk.task.get t).heldCycle = false →
    (s.tk.task.get t).restoreAt = none → (s.tk.task.get t).finished = some r → (s.tk.task.get t).bufHeld = false →
    s.closeCycle t = (s.commitRun t r).inTime t) ∧
  (∀ (s : State) (t : Fin 128), s.hasTask t = true → s.midCycle t = false → (s.tk.task.get t).stat.FAULT = 0#1 →
    (s.tk.task.get t).stat.DEBUG_HALT = 0#1 → (s.tk.task.get t).cycleOpen = true → (s.tk.task.get t).heldCycle = false →
    (s.tk.task.get t).restoreAt = none → (s.tk.task.get t).finished = none → (s.tk.task.get t).abandons = false →
    s.closeCycle t =
      (let s1 : State := { s with tk.task := upd s.tk.task t fun k =>
          { k with consecOvr := k.consecOvr + 1, stat := { k.stat with OVERRUN_COUNT := sat k.stat.OVERRUN_COUNT } } }
       if (s.tk.task.get t).desc.OVERRUN_LIMIT.toNat ≤ (s.tk.task.get t).consecOvr + 1 then s1.taskFault t false
       else State.missCommit { s1 with tk.task := upd s1.tk.task t fun k => { k with stat := { k.stat with OVERRUN := 1#1 } } } t)) ∧
  (∀ (s : State) (t : Fin 128), s.hasTask t = true → s.pr.swapping = false → s.pr.yielding = false → (s.tk.task.get t).stat.DEBUG_HALT = 0#1 →
    (s.tk.task.get t).cycleOpen = false → (s.tk.task.get t).stat.FAULT = 0#1 → (s.effectOn t).holds = true →
    s.openCycle t = { s with tk.task := upd s.tk.task t fun k =>
      { k with stretchWait := false, stat := { k.stat with HELD := 1#1, HELD_COUNT := sat k.stat.HELD_COUNT, STRETCHED := 0#1 } } })

/-- After the buffer hold of R85 a held event task commits, a cyclic one has its buffer written; past EVT_LIMIT_US an event task that is not
abandoned counts an overrun below its limit and runs on; an outstanding trigger whose gap is over runs the task; a station without a valid
frame for its absence time becomes ABSENT with an ALARM and its values NOT_AVAILABLE and STALE; a value older than twice PRODUCE_US
becomes STALE; the frames of a task's last commit go out to the stations that take them. -/
def Obligations.EventTaskTimersComplete : Prop :=
  (∀ (s : State) (t : Fin 128), (s.tk.task.get t).bufHeld = true → (s.tk.task.get t).bufFreeAt ≤ s.now → s.hasTask t = true →
    exec (.bufferHoldExpire t) s = .next
      (let s1 : State := { s with tk.task := upd s.tk.task t fun k => { k with bufHeld := false } }
       if (s.tk.task.get t).desc.KIND = 2#8 then (s1.endEventRun t).dispatch else s1)) ∧
  (∀ (s : State) (t : Fin 128), s.hasTask t = true → (s.tk.task.get t).desc.KIND = 2#8 → (s.tk.task.get t).begun = true →
    (s.tk.task.get t).stat.OVERRUN = 0#1 → (s.tk.task.get t).stat.DEBUG_HALT = 0#1 →
    s.since (s.tk.task.get t).startAt (us (s.tk.task.get t).desc.EVT_LIMIT_US.toNat) = true → (s.tk.task.get t).abandons = false →
    (s.tk.task.get t).consecOvr + 1 < (s.tk.task.get t).desc.OVERRUN_LIMIT.toNat →
    exec (.evtLimitExpire t) s = .next { s with tk.task := upd s.tk.task t fun k =>
      { k with consecOvr := k.consecOvr + 1, stat := { k.stat with OVERRUN_COUNT := sat k.stat.OVERRUN_COUNT, OVERRUN := 1#1 } } }) ∧
  (∀ (s : State) (t : Fin 128) (a : Nat), (s.tk.task.get t).gapUntil = some a → a ≤ s.now → s.hasTask t = true →
    (s.tk.task.get t).trigger.isSome = true → (s.tk.task.get t).run = .idle → (s.tk.task.get t).cycleOpen = false →
    (s.effectOn t).holds = false → (s.tk.task.get t).gapEnd ≤ s.now →
    exec (.minGapExpire t) s = .next (State.dispatch { s with tk.task := upd s.tk.task t fun k =>
      { k with run := .ready, readyAt := s.now, trigger := none, gapUntil := none } })) ∧
  (∀ (s : State) (a : BitVec 16) (r : Remote), (s.tk.remotes.find? fun r => r.desc.STATION_ADDR == a) = some r → r.state ≠ .absent →
    s.since r.lastRx (us r.desc.absentUs) = true →
    exec (.remoteAbsent a) s = .next (State.remoteEvent (State.setRemote
      ((s.importsOf a).foldl (fun s i => s.setQuality i.off (s.qualityAt i.off &&& qForced ||| qNone ||| qStale)) s) a fun r =>
        { r with state := .absent, fresh := [], stat := { r.stat with ABSENT_COUNT := sat r.stat.ABSENT_COUNT } }) 4 a r.state .absent)) ∧
  (∀ (s : State) (a obj : BitVec 16) (r : Remote) (i : ImportDecl), (s.tk.remotes.find? fun r => r.desc.STATION_ADDR == a) = some r →
    s.importsOf a = [i] → i.object = obj → (s.writtenAt i.off).toNat + 2000 * r.desc.PRODUCE_US.toNat < s.ts.toNat →
    exec (.remoteValueStale a obj) s = .next (s.setQuality i.off (s.qualityAt i.off ||| qStale))) ∧
  (∀ (s : State) (t : Fin 128), s.inRun = true → s.pr.role ≠ .quarantined →
    ∃ frames : List (List Byte), exec (.processDataSend t) s = .next (State.sendFrames
      { s with tk.task := upd s.tk.task t fun k => { k with sentFrom := [] } } frames)) ∧
  (∀ (s : State) (a : BitVec 16) (epoch : BitVec 64) (obj : BitVec 16) (data : List Byte) (r : Remote), s.firmwareUp = true →
    State.remoteFor (State.heardOwner (State.notePresence s a) a true epoch) a = some r → r.state = .absent →
    s.tm.msgQueue = [] →
    exec (.processDataReceive a true epoch obj data) s = .next
      (State.importData (State.heardOwner (State.notePresence s a) a true epoch) r epoch obj data))

/-- PRG_LANE_SPLIT that R123 does not refuse takes effect at acceptance in STOP and is pending in RUN; a split of a lane already split is
refused with 0x0309; PRG_LANE_JOIN of a split lane joins it in STOP and is pending in RUN, and of a lane that is not split is refused with
0x0309; PRG_LANE_STATUS and PRG_TEMPER_STATUS answer with their layouts; PRG_TEMPER_CLEAR clears the counters, LAST_CP and UNDO_LINES_MAX
and leaves LANE_FAULTED. -/
def Obligations.LaneCommandsAnswer : Prop :=
  (∀ (s : State) (rq : Request) (l : Fin 4), s.Accepts Cmd.prgLaneSplit rq → rq.u8 0 = l.val → (s.lane l).LANE_FAULT = 0#1 →
    (s.lane l).SPLIT = 0#1 → (s.lane l).SPLIT_PENDING = 0#1 → s.splitRefusal l = none →
    exec (.prgLaneSplit rq) s = .next (State.answered
      { s with dbg.lane := upd s.dbg.lane l fun x => { x with stat :=
          if s.sys.mode = .stop then { x.stat with SPLIT := 1#1, SPLIT_PENDING := 0#1, SPLIT_COUNT := sat x.stat.SPLIT_COUNT }
          else { x.stat with SPLIT_PENDING := 1#1 } } }
      Cmd.prgLaneSplit rq [])) ∧
  (∀ (s : State) (rq : Request) (l : Fin 4), s.Accepts Cmd.prgLaneSplit rq → rq.u8 0 = l.val → (s.lane l).LANE_FAULT = 0#1 →
    (s.lane l).SPLIT = 1#1 → exec (.prgLaneSplit rq) s = .next ((s.receive rq).refuse Cmd.prgLaneSplit rq 0x0309 l.val 0)) ∧
  (∀ (s : State) (rq : Request) (l : Fin 4), s.Accepts Cmd.prgLaneJoin rq → rq.u8 0 = l.val → (s.lane l).SPLIT = 1#1 →
    exec (.prgLaneJoin rq) s = .next (State.answered
      { s with dbg.lane := upd s.dbg.lane l fun x => { x with stat :=
          if s.sys.mode = .stop then { x.stat with SPLIT := 0#1, JOIN_PENDING := 0#1 } else { x.stat with JOIN_PENDING := 1#1 } } }
      Cmd.prgLaneJoin rq [])) ∧
  (∀ (s : State) (rq : Request) (l : Fin 4), s.Accepts Cmd.prgLaneJoin rq → rq.u8 0 = l.val → (s.lane l).SPLIT = 0#1 →
    exec (.prgLaneJoin rq) s = .next ((s.receive rq).refuse Cmd.prgLaneJoin rq 0x0309 l.val 0)) ∧
  (∀ (s : State) (rq : Request) (l : Fin 4), s.Accepts Cmd.prgLaneStatus rq → rq.u8 0 = l.val →
    exec (.prgLaneStatus rq) s = .next (s.answered Cmd.prgLaneStatus rq
      ((s.lane l).toBytes (SAFETY_ACTIVE := bit (s.safetyActive l)) (STREAM0_TASK := s.streamTask ⟨l.val, by omega⟩)
        (STREAM1_TASK := s.streamTask ⟨l.val + 4, by omega⟩)))) ∧
  (∀ (s : State) (rq : Request) (t : Fin 128), s.Accepts Cmd.prgTemperStatus rq → rq.u8 0 = t.val →
    (s.tk.task.get t).desc.SAFETY = 1#1 → (s.tk.task.get t).desc.KIND ≠ 0#8 →
    exec (.prgTemperStatus rq) s = .next (s.answered Cmd.prgTemperStatus rq (s.dbg.temper.get t).stat.toBytes)) ∧
  (∀ (s : State) (rq : Request) (t : Fin 128), s.Accepts Cmd.prgTemperClear rq → rq.u8 0 = t.val →
    exec (.prgTemperClear rq) s = .next (State.answered
      { s with dbg.temper := upd s.dbg.temper t fun x => { x with stat := { x.stat with
          LAST_CP := 0#3, MISMATCH_COUNT := 0#32, REEXEC_COUNT := 0#32, HOLD_COUNT := 0#32, RANGE_ESCAPE_COUNT := 0#32, UNDO_LINES_MAX := 0#16 } } }
      Cmd.prgTemperClear rq []))

/-- For a handle of the running program and a matching SIZE, PRG_VAR_READ is answered with the variable's value, and with its quality where it
lies in IMAGE; PRG_VAR_WRITE to a TASK or RETAIN variable, by a role that suffices, writes it in STOP and in RUN holds it for the owner's
next cycle or for the next boundary. An unknown handle is refused with 0x030C, a wrong SIZE with 0x030D, a write elsewhere with 0x030E.
PRG_IMAGE_LOAD at offset 0 begins a new image; PRG_IMAGE_INFO answers with its SHA-256. -/
def Obligations.VariableCommandsAnswer : Prop :=
  (∀ (s : State) (rq : Request) (v : VarDecl), s.Accepts Cmd.prgVarRead rq → s.varOf (VarReq.ofBytes rq.payload).HANDLE = some v →
    (VarReq.ofBytes rq.payload).SIZE = v.size →
    exec (.prgVarRead rq) s = .next (s.answered Cmd.prgVarRead rq (ValReply.toBytes { ValReply.dflt with
      VALUE := BitVec.ofNat 64 (if v.chamber = 0 then s.valueAt v.off v.size.toNat else (s.gro.mem.get v.chamber).num v.off v.size.toNat)
      QUAL := if v.chamber = 0 then s.qualityAt v.off else 0#4 }))) ∧
  (∀ (s : State) (rq : Request), s.Accepts Cmd.prgVarRead rq → s.varOf (VarReq.ofBytes rq.payload).HANDLE = none →
    exec (.prgVarRead rq) s = .next ((s.receive rq).refuse Cmd.prgVarRead rq 0x030C 0xFFFF (VarReq.ofBytes rq.payload).HANDLE.toNat)) ∧
  (∀ (s : State) (rq : Request) (v : VarDecl), s.Accepts Cmd.prgVarWrite rq → s.varOf (VarReq.ofBytes rq.payload).HANDLE = some v →
    (VarReq.ofBytes rq.payload).SIZE ≠ v.size →
    exec (.prgVarWrite rq) s = .next ((s.receive rq).refuse Cmd.prgVarWrite rq 0x030D 0xFFFF (VarReq.ofBytes rq.payload).HANDLE.toNat)) ∧
  (∀ (s : State) (rq : Request) (v : VarDecl), s.Accepts Cmd.prgVarWrite rq → s.varOf (VarReq.ofBytes rq.payload).HANDLE = some v →
    (VarReq.ofBytes rq.payload).SIZE = v.size → v.chamber ≠ 1 → v.chamber ≠ 2 →
    exec (.prgVarWrite rq) s = .next ((s.receive rq).refuse Cmd.prgVarWrite rq 0x030E 0xFFFF (VarReq.ofBytes rq.payload).HANDLE.toNat)) ∧
  (∀ (s : State) (rq : Request) (v : VarDecl), s.Accepts Cmd.prgVarWrite rq → s.varOf (VarReq.ofBytes rq.payload).HANDLE = some v →
    (VarReq.ofBytes rq.payload).SIZE = v.size → (v.chamber = 1 ∨ v.chamber = 2) → (v.safetyRead = true → 3 ≤ s.roleOf rq) → s.sys.mode = .stop →
    exec (.prgVarWrite rq) s = .next (State.reply
      (State.writeChamber (s.receive rq) v.chamber v.off (leBytes v.size.toNat (VarReq.ofBytes rq.payload).VALUE.toNat)) Cmd.prgVarWrite rq 0 [])) ∧
  (∀ (s : State) (rq : Request) (v : VarDecl) (t : Fin 128), s.Accepts Cmd.prgVarWrite rq →
    s.varOf (VarReq.ofBytes rq.payload).HANDLE = some v → (VarReq.ofBytes rq.payload).SIZE = v.size → (v.chamber = 1 ∨ v.chamber = 2) →
    (v.safetyRead = true → 3 ≤ s.roleOf rq) → s.sys.mode = .run → v.owner = some t →
    exec (.prgVarWrite rq) s = .next (State.answered
      { s with tk.task := upd s.tk.task t fun k =>
          { k with varWrites := k.varWrites ++ [((VarReq.ofBytes rq.payload).HANDLE, (VarReq.ofBytes rq.payload).VALUE)] } } Cmd.prgVarWrite rq [])) ∧
  (∀ (s : State) (rq : Request), s.Accepts Cmd.prgImageLoad rq → rq.u32 0 = 0 →
    exec (.prgImageLoad rq) s = .next (State.answered
      { s with tk := { s.tk with image := Memory.write [] 0 (rq.payload.drop 4), imageLen := (rq.payload.drop 4).length, prog := ProgInfo.empty },
               olc := { s.olc with running := none, mixed := false } } Cmd.prgImageLoad rq [])) ∧
  (∀ (s : State) (rq : Request), s.Accepts Cmd.prgImageInfo rq →
    exec (.prgImageInfo rq) s = .next (s.answered Cmd.prgImageInfo rq
      (leBytes 32 (if s.tk.imageLen = 0 then 0 else (Config.sha256 s.programBytes).toNat))))

/-- PRG_BREAK_SET on an instruction of a used task, by a role that suffices and with a breakpoint free, arms the lowest free one and returns its
number; PRG_BREAK_CLEAR of one that is not free frees it; PRG_BREAK_RELEASE and PRG_STEP of a task that is not halted are refused with
0x0312; PRG_STEP of a halted task lets it run COUNT instructions; PRG_BREAK_RELEASE of a halted task outside the safety class resumes it;
PRG_BREAK_STATUS answers with the sixteen entries. A running task that reaches an armed breakpoint is halted there with DEBUG_HALT, and the
end of a step halts it again. -/
def Obligations.BreakpointsArmHaltAndRelease : Prop :=
  (∀ (s : State) (rq : Request) (t : Fin 128) (d : TaskDecl) (b : Fin 16), s.Accepts Cmd.prgBreakSet rq → rq.u8 0 = t.val →
    (s.tk.task.get t).desc.KIND ≠ 0#8 → s.declOf t = some d → d.instrs.contains (BitVec.ofNat 32 (rq.u32 4)) = true →
    (s.isSafety t = true → 3 ≤ s.roleOf rq) → ((idx 16).find? fun b => (s.dbg.brk.get b).STATE == 0#8) = some b →
    exec (.prgBreakSet rq) s = .next (State.answered
      { s with dbg.brk := put s.dbg.brk b (BreakEntry.mk (BitVec.ofNat 8 t.val) 1#8 0#16 (BitVec.ofNat 32 (rq.u32 4))) }
      Cmd.prgBreakSet rq [BitVec.ofNat 8 b.val, 0#8, 0#8, 0#8])) ∧
  (∀ (s : State) (rq : Request) (b : Fin 16), s.Accepts Cmd.prgBreakClear rq → rq.u8 0 = b.val → (s.dbg.brk.get b).STATE ≠ 0#8 →
    exec (.prgBreakClear rq) s = .next (State.answered { s with dbg.brk := put s.dbg.brk b BreakEntry.dflt } Cmd.prgBreakClear rq [])) ∧
  (∀ (s : State) (rq : Request) (t : Fin 128), s.Accepts Cmd.prgBreakRelease rq → rq.u8 0 = t.val → (s.isSafety t = true → 3 ≤ s.roleOf rq) →
    (s.tk.task.get t).stat.DEBUG_HALT = 0#1 →
    exec (.prgBreakRelease rq) s = .next ((s.receive rq).refuse Cmd.prgBreakRelease rq 0x0312 t.val 0)) ∧
  (∀ (s : State) (rq : Request) (t : Fin 128), s.Accepts Cmd.prgBreakRelease rq → rq.u8 0 = t.val → s.isSafety t = false →
    (s.tk.task.get t).desc.SAFETY = 0#1 → (s.tk.task.get t).stat.DEBUG_HALT = 1#1 →
    ∃ s1 : State, exec (.prgBreakRelease rq) s = .next (((s1.runOutstanding t).dispatch).reply Cmd.prgBreakRelease rq 0 []) ∧
      (s1.tk.task.get t).stat.DEBUG_HALT = 0#1 ∧ (s1.tk.task.get t).run = .ready ∧ (s1.tk.task.get t).cycleOpen = (s.tk.task.get t).cycleOpen) ∧
  (∀ (s : State) (rq : Request) (t : Fin 128), s.Accepts Cmd.prgStep rq → rq.u8 0 = t.val → rq.u8 1 ≠ 0 → s.isSafety t = false →
    (s.tk.task.get t).stat.DEBUG_HALT = 1#1 →
    ∃ s1 : State, exec (.prgStep rq) s = .next (s1.dispatch.reply Cmd.prgStep rq 0 []) ∧
      (s1.tk.task.get t).stepsLeft = BitVec.ofNat 32 (rq.u8 1) ∧ (s1.tk.task.get t).run = .ready) ∧
  (∀ (s : State) (rq : Request), s.Accepts Cmd.prgBreakStatus rq →
    exec (.prgBreakStatus rq) s = .next (s.answered Cmd.prgBreakStatus rq (s.dbg.brk.toList.flatMap BreakEntry.toBytes))) ∧
  (∀ (s : State) (b : Fin 16) (t : Fin 128), (s.dbg.brk.get b).TASK_ID.toNat = t.val → (s.dbg.brk.get b).STATE ≠ 0#8 → s.hasTask t = true →
    (s.tk.task.get t).run = .running → (s.tk.task.get t).restoreAt = none → (s.tk.task.get t).desc.SAFETY = 0#1 →
    ∃ s1 : State, exec (.breakpointHit b) s = .next s1.dispatch ∧ (s1.tk.task.get t).run = .stopped ∧
      (s1.tk.task.get t).stat.DEBUG_HALT = 1#1 ∧ (s1.tk.task.get t).codeOfs = (s.dbg.brk.get b).CODE_OFS ∧ (s1.dbg.brk.get b).STATE = 2#8 ∧
      (s1.dbg.brk.get b).HIT_COUNT = sat (s.dbg.brk.get b).HIT_COUNT) ∧
  (∀ (s : State) (t : Fin 128) (ofs : BitVec 32), (s.tk.task.get t).stepsLeft ≠ 0#32 → (s.tk.task.get t).run = .running → s.hasTask t = true →
    ∃ s1 : State, exec (.stepComplete t ofs) s = .next s1.dispatch ∧ (s1.tk.task.get t).run = .stopped ∧ (s1.tk.task.get t).codeOfs = ofs ∧
      (s1.tk.task.get t).stepsLeft = 0#32)

/-- A running task that reaches its finish without a mismatch has its run finished, then the dispatcher decides; one outside the safety class is
never compared. A run that mismatches is handled as a mismatch at that commit point, and the records it put in its queue stand. The end of a restore writes the undo logs back, and a
cycle that is not executed again by a cyclic task is held to its boundary. A JTAG write reaches the variable's bytes in its chamber. -/
def Obligations.RunsFinishAndRestore : Prop :=
  (∀ (s : State) (t : Fin 128) (r : TaskRun), s.hasTask t = true → (s.tk.task.get t).run = .running → (s.tk.task.get t).restoreAt = none →
    (s.streamOf t).isSome = true → (s.tk.task.get t).desc.SAFETY = 0#1 →
    exec (.taskFinish t r) s = .next (s.finishRun t r).dispatch) ∧
  (∀ (s : State) (t : Fin 128) (r : TaskRun) (c : BitVec 8), s.hasTask t = true → (s.tk.task.get t).run = .running →
    (s.tk.task.get t).restoreAt = none → (s.streamOf t).isSome = true → (s.tk.task.get t).desc.SAFETY = 1#1 → r.mismatch = some c →
    s.dbg.jtag = [] →
    exec (.taskFinish t r) s = .next (State.dispatch
      ((r.records.foldl (fun s x => s.queueRecord t x) (s.noteRun t r)).mismatch t (c.setWidth 3) (r.undoLines.1 + r.undoLines.2)))) ∧
  (∀ (s : State) (t : Fin 128), (s.tk.task.get t).restoreAt.isSome = true → s.hasTask t = true → (s.tk.task.get t).reexec = true →
    (s.tk.task.get t).undoRetain = [] →
    exec (.restoreComplete t) s = .next (State.setTask (s.undo t) t fun k =>
      { k with restoreAt := none, data0 := [], undoRetain := [], codeOfs := k.ckptOfs })) ∧
  (∀ (s : State) (t : Fin 128), (s.tk.task.get t).restoreAt.isSome = true → s.hasTask t = true → (s.tk.task.get t).reexec = false →
    (s.tk.task.get t).undoRetain = [] → (s.tk.task.get t).desc.KIND = 1#8 →
    ∃ s1 : State, exec (.restoreComplete t) s = .next s1.dispatch ∧ (s1.tk.task.get t).run = .idle ∧ (s1.tk.task.get t).heldCycle = true ∧
      (s1.tk.task.get t).restoreAt = none ∧ s1.gro.mem = (s.undo t).gro.mem) ∧
  (∀ (s : State) (h : BitVec 32) (v : VarDecl) (x : BitVec 64), s.varOf h = some v → v.owner = none →
    exec (.jtagWrite h x) s = .next (s.writeChamber v.chamber v.off (leBytes v.size.toNat x.toNat)))

/-- OLC_LOAD by the session that holds the change, or with none loading or switching, stores its part and leaves STATE 1 with the session as
holder; by another session it is refused with 0x0406; OLC_ACTIVATE with no package loaded is refused with 0x041A, and one whose checks pass
in RUN with at least one affected task leaves STATE 2 with those tasks pending and lists the forces it will drop; OLC_ABORT by the holder
discards the package; OLC_STATUS answers with the change status. -/
def Obligations.ChangePackageCommandsAnswer : Prop :=
  (∀ (s : State) (rq : Request), s.Accepts Cmd.olcLoad rq → s.olcBusy rq.session = false → rq.u32 0 ≠ 0 →
    exec (.olcLoad rq) s = .next (State.answered
      { s with olc := { s.olc with
        pkg := s.olc.pkg.write (rq.u32 0) (rq.payload.drop 4), info := none
        stat := { s.olc.stat with STATE := 1#8, SESSION := BitVec.ofNat 8 rq.session.val,
                                  BYTES_LOADED := BitVec.ofNat 32 (max s.olc.stat.BYTES_LOADED.toNat (rq.u32 0 + (rq.payload.drop 4).length)) } } }
      Cmd.olcLoad rq [])) ∧
  (∀ (s : State) (rq : Request), s.Accepts Cmd.olcLoad rq → s.olcBusy rq.session = true →
    exec (.olcLoad rq) s = .next ((s.receive rq).refuse Cmd.olcLoad rq 0x0406 0xFFFF 0)) ∧
  (∀ (s : State) (rq : Request), s.Accepts Cmd.olcActivate rq → (s.olc.stat.STATE = 0#8 ∨ s.olc.stat.STATE = 3#8) →
    exec (.olcActivate rq) s = .next ((s.receive rq).refuse Cmd.olcActivate rq 0x041A 0xFFFF 0)) ∧
  (∀ (s : State) (rq : Request), s.Accepts Cmd.olcActivate rq → s.olc.stat.STATE = 1#8 → s.olcBusy rq.session = false →
    s.paired = false → s.sys.mode = .run →
    ∃ t : State, exec (.olcActivate rq) s = .next t ∧
      ∀ p : PkgInfo, Config.packageInfo (s.olc.pkg.read 0 s.olc.stat.BYTES_LOADED.toNat) = p → p.tasks ≠ [] →
        (∀ k : Served, s.activateCheck p k = k) →
        ∃ s1 : State, t = s1.reply Cmd.olcActivate rq 0 (s.dropReply p) ∧
          s1.olc.stat.STATE = 2#8 ∧ s1.olc.stat.ACCEPT_TS = s.ts ∧ s1.olc.pendingTasks = p.tasks.map (fun x => x.task) ∧ s1.olc.info = some p) ∧
  (∀ (s : State) (rq : Request), s.Accepts Cmd.olcAbort rq → s.olc.stat.STATE = 1#8 → s.olcBusy rq.session = false →
    exec (.olcAbort rq) s = .next (State.answered
      { s with olc := { s.olc with pkg := [], info := none, pendingTasks := [], before := none, stat := ChangeStat.dflt } } Cmd.olcAbort rq [])) ∧
  (∀ (s : State) (rq : Request), s.Accepts Cmd.olcStatus rq →
    exec (.olcStatus rq) s = .next (s.answered Cmd.olcStatus rq (s.olc.stat.toBytes (PENDING_TASKS := s.olc.pendingTasks.length))))

/-- A set of a value of IMAGE that may be forced, by a role that suffices, with room, joins the batch of its value and is answered when the batch
is decided; an unknown handle is refused with 0x0418; a release of a value that is not forced is answered with 0x0000 and changes nothing; a
release of a standing force by its owner joins the batch; OLC_FORCE_RELEASE_ALL with no force to release answers a count of 0;
OLC_FORCE_LIST answers FORCE_COUNT and the entries. The supervisor's write of a batch that a set wins decides the batch and writes the
forced value with FORCED; that of a released value writes the underlying value with FORCED clear; the warning of old forces is written once. -/
def Obligations.ForcesSetReleaseAndList : Prop :=
  (∀ (s : State) (rq : Request) (v : VarDecl) (r : ForceReq), s.Accepts Cmd.olcForceSet rq → ForceReq.ofBytes rq.payload = r →
    s.varOf r.HANDLE = some v → r.SIZE = v.size → r.SIZE.toNat ∈ [1, 2, 4, 8] → s.forceOf r.HANDLE = none → s.unforceable v = false →
    (v.safetyRead = true → s.safetyRole rq.session = true) → s.forcesToCome.length < 256 →
    exec (.olcForceSet rq) s = .next (State.receive { s with olc := { s.olc with
      batch := s.olc.batch ++ [⟨r.HANDLE, some r.used, rq.session, rq.rxTs.toNat, rq, false⟩] } } rq)) ∧
  (∀ (s : State) (rq : Request), s.Accepts Cmd.olcForceSet rq → s.varOf (ForceReq.ofBytes rq.payload).HANDLE = none →
    exec (.olcForceSet rq) s = .next ((s.receive rq).refuse Cmd.olcForceSet rq 0x0418 0xFFFF (ForceReq.ofBytes rq.payload).HANDLE.toNat)) ∧
  (∀ (s : State) (rq : Request), s.Accepts Cmd.olcForceRelease rq → (s.varOf (BitVec.ofNat 32 (rq.u32 0))).isSome = true →
    s.forceOf (BitVec.ofNat 32 (rq.u32 0)) = none →
    exec (.olcForceRelease rq) s = .next (s.answered Cmd.olcForceRelease rq [])) ∧
  (∀ (s : State) (rq : Request) (f : ForceEntry), s.Accepts Cmd.olcForceRelease rq → (s.varOf (BitVec.ofNat 32 (rq.u32 0))).isSome = true →
    s.forceOf (BitVec.ofNat 32 (rq.u32 0)) = some f → s.mayRelease rq.session f = true →
    exec (.olcForceRelease rq) s = .next (State.receive { s with olc := { s.olc with
      batch := s.olc.batch ++ [⟨BitVec.ofNat 32 (rq.u32 0), none, rq.session, rq.rxTs.toNat, rq, false⟩] } } rq)) ∧
  (∀ (s : State) (rq : Request), s.Accepts Cmd.olcForceReleaseAll rq → s.olc.forces.filter (s.mayRelease rq.session) = [] →
    exec (.olcForceReleaseAll rq) s = .next (s.answered Cmd.olcForceReleaseAll rq [0#8, 0#8])) ∧
  (∀ (s : State) (rq : Request), s.Accepts Cmd.olcForceList rq →
    exec (.olcForceList rq) s = .next (s.answered Cmd.olcForceList rq
      (leBytes 2 s.olc.forces.length ++ [0#8, 0#8] ++ ((s.olc.forces.drop (rq.u8 0)).take 127).flatMap ForceEntry.toBytes))) ∧
  (∀ (s : State) (h : BitVec 32) (w : ForcePending) (x : BitVec 64) (v : VarDecl),
    batchWinner (s.olc.batch.filter fun p => p.handle == h) = some w → w.value = some x → (s.resolveBatch h).varOf h = some v →
    exec (.forceApplyWrite h) s = .next ((s.resolveBatch h).putForced v.off v.size.toNat x.toNat true)) ∧
  (∀ (s : State) (h : BitVec 32) (f : ForceEntry) (v : VarDecl), s.olc.batch = [] →
    (s.olc.releaseWrites.find? fun f => f.HANDLE == h) = some f → s.varOf f.HANDLE = some v →
    exec (.forceReleaseWrite h) s = .next (State.putForced
      { s with olc := { s.olc with releaseWrites := s.olc.releaseWrites.filter fun g => g.HANDLE != h } } v.off f.SIZE.toNat f.UNDERLYING.toNat false)) ∧
  (∀ s : State, 0 < s.agedForces → s.olc.agedAt = none →
    exec .forceAgedWarning s = .next (State.event { s with olc := { s.olc with agedAt := some s.now } } 3 0x0481 0xFF 0 s.agedForces))

/-- LOOP_SET in range writes the slot's descriptor, out of range is refused with 0x0501; LOOP_GET answers it with the slot's number and COST.
LOOP_SWAP_BANK of a used slot without CTRL_SRC and without a pending swap, whose inactive bank has been written, swaps at acceptance in
STOP and is held with its time in RUN; an empty bank is refused with 0x0504, a pending swap with 0x0503. LOOP_BANK_WRITE writes the
inactive bank, counting its BANK_SEQ, and answers it; LOOP_BANK_READ answers the bank asked for. LOOP_MODE is held with its time of
acceptance. LOOP_RESET_TRIP takes a tripped loop to MANUAL at its present output and is refused with 0x0506 otherwise. LOOP_STATUS,
LOOP_ENGINE_STATUS answer with their layouts; LOOP_CLEAR clears one loop, or with 0xFFFF all of them. -/
def Obligations.LoopCommandsAnswer : Prop :=
  (∀ (s : State) (rq : Request) (n : Fin 256), s.Accepts Cmd.loopSet rq → (LoopDesc.ofBytes rq.payload).LOOP_ID.toNat = n.val →
    exec (.loopSet rq) s = .next (
      if (LoopDesc.ofBytes rq.payload).inRange = true then
        State.answered (s.setLoop n { s.loop n with desc := LoopDesc.ofBytes rq.payload }) Cmd.loopSet rq []
      else (s.receive rq).refuse Cmd.loopSet rq 0x0501 n.val 0)) ∧
  (∀ (s : State) (rq : Request) (n : Fin 256), s.Accepts Cmd.loopGet rq → rq.u8 0 = n.val →
    exec (.loopGet rq) s = .next (s.answered Cmd.loopGet rq
      { (s.loop n).desc with LOOP_ID := BitVec.ofNat 8 n.val, COST := BitVec.ofNat 8 (s.loop n).desc.cost }.toBytes)) ∧
  (∀ (s : State) (rq : Request) (n : Fin 256), s.Accepts Cmd.loopSwapBank rq → rq.u8 0 = n.val → (s.loop n).desc.LAW ≠ 0#8 →
    (s.loop n).desc.byTask = false → s.swapPending (s.loop n) = false → (s.loop n).other.BANK_SEQ ≠ 0#32 →
    exec (.loopSwapBank rq) s = .next (State.answered
      (s.setLoop n (if s.sys.mode = .stop then (s.loop n).swap s.ts else { s.loop n with swapReq := some s.now })) Cmd.loopSwapBank rq [])) ∧
  (∀ (s : State) (rq : Request) (n : Fin 256), s.Accepts Cmd.loopSwapBank rq → rq.u8 0 = n.val → (s.loop n).desc.LAW ≠ 0#8 →
    (s.loop n).desc.byTask = false → (s.swapPending (s.loop n) = true ∨ (s.loop n).other.BANK_SEQ = 0#32) →
    exec (.loopSwapBank rq) s = .next ((s.receive rq).refuse Cmd.loopSwapBank rq
      (if s.swapPending (s.loop n) = true then 0x0503 else 0x0504) n.val 0)) ∧
  (∀ (s : State) (rq : Request) (n : Fin 256), s.Accepts Cmd.loopBankWrite rq → rq.u8 0 = n.val → (s.loop n).desc.LAW ≠ 0#8 →
    s.swapPending (s.loop n) = false → (Bank.ofBytes (rq.payload.drop 4)).shiftBad (s.loop n).desc.LAW.toNat = false →
    ∃ (seq : BitVec 32) (l : Loop), exec (.loopBankWrite rq) s = .next (State.answered (s.setLoop n l) Cmd.loopBankWrite rq (leBytes 4 seq.toNat)) ∧
      seq = sat (if (s.loop n).bankA.BANK_SEQ.toNat < (s.loop n).bankB.BANK_SEQ.toNat then (s.loop n).bankB.BANK_SEQ else (s.loop n).bankA.BANK_SEQ) ∧
      l.other = { Bank.ofBytes (rq.payload.drop 4) with BANK_SEQ := seq } ∧ l.bank = (s.loop n).bank ∧ l.stat = (s.loop n).stat ∧
      l.slot = (s.loop n).slot ∧ l.desc = (s.loop n).desc) ∧
  (∀ (s : State) (rq : Request) (n : Fin 256), s.Accepts Cmd.loopBankRead rq → rq.u8 0 = n.val → rq.u8 1 ≤ 1 →
    exec (.loopBankRead rq) s = .next (s.answered Cmd.loopBankRead rq
      (if rq.u8 1 = 0 then (s.loop n).bankA else (s.loop n).bankB).toBytes)) ∧
  (∀ (s : State) (rq : Request) (n : Fin 256) (m : LoopMode), s.Accepts Cmd.loopMode rq → rq.u8 0 = n.val → modeOfNum (rq.u8 1) = some m →
    (s.loop n).desc.LAW ≠ 0#8 → (s.loop n).desc.byTask = false → (s.loop n).slot.mode ≠ .tripped →
    exec (.loopMode rq) s = .next (State.answered
      (s.setLoop n { s.loop n with modeReq := some (m, signed 16 (rq.u16 2), s.now) }) Cmd.loopMode rq [])) ∧
  (∀ (s : State) (rq : Request) (n : Fin 256), s.Accepts Cmd.loopResetTrip rq → rq.u8 0 = n.val → (s.loop n).desc.LAW ≠ 0#8 →
    (s.loop n).slot.mode = .tripped →
    exec (.loopResetTrip rq) s = .next (State.answered
      (s.setLoop n { s.loop n with
        slot := { (s.loop n).slot with mode := .manual, manual := (s.loop n).slot.out }
        modeReq := none
        stat := { (s.loop n).stat with TRIP_CAUSE := 0#3, FE_ALARM := 0#1 } }) Cmd.loopResetTrip rq [])) ∧
  (∀ (s : State) (rq : Request) (n : Fin 256), s.Accepts Cmd.loopResetTrip rq → rq.u8 0 = n.val → (s.loop n).desc.LAW ≠ 0#8 →
    (s.loop n).slot.mode ≠ .tripped →
    exec (.loopResetTrip rq) s = .next ((s.receive rq).refuse Cmd.loopResetTrip rq 0x0506 n.val 0)) ∧
  (∀ (s : State) (rq : Request) (n : Fin 256), s.Accepts Cmd.loopStatus rq → rq.u8 0 = n.val →
    ∃ body : List Byte, exec (.loopStatus rq) s = .next (s.answered Cmd.loopStatus rq body) ∧
      body = (s.loop n).stat.toBytes (SWAP_PENDING := bit (s.swapPending (s.loop n))) (MODE := (s.loop n).slot.mode.num)
        (OUT := (BitVec.ofInt 16 (s.loop n).slot.out).toNat)
        (SP_INT := (BitVec.ofInt 16 (clampInt (-32768) 32767 (roundAway (s.loop n).slot.sp16 65536))).toNat)
        (PV_F := (BitVec.ofInt 16 (s.loop n).slot.pvF).toNat) (BANK_SEQ := (s.loop n).bank.BANK_SEQ.toNat)) ∧
  (∀ (s : State) (rq : Request) (n : Fin 256), s.Accepts Cmd.loopClear rq → rq.u16 0 = n.val →
    exec (.loopClear rq) s = .next (State.answered (s.setLoop n { s.loop n with stat := (s.loop n).stat.cleared }) Cmd.loopClear rq [])) ∧
  (∀ (s : State) (rq : Request), s.Accepts Cmd.loopClear rq → rq.u16 0 = 0xFFFF →
    exec (.loopClear rq) s = .next (State.answered
      { s with lp := { s.lp with loop := s.lp.loop.map fun l => { l with stat := l.stat.cleared }, eng := { s.lp.eng with TOTAL_LATE := 0#32 } } }
      Cmd.loopClear rq [])) ∧
  (∀ (s : State) (rq : Request), s.Accepts Cmd.loopEngineStatus rq →
    exec (.loopEngineStatus rq) s = .next (s.answered Cmd.loopEngineStatus rq
      (s.lp.eng.toBytes (LOAD_PM := perMille (s.usedLoops.map fun e => e.2.load) 2000000000)
        (LINES_PM := perMille (s.usedLoops.map fun e => s.lineLoad e.2) 38400000) (ACTIVE_SLOTS := s.usedLoops.length))))

/-- While loops run, a boundary on a used loop's grid writes the result that stands complete to the output destination with its quality, clears
LOOP_LATE and starts a sample on the sources read now; a result that is not complete is discarded and counted late. A sample whose result
is computed leaves no sample in progress and a result to publish: in OFF the output is SAFE_OUT with class GOOD, in HOLD and in TRIPPED with
a hold it keeps its value, with GOOD and UNCERTAIN, in MANUAL it is the clamped manual value. In AUTO with a BAD source the loop trips with
cause 2. A following-error timer that has run its FE_TIME_MS lets the sample in progress finish. -/
def Obligations.LoopSamplesComplete : Prop :=
  (∀ (s : State) (n : Fin 256), s.runsLoops = true → (s.loop n).desc.LAW ≠ 0#8 →
    onGrid s.now (s.loop n).desc.PERIOD_US.toNat (s.loop n).desc.PHASE_US.toNat = true → (s.loop n).sample = none → (s.loop n).fresh = false →
    (s.loop n).result = true →
    exec (.loopBoundary n) s = .next (State.readSources (State.writeOut
      (s.setLoop n { s.loop n with result := false, taken := false, lateRun := 0, stat := { (s.loop n).stat with LOOP_LATE := 0#1 } })
      (s.loop n).desc.OUT_DST (s.loop n).slot.out (s.loop n).slot.outQual) n)) ∧
  (∀ (s : State) (n : Fin 256) (x : Nat × LoopSources), s.runsLoops = true → (s.loop n).desc.LAW ≠ 0#8 →
    onGrid s.now (s.loop n).desc.PERIOD_US.toNat (s.loop n).desc.PHASE_US.toNat = true → (s.loop n).sample = some x →
    exec (.loopBoundary n) s = .next ((s.lateSample n).readSources n)) ∧
  (∀ (s : State) (n : Fin 256) (b : Nat) (x : LoopSources), s.runsLoops = true → (s.loop n).sample = some (b, x) →
    exec (.loopSampleComplete n) s = .next (s.finishSample n b x)) ∧
  (∀ (l : Loop) (b : Nat) (x : LoopSources) (forced : Bool) (ts : BitVec 64), l.fresh = false → l.modeReq = none → l.swapReq = none →
    x.ctrl = none →
    (l.slot.mode = .off → (l.compute b x forced ts).loop.slot.out = l.desc.SAFE_OUT.toInt ∧ (l.compute b x forced ts).loop.slot.outQual = 0#2) ∧
    (l.slot.mode = .manual → (l.compute b x forced ts).loop.slot.out = l.desc.clampOut l.slot.manual) ∧
    (l.slot.mode = .hold → (l.compute b x forced ts).loop.slot.out = l.slot.out ∧ (l.compute b x forced ts).loop.slot.outQual = 0#2) ∧
    (l.slot.mode = .tripped → l.desc.FE_ACTION ≠ 2#2 →
      (l.compute b x forced ts).loop.slot.out = l.slot.out ∧ (l.compute b x forced ts).loop.slot.outQual = 1#2) ∧
    (l.slot.mode = .auto → (x.used l.desc).any SrcVal.bad = true →
      (l.compute b x forced ts).trip = some (.auto, 2) ∧ (l.compute b x forced ts).loop.slot.mode = .tripped ∧
      (l.compute b x forced ts).loop.stat.TRIP_CAUSE = 2#3 ∧ (l.compute b x forced ts).loop.stat.TRIP_COUNT = sat l.stat.TRIP_COUNT)) ∧
  (∀ (s : State) (n : Fin 256) (b t : Nat) (x : LoopSources), s.runsLoops = true → (s.loop n).sample = some (b, x) → (s.loop n).feSince = some t →
    t + ms (s.loop n).desc.FE_TIME_MS.toNat ≤ b →
    exec (.feTimerExpire n) s = .next (s.finishSample n b x))

/-- CRU_SLOT_SET in range writes the descriptor of its slot and is refused with 0x0601 otherwise; CRU_SLOT_GET answers it. For a used slot,
CRU_PATTERN_LOAD at offset 0 begins a new image, marked reloaded; CRU_ANALYSE waits for the end of the analysis; CRU_SLOT_INFO answers an
analysed slot's information and is refused with 0x0606 otherwise; CRU_RESULT_READ answers the index line and elements of the named buffer.
CRU_JOB_SUBMIT and CRU_INPUT_WRITE, for an analysed slot driven by sessions that is not outstanding, write the request line, with the next
REQ_SEQ answered, and the input set. CRU_STATUS answers the counters; CRU_CLEAR clears them. CRU_QP_SET, GET and INFO serve a QP slot and
are refused with 0x060B for any other. -/
def Obligations.CrucibleCommandsAnswer : Prop :=
  (∀ (s : State) (rq : Request) (c : Fin 16), s.Accepts Cmd.cruSlotSet rq → (SlotDesc.ofBytes rq.payload).SLOT_ID.toNat = c.val →
    exec (.cruSlotSet rq) s = .next (
      if (SlotDesc.ofBytes rq.payload).inRange = true then
        State.answered (s.setCs c fun x => { x with desc := SlotDesc.ofBytes rq.payload }) Cmd.cruSlotSet rq []
      else (s.receive rq).refuse Cmd.cruSlotSet rq 0x0601 c.val 0)) ∧
  (∀ (s : State) (rq : Request) (c : Fin 16), s.Accepts Cmd.cruSlotGet rq → rq.u8 0 = c.val →
    exec (.cruSlotGet rq) s = .next (s.answered Cmd.cruSlotGet rq { (s.cs c).desc with SLOT_ID := BitVec.ofNat 8 c.val }.toBytes)) ∧
  (∀ (s : State) (rq : Request) (c : Fin 16), s.Accepts Cmd.cruPatternLoad rq → rq.u8 0 = c.val → (s.cs c).desc.JOB_TYPE ≠ 0#8 → rq.u32 4 = 0 →
    ∃ x : Slot, exec (.cruPatternLoad rq) s = .next (State.answered (s.setCs c fun _ => x) Cmd.cruPatternLoad rq []) ∧
      x.pattern = Memory.write [] 0 (rq.payload.drop 8) ∧ x.patternLen = (rq.payload.drop 8).length ∧ x.reloaded = true ∧
      (x.state = .analysed ↔ (s.cs c).state = .analysed) ∧ x.desc = (s.cs c).desc) ∧
  (∀ (s : State) (rq : Request) (c : Fin 16), s.Accepts Cmd.cruAnalyse rq → rq.u8 0 = c.val → (s.cs c).desc.JOB_TYPE ≠ 0#8 →
    (s.cs c).analysing = [] →
    exec (.cruAnalyse rq) s = .next ((s.receive rq).setCs c fun x => { x with analysing := [rq], analysisAt := s.now })) ∧
  (∀ (s : State) (rq : Request) (c : Fin 16), s.Accepts Cmd.cruSlotInfo rq → rq.u8 0 = c.val → (s.cs c).desc.JOB_TYPE ≠ 0#8 →
    exec (.cruSlotInfo rq) s = .next (
      if (s.cs c).state = .analysed then s.answered Cmd.cruSlotInfo rq ((s.cs c).info.toBytes (STATE := 2))
      else (s.receive rq).refuse Cmd.cruSlotInfo rq 0x0606 c.val 0)) ∧
  (∀ (s : State) (rq : Request) (c : Fin 16), s.Accepts Cmd.cruJobSubmit rq → rq.u8 0 = c.val → rq.u8 1 ≤ 1 → (s.cs c).desc.JOB_TYPE ≠ 0#8 →
    (s.cs c).state = .analysed → (s.cs c).desc.REQ_BY_SESSION ≠ 0#1 → (s.cs c).job = none →
    exec (.cruJobSubmit rq) s = .next (State.answered
      (s.setCs c fun x => { x with
        req := { REQ_SEQ := nextSeq (s.cs c).req.REQ_SEQ, INSET := BitVec.ofNat 8 (rq.u8 1), DEADLINE := BitVec.ofNat 64 (rq.u64 4) }
        reqNew := true }) Cmd.cruJobSubmit rq (leBytes 4 (nextSeq (s.cs c).req.REQ_SEQ).toNat))) ∧
  (∀ (s : State) (rq : Request) (c : Fin 16) (xs : List F64), s.Accepts Cmd.cruResultRead rq → rq.u8 0 = c.val → (s.cs c).desc.JOB_TYPE ≠ 0#8 →
    xs = (if (s.cs c).index.X_SEQ = 0#32 then [] else ((s.cs c).buf.get (if (s.cs c).index.BUF = 0#8 then 0 else 1)).x) →
    exec (.cruResultRead rq) s = .next (s.answered Cmd.cruResultRead rq
      ((s.cs c).index.toBytes ++ ((xs.drop (rq.u32 4)).take 500).flatMap fun v => leBytes 8 v.toNat))) ∧
  (∀ (s : State) (rq : Request), s.Accepts Cmd.cruStatus rq → s.cru.running = none →
    exec (.cruStatus rq) s = .next (s.answered Cmd.cruStatus rq
      (s.cru.stat.toBytes (BUSY := 0) (CAPS_HALVED_NOW := bit (1 ≤ s.heatNow && s.heatNow ≤ 2))
        (HELD_NOW := bit (cruEffect s.heatNow s.energyNow).holds) (RUNNING_SLOT := 255) (QUEUED := s.cru.queue.length)))) ∧
  (∀ (s : State) (rq : Request), s.Accepts Cmd.cruClear rq →
    exec (.cruClear rq) s = .next (State.answered
      { s with cru := { s.cru with
        stat := CruStat.dflt
        slot := s.cru.slot.map fun x => { x with
          info := { x.info with FACTOR_MAX_NS := 0#32 }
          qpInfo := { x.qpInfo with ADAPT_COUNT := 0#32, POLISH_REJECT_COUNT := 0#32, INFEAS_COUNT := 0#32 } } } } Cmd.cruClear rq [])) ∧
  (∀ (s : State) (rq : Request) (c : Fin 16), s.Accepts Cmd.cruQpSet rq → rq.u8 0 = c.val → (s.cs c).qpJob = true →
    exec (.cruQpSet rq) s = .next (
      if (QpParams.ofBytes (rq.payload.drop 8)).inRange = true then
        State.answered (s.setCs c fun x => { x with qp := QpParams.ofBytes (rq.payload.drop 8) }) Cmd.cruQpSet rq []
      else (s.receive rq).refuse Cmd.cruQpSet rq 0x060A c.val 0)) ∧
  (∀ (s : State) (rq : Request) (c : Fin 16), s.Accepts Cmd.cruQpGet rq → rq.u8 0 = c.val →
    exec (.cruQpGet rq) s = .next (
      if (s.cs c).qpJob = true then s.answered Cmd.cruQpGet rq (s.cs c).qp.toBytes
      else (s.receive rq).refuse Cmd.cruQpGet rq 0x060B c.val 0)) ∧
  (∀ (s : State) (rq : Request) (c : Fin 16), s.Accepts Cmd.cruQpInfo rq → rq.u8 0 = c.val → (s.cs c).qpJob = true →
    exec (.cruQpInfo rq) s = .next (s.answered Cmd.cruQpInfo rq ((s.cs c).qpInfo.toBytes (RHO_CUR := (s.cs c).rhoCur.toNat)))) ∧
  (∀ (s : State) (rq : Request) (c : Fin 16) (i : Fin 2), s.Accepts Cmd.cruInputWrite rq → rq.u8 0 = c.val → rq.u8 1 = i.val →
    (s.cs c).desc.JOB_TYPE ≠ 0#8 → (s.cs c).state = .analysed → (s.cs c).desc.REQ_BY_SESSION ≠ 0#1 → (s.cs c).job = none →
    rq.u32 4 + (rq.payload.drop 8).length ≤ (s.cs c).insetBytes →
    exec (.cruInputWrite rq) s = .next (State.answered
      (s.setCs c fun x => { x with inset := upd x.inset i fun m => m.write (rq.u32 4) (rq.payload.drop 8) }) Cmd.cruInputWrite rq []))

/-- In RUN a written request of a used slot is taken as a job in the queue, and is counted as ignored while the slot is outstanding. The first
job of the queue starts when none runs and none is held: a failing Check publishes BAD_INPUT or OVERFLOW, a passed deadline DEADLINE; else it
goes to Factor, or on with the front factor where that serves. A completed factor with finite numbers is the front factor of A_cur; past the
cut-off a job in Factor goes on stale with the front factor. A solve ends with a solution or OVERFLOW. A QP iteration, a refactor and a polish
step count; a deadline in Factor ends the job with DEADLINE and no new solution. Scratch errors count, an uncorrectable one ends the job with
FAULT. An analysis ends ANALYSED or FAILED. -/
def Obligations.CrucibleJobsMove : Prop :=
  (∀ (s : State) (n : Fin 16), s.inRun = true → (s.cs n).reqNew = true → (s.cs n).desc.JOB_TYPE ≠ 0#8 → (s.cs n).job = none →
    (s.cs n).req.INSET.toNat ≤ 1 →
    ∃ t : State, exec (.cruRequestTake n) s = .next t ∧ n ∈ t.cru.queue ∧ (t.cs n).reqNew = false ∧ (t.cs n).lastSeq = (s.cs n).req.REQ_SEQ ∧
      (t.cs n).job = some (Job.fresh (s.cs n).req.REQ_SEQ (if (s.cs n).req.INSET = 1#8 then 1 else 0) (s.tm.countOf (s.cs n).req.DEADLINE) s.now (s.cs n).rhoCur)) ∧
  (∀ (s : State) (n : Fin 16) (j : Job), s.inRun = true → (s.cs n).reqNew = true → (s.cs n).desc.JOB_TYPE ≠ 0#8 → (s.cs n).job = some j →
    ∃ t : State, exec (.cruRequestTake n) s = .next t ∧ t.cru.queue = s.cru.queue ∧ (t.cs n).job = some j ∧ (t.cs n).ignored = true ∧
      t.cru.stat.REQ_IGNORED_COUNT = sat s.cru.stat.REQ_IGNORED_COUNT) ∧
  (∀ (s : State) (n : Fin 16) (rest : List (Fin 16)) (j : Job) (c : Nat), s.cru.running = none → s.cru.queue = n :: rest → (s.cs n).job = some j →
    s.inRun = true → (cruEffect s.heatNow s.energyNow).holds = false → (s.cs n).check ((s.cs n).inset.get j.inset) = .error c →
    ∃ t : State, exec .cruJobStart s = .next t ∧ t.cru.running = none ∧ t.cru.queue = rest ∧ (t.cs n).job = none ∧
      (t.cs n).index.JOB_SEQ = j.seq ∧ (t.cs n).index.X_SEQ = (s.cs n).index.X_SEQ ∧ (t.cs n).aCur = (s.cs n).aCur ∧
      (t.cs n).index.STATUS.CODE = BitVec.ofNat 4 c ∧ (t.cs n).index.STATUS.NEW_X = 0#1) ∧
  (∀ (s : State) (n : Fin 16) (rest : List (Fin 16)) (j : Job) (ds : List DeltaEntry), s.cru.running = none → s.cru.queue = n :: rest →
    (s.cs n).job = some j → s.inRun = true → (cruEffect s.heatNow s.energyNow).holds = false →
    (s.cs n).check ((s.cs n).inset.get j.inset) = .ok ds → (ds.foldl applyDelta (s.cs n).aCur).all F64.finite = true → s.now < j.deadline →
    (s.cs n).front = none →
    ∃ (t : State) (k : Job), exec .cruJobStart s = .next t ∧ t.cru.running = some n ∧ t.cru.queue = rest ∧ (t.cs n).job = some k ∧
      k.phase = .factor ∧ k.factorAt = s.now ∧ (t.cs n).aCur = ds.foldl applyDelta (s.cs n).aCur ∧
      k.status.VALUES_INITIAL = BitVec.ofNat 1 (bit (s.cs n).initial)) ∧
  (∀ (s : State) (n : Fin 16) (j : Job), s.cru.running = some n → (s.cs n).job = some j → j.phase = .factor → (s.cs n).qpJob = false →
    ∃ t : State, exec .cruFactorComplete s = .next t ∧
      (((∃ k, (t.cs n).job = some k ∧ k.phase = .solve ∧ k.stale = false) ∧ (∃ f, (t.cs n).front = some f ∧ f.ofCur = true)) ∨
       ((t.cs n).job = none ∧ (t.cs n).index.STATUS.CODE = 4#4 ∧ (t.cs n).front = (s.cs n).front))) ∧
  (∀ (s : State) (n : Fin 16) (j : Job) (f : Factor), s.cru.running = some n → (s.cs n).job = some j → j.phase = .factor →
    (s.cs n).front = some f → s.pastCutoff (s.cs n) j = true →
    ∃ (t : State) (k : Job), exec .cruFactorCutoff s = .next t ∧ (t.cs n).job = some k ∧ k.stale = true ∧ (t.cs n).front = some f) ∧
  (∀ (s : State) (n : Fin 16) (j : Job), s.cru.running = some n → (s.cs n).job = some j → j.phase = .factor → j.deadline ≤ s.now →
    ∃ t : State, exec (.cruDeadline n) s = .next t ∧ t.cru.running = none ∧ (t.cs n).job = none ∧ (t.cs n).index.STATUS.CODE = 2#4 ∧
      (t.cs n).index.X_SEQ = (s.cs n).index.X_SEQ ∧ (t.cs n).buf = (s.cs n).buf) ∧
  (∀ (s : State) (n : Fin 16) (j : Job), s.cru.running = some n → (s.cs n).job = some j → j.phase = .solve →
    ∃ t : State, exec .cruSolveComplete s = .next t ∧ (t.cs n).job = none ∧ (t.cs n).index.JOB_SEQ = j.seq ∧
      ((t.cs n).index.STATUS.NEW_X = 1#1 → (t.cs n).index.X_SEQ = j.seq ∧ (t.cs n).index.BUF = 1#8 - (s.cs n).index.BUF)) ∧
  (∀ (s : State) (n : Fin 16) (j : Job), s.cru.running = some n → (s.cs n).job = some j → j.phase = .iterate →
    ∃ t : State, exec .qpIterationComplete s = .next t ∧
      ((∃ k, (t.cs n).job = some k ∧ k.iters = j.iters + 1) ∨
       ((t.cs n).job = none ∧ ((t.cs n).qpJob = true → (t.cs n).index.ITERS = BitVec.ofNat 16 (j.iters + 1))))) ∧
  (∀ (s : State) (n : Fin 16) (j : Job), s.cru.running = some n → (s.cs n).job = some j → j.phase = .refactor →
    ∃ t : State, exec .qpRefactorComplete s = .next t ∧
      ((∃ k, (t.cs n).job = some k ∧ k.phase = .iterate ∧ k.rho = j.rhoNext ∧ (t.cs n).rhoCur = j.rhoNext) ∨ (t.cs n).job = none)) ∧
  (∀ (s : State) (n : Fin 16) (j : Job), s.cru.running = some n → (s.cs n).job = some j → j.phase = .polish →
    ∃ t : State, exec .polishStepComplete s = .next t ∧
      ((∃ k, (t.cs n).job = some k ∧ k.polished = j.polished + 1) ∨ ((t.cs n).job = none ∧ t.cru.running = none))) ∧
  (∀ (s : State) (n : Fin 16), (s.cs n).analysing ≠ [] →
    ∃ t : State, exec (.analysisComplete n) s = .next t ∧ (t.cs n).analysing = [] ∧ ((t.cs n).state = .analysed ∨ (t.cs n).state = .failed)) ∧
  (∀ s : State, exec (.scratchError false) s = .next { s with cru := { s.cru with
    stat := { s.cru.stat with SCRATCH_CE_COUNT := sat s.cru.stat.SCRATCH_CE_COUNT } } }) ∧
  (∀ (s : State) (n : Fin 16) (j : Job), s.cru.running = some n → (s.cs n).job = some j →
    ∃ t : State, exec (.scratchError true) s = .next t ∧ t.cru.stat.SCRATCH_UE_SEEN = 1#1 ∧ t.cru.running = none ∧ (t.cs n).job = none ∧
      (t.cs n).index.STATUS.CODE = 6#4 ∧ (t.cs n).index.X_SEQ = (s.cs n).index.X_SEQ)

/-- SAFE_PARAM_LOAD of a set in range and without conflict stores it as pending with the CRC computed, which is answered; a set out of range is
refused with 0x0803, a conflicting one with 0x0804. SAFE_PARAM_READ answers the signed or the pending set. SAFE_SIGN_OFF with the pending
set's CRC makes it the signed set in both copies, with signer and time, and leaves none pending; another CRC is refused with 0x0805, and no
pending set with 0x0806. SAFE_STATUS answers the status; SAFE_CLEAR clears the counters and SOURCES_SEEN alone. SAFE_RESET with a mask of
existing targets resets as R234 says and answers the released ones, with 0x0807 where one stays killed; a mask above them is refused with
0x0803. SAFE_BRAKE_TEST starts the test of a channel that R230 does not refuse, and is refused with 0x080A otherwise. -/
def Obligations.SafetyCommandsAnswer : Prop :=
  (∀ (s : State) (rq : Request) (x : SafetySet), s.Accepts Cmd.safeParamLoad rq →
    x = { SafetySet.ofBytes rq.payload with SIGNED_BY := 0#32, SIGNED_TS := 0#64 } → x.inRange = true → x.conflict = false →
    exec (.safeParamLoad rq) s = .next (State.answered { s with isl := { s.isl with pending := some { x with CRC := x.crcOf } } }
      Cmd.safeParamLoad rq (leBytes 4 x.crcOf.toNat))) ∧
  (∀ (s : State) (rq : Request) (x : SafetySet), s.Accepts Cmd.safeParamLoad rq →
    x = { SafetySet.ofBytes rq.payload with SIGNED_BY := 0#32, SIGNED_TS := 0#64 } → (x.inRange = false ∨ x.conflict = true) →
    exec (.safeParamLoad rq) s = .next ((s.receive rq).refuse Cmd.safeParamLoad rq (if x.inRange = true then 0x0804 else 0x0803) 0xFFFF 0)) ∧
  (∀ (s : State) (rq : Request), s.Accepts Cmd.safeParamRead rq → rq.u8 0 ≤ 1 →
    exec (.safeParamRead rq) s = .next (s.answered Cmd.safeParamRead rq
      ((if rq.u8 0 = 0 then s.validSet else s.isl.pending).getD SafetySet.dflt).toBytes)) ∧
  (∀ (s : State) (rq : Request) (p : SafetySet), s.Accepts Cmd.safeSignOff rq → s.isl.pending = some p → rq.u32 0 = p.CRC.toNat →
    ∃ t : State, exec (.safeSignOff rq) s = .next (t.reply Cmd.safeSignOff rq 0 []) ∧ t.isl.pending = none ∧
      t.isl.signed = Vector.replicate 2 (some { p with SIGNED_BY := BitVec.ofNat 32 (rq.u32 4), SIGNED_TS := s.ts })) ∧
  (∀ (s : State) (rq : Request), s.Accepts Cmd.safeSignOff rq → (∀ p, s.isl.pending = some p → rq.u32 0 ≠ p.CRC.toNat) →
    exec (.safeSignOff rq) s = .next ((s.receive rq).refuse Cmd.safeSignOff rq (if s.isl.pending = none then 0x0806 else 0x0805) 0xFFFF 0)) ∧
  (∀ (s : State) (rq : Request), s.Accepts Cmd.safeStatus rq →
    exec (.safeStatus rq) s = .next (s.answered Cmd.safeStatus rq s.safeStatus)) ∧
  (∀ (s : State) (rq : Request), s.Accepts Cmd.safeClear rq →
    exec (.safeClear rq) s = .next (State.answered
      { s with isl := { s.isl with stat := { s.isl.stat with SOURCES_SEEN := 0#32, TRIP_COUNT := 0#32, RESET_COUNT := 0#32 } } }
      Cmd.safeClear rq [])) ∧
  (∀ (s t : State) (rq : Request) (freed : Nat) (active : Bool), s.Accepts Cmd.safeReset rq → rq.u16 0 < 1024 →
    (s.receive rq).clearLatches.resetTargets (rq.u16 0) = (t, freed, active) →
    exec (.safeReset rq) s = .next (if active = true then (t.noteRefusal Cmd.safeReset rq 0x0807 0xFFFF 0).reply Cmd.safeReset rq 0x0807 (leBytes 2 freed)
      else t.reply Cmd.safeReset rq 0 (leBytes 2 freed))) ∧
  (∀ (s : State) (rq : Request), s.Accepts Cmd.safeReset rq → 1024 ≤ rq.u16 0 →
    exec (.safeReset rq) s = .next ((s.receive rq).refuse Cmd.safeReset rq 0x0803 0xFFFF 0)) ∧
  (∀ (s : State) (rq : Request) (c : Fin 4), s.Accepts Cmd.safeBrakeTest rq → rq.u8 0 = c.val →
    exec (.safeBrakeTest rq) s = .next (
      if s.btRefused c = true then (s.receive rq).refuse Cmd.safeBrakeTest rq 0x080A c.val 0
      else State.reply ((s.receive rq).startTest c) Cmd.safeBrakeTest rq 0 []))

/-- With a signed set: a side of a used pair stable in demand for FILTER_US asserts the pair's source; both sides stable in run state, with no
fault latched and no demand cycle owed, clear it; sides that have differed for DISC_MS latch DISC with the source. A test pulse judged after
its mask is taken in. A bias fault of 1 ms, an overcurrent of 50 µs and a failed light or dark test fault the channel; a passing test counts
its time. An encoder error latches the axes that the encoder feeds, a discrepancy of DISC_MS its axis, and a watchdog expiry evaluates the
matrix. Three frames of disagreeing copies raise SFE_FAULT; a channel disagreement raises ISLAND_FAULT and ends in HALT; a STANDBY module
tests its lines after 24 h. -/
def Obligations.PairsFiltersAndTestsMove : Prop :=
  (∀ (s : State) (x : SafetySet) (k : Fin 16), s.validSet = some x → (x.PAIR.get k).KIND ≠ 0#8 → (s.isl.pair.get k).nowA = true →
    s.since (s.isl.pair.get k).sinceA (us (x.PAIR.get k).FILTER_US.toNat) = true →
    exec (.pairDemand k false) s = .next (State.evalMatrix (s.setPair k fun p =>
      SafePair.timed { p with demandA := true, okA := false, source := true, bothDemand := p.bothDemand || p.demandB } s.now))) ∧
  (∀ (s : State) (x : SafetySet) (k : Fin 16) (p : SafePair), s.validSet = some x → (x.PAIR.get k).KIND ≠ 0#8 → s.isl.pair.get k = p →
    p.nowA = false → p.nowB = false → s.since p.sinceA (us (x.PAIR.get k).FILTER_US.toNat) = true →
    s.since p.sinceB (us (x.PAIR.get k).FILTER_US.toNat) = true → p.faulty = false → p.needCycle = false →
    exec (.pairSourceClear k) s = .next (State.evalMatrix (s.setPair k fun p =>
      { p with source := false, demandA := false, demandB := false, differSince := none, disc := false, test := false, cross := false,
               needCycle := false, bothDemand := false, okA := false, okB := false }))) ∧
  (∀ (s : State) (x : SafetySet) (k : Fin 16), s.validSet = some x → (x.PAIR.get k).KIND ≠ 0#8 →
    s.ran (s.isl.pair.get k).differSince (ms (x.PAIR.get k).DISC_MS.toNat) = true →
    exec (.pairDiscFault k) s = .next (s.latchPair k fun p => { p with disc := true }).evalMatrix) ∧
  (∀ (s : State) (x : SafetySet) (tp : Fin 2) (low : BitVec 32), s.validSet = some x → s.tpRuns = true →
    us (x.TP_WIDTH_US.toNat + x.TP_SETTLE_US.toNat) ≤ s.pulseAge x tp →
    exec (.testPulse tp low) s = .next (State.evalMatrix (State.samplePairs
      ((idx 16).foldl (fun s k => (s.judgeSide x tp low k false).judgeSide x tp low k true) s)))) ∧
  (∀ (s : State) (c : Fin 4), (s.isl.so.get c).fault = false → s.ran (s.isl.so.get c).biasFaultSince (ms 1) = true →
    exec (.soBiasFault c) s = .next (s.soFail c)) ∧
  (∀ (s : State) (c : Fin 4), (s.isl.so.get c).fault = false → s.ran (s.isl.so.get c).overSince (us 50) = true →
    exec (.soOvercurrent c) s = .next (s.soFail c)) ∧
  (∀ (s : State) (c : Fin 4) (ok : Bool), s.soTestDue c = true → s.dio.soOff c = true → (s.isl.so.get c).biasOk = true →
    (s.safetySet.SO.get c).PAIR_WIRING ≠ 1#8 →
    ∃ t : State, t = { s with isl := { s.isl with so := upd s.isl.so c fun o => { o with testAt := s.now } } } ∧
      exec (.soLightTest c ok) s = .next (if ok = true then t else t.soFail c)) ∧
  (∀ (s : State) (c : Fin 4) (ok : Bool), s.soTestDue c = true → s.dio.soOff c = false → (s.safetySet.SO.get c).PAIR_WIRING ≠ 1#8 →
    ∃ t : State, t = { s with isl := { s.isl with so := upd s.isl.so c fun o => { o with testAt := s.now, testLow := !o.testLow } } } ∧
      exec (.soDarkTest c ok) s = .next (if ok = true then t else t.soFail c)) ∧
  (∀ (s : State) (x : SafetySet) (e : Fin 8), s.sys.phase = .serving → s.validSet = some x →
    ∃ t : State, t = { s with mot := { s.mot with enc := upd s.mot.enc e fun e => { e with quadErr := true } } } ∧
      exec (.encoderQuadError e) s = .next (((x.axesOf e.val).foldl State.latchAxis t).evalMatrix)) ∧
  (∀ (s : State) (n : Fin 8), s.validSet.isSome = true → (s.axisEntry n).used = true → s.axisDiffers n = true →
    exec (.axisDiscrepancy n) s = .next (s.latchAxis n).evalMatrix) ∧
  (∀ (s : State) (x : SafetySet) (t : Fin 128), s.validSet = some x → s.wdExpired x t = true →
    exec (.wdTaskExpire t) s = .next s.evalMatrix) ∧
  (∀ s : State, s.sys.phase = .serving → exec .safetySourceAssert s = .next s.checkAxes.evalMatrix) ∧
  (∀ s : State, 3 ≤ s.isl.copyDiffer →
    exec .copyDisagree s = .next (State.evalMatrix { s with isl := { s.isl with sfeFault := true } })) ∧
  (∀ (s : State) (t : Fin 10), s.sys.phase = .serving → exec (.channelDisagree t) s = .next (s.islandFault .island)) ∧
  (∀ (s : State) (ok : BitVec 8), s.inRun = true → s.paired = true → s.pr.role = .standby → s.since s.isl.qlTestAt (sec 86400) = true →
    exec (.qlDailyTest ok) s = .next (s.testLines ok))

/-- A step of a running brake test that has lasted its time is followed by the next, the axes being carried to now; the last ends with the
result: passed where neither encoder source moved beyond BT_TOL, with BT_DUE cleared, else failed with BT_FAIL, and the brake stays applied
in either case. With no test running, one that a safety-class task has requested starts. BT_DUE is set BT_INTERVAL_H after the last pass;
BT_GRACE_H later an ALARM is written each hour or the axis source is asserted. A pulse of 0.1 to 2.0 s on RESET_DIO resets the targets with
RESET_BY_DIO, a shorter one does nothing, and a longer one is recorded. -/
def Obligations.BrakeTestsAndResetsMove : Prop :=
  (∀ (s : State) (b : BrakeTest) (d : Nat) (p : BtStep), s.isl.bt = some b → (s.safetySet.SO.get b.so).phase b.step = (d, some p) →
    s.since b.since d = true →
    exec .brakeTestPhase s = .next { s.advanceAxes with isl.bt := some { b with step := p, since := s.advanceAxes.now } }) ∧
  (∀ (s : State) (b : BrakeTest), s.isl.bt = some b → b.step = .settle → s.since b.since (ms 50) = true →
    ∃ t : State, exec .brakeTestPhase s = .next t ∧ t.isl.bt = none ∧ (t.isl.so.get b.so).cmd = false ∧
      (b.moved ≤ (s.safetySet.SO.get b.so).BT_TOL.toNat →
        (t.isl.so.get b.so).btResult = .passed ∧ (t.isl.so.get b.so).btDue = false ∧ (t.isl.so.get b.so).btPassAt = s.now) ∧
      ((s.safetySet.SO.get b.so).BT_TOL.toNat < b.moved →
        (t.isl.so.get b.so).btResult = .failed ∧ (t.isl.so.get b.so).btFail = true)) ∧
  (∀ (s : State) (c : Fin 4), s.isl.bt = none → s.inRun = true →
    ((idx 4).find? fun c => (s.isl.so.get c).btRequest && !s.btRefused c) = some c →
    exec .brakeTestPhase s = .next (s.startTest c)) ∧
  (∀ (s : State) (c : Fin 4), s.sys.phase = .serving → (s.safetySet.SO.get c).FUNCTION = 2#8 → (s.isl.so.get c).btDue = false →
    s.since (s.isl.so.get c).btPassAt (hours (s.safetySet.SO.get c).BT_INTERVAL_H.toNat) = true →
    exec (.brakeTestDue c) s = .next { s with isl := { s.isl with so := upd s.isl.so c fun o => { o with btDue := true } } }) ∧
  (∀ (s : State) (c : Fin 4) (n : Fin 8), s.sys.phase = .serving → (s.safetySet.SO.get c).FUNCTION = 2#8 → (s.isl.so.get c).btDue = true →
    s.since (s.isl.so.get c).btPassAt (hours ((s.safetySet.SO.get c).BT_INTERVAL_H.toNat + (s.safetySet.SO.get c).BT_GRACE_H.toNat)) = true →
    (s.safetySet.SO.get c).BT_OVERDUE_ACTION = 1#8 → (s.safetySet.SO.get c).BRAKE_AXIS.toNat = n.val →
    exec (.brakeTestOverdue c) s = .next (((s.setSafeAxis n fun a => { a with overdue := true }).latchAxis n).evalMatrix)) ∧
  (∀ (s : State) (d : Nat), s.isl.resetPulse = some d → ms 100 ≤ d → d ≤ sec 2 →
    exec .resetDioPulse s = .next (({ s with isl := { s.isl with resetPulse := none } } : State).resetTargets
      ((idx 10).map fun t => if (s.safetySet.TARGET.get t).RESET_BY_DIO == 1#1 then 2 ^ t.val else 0).sum).1) ∧
  (∀ (s : State) (d : Nat), s.isl.resetPulse = some d → d < ms 100 →
    exec .resetDioPulse s = .next { s with isl := { s.isl with resetPulse := none } })

/-- FIO_DIO_SET of an existing channel with every field in range writes its descriptor as last written, and is refused with 0x0701 otherwise;
FIO_DIO_GET answers it; FIO_DIO_STATUS and FIO_GROUP_STATUS answer their layouts. FIO_GROUP_RESET of a tripped fuse, at least 1 s after its
trip, closes it and leaves the outputs waiting for RE_ARM; without a trip it is refused with 0x0705, within 1 s with 0x0706. FIO_DIO_UNLATCH
releases the latch of a latched output, and is refused with 0x0703 for another mode and with 0x0704 without a latch. FIO_DIO_CLEAR clears the
counters of the channel and of its group, all of them with 0xFF. -/
def Obligations.DigitalCommandsAnswer : Prop :=
  (∀ (s : State) (rq : Request) (c : Fin 32), s.Accepts Cmd.fioDioSet rq → (DioDesc.ofBytes rq.payload).CH_ID.toNat = c.val →
    exec (.fioDioSet rq) s = .next (
      if (DioDesc.ofBytes rq.payload).ok = true then
        State.answered { s with dio := { s.dio with desc := put s.dio.desc c (DioDesc.ofBytes rq.payload) } } Cmd.fioDioSet rq []
      else (s.receive rq).refuse Cmd.fioDioSet rq 0x0701 c.val 0)) ∧
  (∀ (s : State) (rq : Request) (c : Fin 32), s.Accepts Cmd.fioDioGet rq → rq.u8 0 = c.val →
    exec (.fioDioGet rq) s = .next (s.answered Cmd.fioDioGet rq { s.dio.desc.get c with CH_ID := BitVec.ofNat 8 c.val }.toBytes)) ∧
  (∀ (s : State) (rq : Request) (c : Fin 32) (k : Link), s.Accepts Cmd.fioDioStatus rq → rq.u8 0 = c.val → s.dio.link.get (dioLink c) = k →
    exec (.fioDioStatus rq) s = .next (s.answered Cmd.fioDioStatus rq
      ((s.dio.stat.get c).toBytes (DIAG := (k.record.DIAG.get (dioPos c)).toNat) (COMMAND := bit (k.doSent.getLsbD (dioPos c).val))))) ∧
  (∀ (s : State) (rq : Request) (n : Fin 4) (k : Link), s.Accepts Cmd.fioGroupStatus rq → rq.u8 0 = n.val → s.dio.link.get n = k →
    exec (.fioGroupStatus rq) s = .next (s.answered Cmd.fioGroupStatus rq (k.stat.toBytes (FSTAT := k.fstat)))) ∧
  (∀ (s : State) (rq : Request) (n : Fin 4) (f : FieldSide), s.Accepts Cmd.fioGroupReset rq → rq.u8 0 = n.val → s.dio.field.get n = f →
    f.fuse = true → f.fuseAt + sec 1 ≤ s.dio.clock →
    exec (.fioGroupReset rq) s = .next (State.answered
      ((s.setField n fun f => { f with fuse := false, fuseWait := true }).setLink n fun k =>
        { k with rearmWait := true, reArm := false, clearRun := 0, record := { k.record with GRP_FUSE := 0#1 } })
      Cmd.fioGroupReset rq [])) ∧
  (∀ (s : State) (rq : Request) (n : Fin 4) (f : FieldSide), s.Accepts Cmd.fioGroupReset rq → rq.u8 0 = n.val → s.dio.field.get n = f →
    (f.fuse = false ∨ s.dio.clock < f.fuseAt + sec 1) →
    exec (.fioGroupReset rq) s = .next ((s.receive rq).refuse Cmd.fioGroupReset rq (if f.fuse = true then 0x0706 else 0x0705) n.val 0)) ∧
  (∀ (s : State) (rq : Request) (c : Fin 32), s.Accepts Cmd.fioDioUnlatch rq → rq.u8 0 = c.val → (s.dioDesc c).MODE = 2#8 →
    (s.dioField c).latchedAt.isSome = true →
    exec (.fioDioUnlatch rq) s = .next (State.answered (s.setDio c fun x => { x with latchedAt := none }) Cmd.fioDioUnlatch rq [])) ∧
  (∀ (s : State) (rq : Request) (c : Fin 32), s.Accepts Cmd.fioDioUnlatch rq → rq.u8 0 = c.val →
    ((s.dioDesc c).MODE ≠ 2#8 ∨ (s.dioField c).latchedAt = none) →
    exec (.fioDioUnlatch rq) s = .next ((s.receive rq).refuse Cmd.fioDioUnlatch rq (if (s.dioDesc c).MODE = 2#8 then 0x0704 else 0x0703) c.val 0)) ∧
  (∀ (s : State) (rq : Request) (c : Fin 32), s.Accepts Cmd.fioDioClear rq → rq.u8 0 = c.val →
    exec (.fioDioClear rq) s = .next (State.answered (s.clearDio c) Cmd.fioDioClear rq [])) ∧
  (∀ (s : State) (rq : Request), s.Accepts Cmd.fioDioClear rq → rq.u8 0 = 0xFF →
    exec (.fioDioClear rq) s = .next (State.reply ((idx 32).foldl State.clearDio (s.receive rq)) Cmd.fioDioClear rq 0 []))

/-- An uplink frame received whole and valid is taken in by the logic side, a disturbed one is counted and discarded; a downlink frame is put
on the wire with the commands of now; applied undisturbed it gives the field side its commands. 3 µs without a valid frame declare the
loss on the field side, with no output armed, and on the logic side, with its record, counters and an ALARM; 32 clear uplink frames end the
re-arm; 256 consecutive configuration words end CFG_WAIT. A low QL line kills what hangs on it. A filtered state, a current limit, an
overload of OVL_MS, a thermal shutdown, the retry, the open-wire and external-feed times, the end of the partner's 2 ms, a fuse trip and
the sensor supply's trip and retry act as R251 to R264 say. -/
def Obligations.LinksAndChannelsMove : Prop :=
  (∀ (s u : State) (n : Fin 4) (f : FieldSample) (k : Link), s.logicUp = true →
    u = (((s.notePartners n).fieldSample n f).setField n fun x => { x with upSeq := x.upSeq + 1, rxErr := false }) → u.dio.link.get n = k →
    frameOk (((s.notePartners n).fieldSample n f).upFrame n f).wire k.seqRef (u.upBroken k) = true →
    exec (.uplinkFrameReceive n f 0#100) s = .next (u.takeUplink n (UplinkFrame.ofBits (((s.notePartners n).fieldSample n f).upFrame n f).wire.toNat))) ∧
  (∀ (s u : State) (n : Fin 4) (f : FieldSample) (errors : BitVec 100) (k : Link), s.logicUp = true →
    u = (((s.notePartners n).fieldSample n f).setField n fun x => { x with upSeq := x.upSeq + 1, rxErr := false }) → u.dio.link.get n = k →
    frameOk ((((s.notePartners n).fieldSample n f).upFrame n f).wire ^^^ errors) k.seqRef (u.upBroken k) = false →
    exec (.uplinkFrameReceive n f errors) s = .next (u.setLink n fun k =>
      { k with broken := true, stat := { k.stat with UP_CRC_ERR := sat k.stat.UP_CRC_ERR } })) ∧
  (∀ (s : State) (n : Fin 4), s.sendsFrames = true →
    ∃ t : State, exec (.downlinkFrameSend n) s = .next t ∧ (t.dio.link.get n).down = some (s.downFrame n).wire ∧
      (t.dio.link.get n).doSent = (s.downFrame n).DO ∧ (t.dio.link.get n).seqOut = (s.dio.link.get n).seqOut + 1 ∧
      (t.dio.link.get n).cfgNext = (s.dio.link.get n).cfgNext + 1 ∧ t.dio.field = s.dio.field) ∧
  (∀ (s : State) (n : Fin 4) (w errors : BitVec 100), s.fieldUp = true → (s.dio.link.get n).down = some w →
    ∃ t : State, exec (.downlinkFrameApply n errors) s = .next t ∧ (t.dio.link.get n).down = none ∧
      (frameOk (w ^^^ errors) (s.dio.field.get n).seqRef ((s.dio.field.get n).broken || (s.dio.field.get n).lost || (s.dio.field.get n).slotMissed s.dio.clock) = true →
        ((t.dio.field.get n).lost = false ∧ (t.dio.field.get n).lastValid = s.dio.clock ∧
          ∀ i, ((t.dio.field.get n).ch.get i).cmd = (DownlinkFrame.ofBits (w ^^^ errors).toNat).DO.getLsbD i.val)) ∧
      (frameOk (w ^^^ errors) (s.dio.field.get n).seqRef ((s.dio.field.get n).broken || (s.dio.field.get n).lost || (s.dio.field.get n).slotMissed s.dio.clock) = false →
        ((t.dio.field.get n).rxErr = true ∧ ∀ i, (t.dio.field.get n).ch.get i = (s.dio.field.get n).ch.get i))) ∧
  (∀ (s : State) (n : Fin 4), s.fieldUp = true → (s.dio.field.get n).lost = false → (s.dio.field.get n).lastValid + us 3 ≤ s.dio.clock →
    ∃ t : State, exec (.fieldLinkLoss n) s = .next t ∧ (t.dio.field.get n).lost = true ∧ (t.dio.field.get n).armed = false ∧
      (t.dio.field.get n).validRun = 0 ∧ ∀ i m, (t.dio.field.get n).outOn m ((t.dio.field.get n).ch.get i) = false) ∧
  (∀ (s : State) (n : Fin 4), s.logicUp = true → (s.dio.link.get n).lost = false → s.ran (s.dio.link.get n).lastValid (us 3) = true →
    ∃ t : State, exec (.logicLinkLoss n) s = .next t ∧ (t.dio.link.get n).lost = true ∧ (t.dio.link.get n).rearmWait = true ∧
      (t.dio.link.get n).stat.LOSS_COUNT = sat (s.dio.link.get n).stat.LOSS_COUNT ∧ (t.dio.link.get n).stat.LAST_LOSS_TS = s.ts) ∧
  (∀ (s : State) (n : Fin 4), (s.dio.link.get n).reArm = true → 32 ≤ (s.dio.link.get n).clearRun →
    exec (.rearmComplete n) s = .next (s.setLink n fun k => { k with reArm := false, rearmWait := false, clearRun := 0 })) ∧
  (∀ (s : State) (n : Fin 4), s.fieldUp = true → (s.dio.field.get n).cfgWait = true → 256 ≤ (s.dio.field.get n).cfgSeen →
    exec (.configPassComplete n) s = .next ((s.setField n fun f => { f with cfgWait := false, validRun := 0, armed := false }).setSources n)) ∧
  (∀ (s : State) (l : Fin 8), s.fieldUp = true → s.dio.ql.getLsbD l.val = false → exec (.qlLineKill l) s = .next (s.fieldKill l)) ∧
  (∀ (s : State) (c : Fin 32) (v : Bool), s.fieldUp = true → (s.dioDesc c).MODE = 1#8 →
    exec (.inputFilterPass c v) s = .next (s.setDio c fun x => { x with filtered := v })) ∧
  (∀ (s : State) (c : Fin 32), s.fieldUp = true → s.dioOn c = true →
    exec (.dioCurrentLimit c) s = .next (s.setDio c fun x => { x with limitSince := x.limitSince.or (some s.dio.clock) })) ∧
  (∀ (s : State) (c : Fin 32), s.fieldUp = true → s.dioOn c = true → s.fieldRan (s.dioField c).limitSince (ms (s.dioDesc c).OVL_MS.toNat) = true →
    exec (.dioOverloadLatch c) s = .next ((s.setDio c fun x => { x with latchedAt := some s.dio.clock }).dioCount c
      fun x => { x with OVL_COUNT := sat x.OVL_COUNT })) ∧
  (∀ (s : State) (c : Fin 32), s.fieldUp = true → s.dioOn c = true →
    exec (.dioThermalShutdown c) s = .next ((s.setDio c fun x => { x with hot := true, latchedAt := some s.dio.clock }).dioCount c
      fun x => { x with THERMAL_COUNT := sat x.THERMAL_COUNT })) ∧
  (∀ (s : State) (c : Fin 32), s.fieldUp = true → (s.dioDesc c).RETRY_S ≠ 0#8 →
    s.fieldRan (s.dioField c).latchedAt (sec (s.dioDesc c).RETRY_S.toNat) = true →
    exec (.dioRetryExpire c) s = .next (s.setDio c fun x => { x with latchedAt := none })) ∧
  (∀ (s : State) (c : Fin 32), s.fieldUp = true → s.fieldRan (s.dioField c).openSince (ms (s.dioDesc c).OW_MS.toNat) = true →
    exec (.dioOpenWire c) s = .next (s.setDio c fun x => { x with openWire := true })) ∧
  (∀ (s : State) (c : Fin 32), s.fieldUp = true → s.fieldRan (s.dioField c).extSince (ms (s.dioDesc c).EXT_MS.toNat) = true →
    exec (.dioExtFeed c) s = .next (s.setDio c fun x => { x with extFeed := true })) ∧
  (∀ (s : State) (c : Fin 32), s.partnerOn c = false → s.ran (s.dio.partnerOffAt.get c) (ms 2) = true →
    exec (.extFeedSuppressEnd c) s = .next { s with dio := { s.dio with partnerOffAt := put s.dio.partnerOffAt c none } }) ∧
  (∀ (s : State) (n : Fin 4), s.fieldUp = true → (s.dio.field.get n).fuse = false →
    ∃ t : State, exec (.groupFuseTrip n) s = .next t ∧ (t.dio.field.get n).fuse = true ∧ (t.dio.link.get n).record.GRP_FUSE = 1#1 ∧
      (t.dio.link.get n).stat.FUSE_TRIPS = sat (s.dio.link.get n).stat.FUSE_TRIPS) ∧
  (∀ (s : State) (n : Fin 4), s.fieldUp = true → (s.dio.field.get n).sensFault = false →
    exec (.sensFuseTrip n) s = .next ((s.setField n fun f => { f with sensFault := true, sensAt := s.dio.clock }).setLink n
      fun k => { k with stat := { k.stat with SENS_TRIPS := sat k.stat.SENS_TRIPS } })) ∧
  (∀ (s : State) (n : Fin 4) (clear : Bool), s.fieldUp = true → (s.dio.field.get n).sensFault = true →
    (s.dio.field.get n).sensAt + sec 1 ≤ s.dio.clock →
    exec (.sensRetry n clear) s = .next (s.setField n fun f => if clear = true then { f with sensFault := false } else { f with sensAt := s.dio.clock }))

/-- FIO_AIO_SET of an existing channel with every field in range writes its descriptor, and is refused with 0x0701 otherwise; FIO_AIO_GET answers
it as written; FIO_AIO_STATUS and FIO_AIO_TRIM_GET answer their layouts. FIO_AIO_TRIM_SET of a path that fits the channel's mode computes
gain and offset of two points in their windows and stores them as the valid integrator trim; a path of another mode is refused with 0x0707, a
point outside its window with 0x0708, a trim beyond 20,000 ppm or 200,000 nA with 0x0709. FIO_AIO_TRIM_DRIVE drives an output at a point and is
refused with 0x0707 for a channel that is no output; FIO_AIO_TRIM_REMOVE takes the trim of a path away; FIO_AIO_CLEAR clears the counters of
one channel or, with 0xFF, of all. That TRIM_DRIVE sets RE_ARM of its link is the model's choice (log 46); the rounding of a trim to the nearest
number too. -/
def Obligations.AnalogueCommandsAnswer : Prop :=
  (∀ (s : State) (rq : Request) (c : Fin 16), s.Accepts Cmd.fioAioSet rq → (AioDesc.ofBytes rq.payload).CH_ID.toNat = c.val →
    exec (.fioAioSet rq) s = .next (
      if (AioDesc.ofBytes rq.payload).ok = true then
        State.answered (s.setAio c fun a => { a with desc := AioDesc.ofBytes rq.payload }) Cmd.fioAioSet rq []
      else (s.receive rq).refuse Cmd.fioAioSet rq 0x0701 c.val 0)) ∧
  (∀ (s : State) (rq : Request) (c : Fin 16), s.Accepts Cmd.fioAioGet rq → rq.u8 0 = c.val →
    exec (.fioAioGet rq) s = .next (s.answered Cmd.fioAioGet rq { (s.aio.get c).desc with CH_ID := BitVec.ofNat 8 c.val }.toBytes)) ∧
  (∀ (s : State) (rq : Request) (c : Fin 16) (a : Aio), s.Accepts Cmd.fioAioStatus rq → rq.u8 0 = c.val → s.aio.get c = a →
    exec (.fioAioStatus rq) s = .next (s.answered Cmd.fioAioStatus rq
      (a.stat.toBytes (FLAGS := a.record.flags) (TRIM_DRIVEN := bit (a.trimPoint != 0#8)) (FACT_CODE := a.factCode.toNat)))) ∧
  (∀ (s : State) (rq : Request) (c : Fin 16) (n1 t1 n2 t2 : Nat), s.Accepts Cmd.fioAioTrimSet rq → rq.u8 0 = c.val → rq.u8 1 ≤ 1 →
    rq.u32 4 = n1 → rq.u32 8 = t1 → rq.u32 12 = n2 → rq.u32 16 = t2 →
    exec (.fioAioTrimSet rq) s = .next (
      if ¬ pathFits (s.aio.get c).act.MODE (rq.u8 1) = true then (s.receive rq).refuse Cmd.fioAioTrimSet rq 0x0707 c.val 0
      else if ¬ ((3000000 ≤ n1 ∧ n1 ≤ 5000000 ∧ 3000000 ≤ t1 ∧ t1 ≤ 5000000) ∧ 19000000 ≤ n2 ∧ n2 ≤ 22000000 ∧ 19000000 ≤ t2 ∧ t2 ≤ 22000000) then
        (s.receive rq).refuse Cmd.fioAioTrimSet rq 0x0708 c.val 0
      else if 20000 < (trimOf n1 t1 n2 t2).1.natAbs ∨ 200000 < (trimOf n1 t1 n2 t2).2.natAbs then
        (s.receive rq).refuse Cmd.fioAioTrimSet rq 0x0709 c.val 0
      else State.answered (s.setAio c fun a =>
        if rq.u8 1 = 1 then
          { a with trimOut := { a.trimOut with INT_VALID := 1#1, GAIN_PPM := BitVec.ofInt 32 (trimOf n1 t1 n2 t2).1,
                                               OFS_NA := BitVec.ofInt 32 (trimOf n1 t1 n2 t2).2, INT_TS := s.ts }, trimNew := true }
        else
          { a with trimIn := { a.trimIn with INT_VALID := 1#1, GAIN_PPM := BitVec.ofInt 32 (trimOf n1 t1 n2 t2).1,
                                             OFS_NA := BitVec.ofInt 32 (trimOf n1 t1 n2 t2).2, INT_TS := s.ts } })
        Cmd.fioAioTrimSet rq [])) ∧
  (∀ (s : State) (rq : Request) (c : Fin 16) (a : Aio), s.Accepts Cmd.fioAioTrimGet rq → rq.u8 0 = c.val → rq.u8 1 ≤ 1 → s.aio.get c = a →
    exec (.fioAioTrimGet rq) s = .next (s.answered Cmd.fioAioTrimGet rq
      { (if rq.u8 1 = 1 then a.trimOut else a.trimIn) with CH_ID := BitVec.ofNat 8 c.val, PATH := BitVec.ofNat 8 (rq.u8 1) }.toBytes)) ∧
  (∀ (s : State) (rq : Request) (c : Fin 16), s.Accepts Cmd.fioAioTrimDrive rq → rq.u8 0 = c.val → rq.u8 1 ≤ 2 →
    exec (.fioAioTrimDrive rq) s = .next (
      if (s.aio.get c).act.MODE = 3#8 then
        State.reply (((s.receive rq).setAio c fun a => { a with trimPoint := BitVec.ofNat 8 (rq.u8 1), trimNew := false }).rearmLink (aioLink c))
          Cmd.fioAioTrimDrive rq 0 []
      else (s.receive rq).refuse Cmd.fioAioTrimDrive rq 0x0707 c.val 0)) ∧
  (∀ (s : State) (rq : Request) (c : Fin 16), s.Accepts Cmd.fioAioTrimRemove rq → rq.u8 0 = c.val → rq.u8 1 ≤ 1 →
    exec (.fioAioTrimRemove rq) s = .next (State.answered (s.setAio c fun a =>
      if rq.u8 1 = 1 then { a with trimOut := { a.trimOut with INT_VALID := 0#1, GAIN_PPM := 0#32, OFS_NA := 0#32, INT_TS := 0#64 } }
      else { a with trimIn := { a.trimIn with INT_VALID := 0#1, GAIN_PPM := 0#32, OFS_NA := 0#32, INT_TS := 0#64 } }) Cmd.fioAioTrimRemove rq [])) ∧
  (∀ (s : State) (rq : Request) (c : Fin 16), s.Accepts Cmd.fioAioClear rq → rq.u8 0 = c.val →
    exec (.fioAioClear rq) s = .next (State.answered (s.setAio c fun a => { a with stat := AioStat.dflt }) Cmd.fioAioClear rq [])) ∧
  (∀ (s : State) (rq : Request), s.Accepts Cmd.fioAioClear rq → rq.u8 0 = 0xFF →
    exec (.fioAioClear rq) s = .next (State.answered { s with aio := s.aio.map fun (a : Aio) => { a with stat := AioStat.dflt } } Cmd.fioAioClear rq []))

/-- At 1 ms of an output with readings the means of command and readback are compared: an open loop of 10 ms is declared with an ALARM, an error
above 0.1 mA of 10 ms with a WARNING, and 100 ms without error end both with a NOTICE. The NE 43 timer of an input judges its newest code against
its limits again. A loop-powered input in its current limit for 1 ms, an output stage shut down and a failed converter self-check set
their fault of the channel on a powered field side; the shut-down stage sources 0 mA. -/
def Obligations.AnalogueEventsMove : Prop :=
  (∀ (s : State) (c : Fin 16) (a b : Aio) (sev : Option Nat), s.logicUp = true → s.aioMode c = 3 → s.since (s.aio.get c).cmpAt (ms 1) = true →
    (s.aio.get c).sumBack.2 ≠ 0 → s.aio.get c = a → (a.judge s.now).decide287 s.now = (b, sev) →
    exec (.aioComplianceCompare c) s = .next (match sev with
      | some v => State.event { s with aio := put s.aio c b } v 0x0781 (0x20 + c.val) a.record.flags b.record.flags
      | none => { s with aio := put s.aio c b })) ∧
  (∀ (a : Aio) (now t : Nat), a.openSince = some t → t + ms 10 ≤ now → a.record.OPEN_LOOP = 0#1 →
    a.decide287 now = ({ a with stat := { a.stat with OPEN_COUNT := sat a.stat.OPEN_COUNT } }.seal false
      { a.record with OPEN_LOOP := 1#1, AO_COMPLIANCE := 0#1 }, some 4)) ∧
  (∀ (s : State) (c : Fin 16) (t : Bool × Nat), s.logicUp = true → (s.aio.get c).record.MARKER = 0#1 → (s.aioMode c = 1 ∨ s.aioMode c = 2) →
    (s.aio.get c).failSince = some t →
    exec (.ne43FailTimer c) s = .next (s.setAio c fun a => a.seal false
      (a.record.classify a.record.CODE.toNat s.now a.act.FAIL_MS.toNat (some t)))) ∧
  (∀ (s : State) (c : Fin 16), s.fieldUp = true → s.fieldMode c = 1 →
    exec (.loopShortDetect c) s = .next (s.setAio c fun a => { a with loopShort := true })) ∧
  (∀ (s : State) (c : Fin 16), s.fieldUp = true → s.fieldMode c = 3 →
    exec (.srcFaultShutdown c) s = .next ((s.setAio c fun a => { a with srcFault := true }).setSources (aioLink c))) ∧
  (∀ (s : State) (c : Fin 16), s.fieldUp = true →
    exec (.adcSelfCheckFail c) s = .next (s.setAio c fun a => { a with adcFault := true }))

/-- MOT_AXIS_SET and MOT_ENC_SET of an existing axis or encoder with every field in range write its descriptor, and are refused with 0x0901
otherwise; MOT_AXIS_GET and MOT_ENC_GET answer it. MOT_TABLE_LOAD of a table in range that no axis runs or chains loads it; it is
refused with 0x0901 out of range, with 0x0903 in use; MOT_TABLE_READ answers it. MOT_STATUS answers the status record and the counters of the
axis as of now; MOT_CLEAR clears the counters of one axis or, with 0xFF, of all. That MOT_CLEAR of axis n also clears QUAD_ERR of
encoder n is the model's choice (log 47). -/
def Obligations.MotionCommandsAnswer : Prop :=
  (∀ (s : State) (rq : Request) (n : Fin 8), s.Accepts Cmd.motAxisSet rq → (AxisDesc.ofBytes rq.payload).AXIS_ID.toNat = n.val →
    exec (.motAxisSet rq) s = .next (
      if (AxisDesc.ofBytes rq.payload).ok = true then
        State.answered (s.setMx n fun x => { x with desc := AxisDesc.ofBytes rq.payload }) Cmd.motAxisSet rq []
      else (s.receive rq).refuse Cmd.motAxisSet rq 0x0901 n.val 0)) ∧
  (∀ (s : State) (rq : Request) (n : Fin 8), s.Accepts Cmd.motAxisGet rq → rq.u8 0 = n.val →
    exec (.motAxisGet rq) s = .next (s.answered Cmd.motAxisGet rq { (s.mx n).desc with AXIS_ID := BitVec.ofNat 8 n.val }.toBytes)) ∧
  (∀ (s : State) (rq : Request) (n : Fin 8), s.Accepts Cmd.motEncSet rq → (EncDesc.ofBytes rq.payload).ENC_ID.toNat = n.val →
    exec (.motEncSet rq) s = .next (
      if (EncDesc.ofBytes rq.payload).ok = true then
        State.answered { s with mot := { s.mot with enc := upd s.mot.enc n fun e => { e with desc := EncDesc.ofBytes rq.payload } } } Cmd.motEncSet rq []
      else (s.receive rq).refuse Cmd.motEncSet rq 0x0901 n.val 0)) ∧
  (∀ (s : State) (rq : Request) (n : Fin 8), s.Accepts Cmd.motEncGet rq → rq.u8 0 = n.val →
    exec (.motEncGet rq) s = .next (s.answered Cmd.motEncGet rq { (s.mot.enc.get n).desc with ENC_ID := BitVec.ofNat 8 n.val }.toBytes)) ∧
  (∀ (s : State) (rq : Request) (k : Fin 16) (t : SegTable), s.Accepts Cmd.motTableLoad rq → SegTable.ofBytes rq.payload = t →
    t.head.TABLE_ID.toNat = k.val →
    exec (.motTableLoad rq) s = .next (
      if t.ok = false then (s.receive rq).refuse Cmd.motTableLoad rq 0x0901 k.val 0
      else if s.tableInUse k = true then (s.receive rq).refuse Cmd.motTableLoad rq 0x0903 k.val 0
      else State.answered { s with mot := { s.mot with table := put s.mot.table k t } } Cmd.motTableLoad rq [])) ∧
  (∀ (s : State) (rq : Request) (k : Fin 16) (t : SegTable), s.Accepts Cmd.motTableRead rq → rq.u8 0 = k.val → s.mot.table.get k = t →
    exec (.motTableRead rq) s = .next (s.answered Cmd.motTableRead rq { t with head := { t.head with TABLE_ID := BitVec.ofNat 8 k.val } }.toBytes)) ∧
  (∀ (s : State) (rq : Request) (n : Fin 8) (u : State), s.Accepts Cmd.motStatus rq → rq.u8 0 = n.val → (s.receive rq).advanceAxes = u →
    exec (.motStatus rq) s = .next (u.reply Cmd.motStatus rq 0 ((u.axisRecord n).toBytes ++ (u.mx n).count.toBytes))) ∧
  (∀ (s : State) (rq : Request) (n : Fin 8), s.Accepts Cmd.motClear rq → rq.u8 0 = n.val →
    exec (.motClear rq) s = .next (State.answered
      { s with mot := { s.mot with
          axis := upd s.mot.axis n fun x => { x with count := { AxisCount.dflt with LAST_STOP_TS := x.count.LAST_STOP_TS } }
          enc := upd s.mot.enc n fun e => { e with quadErr := false } } } Cmd.motClear rq [])) ∧
  (∀ (s : State) (rq : Request), s.Accepts Cmd.motClear rq → rq.u8 0 = 0xFF →
    exec (.motClear rq) s = .next (State.reply ((idx 8).foldl State.clearMotion (s.receive rq)) Cmd.motClear rq 0 []))

/-- At a motion tick of a serving module the encoders take their counts, axes out of range stop, the records of every axis and encoder are
written, and every axis that the module drives reads its limits, home input, request, VEL and gear record; then the island takes the counts.
A request whose CMD_SEQ differs from the last one taken is acknowledged; RAMP_STOP, STOP_NOW and DISABLE are never refused and act; any other
request of 3 to 8 is refused with 0x0908 while T8 is killed, else with 0x0909 under a brake test, else, but for ENABLE, with 0x090A without EN_ON;
a refusal sets TARGET_REFUSED and REFUSE, counts, and leaves the state and speed of the axis. STOP_NOW of a moving axis ends its mode at
once, and above VEL_START sets POSITION_UNCERTAIN, clears HOMED and counts the loss. -/
def Obligations.MotionRequestsAreTakenOrRefused : Prop :=
  (∀ (s : State) (counts : Vector (BitVec 32) 8) (u : State), s.sys.phase = .serving → s.pow.pfStage = .idle → s.now % us 10 = 0 →
    { s with mot := { s.mot with enc := Vector.ofFn fun (k : Fin 8) => (s.mot.enc.get k).sample (counts.get k) } } = u →
    exec (.axisRequestTake counts) s = .next (((idx 8).foldl State.axisTick ((idx 8).foldl State.checkRange u.advanceAxes).writeMotion).sampleAxes counts)) ∧
  (∀ (s : State) (n : Fin 8) (c : Nat), s.takesMotion n = true → (s.axisCmd n).CMD_SEQ ≠ (s.mx n).lastSeq →
    s.requestCode n (s.axisCmd n) = some c →
    ((s.takeRequest n).mx n).lastSeq = (s.axisCmd n).CMD_SEQ ∧ ((s.takeRequest n).mx n).stat.TARGET_REFUSED = 1#1 ∧
    ((s.takeRequest n).mx n).stat.REFUSE = BitVec.ofNat 16 c ∧
    ((s.takeRequest n).mx n).count.REFUSED_COUNT = sat (s.mx n).count.REFUSED_COUNT ∧
    ((s.takeRequest n).mx n).state = (s.mx n).state ∧ ((s.takeRequest n).mx n).vel = (s.mx n).vel ∧ ((s.takeRequest n).mx n).pos = (s.mx n).pos) ∧
  (∀ (s : State) (n : Fin 8), s.takesMotion n = true → (s.axisCmd n).CMD_SEQ ≠ (s.mx n).lastSeq → s.requestCode n (s.axisCmd n) = none →
    s.takeRequest n = State.applyRequest (s.setMx n fun x => { x with lastSeq := (s.axisCmd n).CMD_SEQ, stat := { x.stat with TARGET_REFUSED := 0#1 } })
      n (s.axisCmd n)) ∧
  (∀ (s : State) (n : Fin 8), (s.axisCmd n).CMD_SEQ = (s.mx n).lastSeq → s.takeRequest n = s) ∧
  (∀ (s : State) (n : Fin 8) (cmd : AxisCmd), cmd.MODE_REQ = 1#8 ∨ cmd.MODE_REQ = 2#8 ∨ cmd.MODE_REQ = 9#8 → s.requestCode n cmd = none) ∧
  (∀ (s : State) (n : Fin 8) (cmd : AxisCmd), 3 ≤ cmd.MODE_REQ.toNat → cmd.MODE_REQ.toNat ≤ 8 →
    (s.isl.killed.get 8 = true → s.requestCode n cmd = some 0x0908) ∧
    (s.isl.killed.get 8 = false → (s.mx n).btHold = true → s.requestCode n cmd = some 0x0909) ∧
    (s.isl.killed.get 8 = false → (s.mx n).btHold = false → cmd.MODE_REQ ≠ 8#8 → (s.mx n).stat.EN_ON = 0#1 → s.requestCode n cmd = some 0x090A)) ∧
  (∀ (x : Axis) (ts : BitVec 64), x.state ≠ .disabled → x.state ≠ .idle →
    (x.stopNow ts).state = .idle ∧ (x.stopNow ts).vel = 0 ∧ (x.stopNow ts).resWanted = none ∧
    (x.stopNow ts).count.IMMEDIATE_STOPS = sat x.count.IMMEDIATE_STOPS ∧ (x.stopNow ts).count.LAST_STOP_TS = ts ∧
    (if x.desc.VEL_START.toNat * velUnit < x.vel.natAbs then
      (x.stopNow ts).stat.POSITION_UNCERTAIN = 1#1 ∧ (x.stopNow ts).stat.HOMED = 0#1 ∧ (x.stopNow ts).count.LOST_COUNT = sat x.count.LOST_COUNT
     else
      (x.stopNow ts).stat.POSITION_UNCERTAIN = x.stat.POSITION_UNCERTAIN ∧ (x.stopNow ts).stat.HOMED = x.stat.HOMED ∧
      (x.stopNow ts).count.LOST_COUNT = x.count.LOST_COUNT)) ∧
  (∀ (s : State) (n : Fin 8) (cmd : AxisCmd), (s.mx n).btHold = false →
    (cmd.MODE_REQ = 1#8 → s.applyRequest n cmd = s.setMx n fun x => x.rampDown x.desc.DEC.toNat) ∧
    (cmd.MODE_REQ = 2#8 → s.applyRequest n cmd = s.setMx n fun x => x.stopNow s.ts) ∧
    (cmd.MODE_REQ = 9#8 → s.applyRequest n cmd = s.setMx n fun x => (x.stopNow s.ts).disable))

/-- EN_DELAY_US after ENABLE sets EN_ON. With every reference brought up to now: a reversing axis at rest clears REVERSING; a POSITION move at rest on
its target sets AT_TARGET; a decelerating axis at rest goes IDLE (and a swap that waited for the axes goes on); the end of a table's segment
starts the next segment, a chain or the end; an armed ratio that is due is applied; a lag beyond its limit decelerates at DEC_QUICK with
GEAR_FAULT and 0x0910; a limit in the direction of travel trips; a limit released for SW_STABLE_MS is released; an edge that has held ends its
phase of homing, and a captured axis at rest takes HOME_POS, HOMED, and counts; homing beyond HOME_TIMEOUT_S fails with 0x090D; a Z edge of a
used encoder captures its count. -/
def Obligations.MovesTablesAndGearsEnd : Prop :=
  (∀ (s : State) (n : Fin 8) (t : Nat), s.inRun = true → (s.mx n).enAt = some t → t + us (s.mx n).desc.EN_DELAY_US.toNat ≤ s.now →
    exec (.enDelayExpire n) s = .next (s.setMx n fun x =>
      { x with enAt := none, state := if x.state = .disabled then .idle else x.state, stat := { x.stat with EN_ON := 1#1 } })) ∧
  (∀ (s : State) (n : Fin 8) (u : State), s.inRun = true → s.advanceAxes = u → (u.mx n).state = .position → (u.mx n).vel = 0 →
    (u.mx n).stat.REVERSING = 1#1 →
    exec (.reversalRest n) s = .next (u.setMx n fun x => { x with stat := { x.stat with REVERSING := 0#1 } })) ∧
  (∀ (s : State) (n : Fin 8) (u : State), s.inRun = true → s.advanceAxes = u → (u.mx n).state = .position → (u.mx n).vel = 0 →
    (u.mx n).stat.REVERSING = 0#1 → (u.mx n).exact = (u.mx n).target * stepUnit →
    exec (.moveArrival n) s = .next (u.setMx n fun x => { x with stat := { x.stat with AT_TARGET := 1#1 } })) ∧
  (∀ (s : State) (n : Fin 8) (u : State), s.inRun = true → s.advanceAxes = u → (u.mx n).state = .stopping → (u.mx n).vel = 0 →
    exec (.axisRestReached n) s = .next (u.setMx n fun x => { x.endMode with state := .idle }).afterRest) ∧
  (∀ (s : State) (n : Fin 8) (u : State) (h : Homing), s.inRun = true → s.advanceAxes = u → (u.mx n).state = .homing → (u.mx n).vel = 0 →
    (u.mx n).home = some h → h.phase = .stop →
    exec (.axisRestReached n) s = .next (u.setMx n fun x => x.homeNext .back s.now).afterRest) ∧
  (∀ (s : State) (n : Fin 8) (u : State) (k : Fin 16) (seg at_ : Nat) (start : Int), s.inRun = true → s.advanceAxes = u → (u.mx n).state = .table →
    (u.mx n).tbl = some (k, seg, at_, start) → at_ + us ((s.mot.table.get k).dur seg) ≤ s.now →
    exec (.tableSegmentEnd n) s = .next (u.nextSegment n k seg at_ start)) ∧
  (∀ (s : State) (n : Fin 8) (k : Fin 16) (seg at_ : Nat) (start : Int), seg + 1 < (s.mot.table.get k).count →
    s.nextSegment n k seg at_ start = s.setMx n fun x => { x with tbl := some (k, seg + 1, at_ + us ((s.mot.table.get k).dur seg), start) }) ∧
  (∀ (s : State) (n : Fin 8), s.inRun = true → exec (.gearRatioChange n) s = .next (s.advanceAxes.applyRatio n)) ∧
  (∀ (s : State) (n : Fin 8) (u : State), s.inRun = true → s.advanceAxes = u → (u.mx n).state = .gear →
    256 * (u.mx n).desc.LAG_MAX_FS.toNat < (u.mx n).stat.LAG.toInt.natAbs →
    exec (.gearLagFault n) s = .next (u.setMx n fun x =>
      { (x.rampDown x.desc.DEC_QUICK.toNat).report 0x0910 with
        stat := { ((x.rampDown x.desc.DEC_QUICK.toNat).report 0x0910).stat with GEAR_FAULT := 1#1 } })) ∧
  (∀ (s : State) (n : Fin 8) (positive : Bool) (u : State), s.inRun = true → s.advanceAxes = u → u.limitHit n positive = true →
    exec (.limitTrip n positive) s = .next (u.tripLimit n positive)) ∧
  (∀ (s : State) (n : Fin 8) (t : Nat), (s.mx n).limited true = true → s.limitReads (s.mx n).desc.LIM_POS_DIO = false → (s.mx n).limPos = some t →
    t + ms (s.mx n).desc.SW_STABLE_MS.toNat ≤ s.now →
    exec (.limitRelease n true) s = .next (s.setMx n fun x => { x.setLimited true false with limPos := none })) ∧
  (∀ (s : State) (n : Fin 8) (t : Nat), (s.mx n).limited false = true → s.limitReads (s.mx n).desc.LIM_NEG_DIO = false → (s.mx n).limNeg = some t →
    t + ms (s.mx n).desc.SW_STABLE_MS.toNat ≤ s.now →
    exec (.limitRelease n false) s = .next (s.setMx n fun x => { x.setLimited false false with limNeg := none })) ∧
  (∀ (s : State) (n : Fin 8) (u : State) (h : Homing), s.inRun = true → s.advanceAxes = u → (u.mx n).state = .homing → (u.mx n).home = some h →
    h.phase = .leave → h.sw = false → h.since ≤ h.edgeAt → h.edgeAt ≠ h.begun → h.edgeAt + ms (u.mx n).desc.SW_STABLE_MS.toNat ≤ s.now →
    exec (.homeEdgeCapture n) s = .next (u.setMx n fun x => x.homeNext .search s.now)) ∧
  (∀ (s : State) (n : Fin 8) (u : State) (h : Homing) (p : Int), s.inRun = true → s.advanceAxes = u → (u.mx n).vel = 0 → (u.mx n).home = some h →
    h.phase = .captured → h.capture = some p →
    ∃ t : State, exec (.homeComplete n) s = .next t ∧ (t.mx n).state = .idle ∧ (t.mx n).pos = (u.mx n).pos - p + (u.mx n).desc.HOME_POS.toInt ∧
      (t.mx n).stat.HOMED = 1#1 ∧ (t.mx n).stat.POSITION_UNCERTAIN = 0#1 ∧ (t.mx n).count.HOME_COUNT = sat (u.mx n).count.HOME_COUNT) ∧
  (∀ (s : State) (n : Fin 8) (u : State) (h : Homing), s.inRun = true → s.advanceAxes = u → (u.mx n).home = some h →
    h.begun + sec (u.mx n).desc.HOME_TIMEOUT_S.toNat ≤ s.now →
    exec (.homeTimeout n) s = .next (u.setMx n fun x => x.homeFail 0x090D)) ∧
  (∀ (s : State) (e : Fin 8), s.sys.phase = .serving → (s.mot.enc.get e).desc.MODE = 1#8 →
    ∃ t : State, exec (.zEdgeCapture e) s = .next t ∧ (t.mot.enc.get e).zCount = (s.advanceAxes.mot.enc.get e).count ∧ (t.mot.enc.get e).zSeen = true ∧
      (t.mot.enc.get e).zSeq = (s.advanceAxes.mot.enc.get e).zSeq + 1)

/-- A pulse rate beyond its thresholds makes a code change pending, and sends a frame where the link is free; a free link sends a refresh
1 ms after its last frame; a frame that completes latches the codes in the drives and has its echo judged against the frame before it. A
matching echo counts; a first mismatch has the frame resent and counts LINK_RESEND on every axis of the link; a second in a row sets
DRIVE_LINK_FAULT, stops every axis with RES_MODE 0 or 1 and writes an ALARM record; 16 matches in a row clear the fault. That the link
runs in STOP and RUN, and that the first echo after a start is not checked, is the model's reading. -/
def Obligations.DriveLinkRuns : Prop :=
  (∀ (s : State) (n : Fin 8) (u : State) (c : BitVec 3), s.inRun = true → s.advanceAxes = u → (u.mx n).used = true → (u.mx n).resWanted = none →
    (u.mx n).wantedCode = some c → u.mot.dlFrame = none →
    exec (.resCodeChange n) s = .next (u.setMx n fun x => { x with resWanted := some c }).sendDrive) ∧
  (∀ (s : State), s.driveRuns = true → s.mot.dlFrame = none → s.mot.dlAt + ms 1 ≤ s.now → exec .driveLinkRefresh s = .next s.sendDrive) ∧
  (∀ (s : State) (echo f : BitVec 32) (u : State), s.driveRuns = true → s.mot.dlFrame = some f → s.mot.dlAt + 320 ≤ s.now → s.advanceAxes = u →
    exec (.driveLinkFrameComplete echo) s = .next
      ((u.latchFrame f).judgeEcho f (u.echoOk echo)).sendWaiting) ∧
  (∀ (s : State) (f : BitVec 32), (s.judgeEcho f true).mot.dlGood = min 16 (s.mot.dlGood + 1) ∧
    (s.judgeEcho f true).mot.dlFault = (s.mot.dlFault && decide (s.mot.dlGood + 1 < 16))) ∧
  (∀ (s : State) (f : BitVec 32), s.mot.dlBad = false →
    s.judgeEcho f false = { s with mot := { s.mot with
      dlBad := true, dlGood := 0, axis := s.mot.axis.map Axis.countResend, dlFrame := some f, dlAt := s.now } }) ∧
  (∀ (s : State) (f : BitVec 32) (u : State), s.mot.dlBad = true → s.linkHeld = false →
    { s with mot := { s.mot with dlBad := false, dlGood := 0, dlFault := true, axis := s.mot.axis.map fun (x : Axis) => x.linkStop s.ts } } = u →
    s.judgeEcho f false = u.event 4 0x0980 0xFF 0 ((u.mot.axis.toList.map fun x => x.count.LINK_RESEND.toNat).foldl max 0))

/-- CAN_CTRL_SET, CAN_FILTER_SET and CAN_OBJECT_SET of fields in range write their entry, and are refused with 0x0A01 otherwise, a 2049th object with
0x0A06; CAN_CTRL_GET and CAN_STATUS answer their layouts. CAN_RECOVER in bus-off starts the wait, clears BOFF_LOCKED, and is refused with 0x0A03
outside both. CAN_TX_ONCE queues one frame; a frame that cannot be sent is refused with 0x0A01, an identifier of a transmit object with 0x0A04, and
with 0x0A05 while restricted, off, in bus-off or with 16 frames queued. CAN_CLEAR clears counters and sticky bits of one controller or, with 0xFF,
of all. What of a frame record CAN_TX_ONCE takes as out of range is the model's reading. -/
def Obligations.CanCommandsAnswer : Prop :=
  (∀ (s : State) (rq : Request) (c : Fin 4), s.Accepts Cmd.canCtrlSet rq → (CanDesc.ofBytes rq.payload).CTRL_ID.toNat = c.val →
    exec (.canCtrlSet rq) s = .next (
      if (CanDesc.ofBytes rq.payload).ok = true then
        State.answered (s.setCan c fun x => { x with desc := CanDesc.ofBytes rq.payload }) Cmd.canCtrlSet rq []
      else (s.receive rq).refuse Cmd.canCtrlSet rq 0x0A01 c.val 0)) ∧
  (∀ (s : State) (rq : Request) (c : Fin 4), s.Accepts Cmd.canCtrlGet rq → rq.u8 0 = c.val →
    exec (.canCtrlGet rq) s = .next (s.answered Cmd.canCtrlGet rq { (s.can.ctrl.get c).desc with CTRL_ID := BitVec.ofNat 8 c.val }.toBytes)) ∧
  (∀ (s : State) (rq : Request) (c : Fin 4) (n : Fin 64) (d : CanFilter), s.Accepts Cmd.canFilterSet rq → CanFilter.ofBytes rq.payload = d →
    d.CTRL_ID.toNat = c.val → d.FILT_NO.toNat = n.val →
    exec (.canFilterSet rq) s = .next (
      if (1 ≤ d.DEPTH.toNat ∧ d.DEPTH.toNat ≤ 8) ∧ d.FILT_ID.toNat < 2 ^ 29 ∧ d.MASK.toNat < 2 ^ 29 then
        State.answered (s.setCan c fun x => { x with filters := put x.filters n d }) Cmd.canFilterSet rq []
      else (s.receive rq).refuse Cmd.canFilterSet rq 0x0A01 c.val 0)) ∧
  (∀ (s : State) (rq : Request) (d : CanObject), s.Accepts Cmd.canObjectSet rq → CanObject.ofBytes rq.payload = d →
    exec (.canObjectSet rq) s = .next (
      if d.ok = false then (s.receive rq).refuse Cmd.canObjectSet rq 0x0A01 d.CTRL_ID.toNat 0
      else if 2048 < (objectPut s.can.objects d).length then (s.receive rq).refuse Cmd.canObjectSet rq 0x0A06 d.CTRL_ID.toNat 0
      else State.answered { s with can := { s.can with objects := objectPut s.can.objects d } } Cmd.canObjectSet rq [])) ∧
  (∀ (s : State) (rq : Request) (c : Fin 4), s.Accepts Cmd.canRecover rq → rq.u8 0 = c.val →
    exec (.canRecover rq) s = .next (
      if (s.can.ctrl.get c).state = .busOff ∨ (s.can.ctrl.get c).boffLocked = true then
        State.answered (s.setCan c fun x => { x with boffLocked := false, recovering := (s.can.ctrl.get c).state == .busOff }) Cmd.canRecover rq []
      else (s.receive rq).refuse Cmd.canRecover rq 0x0A03 c.val 0)) ∧
  (∀ (s : State) (rq : Request) (c : Fin 4), s.Accepts Cmd.canStatus rq → rq.u8 0 = c.val →
    exec (.canStatus rq) s = .next (s.answered Cmd.canStatus rq (s.can.ctrl.get c).status)) ∧
  (∀ (s : State) (rq : Request) (c : Fin 4) (r : FrameRec) (x : CanCtrl), s.Accepts Cmd.canTxOnce rq → rq.u8 0 = c.val →
    FrameRec.ofBytes (rq.payload.drop 4) = r → s.can.ctrl.get c = x →
    exec (.canTxOnce rq) s = .next (
      if r.sendable x.desc = false then (s.receive rq).refuse Cmd.canTxOnce rq 0x0A01 c.val 0
      else if (s.can.objects.any fun o => o.CTRL_ID.toNat == c.val && o.DIR == 2#8 && sameId o.ID r.ID) = true then
        (s.receive rq).refuse Cmd.canTxOnce rq 0x0A04 c.val 0
      else if x.mode ≠ .normal ∨ x.state = .busOff ∨ x.state = .off ∨ 16 ≤ x.queue.length then (s.receive rq).refuse Cmd.canTxOnce rq 0x0A05 c.val 0
      else State.answered (s.setCan c fun x => { x with queue := x.queue ++
          [{ id := r.ID, dlc := r.DLC.setWidth 4, fdf := r.FDF == 1#1, brs := r.BRS == 1#1, esi := false, res := false
             data := keepData r.DATA (dlcBytes r.DLC.toNat (r.FDF == 1#1)) }] }) Cmd.canTxOnce rq [])) ∧
  (∀ (s : State) (rq : Request) (c : Fin 4), s.Accepts Cmd.canClear rq → rq.u8 0 = c.val →
    exec (.canClear rq) s = .next (State.answered (s.canStat c CanStat.cleared) Cmd.canClear rq [])) ∧
  (∀ (s : State) (rq : Request), s.Accepts Cmd.canClear rq → rq.u8 0 = 0xFF →
    exec (.canClear rq) s = .next (State.answered
      { s with can := { s.can with ctrl := s.can.ctrl.map fun (x : CanCtrl) => { x with stat := x.stat.cleared } } } Cmd.canClear rq []))

/-- A valid frame is counted and goes to the first filter that takes it, else to its receive object, else it counts as unmatched; an FD frame that
the controller takes no part in is a protocol exception; a controller off or in bus-off receives nothing. Every receive object of a controller
that is not off is scanned. A transmit object with ON_PERIOD becomes pending at its period. A controller in normal operation reads the lowest
candidate for arbitration. A sent frame counts, writes SENT_SEQ and SENT_TS of its object, and lowers TEC by one. An error moves the counters
of a controller on the bus. BOFF_HOLD_MS after bus-off the wait starts under policy 0; its end brings error-active with both counters 0 and a
NOTICE. A master prepares a reference at each period unless it has heard a lower REF_ID; a follower without one for twice the period sets REF_LOST. -/
def Obligations.CanFramesMove : Prop :=
  (∀ (s : State) (c : Fin 4) (f : CanFrame) (age : Nat) (ph : Fin 8) (x : CanCtrl) (rc : Nat) (t u : State), s.can.ctrl.get c = x → x.onBus = true →
    (f.fdf = true → x.desc.FD_EN = 1#1 ∧ f.res = false) → s.recAfter x.recCount = (rc, t) → t.canCount c x.tecCount rc = u →
    exec (.canFrameReceive c f age ph) s = .next ((u.setCan c fun x => x.count f (s.stampAt age ph) u.now).canPlace c f (s.stampAt age ph))) ∧
  (∀ (s : State) (c : Fin 4) (f : CanFrame) (age : Nat) (ph : Fin 8), (s.can.ctrl.get c).onBus = false →
    exec (.canFrameReceive c f age ph) s = .next s) ∧
  (∀ (s : State) (c : Fin 4) (f : CanFrame) (age : Nat) (ph : Fin 8) (x : CanCtrl), s.can.ctrl.get c = x → x.onBus = true → f.fdf = true →
    (x.desc.FD_EN = 0#1 ∨ f.res = true) → x.desc.PROT_EXC = 1#1 →
    exec (.canFrameReceive c f age ph) s = .next (s.canStat c fun y => { y with PROT_EXC_SEEN := 1#1 })) ∧
  (∀ (s : State) (l : List CanObject), (s.can.objects.filter fun o => match asFin 4 o.CTRL_ID.toNat with
      | some c => (s.can.ctrl.get c).mode != .off
      | none => false) = l → exec .canReceiveTimeoutScan s = .next (l.foldl State.canScan s)) ∧
  (∀ (s : State) (c : Fin 4) (k : BitVec 16) (o : CanObject), s.txObject c k = some o → s.inRun = true → (s.can.ctrl.get c).mode ≠ .off →
    o.ON_PERIOD = 1#1 → o.TIME_MS ≠ 0#16 → (((s.can.ctrl.get c).txAt.lookup k).getD 0) + ms o.TIME_MS.toNat ≤ s.now →
    exec (.canTxPeriod c k) s = .next (s.setCan c fun x => { x with pendingTx := x.pendingTx.insert k, txAt := assocPut x.txAt k s.now })) ∧
  (∀ (s : State) (c : Fin 4) (t : CanTx × FrameRec), (s.can.ctrl.get c).mode = .normal → (s.can.ctrl.get c).onBus = true →
    lowestId ((s.setCan c CanCtrl.failed).txCandidates c) = some t →
    exec (.canArbitrationPrepare c) s = .next ((s.setCan c CanCtrl.failed).setCan c fun x => x.read t)) ∧
  (∀ (s : State) (c : Fin 4) (age : Nat) (ph : Fin 8) (d : BitVec 8) (k : BitVec 16) (r : FrameRec) (x : CanCtrl) (u : State),
    s.can.ctrl.get c = x → x.mode = .normal → x.onBus = true → x.wire = some (.object k, r) →
    s.setCan c (fun x => { x.measure (r.FDF == 1#1) d with
      wire := none, stat := { (x.measure (r.FDF == 1#1) d).stat with TX_FRAMES := sat x.stat.TX_FRAMES } }) = u →
    exec (.canTxComplete c age ph d) s = .next ((u.setMem 5 ((u.gro.mem.get 5).write (canObjOff k.toNat + 0x50)
      (({ r with RS_SEQ := r.SEQ, SENT_TS := s.stampAt age ph }.toBytes.drop 80).take 16))).canCount c (x.tecCount - 1) x.recCount)) ∧
  (∀ (s : State) (c : Fin 4) (e : CanErr) (site : CanSite) (d : BitVec 8) (x : CanCtrl), s.can.ctrl.get c = x → x.onBus = true →
    exec (.canBusError c e false site d) s = .next (State.canCount
      (s.setCan c fun x => CanCtrl.measure { x with stat := { x.stat with LAST_ERR := BitVec.ofNat 8 e.num } } false d) c
      (afterError x e false site).1 (afterError x e false site).2)) ∧
  (∀ (s : State) (c : Fin 4) (e : CanErr) (site : CanSite) (d : BitVec 8) (x : CanCtrl) (t : CanTx) (r : FrameRec), s.can.ctrl.get c = x →
    x.onBus = true → x.mode = .normal → x.wire = some (t, r) →
    exec (.canBusError c e true site d) s = .next (State.canCount
      (s.setCan c fun x => (CanCtrl.measure { x with stat := { x.stat with LAST_ERR := BitVec.ofNat 8 e.num } } (r.FDF == 1#1) d).failed) c
      (afterError x e true site).1 (afterError x e true site).2)) ∧
  (∀ (s : State) (c : Fin 4) (x : CanCtrl), s.can.ctrl.get c = x → x.state = .busOff → x.recovering = false → x.desc.BUSOFF_POLICY = 0#8 →
    x.boffLocked = false → x.boffAt + ms x.desc.BOFF_HOLD_MS.toNat ≤ s.now →
    exec (.canBusoffHoldExpire c) s = .next (s.setCan c fun x => { x with recovering := true })) ∧
  (∀ (s : State) (c : Fin 4) (x : CanCtrl), s.can.ctrl.get c = x → x.state = .busOff → x.recovering = true → x.mode ≠ .off →
    exec (.canRecoveryComplete c) s = .next (State.event
      (s.setCan c fun x => { x with state := .active, recovering := false, tecCount := 0, recCount := 0 }) 2 0x0A80 c.val 2 0)) ∧
  (∀ (s : State) (c : Fin 4) (x : CanCtrl), s.can.ctrl.get c = x → x.mode = .normal → x.onBus = true → x.desc.TIME_ROLE = 1#8 →
    s.crossed (1000 * x.desc.REF_PERIOD_US.toNat) = true → x.refAt = none →
    exec (.canRefMessage c) s = .next (s.setCan c fun x => { x with
      refPending := some x.cycleNext, cycleNext := x.cycleNext + 1
      stat := { x.stat with MASTER_ACTIVE := 1#1, CYCLE_COUNT := x.cycleNext.setWidth 8 } })) ∧
  (∀ (s : State) (c : Fin 4) (x : CanCtrl) (a : Nat), s.can.ctrl.get c = x → x.mode ≠ .off → x.desc.TIME_ROLE = 2#8 → x.refAt = some a →
    a + us (2 * x.desc.REF_PERIOD_US.toNat) ≤ s.now →
    exec (.canRefLost c) s = .next (s.canStat c fun y => { y with REF_LOST := 1#1 })) ∧
  (∀ (x : CanCtrl) (err : CanErr), (err ≠ .ack ∨ x.state ≠ .passive) → (afterError x err true .frame).1 = x.tecCount + 8) ∧
  (∀ (x : CanCtrl), x.state = .passive → (afterError x .ack true .frame) = (x.tecCount, x.recCount))

/-- CFG_NET_SET of fields in range writes the network descriptor and is refused with 0x021B otherwise; CFG_NET_GET and DIAG_NET_STATUS answer their
layouts. A frame on a used port with its link up counts as received and is taken, or removed where it is the module's own; a bad or overlong
one counts as an error. A link that goes down or comes up on a running unit counts, with an ALARM or a NOTICE record. A supervision frame is
sent every LIFE_CHECK_MS in the redundancy modes; LAN_OK ends after three of them without one of another node; a node not heard for
NODE_FORGET_S leaves the table; a PTP message is handed to the MACs. -/
def Obligations.NetworkCommandsAndEventsComplete : Prop :=
  (∀ (s : State) (rq : Request) (d : NetDesc), s.Accepts Cmd.cfgNetSet rq → NetDesc.ofBytes rq.payload = d →
    exec (.cfgNetSet rq) s = .next (
      if d.ok = true then State.answered { s with tm := { s.tm with netDesc := d } } Cmd.cfgNetSet rq []
      else (s.receive rq).refuse Cmd.cfgNetSet rq 0x021B 0xFFFF 0)) ∧
  (∀ (s : State) (rq : Request), s.Accepts Cmd.cfgNetGet rq →
    exec (.cfgNetGet rq) s = .next (s.answered Cmd.cfgNetGet rq s.tm.netDesc.toBytes)) ∧
  (∀ (s : State) (rq : Request), s.Accepts Cmd.diagNetStatus rq →
    exec (.diagNetStatus rq) s = .next (s.answered Cmd.diagNetStatus rq s.netStatus)) ∧
  (∀ (s : State) (f : NetFrame) (u : State), s.netUp = true → s.portUsed f.port = true → (s.tm.ports.get f.port).linkUp = true →
    f.good = true → f.len ≤ s.longestFrame →
    s.netCount (fun x => if f.port = 0 then { x with RX_FRAMES_A := sat x.RX_FRAMES_A } else { x with RX_FRAMES_B := sat x.RX_FRAMES_B }) = u →
    exec (.netFrameReceive f) s = .next (if f.src = Config.macAddress then u.removeOwn f else u.takeNetFrame f)) ∧
  (∀ (s : State) (f : NetFrame), s.netUp = true → s.portUsed f.port = true → (s.tm.ports.get f.port).linkUp = true →
    (f.good = false ∨ s.longestFrame < f.len) →
    exec (.netFrameReceive f) s = .next (s.netCount fun x => { x with RX_ERRORS := sat x.RX_ERRORS })) ∧
  (∀ (s : State) (p : Fin 2), (s.tm.ports.get p).linkUp = true → s.netUp = true → s.portUsed p = true → s.firmwareUp = true →
    exec (.portLinkDown p) s = .next (State.event
      { s with tm := { s.tm with
          ports := upd s.tm.ports p fun x => { x with linkUp := false }
          netStat := if p = 0 then { s.tm.netStat with LINK_DOWN_A := sat s.tm.netStat.LINK_DOWN_A }
            else { s.tm.netStat with LINK_DOWN_B := sat s.tm.netStat.LINK_DOWN_B } } } 4 0x0B82 0xFF 0 p.val)) ∧
  (∀ (s : State) (p : Fin 2), (s.tm.ports.get p).linkUp = false → s.netUp = true → s.portUsed p = true → s.firmwareUp = true →
    exec (.portLinkUp p) s = .next (State.event
      { s with tm := { s.tm with ports := upd s.tm.ports p fun x => { x with linkUp := true } } } 2 0x0B82 0xFF 0 p.val)) ∧
  (∀ (s : State), s.netUp = true → s.tm.netAct.NET_MODE ≠ 2#8 → s.tm.suprAt + ms s.tm.netAct.LIFE_CHECK_MS.toNat ≤ s.now →
    exec .supervisionFrameSend s = .next
      { s.sendFrames [leBytes 6 Config.macAddress.toNat] with tm := { (s.sendFrames [leBytes 6 Config.macAddress.toNat]).tm with suprAt := s.now } }) ∧
  (∀ (s : State) (p : Fin 2) (a : Nat), (s.tm.ports.get p).lanOkAt = some a → a + ms (3 * s.tm.netAct.LIFE_CHECK_MS.toNat) ≤ s.now →
    exec (.lanOkTimeout p) s = .next { s with tm := { s.tm with ports := upd s.tm.ports p fun x => { x with lanOkAt := none } } }) ∧
  (∀ (s : State) (mac : BitVec 48) (a : Nat), s.tm.nodes.lookup mac = some a → a + sec s.tm.netAct.NODE_FORGET_S.toNat ≤ s.now →
    exec (.nodeForget mac) s = .next { s with tm := { s.tm with nodes := s.tm.nodes.filter fun e => e.1 != mac } }) ∧
  (∀ (s : State) (d : List Byte), s.ptpUp = true → exec (.ptpMessageSend d) s = .next (s.sendFrames [d]))

/-- TIME_PTP_SET, TIME_CMP_SET and TIME_TCI_SET of fields in range write their descriptor, and are refused with 0x0B01 otherwise; a compare unit arms
at acceptance, and fires late where its START is past. TIME_PTP_GET, TIME_CMP_GET and TIME_STATUS answer their layouts. TIME_RTC_READ answers one
record and releases the shadow. TIME_RTC_SET of an existing date sets the calendar; TIME_RTC_SHIFT of up to 16,384 counts starts a shift, and is
refused with 0x0B03 under way; TIME_RTC_ALARM arms a time to come, and is refused with 0x0B04 for one that is not; TIME_RTC_WAKE arms its grid
from the next 1/64 s; TIME_CLEAR clears the RTC flags that bit 0 names and the counters that bit 1 names. That TIME_STATUS answers the record
as last written in IMAGE is the model's reading. -/
def Obligations.TimeCommandsAnswer : Prop :=
  (∀ (s : State) (rq : Request) (d : PtpDesc), s.Accepts Cmd.timePtpSet rq → PtpDesc.ofBytes rq.payload = d →
    exec (.timePtpSet rq) s = .next (
      if d.ok = true then State.answered { s with tm := { s.tm with ptpDesc := d } } Cmd.timePtpSet rq []
      else (s.receive rq).refuse Cmd.timePtpSet rq 0x0B01 0xFFFF 0)) ∧
  (∀ (s : State) (rq : Request), s.Accepts Cmd.timePtpGet rq →
    exec (.timePtpGet rq) s = .next (s.answered Cmd.timePtpGet rq s.tm.ptpDesc.toBytes)) ∧
  (∀ (s : State) (rq : Request), s.Accepts Cmd.timeStatus rq →
    exec (.timeStatus rq) s = .next (s.answered Cmd.timeStatus rq (s.img.read 0x40 64))) ∧
  (∀ (s : State) (rq : Request) (n : Fin 8) (d : CmpDesc), s.Accepts Cmd.timeCmpSet rq → CmpDesc.ofBytes rq.payload = d → d.CMP_ID.toNat = n.val →
    exec (.timeCmpSet rq) s = .next (
      if d.ok = true then
        State.reply (State.fireLate { s.receive rq with tm := { (s.receive rq).tm with cmp := upd s.tm.cmp n fun x => x.arm d } }) Cmd.timeCmpSet rq 0 []
      else (s.receive rq).refuse Cmd.timeCmpSet rq 0x0B01 n.val 0)) ∧
  (∀ (s : State) (rq : Request) (n : Fin 8) (x : Compare), s.Accepts Cmd.timeCmpGet rq → rq.u8 0 = n.val → s.tm.cmp.get n = x →
    exec (.timeCmpGet rq) s = .next (s.answered Cmd.timeCmpGet rq
      ({ x.desc with CMP_ID := BitVec.ofNat 8 n.val }.toBytes ++ [BitVec.ofNat 8 (bit x.late)] ++ leBytes 4 x.skip.toNat))) ∧
  (∀ (s : State) (rq : Request) (k : Fin 2) (d : TciDesc), s.Accepts Cmd.timeTciSet rq → TciDesc.ofBytes rq.payload = d → d.TCI_ID.toNat = k.val →
    exec (.timeTciSet rq) s = .next (
      if d.EDGE_SEL.toNat ≤ 3 ∧ d.GLITCH_NS.toNat ≤ 1000 then
        State.answered { s with tm := { s.tm with tci := upd s.tm.tci k fun x => { x with desc := d } } } Cmd.timeTciSet rq []
      else (s.receive rq).refuse Cmd.timeTciSet rq 0x0B01 k.val 0)) ∧
  (∀ (s : State) (rq : Request), s.Accepts Cmd.timeRtcRead rq →
    exec (.timeRtcRead rq) s = .next (State.answered { s with tm := { s.tm with rtc := { s.tm.rtc with shadow := none } } } Cmd.timeRtcRead rq
      s.rtcShadow.toBytes)) ∧
  (∀ (s : State) (rq : Request) (c : Calendar) (n : Nat), s.Accepts Cmd.timeRtcSet rq → calendarAt rq 0 = (c, n) →
    exec (.timeRtcSet rq) s = .next (
      if c.valid n = true then State.reply ((s.receive rq).withRtc (s.tm.rtc.set c n)) Cmd.timeRtcSet rq 0 []
      else (s.receive rq).refuse Cmd.timeRtcSet rq 0x0B01 0xFFFF 0)) ∧
  (∀ (r : Rtc) (c : Calendar) (n : Nat), (r.set c n).cal = c ∧ (r.set c n).subsec = n ∧ (r.set c n).osf = false ∧ (r.set c n).shiftLeft = 0) ∧
  (∀ (s : State) (rq : Request) (n : Int), s.Accepts Cmd.timeRtcShift rq → (BitVec.ofNat 16 (rq.u16 0)).toInt = n →
    exec (.timeRtcShift rq) s = .next (
      if 16384 < n.natAbs then (s.receive rq).refuse Cmd.timeRtcShift rq 0x0B01 0xFFFF 0
      else if s.tm.rtc.shiftLeft ≠ 0 then (s.receive rq).refuse Cmd.timeRtcShift rq 0x0B03 0xFFFF 0
      else State.answered { s with tm := { s.tm with rtc := { s.tm.rtc with shiftLeft := n } } } Cmd.timeRtcShift rq [])) ∧
  (∀ (s : State) (rq : Request) (c : Calendar) (n : Nat), s.Accepts Cmd.timeRtcAlarm rq → calendarAt rq 1 = (c, n) → rq.u8 0 = 1 →
    exec (.timeRtcAlarm rq) s = .next (
      if c.valid n = false then (s.receive rq).refuse Cmd.timeRtcAlarm rq 0x0B01 0xFFFF 0
      else if rtcCounts c n ≤ s.tm.rtc.counts then (s.receive rq).refuse Cmd.timeRtcAlarm rq 0x0B04 0xFFFF 0
      else State.answered { s with tm := { s.tm with rtc := { s.tm.rtc with alarm := some (c, n) } } } Cmd.timeRtcAlarm rq [])) ∧
  (∀ (s : State) (rq : Request), s.Accepts Cmd.timeRtcAlarm rq → rq.u8 0 = 0 →
    exec (.timeRtcAlarm rq) s = .next (State.answered { s with tm := { s.tm with rtc := { s.tm.rtc with alarm := none } } } Cmd.timeRtcAlarm rq [])) ∧
  (∀ (s : State) (rq : Request), s.Accepts Cmd.timeRtcWake rq →
    exec (.timeRtcWake rq) s = .next (
      if 5529600 < rq.u32 0 then (s.receive rq).refuse Cmd.timeRtcWake rq 0x0B01 0xFFFF 0
      else State.answered { s with tm := { s.tm with rtc := { s.tm.rtc with
          wakePeriod := rq.u32 0, wakeNext := (s.tm.rtc.counts + 511) / 512 + rq.u32 0 } } } Cmd.timeRtcWake rq [])) ∧
  (∀ (s : State) (rq : Request), s.Accepts Cmd.timeClear rq → rq.u16 0 = 3 →
    exec (.timeClear rq) s = .next (State.answered { s with tm := { s.tm with
      rtc := { s.tm.rtc with alarmFlag := false, alarmLate := false, wakeFlag := false, wakeLate := false }
      netStat := s.tm.netStat.cleared } } Cmd.timeClear rq [])) ∧
  (∀ (s : State) (rq : Request), s.Accepts Cmd.timeClear rq → rq.u16 0 = 2 →
    exec (.timeClear rq) s = .next (State.answered { s with tm := { s.tm with netStat := s.tm.netStat.cleared } } Cmd.timeClear rq []))

/-- An accepted Sync on the selected port takes the clock out of FREE or HOLDOVER and steps it or takes the servo's rate; on the other port
it only keeps that port fresh. A silent selected port gives way to the other, or the clock goes to HOLDOVER; the announce timeout loses the
lock, and a master-capable module becomes grandmaster; HOLD_ALARM_S of HOLDOVER writes an ALARM. The time record is written to IMAGE. A compare unit
fires where its time has come and triggers its event tasks; a pulse ends after WIDTH_NS; an edge is captured less DELAY_NS and moved to its
block. The RTC: 4 ms without an edge set OSF; a read copies the shadow, which is released; a shift tick moves SHIFT_LEFT one step; the alarm
and the wake set their flags; an armed leap second counts 23:59:60; while LOCKED the calendar is compared with UTC once per second. -/
def Obligations.ClockCompareAndRtcMove : Prop :=
  (∀ (s : State) (p : Fin 2) (x : Int) (path : BitVec 32) (m : PtpMaster), s.ptpUp = true →
    exec (.ptpSyncReceive p x path m) s = .next (if (s.syncOn p).tm.portSel = p then (s.syncOn p).measured x path m else s.syncOn p)) ∧
  (∀ (s : State) (p : Fin 2), s.ptpUp = true → s.syncFresh p = false → s.tm.portSel = p →
    exec (.ptpSyncTimeout p) s = .next (if s.selectPort.syncFresh s.selectPort.tm.portSel = true then s.selectPort else s.selectPort.loseSync)) ∧
  (∀ (s : State), s.ptpUp = true → s.tm.isMaster = false →
    s.tm.announceAt + intervals s.tm.ptpAct.ANNOUNCE_TIMEOUT.toNat s.tm.ptpAct.LOG_ANNOUNCE.toInt ≤ s.now →
    exec .announceTimeout s = .next (
      if s.tm.ptpAct.PTP_MODE = 2#8 then { s.loseSync with tm := { s.loseSync.tm with isMaster := true, gmId := Config.clockIdentity } } else s.loseSync)) ∧
  (∀ (s : State), s.firmwareUp = true → s.tm.clk = .holdover → s.tm.holdAlarm = false → s.tm.holdAt + sec s.tm.ptpAct.HOLD_ALARM_S.toNat ≤ s.now →
    exec .holdoverAlarm s = .next (State.event { s with tm := { s.tm with holdAlarm := true } } 4 0x0B80 0xFF ClkState.holdover.num ClkState.holdover.num
      s.tm.gmId.toNat)) ∧
  (∀ (s : State), s.firmwareUp = true → exec .timeRecordWrite s = .next (s.writeImage 0x40 s.timeRecord.toBytes qGood)) ∧
  (∀ (s : State) (rate : Int), (s.setRate rate).ts = s.ts ∧ (s.setRate rate).tm.rateQ48 = rate) ∧
  (∀ (s : State) (n : Fin 8) (t : BitVec 64), s.compareUp = true → (s.tm.cmp.get n).next = some t → t.toNat ≤ s.ts.toNat →
    exec (.compareFire n) s = .next (State.trigger { s with tm := { s.tm with cmp := put s.tm.cmp n ((s.tm.cmp.get n).fire n s.ts t) } } 3 fun a => a == n.val)) ∧
  (∀ (s : State) (n : Fin 8) (t : BitVec 64) (w : BitVec 32) (pol : Bool), (s.tm.cmp.get n).pulse = some (t, w, pol) → t.toNat + w.toNat ≤ s.ts.toNat →
    exec (.tpoPulseEnd n) s = .next { s with tm := { s.tm with cmp := put s.tm.cmp n { s.tm.cmp.get n with pulse := none } } }) ∧
  (∀ (s : State) (k : Fin 2) (rising : Bool) (ph : Fin 8) (x : CaptureIn), s.sys.phase = .serving → s.tm.tci.get k = x → x.desc.takes rising = true →
    x.lastAt = none →
    exec (.tciCapture k rising ph) s = .next { s with tm := { s.tm with tci := put s.tm.tci k (
      if 16 ≤ x.queue.length then { x with ovr := sat x.ovr }
      else { x with lastAt := some (s.stampAt 0 ph)
                    queue := x.queue ++ [⟨s.stampAt 0 ph - BitVec.ofInt 64 x.desc.DELAY_NS.toInt, if rising then 1#2 else 2#2⟩] }) } }) ∧
  (∀ (s : State) (k : Fin 2) (x : CaptureIn) (c : Capture) (rest : List Capture), s.firmwareUp = true → s.tm.tci.get k = x → x.queue = c :: rest →
    exec (.tciCaptureMove k) s = .next (State.writeImage (State.writeImage
        { s with tm := { s.tm with tci := put s.tm.tci k { x with queue := rest, seq := x.seq + 1 } } }
        (0x480 + 0x80 * k.val) { TciHead.dflt with WR_SEQ := x.seq + 1, OVR_COUNT := x.ovr }.toBytes qGood)
      (0x480 + 0x80 * k.val + 0x10 + 16 * ((x.seq + 1).toNat % 7))
      { TciEntry.dflt with TS := c.ts, QUAL := s.captureQuality, EDGE := c.edge, SEQ := x.seq + 1 }.toBytes s.captureQuality)) ∧
  (∀ (s : State), exec .rtcOscStop s = .next { s with tm := { s.tm with rtc := { s.tm.rtc with osf := true } } }) ∧
  (∀ (s : State), exec .rtcRegisterRead s = .next { s with tm := { s.tm with rtc := { s.tm.rtc with shadow := some s.rtcShadow, shadowAt := s.now } } }) ∧
  (∀ (s : State), exec .rtcShadowRelease s = .next { s with tm := { s.tm with rtc := { s.tm.rtc with shadow := none } } }) ∧
  (∀ (s : State), s.tm.rtc.shiftLeft < 0 →
    exec .rtcShiftTick s = .next { s with tm := { s.tm with rtc := { s.tm.rtc with hold := true, shiftLeft := s.tm.rtc.shiftLeft + 1 } } }) ∧
  (∀ (s : State) (r : Rtc), s.tm.rtc = r → 0 < r.shiftLeft →
    exec .rtcShiftTick s = .next (s.withRtc ({ r.advance 1 with shiftLeft := r.shiftLeft - 1 }.passed r.counts (r.counts + 2)))) ∧
  (∀ (s : State) (c : Calendar) (n : Nat), s.tm.rtc.alarm = some (c, n) → rtcCounts c n ≤ s.tm.rtc.counts →
    exec .rtcAlarmFire s = .next (s.withRtc { s.tm.rtc with alarm := none, alarmFlag := true })) ∧
  (∀ (s : State) (r : Rtc), s.tm.rtc = r → r.wakePeriod ≠ 0 → 512 * r.wakeNext ≤ r.counts →
    exec .rtcWake s = .next (s.withRtc { r with wakeFlag := true, wakeCount := r.wakeCount + 1, wakeNext := r.gridAfter r.counts })) ∧
  (∀ (s : State), s.tm.rtc.leapArmed = true → s.tm.rtc.cal.hour = 23 → s.tm.rtc.cal.minute = 59 → s.tm.rtc.cal.second = 59 →
    exec .rtcLeapSecond s = .next { s with tm := { s.tm with rtc := { s.tm.rtc with cal := { s.tm.rtc.cal with second := 60 }, subsec := 0 } } }) ∧
  (∀ (s : State) (r : Rtc) (d : Int), s.firmwareUp = true → s.tm.clk = .locked → s.tm.utcValid = true →
    { s.tm.rtc with leapArmed := s.tm.rtc.leapArmed || s.tm.leap61, leapDel := s.tm.rtc.leapDel || s.tm.leap59 } = r →
    (r.counts : Int) * 1000000000 - s.utcNs * 32768 = d →
    exec .rtcDiscipline s = .next (
      if r.osf = true ∨ 500000000 * 32768 < d.natAbs then
        { s with tm := { s.tm with rtc := r, rtcSetAt := some (s.utcNs / 1000000000 + 1).toNat } }
      else if 2 * 1000000000 < d.natAbs ∧ r.shiftLeft = 0 then
        { s with tm := { s.tm with rtc := { r with shiftLeft := -(roundDiv d 1000000000) } } }
      else { s with tm := { s.tm with rtc := r } }))

/-- PAIR_SET of fields in range writes the pair descriptor, and is refused with 0x0C01 otherwise; PAIR_GET and PAIR_STATUS answer their layouts, with
LINK_LOAD_PM a free value. PAIR_SWAP is refused with the first code that applies: 0x0C03 unpaired, 0x0C06 during a swap, 0x0C04 while the peer is
not STANDBY or the link is down, 0x0C05 where R388 blocks it or this module is no owner; otherwise the swap is accepted. PAIR_READMIT takes a
QUARANTINED module with an owner on the link to SYNCING, and is refused with 0x0C03, 0x0C07 or 0x0C08 otherwise. PAIR_CLEAR clears what its mask
names. -/
def Obligations.PairCommandsAnswer : Prop :=
  (∀ (s : State) (rq : Request) (d : PairDesc), s.Accepts Cmd.pairSet rq → PairDesc.ofBytes rq.payload = d →
    exec (.pairSet rq) s = .next (
      if d.ok = true then State.answered { s with pr := { s.pr with desc := d } } Cmd.pairSet rq []
      else (s.receive rq).refuse Cmd.pairSet rq 0x0C01 0xFFFF 0)) ∧
  (∀ (s : State) (rq : Request), s.Accepts Cmd.pairGet rq → exec (.pairGet rq) s = .next (s.answered Cmd.pairGet rq s.pr.desc.toBytes)) ∧
  (∀ (s : State) (rq : Request), s.Accepts Cmd.pairStatus rq →
    ∃ (v : BitVec 32) (u : State), u = { s.receive rq with free := (s.receive rq).free + 1 } ∧ v.toNat ≤ 1000 ∧
      exec (.pairStatus rq) s = .next (u.reply Cmd.pairStatus rq 0 (State.pairStatus { u with pr := { u.pr with stat := { u.pr.stat with LINK_LOAD_PM := v } } }))) ∧
  (∀ (s : State) (rq : Request), s.Accepts Cmd.pairSwap rq →
    exec (.pairSwap rq) s = .next (
      if s.paired = false then (s.receive rq).refuse Cmd.pairSwap rq 0x0C03 0xFFFF 0
      else if s.swapPendingNow = true then (s.receive rq).refuse Cmd.pairSwap rq 0x0C06 0xFFFF 0
      else if s.pairSilent = true ∨ s.peerRole ≠ .standby then (s.receive rq).refuse Cmd.pairSwap rq 0x0C04 0xFFFF 0
      else if s.owner = false ∨ s.swapBlocked = true then (s.receive rq).refuse Cmd.pairSwap rq 0x0C05 0xFFFF 0
      else State.reply ((s.receive rq).acceptSwap false) Cmd.pairSwap rq 0 [])) ∧
  (∀ (s : State) (rq : Request), s.Accepts Cmd.pairReadmit rq →
    exec (.pairReadmit rq) s = .next (
      if s.paired = false then (s.receive rq).refuse Cmd.pairReadmit rq 0x0C03 0xFFFF 0
      else if s.pr.role ≠ .quarantined then (s.receive rq).refuse Cmd.pairReadmit rq 0x0C07 0xFFFF 0
      else if s.pairSilent = true ∨ s.peerRole.owns = false then (s.receive rq).refuse Cmd.pairReadmit rq 0x0C08 0xFFFF 0
      else State.reply (State.canModes (State.setRole { s.receive rq with pr := { (s.receive rq).pr with
          sync := some .retain, markersSeen := [], sigClean := false
          stat := { (s.receive rq).pr.stat with RETAIN_SYNCED := 0#1, SYNC_PCT := 0#8 } } } .syncing)) Cmd.pairReadmit rq 0 [])) ∧
  (∀ (s : State) (rq : Request), s.Accepts Cmd.pairClear rq → rq.u8 0 = 7 →
    exec (.pairClear rq) s = .next (State.answered { s with pr := { s.pr with
      stat := { s.pr.stat.cleared with YIELD_FAULT := 0#1, DIVERGE_FAULT := 0#1 }, diverge := [] } } Cmd.pairClear rq [])) ∧
  (∀ (s : State) (rq : Request), s.Accepts Cmd.pairClear rq → rq.u8 0 = 1 →
    exec (.pairClear rq) s = .next (State.answered { s with pr := { s.pr with stat := s.pr.stat.cleared } } Cmd.pairClear rq []))

/-- Every 50 µs a heartbeat and the configuration report go out, and PEER_OK_OUT is driven high with a role that holds it; it falls 75 µs after the last
one; an owner pulses it every second. PEER_OK_IN low with a silent link has a STANDBY act (takeover, or the witness asked), and PEER_OK_IN's
rise ends a START_WAIT_MS with PATH_FAULT. A frame with a wrong CRC counts; a valid one is taken. A silent link takes an ACTIVE module to ALONE,
with PATH_FAULT where PEER_OK_IN is high, and a SYNCING module whose owner is gone to STOP. The witness's CONFIRM allows the takeover, DENY and
UNKNOWN set WITNESS_LOST, and so does a missing reply where it is required; it is asked again after 10 ms. Loop slots are mirrored every 100 µs. A
timed swap is tried after SWAP_PERIOD_MIN, again at its retry, and postponed where the axes take more than 60 s. The second pass follows the bulk
copy; a SYNCING module with every marker and clean signatures becomes STANDBY. -/
def Obligations.HeartbeatFramesAndWitnessMove : Prop :=
  (∀ (s : State), s.linkUp = true → s.pr.heartbeatAt + us 50 ≤ s.now →
    ∃ t : State, exec .heartbeatSend s = .next t ∧ t.pr.heartbeatAt = s.now ∧ t.pr.peerOkOut = (s.pr.role != .none && s.pr.role != .quarantined) ∧
      t.pr.out = .heartbeat (State.beat (s.pairSend (.config s.configReport))) :: .config s.configReport :: s.pr.out) ∧
  (∀ (s : State), s.pr.heartbeatAt + us 75 ≤ s.now → exec .peerOkDrop s = .next { s with pr := { s.pr with peerOkOut := false } }) ∧
  (∀ (s : State), s.linkUp = true → s.pr.role.owns = true → s.pr.pulseAt + sec 1 ≤ s.now →
    exec .peerOkTestPulse s = .next { s.pairSend (.testPulse true) with pr := { (s.pairSend (.testPulse true)).pr with pulseAt := s.now, pulseLow := some s.now } }) ∧
  (∀ (s u : State), { s with pr := { s.pr with peerOkIn := false } } = u → u.paired = true → u.inRun = true → u.pairSilent = true → u.pr.role = .standby →
    exec .peerOkInLow s = .next u.standbyActs) ∧
  (∀ (s : State), s.pr.act.WITNESS_EN = 0#1 → s.standbyActs = s.takeover) ∧
  (∀ (s u : State), { s with pr := { s.pr with peerOkIn := true } } = u → u.pr.startWait.isSome = true → u.pairSilent = true →
    exec .peerOkInRise s = .next { u.notReady with pr := { u.notReady.pr with stat := { u.pr.stat with PATH_FAULT := 1#1 } } }) ∧
  (∀ (s : State) (msg : PairMsg), s.linkUp = true →
    exec (.pairFrameReceive false msg) s = .next { s with pr := { s.pr with stat := { s.pr.stat with LINK_CRC_ERR := sat s.pr.stat.LINK_CRC_ERR } } }) ∧
  (∀ (s : State) (msg : PairMsg), s.linkUp = true →
    exec (.pairFrameReceive true msg) s = .next
      (State.takeFrame { s with pr := { s.pr with lastFrame := some s.now, witnessAt := none, witnessAsk := none } } msg)) ∧
  (∀ (s : State), s.paired = true → s.inRun = true → s.pairSilent = true → s.pr.role = .active → s.pr.peerOkIn = true →
    exec .pairLinkSilent s = .next s.pathFault.loseStandby) ∧
  (∀ (s : State), s.paired = true → s.inRun = true → s.pairSilent = true → s.pr.role = .syncing → s.pr.peerOkIn = false →
    exec .pairLinkSilent s = .next s.ownerLost) ∧
  (∀ (s : State), s.linkUp = true →
    exec .pairLaneFail s = .next (State.pairAlarm { s with pr := { s.pr with stat := { s.pr.stat with LANE_DOWN := 1#1 } } })) ∧
  (∀ (s : State), s.pr.witnessAt.isSome = true → s.asking = true →
    exec (.witnessReply .confirm) s = .next s.confirmed ∧ exec (.witnessReply .deny) s = .next s.denied ∧ exec (.witnessReply .unknown) s = .next s.denied) ∧
  (∀ (s : State) (a : Nat), s.asking = true → s.pr.witnessAt = some a → a + us s.pr.act.WITNESS_TIMEOUT_US.toNat ≤ s.now →
    exec .witnessTimeout s = .next (if s.pr.act.WITNESS_REQUIRED = 0#1 then s.confirmed else s.denied)) ∧
  (∀ (s : State) (a : Nat), s.asking = true → s.pr.witnessAt = none → s.pr.witnessAsk = some a → a + ms 10 ≤ s.now →
    exec .witnessRetry s = .next s.askWitness) ∧
  (∀ (s : State), s.linkUp = true → s.pr.act.WITNESS_EN = 1#1 →
    exec .witnessPresenceFrame s = .next (s.sendFrames [leBytes 2 s.sys.straps.addr.toNat ++ [BitVec.ofNat 8 s.pr.role.num] ++ leBytes 8 s.pr.epoch.toNat])) ∧
  (∀ (s : State) (asker peer us_ : BitVec 16) (at_ : Nat), s.pr.witnessFor = [(asker, peer, us_, at_)] →
    ((s.pr.presence.lookup peer).getD 0) + us us_.toNat ≤ s.now →
    exec .witnessSilenceConfirm s = .next (State.answerWitness { s with pr := { s.pr with witnessFor := [] } } asker 0)) ∧
  (∀ (s : State) (n : Fin 256), s.runsLoops = true → s.mirrors = true → (s.loop n).desc.LAW ≠ 0#8 → (s.loop n).mirrorAt + us 100 ≤ s.now →
    exec (.mirrorLoopSend n) s = .next (State.mirror (s.setLoop n { s.loop n with mirrorAt := s.now })
      (.loop n (s.loop n).slot (s.loop n).stat.ACTIVE_BANK (s.loop n).bankA (s.loop n).bankB))) ∧
  (∀ (s : State), s.inRun = true → s.paired = true → s.pr.role.owns = true → s.pr.act.SWAP_MODE = 0#8 → s.swapPendingNow = false → s.pr.retryAt = none →
    s.pr.stat.DIVERGE_FAULT = 0#1 → s.pr.lastSwapAt + sec (60 * s.pr.act.SWAP_PERIOD_MIN.toNat) ≤ s.now →
    exec .swapStart s = .next (if s.swapBlocked = true then s.postponeSwap false else s.acceptSwap false)) ∧
  (∀ (s : State) (a : Nat), s.inRun = true → s.paired = true → s.pr.role.owns = true → s.pr.act.SWAP_MODE = 0#8 → s.swapPendingNow = false →
    s.pr.retryAt = some a → a ≤ s.now → s.pr.swapByReq = false →
    exec .swapRetry s = .next (State.trySwap { s with pr := { s.pr with retryAt := none } } false)) ∧
  (∀ (s : State) (a : Nat), s.pr.swapWait = some a → a + sec 60 ≤ s.now → exec .swapAxisWaitTimeout s = .next (s.postponeSwap s.pr.swapByReq)) ∧
  (∀ (s : State) (x : SyncStep), s.pr.sync = some x → s.owner = false → s.pr.role = .syncing →
    exec .syncBulkComplete s = .next { s with pr := { s.pr with sync := some .secondPass, markersSeen := [] } }) ∧
  (∀ (s : State), s.inRun = true → s.pr.role = .syncing → s.pr.sync = some .secondPass → s.pr.sigClean = true →
    (((idx 128).filter fun t => (s.task t).desc.KIND != 0#8).all s.pr.markersSeen.contains) = true →
    exec .syncComplete s = .next (State.setRole { s with pr := { s.pr with sync := none, stat := { s.pr.stat with SYNC_PCT := 100#8 } } } .standby)) ∧
  (∀ (s : State) (old : Role), s.pr.peerEpoch.toNat ≤ s.pr.epoch.toNat → (s.raiseEpoch old).pr.epoch = s.pr.epoch + 1)

/-- FLOW_SET of fields in range writes the recorder descriptor and is refused with 0x0D01 otherwise; FLOW_GET and FLOW_STATUS answer their layouts.
FLOW_FLUSH triggers a flush and waits for its end. FLOW_READ answers the records from FROM_SEQ on, in ascending order, at most MAX_COUNT; it is
refused with 0x0D01 for MAX_COUNT 0 or above 63 or MIN_SEV above 7. FLOW_EXPORT starts an export at OFFSET 0 and answers the first 4,064 bytes of
the stream; the holder's next call at the next OFFSET answers on; a call of another session is refused with 0x0D03, one at another OFFSET
ends the export with 0x0D04. FLOW_CLEAR clears counters and sticky bits and no record; what PF_LOST and BOOT_COUNT hold stands. -/
def Obligations.RecorderCommandsAnswer : Prop :=
  (∀ (s : State) (rq : Request) (d : FlowDesc), s.Accepts Cmd.flowSet rq → FlowDesc.ofBytes rq.payload = d →
    exec (.flowSet rq) s = .next (
      if d.inRange = true then State.answered { s with flow := { s.flow with desc := d } } Cmd.flowSet rq []
      else (s.receive rq).refuse Cmd.flowSet rq 0x0D01 0xFFFF 0)) ∧
  (∀ (s : State) (rq : Request), s.Accepts Cmd.flowGet rq → exec (.flowGet rq) s = .next (s.answered Cmd.flowGet rq s.flow.desc.toBytes)) ∧
  (∀ (s : State) (rq : Request), s.Accepts Cmd.flowStatus rq → exec (.flowStatus rq) s = .next (s.answered Cmd.flowStatus rq s.flowStatus)) ∧
  (∀ (s : State) (rq : Request), s.Accepts Cmd.flowFlush rq →
    exec (.flowFlush rq) s = .next { s.receive rq with
      flow := Flow.trigger { s.flow with flushRqsNext := s.flow.flushRqsNext ++ [rq] } s.now }) ∧
  (∀ (s : State) (rq : Request) (rs : List FlowRec), s.Accepts Cmd.flowRead rq → 1 ≤ rq.u8 9 → rq.u8 9 ≤ 63 → rq.u8 8 ≤ 7 →
    (s.flow.gather (rq.u64 0) s.flow.headSeq (rq.u8 8)).take (rq.u8 9) = rs →
    exec (.flowRead rq) s = .next (s.answered Cmd.flowRead rq (FlowReadHead.toBytes { FlowReadHead.dflt with
      HEAD_SEQ := BitVec.ofNat 64 s.flow.headSeq, COUNT := BitVec.ofNat 8 rs.length,
      OVERWRITE_TOTAL := BitVec.ofNat 32 s.flow.overwriteTotal } ++ rs.flatMap FlowRec.toBytes))) ∧
  (∀ (s : State) (rq : Request), s.Accepts Cmd.flowRead rq → (rq.u8 9 = 0 ∨ 63 < rq.u8 9 ∨ 7 < rq.u8 8) →
    exec (.flowRead rq) s = .next ((s.receive rq).refuse Cmd.flowRead rq 0x0D01 0xFFFF 0)) ∧
  (∀ (s : State) (rq : Request) (e : Export) (part : List Byte), s.Accepts Cmd.flowExport rq → s.flow.exp = none →
    rq.u64 0 ≤ rq.u64 8 → rq.u8 16 ≤ 7 → rq.u32 20 = 0 → s.exportMore (s.exportStart rq) = e → e.stream.take exportPart = part →
    exec (.flowExport rq) s = .next (State.answered { s with flow := { s.flow with
      exp := if e.whole && e.stream.length ≤ e.next + part.length then none else some { e with next := e.next + part.length, lastAt := s.now } } }
      Cmd.flowExport rq part)) ∧
  (∀ (s : State) (rq : Request) (x e : Export) (part : List Byte), s.Accepts Cmd.flowExport rq → s.flow.exp = some x → x.session = rq.session →
    rq.u64 0 ≤ rq.u64 8 → rq.u8 16 ≤ 7 → rq.u32 20 = x.next → s.exportMore x = e → (e.stream.drop e.next).take exportPart = part →
    exec (.flowExport rq) s = .next (State.answered { s with flow := { s.flow with
      exp := if e.whole && e.stream.length ≤ e.next + part.length then none else some { e with next := e.next + part.length, lastAt := s.now } } }
      Cmd.flowExport rq part)) ∧
  (∀ (s : State) (rq : Request) (x : Export), s.Accepts Cmd.flowExport rq → s.flow.exp = some x → x.session ≠ rq.session →
    rq.u64 0 ≤ rq.u64 8 → rq.u8 16 ≤ 7 → exec (.flowExport rq) s = .next ((s.receive rq).refuse Cmd.flowExport rq 0x0D03 0xFFFF 0)) ∧
  (∀ (s : State) (rq : Request) (x : Export), s.Accepts Cmd.flowExport rq → s.flow.exp = some x → x.session = rq.session →
    rq.u64 0 ≤ rq.u64 8 → rq.u8 16 ≤ 7 → rq.u32 20 ≠ x.next →
    exec (.flowExport rq) s = .next (State.refuse { s.receive rq with flow := { s.flow with exp := none } } Cmd.flowExport rq 0x0D04 0xFFFF 0)) ∧
  (∀ (s : State) (rq : Request), s.Accepts Cmd.flowClear rq →
    exec (.flowClear rq) s = .next (State.answered { s with flow := { s.flow with
      stat := { FlowStat.dflt with LAST_OVERWRITE_SEQ := s.flow.stat.LAST_OVERWRITE_SEQ } } } Cmd.flowClear rq []))

/-- The records that a running task calls go to its queue of 16, where one more is lost and counted in TASK_REC_DROP, and the queue's oldest entry is
then offered to staging with its severity, its code 0x03C0 and up, and the time of the call. A flush starts 1 s after the last one started. At its
end its records are placed in the log body, the requests that waited are answered, and a trigger that came meanwhile starts the next.
Every 24 h, unless held, compaction frees the slots whose record fails its CRC or lies in an uncorrectable block. An export without a call for
60 s is released. -/
def Obligations.RecorderEventsComplete : Prop :=
  (∀ (s : State) (t : Fin 128) (calls : List TaskRec) (u : State), (s.task t).run = .running → calls.foldl (fun s x => s.queueRecord t x) s = u →
    (u.task t).msgQueue = [] → exec (.taskRecordMove t calls) s = .next u) ∧
  (∀ (s : State) (t : Fin 128) (calls : List TaskRec) (u : State) (x : TaskRec) (rest : List TaskRec),
    (s.task t).run = .running → calls.foldl (fun s x => s.queueRecord t x) s = u → (u.task t).msgQueue = x :: rest →
    exec (.taskRecordMove t calls) s = .next ((u.setTask t fun k => { k with msgQueue := rest }).recordAt
      { sev := x.2.1.toNat, code := 0x03C0 + x.2.2.1.toNat % 64, inst := t.val, payload := leBytes 32 x.2.2.2.toNat } x.1)) ∧
  (∀ (s : State) (t : Fin 128) (calls : List TaskRec) (x : TaskRec) (rest : List TaskRec),
    (s.task t).run ≠ .running → (s.task t).msgQueue = x :: rest →
    exec (.taskRecordMove t calls) s = .next ((s.setTask t fun k => { k with msgQueue := rest }).recordAt
      { sev := x.2.1.toNat, code := 0x03C0 + x.2.2.1.toNat % 64, inst := t.val, payload := leBytes 32 x.2.2.2.toNat } x.1)) ∧
  (∀ (s : State) (t : Fin 128) (x : TaskRec), x.2.1.toNat ≤ (if (s.task t).desc.SAFETY = 1#1 then 6 else s.flow.act.TASK_MAX_SEV.toNat) →
    s.queueRecord t x =
      if 16 ≤ (s.task t).msgQueue.length then
        { s with flow := { s.flow with stat := { s.flow.stat with TASK_REC_DROP := sat s.flow.stat.TASK_REC_DROP, DROP_SEEN := 1#1 } } }
      else s.setTask t fun k => { k with msgQueue := k.msgQueue ++ [x] }) ∧
  (∀ (s : State), s.flowRuns = true → s.flow.flushAt + sec 1 ≤ s.now → exec .flowFlushPeriodic s = .next s.flushTrigger) ∧
  (∀ (s : State), s.flow.flushOn = true → s.flow.flushRqs = [] → s.flow.flushAgain = false →
    exec .flowFlushComplete s = .next { s with
      flow := { s.flow.flushing.foldl Flow.place s.flow with
        staging := (s.flow.flushing.foldl Flow.place s.flow).staging.drop (s.flow.flushing.foldl Flow.place s.flow).flushing.length
        flushing := [], flushOn := false, flushRqs := []
        stat := { (s.flow.flushing.foldl Flow.place s.flow).stat with FLUSH_COUNT := sat (s.flow.flushing.foldl Flow.place s.flow).stat.FLUSH_COUNT } }
      tm := { s.tm with lastTs := s.ts } }) ∧
  (∀ (s : State) (u : State), s.flow.flushOn = true → s.flow.flushRqs.foldl (fun s rq => s.reply Cmd.flowFlush rq 0 []) s.flushEnds = u →
    exec .flowFlushComplete s = .next (if s.flow.flushAgain = true then u.flushTrigger else u)) ∧
  (∀ (s : State) (bad : List Nat), s.flowRuns = true → s.compactHeld = false → s.flow.compactAt + sec 86400 ≤ s.now →
    exec (.compactionPass bad) s = .next { s with flow := s.flow.scan (bad ++ s.flow.logBad) s.now }) ∧
  (∀ (s : State) (bad : List Nat), s.compactHeld = true → exec (.compactionPass bad) s = .next s) ∧
  (∀ (f : Flow) (bad : List Nat) (now k : Nat) (r : FlowRec),
    (k, r) ∈ (f.scan bad now).log ↔ (k, r) ∈ f.log ∧ k ∉ bad ∧ r = r.seal) ∧
  (∀ (s : State) (e : Export), s.flow.exp = some e → e.lastAt + sec 60 ≤ s.now →
    exec .exportTimeout s = .next { s with flow := { s.flow with exp := none } })

/-- An accepted FLOW_NOTE of a severity from 0 to 3 answers 0x0000. Where its severity lies below MIN_SEVERITY the note is not staged, FILTERED
increments and the reply is SEQ 0; else where RATE_LIMIT records were staged within the last 10 s, RATE_DROP increments and the reply is SEQ 0; else
where 131,072 records wait, STAGE_DROP increments and the reply is SEQ 0. Otherwise the note is staged under the next SEQ, which is not 0, and the
reply is that SEQ. (That DROP_SEEN is set with the counter is R419.) -/
def Obligations.NotesThatAreNotStagedAnswerZero : Prop :=
  ∀ (s : State) (rq : Request) (n : Note), s.Accepts Cmd.flowNote rq → rq.u8 0 ≤ 3 →
    { sev := rq.u8 0, code := 0x0D80, session := rq.session.val, payload := (rq.payload.drop 4).take 32 } = n →
    (rq.u8 0 < s.flow.act.MIN_SEVERITY.toNat →
      exec (.flowNote rq) s = .next (State.answered { s with flow := { s.flow with
        stat := { s.flow.stat with DROP_SEEN := 1#1, FILTERED := sat s.flow.stat.FILTERED } } } Cmd.flowNote rq (leBytes 8 0))) ∧
    (s.flow.act.MIN_SEVERITY.toNat ≤ rq.u8 0 → s.flow.act.RATE_LIMIT.toNat ≤ (s.flow.rate.filter fun t => s.now < t + sec 10).length →
      exec (.flowNote rq) s = .next (State.answered { s with flow := { s.flow with
        stat := { s.flow.stat with DROP_SEEN := 1#1, RATE_DROP := sat s.flow.stat.RATE_DROP } } } Cmd.flowNote rq (leBytes 8 0))) ∧
    (s.flow.act.MIN_SEVERITY.toNat ≤ rq.u8 0 → (s.flow.rate.filter fun t => s.now < t + sec 10).length < s.flow.act.RATE_LIMIT.toNat →
      131072 ≤ s.flow.staging.length →
      exec (.flowNote rq) s = .next (State.answered { s with flow := { s.flow with
        stat := { s.flow.stat with DROP_SEEN := 1#1, STAGE_DROP := sat s.flow.stat.STAGE_DROP } } } Cmd.flowNote rq (leBytes 8 0))) ∧
    (s.flow.act.MIN_SEVERITY.toNat ≤ rq.u8 0 → (s.flow.rate.filter fun t => s.now < t + sec 10).length < s.flow.act.RATE_LIMIT.toNat →
      s.flow.staging.length < 131072 →
      exec (.flowNote rq) s = .next (State.reply ((s.receive rq).stageAt n rq.rxTs) Cmd.flowNote rq 0 (leBytes 8 (s.flow.headSeq + 1))) ∧
      ((s.receive rq).stageAt n rq.rxTs).flow.headSeq = s.flow.headSeq + 1 ∧ s.flow.headSeq + 1 ≠ 0)

/-- PNL_SET of fields in range writes the panel descriptor and is refused with 0x0E01 otherwise; PNL_GET and PNL_STATUS answer their layouts. A part of
the waveform set within its 34,944 bytes is stored; the part that completes the set passes it, or is refused with 0x0E06 that names the first
band and entry whose drive sums fail; a part beyond the set is refused with 0x0E01. PNL_DRAW writes the pixels of a rectangle of the panel, and is
refused with 0x0E01 outside it and with 0x0E03 on the marker's place. PNL_UPDATE queues a request with the levels of the draw buffer and answers its
number, and is refused with the first of 0x0E01, 0x0E05 without a checked set, 0x0E03 on the marker and 0x0E04 with 16 waiting. PNL_CLEAR clears the
counters; the number and time of the last update stand (the model's reading). -/
def Obligations.PanelCommandsAnswer : Prop :=
  (∀ (s : State) (rq : Request) (d : PanelDesc), s.Accepts Cmd.pnlSet rq → PanelDesc.ofBytes rq.payload = d →
    exec (.pnlSet rq) s = .next (
      if d.inRange = true then State.answered { s with pnl := { s.pnl with desc := d } } Cmd.pnlSet rq []
      else (s.receive rq).refuse Cmd.pnlSet rq 0x0E01 0xFFFF 0)) ∧
  (∀ (s : State) (rq : Request), s.Accepts Cmd.pnlGet rq → exec (.pnlGet rq) s = .next (s.answered Cmd.pnlGet rq s.pnl.desc.toBytes)) ∧
  (∀ (s : State) (rq : Request), s.Accepts Cmd.pnlStatus rq → exec (.pnlStatus rq) s = .next (s.answered Cmd.pnlStatus rq s.panelStatus)) ∧
  (∀ (s : State) (rq : Request), s.Accepts Cmd.pnlWaveLoad rq → 34944 < rq.u32 0 + (rq.payload.drop 4).length →
    exec (.pnlWaveLoad rq) s = .next ((s.receive rq).refuse Cmd.pnlWaveLoad rq 0x0E01 0xFFFF 0)) ∧
  (∀ (s : State) (rq : Request) (upTo : Nat) (m : Memory), s.Accepts Cmd.pnlWaveLoad rq → rq.u32 0 + (rq.payload.drop 4).length ≤ 34944 →
    (if rq.u32 0 = 0 then (rq.payload.drop 4).length
      else if rq.u32 0 ≤ s.pnl.wavesTo then max s.pnl.wavesTo (rq.u32 0 + (rq.payload.drop 4).length) else s.pnl.wavesTo) = upTo →
    s.pnl.waves.write (rq.u32 0) (rq.payload.drop 4) = m →
    (upTo ≠ 34944 → exec (.pnlWaveLoad rq) s = .next (State.answered
      { s with pnl := { s.pnl with waves := m, wavesTo := upTo, wavesOk := false } } Cmd.pnlWaveLoad rq [])) ∧
    (upTo = 34944 → badWave m = none → exec (.pnlWaveLoad rq) s = .next (State.answered
      { s with pnl := { s.pnl with waves := m, wavesTo := upTo, wavesOk := true } } Cmd.pnlWaveLoad rq [])) ∧
    (∀ b e, upTo = 34944 → badWave m = some (b, e) → exec (.pnlWaveLoad rq) s = .next (State.reply
      (State.noteRefusal { s.receive rq with pnl := { s.pnl with waves := m, wavesTo := upTo, wavesOk := false } } Cmd.pnlWaveLoad rq 0x0E06 b e)
      Cmd.pnlWaveLoad rq 0x0E06 (leBytes 2 b ++ leBytes 2 e)))) ∧
  (∀ (s : State) (rq : Request) (x y w h off : Nat) (data : List Byte), s.Accepts Cmd.pnlDraw rq →
    rq.u16 0 = x → rq.u16 2 = y → rq.u16 4 = w → rq.u16 6 = h → rq.u32 8 = off → rq.payload.drop 12 = data →
    exec (.pnlDraw rq) s = .next (
      if s.pnl.act.fits x y w h = false ∨ w * h < 2 * (off + data.length) then (s.receive rq).refuse Cmd.pnlDraw rq 0x0E01 0xFFFF 0
      else if s.pnl.act.onMarker x y w h = true then (s.receive rq).refuse Cmd.pnlDraw rq 0x0E03 0xFFFF 0
      else State.answered { s with gro := { s.gro with mem := upd s.gro.mem 8 fun m =>
        (((rectPixels x y w h).drop (2 * off)).zip (nibbles data)).foldl (fun m p => pixelSet m p.1.1 p.1.2 p.2) m } } Cmd.pnlDraw rq [])) ∧
  (∀ (s : State) (rq : Request) (x y w h : Nat), s.Accepts Cmd.pnlUpdate rq →
    rq.u16 0 = x → rq.u16 2 = y → rq.u16 4 = w → rq.u16 6 = h →
    exec (.pnlUpdate rq) s = .next (
      if s.pnl.act.fits x y w h = false ∨ 1 < rq.u8 8 then (s.receive rq).refuse Cmd.pnlUpdate rq 0x0E01 0xFFFF 0
      else if s.pnl.wavesOk = false then (s.receive rq).refuse Cmd.pnlUpdate rq 0x0E05 0xFFFF 0
      else if s.pnl.act.onMarker x y w h = true then (s.receive rq).refuse Cmd.pnlUpdate rq 0x0E03 0xFFFF 0
      else if 16 ≤ s.pnl.queue.length then (s.receive rq).refuse Cmd.pnlUpdate rq 0x0E04 0xFFFF 0
      else State.answered { s with pnl := { s.pnl with
        queue := s.pnl.queue ++ [{ x := x, y := y, w := w, h := h, zone := 0, clean := rq.u8 8 == 1, forced := false, redraw := none, atBoot := false,
                                   levels := rectGet (s.gro.mem.get 8) x y w h, seq := s.pnl.updSeq + 1 }]
        updSeq := s.pnl.updSeq + 1 } } Cmd.pnlUpdate rq (leBytes 4 (s.pnl.updSeq + 1).toNat))) ∧
  (∀ (s : State) (rq : Request), s.Accepts Cmd.pnlClear rq →
    exec (.pnlClear rq) s = .next (State.answered { s with pnl := { s.pnl with
      stat := { PanelStat.dflt with LAST_UPD_SEQ := s.pnl.stat.LAST_UPD_SEQ, LAST_UPD_TS := s.pnl.stat.LAST_UPD_TS } } } Cmd.pnlClear rq []))

/-- An open or shorted thermistor sets TEMP_FAULT and keeps the band; a reading gives PANEL_T, the band with its hysteresis and TEMP_RANGE outside
−10 to +60 °C, and marks for abortion each update whose latched band is two or more away. The first request that may start leaves the queue and starts
in one part for each zone; where none may, nothing changes. One part's start writes its levels to the level frame, opens a journal entry with
STATE 1, inverts the phase of its zone, latches band, VCOM and rail magnitude, and switches the rails on. A complete frame counts for
every update in flight; one at its end frees its entry and is counted with its number and time. After IDLE_MS with none in flight the rails are off. -/
def Obligations.PanelUpdatesRun : Prop :=
  (∀ (s : State), exec (.panelTempRead none) s = .next { s with pnl := { s.pnl with tempFault := true } }) ∧
  (∀ (s : State) (v : BitVec 16), ∃ t : State, exec (.panelTempRead (some v)) s = .next t ∧ t.pnl.tempFault = false ∧ t.pnl.panelT = v ∧
    t.pnl.band = bandNext s.pnl.band v.toInt ∧ (t.pnl.tempRange = true ↔ v.toInt < -160 ∨ 960 < v.toInt) ∧
    t.pnl.flight = s.pnl.flight.map fun u =>
      if u.band.val + 2 ≤ (bandNext s.pnl.band v.toInt).val ∨ (bandNext s.pnl.band v.toInt).val + 2 ≤ u.band.val then { u with abort := true } else u) ∧
  (∀ (s : State), s.pick [] s.pnl.queue = none → exec .panelUpdateStart s = .next s) ∧
  (∀ (s : State) (before after : List PanelReq) (r : PanelReq), s.pick [] s.pnl.queue = some (before, r, after) →
    exec .panelUpdateStart s = .next { s with pnl := (s.pnl.act.split r).foldl Panel.startPart { s.pnl with queue := before ++ after } }) ∧
  (∀ (p : Panel) (r : PanelReq) (e : Fin 8), p.entryFor r = some e →
    (p.startPart r).frame = rectSet p.frame r.x r.y r.w r.h r.levels ∧ ((p.startPart r).journal.get e).STATE = 1#8 ∧
    ((p.startPart r).journal.get e).UPD_SEQ = r.seq ∧ (p.startPart r).phase.get r.zone = !(p.phase.get r.zone) ∧ (p.startPart r).railsOn = true ∧
    ∃ u, (p.startPart r).flight = p.flight ++ [u] ∧ u.req = r ∧ u.entry = e ∧ u.band = p.band ∧ u.phase = !(p.phase.get r.zone) ∧ u.frames = 0 ∧
      u.abort = false ∧ u.vcom = BitVec.ofNat 16 (p.waves.num (16 * p.band.val + 2 * r.zone.val) 2) ∧
      u.railMv = BitVec.ofNat 16 (p.waves.num (16 * p.band.val + 8) 2)) ∧
  (∀ (s : State), s.pnl.flight = [] → exec .panelFrameComplete s = .next s) ∧
  (∀ (s : State) (u : PanelUpd), s.pnl.flight = [u] → u.abort = false → u.frames + 1 < u.length →
    exec .panelFrameComplete s = .next { s with pnl := { s.pnl with flight := [{ u with frames := u.frames + 1 }] } }) ∧
  (∀ (s : State) (u : PanelUpd), s.pnl.flight = [u] → u.abort = false → u.length ≤ u.frames + 1 →
    ∃ t : State, exec .panelFrameComplete s = .next t ∧ t.pnl.flight = [] ∧ t.pnl.idleSince = s.now ∧ (t.pnl.journal.get u.entry).STATE = 0#8 ∧
      t.pnl.stat.UPDATES = sat s.pnl.stat.UPDATES ∧ t.pnl.stat.LAST_UPD_SEQ = u.req.seq ∧ t.pnl.stat.LAST_UPD_TS = s.ts) ∧
  (∀ (s : State) (u : PanelUpd), s.pnl.flight = [u] → u.abort = true →
    ∃ t : State, exec .panelFrameComplete s = .next t ∧ t.pnl.flight = [] ∧ (t.pnl.journal.get u.entry).STATE = 2#8 ∧
      t.pnl.stat.ABORT_BAND = sat s.pnl.stat.ABORT_BAND ∧
      t.pnl.queue = s.pnl.queue.filter (fun q => q.forced) ++ [{ u.req with clean := true, redraw := some u.entry }] ++ s.pnl.queue.filter (fun q => !q.forced)) ∧
  (∀ (s : State), s.pnl.railsOn = true → s.pnl.flight = [] → s.pnl.idleSince + ms s.pnl.act.IDLE_MS.toNat ≤ s.now →
    exec .panelRailsOff s = .next { s with pnl := { s.pnl with railsOn := false } })

/-- SYS_ENABLE starts the check, warm or cold as asked, and is refused with 0x0128 while one runs; the reply follows its end. SYS_STOP answers and stops
the module, the owner of a pair with a STANDBY peer first yielding unless bit 0 is set. SYS_RESTART sets CLEAN, clears BOOT_FAILS with KIND 1,
answers, and resets with cause 6, the reply left in its mailbox until release. SYS_BOOT_INFO and SYS_START_GET answer their layouts. SYS_START_SET
writes the start descriptor, or is refused with 0x0129. SYS_FW_LOAD writes the slot that is not running, which becomes EMPTY.
SYS_FW_ACTIVATE marks a verified image TRIAL and PREFERRED and clears TRIAL_STARTED, or is refused with the first of 0x0125, 0x0126 and 0x0127. -/
def Obligations.StartCommandsAnswer : Prop :=
  (∀ (s : State) (rq : Request), s.Accepts Cmd.sysEnable rq →
    exec (.sysEnable rq) s = .next (if s.enabling = true then (s.receive rq).refuse Cmd.sysEnable rq 0x0128 0xFFFF 0
      else { s.receive rq with sys := { s.sys with check := some ⟨.command rq, rq.u8 0 == 1⟩ } })) ∧
  (∀ (s : State) (rq : Request), s.Accepts Cmd.sysStop rq →
    exec (.sysStop rq) s = .next (State.reply ((s.receive rq).stopRequest ((rq.u8 0).testBit 0)) Cmd.sysStop rq 0 [])) ∧
  (∀ (s : State) (noYield : Bool), s.stopRequest noYield =
    if noYield = false ∧ s.paired = true ∧ s.pr.role.owns = true ∧ s.pairSilent = false ∧ s.peerRole = .standby then
      { s.pairSend .yield with pr := { (s.pairSend .yield).pr with yielding := true, stopAfter := true } }
    else s.stopRun) ∧
  (∀ (s u : State) (rq : Request), s.Accepts Cmd.sysRestart rq →
    State.answered { s with sys := { s.sys with
      clean := true, bootFails := if rq.u8 0 = 1 then 0#8 else s.sys.bootFails, resetPending := some 6#8 } } Cmd.sysRestart rq [] = u →
    exec (.sysRestart rq) s = .next { u.resetEntry 6 with host := { (u.resetEntry 6).host with mb := u.host.mb } }) ∧
  (∀ (s : State) (rq : Request), s.Accepts Cmd.sysBootInfo rq → exec (.sysBootInfo rq) s = .next (s.answered Cmd.sysBootInfo rq s.bootInfo.toBytes)) ∧
  (∀ (s : State) (rq : Request) (d : StartDesc), s.Accepts Cmd.sysStartSet rq → StartDesc.ofBytes rq.payload = d →
    exec (.sysStartSet rq) s = .next (
      if d.START_MODE.toNat ≤ 3 ∧ d.HALT_RESTART_S.toNat ≤ 3600 then State.answered { s with sys := { s.sys with startDesc := d } } Cmd.sysStartSet rq []
      else (s.receive rq).refuse Cmd.sysStartSet rq 0x0129 0xFFFF 0)) ∧
  (∀ (s : State) (rq : Request), s.Accepts Cmd.sysStartGet rq → exec (.sysStartGet rq) s = .next (s.answered Cmd.sysStartGet rq s.sys.startDesc.toBytes)) ∧
  (∀ (s : State) (rq : Request) (keep : List Byte), s.Accepts Cmd.sysFwLoad rq → (rq.payload.drop 4).take (16777216 - rq.u32 0) = keep →
    exec (.sysFwLoad rq) s = .next (State.answered
      { s with
        sys := { s.sys with slot := upd s.sys.slot s.sys.loadSlot fun x =>
          { x with state := .empty, version := 0#32, floor := 0#32, image := x.image.write (rq.u32 0) keep
                   len := if rq.u32 0 = 0 then keep.length else max x.len (rq.u32 0 + keep.length) } }
        gro := { s.gro with imageInvalid := put s.gro.imageInvalid s.sys.loadSlot false } } Cmd.sysFwLoad rq [])) ∧
  (∀ (s : State) (rq : Request) (x : FwSlot), s.Accepts Cmd.sysFwActivate rq → s.sys.slot.get s.sys.loadSlot = x →
    exec (.sysFwActivate rq) s = .next (
      if Config.firmwareVerifies x.bytes = false then (s.receive rq).refuse Cmd.sysFwActivate rq 0x0125 0xFFFF 0
      else if (Config.firmwareVersion x.bytes).toNat < s.sys.versionFloor.toNat then (s.receive rq).refuse Cmd.sysFwActivate rq 0x0126 0xFFFF 0
      else if x.state = .trial then (s.receive rq).refuse Cmd.sysFwActivate rq 0x0127 0xFFFF 0
      else State.answered { s with sys := { s.sys with
        slot := upd s.sys.slot s.sys.loadSlot fun x => { x with state := .trial, version := Config.firmwareVersion x.bytes, floor := Config.firmwareFloor x.bytes }
        preferred := s.sys.loadSlot, trialStarted := false } } Cmd.sysFwActivate rq []))

/-- nRST_IN low is a reset of cause 2; during a power-fail sequence and with the power gone only its level is kept. The boot watchdog (cause 4, 5 s of
firmware phase), HALT_RESTART_S of HALT (cause 5) and a clock fault (cause 3, without flush and drain, its reason held) reset likewise. After
such a reset the mode is BOOT with every block held in reset and RESET_CAUSE the cause. VIN back for 100 ms resets with cause 1. At release
the straps are sampled, every mailbox is EMPTY and the ROM phase starts, unless the module is below its lower limit or without a sensor: then it
holds itself in reset, until it is warm, or 60 s without a sensor, which sets the sensor fault. A fault of the ROM phase that has cleared starts
BOOT again as unclean. A logic-rail fault or thermal trip is the subject of another statement. -/
def Obligations.ResetsTakeTheModuleToBoot : Prop :=
  (∀ (s : State), s.sys.phase ≠ .off → s.pow.pfStage = .idle →
    exec .nrstInAssert s = .next { s.resetEntry 2 with sys := { (s.resetEntry 2).sys with nrstIn := true } }) ∧
  (∀ (s : State), s.sys.phase = .off ∨ s.pow.pfStage ≠ .idle → exec .nrstInAssert s = .next { s with sys := { s.sys with nrstIn := true } }) ∧
  (∀ (s : State), s.sys.phase = .firmware → s.pow.pfStage = .idle → s.sys.firmwareAt + sec 5 ≤ s.now →
    exec .bootWatchdogExpire s = .next (s.resetEntry 4)) ∧
  (∀ (s : State), s.sys.mode = .halt → s.pow.pfStage = .idle → s.sys.startAct.HALT_RESTART_S ≠ 0#16 →
    s.sys.haltAt + sec s.sys.startAct.HALT_RESTART_S.toNat ≤ s.now → exec .haltTimerExpire s = .next (s.resetEntry 5)) ∧
  (∀ (s : State), s.sys.startAct.HALT_RESTART_S = 0#16 → exec .haltTimerExpire s = .next s) ∧
  (∀ (s : State) (c : Nat), c < 256 → (s.resetEntry c).sys.mode = .boot ∧ (s.resetEntry c).sys.phase = .held ∧
    (s.resetEntry c).sys.resetCause.toNat = c ∧ (s.resetEntry c).sys.nFault = true ∧ (s.resetEntry c).dio.ql = 0#8 ∧ (s.resetEntry c).gro.wbuf = [] ∧
    (s.resetEntry c).flow.staging = [] ∧ (s.resetEntry c).pr.peerOkOut = false) ∧
  (∀ (s : State), s.sys.phase ≠ .off →
    ∃ t : State, exec .clockFault s = .next t ∧ t.sys.mode = .boot ∧ t.sys.phase = .held ∧ t.sys.resetCause = 3#8 ∧ t.sys.fatal = some .clock ∧
      t.sys.nFault = true ∧ t.dio.ql = 0#8 ∧ t.flow.log = s.flow.log ∧ t.gro.retainMram = s.gro.retainMram) ∧
  (∀ (s : State), s.sys.phase = .off → ∃ t : State, exec .powerOnReset s = .next t ∧ t.sys.mode = .boot ∧ t.sys.phase = .held ∧ t.sys.resetCause = 1#8) ∧
  (∀ (s : State) (a : Nat), s.sys.phase ≠ .off → s.pow.pfStage = .wait → s.pow.waitOkSince = some a → a + ms 100 ≤ s.now →
    ∃ t : State, exec .powerOnReset s = .next t ∧ t.sys.mode = .boot ∧ t.sys.phase = .held ∧ t.sys.resetCause = 1#8) ∧
  (∀ (s : State) (x : Straps), s.sys.phase = .held → s.pow.pfStage = .idle → s.sys.romFault = false → s.sys.coldHold = none →
    exec (.resetRelease x) s = .next (match s.pow.startTemp with
      | some t => if s.sys.lowerLimit ≤ t then s.release x else { s with sys := { s.sys with coldHold := some s.now } }
      | none => { s with sys := { s.sys with coldHold := some s.now } })) ∧
  (∀ (s : State) (x : Straps), (s.release x).sys.phase = .rom ∧ (s.release x).sys.straps = x ∧ (s.release x).sys.releaseAt = s.now ∧
    ∀ n, ((s.release x).host.mb.get n).state = .empty) ∧
  (∀ (s : State) (x : Straps) (t : Int), s.sys.phase = .held → s.sys.coldHold.isSome = true → s.pow.startTemp = some t → s.sys.lowerLimit ≤ t →
    exec (.coldStartHoldEnd x) s = .next (s.release x)) ∧
  (∀ (s : State) (x : Straps) (a : Nat), s.sys.phase = .held → s.sys.coldHold = some a → a + sec 60 ≤ s.now → s.pow.startTemp = none →
    exec (.coldStartHoldTimeout x) s = .next { s.release x with
      pow := { (s.release x).pow with thermFault := true }, sys := { (s.release x).sys with resetCause := 1#8 } }) ∧
  (∀ (s : State), s.sys.romFault = true → s.pow.pfStage = .idle →
    exec .romFaultHoldEnd s = .next { s with sys := { s.sys with romFault := false, phase := .rom, clean := false, releaseAt := s.now } })

/-- The ROM phase ends with an image, by the selection of R441: the firmware phase starts, BOOT_FAILS rises if CLEAN was clear, and CLEAN is cleared; or
in ROM recovery with 0x0104 in HPW_REASON. The firmware phase ends in STOP, or in MINIMAL on the first of 0x0102, 0x0101 and 0x0103 that applies, with
CLEAN set, MIN_REASON the code and BOOT_MS the time since release; numbering has resumed after SEQ_RESERVED. The image of a trial is
CONFIRMED. BOOT_FAILS returns to 0 after 60 s of RUN. -/
def Obligations.BootRunsToStopOrMinimal : Prop :=
  (∀ (s : State) (found : Bool) (y : Sys), s.sys.phase = .rom → s.sys.selectImage s.gro.imageInvalid = (found, y) →
    exec .romPhaseEnd s = .next (
      if found = true then { s with
        sys := { y with phase := .firmware, firmwareAt := s.now, nRstOut := false, bootFails := if y.clean then y.bootFails else sat y.bootFails, clean := false }
        tm := { s.tm with forwarding := s.tm.netAct.NET_MODE == 1#8, netAt := some s.now } }
      else State.setReason { s with
        sys := { y with phase := .recovery }, tm := { s.tm with forwarding := s.tm.netAct.NET_MODE == 1#8, netAt := some s.now } } 3 0x0104)) ∧
  (∀ (y : Sys) (bad : Vector Bool 2), (∀ i, (y.slot.get i).state = .empty ∨ (y.slot.get i).state = .invalid) → (y.selectImage bad).1 = false) ∧
  (∀ (s : State) (cfgBad : Bool), s.minimalReason cfgBad =
    if s.sys.straps.bootSafe = true then 0x0102 else if 3 ≤ s.sys.bootFails.toNat then 0x0101
    else if cfgBad = true ∧ s.sys.stored.isSome = true then 0x0103 else 0) ∧
  (∀ (s : State) (cfgBad : Bool) (fit : ModuleId), s.sys.phase = .firmware →
    ∃ t : State, exec (.firmwarePhaseEnd cfgBad fit) s = .next t ∧ t.sys.phase = .serving ∧ t.sys.clean = true ∧
      t.sys.mode = (if s.minimalReason cfgBad = 0 then .stop else .minimal) ∧ t.sys.minReason = BitVec.ofNat 16 (s.minimalReason cfgBad) ∧
      t.sys.bootMs = BitVec.ofNat 32 ((s.now - s.sys.releaseAt) / ms 1) ∧ s.flow.seqReserved < t.flow.headSeq ∧ t.flow.bootCount = s.flow.bootCount + 1) ∧
  (∀ (y : Sys), (y.slot.get y.runningSlot).state = .trial → ((y.confirm).slot.get y.runningSlot).state = .confirmed ∧ y.confirm.trialStarted = false ∧
    y.confirm.versionFloor.toNat = max y.versionFloor.toNat (y.slot.get y.runningSlot).floor.toNat) ∧
  (∀ (s : State), s.sys.mode = .run → s.sys.runAt + sec 60 ≤ s.now → exec .bootFailsClear s = .next { s with sys := { s.sys with bootFails := 0#8 } })

/-- RUN_EN from 0 to 1 in STOP starts a warm check; from 1 to 0 in RUN it stops the module; a write during a check, or of the same value, changes nothing.
The automatic start of a boot starts the check that START_MODE asks for. At the end of the check the first refusal is reported in HPW_REASON and
answered, or the ENABLE is accepted and initialised. A wait of START_WAIT_MS with the peer gone ends ALONE, or in a question to the witness. At a
whole millisecond from T0 on the module enters RUN, with RUN_EN set, CLEAN cleared and every target killed, unless it waits for its peer. -/
def Obligations.EnableRunsItsCourse : Prop :=
  (∀ (s : State), s.host.runEn = false → s.enabling = false → s.serves 0 = true → s.sys.mode = .stop →
    exec .runEnSet s = .next { s with host := { s.host with runEn := true }, sys := { s.sys with check := some ⟨.runEn, false⟩ } }) ∧
  (∀ (s : State), s.host.runEn = true ∨ s.enabling = true → exec .runEnSet s = .next s) ∧
  (∀ (s : State), s.host.runEn = true → s.enabling = false → s.serves 0 = true → s.sys.mode = .run →
    exec .runEnClear s = .next (State.stopRequest { s with host := { s.host with runEn := false } } false)) ∧
  (∀ (s : State), s.host.runEn = false ∨ s.enabling = true → exec .runEnClear s = .next s) ∧
  (∀ (s : State) (mode : Nat) (ran : Bool), s.sys.mode = .stop → s.firmwareUp = true → s.sys.autoDone = false → s.enabling = false →
    s.sys.startAct.START_MODE.toNat = mode → (s.sys.bootLastMode == 4#8) = ran →
    exec .autoStart s = .next { s with sys := { s.sys with
      autoDone := true
      check := if (mode = 1 ∧ ran = true) ∨ mode = 2 then some ⟨.automatic, false⟩ else if mode = 3 ∧ ran = true then some ⟨.automatic, true⟩ else s.sys.check } }) ∧
  (∀ (s : State) (c : Check) (q : BitVec 8), s.sys.check = some c → s.firmwareUp = true →
    exec (.enableCheckComplete q) s = .next (match s.enableCheck (s.restartCold c) with
      | some (code, inst, item) => s.enableRefused c code inst item
      | none => s.enableAccepted c q)) ∧
  (∀ (s : State) (c : Check) (code inst item : Nat), (s.enableRefused c code inst item).sys.check = none ∧
    (s.enableRefused c code inst item).host.runEn = false ∧ (s.enableRefused c code inst item).host.reasonCode = BitVec.ofNat 16 code ∧
    (s.enableRefused c code inst item).sys.mode = s.sys.mode) ∧
  (∀ (s : State) (a : Nat), s.pr.startWait = some a → a + ms s.pr.act.START_WAIT_MS.toNat ≤ s.now → s.peerGone = true → s.pr.act.WITNESS_EN ≠ 1#1 →
    exec .startWaitExpire s = .next { s.setRole .alone with pr := { (s.setRole .alone).pr with startWait := none } }) ∧
  (∀ (s : State) (a : Nat), s.pr.startWait = some a → a + ms s.pr.act.START_WAIT_MS.toNat ≤ s.now → s.peerGone = true → s.pr.act.WITNESS_EN = 1#1 →
    s.pr.witnessAsk = none → exec .startWaitExpire s = .next s.askWitness) ∧
  (∀ (s : State), s.sys.starting.isSome = true → s.firmwareUp = true → s.sys.mode = .stop → s.sys.t0 ≤ s.now → s.now % ms 1 = 0 →
    s.pr.startWait = none → exec .runEntry s = .next (State.evalMatrix (State.killForRun (State.canStart (State.setMode { s with
      sys := { s.sys with starting := none, t0 := s.now, runAt := s.now, clean := false }
      host := { s.host with runEn := true }
      aio := s.aio.map fun (a : Aio) => { a with trimPoint := 0#8, trimNew := false }
      pr := { s.pr with lastSwapAt := s.now, stat := { s.pr.stat with
        NEXT_SWAP_TS := s.ts + BitVec.ofNat 64 (60000000000 * s.pr.act.SWAP_PERIOD_MIN.toNat) } } } .run))))) ∧
  (∀ (s : State), s.sys.starting.isSome = true → s.firmwareUp = true → s.sys.mode = .stop → s.sys.t0 ≤ s.now → s.now % ms 1 = 0 →
    s.pr.startWait.isSome = true → s.pairSilent = true → exec .runEntry s = .next s)

/-- SYS_SESSION_LIST answers the 17 entries. SYS_SESSION_CLOSE closes an open session whose role is not above that of the sender, and is refused with
0x010A for a session that is not open and 0x0108 for one of a higher role. SYS_TRUST_SET installs up to four anchors from the host port; a network
session is refused with 0x0109 and a payload that is no such list with 0x010D. SYS_TRUST_GET answers their digests. SYS_SESS_SET writes the
session descriptor, and is refused with 0x010C out of range and with 0x0108 for HOST_ROLE 3 from a session without SAFETY (a code that the model chose,
log 26). SYS_SESS_GET answers it. -/
def Obligations.SessionCommandsAnswer : Prop :=
  (∀ (s : State) (rq : Request), s.Accepts Cmd.sysSessionList rq →
    exec (.sysSessionList rq) s = .next (s.answered Cmd.sysSessionList rq ((idx 17).flatMap (s.receive rq).host.entryBytes))) ∧
  (∀ (s : State) (rq : Request) (k : Fin 17), s.Accepts Cmd.sysSessionClose rq → rq.u8 0 = k.val →
    exec (.sysSessionClose rq) s = .next (
      if ((s.receive rq).host.session.get k).open_ = false then (s.receive rq).refuse Cmd.sysSessionClose rq 0x010A k.val 0
      else if ((s.receive rq).host.session.get rq.session).role < ((s.receive rq).host.session.get k).role then
        (s.receive rq).refuse Cmd.sysSessionClose rq 0x0108 k.val 0
      else ((s.receive rq).closeSession k).reply Cmd.sysSessionClose rq 0 [])) ∧
  (∀ (s : State) (rq : Request), s.Accepts Cmd.sysSessionClose rq → 17 ≤ rq.u8 0 →
    exec (.sysSessionClose rq) s = .next ((s.receive rq).refuse Cmd.sysSessionClose rq 0x010A (rq.u8 0) 0)) ∧
  (∀ (s : State) (rq : Request), s.Accepts Cmd.sysTrustSet rq → rq.session ≠ 0 →
    exec (.sysTrustSet rq) s = .next ((s.receive rq).refuse Cmd.sysTrustSet rq 0x0109 0xFFFF 0)) ∧
  (∀ (s : State) (rq : Request), s.Accepts Cmd.sysTrustSet rq → rq.session = 0 →
    exec (.sysTrustSet rq) s = .next (match certificates 5 rq.payload with
      | some cs => if cs.length ≤ 4 ∧ cs.all Config.anchorForm = true then
          State.answered { s with host := { s.host with anchors := cs } } Cmd.sysTrustSet rq []
        else (s.receive rq).refuse Cmd.sysTrustSet rq 0x010D 0xFFFF 0
      | none => (s.receive rq).refuse Cmd.sysTrustSet rq 0x010D 0xFFFF 0)) ∧
  (∀ (s : State) (rq : Request), s.Accepts Cmd.sysTrustGet rq →
    exec (.sysTrustGet rq) s = .next (s.answered Cmd.sysTrustGet rq
      (s.host.anchors.flatMap (fun c => leBytes 32 (Config.sha256 c).toNat) ++ List.replicate (32 * (4 - s.host.anchors.length)) 0#8))) ∧
  (∀ (s : State) (rq : Request) (d : SessDesc), s.Accepts Cmd.sysSessSet rq → SessDesc.ofBytes rq.payload = d →
    exec (.sysSessSet rq) s = .next (
      if d.inRange = false then (s.receive rq).refuse Cmd.sysSessSet rq 0x010C 0xFFFF 0
      else if d.HOST_ROLE = 3#8 ∧ ((s.receive rq).host.session.get rq.session).role ≠ 3 then (s.receive rq).refuse Cmd.sysSessSet rq 0x0108 0xFFFF 0
      else State.answered { s with host := { s.host with sessDesc := d } } Cmd.sysSessSet rq [])) ∧
  (∀ (s : State) (rq : Request), s.Accepts Cmd.sysSessGet rq → exec (.sysSessGet rq) s = .next (s.answered Cmd.sysSessGet rq s.host.sessDesc.toBytes))

/-- A write into an EMPTY or DONE mailbox is stored; into a POSTED or BUSY one it is discarded and counted in WR_DISCARD. Bits written 1 clear
HPW_IRQ_STATUS and the mask is written; each sends an MSI where the masked result is non-zero. HP_PERST clears the mask and closes session 0; reaching
L0 opens it with HOST_ROLE; a second out of L0 closes it. A ring of an EMPTY or DONE mailbox makes it POSTED with its receipt time, and of an
application's one BUSY; a ring of a POSTED or BUSY one sets DB_ERROR. The supervisor takes the next message, BUSY, and serves it, an unknown
code with 0x0105. A committed reply of the application is copied back, DONE with MB_DONE; after APP_TIMEOUT_MS the reply is 0x010B. ALIVE counts while
the supervisor runs. A write elsewhere in the window changes nothing. -/
def Obligations.HostPortAndMailboxesMove : Prop :=
  (∀ (s : State) (n : Fin 8) (off : Nat) (d : List Byte), s.hostPortUp = true → (s.host.mb.get n).state = .empty ∨ (s.host.mb.get n).state = .done →
    exec (.mailboxWrite n off d) s = .next { s with host := { s.host with
      mb := upd s.host.mb n fun m => { m with data := m.data.write off (d.take (4096 - off)) } } }) ∧
  (∀ (s : State) (n : Fin 8) (off : Nat) (d : List Byte), s.hostPortUp = true → (s.host.mb.get n).state = .posted ∨ (s.host.mb.get n).state = .busy →
    exec (.mailboxWrite n off d) s = .next { s with host := { s.host with session := upd s.host.session 0 fun x =>
      { x with entry := { x.entry with WR_DISCARD := sat x.entry.WR_DISCARD } } } }) ∧
  (∀ (s : State) (off : Nat) (d : List Byte), exec (.registerWriteOther off d) s = .next s) ∧
  (∀ (s : State) (bits : BitVec 32) (h : HostPort), s.hostPortUp = true → { s.host with irqStatus := s.host.irqStatus &&& ~~~bits } = h →
    exec (.irqStatusClear bits) s = .next { s with host := HostPort.rewake { h with msiSent := if h.irqPending = true then h.msiSent + 1 else h.msiSent } }) ∧
  (∀ (s : State) (mask : BitVec 32) (h : HostPort), s.hostPortUp = true → { s.host with irqMask := mask } = h →
    exec (.irqMaskWrite mask) s = .next { s with host := HostPort.rewake { h with msiSent := if h.irqPending = true then h.msiSent + 1 else h.msiSent } }) ∧
  (∀ (s : State), exec .hpPerst s = .next (State.closeSession { s with
    host := HostPort.rewake { s.host with perst := true, inL0 := false, outOfL0 := none, irqMask := 0#32 } } 0)) ∧
  (∀ (s u : State), { s with host := HostPort.rewake { s.host with perst := false, inL0 := true, outOfL0 := none } } = u →
    exec .hostLinkUp s = .next (if (s.host.session.get 0).open_ = true then u
      else u.openSession 0 ⟨s.host.sessAct.HOST_ROLE.toNat % 4, Nat.mod_lt _ (by decide)⟩ 0 0)) ∧
  (∀ (s : State), s.host.inL0 = true →
    exec .hostLinkLeavesL0 s = .next { s with host := HostPort.rewake { s.host with inL0 := false, outOfL0 := some s.now } }) ∧
  (∀ (s : State) (a : Nat), s.host.outOfL0 = some a → a + sec 1 ≤ s.now → exec .hostLinkLostTimeout s = .next (s.closeSession 0)) ∧
  (∀ (s : State) (mask : BitVec 8), s.hostPortUp = true →
    exec (.mailboxRing mask) s = .next (((idx 8).filter fun n => mask.getLsbD n.val).foldl State.ring s)) ∧
  (∀ (s : State) (n : Fin 8), (s.host.mb.get n).state = .posted ∨ (s.host.mb.get n).state = .busy → s.ring n = s.raise irqDbError) ∧
  (∀ (s : State) (n : Fin 8), (s.host.mb.get n).state = .empty ∨ (s.host.mb.get n).state = .done → (s.host.isApp n && s.serves 0) = false →
    ((s.ring n).host.mb.get n).state = .posted ∧ ((s.ring n).host.mb.get n).rxTs = s.ts ∧
    ∃ w, (s.ring n).host.waiting = s.host.waiting ++ [w] ∧ w.rq.session = 0 ∧ w.rq.mailbox = some n ∧ w.rq.rxTs = s.ts ∧
      w.code = BitVec.ofNat 16 ((s.host.mb.get n).data.num 0 2) ∧ w.rq.tag = BitVec.ofNat 16 ((s.host.mb.get n).data.num 2 2)) ∧
  (∀ (s : State), s.nextMessage = none → exec .commandTake s = .next s) ∧
  (∀ (s u : State) (w : Waiting) (n : Fin 8), s.nextMessage = some w → w.rq.mailbox = some n → s.host.isApp n = false →
    { s with host := { s.host with waiting := s.host.waiting.erase w, mb := upd s.host.mb n fun m => { m with state := .busy } } } = u →
    exec .commandTake s = .next (u.serveMessage w)) ∧
  (∀ (s : State) (w : Waiting), s.nextMessage = some w → w.rq.mailbox = none →
    exec .commandTake s = .next (State.serveMessage { s with host := { s.host with waiting := s.host.waiting.erase w } } w)) ∧
  (∀ (s : State) (w : Waiting), servedBy w.code = none → s.serveMessage w = s.refuse (CmdInfo.unknown w.code) w.rq 0x0105 0xFFFF 0) ∧
  (∀ (s : State) (n : Fin 8) (bytes : List Byte), s.host.appReply.get n = some bytes → (s.host.mb.get n).state = .busy → s.host.isApp n = true →
    s.sys.supervisorDead = false →
    ∃ t : State, exec (.appReplyCopy n) s = .next t ∧ t.host.appReply.get n = none ∧ (t.host.mb.get n).state = .done ∧ (t.host.mb.get n).appAt = none ∧
      t.host.irqStatus = s.host.irqStatus ||| irqMbDone n) ∧
  (∀ (s : State) (n : Fin 8) (a : Nat), (s.host.mb.get n).state = .busy → s.sys.supervisorDead = false → (s.host.mb.get n).appAt = some a →
    a + ms s.host.sessAct.APP_TIMEOUT_MS.toNat ≤ s.now →
    ∃ t : State, exec (.appTimeout n) s = .next t ∧ (t.host.mb.get n).state = .done ∧ (t.host.mb.get n).appAt = none ∧
      t.host.irqStatus = s.host.irqStatus ||| irqMbDone n ∧
      (t.host.mb.get n).data = (s.host.mb.get n).data.write 0 (replyBytes ((s.host.mb.get n).data.num 0 2) ((s.host.mb.get n).data.num 2 2) 0
        (s.host.mb.get n).rxTs (replyPayload 0x010B []))) ∧
  (∀ (s : State), s.sys.phase = .firmware ∨ s.sys.phase = .serving →
    exec .aliveTick s = .next (if s.sys.supervisorDead = true then s else { s with host := { s.host with alive := s.host.alive + 1 } }))

/-- A handshake from a barred address changes nothing; one whose certificate does not chain, or whose dates fail while TIME_VALID is set, counts as
failed, and the fifth within 60 s bars the address with a WARNING; beyond MAX_SESSIONS it is turned away; otherwise the lowest free session opens
with the certificate's role, with a WARNING while TIME_VALID is clear. A bar ends after 60 s. A message with LENGTH above 4080 or REPLY set
closes its session; another waits its turn, or is answered at once beyond the session's eight or the quota. A session without traffic for IDLE_S
closes. Closing discards requests not yet taken, drops the replies of those taken, passes its forces to 0xFF, leaves its package without a holder
and releases its export. -/
def Obligations.SessionsOpenAndClose : Prop :=
  (∀ (s : State) (c : ClientCert), s.host.barred.any (fun b => b.1 == c.peer) = true → exec (.sessionHandshake c) s = .next s) ∧
  (∀ (s : State) (c : ClientCert), s.sys.phase = .serving → s.sys.supervisorDead = false → s.host.barred.any (fun b => b.1 == c.peer) = false →
    (c.chainOk = false ∨ s.host.anchors = [] ∨ s.datesOk c = false) → exec (.sessionHandshake c) s = .next (s.handshakeFails c.peer)) ∧
  (∀ (s : State) (a : BitVec 32) (l : List (BitVec 32 × Nat)), (s.host.handshakeFails.filter fun f => s.now < f.2 + sec 60) ++ [(a, s.now)] = l →
    s.handshakeFails a =
      if 5 ≤ (l.filter fun f => f.1 == a).length then
        State.record { s with host := { s.host with handshakeFails := l, barred := (a, s.now) :: s.host.barred } }
          { sev := 3, code := 0x0115, payload := evData 0 a.toNat (l.filter fun f => f.1 == a).length }
      else { s with host := { s.host with handshakeFails := l } }) ∧
  (∀ (s u : State) (c : ClientCert) (k : Fin 17), s.sys.phase = .serving → s.sys.supervisorDead = false →
    s.host.barred.any (fun b => b.1 == c.peer) = false → c.chainOk = true → s.host.anchors ≠ [] → s.datesOk c = true →
    s.host.openCount < s.host.sessAct.MAX_SESSIONS.toNat → s.host.freeSession = some k → s.openSession k c.role c.peer c.certId = u →
    exec (.sessionHandshake c) s = .next (if s.tm.timeValid = true then u
      else u.record { sev := 3, code := 0x0114, inst := k.val, session := k.val, payload := evData 0 c.certId.toNat })) ∧
  (∀ (s : State) (a : BitVec 32), exec (.addressBarExpire a) s = .next { s with host := { s.host with
    barred := s.host.barred.filter fun b => b.1 != a || s.now < b.2 + sec 60 } }) ∧
  (∀ (s : State) (k : Fin 17) (msg : List Byte), k ≠ 0 → (s.host.session.get k).open_ = true → 16 ≤ msg.length →
    (4080 < u16 msg 4 ∨ u8 msg 7 % 2 = 1) → exec (.sessionMessageReceive k msg) s = .next (s.closeSession k)) ∧
  (∀ (s t : State) (k : Fin 17) (msg : List Byte) (w : Waiting), k ≠ 0 → (s.host.session.get k).open_ = true → u16 msg 4 ≤ 4080 → u8 msg 7 % 2 ≠ 1 →
    16 + u16 msg 4 ≤ msg.length →
    { code := BitVec.ofNat 16 (u16 msg 0), length := BitVec.ofNat 16 (u16 msg 4),
      rq := ⟨k, none, BitVec.ofNat 16 (u16 msg 2), (msg.drop 16).take (u16 msg 4), s.ts⟩ } = w →
    { s.receive w.rq with host := { (s.receive w.rq).host with waiting := s.host.waiting ++ [w] } } = t →
    exec (.sessionMessageReceive k msg) s = .next (
      if t.queueFull w.rq = true ∧ s.serves k = true then
        { t.serveMessage w with host := { (t.serveMessage w).host with waiting := (t.serveMessage w).host.waiting.erase w } }
      else t)) ∧
  (∀ (s : State) (k : Fin 17), k ≠ 0 → s.host.sessAct.IDLE_S ≠ 0#16 →
    (s.host.session.get k).lastAt + sec s.host.sessAct.IDLE_S.toNat ≤ s.now → exec (.sessionIdleTimeout k) s = .next (s.closeSession k)) ∧
  (∀ (s : State) (k : Fin 17), exec (.sessionClose k) s = .next (s.closeSession k)) ∧
  (∀ (s : State) (k : Fin 17), (s.host.session.get k).open_ = false → s.closeSession k = s) ∧
  (∀ (s : State) (k : Fin 17), (s.host.session.get k).open_ = true → ((s.closeSession k).host.session.get k).open_ = false ∧
    (∀ w ∈ (s.closeSession k).host.waiting, w.rq.session ≠ k) ∧ (∀ rq ∈ s.inProgress k, rq ∈ (s.closeSession k).host.orphans) ∧
    (∀ f ∈ (s.closeSession k).olc.forces, f.OWNER.toNat ≠ k.val) ∧ (s.closeSession k).olc.stat.SESSION.toNat ≠ k.val ∧
    (∀ e, (s.closeSession k).flow.exp = some e → e.session ≠ k))

/-- With a command at the front of the queue, a step is that command's effect on the state with the queue's rest. With an empty queue the block
idles for one tick of CLK_IO, in which the trip matrix is evaluated: the model's choice (log 1). -/
def Obligations.StepRunsTheFrontCommand : Prop :=
  (∀ (s : State) (c : Instr) (rest : List Instr), step { s with pending := c :: rest } = exec c { s with pending := rest }) ∧
  (∀ (s : State), s.pending = [] → step s = .next s.tick.evalMatrix)

/-- Every command of the table, with any operands and in every state, ends in a next state, no fault and no refusal; the queue of the commands that
wait is as it was, so that commands run first in, first out. -/
def Obligations.EveryCommandCompletesAndLeavesTheQueue : Prop :=
  ∀ (i : Instr) (s : State), ∃ t : State, exec i s = .next t ∧ t.pending = s.pending

/-- From every sound state whose waiting commands are well formed, a step that answers a next state answers a sound one, and the commands that
still wait are well formed. Sound: every chamber, the persistent copy of RETAIN, every mailbox and every application request object holds its
bytes in the canonical form, so that equal contents are equal data; the log body holds at most one record in a slot, in rising slots, none beyond
its 4,194,304; and no record number beyond SEQ_RESERVED has been assigned. -/
def Obligations.EveryStepKeepsSoundness : Prop :=
  ∀ (s t : State), s.Sound → s.QueueWf → step s = .next t → t.Sound ∧ t.QueueWf

/-- Right after a power-on reset the module is in BOOT and held in reset, with cause POWER (the model's reading of which reset State.reset is, log 11):
nFAULT is asserted, every QL line is in kill and every target killed, PEER_OK_OUT is low, no role is held, RUN_EN is clear, no interrupt status is
set, every mailbox is EMPTY, no session is open, every chamber reads 0 (log 3), nothing is staged or buffered, nothing runs, is forced or pending,
every axis is disabled, every CAN controller is off, and no command waits. The state is sound. -/
def Obligations.ResetIsAsTheSpecSays : Prop :=
  State.reset.Sound ∧ State.reset.QueueWf ∧ State.reset.pending = [] ∧
  State.reset.sys.mode = .boot ∧ State.reset.sys.phase = .held ∧ State.reset.sys.resetCause = 1#8 ∧ State.reset.sys.nFault = true ∧
  State.reset.dio.ql = 0#8 ∧ (∀ t, State.reset.isl.killed.get t = true) ∧ State.reset.pr.peerOkOut = false ∧ State.reset.pr.role = .none ∧
  State.reset.host.runEn = false ∧ State.reset.host.irqStatus = 0#32 ∧
  (∀ n, (State.reset.host.mb.get n).state = .empty) ∧ (∀ k, (State.reset.host.session.get k).open_ = false) ∧
  (∀ c a, (State.reset.gro.mem.get c).get a = 0#8) ∧ State.reset.gro.wbuf = [] ∧ State.reset.flow.staging = [] ∧ State.reset.flow.log = [] ∧
  State.reset.olc.forces = [] ∧ State.reset.cru.queue = [] ∧ (∀ l, State.reset.tk.laneTask.get l = none) ∧
  (∀ n, (State.reset.mot.axis.get n).state = .disabled) ∧ (∀ c, (State.reset.can.ctrl.get c).state = .off)

/-- The log body holds 4,194,304 slots. While free slots exist, a flushed record takes the lowest-numbered one. Once none is free, it overwrites the
oldest record of the lowest severity present where that lies below its own severity, else the oldest of its own severity; else, every record
present being of a higher severity, it is dropped, and DROPPED_FULL of its severity and DROP_SEEN say so. An overwrite increments OVERWRITTEN
of the severity of the record lost and sets LAST_OVERWRITE_SEQ to its SEQ. No other slot and no other counter changes, so a record never
overwrites one of higher severity. -/
def Obligations.FullLogPlacement : Prop :=
  logSlots = 4194304 ∧
  (∀ (f : Flow) (r : FlowRec) (i : Nat), slotsRise 0 f.log = true → i < logSlots → f.at i = none → (∀ j, j < i → f.at j ≠ none) →
    (f.place r).at i = some r ∧ (∀ j, j ≠ i → (f.place r).at j = f.at j) ∧ (f.place r).stat = f.stat) ∧
  (∀ (f : Flow) (r v : FlowRec) (i : Nat), slotsRise 0 f.log = true → (∀ j, j < logSlots → f.at j ≠ none) → f.OldestLowest i v →
    v.SEVERITY.toNat ≤ r.SEVERITY.toNat →
    (f.place r).at i = some r ∧ (∀ j, j ≠ i → (f.place r).at j = f.at j) ∧
    (f.place r).stat = { f.stat with
      OVERWRITTEN := upd f.stat.OVERWRITTEN v.SEVERITY.toFin sat, LAST_OVERWRITE_SEQ := v.SEQ.setWidth 64 }) ∧
  (∀ (f : Flow) (r : FlowRec), slotsRise 0 f.log = true → (∀ j, j < logSlots → f.at j ≠ none) →
    (∀ j q, f.at j = some q → r.SEVERITY.toNat < q.SEVERITY.toNat) →
    (∀ j, (f.place r).at j = f.at j) ∧
    (f.place r).stat = { f.stat with DROPPED_FULL := upd f.stat.DROPPED_FULL r.SEVERITY.toFin sat, DROP_SEEN := 1#1 }) ∧
  (∀ (f : Flow) (r q : FlowRec) (i : Nat), slotsRise 0 f.log = true → f.at i = some q → r.SEVERITY.toNat < q.SEVERITY.toNat →
    (f.place r).at i = some q)

/-- Every command of role 0 but FLOW_EXPORT, which holds an export, and TIME_RTC_READ, which takes a shadow, completes in every state and with every
request, accepted, refused or lost, and changes nothing but the host port (its reply, the session's counters, MB_DONE) and the model's own
counter of free values: no chamber, descriptor, counter, record, unit, mode or time. -/
def Obligations.ViewCommandsChangeOnlyTheHost : Prop :=
  ∀ c ∈ ([.sysBootInfo, .sysStartGet, .sysSessionList, .sysTrustGet, .sysSessGet, .cfgChamberGet,
      .cfgPowerGet, .cfgNetGet, .prgTaskGet, .prgTaskStatus, .prgRemoteStatus, .prgLaneStatus,
      .prgTemperStatus, .prgImageInfo, .prgVarRead, .prgBreakStatus, .olcStatus, .olcForceList,
      .loopGet, .loopBankRead, .loopStatus, .loopEngineStatus, .cruSlotGet, .cruSlotInfo,
      .cruResultRead, .cruStatus, .cruQpGet, .cruQpInfo, .fioDioGet, .fioDioStatus,
      .fioGroupStatus, .fioAioGet, .fioAioStatus, .fioAioTrimGet, .safeParamRead, .safeStatus,
      .motAxisGet, .motEncGet, .motTableRead, .motStatus, .canCtrlGet, .canStatus,
      .timePtpGet, .timeStatus, .timeCmpGet, .pairGet, .pairStatus, .flowGet,
      .flowStatus, .flowRead, .pnlGet, .pnlStatus, .diagGrottoStatus, .diagPowerStatus,
      .diagNetStatus] : List (Request → Instr)),
    ∀ (rq : Request) (s : State), ∃ t : State, exec (c rq) s = .next t ∧ t = { s with host := t.host, free := t.free }

/-- A reply to a request that came by a mailbox overwrites the mailbox from its first byte: the command's code, the tag, the payload's length, the
session, REPLY, RX_TS, the reason code, two reserved bytes and what follows them; the mailbox is DONE and MB_DONE of it is set at the same moment;
the bytes behind the reply, the other mailboxes and everything but the host port stand. A reply of a network session that is open goes to it;
a reply to a request whose session has closed is dropped (the model's reading, log 25). -/
def Obligations.RepliesReachMailboxes : Prop :=
  (∀ (s : State) (e : CmdInfo) (rq : Request) (n : Fin 8) (reason : Nat) (body : List Byte), rq.mailbox = some n → (rq ∈ s.host.orphans → False) →
    (s.host.mb.get n).data.wf = true →
    ((s.reply e rq reason body).host.mb.get n).state = .done ∧
    ((s.reply e rq reason body).host.mb.get n).data.read 0 (20 + body.length) =
      leBytes 2 e.code ++ leBytes 2 rq.tag.toNat ++ leBytes 2 (4 + body.length) ++ leBytes 1 rq.session.val ++ [1#8] ++ leBytes 8 rq.rxTs.toNat
        ++ leBytes 2 reason ++ [0#8, 0#8] ++ body ∧
    (∀ a, 20 + body.length ≤ a → ((s.reply e rq reason body).host.mb.get n).data.get a = (s.host.mb.get n).data.get a) ∧
    (s.reply e rq reason body).host.irqStatus = s.host.irqStatus ||| irqMbDone n ∧
    (∀ m, m ≠ n → (s.reply e rq reason body).host.mb.get m = s.host.mb.get m) ∧
    s.reply e rq reason body = { s with host := (s.reply e rq reason body).host }) ∧
  (∀ (s : State) (e : CmdInfo) (rq : Request) (reason : Nat) (body : List Byte), rq.mailbox = none → (rq ∈ s.host.orphans → False) →
    (s.host.session.get rq.session).open_ = true →
    (s.reply e rq reason body).host.replies =
      ⟨rq.session, none, BitVec.ofNat 16 e.code, rq.tag, rq.rxTs, leBytes 2 reason ++ [0#8, 0#8] ++ body⟩ :: s.host.replies ∧
    (s.reply e rq reason body).host.mb = s.host.mb ∧ (s.reply e rq reason body).host.irqStatus = s.host.irqStatus) ∧
  (∀ (s : State) (e : CmdInfo) (rq : Request) (reason : Nat) (body : List Byte), rq ∈ s.host.orphans →
    s.reply e rq reason body = { s with host := { s.host with orphans := s.host.orphans.erase rq } })

/-- The bytes that a descriptor or record of this manual is stored in, read back, give the same descriptor: no field of it is dropped, overlaps
another or is read at another place than it is written. Stated of the descriptors of chambers, power, tasks, remote stations, CAN controllers,
filters and objects, networks, PTP, pairs, digital and analogue channels, encoders, axes, the recorder, the start, sessions, loops, Crucible
slots and their QP parameters, compare and capture units, and of the record of the event log. -/
def Obligations.DescriptorsRoundTrip : Prop :=
  (∀ x : CanDesc, CanDesc.ofBytes x.toBytes = x) ∧
  (∀ x : CanFilter, CanFilter.ofBytes x.toBytes = x) ∧
  (∀ x : CanObject, CanObject.ofBytes x.toBytes = x) ∧
  (∀ x : NetDesc, NetDesc.ofBytes x.toBytes = x) ∧
  (∀ x : PtpDesc, PtpDesc.ofBytes x.toBytes = x) ∧
  (∀ x : PairDesc, PairDesc.ofBytes x.toBytes = x) ∧
  (∀ x : ChamberDesc, ChamberDesc.ofBytes x.toBytes = x) ∧
  (∀ x : PowerDesc, PowerDesc.ofBytes x.toBytes = x) ∧
  (∀ x : TaskDesc, TaskDesc.ofBytes x.toBytes = x) ∧
  (∀ x : RemoteDesc, RemoteDesc.ofBytes x.toBytes = x) ∧
  (∀ x : DioDesc, DioDesc.ofBytes x.toBytes = x) ∧
  (∀ x : AioDesc, AioDesc.ofBytes x.toBytes = x) ∧
  (∀ x : EncDesc, EncDesc.ofBytes x.toBytes = x) ∧
  (∀ x : AxisDesc, AxisDesc.ofBytes x.toBytes = x) ∧
  (∀ x : FlowDesc, FlowDesc.ofBytes x.toBytes = x) ∧
  (∀ x : StartDesc, StartDesc.ofBytes x.toBytes = x) ∧
  (∀ x : SessDesc, SessDesc.ofBytes x.toBytes = x) ∧
  (∀ x : LoopDesc, LoopDesc.ofBytes x.toBytes = x) ∧
  (∀ x : SlotDesc, SlotDesc.ofBytes x.toBytes = x) ∧
  (∀ x : QpParams, QpParams.ofBytes x.toBytes = x) ∧
  (∀ x : CmpDesc, CmpDesc.ofBytes x.toBytes = x) ∧
  (∀ x : TciDesc, TciDesc.ofBytes x.toBytes = x) ∧
  (∀ x : FlowRec, FlowRec.ofBytes x.toBytes = x)
end

