-- ==== Sys2Proof/Laws/Codec.lean ====
section
/-! SUPPORT. Laws of the byte and bit-field codecs: lengths, leading bytes, and what a field before another does not see. -/

namespace Sys2Proof.Machine

open Sys2Proof

set_option Elab.async false

@[simp] theorem leBytes_length (n v : Nat) : (leBytes n v).length = n := by
  induction n generalizing v with
  | zero => rfl
  | succ n ih => simp [leBytes, ih]

/-- The first bytes of a little-endian number are that number in fewer bytes. -/
theorem leBytes_take (k n v : Nat) (h : k ≤ n) : (leBytes n v).take k = leBytes k v := by
  induction k generalizing n v with
  | zero => rfl
  | succ k ih =>
    cases n with
    | zero => omega
    | succ n => simp [leBytes, ih n (v / 256) (by omega)]

/-- A little-endian number of `n` bytes takes its number modulo 256ⁿ. -/
theorem leBytes_mod (n v : Nat) : leBytes n v = leBytes n (v % 256 ^ n) := by
  induction n generalizing v with
  | zero => rfl
  | succ n ih =>
    have h1 : v % 256 ^ (n + 1) % 256 = v % 256 := Nat.mod_mod_of_dvd v ⟨256 ^ n, by rw [Nat.pow_succ, Nat.mul_comm]⟩
    have h2 : v % 256 ^ (n + 1) / 256 = v / 256 % 256 ^ n := by
      rw [Nat.pow_succ, Nat.mul_comm, Nat.mod_mul_right_div_self]
    simp only [leBytes, h2, ← ih]
    congr 1
    apply BitVec.eq_of_toNat_eq
    simp only [BitVec.toNat_ofNat]
    exact h1.symm

/-- Little-endian numbers that agree modulo 256ⁿ have the same `n` bytes. -/
theorem leBytes_congr (n a b : Nat) (h : a % 256 ^ n = b % 256 ^ n) : leBytes n a = leBytes n b := by
  rw [leBytes_mod n a, leBytes_mod n b, h]

/-- The bits that a list of fields takes. -/
def widths (l : List (Nat × Nat)) : Nat := (l.map fun e => e.1).sum

/-- Fields packed one list after another. -/
theorem pack_append (a b : List (Nat × Nat)) : pack (a ++ b) = pack a + 2 ^ widths a * pack b := by
  induction a with
  | nil => simp [pack, widths]
  | cons e r ih =>
    simp only [List.cons_append, pack, ih, widths, List.map_cons, List.sum_cons, Nat.pow_add]
    rw [Nat.mul_add, Nat.add_assoc, Nat.mul_assoc]

theorem widths_append (a b : List (Nat × Nat)) : widths (a ++ b) = widths a + widths b := by simp [widths]

/-- Layouts of one width, one after another. -/
theorem widths_flatMap {α : Type} (f : α → List (Nat × Nat)) (w : Nat) (h : ∀ a, widths (f a) = w) (l : List α) :
    widths (l.flatMap f) = l.length * w := by
  induction l with
  | nil => simp [widths]
  | cons a r ih => simp [widths_append, h, ih, Nat.add_mul, Nat.add_comm]

/-- Bytes before the end of a layout's first part do not see what follows it. -/
theorem leBytes_pack_append (n : Nat) (a b : List (Nat × Nat)) (h : widths a = 8 * n) : leBytes n (pack (a ++ b)) = leBytes n (pack a) := by
  apply leBytes_congr
  rw [pack_append, h, show (256 : Nat) = 2 ^ 8 from rfl, ← Nat.pow_mul, Nat.add_mul_mod_self_left]

/-- The fields of a safety set before its CRC. -/
def SafetySet.body (x : SafetySet) : List (Nat × Nat) := x.fields.dropLast

theorem SafetySet.fields_eq (x : SafetySet) : x.fields = x.body ++ [(32, x.CRC.toNat)] := by
  simp only [SafetySet.body, SafetySet.fields, List.dropLast_concat]

/-- They take 832 bytes (R242). -/
theorem SafetySet.widths_body (x : SafetySet) : widths x.body = 8 * 832 := by
  have h : widths x.fields = 6656 + 32 := by
    simp only [SafetySet.fields, widths_append, widths_flatMap PairEntry.fields 64 (fun _ => by simp [widths, PairEntry.fields]), widths_flatMap SoEntry.fields 256 (fun _ => by simp [widths, SoEntry.fields]),
      widths_flatMap AxisEntry.fields 384 (fun _ => by simp [widths, AxisEntry.fields]), widths_flatMap TargetEntry.fields 128 (fun _ => by simp [widths, TargetEntry.fields]), Vector.length_toList]
    simp [widths]
  rw [x.fields_eq, widths_append] at h
  have h2 : widths [(32, x.CRC.toNat)] = 32 := rfl
  omega

/-- The CRC of a safety set does not cover its own field (R239). -/
theorem SafetySet.crcOf_crc (x : SafetySet) (c : BitVec 32) : ({ x with CRC := c } : SafetySet).crcOf = x.crcOf := by
  unfold SafetySet.crcOf SafetySet.toBytes
  rw [leBytes_take _ _ _ (by decide), leBytes_take _ _ _ (by decide), SafetySet.fields_eq, leBytes_pack_append _ _ _ (SafetySet.widths_body _),
    SafetySet.fields_eq { x with SIGNED_BY := 0#32, SIGNED_TS := 0#64 }, leBytes_pack_append _ _ _ (SafetySet.widths_body _)]
  simp only [SafetySet.body, SafetySet.fields, List.dropLast_concat]

/-! ### Reading back what was packed -/

/-- Bytes of a number read as that number, modulo 256ⁿ. -/
theorem ofLe_leBytes (n v : Nat) : ofLe (leBytes n v) = v % 256 ^ n := by
  induction n generalizing v with
  | zero => simp [leBytes, ofLe, Nat.mod_one]
  | succ n ih =>
    simp only [leBytes, ofLe, ih, BitVec.toNat_ofNat]
    have h : v % 256 ^ (n + 1) = v % 256 + 256 * (v / 256 % 256 ^ n) := by rw [Nat.pow_succ, Nat.mul_comm, Nat.mod_mul]
    rw [h]

/-- Packed fields stay below their widths. -/
theorem pack_lt (l : List (Nat × Nat)) : pack l < 2 ^ widths l := by
  induction l with
  | nil => simp [pack, widths]
  | cons e r ih =>
    have h1 : e.2 % 2 ^ e.1 < 2 ^ e.1 := Nat.mod_lt _ (Nat.two_pow_pos _)
    have h2 : widths (e :: r) = e.1 + widths r := by simp [widths]
    rw [h2, Nat.pow_add]
    show e.2 % 2 ^ e.1 + 2 ^ e.1 * pack r < _
    calc e.2 % 2 ^ e.1 + 2 ^ e.1 * pack r < 2 ^ e.1 + 2 ^ e.1 * pack r := by omega
      _ = 2 ^ e.1 * (pack r + 1) := by rw [Nat.mul_add, Nat.mul_one, Nat.add_comm]
      _ ≤ 2 ^ e.1 * 2 ^ widths r := Nat.mul_le_mul_left _ ih

/-- A layout's bytes hold its fields. -/
theorem ofLe_pack (n : Nat) (l : List (Nat × Nat)) (h : widths l = 8 * n) : ofLe (leBytes n (pack l)) = pack l := by
  rw [ofLe_leBytes, Nat.mod_eq_of_lt]
  have := pack_lt l
  rwa [h, Nat.pow_mul] at this

/-- The first field reads back. -/
theorem bitsAt_pack_head (w v : Nat) (l : List (Nat × Nat)) : bitsAt (pack ((w, v) :: l)) 0 w = BitVec.ofNat w v := by
  apply BitVec.eq_of_toNat_eq
  simp only [bitsAt, pack, Nat.pow_zero, Nat.div_one, BitVec.toNat_ofNat, Nat.add_mul_mod_self_left, Nat.mod_mod]

/-- A field past the first is read from the rest. -/
theorem bitsAt_pack_skip (k u p w : Nat) (l : List (Nat × Nat)) : bitsAt (pack ((k, u) :: l)) (p + k) w = bitsAt (pack l) p w := by
  simp only [bitsAt, pack]
  congr 1
  have h : (u % 2 ^ k + 2 ^ k * pack l) / 2 ^ k = pack l := by
    rw [Nat.add_mul_div_left _ _ (Nat.two_pow_pos k), Nat.div_eq_of_lt (Nat.mod_lt _ (Nat.two_pow_pos k)), Nat.zero_add]
  rw [show 2 ^ (p + k) = 2 ^ k * 2 ^ p by rw [Nat.add_comm, Nat.pow_add], ← Nat.div_div_eq_div_mul, h]

/-- The field that begins at bit `p`: its width and its value. -/
def fieldAt : List (Nat × Nat) → Nat → Option (Nat × Nat)
  | [], _ => none
  | (k, u) :: l, p => if p = 0 then some (k, u) else if p < k then none else fieldAt l (p - k)

/-- A field is read where it begins. -/
theorem bitsAt_field {l : List (Nat × Nat)} {p w v : Nat} (h : fieldAt l p = some (w, v)) : bitsAt (pack l) p w = BitVec.ofNat w v := by
  induction l generalizing p with
  | nil => cases h
  | cons e r ih =>
    obtain ⟨k, u⟩ := e
    unfold fieldAt at h
    by_cases h0 : p = 0
    · rw [if_pos h0] at h
      cases h; subst h0; exact bitsAt_pack_head ..
    · rw [if_neg h0] at h
      by_cases h1 : p < k
      · rw [if_pos h1] at h; cases h
      · rw [if_neg h1] at h
        obtain ⟨q, rfl⟩ : ∃ q, p = q + k := ⟨p - k, by omega⟩
        rw [bitsAt_pack_skip]
        exact ih (by rwa [Nat.add_sub_cancel] at h)

/-- A field that holds a bit vector reads back as that bit vector. -/
theorem bitsAt_bv {l : List (Nat × Nat)} {p w : Nat} {x : BitVec w} (h : fieldAt l p = some (w, x.toNat)) : bitsAt (pack l) p w = x := by
  rw [bitsAt_field h, BitVec.ofNat_toNat, BitVec.setWidth_eq]

end Sys2Proof.Machine
end

