-- ==== Sys2Proof/Laws/Memory.lean ====
section
/-! SUPPORT. Laws of a memory: what a read gives after a write, and that every write keeps the canonical form. -/

namespace Sys2Proof.Machine

open Sys2Proof

set_option Elab.async false

theorem Memory.get_set_same (m : Memory) (a : Nat) (v : Byte) (lo : Nat) (h : m.wfFrom lo = true) : (m.set a v).get a = v := by
  induction m generalizing lo with
  | nil => simp only [Memory.set]; split <;> simp_all [Memory.get]
  | cons e r ih =>
    obtain ⟨k, b⟩ := e
    simp only [Memory.wfFrom, Bool.and_eq_true, decide_eq_true_eq] at h
    obtain ⟨⟨_, _⟩, h3⟩ := h
    have above : ∀ (r : Memory) (lo : Nat), r.wfFrom lo = true → ∀ a, a < lo → r.get a = 0 := by
      intro r
      induction r with
      | nil => intros; rfl
      | cons e r ih =>
        obtain ⟨k, b⟩ := e
        intro lo h a ha
        simp only [Memory.wfFrom, Bool.and_eq_true, decide_eq_true_eq] at h
        have : k ≠ a := by omega
        simp only [Memory.get, this, if_false]
        exact ih (k + 1) h.2 a (by omega)
    simp only [Memory.set]
    split
    · split
      · rename_i h1 h2
        have : k ≠ a := by omega
        simp only [Memory.get, this, if_false, h2]
        exact above r (k + 1) h3 a (by omega)
      · simp [Memory.get]
    · split
      · rename_i h1 h2
        split
        · rename_i h4
          rw [h4]; exact above r (k + 1) h3 a (by omega)
        · simp [Memory.get]
      · rename_i h1 h2
        have : k ≠ a := fun e => h2 e.symm
        simp only [Memory.get, this, if_false]
        exact ih (k + 1) h3

theorem Memory.get_set_ne (m : Memory) {a b : Nat} (v : Byte) (h : b ≠ a) : (m.set a v).get b = m.get b := by
  have h' : a ≠ b := fun e => h e.symm
  induction m with
  | nil => simp only [Memory.set]; split <;> simp [Memory.get, h']
  | cons e r ih =>
    obtain ⟨k, c⟩ := e
    simp only [Memory.set]
    split
    · split <;> simp [Memory.get, h']
    · split
      · rename_i h1 h2
        subst h2
        split <;> simp [Memory.get, h']
      · simp only [Memory.get, ih]

theorem Memory.wfFrom_mono {m : Memory} {lo lo' : Nat} (h : lo ≤ lo') (w : m.wfFrom lo' = true) : m.wfFrom lo = true := by
  cases m with
  | nil => rfl
  | cons e r =>
    obtain ⟨k, b⟩ := e
    simp only [Memory.wfFrom, Bool.and_eq_true, decide_eq_true_eq] at w ⊢
    exact ⟨⟨by omega, w.1.2⟩, w.2⟩

theorem Memory.set_wfFrom {m : Memory} {lo a : Nat} {v : Byte} (h : m.wfFrom lo = true) (ha : lo ≤ a) : (m.set a v).wfFrom lo = true := by
  induction m generalizing lo with
  | nil =>
    simp only [Memory.set]; split
    · rfl
    · rename_i hv; simp only [Memory.wfFrom, Bool.and_eq_true, decide_eq_true_eq]; exact ⟨⟨ha, by simpa using hv⟩, trivial⟩
  | cons e r ih =>
    obtain ⟨k, b⟩ := e
    have hh := h
    simp only [Memory.wfFrom, Bool.and_eq_true, decide_eq_true_eq] at h
    obtain ⟨⟨h1, h2⟩, h3⟩ := h
    simp only [Memory.set]
    split
    · rename_i hk
      split
      · exact hh
      · rename_i hv
        simp only [Memory.wfFrom, Bool.and_eq_true, decide_eq_true_eq]
        exact ⟨⟨ha, by simpa using hv⟩, ⟨⟨by omega, h2⟩, h3⟩⟩
    · split
      · rename_i hk1 hk
        subst hk
        split
        · exact Memory.wfFrom_mono (by omega) h3
        · rename_i hv
          simp only [Memory.wfFrom, Bool.and_eq_true, decide_eq_true_eq]
          exact ⟨⟨ha, by simpa using hv⟩, h3⟩
      · simp only [Memory.wfFrom, Bool.and_eq_true, decide_eq_true_eq]
        exact ⟨⟨h1, h2⟩, ih h3 (by omega)⟩

theorem Memory.set_wf {m : Memory} (a : Nat) (v : Byte) (h : m.wf = true) : (m.set a v).wf = true :=
  Memory.set_wfFrom h (Nat.zero_le _)

theorem Memory.write_wf {m : Memory} (a : Nat) (bs : List Byte) (h : m.wf = true) : (m.write a bs).wf = true := by
  induction bs generalizing m a with
  | nil => exact h
  | cons b r ih => exact ih _ (Memory.set_wf _ _ h)

theorem Memory.get_write_out (m : Memory) (a b : Nat) (bs : List Byte) (h : b < a ∨ a + bs.length ≤ b) : (m.write a bs).get b = m.get b := by
  induction bs generalizing m a with
  | nil => rfl
  | cons c r ih =>
    simp only [List.length_cons] at h
    rw [Memory.write, ih _ _ (by omega), Memory.get_set_ne _ _ (by omega)]

theorem Memory.read_write_same (m : Memory) (a : Nat) (bs : List Byte) (h : m.wf = true) : (m.write a bs).read a bs.length = bs := by
  induction bs generalizing m a with
  | nil => rfl
  | cons c r ih =>
    simp only [List.length_cons, Memory.read, Memory.write]
    rw [ih _ _ (Memory.set_wf _ _ h), Memory.get_write_out _ _ _ _ (by omega), Memory.get_set_same _ _ _ 0 h]

theorem Memory.get_ext {m n : Memory} {lo : Nat} (hm : m.wfFrom lo = true) (hn : n.wfFrom lo = true) (h : ∀ a, m.get a = n.get a) : m = n := by
  have low : ∀ (r : Memory) (lo : Nat), r.wfFrom lo = true → ∀ a, a < lo → r.get a = 0 := by
    intro r
    induction r with
    | nil => intros; rfl
    | cons e r ih =>
      obtain ⟨k, b⟩ := e
      intro lo h a ha
      simp only [Memory.wfFrom, Bool.and_eq_true, decide_eq_true_eq] at h
      have : k ≠ a := by omega
      simp only [Memory.get, this, if_false]
      exact ih (k + 1) h.2 a (by omega)
  induction m generalizing n lo with
  | nil =>
    cases n with
    | nil => rfl
    | cons e r =>
      obtain ⟨k, b⟩ := e
      simp only [Memory.wfFrom, Bool.and_eq_true, decide_eq_true_eq] at hn
      have := h k; simp [Memory.get] at this; simp [← this] at hn
  | cons e r ih =>
    obtain ⟨k, b⟩ := e
    have hm' := hm
    simp only [Memory.wfFrom, Bool.and_eq_true, decide_eq_true_eq] at hm
    cases n with
    | nil => have := h k; simp [Memory.get] at this; simp [this] at hm
    | cons e' r' =>
      obtain ⟨k', b'⟩ := e'
      simp only [Memory.wfFrom, Bool.and_eq_true, decide_eq_true_eq] at hn
      have hk : k = k' := by
        rcases Nat.lt_trichotomy k k' with g | g | g
        · have := h k; have g' : k' ≠ k := by omega
          simp only [Memory.get, if_true, g', if_false, low r' (k' + 1) hn.2 k (by omega)] at this; simp [this] at hm
        · exact g
        · have := h k'; have g' : k ≠ k' := by omega
          simp only [Memory.get, if_true, g', if_false, low r (k + 1) hm.2 k' (by omega)] at this; simp [← this] at hn
      subst hk
      have hb : b = b' := by have := h k; simpa [Memory.get] using this
      subst hb
      congr 1
      refine ih hm.2 hn.2 fun a => ?_
      by_cases g : k = a
      · subst g; rw [low r (k + 1) hm.2 k (by omega), low r' (k + 1) hn.2 k (by omega)]
      · have := h a; simpa only [Memory.get, g, if_false] using this

end Sys2Proof.Machine
end

