-- ==== Sys2Proof/Laws/Recorder.lean ====
section
/-! SUPPORT. Laws of the event recorder: the order of the log body, the place that a record takes, and the numbers it gives. -/

namespace Sys2Proof.Machine

open Sys2Proof

set_option Elab.async false

/-! ### The log body -/

theorem slotsRise_mono {lo lo' : Nat} {l : List (Nat × FlowRec)} (h : lo ≤ lo') (w : slotsRise lo' l = true) : slotsRise lo l = true := by
  cases l with
  | nil => rfl
  | cons e r =>
    obtain ⟨k, q⟩ := e
    simp only [slotsRise, Bool.and_eq_true, decide_eq_true_eq] at w ⊢
    exact ⟨⟨by omega, w.1.2⟩, w.2⟩

/-- A record put into a slot keeps the slots rising. -/
theorem logPut_rise {lo i : Nat} {l : List (Nat × FlowRec)} (r : FlowRec) (h : slotsRise lo l = true) (h1 : lo ≤ i) (h2 : i < logSlots) :
    slotsRise lo (logPut l i r) = true := by
  induction l generalizing lo with
  | nil => simp only [logPut, slotsRise, Bool.and_true, Bool.and_eq_true, decide_eq_true_eq]; exact ⟨h1, h2⟩
  | cons e t ih =>
    obtain ⟨k, q⟩ := e
    have h' := h
    simp only [slotsRise, Bool.and_eq_true, decide_eq_true_eq] at h
    obtain ⟨⟨g1, g2⟩, g3⟩ := h
    simp only [logPut]
    split
    · simp only [slotsRise, Bool.and_eq_true, decide_eq_true_eq]; exact ⟨⟨h1, h2⟩, ⟨by omega, g2⟩, g3⟩
    · split
      · rename_i a b
        subst b
        simp only [slotsRise, Bool.and_eq_true, decide_eq_true_eq]; exact ⟨⟨h1, h2⟩, g3⟩
      · simp only [slotsRise, Bool.and_eq_true, decide_eq_true_eq]; exact ⟨⟨g1, g2⟩, ih g3 (by omega)⟩

/-- A slot of the log body is one of its slots. -/
theorem slotsRise_lt {lo : Nat} {l : List (Nat × FlowRec)} (h : slotsRise lo l = true) {k : Nat} {q : FlowRec} (m : (k, q) ∈ l) :
    lo ≤ k ∧ k < logSlots := by
  induction l generalizing lo with
  | nil => simp at m
  | cons e t ih =>
    obtain ⟨j, x⟩ := e
    simp only [slotsRise, Bool.and_eq_true, decide_eq_true_eq] at h
    obtain ⟨⟨g1, g2⟩, g3⟩ := h
    rcases List.mem_cons.mp m with m | m
    · cases m; exact ⟨g1, g2⟩
    · have := ih g3 m; exact ⟨by omega, this.2⟩

/-- Slots left out keep the rest rising. -/
theorem slotsRise_filter {lo : Nat} {l : List (Nat × FlowRec)} (p : Nat × FlowRec → Bool) (h : slotsRise lo l = true) :
    slotsRise lo (l.filter p) = true := by
  induction l generalizing lo with
  | nil => rfl
  | cons e t ih =>
    obtain ⟨k, q⟩ := e
    simp only [slotsRise, Bool.and_eq_true, decide_eq_true_eq] at h
    obtain ⟨⟨g1, g2⟩, g3⟩ := h
    simp only [List.filter_cons]
    split
    · simp only [slotsRise, Bool.and_eq_true, decide_eq_true_eq]; exact ⟨⟨g1, g2⟩, ih g3⟩
    · exact slotsRise_mono (by omega) (ih g3)

/-- The oldest record of a severity is one of the log, of that severity. -/
theorem oldestOf_mem {sev : Nat} {l : List (Nat × FlowRec)} {e : Nat × FlowRec} (h : oldestOf sev l = some e) :
    e ∈ l ∧ e.2.SEVERITY.toNat = sev := by
  suffices g : ∀ (l : List (Nat × FlowRec)) (b : Option (Nat × FlowRec)),
      (l.foldl (fun best e => match best with
        | none => some e
        | some b => if e.2.SEQ.toNat < b.2.SEQ.toNat then some e else some b) b) = some e → b = some e ∨ e ∈ l by
    rcases g _ _ h with g | g
    · cases g
    · simp only [List.mem_filter, beq_iff_eq] at g; exact g
  intro l
  induction l with
  | nil => intro b h; exact Or.inl h
  | cons x t ih =>
    intro b h
    rw [List.foldl_cons] at h
    rcases ih _ h with g | g
    · cases b with
      | none => simp only [Option.some.injEq] at g; exact Or.inr (by simp [g])
      | some y =>
        dsimp only at g
        split at g
        · simp only [Option.some.injEq] at g; exact Or.inr (by simp [g])
        · exact Or.inl g
    · exact Or.inr (List.mem_cons_of_mem _ g)

/-- The record that is overwritten is one of the log, of no higher severity. -/
theorem victimOf_mem {sev : Nat} {l : List (Nat × FlowRec)} {e : Nat × FlowRec} (h : victimOf sev l = some e) :
    e ∈ l ∧ e.2.SEVERITY.toNat ≤ sev := by
  have h' := List.mem_of_mem_head? (Option.mem_def.mpr h)
  simp only [List.mem_filterMap, List.mem_range] at h'
  obtain ⟨v, hv, hm⟩ := h'
  have := oldestOf_mem hm
  exact ⟨this.1, by omega⟩

/-- A record that takes its place keeps the recorder in order. -/
theorem Flow.place_ordered {f : Flow} (r : FlowRec) (h : f.Ordered) : (f.place r).Ordered := by
  unfold Flow.place
  dsimp only
  split
  · rename_i g; exact ⟨logPut_rise _ h.1 (Nat.zero_le _) g, h.2⟩
  · split
    · rename_i i v g
      have := victimOf_mem g
      exact ⟨logPut_rise _ h.1 (Nat.zero_le _) (slotsRise_lt h.1 this.1).2, h.2⟩
    · exact h

/-- So do several records. -/
theorem Flow.places_ordered {f : Flow} (l : List FlowRec) (h : f.Ordered) : (l.foldl Flow.place f).Ordered := by
  induction l generalizing f with
  | nil => exact h
  | cons r t ih => exact ih (Flow.place_ordered r h)

theorem Flow.scan_ordered {f : Flow} (bad : List Nat) (now : Nat) (h : f.Ordered) : (f.scan bad now).Ordered :=
  ⟨slotsRise_filter _ h.1, h.2⟩

theorem Flow.boot_ordered {f : Flow} (now : Nat) (h : f.Ordered) : (f.boot now).Ordered :=
  ⟨slotsRise_filter _ h.1, Nat.le_add_right _ _⟩

theorem Flow.afterReset_ordered {f : Flow} (h : f.Ordered) : f.afterReset.Ordered := ⟨h.1, Nat.le_refl _⟩

/-! ### Numbers -/

/-- SEQ_RESERVED stands at or above a number before it is assigned. -/
theorem reserveSeq_ge (reserved seq : Nat) : seq ≤ reserveSeq reserved seq := by
  unfold reserveSeq
  split <;> omega

/-- A trigger of a flush moves no record and gives no number. -/
theorem Flow.trigger_same (f : Flow) (now : Nat) :
    (f.trigger now).log = f.log ∧ (f.trigger now).headSeq = f.headSeq ∧ (f.trigger now).seqReserved = f.seqReserved := by
  unfold Flow.trigger
  split <;> exact ⟨rfl, rfl, rfl⟩

/-- The next record takes the next number. -/
theorem State.stageAt_headSeq (s : State) (n : Note) (ts : BitVec 64) : (s.stageAt n ts).flow.headSeq = s.flow.headSeq + 1 := by
  unfold State.stageAt
  extract_lets seq r f s1 s2
  have h : s2.flow.headSeq = s.flow.headSeq + 1 := by
    show (if 4 ≤ n.sev then s1.raise irqFlowAlarm else s1).flow.headSeq = _
    split <;> rfl
  split
  · exact (Flow.trigger_same s2.flow s2.now).2.1.trans h
  · exact h

end Sys2Proof.Machine
end

