-- ==== Sys2Proof/Laws/Keeps.lean ====
section
/-! SUPPORT. What every operation of the machine keeps: the queue of waiting commands as it is, and a sound state sound. One lemma for
each operation, from these few, which say how such facts combine. -/

namespace Sys2Proof.Machine

open Sys2Proof

set_option Elab.async false

/-- From `s` to `t` the queue is as it was, and a sound state has stayed sound. -/
structure Keeps (s t : State) : Prop where
  pending : t.pending = s.pending
  sound   : s.Sound → t.Sound

theorem Keeps.refl (s : State) : Keeps s s := ⟨rfl, id⟩

theorem Keeps.trans {s t u : State} (h : Keeps s t) (g : Keeps t u) : Keeps s u :=
  ⟨g.pending.trans h.pending, fun x => g.sound (h.sound x)⟩

/-- A state that differs from one only in what the invariant does not look at. -/
theorem Keeps.congr {s u t : State} (h : Keeps s u) (h1 : t.gro.mem = u.gro.mem) (h2 : t.gro.retainMram = u.gro.retainMram)
    (h3 : t.flow.log = u.flow.log) (h4 : t.flow.headSeq = u.flow.headSeq) (h5 : t.flow.seqReserved = u.flow.seqReserved)
    (h6 : t.host.mb = u.host.mb) (h7 : t.host.appReq = u.host.appReq) (h8 : t.pending = u.pending) : Keeps s t := by
  refine ⟨h8.trans h.pending, fun x => ?_⟩
  have y := h.sound x
  refine ⟨⟨fun c => ?_, ?_⟩, ⟨?_, ?_⟩, ⟨fun n => ?_, fun n => ?_⟩⟩
  · rw [h1]; exact y.gro.1 c
  · rw [h2]; exact y.gro.2
  · rw [h3]; exact y.flow.1
  · rw [h4, h5]; exact y.flow.2
  · rw [h6]; exact y.host.1 n
  · rw [h7]; exact y.host.2 n

/-- An update of records that the invariant does not look at. -/
theorem Keeps.step {s u : State} {gro : Grotto} {pow : Power} {tk : Tasks} {dbg : Debug} {olc : Change} {lp : Loops} {cru : Crucible}
    {isl : Island} {dio : Dio} {aio : Vector Aio 16} {mot : Motion} {can : Can} {tm : Time} {pr : Pair} {flow : Flow} {pnl : Panel} {sys : Sys}
    {host : HostPort} {free : Nat} (h : Keeps s u) (h1 : gro.mem = u.gro.mem := by rfl) (h2 : gro.retainMram = u.gro.retainMram := by rfl)
    (h3 : flow.log = u.flow.log := by rfl) (h4 : flow.headSeq = u.flow.headSeq := by rfl)
    (h5 : flow.seqReserved = u.flow.seqReserved := by rfl) (h6 : host.mb = u.host.mb := by rfl) (h7 : host.appReq = u.host.appReq := by rfl) :
    Keeps s ⟨gro, pow, tk, dbg, olc, lp, cru, isl, dio, aio, mot, can, tm, pr, flow, pnl, sys, host, free, u.pending⟩ :=
  h.congr h1 h2 h3 h4 h5 h6 h7 rfl

theorem Keeps.ite {s t u : State} {c : Prop} [Decidable c] (h : c → Keeps s t) (g : ¬c → Keeps s u) : Keeps s (if c then t else u) := by
  split
  · exact h ‹_›
  · exact g ‹_›

theorem Keeps.foldl {α : Type} {s u : State} {f : State → α → State} {l : List α} (h : ∀ v a, Keeps v (f v a)) (g : Keeps s u) :
    Keeps s (l.foldl f u) := by
  induction l generalizing u with
  | nil => exact g
  | cons a r ih => exact ih (g.trans (h u a))

/-- Memories written within the machine. -/
theorem Keeps.setGro {s u : State} {g : Grotto} (h : Keeps s u) (w : u.gro.Canonical → g.Canonical) : Keeps s { u with gro := g } :=
  ⟨h.pending, fun x => have y := h.sound x; ⟨w y.gro, y.flow, y.host⟩⟩

/-- The recorder changed. -/
theorem Keeps.setFlow {s u : State} {f : Flow} (h : Keeps s u) (w : u.flow.Ordered → f.Ordered) : Keeps s { u with flow := f } :=
  ⟨h.pending, fun x => have y := h.sound x; ⟨y.gro, w y.flow, y.host⟩⟩

/-- The host port changed. -/
theorem Keeps.setHost {s u : State} {p : HostPort} (h : Keeps s u) (w : u.host.Canonical → p.Canonical) : Keeps s { u with host := p } :=
  ⟨h.pending, fun x => have y := h.sound x; ⟨y.gro, y.flow, w y.host⟩⟩

/-- What a command's own meaning answers keeps the same. -/
def Served.Keeps (s : State) : Served → Prop
  | .done t _ => Machine.Keeps s t
  | .refuse _ _ _ => True
  | .refuseIn t _ _ _ _ => Machine.Keeps s t
  | .later t => Machine.Keeps s t

theorem Served.Keeps.refuseIf {s : State} {c : Bool} {r i x : Nat} {k : Served} (h : k.Keeps s) : (Machine.refuseIf c r i k x).Keeps s := by
  unfold Machine.refuseIf
  split
  · trivial
  · exact h

/-- A chamber rewritten by a function that keeps the canonical form. -/
theorem upd_canonical {v : Vector Memory 11} {i : Fin 11} {f : Memory → Memory} (h : ∀ c, (v.get c).wf = true)
    (w : ∀ m : Memory, m.wf = true → (f m).wf = true) (c : Fin 11) : ((upd v i f).get c).wf = true := by
  by_cases e : c = i
  · subst e
    have : (upd v c f).get c = f (v.get c) := by
      show (v.set c.val (f (v.get c)) c.isLt)[c.val] = _
      simp
    rw [this]; exact w _ (h c)
  · have e' : (i : Nat) ≠ c := fun g => e (Fin.ext g.symm)
    have : (upd v i f).get c = v.get c := by
      show (v.set i.val (f (v.get i)) i.isLt)[c.val] = v[c.val]
      simp [e']
    rw [this]; exact h c

/-- A chamber replaced. -/
theorem put_canonical {n : Nat} {v : Vector Memory n} {i : Fin n} {m : Memory} (h : ∀ c, (v.get c).wf = true) (w : m.wf = true) (c : Fin n) :
    ((put v i m).get c).wf = true := by
  by_cases e : c = i
  · subst e
    have : (put v c m).get c = m := by
      show (v.set c.val m c.isLt)[c.val] = _
      simp
    rw [this]; exact w
  · have e' : (i : Nat) ≠ c := fun g => e (Fin.ext g.symm)
    have : (put v i m).get c = v.get c := by
      show (v.set i.val m i.isLt)[c.val] = v[c.val]
      simp [e']
    rw [this]; exact h c

/-- A mailbox changed by a function that keeps its content canonical. -/
theorem updMb_canonical {v : Vector Mailbox 8} {i : Fin 8} {f : Mailbox → Mailbox} (h : ∀ c, (v.get c).data.wf = true)
    (w : ∀ m : Mailbox, m.data.wf = true → (f m).data.wf = true) (c : Fin 8) : ((upd v i f).get c).data.wf = true := by
  by_cases e : c = i
  · subst e
    have : (upd v c f).get c = f (v.get c) := by
      show (v.set c.val (f (v.get c)) c.isLt)[c.val] = _
      simp
    rw [this]; exact w _ (h c)
  · have e' : (i : Nat) ≠ c := fun g => e (Fin.ext g.symm)
    have : (upd v i f).get c = v.get c := by
      show (v.set i.val (f (v.get i)) i.isLt)[c.val] = v[c.val]
      simp [e']
    rw [this]; exact h c

/-- Several writes keep a memory canonical. -/
theorem writes_wf {α : Type} {f : Memory → α → Memory} {l : List α} (w : ∀ m a, m.wf = true → (f m a).wf = true) {m : Memory}
    (h : m.wf = true) : (l.foldl f m).wf = true := by
  induction l generalizing m with
  | nil => exact h
  | cons a r ih => exact ih (w m a h)

/-- The state that comes with a value. -/
theorem Keeps.of_eq {s : State} {α : Type} {p : α × State} {a : α} {t : State} (h : Keeps s p.2) (e : p = (a, t)) : Keeps s t := by
  subst e; exact h

/-- The state that comes with two values. -/
theorem Keeps.of_eq2 {s : State} {α β : Type} {p : α × β × State} {a : α} {b : β} {t : State} (h : Keeps s p.2.2) (e : p = (a, b, t)) : Keeps s t := by
  subst e; exact h

/-- A state on the way. -/
theorem Keeps.cut {s x t : State} (g : Keeps s x → Keeps s t) (h : Keeps s x) : Keeps s t := g h

theorem Served.Keeps.refuse {s : State} {a b c : Nat} : (Served.refuse a b c).Keeps s := trivial

theorem Served.Keeps.done {s t : State} {b : List Byte} (h : Machine.Keeps s t) : (Served.done t b).Keeps s := h

theorem Served.Keeps.refuseIn {s t : State} {b : List Byte} {x y z : Nat} (h : Machine.Keeps s t) : (Served.refuseIn t x y z b).Keeps s := h

theorem Served.Keeps.later {s t : State} (h : Machine.Keeps s t) : (Served.later t).Keeps s := h

theorem Served.Keeps.cut {s x : State} {t : Served} (g : Machine.Keeps s x → t.Keeps s) (h : Machine.Keeps s x) : t.Keeps s := g h

theorem Served.Keeps.ite {s : State} {t u : Served} {c : Prop} [Decidable c] (h : c → t.Keeps s) (g : ¬c → u.Keeps s) :
    (if c then t else u).Keeps s := by
  split
  · exact h ‹_›
  · exact g ‹_›

/-- The outcome is a next state that keeps what the machine keeps. -/
def Answers (s : State) (o : Host.Outcome State Fault Refusal) : Prop := ∃ t, o = .next t ∧ Keeps s t

theorem Answers.next {s t : State} (h : Keeps s t) : Answers s (.next t) := ⟨t, rfl, h⟩

theorem Answers.ite {s : State} {t u : Host.Outcome State Fault Refusal} {c : Prop} [Decidable c] (h : c → Answers s t)
    (g : ¬c → Answers s u) : Answers s (if c then t else u) := by
  split
  · exact h ‹_›
  · exact g ‹_›

theorem Answers.cut {s x : State} {t : Host.Outcome State Fault Refusal} (g : Keeps s x → Answers s t) (h : Keeps s x) : Answers s t := g h

/-- Mailboxes changed. -/
theorem setMb_keeps (s : State) {v : Vector Mailbox 8} (w : (∀ c, (s.host.mb.get c).data.wf = true) → ∀ c, (v.get c).data.wf = true) :
    Keeps s { s with host.mb := v } := ⟨rfl, fun x => ⟨x.gro, x.flow, ⟨w x.host.1, x.host.2⟩⟩⟩

/-- Chambers changed. -/
theorem setMems_keeps (s : State) {v : Vector Memory 11} (w : (∀ c, (s.gro.mem.get c).wf = true) → ∀ c, (v.get c).wf = true) :
    Keeps s { s with gro.mem := v } := ⟨rfl, fun x => ⟨⟨w x.gro.1, x.gro.2⟩, x.flow, x.host⟩⟩

end Sys2Proof.Machine
end

