-- ==== Sys2Proof/Laws/KeepsShared.lean ====
section
/-! SUPPORT. What the operations of the shared operations keep. -/

namespace Sys2Proof.Machine

open Sys2Proof

set_option Elab.async false

theorem State.sendFrames_keeps (s : State) (l : List (List Byte)) : Keeps s (State.sendFrames s l) := by
  unfold State.sendFrames
  exact .step (.refl _)

theorem State.draw_keeps (s : State) : Keeps s s.draw.2 := Keeps.step (Keeps.refl s)

theorem State.raise_keeps (s : State) (b : BitVec 32) : Keeps s (s.raise b) := Keeps.step (Keeps.refl s)

theorem State.setReason_keeps (s : State) (source code : Nat) : Keeps s (State.setReason s source code) := by
  unfold State.setReason
  refine .trans ?_ (State.raise_keeps ..)
  exact .step (.refl _)

theorem State.flushTrigger_keeps (s : State) : Keeps s s.flushTrigger := by
  refine (Keeps.refl s).setFlow fun h => ?_
  have := Flow.trigger_same s.flow s.now
  unfold Flow.Ordered; rw [this.1, this.2.1, this.2.2]; exact h

theorem State.stageAt_keeps (s : State) (n : Note) (ts : BitVec 64) : Keeps s (s.stageAt n ts) := by
  unfold State.stageAt
  extract_lets seq r f s1 s2
  have h1 : Keeps s s1 := ⟨rfl, fun x => ⟨x.gro, ⟨x.flow.1, reserveSeq_ge _ _⟩, x.host⟩⟩
  have h2 : Keeps s s2 := Keeps.ite (fun _ => h1.trans (State.raise_keeps _ _)) (fun _ => h1)
  exact Keeps.ite (fun _ => h2.trans (State.flushTrigger_keeps _)) (fun _ => h2)

theorem State.recordAt_keeps (s : State) (n : Note) (ts : BitVec 64) : Keeps s (State.recordAt s n ts) := by
  unfold State.recordAt
  split
  · exact State.stageAt_keeps ..
  · exact .step (.refl _)

theorem State.record_keeps (s : State) (n : Note) : Keeps s (State.record s n) := by
  unfold State.record
  exact State.recordAt_keeps ..

theorem State.event_keeps (s : State) (sev code inst old new : Nat) (detail : Nat) : Keeps s (State.event s sev code inst old new detail) := by
  unfold State.event
  exact State.record_keeps ..

theorem State.endFlush_keeps (s : State) : Keeps s s.endFlush := by
  unfold State.endFlush
  refine Keeps.ite (fun _ => ?_) (fun _ => Keeps.refl s)
  refine (State.draw_keeps s).trans ?_
  exact Keeps.setFlow (Keeps.refl _) fun h => Flow.places_ordered _ h

theorem State.emergencyFlush_keeps (s : State) (n : Nat) : Keeps s (s.emergencyFlush n) := by
  unfold State.emergencyFlush
  extract_lets f
  have h := Keeps.setFlow (f := { f with staging := [] }) (Keeps.refl s) fun h => Flow.places_ordered _ h
  exact Keeps.step (u := { s with flow := { f with staging := [] } }) h

theorem State.setMode_keeps (s : State) (m : Mode) : Keeps s (State.setMode s m) := by
  unfold State.setMode
  refine .ite (fun _ => ?_) fun _ => ?_
  · exact .refl _
  · extract_lets +onlyGivenNames y
    extract_lets +onlyGivenNames y
    extract_lets +onlyGivenNames y
    extract_lets +onlyGivenNames y
    refine .cut (x := y) (fun _ => ?_) ?_
    · clear_value y
      refine .trans ?_ (State.raise_keeps ..)
      exact .trans (by assumption) (State.event_keeps ..)
    · subst y
      exact .step (.refl _)

theorem State.stopAxes_keeps (s : State) (off : Bool) : Keeps s (State.stopAxes s off) := by
  unfold State.stopAxes
  exact .step (.refl _)

theorem State.killAll_keeps (s : State) : Keeps s (State.killAll s) := by
  unfold State.killAll
  exact .step (.refl _)

theorem State.dropLines_keeps (s : State) : Keeps s (State.dropLines s) := by
  unfold State.dropLines
  exact .step (.refl _)

theorem State.holdBlocks_keeps (s : State) : Keeps s (State.holdBlocks s) := by
  unfold State.holdBlocks
  exact .step (.refl _)

theorem State.clearRunEn_keeps (s : State) : Keeps s (State.clearRunEn s) := by
  unfold State.clearRunEn
  exact .step (.refl _)

theorem State.enterHalt_keeps (s : State) (cause : FatalCause) (dead : Bool) : Keeps s (State.enterHalt s cause dead) := by
  unfold State.enterHalt
  extract_lets +onlyGivenNames y
  extract_lets +onlyGivenNames y
  refine .cut (x := y) (fun _ => ?_) ?_
  · clear_value y
    extract_lets +onlyGivenNames y
    refine .cut (x := y) (fun _ => ?_) ?_
    · clear_value y
      refine .trans ?_ (State.flushTrigger_keeps ..)
      exact .step (by assumption)
    · subst y
      refine .trans ?_ (State.clearRunEn_keeps ..)
      refine .trans ?_ (State.holdBlocks_keeps ..)
      refine .trans ?_ (State.dropLines_keeps ..)
      exact .trans (by assumption) (State.setMode_keeps ..)
  · subst y
    refine .ite (fun _ => ?_) fun _ => ?_
    · exact .step (.refl _)
    · exact State.event_keeps ..

theorem State.deliver_keeps (s : State) (e : CmdInfo) (rq : Request) (reason : Nat) (body : List Byte) : Keeps s (s.deliver e rq reason body) := by
  unfold State.deliver
  extract_lets p h0 s1
  have h1 : Keeps s s1 := Keeps.step (Keeps.refl s)
  split
  · rename_i n _
    exact (h1.trans (setMb_keeps s1 (updMb_canonical (i := n) · fun m w => Memory.write_wf _ _ w))).trans (State.raise_keeps ..)
  · exact Keeps.ite (fun _ => Keeps.step h1) fun _ => h1

theorem State.reply_keeps (s : State) (e : CmdInfo) (rq : Request) (reason : Nat) (body : List Byte) : Keeps s (State.reply s e rq reason body) := by
  unfold State.reply
  refine .ite (fun _ => ?_) fun _ => ?_
  · exact .step (.refl _)
  · exact State.deliver_keeps ..

theorem State.noteRefusal_keeps (s : State) (e : CmdInfo) (rq : Request) (reason inst item : Nat) : Keeps s (State.noteRefusal s e rq reason inst item) := by
  unfold State.noteRefusal
  refine .ite (fun _ => ?_) fun _ => ?_
  · exact .refl _
  · exact State.recordAt_keeps ..

theorem State.refuse_keeps (s : State) (e : CmdInfo) (rq : Request) (reason inst item : Nat) : Keeps s (State.refuse s e rq reason inst item) := by
  unfold State.refuse
  refine .trans ?_ (State.reply_keeps ..)
  exact State.noteRefusal_keeps ..

theorem serve_keeps {e : CmdInfo} {rq : Request} {s : State} {own : State → Served} (h : ∀ s, (own s).Keeps s) : Keeps s (serve e rq s own) := by
  unfold serve
  have := h s
  split
  · exact State.refuse_keeps ..
  · cases g : own s <;> rw [g] at this <;> dsimp only
    · exact Keeps.trans this (State.reply_keeps ..)
    · exact State.refuse_keeps ..
    · exact (Keeps.trans this (State.noteRefusal_keeps ..)).trans (State.reply_keeps ..)
    · exact this

theorem State.receive_keeps (s : State) (rq : Request) : Keeps s (State.receive s rq) := by
  unfold State.receive
  exact .step (.refl _)

theorem State.command_keeps (s : State) (rq : Request) (meaning : Request → State → State) (h : ∀ s, Keeps s (meaning rq s)) : Keeps s (s.command rq meaning) :=
  Keeps.ite (fun _ => (State.receive_keeps s rq).trans (h _)) fun _ => Keeps.refl s

theorem pixelSet_wf {m : Memory} {x y : Nat} {v : BitVec 4} (h : m.wf = true) : (pixelSet m x y v).wf = true := Memory.set_wf _ _ h

theorem cmdPnlSet_keeps (rq : Request) (s : State) : Keeps s (cmdPnlSet rq s) := by
  unfold cmdPnlSet
  refine serve_keeps fun _ => ?_
  extract_lets +onlyGivenNames y
  refine .refuseIf ?_
  exact .done (.step (.refl _))

theorem cmdPnlGet_keeps (rq : Request) (s : State) : Keeps s (cmdPnlGet rq s) := by
  unfold cmdPnlGet
  refine serve_keeps fun _ => ?_
  exact .done (.refl _)

theorem cmdPnlWaveLoad_keeps (rq : Request) (s : State) : Keeps s (cmdPnlWaveLoad rq s) := by
  unfold cmdPnlWaveLoad
  refine serve_keeps fun _ => ?_
  extract_lets +onlyGivenNames y
  extract_lets +onlyGivenNames y
  refine .refuseIf ?_
  extract_lets +onlyGivenNames y
  extract_lets +onlyGivenNames y
  extract_lets +onlyGivenNames y
  refine .cut (x := y) (fun _ => ?_) ?_
  · clear_value y
    refine .ite (fun _ => ?_) fun _ => ?_
    · split
      · refine .done ?_
        exact .step (by assumption)
      · refine .refuseIn ?_
        assumption
    · refine .done ?_
      assumption
  · subst y
    exact .step (.refl _)

theorem cmdPnlDraw_keeps (rq : Request) (s : State) : Keeps s (cmdPnlDraw rq s) := by
  unfold cmdPnlDraw
  refine serve_keeps fun s => ?_
  extract_lets x y w h off data px
  refine Served.Keeps.refuseIf (Served.Keeps.refuseIf (Served.Keeps.done ?_))
  exact setMems_keeps s fun g => upd_canonical g fun m hm => writes_wf (fun _ _ => pixelSet_wf) hm

theorem cmdPnlUpdate_keeps (rq : Request) (s : State) : Keeps s (cmdPnlUpdate rq s) := by
  unfold cmdPnlUpdate
  refine serve_keeps fun _ => ?_
  extract_lets +onlyGivenNames y
  extract_lets +onlyGivenNames y
  extract_lets +onlyGivenNames y
  extract_lets +onlyGivenNames y
  iterate 4 refine .refuseIf ?_
  extract_lets +onlyGivenNames y
  extract_lets +onlyGivenNames y
  exact .done (.step (.refl _))

theorem cmdPnlStatus_keeps (rq : Request) (s : State) : Keeps s (cmdPnlStatus rq s) := by
  unfold cmdPnlStatus
  refine serve_keeps fun _ => ?_
  exact .done (.refl _)

theorem cmdPnlClear_keeps (rq : Request) (s : State) : Keeps s (cmdPnlClear rq s) := by
  unfold cmdPnlClear
  refine serve_keeps fun _ => ?_
  exact .done (.step (.refl _))

theorem execPnlSet_answers (rq : Request) (s : State) : Answers s (exec (.pnlSet rq) s) :=
  show Answers s (execPnlSet rq s) from Answers.next (State.command_keeps s rq _ (cmdPnlSet_keeps rq))

theorem execPnlGet_answers (rq : Request) (s : State) : Answers s (exec (.pnlGet rq) s) :=
  show Answers s (execPnlGet rq s) from Answers.next (State.command_keeps s rq _ (cmdPnlGet_keeps rq))

theorem execPnlWaveLoad_answers (rq : Request) (s : State) : Answers s (exec (.pnlWaveLoad rq) s) :=
  show Answers s (execPnlWaveLoad rq s) from Answers.next (State.command_keeps s rq _ (cmdPnlWaveLoad_keeps rq))

theorem execPnlDraw_answers (rq : Request) (s : State) : Answers s (exec (.pnlDraw rq) s) :=
  show Answers s (execPnlDraw rq s) from Answers.next (State.command_keeps s rq _ (cmdPnlDraw_keeps rq))

theorem execPnlUpdate_answers (rq : Request) (s : State) : Answers s (exec (.pnlUpdate rq) s) :=
  show Answers s (execPnlUpdate rq s) from Answers.next (State.command_keeps s rq _ (cmdPnlUpdate_keeps rq))

theorem execPnlStatus_answers (rq : Request) (s : State) : Answers s (exec (.pnlStatus rq) s) :=
  show Answers s (execPnlStatus rq s) from Answers.next (State.command_keeps s rq _ (cmdPnlStatus_keeps rq))

theorem execPnlClear_answers (rq : Request) (s : State) : Answers s (exec (.pnlClear rq) s) :=
  show Answers s (execPnlClear rq s) from Answers.next (State.command_keeps s rq _ (cmdPnlClear_keeps rq))

theorem execPanelTempRead_answers (t : Option (BitVec 16)) (s : State) : Answers s (exec (.panelTempRead t) s) := by
  show Answers s (execPanelTempRead t s)
  unfold execPanelTempRead
  refine .next ?_
  split
  · exact .step (.refl _)
  · extract_lets +onlyGivenNames y
    extract_lets +onlyGivenNames y
    exact .step (.refl _)

theorem execPanelUpdateStart_answers (s : State) : Answers s (exec .panelUpdateStart s) := by
  show Answers s (execPanelUpdateStart s)
  unfold execPanelUpdateStart
  refine .next ?_
  split
  · exact .refl _
  · exact .step (.refl _)

theorem execPanelFrameComplete_answers (s : State) : Answers s (exec .panelFrameComplete s) := by
  show Answers s (execPanelFrameComplete s)
  unfold execPanelFrameComplete
  refine .next ?_
  refine .ite (fun _ => ?_) fun _ => ?_
  · exact .refl _
  · extract_lets +onlyGivenNames y
    extract_lets +onlyGivenNames y
    extract_lets +onlyGivenNames y
    extract_lets +onlyGivenNames y
    extract_lets +onlyGivenNames y
    exact .step (.refl _)

theorem execPanelRailsOff_answers (s : State) : Answers s (exec .panelRailsOff s) := by
  show Answers s (execPanelRailsOff s)
  unfold execPanelRailsOff
  refine .next ?_
  refine .ite (fun _ => ?_) fun _ => ?_
  · exact .step (.refl _)
  · exact .refl _

theorem State.journalRedraw_keeps (s : State) : Keeps s (State.journalRedraw s) := by
  unfold State.journalRedraw
  refine .foldl (fun _ _ => ?_) ?_
  · extract_lets +onlyGivenNames y
    refine .ite (fun _ => ?_) fun _ => ?_
    · extract_lets +onlyGivenNames y
      extract_lets +onlyGivenNames y
      extract_lets +onlyGivenNames y
      refine .cut (x := y) (fun _ => ?_) ?_
      · clear_value y
        refine .ite (fun _ => ?_) fun _ => ?_
        · refine .trans ?_ (State.event_keeps ..)
          exact .step (by assumption)
        · assumption
      · subst y
        exact .step (.refl _)
    · exact .refl _
  · exact .refl _

theorem Keeps.setMem {s u : State} {c : Fin 11} {m : Memory} (h : Keeps s u) (w : s.Sound → m.wf = true) : Keeps s (u.setMem c m) :=
  ⟨h.pending, fun x => have y := h.sound x; ⟨⟨put_canonical y.gro.1 (w x), y.gro.2⟩, y.flow, y.host⟩⟩

theorem State.setQuality_keeps (s : State) (off : Nat) (q : BitVec 4) : Keeps s (State.setQuality s off q) := by
  unfold State.setQuality
  refine .ite (fun _ => ?_) fun _ => ?_
  · refine .setMem ?_ fun hm => ?_
    · exact .refl _
    · refine Memory.set_wf _ _ ?_
      exact hm.gro.1 _
  · refine .ite (fun _ => ?_) fun _ => ?_
    · refine .setMem ?_ fun hm => ?_
      · exact .refl _
      · refine Memory.set_wf _ _ ?_
        exact hm.gro.1 _
    · exact .step (.refl _)

theorem State.putForced_keeps (s : State) (off size value : Nat) (forced : Bool) : Keeps s (State.putForced s off size value forced) := by
  unfold State.putForced
  extract_lets +onlyGivenNames y
  extract_lets +onlyGivenNames y
  extract_lets +onlyGivenNames y
  refine .cut (x := y) (fun _ => ?_) ?_
  · clear_value y
    exact .trans (by assumption) (State.setQuality_keeps ..)
  · subst y
    refine .ite (fun _ => ?_) fun _ => ?_
    · refine .setMem ?_ fun hm => ?_
      · exact .refl _
      · refine Memory.set_wf _ _ ?_
        exact hm.gro.1 _
    · refine .setMem ?_ fun hm => ?_
      · exact .refl _
      · refine Memory.write_wf _ _ ?_
        exact hm.gro.1 _

theorem State.substitute_keeps (s : State) (off len : Nat) (f : ForceEntry) : Keeps s (State.substitute s off len f) := by
  unfold State.substitute
  split
  · refine .ite (fun _ => ?_) fun _ => ?_
    · extract_lets +onlyGivenNames y
      extract_lets +onlyGivenNames y
      refine .cut (x := y) (fun _ => ?_) ?_
      · clear_value y
        exact .step (by assumption)
      · subst y
        exact State.putForced_keeps ..
    · exact .refl _
  · exact .refl _

theorem State.pairSend_keeps (s : State) (m : PairMsg) : Keeps s (State.pairSend s m) := by
  unfold State.pairSend
  exact .step (.refl _)

theorem State.mirror_keeps (s : State) (m : PairMsg) : Keeps s (State.mirror s m) := by
  unfold State.mirror
  refine .ite (fun _ => ?_) fun _ => ?_
  · exact State.pairSend_keeps ..
  · exact .refl _

theorem State.noteLine_keeps (s : State) (c : Fin 11) (off : Nat) : Keeps s (State.noteLine s c off) := by
  unfold State.noteLine
  refine .ite (fun _ => ?_) fun _ => ?_
  · exact .step (.refl _)
  · exact .refl _

theorem State.noteForce_keeps (s : State) (session sev action : Nat) (f : ForceEntry) (old new : Nat) : Keeps s (State.noteForce s session sev action f old new) := by
  unfold State.noteForce
  extract_lets +onlyGivenNames y
  extract_lets +onlyGivenNames y
  refine .cut (x := y) (fun _ => ?_) ?_
  · clear_value y
    refine .ite (fun _ => ?_) fun _ => ?_
    · exact .trans (by assumption) (State.record_keeps ..)
    · assumption
  · subst y
    exact State.record_keeps ..

theorem State.setForces_keeps (s : State) (fs : List ForceEntry) : Keeps s (State.setForces s fs) := by
  unfold State.setForces
  extract_lets +onlyGivenNames y
  extract_lets +onlyGivenNames y
  extract_lets +onlyGivenNames y
  refine .cut (x := y) (fun _ => ?_) ?_
  · clear_value y
    refine .trans ?_ (State.mirror_keeps ..)
    refine .ite (fun _ => ?_) fun _ => ?_
    · assumption
    · exact .step (by assumption)
  · subst y
    exact .step (.refl _)

theorem State.tally_keeps (s : State) (rq : Request) (made : Bool) : Keeps s (State.tally s rq made) := by
  unfold State.tally
  extract_lets +onlyGivenNames y
  extract_lets +onlyGivenNames y
  extract_lets +onlyGivenNames y
  refine .cut (x := y) (fun _ => ?_) ?_
  · clear_value y
    split
    · exact .trans (by assumption) (State.reply_keeps ..)
    · assumption
  · subst y
    exact .step (.refl _)

theorem State.forceLost_keeps (s : State) (w p : ForcePending) : Keeps s (State.forceLost s w p) := by
  unfold State.forceLost
  refine .ite (fun _ => ?_) fun _ => ?_
  · exact State.tally_keeps ..
  · refine .trans ?_ (State.reply_keeps ..)
    exact State.noteRefusal_keeps ..

theorem State.setForce_keeps (s : State) (w : ForcePending) (value : BitVec 64) : Keeps s (State.setForce s w value) := by
  unfold State.setForce
  cases s.varOf w.handle with
  | none => exact Keeps.refl _
  | some d =>
    dsimp only
    cases s.forceOf w.handle with
    | none => exact (State.setForces_keeps ..).trans (State.noteForce_keeps ..)
    | some g => exact (State.setForces_keeps ..).trans (State.noteForce_keeps ..)

theorem State.releaseForce_keeps (s : State) (w : ForcePending) : Keeps s (State.releaseForce s w) := by
  unfold State.releaseForce
  split
  · exact .refl _
  · extract_lets +onlyGivenNames y
    refine .cut (x := y) (fun _ => ?_) ?_
    · clear_value y
      refine .trans ?_ (State.noteForce_keeps ..)
      exact .step (by assumption)
    · subst y
      exact State.setForces_keeps ..

theorem State.resolveBatch_keeps (s : State) (h : BitVec 32) : Keeps s (State.resolveBatch s h) := by
  unfold State.resolveBatch
  extract_lets +onlyGivenNames y
  split
  · exact .refl _
  · extract_lets +onlyGivenNames y
    extract_lets +onlyGivenNames y
    refine .cut (x := y) (fun _ => ?_) ?_
    · clear_value y
      extract_lets +onlyGivenNames y
      refine .cut (x := y) (fun _ => ?_) ?_
      · clear_value y
        extract_lets +onlyGivenNames y
        refine .cut (x := y) (fun _ => ?_) ?_
        · clear_value y
          refine .foldl (fun _ _ => ?_) ?_
          · exact State.forceLost_keeps ..
          · assumption
        · subst y
          refine .ite (fun _ => ?_) fun _ => ?_
          · exact .trans (by assumption) (State.tally_keeps ..)
          · exact .trans (by assumption) (State.reply_keeps ..)
      · subst y
        split
        · exact .trans (by assumption) (State.setForce_keeps ..)
        · exact .trans (by assumption) (State.releaseForce_keeps ..)
    · subst y
      exact .step (.refl _)

theorem State.beforeWrite_keeps (s : State) (off len : Nat) : Keeps s (State.beforeWrite s off len) := by
  unfold State.beforeWrite
  extract_lets +onlyGivenNames y
  extract_lets +onlyGivenNames y
  refine .cut (x := y) (fun _ => ?_) ?_
  · clear_value y
    exact .step (by assumption)
  · subst y
    refine .foldl (fun _ _ => ?_) ?_
    · exact State.resolveBatch_keeps ..
    · exact .refl _

theorem State.writeImage_keeps (s : State) (off : Nat) (bytes : List Byte) (q : BitVec 4) : Keeps s (State.writeImage s off bytes q) := by
  unfold State.writeImage
  extract_lets +onlyGivenNames y
  refine .cut (x := y) (fun _ => ?_) ?_
  · clear_value y
    extract_lets +onlyGivenNames y
    refine .cut (x := y) (fun _ => ?_) ?_
    · clear_value y
      extract_lets +onlyGivenNames y
      extract_lets +onlyGivenNames y
      refine .cut (x := y) (fun _ => ?_) ?_
      · clear_value y
        refine .foldl (fun _ _ => ?_) ?_
        · exact State.substitute_keeps ..
        · assumption
      · subst y
        exact .step (by assumption)
    · subst y
      refine .setMem ?_ fun hm => ?_
      · assumption
      · refine Memory.write_wf _ _ ?_
        exact (Keeps.sound (by assumption) hm).gro.1 _
  · subst y
    exact State.beforeWrite_keeps ..

theorem State.writeVal_keeps (s : State) (v : ImgVal) : Keeps s (State.writeVal s v) := by
  unfold State.writeVal
  refine .ite (fun _ => ?_) fun _ => ?_
  · exact State.writeImage_keeps ..
  · exact State.writeImage_keeps ..

theorem State.chamberEvent_keeps (s : State) (c : Fin 11) (f : ChamberStat → ChamberStat) : Keeps s (State.chamberEvent s c f) := by
  unfold State.chamberEvent
  exact .step (.refl _)

theorem State.writeRetain_keeps (s : State) (off : Nat) (bytes : List Byte) : Keeps s (State.writeRetain s off bytes) := by
  unfold State.writeRetain
  refine .ite (fun _ => ?_) fun _ => ?_
  · exact State.chamberEvent_keeps ..
  · extract_lets +onlyGivenNames y
    refine .cut (x := y) (fun _ => ?_) ?_
    · clear_value y
      refine .trans ?_ (State.mirror_keeps ..)
      refine .trans ?_ (State.noteLine_keeps ..)
      exact .step (by assumption)
    · subst y
      refine .setMem ?_ fun hm => ?_
      · exact .refl _
      · refine Memory.write_wf _ _ ?_
        exact hm.gro.1 _

theorem State.writeChamber_keeps (s : State) (c : Fin 11) (off : Nat) (bytes : List Byte) : Keeps s (State.writeChamber s c off bytes) := by
  unfold State.writeChamber
  refine .ite (fun _ => ?_) fun _ => ?_
  · exact State.writeRetain_keeps ..
  · refine .ite (fun _ => ?_) fun _ => ?_
    · exact State.writeImage_keeps ..
    · refine .trans ?_ (State.noteLine_keeps ..)
      refine .setMem ?_ fun hm => ?_
      · exact .refl _
      · refine Memory.write_wf _ _ ?_
        exact hm.gro.1 _

theorem State.canModes_keeps (s : State) : Keeps s (State.canModes s) := by
  unfold State.canModes
  exact .step (.refl _)

theorem State.canTakeover_keeps (s : State) : Keeps s (State.canTakeover s) := by
  unfold State.canTakeover
  refine .ite (fun _ => ?_) fun _ => ?_
  · exact .step (.refl _)
  · exact .refl _

theorem State.canStart_keeps (s : State) : Keeps s s.canStart := by
  unfold State.canStart
  extract_lets m m1 s1
  have h : Keeps s s1 := (Keeps.refl s).setMem fun x =>
    writes_wf (fun _ _ w => Memory.write_wf _ _ w) (writes_wf (fun _ _ w => writes_wf (fun _ _ w => Memory.write_wf _ _ w) w) (x.gro.1 5))
  clear_value s1
  exact (Keeps.step h).trans (State.canModes_keeps ..)

theorem cmdCfgChamberSet_keeps (rq : Request) (s : State) : Keeps s (cmdCfgChamberSet rq s) := by
  unfold cmdCfgChamberSet
  refine serve_keeps fun _ => ?_
  extract_lets +onlyGivenNames y
  split
  · exact .refuse
  · refine .refuseIf ?_
    exact .done (.step (.refl _))

theorem cmdCfgChamberGet_keeps (rq : Request) (s : State) : Keeps s (cmdCfgChamberGet rq s) := by
  unfold cmdCfgChamberGet
  refine serve_keeps fun _ => ?_
  split
  · exact .refuse
  · exact .done (.refl _)

theorem State.draws_keeps (n : Nat) (s : State) : Keeps s (State.draws n s).2 := by
  induction n generalizing s with
  | zero => exact Keeps.refl s
  | succ n ih => exact (State.draw_keeps s).trans (ih _)

theorem cmdDiagGrottoStatus_keeps (rq : Request) (s : State) : Keeps s (cmdDiagGrottoStatus rq s) := by
  unfold cmdDiagGrottoStatus
  refine serve_keeps fun _ => ?_
  split
  · rename_i eq
    have hp := Keeps.of_eq (State.draws_keeps ..) eq
    refine .done ?_
    assumption

theorem cmdDiagGrottoClear_keeps (rq : Request) (s : State) : Keeps s (cmdDiagGrottoClear rq s) := by
  unfold cmdDiagGrottoClear
  refine serve_keeps fun _ => ?_
  exact .done (.step (.refl _))

theorem execCfgChamberSet_answers (rq : Request) (s : State) : Answers s (exec (.cfgChamberSet rq) s) :=
  show Answers s (execCfgChamberSet rq s) from Answers.next (State.command_keeps s rq _ (cmdCfgChamberSet_keeps rq))

theorem execCfgChamberGet_answers (rq : Request) (s : State) : Answers s (exec (.cfgChamberGet rq) s) :=
  show Answers s (execCfgChamberGet rq s) from Answers.next (State.command_keeps s rq _ (cmdCfgChamberGet_keeps rq))

theorem execDiagGrottoStatus_answers (rq : Request) (s : State) : Answers s (exec (.diagGrottoStatus rq) s) :=
  show Answers s (execDiagGrottoStatus rq s) from Answers.next (State.command_keeps s rq _ (cmdDiagGrottoStatus_keeps rq))

theorem execDiagGrottoClear_answers (rq : Request) (s : State) : Answers s (exec (.diagGrottoClear rq) s) :=
  show Answers s (execDiagGrottoClear rq s) from Answers.next (State.command_keeps s rq _ (cmdDiagGrottoClear_keeps rq))

theorem execArbitrationWindowEnd_answers (s : State) : Answers s (exec .arbitrationWindowEnd s) := by
  show Answers s (execArbitrationWindowEnd s)
  unfold execArbitrationWindowEnd
  refine .next ?_
  exact .step (.refl _)

theorem State.dropForce_keeps (s : State) (f : ForceEntry) : Keeps s (State.dropForce s f) := by
  unfold State.dropForce
  extract_lets +onlyGivenNames y
  refine .cut (x := y) (fun _ => ?_) ?_
  · clear_value y
    refine .trans ?_ (State.noteForce_keeps ..)
    exact .trans (by assumption) (State.setForces_keeps ..)
  · subst y
    split
    · exact State.putForced_keeps ..
    · exact .refl _

theorem State.changeDone_keeps (s : State) (p : PkgInfo) : Keeps s (State.changeDone s p) := by
  unfold State.changeDone
  exact .step (.refl _)

theorem State.followForce_keeps (t : Fin 128) (s : State) (f : ForceEntry) : Keeps s (State.followForce t s f) := by
  unfold State.followForce
  split
  · refine .ite (fun _ => ?_) fun _ => ?_
    · exact State.putForced_keeps ..
    · exact .refl _
  · exact .refl _

theorem State.switchTask_keeps (s : State) (t : Fin 128) : Keeps s (State.switchTask s t) := by
  unfold State.switchTask
  split
  · exact .refl _
  · refine .ite (fun _ => ?_) fun _ => ?_
    · exact .refl _
    · extract_lets +onlyGivenNames y
      extract_lets +onlyGivenNames y
      extract_lets +onlyGivenNames y
      refine .cut (x := y) (fun _ => ?_) ?_
      · clear_value y
        extract_lets +onlyGivenNames y
        extract_lets +onlyGivenNames y
        extract_lets +onlyGivenNames y
        extract_lets +onlyGivenNames y
        extract_lets +onlyGivenNames y
        extract_lets +onlyGivenNames y
        refine .cut (x := y) (fun _ => ?_) ?_
        · clear_value y
          extract_lets +onlyGivenNames y
          extract_lets +onlyGivenNames y
          refine .cut (x := y) (fun _ => ?_) ?_
          · clear_value y
            extract_lets +onlyGivenNames y
            refine .cut (x := y) (fun _ => ?_) ?_
            · clear_value y
              refine .ite (fun _ => ?_) fun _ => ?_
              · exact .trans (by assumption) (State.changeDone_keeps ..)
              · assumption
            · subst y
              refine .foldl (fun _ _ => ?_) ?_
              · exact State.followForce_keeps ..
              · assumption
          · subst y
            refine .foldl (fun _ _ => ?_) ?_
            · exact State.writeChamber_keeps ..
            · assumption
        · subst y
          exact .step (by assumption)
      · subst y
        refine .foldl (fun _ _ => ?_) ?_
        · exact State.dropForce_keeps ..
        · exact .refl _

theorem State.noteSafeFault_keeps (s : State) (inst detail : Nat) : Keeps s (State.noteSafeFault s inst detail) := by
  unfold State.noteSafeFault
  exact State.event_keeps ..

theorem State.lineUp_keeps (s : State) (t : Fin 8) : Keeps s (State.lineUp s t) := by
  unfold State.lineUp
  exact .step (.refl _)

theorem State.setLines_keeps (s : State) : Keeps s (State.setLines s) := by
  unfold State.setLines
  extract_lets +onlyGivenNames y
  extract_lets +onlyGivenNames y
  extract_lets +onlyGivenNames y
  refine .cut (x := y) (fun _ => ?_) ?_
  · clear_value y
    refine .foldl (fun _ _ => ?_) ?_
    · exact State.lineUp_keeps ..
    · assumption
  · subst y
    exact .step (.refl _)

theorem State.abortTest_keeps (s : State) : Keeps s (State.abortTest s) := by
  unfold State.abortTest
  split
  · exact .refl _
  · extract_lets +onlyGivenNames y
    extract_lets +onlyGivenNames y
    extract_lets +onlyGivenNames y
    refine .cut (x := y) (fun _ => ?_) ?_
    · clear_value y
      exact .trans (by assumption) (State.event_keeps ..)
    · subst y
      exact .step (.refl _)

theorem State.motionKill_keeps (s : State) : Keeps s (State.motionKill s) := by
  unfold State.motionKill
  refine .trans ?_ (State.abortTest_keeps ..)
  exact State.stopAxes_keeps ..

theorem State.noteTrip_keeps (s : State) (old src count : Nat) : Keeps s (State.noteTrip s old src count) := by
  unfold State.noteTrip
  refine .trans ?_ (State.event_keeps ..)
  exact .step (.refl _)

theorem State.mirrorIsland_keeps (s : State) : Keeps s (State.mirrorIsland s) := by
  unfold State.mirrorIsland
  exact State.mirror_keeps ..

theorem State.evalMatrix_keeps (s : State) : Keeps s (State.evalMatrix s) := by
  unfold State.evalMatrix
  refine .ite (fun _ => ?_) fun _ => ?_
  · exact .refl _
  · split
    · exact State.setLines_keeps ..
    · extract_lets +onlyGivenNames y
      extract_lets +onlyGivenNames y
      extract_lets +onlyGivenNames y
      extract_lets +onlyGivenNames y
      extract_lets +onlyGivenNames y
      extract_lets +onlyGivenNames y
      extract_lets +onlyGivenNames y
      extract_lets +onlyGivenNames y
      refine .cut (x := y) (fun _ => ?_) ?_
      · clear_value y
        extract_lets +onlyGivenNames y
        refine .cut (x := y) (fun _ => ?_) ?_
        · clear_value y
          extract_lets +onlyGivenNames y
          refine .cut (x := y) (fun _ => ?_) ?_
          · clear_value y
            extract_lets +onlyGivenNames y
            refine .cut (x := y) (fun _ => ?_) ?_
            · clear_value y
              refine .ite (fun _ => ?_) fun _ => ?_
              · assumption
              · exact .trans (by assumption) (State.mirrorIsland_keeps ..)
            · subst y
              refine .ite (fun _ => ?_) fun _ => ?_
              · exact .trans (by assumption) (State.motionKill_keeps ..)
              · assumption
          · subst y
            exact .trans (by assumption) (State.setLines_keeps ..)
        · subst y
          refine .ite (fun _ => ?_) fun _ => ?_
          · assumption
          · exact .trans (by assumption) (State.noteTrip_keeps ..)
      · subst y
        exact .step (.refl _)

theorem State.killForRun_keeps (s : State) : Keeps s (State.killForRun s) := by
  unfold State.killForRun
  extract_lets +onlyGivenNames y
  refine .trans ?_ (State.mirrorIsland_keeps ..)
  extract_lets +onlyGivenNames y
  refine .cut (x := y) (fun _ => ?_) ?_
  · clear_value y
    exact .step (by assumption)
  · subst y
    exact State.killAll_keeps ..

theorem State.afterRest_keeps (s : State) : Keeps s (State.afterRest s) := by
  unfold State.afterRest
  refine .ite (fun _ => ?_) fun _ => ?_
  · exact .step (.refl _)
  · exact .refl _

theorem State.acceptSwap_keeps (s : State) (byReq : Bool) : Keeps s (State.acceptSwap s byReq) := by
  unfold State.acceptSwap
  refine .trans ?_ (State.afterRest_keeps ..)
  exact .step (.refl _)

theorem State.postponeSwap_keeps (s : State) (byReq : Bool) : Keeps s (State.postponeSwap s byReq) := by
  unfold State.postponeSwap
  extract_lets +onlyGivenNames y
  exact .step (.refl _)

theorem State.trySwap_keeps (s : State) (byReq : Bool) : Keeps s (State.trySwap s byReq) := by
  unfold State.trySwap
  refine .ite (fun _ => ?_) fun _ => ?_
  · exact State.postponeSwap_keeps ..
  · exact State.acceptSwap_keeps ..

theorem State.swapOnRequest_keeps (s : State) : Keeps s (State.swapOnRequest s) := by
  unfold State.swapOnRequest
  refine .ite (fun _ => ?_) fun _ => ?_
  · exact State.trySwap_keeps ..
  · exact .refl _

theorem State.dueSignatures_keeps (s : State) : Keeps s (State.dueSignatures s) := by
  unfold State.dueSignatures
  refine .ite (fun _ => ?_) fun _ => ?_
  · extract_lets +onlyGivenNames y
    refine .cut (x := y) (fun _ => ?_) ?_
    · clear_value y
      exact .step (by assumption)
    · subst y
      exact State.pairSend_keeps ..
  · exact .refl _

theorem State.fade_keeps (s : State) (cs : List (Fin 16)) (rising : Bool) : Keeps s (State.fade s cs rising) := by
  unfold State.fade
  exact .step (.refl _)

theorem State.letGo_keeps (s : State) (t : Fin 128) : Keeps s (State.letGo s t) := by
  unfold State.letGo
  split
  · extract_lets +onlyGivenNames y
    refine .cut (x := y) (fun _ => ?_) ?_
    · clear_value y
      exact .step (by assumption)
    · subst y
      exact State.fade_keeps ..

theorem State.idleTasks_keeps (s : State) (ts : List (Fin 128)) : Keeps s (State.idleTasks s ts) := by
  unfold State.idleTasks
  exact .step (.refl _)

theorem State.dropSamples_keeps (s : State) : Keeps s (State.dropSamples s) := by
  unfold State.dropSamples
  exact .step (.refl _)

theorem State.startHandover_keeps (s : State) : Keeps s (State.startHandover s) := by
  unfold State.startHandover
  refine .ite (fun _ => ?_) fun _ => ?_
  · extract_lets +onlyGivenNames y
    extract_lets +onlyGivenNames y
    refine .cut (x := y) (fun _ => ?_) ?_
    · clear_value y
      extract_lets +onlyGivenNames y
      refine .cut (x := y) (fun _ => ?_) ?_
      · clear_value y
        extract_lets +onlyGivenNames y
        refine .cut (x := y) (fun _ => ?_) ?_
        · clear_value y
          exact .step (by assumption)
        · subst y
          refine .trans ?_ (State.idleTasks_keeps ..)
          refine .trans ?_ (State.dropSamples_keeps ..)
          exact .trans (by assumption) (State.fade_keeps ..)
      · subst y
        refine .foldl (fun _ _ => ?_) ?_
        · exact State.letGo_keeps ..
        · assumption
    · subst y
      refine .trans ?_ (State.pairSend_keeps ..)
      exact State.pairSend_keeps ..
  · exact .refl _

theorem State.setTask_keeps (s : State) (t : Fin 128) (f : Task → Task) : Keeps s (State.setTask s t f) := by
  unfold State.setTask
  exact .step (.refl _)

theorem State.offLane_keeps (s : State) (t : Fin 128) : Keeps s (State.offLane s t) := by
  unfold State.offLane
  exact .step (.refl _)

theorem State.applyVar_keeps (s : State) (w : BitVec 32 × BitVec 64) : Keeps s (State.applyVar s w) := by
  unfold State.applyVar
  split
  · exact State.writeChamber_keeps ..
  · exact .refl _

theorem State.latch_keeps (s : State) (t : Fin 128) : Keeps s (State.latch s t) := by
  unfold State.latch
  extract_lets +onlyGivenNames y
  extract_lets +onlyGivenNames y
  extract_lets +onlyGivenNames y
  refine .cut (x := y) (fun _ => ?_) ?_
  · clear_value y
    extract_lets +onlyGivenNames y
    refine .cut (x := y) (fun _ => ?_) ?_
    · clear_value y
      exact .step (by assumption)
    · subst y
      refine .foldl (fun _ _ => ?_) ?_
      · exact State.applyVar_keeps ..
      · assumption
  · subst y
    exact State.setTask_keeps ..

theorem State.startOn_keeps (s : State) (t : Fin 128) (e : Fin 8) : Keeps s (State.startOn s t e) := by
  unfold State.startOn
  extract_lets +onlyGivenNames y
  extract_lets +onlyGivenNames y
  refine .cut (x := y) (fun _ => ?_) ?_
  · clear_value y
    extract_lets +onlyGivenNames y
    refine .cut (x := y) (fun _ => ?_) ?_
    · clear_value y
      exact .step (by assumption)
    · subst y
      exact .trans (by assumption) (State.setTask_keeps ..)
  · subst y
    refine .ite (fun _ => ?_) fun _ => ?_
    · refine .trans ?_ (State.latch_keeps ..)
      exact State.switchTask_keeps ..
    · exact .refl _

theorem State.preempt_keeps (s : State) (t : Fin 128) : Keeps s (State.preempt s t) := by
  unfold State.preempt
  refine .trans ?_ (State.offLane_keeps ..)
  exact State.setTask_keeps ..

theorem State.placeTask_keeps (s : State) (t : Fin 128) : Keeps s (State.placeTask s t) := by
  unfold State.placeTask
  extract_lets +onlyGivenNames y
  split
  · exact State.startOn_keeps ..
  · split
    · refine .ite (fun _ => ?_) fun _ => ?_
      · refine .trans ?_ (State.startOn_keeps ..)
        exact State.preempt_keeps ..
      · exact .refl _
    · exact .refl _

theorem State.dispatch_keeps (s : State) : Keeps s (State.dispatch s) := by
  unfold State.dispatch
  refine .ite (fun _ => ?_) fun _ => ?_
  · refine .foldl (fun _ _ => ?_) ?_
    · exact State.placeTask_keeps ..
    · exact .step (.refl _)
  · exact .refl _

theorem State.pairAlarm_keeps (s : State) : Keeps s (State.pairAlarm s) := by
  unfold State.pairAlarm
  exact State.event_keeps ..

theorem State.requestFailover_keeps (s : State) : Keeps s (State.requestFailover s) := by
  unfold State.requestFailover
  refine .ite (fun _ => ?_) fun _ => ?_
  · extract_lets +onlyGivenNames y
    refine .cut (x := y) (fun _ => ?_) ?_
    · clear_value y
      exact .step (by assumption)
    · subst y
      exact State.pairSend_keeps ..
  · exact State.pairAlarm_keeps ..

theorem State.rearmLink_keeps (s : State) (n : Fin 4) : Keeps s (State.rearmLink s n) := by
  unfold State.rearmLink
  extract_lets +onlyGivenNames y
  refine .ite (fun _ => ?_) fun _ => ?_
  · exact .step (.refl _)
  · exact .refl _

theorem State.noteOutput_keeps (s : State) (off len : Nat) : Keeps s (State.noteOutput s off len) := by
  unfold State.noteOutput
  refine .foldl (fun _ _ => ?_) ?_
  · refine .ite (fun _ => ?_) fun _ => ?_
    · exact State.rearmLink_keeps ..
    · exact .refl _
  · exact .refl _

theorem State.canStore_keeps (s : State) (c : Fin 4) (k : BitVec 16) (bytes : List Byte) : Keeps s (State.canStore s c k bytes) := by
  unfold State.canStore
  extract_lets +onlyGivenNames y
  extract_lets +onlyGivenNames y
  refine .cut (x := y) (fun _ => ?_) ?_
  · clear_value y
    extract_lets +onlyGivenNames y
    split
    · assumption
    · exact .step (by assumption)
  · subst y
    refine .setMem ?_ fun hm => ?_
    · exact .refl _
    · refine Memory.write_wf _ _ ?_
      exact hm.gro.1 _

theorem State.commitIsland_keeps (s : State) (v : SafeVal) : Keeps s (State.commitIsland s v) := by
  unfold State.commitIsland
  split
  · refine .trans ?_ (State.rearmLink_keeps ..)
    refine .trans ?_ (State.rearmLink_keeps ..)
    exact .step (.refl _)
  · exact .step (.refl _)
  · exact .step (.refl _)
  · exact .step (.refl _)

theorem State.publishOut_keeps (s : State) (t : Fin 128) (v : ImgVal) : Keeps s (State.publishOut s t v) := by
  unfold State.publishOut
  extract_lets +onlyGivenNames y
  refine .cut (x := y) (fun _ => ?_) ?_
  · clear_value y
    split
    · split
      · exact .trans (by assumption) (State.canStore_keeps ..)
      · assumption
    · assumption
  · subst y
    refine .trans ?_ (State.noteOutput_keeps ..)
    exact State.writeVal_keeps ..

theorem State.commit_keeps (s : State) (t : Fin 128) (outs : List ImgVal) (island : List SafeVal) : Keeps s (State.commit s t outs island) := by
  unfold State.commit
  extract_lets +onlyGivenNames y
  refine .cut (x := y) (fun _ => ?_) ?_
  · clear_value y
    extract_lets +onlyGivenNames y
    refine .cut (x := y) (fun _ => ?_) ?_
    · clear_value y
      extract_lets +onlyGivenNames y
      extract_lets +onlyGivenNames y
      extract_lets +onlyGivenNames y
      extract_lets +onlyGivenNames y
      extract_lets +onlyGivenNames y
      refine .cut (x := y) (fun _ => ?_) ?_
      · clear_value y
        refine .trans ?_ (State.dueSignatures_keeps ..)
        refine .trans ?_ (State.startHandover_keeps ..)
        exact .trans (by assumption) (State.mirror_keeps ..)
      · subst y
        exact .trans (by assumption) (State.setTask_keeps ..)
    · subst y
      refine .ite (fun _ => ?_) fun _ => ?_
      · assumption
      · refine .trans ?_ (State.evalMatrix_keeps ..)
        refine .foldl (fun _ _ => ?_) ?_
        · exact State.commitIsland_keeps ..
        · assumption
  · subst y
    refine .foldl (fun _ _ => ?_) ?_
    · exact State.publishOut_keeps ..
    · exact State.canTakeover_keeps ..

theorem State.missCommit_keeps (s : State) (t : Fin 128) : Keeps s (State.missCommit s t) := by
  unfold State.missCommit
  extract_lets +onlyGivenNames y
  refine .cut (x := y) (fun _ => ?_) ?_
  · clear_value y
    refine .ite (fun _ => ?_) fun _ => ?_
    · refine .foldl (fun _ _ => ?_) ?_
      · exact State.setQuality_keeps ..
      · assumption
    · assumption
  · subst y
    exact State.setTask_keeps ..

theorem State.commitSafe_keeps (s : State) (t : Fin 128) : Keeps s (State.commitSafe s t) := by
  unfold State.commitSafe
  split
  · exact State.commit_keeps ..
  · exact .refl _

theorem State.stopTask_keeps (s : State) (t : Fin 128) : Keeps s (State.stopTask s t) := by
  unfold State.stopTask
  refine .trans ?_ (State.offLane_keeps ..)
  exact State.setTask_keeps ..

theorem State.taskFault_keeps (s : State) (t : Fin 128) (mem : Bool) (failover : Bool) : Keeps s (State.taskFault s t mem failover) := by
  unfold State.taskFault
  extract_lets +onlyGivenNames y
  refine .cut (x := y) (fun _ => ?_) ?_
  · clear_value y
    extract_lets +onlyGivenNames y
    refine .cut (x := y) (fun _ => ?_) ?_
    · clear_value y
      extract_lets +onlyGivenNames y
      refine .cut (x := y) (fun _ => ?_) ?_
      · clear_value y
        refine .ite (fun _ => ?_) fun _ => ?_
        · exact .trans (by assumption) (State.requestFailover_keeps ..)
        · assumption
      · subst y
        exact .trans (by assumption) (State.event_keeps ..)
    · subst y
      exact .trans (by assumption) (State.setTask_keeps ..)
  · subst y
    refine .trans ?_ (State.commitSafe_keeps ..)
    exact State.stopTask_keeps ..

theorem State.makeReady_keeps (s : State) (t : Fin 128) : Keeps s (State.makeReady s t) := by
  unfold State.makeReady
  exact State.setTask_keeps ..

theorem State.runOutstanding_keeps (s : State) (t : Fin 128) : Keeps s (State.runOutstanding s t) := by
  unfold State.runOutstanding
  extract_lets +onlyGivenNames y
  refine .ite (fun _ => ?_) fun _ => ?_
  · refine .ite (fun _ => ?_) fun _ => ?_
    · exact State.makeReady_keeps ..
    · exact State.setTask_keeps ..
  · exact .refl _

theorem State.triggerTask_keeps (s : State) (t : Fin 128) : Keeps s (State.triggerTask s t) := by
  unfold State.triggerTask
  extract_lets +onlyGivenNames y
  refine .ite (fun _ => ?_) fun _ => ?_
  · exact .refl _
  · extract_lets +onlyGivenNames y
    extract_lets +onlyGivenNames y
    refine .cut (x := y) (fun _ => ?_) ?_
    · clear_value y
      refine .ite (fun _ => ?_) fun _ => ?_
      · exact .trans (by assumption) (State.setTask_keeps ..)
      · refine .trans ?_ (State.runOutstanding_keeps ..)
        exact .trans (by assumption) (State.setTask_keeps ..)
    · subst y
      exact State.setTask_keeps ..

theorem State.trigger_keeps (s : State) (src : Nat) (arg : Nat → Bool) : Keeps s (State.trigger s src arg) := by
  unfold State.trigger
  extract_lets +onlyGivenNames y
  refine .ite (fun _ => ?_) fun _ => ?_
  · exact .refl _
  · refine .trans ?_ (State.dispatch_keeps ..)
    refine .foldl (fun _ _ => ?_) ?_
    · exact State.triggerTask_keeps ..
    · exact .refl _

theorem State.levelChanged_keeps (s : State) : Keeps s (State.levelChanged s) := by
  unfold State.levelChanged
  extract_lets +onlyGivenNames y
  refine .trans ?_ (State.dispatch_keeps ..)
  refine .foldl (fun _ _ => ?_) ?_
  · exact State.runOutstanding_keeps ..
  · exact .refl _

theorem State.setMx_keeps (s : State) (n : Fin 8) (f : Axis → Axis) : Keeps s (State.setMx s n f) := by
  unfold State.setMx
  exact .step (.refl _)

theorem State.advanceAxis_keeps (s : State) (n : Fin 8) (us_ : Nat) : Keeps s (State.advanceAxis s n us_) := by
  unfold State.advanceAxis
  extract_lets +onlyGivenNames y
  split
  · exact State.setMx_keeps ..
  · split
    · exact State.setMx_keeps ..
    · extract_lets +onlyGivenNames y
      split
      · rename_i eq
        have hp := Keeps.of_eq (State.draw_keeps ..) eq
        extract_lets +onlyGivenNames y
        exact .trans (by assumption) (State.setMx_keeps ..)
    · exact State.setMx_keeps ..

theorem State.advanceAxes_keeps (s : State) : Keeps s (State.advanceAxes s) := by
  unfold State.advanceAxes
  extract_lets +onlyGivenNames y
  extract_lets +onlyGivenNames y
  refine .cut (x := y) (fun _ => ?_) ?_
  · clear_value y
    exact .step (by assumption)
  · subst y
    refine .foldl (fun _ _ => ?_) ?_
    · exact State.advanceAxis_keeps ..
    · exact .refl _

end Sys2Proof.Machine
end

