-- ==== Sys2Proof/Laws/KeepsField.lean ====
section
/-! SUPPORT. What the operations of the island, the field channels and their links keep. -/

namespace Sys2Proof.Machine

open Sys2Proof

set_option Elab.async false

theorem cmdSafeParamLoad_keeps (rq : Request) (s : State) : Keeps s (cmdSafeParamLoad rq s) := by
  unfold cmdSafeParamLoad
  refine serve_keeps fun s => ?_
  extract_lets x
  clear_value x
  refine Served.Keeps.refuseIf (Served.Keeps.refuseIf (Served.Keeps.done ?_))
  exact Keeps.step (Keeps.refl s)

theorem execSafeParamLoad_answers (rq : Request) (s : State) : Answers s (exec (.safeParamLoad rq) s) :=
  show Answers s (execSafeParamLoad rq s) from Answers.next (State.command_keeps s rq _ (cmdSafeParamLoad_keeps rq))

theorem cmdSafeParamRead_keeps (rq : Request) (s : State) : Keeps s (cmdSafeParamRead rq s) := by
  unfold cmdSafeParamRead
  refine serve_keeps fun _ => ?_
  refine .refuseIf ?_
  exact .done (.refl _)

theorem execSafeParamRead_answers (rq : Request) (s : State) : Answers s (exec (.safeParamRead rq) s) :=
  show Answers s (execSafeParamRead rq s) from Answers.next (State.command_keeps s rq _ (cmdSafeParamRead_keeps rq))

theorem cmdSafeSignOff_keeps (rq : Request) (s : State) : Keeps s (cmdSafeSignOff rq s) := by
  unfold cmdSafeSignOff
  refine serve_keeps fun _ => ?_
  split
  · exact .refuse
  · refine .refuseIf ?_
    extract_lets +onlyGivenNames y
    extract_lets +onlyGivenNames y
    extract_lets +onlyGivenNames y
    extract_lets +onlyGivenNames y
    refine .cut (x := y) (fun _ => ?_) ?_
    · clear_value y
      refine .done ?_
      refine .trans ?_ (State.evalMatrix_keeps ..)
      exact .trans (by assumption) (State.event_keeps ..)
    · subst y
      exact .step (.refl _)

theorem execSafeSignOff_answers (rq : Request) (s : State) : Answers s (exec (.safeSignOff rq) s) :=
  show Answers s (execSafeSignOff rq s) from Answers.next (State.command_keeps s rq _ (cmdSafeSignOff_keeps rq))

theorem cmdSafeStatus_keeps (rq : Request) (s : State) : Keeps s (cmdSafeStatus rq s) := by
  unfold cmdSafeStatus
  refine serve_keeps fun _ => ?_
  exact .done (.refl _)

theorem execSafeStatus_answers (rq : Request) (s : State) : Answers s (exec (.safeStatus rq) s) :=
  show Answers s (execSafeStatus rq s) from Answers.next (State.command_keeps s rq _ (cmdSafeStatus_keeps rq))

theorem cmdSafeClear_keeps (rq : Request) (s : State) : Keeps s (cmdSafeClear rq s) := by
  unfold cmdSafeClear
  refine serve_keeps fun _ => ?_
  exact .done (.step (.refl _))

theorem execSafeClear_answers (rq : Request) (s : State) : Answers s (exec (.safeClear rq) s) :=
  show Answers s (execSafeClear rq s) from Answers.next (State.command_keeps s rq _ (cmdSafeClear_keeps rq))

theorem State.islandFault_keeps (s : State) (c : FatalCause) : Keeps s (State.islandFault s c) := by
  unfold State.islandFault
  refine .trans ?_ (State.enterHalt_keeps ..)
  refine .trans ?_ (State.killAll_keeps ..)
  exact .step (.refl _)

theorem execChannelDisagree_answers (target : Fin 10) (s : State) : Answers s (exec (.channelDisagree target) s) := by
  show Answers s (execChannelDisagree target s)
  unfold execChannelDisagree
  refine .next ?_
  refine .ite (fun _ => ?_) fun _ => ?_
  · exact State.islandFault_keeps ..
  · exact .refl _

theorem execCopyDisagree_answers (s : State) : Answers s (exec .copyDisagree s) := by
  show Answers s (execCopyDisagree s)
  unfold execCopyDisagree
  refine .next ?_
  refine .ite (fun _ => ?_) fun _ => ?_
  · refine .trans ?_ (State.evalMatrix_keeps ..)
    exact .step (.refl _)
  · exact .refl _

theorem State.fieldKill_keeps (s : State) (line : Fin 8) : Keeps s (State.fieldKill s line) := by
  unfold State.fieldKill
  refine .ite (fun _ => ?_) fun _ => ?_
  · exact .step (.refl _)
  · exact .step (.refl _)

theorem State.testLines_keeps (s : State) (qlOk : BitVec 8) : Keeps s (State.testLines s qlOk) := by
  unfold State.testLines
  split
  · exact State.islandFault_keeps ..
  · extract_lets +onlyGivenNames y
    refine .cut (x := y) (fun _ => ?_) ?_
    · clear_value y
      extract_lets +onlyGivenNames y
      extract_lets +onlyGivenNames y
      extract_lets +onlyGivenNames y
      refine .cut (x := y) (fun _ => ?_) ?_
      · clear_value y
        exact .trans (by assumption) (State.setLines_keeps ..)
      · subst y
        exact .step (by assumption)
    · subst y
      refine .foldl (fun _ _ => ?_) ?_
      · exact State.fieldKill_keeps ..
      · exact .refl _

theorem execQlDailyTest_answers (qlOk : BitVec 8) (s : State) : Answers s (exec (.qlDailyTest qlOk) s) := by
  show Answers s (execQlDailyTest qlOk s)
  unfold execQlDailyTest
  refine .next ?_
  refine .ite (fun _ => ?_) fun _ => ?_
  · exact State.testLines_keeps ..
  · exact .refl _

theorem State.samplePairs_keeps (s : State) : Keeps s (State.samplePairs s) := by
  unfold State.samplePairs
  split
  · exact .step (.refl _)
  · exact .refl _

theorem State.setPair_keeps (s : State) (k : Fin 16) (f : SafePair → SafePair) : Keeps s (State.setPair s k f) := by
  unfold State.setPair
  exact .step (.refl _)

theorem execPairDemand_answers (pair : Fin 16) (chanB : Bool) (s : State) : Answers s (exec (.pairDemand pair chanB) s) := by
  show Answers s (execPairDemand pair chanB s)
  unfold execPairDemand
  extract_lets +onlyGivenNames y
  extract_lets +onlyGivenNames y
  split
  · refine .next ?_
    refine .ite (fun _ => ?_) fun _ => ?_
    · refine .trans ?_ (State.evalMatrix_keeps ..)
      exact State.setPair_keeps ..
    · exact .refl _

theorem execPairSourceClear_answers (pair : Fin 16) (s : State) : Answers s (exec (.pairSourceClear pair) s) := by
  show Answers s (execPairSourceClear pair s)
  unfold execPairSourceClear
  extract_lets +onlyGivenNames y
  extract_lets +onlyGivenNames y
  extract_lets +onlyGivenNames y
  refine .next ?_
  refine .ite (fun _ => ?_) fun _ => ?_
  · refine .trans ?_ (State.evalMatrix_keeps ..)
    exact State.setPair_keeps ..
  · exact .refl _

theorem State.latchPair_keeps (s : State) (k : Fin 16) (f : SafePair → SafePair) : Keeps s (State.latchPair s k f) := by
  unfold State.latchPair
  extract_lets +onlyGivenNames y
  extract_lets +onlyGivenNames y
  extract_lets +onlyGivenNames y
  refine .cut (x := y) (fun _ => ?_) ?_
  · clear_value y
    refine .ite (fun _ => ?_) fun _ => ?_
    · assumption
    · exact .trans (by assumption) (State.noteSafeFault_keeps ..)
  · subst y
    exact State.setPair_keeps ..

theorem execPairDiscFault_answers (pair : Fin 16) (s : State) : Answers s (exec (.pairDiscFault pair) s) := by
  show Answers s (execPairDiscFault pair s)
  unfold execPairDiscFault
  extract_lets +onlyGivenNames y
  refine .next ?_
  refine .ite (fun _ => ?_) fun _ => ?_
  · refine .trans ?_ (State.evalMatrix_keeps ..)
    exact State.latchPair_keeps ..
  · exact .refl _

theorem State.judgeSide_keeps (s : State) (x : SafetySet) (tp : Fin 2) (low : BitVec 32) (k : Fin 16) (chanB : Bool) : Keeps s (State.judgeSide s x tp low k chanB) := by
  unfold State.judgeSide
  extract_lets +onlyGivenNames y
  extract_lets +onlyGivenNames y
  extract_lets +onlyGivenNames y
  extract_lets +onlyGivenNames y
  extract_lets +onlyGivenNames y
  extract_lets +onlyGivenNames y
  refine .ite (fun _ => ?_) fun _ => ?_
  · exact .refl _
  · refine .ite (fun _ => ?_) fun _ => ?_
    · refine .ite (fun _ => ?_) fun _ => ?_
      · exact .refl _
      · refine .ite (fun _ => ?_) fun _ => ?_
        · exact State.setPair_keeps ..
        · refine .ite (fun _ => ?_) fun _ => ?_
          · exact State.latchPair_keeps ..
          · exact .refl _
    · refine .ite (fun _ => ?_) fun _ => ?_
      · exact State.latchPair_keeps ..
      · exact .refl _

theorem execTestPulse_answers (tp : Fin 2) (low : BitVec 32) (s : State) : Answers s (exec (.testPulse tp low) s) := by
  show Answers s (execTestPulse tp low s)
  unfold execTestPulse
  refine .next ?_
  split
  · refine .ite (fun _ => ?_) fun _ => ?_
    · refine .trans ?_ (State.evalMatrix_keeps ..)
      refine .trans ?_ (State.samplePairs_keeps ..)
      refine .foldl (fun _ _ => ?_) ?_
      · refine .trans ?_ (State.judgeSide_keeps ..)
        exact State.judgeSide_keeps ..
      · exact .refl _
    · exact .refl _
  · exact .refl _

theorem State.soReadback_keeps (s : State) (c : Fin 4) (band : BitVec 7) : Keeps s (State.soReadback s c band) := by
  unfold State.soReadback
  refine .ite (fun _ => ?_) fun _ => ?_
  · exact .refl _
  · extract_lets +onlyGivenNames y
    extract_lets +onlyGivenNames y
    exact .step (.refl _)

theorem State.soFail_keeps (s : State) (c : Fin 4) : Keeps s (State.soFail s c) := by
  unfold State.soFail
  refine .trans ?_ (State.evalMatrix_keeps ..)
  refine .trans ?_ (State.noteSafeFault_keeps ..)
  exact .step (.refl _)

theorem execSoBiasFault_answers (so : Fin 4) (s : State) : Answers s (exec (.soBiasFault so) s) := by
  show Answers s (execSoBiasFault so s)
  unfold execSoBiasFault
  refine .next ?_
  refine .ite (fun _ => ?_) fun _ => ?_
  · exact State.soFail_keeps ..
  · exact .refl _

theorem execSoOvercurrent_answers (so : Fin 4) (s : State) : Answers s (exec (.soOvercurrent so) s) := by
  show Answers s (execSoOvercurrent so s)
  unfold execSoOvercurrent
  refine .next ?_
  refine .ite (fun _ => ?_) fun _ => ?_
  · exact State.soFail_keeps ..
  · exact .refl _

theorem execSoLightTest_answers (so : Fin 4) (ok : Bool) (s : State) : Answers s (exec (.soLightTest so ok) s) := by
  show Answers s (execSoLightTest so ok s)
  unfold execSoLightTest
  extract_lets +onlyGivenNames y
  refine .next ?_
  refine .ite (fun _ => ?_) fun _ => ?_
  · extract_lets +onlyGivenNames y
    extract_lets +onlyGivenNames y
    refine .cut (x := y) (fun _ => ?_) ?_
    · clear_value y
      refine .ite (fun _ => ?_) fun _ => ?_
      · assumption
      · exact .trans (by assumption) (State.soFail_keeps ..)
    · subst y
      exact .step (.refl _)
  · exact .refl _

theorem execSoDarkTest_answers (so : Fin 4) (ok : Bool) (s : State) : Answers s (exec (.soDarkTest so ok) s) := by
  show Answers s (execSoDarkTest so ok s)
  unfold execSoDarkTest
  extract_lets +onlyGivenNames y
  refine .next ?_
  refine .ite (fun _ => ?_) fun _ => ?_
  · extract_lets +onlyGivenNames y
    extract_lets +onlyGivenNames y
    refine .cut (x := y) (fun _ => ?_) ?_
    · clear_value y
      refine .ite (fun _ => ?_) fun _ => ?_
      · assumption
      · exact .trans (by assumption) (State.soFail_keeps ..)
    · subst y
      exact .step (.refl _)
  · exact .refl _

theorem State.setSafeAxis_keeps (s : State) (n : Fin 8) (f : SafeAxis → SafeAxis) : Keeps s (State.setSafeAxis s n f) := by
  unfold State.setSafeAxis
  exact .step (.refl _)

theorem State.latchAxis_keeps (s : State) (n : Fin 8) : Keeps s (State.latchAxis s n) := by
  unfold State.latchAxis
  refine .ite (fun _ => ?_) fun _ => ?_
  · exact .refl _
  · refine .trans ?_ (State.noteSafeFault_keeps ..)
    exact State.setSafeAxis_keeps ..

theorem State.checkAxes_keeps (s : State) : Keeps s (State.checkAxes s) := by
  unfold State.checkAxes
  refine .ite (fun _ => ?_) fun _ => ?_
  · exact .refl _
  · refine .foldl (fun _ _ => ?_) ?_
    · refine .ite (fun _ => ?_) fun _ => ?_
      · exact State.latchAxis_keeps ..
      · exact .refl _
    · exact .refl _

theorem State.sampleAxes_keeps (s : State) (counts : Vector (BitVec 32) 8) : Keeps s (State.sampleAxes s counts) := by
  unfold State.sampleAxes
  extract_lets +onlyGivenNames y
  extract_lets +onlyGivenNames y
  refine .cut (x := y) (fun _ => ?_) ?_
  · clear_value y
    extract_lets +onlyGivenNames y
    extract_lets +onlyGivenNames y
    refine .cut (x := y) (fun _ => ?_) ?_
    · clear_value y
      refine .trans ?_ (State.evalMatrix_keeps ..)
      exact .trans (by assumption) (State.checkAxes_keeps ..)
    · subst y
      exact .step (by assumption)
  · subst y
    exact .step (.refl _)

theorem execSafetySourceAssert_answers (s : State) : Answers s (exec .safetySourceAssert s) := by
  show Answers s (execSafetySourceAssert s)
  unfold execSafetySourceAssert
  refine .next ?_
  refine .ite (fun _ => ?_) fun _ => ?_
  · refine .trans ?_ (State.evalMatrix_keeps ..)
    exact State.checkAxes_keeps ..
  · exact .refl _

theorem execEncoderQuadError_answers (enc : Fin 8) (s : State) : Answers s (exec (.encoderQuadError enc) s) := by
  show Answers s (execEncoderQuadError enc s)
  unfold execEncoderQuadError
  refine .next ?_
  refine .ite (fun _ => ?_) fun _ => ?_
  · extract_lets +onlyGivenNames y
    extract_lets +onlyGivenNames y
    refine .cut (x := y) (fun _ => ?_) ?_
    · clear_value y
      split
      · refine .trans ?_ (State.evalMatrix_keeps ..)
        refine .foldl (fun _ _ => ?_) ?_
        · exact State.latchAxis_keeps ..
        · assumption
      · assumption
    · subst y
      exact .step (.refl _)
  · exact .refl _

theorem execAxisDiscrepancy_answers (axis : Fin 8) (s : State) : Answers s (exec (.axisDiscrepancy axis) s) := by
  show Answers s (execAxisDiscrepancy axis s)
  unfold execAxisDiscrepancy
  refine .next ?_
  refine .ite (fun _ => ?_) fun _ => ?_
  · refine .trans ?_ (State.evalMatrix_keeps ..)
    exact State.latchAxis_keeps ..
  · exact .refl _

theorem execWdTaskExpire_answers (task : Fin 128) (s : State) : Answers s (exec (.wdTaskExpire task) s) := by
  show Answers s (execWdTaskExpire task s)
  unfold execWdTaskExpire
  refine .next ?_
  split
  · refine .ite (fun _ => ?_) fun _ => ?_
    · exact State.evalMatrix_keeps ..
    · exact .refl _
  · exact .refl _

theorem State.startTest_keeps (s : State) (c : Fin 4) : Keeps s (State.startTest s c) := by
  unfold State.startTest
  extract_lets +onlyGivenNames y
  extract_lets +onlyGivenNames y
  extract_lets +onlyGivenNames y
  extract_lets +onlyGivenNames y
  refine .cut (x := y) (fun _ => ?_) ?_
  · clear_value y
    split
    · exact .trans (by assumption) (State.setMx_keeps ..)
    · assumption
  · subst y
    exact .step (.refl _)

theorem cmdSafeBrakeTest_keeps (rq : Request) (s : State) : Keeps s (cmdSafeBrakeTest rq s) := by
  unfold cmdSafeBrakeTest
  refine serve_keeps fun _ => ?_
  split
  · exact .refuse
  · refine .refuseIf ?_
    exact .done (State.startTest_keeps ..)

theorem execSafeBrakeTest_answers (rq : Request) (s : State) : Answers s (exec (.safeBrakeTest rq) s) :=
  show Answers s (execSafeBrakeTest rq s) from Answers.next (State.command_keeps s rq _ (cmdSafeBrakeTest_keeps rq))

theorem State.endTest_keeps (s : State) (b : BrakeTest) : Keeps s (State.endTest s b) := by
  unfold State.endTest
  extract_lets +onlyGivenNames y
  extract_lets +onlyGivenNames y
  extract_lets +onlyGivenNames y
  extract_lets +onlyGivenNames y
  refine .cut (x := y) (fun _ => ?_) ?_
  · clear_value y
    extract_lets +onlyGivenNames y
    refine .cut (x := y) (fun _ => ?_) ?_
    · clear_value y
      extract_lets +onlyGivenNames y
      refine .cut (x := y) (fun _ => ?_) ?_
      · clear_value y
        refine .trans ?_ (State.evalMatrix_keeps ..)
        exact .trans (by assumption) (State.event_keeps ..)
      · subst y
        split
        · refine .ite (fun _ => ?_) fun _ => ?_
          · exact .trans (by assumption) (State.setSafeAxis_keeps ..)
          · exact .trans (by assumption) (State.latchAxis_keeps ..)
        · assumption
    · subst y
      split
      · exact .trans (by assumption) (State.setMx_keeps ..)
      · assumption
  · subst y
    exact .step (.refl _)

theorem execBrakeTestPhase_answers (s : State) : Answers s (exec .brakeTestPhase s) := by
  show Answers s (execBrakeTestPhase s)
  unfold execBrakeTestPhase
  refine .next ?_
  split
  · split
    · refine .ite (fun _ => ?_) fun _ => ?_
      · exact State.startTest_keeps ..
      · exact .refl _
    · exact .refl _
  · split
    · refine .ite (fun _ => ?_) fun _ => ?_
      · extract_lets +onlyGivenNames y
        refine .cut (x := y) (fun _ => ?_) ?_
        · clear_value y
          split
          · exact .step (by assumption)
          · exact .trans (by assumption) (State.endTest_keeps ..)
        · subst y
          exact State.advanceAxes_keeps ..
      · exact .refl _

theorem execBrakeTestDue_answers (so : Fin 4) (s : State) : Answers s (exec (.brakeTestDue so) s) := by
  show Answers s (execBrakeTestDue so s)
  unfold execBrakeTestDue
  extract_lets +onlyGivenNames y
  extract_lets +onlyGivenNames y
  refine .next ?_
  refine .ite (fun _ => ?_) fun _ => ?_
  · exact .step (.refl _)
  · exact .refl _

theorem execBrakeTestOverdue_answers (so : Fin 4) (s : State) : Answers s (exec (.brakeTestOverdue so) s) := by
  show Answers s (execBrakeTestOverdue so s)
  unfold execBrakeTestOverdue
  extract_lets +onlyGivenNames y
  extract_lets +onlyGivenNames y
  refine .next ?_
  refine .ite (fun _ => ?_) fun _ => ?_
  · refine .ite (fun _ => ?_) fun _ => ?_
    · refine .ite (fun _ => ?_) fun _ => ?_
      · refine .trans ?_ (State.event_keeps ..)
        exact .step (.refl _)
      · exact .refl _
    · split
      · refine .trans ?_ (State.evalMatrix_keeps ..)
        refine .trans ?_ (State.latchAxis_keeps ..)
        exact State.setSafeAxis_keeps ..
      · exact .refl _
  · exact .refl _

theorem State.clearLatches_keeps (s : State) : Keeps s (State.clearLatches s) := by
  unfold State.clearLatches
  extract_lets +onlyGivenNames y
  extract_lets +onlyGivenNames y
  refine .cut (x := y) (fun _ => ?_) ?_
  · clear_value y
    refine .foldl (fun _ _ => ?_) ?_
    · refine .ite (fun _ => ?_) fun _ => ?_
      · exact .refl _
      · exact State.setSafeAxis_keeps ..
    · assumption
  · subst y
    exact .step (.refl _)

theorem State.resetTargets_keeps (s : State) (mask : Nat) : Keeps s (s.resetTargets mask).1 := by
  unfold State.resetTargets
  cases s.validSet with
  | none => exact Keeps.refl s
  | some x =>
    dsimp only
    refine Keeps.trans ?_ (State.evalMatrix_keeps ..)
    exact Keeps.ite (fun _ => Keeps.step (Keeps.refl s)) fun _ => (Keeps.step (Keeps.refl s)).trans (State.mirrorIsland_keeps ..)

theorem cmdSafeReset_keeps (rq : Request) (s : State) : Keeps s (cmdSafeReset rq s) := by
  unfold cmdSafeReset
  refine serve_keeps fun s => Served.Keeps.refuseIf ?_
  have h := (State.clearLatches_keeps s).trans (State.resetTargets_keeps _ (rq.u16 0))
  generalize s.clearLatches.resetTargets (rq.u16 0) = p at h
  obtain ⟨t, freed, active⟩ := p
  dsimp only at h ⊢
  exact Served.Keeps.ite (fun _ => Served.Keeps.refuseIn h) fun _ => Served.Keeps.done h

theorem execSafeReset_answers (rq : Request) (s : State) : Answers s (exec (.safeReset rq) s) :=
  show Answers s (execSafeReset rq s) from Answers.next (State.command_keeps s rq _ (cmdSafeReset_keeps rq))

theorem State.sampleReset_keeps (s : State) (high : Bool) : Keeps s (State.sampleReset s high) := by
  unfold State.sampleReset
  split
  · refine .ite (fun _ => ?_) fun _ => ?_
    · exact .step (.refl _)
    · exact .refl _
  · refine .ite (fun _ => ?_) fun _ => ?_
    · exact .refl _
    · exact .step (.refl _)

theorem execResetDioPulse_answers (s : State) : Answers s (exec .resetDioPulse s) := by
  show Answers s (execResetDioPulse s)
  unfold execResetDioPulse
  refine .next ?_
  split
  · exact .refl _
  · extract_lets +onlyGivenNames y
    extract_lets +onlyGivenNames y
    refine .cut (x := y) (fun _ => ?_) ?_
    · clear_value y
      extract_lets +onlyGivenNames y
      refine .ite (fun _ => ?_) fun _ => ?_
      · exact .trans (by assumption) (State.event_keeps ..)
      · refine .ite (fun _ => ?_) fun _ => ?_
        · assumption
        · exact .trans (by assumption) (State.resetTargets_keeps ..)
    · subst y
      exact .step (.refl _)

theorem State.setSources_keeps (s : State) (n : Fin 4) : Keeps s (State.setSources s n) := by
  unfold State.setSources
  extract_lets +onlyGivenNames y
  exact .step (.refl _)

theorem State.supplyEvent_keeps (s : State) (sev : Nat) : Keeps s (State.supplyEvent s sev) := by
  unfold State.supplyEvent
  exact State.event_keeps ..

theorem State.setDio_keeps (s : State) (c : Fin 32) (f : DioField → DioField) : Keeps s (State.setDio s c f) := by
  unfold State.setDio
  exact .step (.refl _)

theorem execInputFilterPass_answers (c : Fin 32) (level : Bool) (s : State) : Answers s (exec (.inputFilterPass c level) s) := by
  show Answers s (execInputFilterPass c level s)
  unfold execInputFilterPass
  refine .next ?_
  refine .ite (fun _ => ?_) fun _ => ?_
  · exact State.setDio_keeps ..
  · exact .refl _

theorem execDioCurrentLimit_answers (c : Fin 32) (s : State) : Answers s (exec (.dioCurrentLimit c) s) := by
  show Answers s (execDioCurrentLimit c s)
  unfold execDioCurrentLimit
  refine .next ?_
  refine .ite (fun _ => ?_) fun _ => ?_
  · exact State.setDio_keeps ..
  · exact .refl _

theorem State.dioCount_keeps (s : State) (c : Fin 32) (f : DioStat → DioStat) : Keeps s (State.dioCount s c f) := by
  unfold State.dioCount
  exact .step (.refl _)

theorem execDioOverloadLatch_answers (c : Fin 32) (s : State) : Answers s (exec (.dioOverloadLatch c) s) := by
  show Answers s (execDioOverloadLatch c s)
  unfold execDioOverloadLatch
  refine .next ?_
  refine .ite (fun _ => ?_) fun _ => ?_
  · refine .trans ?_ (State.dioCount_keeps ..)
    exact State.setDio_keeps ..
  · exact .refl _

theorem execDioThermalShutdown_answers (c : Fin 32) (s : State) : Answers s (exec (.dioThermalShutdown c) s) := by
  show Answers s (execDioThermalShutdown c s)
  unfold execDioThermalShutdown
  refine .next ?_
  refine .ite (fun _ => ?_) fun _ => ?_
  · refine .trans ?_ (State.dioCount_keeps ..)
    exact State.setDio_keeps ..
  · exact .refl _

theorem execDioRetryExpire_answers (c : Fin 32) (s : State) : Answers s (exec (.dioRetryExpire c) s) := by
  show Answers s (execDioRetryExpire c s)
  unfold execDioRetryExpire
  extract_lets +onlyGivenNames y
  refine .next ?_
  refine .ite (fun _ => ?_) fun _ => ?_
  · exact State.setDio_keeps ..
  · exact .refl _

theorem execDioOpenWire_answers (c : Fin 32) (s : State) : Answers s (exec (.dioOpenWire c) s) := by
  show Answers s (execDioOpenWire c s)
  unfold execDioOpenWire
  refine .next ?_
  refine .ite (fun _ => ?_) fun _ => ?_
  · exact State.setDio_keeps ..
  · exact .refl _

theorem execDioExtFeed_answers (c : Fin 32) (s : State) : Answers s (exec (.dioExtFeed c) s) := by
  show Answers s (execDioExtFeed c s)
  unfold execDioExtFeed
  refine .next ?_
  refine .ite (fun _ => ?_) fun _ => ?_
  · exact State.setDio_keeps ..
  · exact .refl _

theorem execExtFeedSuppressEnd_answers (c : Fin 32) (s : State) : Answers s (exec (.extFeedSuppressEnd c) s) := by
  show Answers s (execExtFeedSuppressEnd c s)
  unfold execExtFeedSuppressEnd
  refine .next ?_
  refine .ite (fun _ => ?_) fun _ => ?_
  · exact .step (.refl _)
  · exact .refl _

theorem State.setField_keeps (s : State) (n : Fin 4) (f : FieldSide → FieldSide) : Keeps s (State.setField s n f) := by
  unfold State.setField
  exact .step (.refl _)

theorem State.setLink_keeps (s : State) (n : Fin 4) (f : Link → Link) : Keeps s (State.setLink s n f) := by
  unfold State.setLink
  exact .step (.refl _)

theorem execGroupFuseTrip_answers (grp : Fin 4) (s : State) : Answers s (exec (.groupFuseTrip grp) s) := by
  show Answers s (execGroupFuseTrip grp s)
  unfold execGroupFuseTrip
  refine .next ?_
  refine .ite (fun _ => ?_) fun _ => ?_
  · extract_lets +onlyGivenNames y
    extract_lets +onlyGivenNames y
    refine .cut (x := y) (fun _ => ?_) ?_
    · clear_value y
      extract_lets +onlyGivenNames y
      refine .cut (x := y) (fun _ => ?_) ?_
      · clear_value y
        exact .trans (by assumption) (State.event_keeps ..)
      · subst y
        exact .trans (by assumption) (State.setLink_keeps ..)
    · subst y
      exact State.setField_keeps ..
  · exact .refl _

theorem execSensFuseTrip_answers (grp : Fin 4) (s : State) : Answers s (exec (.sensFuseTrip grp) s) := by
  show Answers s (execSensFuseTrip grp s)
  unfold execSensFuseTrip
  refine .next ?_
  refine .ite (fun _ => ?_) fun _ => ?_
  · extract_lets +onlyGivenNames y
    refine .cut (x := y) (fun _ => ?_) ?_
    · clear_value y
      exact .trans (by assumption) (State.setLink_keeps ..)
    · subst y
      exact State.setField_keeps ..
  · exact .refl _

theorem execSensRetry_answers (grp : Fin 4) (clear : Bool) (s : State) : Answers s (exec (.sensRetry grp clear) s) := by
  show Answers s (execSensRetry grp clear s)
  unfold execSensRetry
  extract_lets +onlyGivenNames y
  refine .next ?_
  refine .ite (fun _ => ?_) fun _ => ?_
  · exact State.setField_keeps ..
  · exact .refl _

theorem execDownlinkFrameSend_answers (link : Fin 4) (s : State) : Answers s (exec (.downlinkFrameSend link) s) := by
  show Answers s (execDownlinkFrameSend link s)
  unfold execDownlinkFrameSend
  refine .next ?_
  refine .ite (fun _ => ?_) fun _ => ?_
  · extract_lets +onlyGivenNames y
    extract_lets +onlyGivenNames y
    exact .step (.refl _)
  · exact .refl _

theorem execDownlinkFrameApply_answers (link : Fin 4) (errors : BitVec 100) (s : State) : Answers s (exec (.downlinkFrameApply link errors) s) := by
  show Answers s (execDownlinkFrameApply link errors s)
  unfold execDownlinkFrameApply
  refine .next ?_
  split
  · exact .refl _
  · refine .ite (fun _ => ?_) fun _ => ?_
    · exact .refl _
    · extract_lets +onlyGivenNames y
      refine .cut (x := y) (fun _ => ?_) ?_
      · clear_value y
        extract_lets +onlyGivenNames y
        refine .cut (x := y) (fun _ => ?_) ?_
        · clear_value y
          extract_lets +onlyGivenNames y
          extract_lets +onlyGivenNames y
          refine .ite (fun _ => ?_) fun _ => ?_
          · extract_lets +onlyGivenNames y
            extract_lets +onlyGivenNames y
            refine .cut (x := y) (fun _ => ?_) ?_
            · clear_value y
              extract_lets +onlyGivenNames y
              refine .trans ?_ (State.setSources_keeps ..)
              exact .step (by assumption)
            · subst y
              exact .trans (by assumption) (State.setField_keeps ..)
          · exact .trans (by assumption) (State.setField_keeps ..)
        · subst y
          exact .step (by assumption)
      · subst y
        exact State.setLink_keeps ..

theorem execConfigPassComplete_answers (link : Fin 4) (s : State) : Answers s (exec (.configPassComplete link) s) := by
  show Answers s (execConfigPassComplete link s)
  unfold execConfigPassComplete
  extract_lets +onlyGivenNames y
  refine .next ?_
  refine .ite (fun _ => ?_) fun _ => ?_
  · refine .trans ?_ (State.setSources_keeps ..)
    exact State.setField_keeps ..
  · exact .refl _

theorem execFieldLinkLoss_answers (link : Fin 4) (s : State) : Answers s (exec (.fieldLinkLoss link) s) := by
  show Answers s (execFieldLinkLoss link s)
  unfold execFieldLinkLoss
  extract_lets +onlyGivenNames y
  refine .next ?_
  refine .ite (fun _ => ?_) fun _ => ?_
  · refine .trans ?_ (State.setSources_keeps ..)
    exact State.setField_keeps ..
  · exact .refl _

theorem execQlLineKill_answers (line : Fin 8) (s : State) : Answers s (exec (.qlLineKill line) s) := by
  show Answers s (execQlLineKill line s)
  unfold execQlLineKill
  refine .next ?_
  refine .ite (fun _ => ?_) fun _ => ?_
  · exact State.fieldKill_keeps ..
  · exact .refl _

theorem State.fieldSample_keeps (s : State) (n : Fin 4) (p : FieldSample) : Keeps s (State.fieldSample s n p) := by
  unfold State.fieldSample
  exact Keeps.congr (Keeps.refl s) rfl rfl rfl rfl rfl rfl rfl rfl

theorem State.notePartners_keeps (s : State) (n : Fin 4) : Keeps s (State.notePartners s n) := by
  unfold State.notePartners
  exact .step (.refl _)

theorem State.noteDiag_keeps (s : State) (c : Fin 32) (old new : BitVec 8) : Keeps s (State.noteDiag s c old new) := by
  unfold State.noteDiag
  extract_lets +onlyGivenNames y
  extract_lets +onlyGivenNames y
  extract_lets +onlyGivenNames y
  extract_lets +onlyGivenNames y
  refine .cut (x := y) (fun _ => ?_) ?_
  · clear_value y
    refine .ite (fun _ => ?_) fun _ => ?_
    · assumption
    · exact .trans (by assumption) (State.event_keeps ..)
  · subst y
    exact State.dioCount_keeps ..

theorem State.noteEdge_keeps (s : State) (c : Fin 32) (was : Bool) : Keeps s (State.noteEdge s c was) := by
  unfold State.noteEdge
  extract_lets +onlyGivenNames y
  refine .ite (fun _ => ?_) fun _ => ?_
  · exact .refl _
  · extract_lets +onlyGivenNames y
    refine .cut (x := y) (fun _ => ?_) ?_
    · clear_value y
      exact .trans (by assumption) (State.trigger_keeps ..)
    · subst y
      exact State.dioCount_keeps ..

theorem State.writeGroup_keeps (s : State) (n : Fin 4) (u : UplinkFrame) (fresh : Bool) : Keeps s (State.writeGroup s n u fresh) := by
  unfold State.writeGroup
  extract_lets +onlyGivenNames y
  extract_lets +onlyGivenNames y
  extract_lets +onlyGivenNames y
  extract_lets +onlyGivenNames y
  extract_lets +onlyGivenNames y
  extract_lets +onlyGivenNames y
  extract_lets +onlyGivenNames y
  refine .cut (x := y) (fun _ => ?_) ?_
  · clear_value y
    extract_lets +onlyGivenNames y
    refine .cut (x := y) (fun _ => ?_) ?_
    · clear_value y
      extract_lets +onlyGivenNames y
      extract_lets +onlyGivenNames y
      extract_lets +onlyGivenNames y
      refine .cut (x := y) (fun _ => ?_) ?_
      · clear_value y
        extract_lets +onlyGivenNames y
        refine .cut (x := y) (fun _ => ?_) ?_
        · clear_value y
          extract_lets +onlyGivenNames y
          refine .cut (x := y) (fun _ => ?_) ?_
          · clear_value y
            refine .ite (fun _ => ?_) fun _ => ?_
            · assumption
            · refine .foldl (fun _ _ => ?_) ?_
              · exact State.noteEdge_keeps ..
              · assumption
          · subst y
            refine .foldl (fun _ _ => ?_) ?_
            · exact State.noteDiag_keeps ..
            · assumption
        · subst y
          exact .trans (by assumption) (State.writeImage_keeps ..)
      · subst y
        exact .trans (by assumption) (State.setLink_keeps ..)
    · subst y
      exact .step (by assumption)
  · subst y
    exact .step (.refl _)

theorem State.takeSafety_keeps (s : State) (n : Fin 4) (u : UplinkFrame) : Keeps s (State.takeSafety s n u) := by
  unfold State.takeSafety
  extract_lets +onlyGivenNames y
  extract_lets +onlyGivenNames y
  refine .cut (x := y) (fun _ => ?_) ?_
  · clear_value y
    extract_lets +onlyGivenNames y
    extract_lets +onlyGivenNames y
    extract_lets +onlyGivenNames y
    refine .cut (x := y) (fun _ => ?_) ?_
    · clear_value y
      extract_lets +onlyGivenNames y
      refine .cut (x := y) (fun _ => ?_) ?_
      · clear_value y
        exact .trans (by assumption) (State.samplePairs_keeps ..)
      · subst y
        refine .ite (fun _ => ?_) fun _ => ?_
        · exact .trans (by assumption) (State.soReadback_keeps ..)
        · assumption
    · subst y
      refine .ite (fun _ => ?_) fun _ => ?_
      · refine .ite (fun _ => ?_) fun _ => ?_
        · exact .step (by assumption)
        · exact .step (by assumption)
      · assumption
  · subst y
    refine .ite (fun _ => ?_) fun _ => ?_
    · exact .step (.refl _)
    · exact .step (.refl _)

theorem State.takeReset_keeps (s : State) (n : Fin 4) (u : UplinkFrame) : Keeps s (State.takeReset s n u) := by
  unfold State.takeReset
  split
  · refine .ite (fun _ => ?_) fun _ => ?_
    · exact State.sampleReset_keeps ..
    · exact .refl _
  · exact .refl _

theorem State.takeVin_keeps (s : State) (n : Fin 4) (u : UplinkFrame) : Keeps s (State.takeVin s n u) := by
  unfold State.takeVin
  extract_lets +onlyGivenNames y
  extract_lets +onlyGivenNames y
  extract_lets +onlyGivenNames y
  exact .step (.refl _)

theorem State.takeUplink_keeps (s : State) (n : Fin 4) (u : UplinkFrame) : Keeps s (State.takeUplink s n u) := by
  unfold State.takeUplink
  extract_lets +onlyGivenNames y
  extract_lets +onlyGivenNames y
  extract_lets +onlyGivenNames y
  refine .cut (x := y) (fun _ => ?_) ?_
  · clear_value y
    extract_lets +onlyGivenNames y
    refine .cut (x := y) (fun _ => ?_) ?_
    · clear_value y
      refine .trans ?_ (State.evalMatrix_keeps ..)
      refine .trans ?_ (State.writeGroup_keeps ..)
      exact .trans (by assumption) (State.takeReset_keeps ..)
    · subst y
      refine .ite (fun _ => ?_) fun _ => ?_
      · refine .trans ?_ (State.takeSafety_keeps ..)
        exact .trans (by assumption) (State.takeVin_keeps ..)
      · assumption
  · subst y
    exact State.setLink_keeps ..

theorem execUplinkFrameReceive_answers (link : Fin 4) (f : FieldSample) (errors : BitVec 100) (s : State) : Answers s (exec (.uplinkFrameReceive link f errors) s) := by
  show Answers s (execUplinkFrameReceive link f errors s)
  unfold execUplinkFrameReceive
  refine .next ?_
  refine .ite (fun _ => ?_) fun _ => ?_
  · extract_lets +onlyGivenNames y
    refine .cut (x := y) (fun _ => ?_) ?_
    · clear_value y
      extract_lets +onlyGivenNames y
      extract_lets +onlyGivenNames y
      refine .cut (x := y) (fun _ => ?_) ?_
      · clear_value y
        extract_lets +onlyGivenNames y
        refine .ite (fun _ => ?_) fun _ => ?_
        · exact .trans (by assumption) (State.takeUplink_keeps ..)
        · exact .trans (by assumption) (State.setLink_keeps ..)
      · subst y
        exact .trans (by assumption) (State.setField_keeps ..)
    · subst y
      refine .trans ?_ (State.fieldSample_keeps ..)
      exact State.notePartners_keeps ..
  · exact .refl _

theorem State.reclass_keeps (s : State) (off : Nat) (q : BitVec 4) : Keeps s (State.reclass s off q) := by
  unfold State.reclass
  exact State.setQuality_keeps ..

theorem execLogicLinkLoss_answers (link : Fin 4) (s : State) : Answers s (exec (.logicLinkLoss link) s) := by
  show Answers s (execLogicLinkLoss link s)
  unfold execLogicLinkLoss
  extract_lets +onlyGivenNames y
  refine .next ?_
  refine .ite (fun _ => ?_) fun _ => ?_
  · extract_lets +onlyGivenNames y
    refine .cut (x := y) (fun _ => ?_) ?_
    · clear_value y
      extract_lets +onlyGivenNames y
      refine .cut (x := y) (fun _ => ?_) ?_
      · clear_value y
        extract_lets +onlyGivenNames y
        refine .cut (x := y) (fun _ => ?_) ?_
        · clear_value y
          extract_lets +onlyGivenNames y
          refine .cut (x := y) (fun _ => ?_) ?_
          · clear_value y
            extract_lets +onlyGivenNames y
            extract_lets +onlyGivenNames y
            refine .trans ?_ (State.evalMatrix_keeps ..)
            refine .trans ?_ (State.event_keeps ..)
            exact .step (by assumption)
          · subst y
            refine .setMem ?_ fun hm => ?_
            · assumption
            · refine Memory.set_wf _ _ ?_
              exact (Keeps.sound (by assumption) hm).gro.1 _
        · subst y
          refine .foldl (fun _ _ => ?_) ?_
          · exact State.reclass_keeps ..
          · assumption
      · subst y
        refine .foldl (fun _ _ => ?_) ?_
        · exact State.reclass_keeps ..
        · assumption
    · subst y
      exact State.setLink_keeps ..
  · exact .refl _

theorem execRearmComplete_answers (link : Fin 4) (s : State) : Answers s (exec (.rearmComplete link) s) := by
  show Answers s (execRearmComplete link s)
  unfold execRearmComplete
  extract_lets +onlyGivenNames y
  refine .next ?_
  refine .ite (fun _ => ?_) fun _ => ?_
  · exact State.setLink_keeps ..
  · exact .refl _

theorem cmdFioDioSet_keeps (rq : Request) (s : State) : Keeps s (cmdFioDioSet rq s) := by
  unfold cmdFioDioSet
  refine serve_keeps fun _ => ?_
  extract_lets +onlyGivenNames y
  split
  · exact .refuse
  · refine .refuseIf ?_
    exact .done (.step (.refl _))

theorem execFioDioSet_answers (rq : Request) (s : State) : Answers s (exec (.fioDioSet rq) s) :=
  show Answers s (execFioDioSet rq s) from Answers.next (State.command_keeps s rq _ (cmdFioDioSet_keeps rq))

theorem cmdFioDioGet_keeps (rq : Request) (s : State) : Keeps s (cmdFioDioGet rq s) := by
  unfold cmdFioDioGet
  refine serve_keeps fun _ => ?_
  split
  · exact .refuse
  · exact .done (.refl _)

theorem execFioDioGet_answers (rq : Request) (s : State) : Answers s (exec (.fioDioGet rq) s) :=
  show Answers s (execFioDioGet rq s) from Answers.next (State.command_keeps s rq _ (cmdFioDioGet_keeps rq))

theorem cmdFioDioStatus_keeps (rq : Request) (s : State) : Keeps s (cmdFioDioStatus rq s) := by
  unfold cmdFioDioStatus
  refine serve_keeps fun _ => ?_
  split
  · exact .refuse
  · extract_lets +onlyGivenNames y
    exact .done (.refl _)

theorem execFioDioStatus_answers (rq : Request) (s : State) : Answers s (exec (.fioDioStatus rq) s) :=
  show Answers s (execFioDioStatus rq s) from Answers.next (State.command_keeps s rq _ (cmdFioDioStatus_keeps rq))

theorem cmdFioGroupStatus_keeps (rq : Request) (s : State) : Keeps s (cmdFioGroupStatus rq s) := by
  unfold cmdFioGroupStatus
  refine serve_keeps fun _ => ?_
  split
  · exact .refuse
  · exact .done (.refl _)

theorem execFioGroupStatus_answers (rq : Request) (s : State) : Answers s (exec (.fioGroupStatus rq) s) :=
  show Answers s (execFioGroupStatus rq s) from Answers.next (State.command_keeps s rq _ (cmdFioGroupStatus_keeps rq))

theorem cmdFioGroupReset_keeps (rq : Request) (s : State) : Keeps s (cmdFioGroupReset rq s) := by
  unfold cmdFioGroupReset
  refine serve_keeps fun _ => ?_
  split
  · exact .refuse
  · extract_lets +onlyGivenNames y
    iterate 2 refine .refuseIf ?_
    extract_lets +onlyGivenNames y
    refine .cut (x := y) (fun _ => ?_) ?_
    · clear_value y
      refine .done ?_
      exact .trans (by assumption) (State.setLink_keeps ..)
    · subst y
      exact State.setField_keeps ..

theorem execFioGroupReset_answers (rq : Request) (s : State) : Answers s (exec (.fioGroupReset rq) s) :=
  show Answers s (execFioGroupReset rq s) from Answers.next (State.command_keeps s rq _ (cmdFioGroupReset_keeps rq))

theorem cmdFioDioUnlatch_keeps (rq : Request) (s : State) : Keeps s (cmdFioDioUnlatch rq s) := by
  unfold cmdFioDioUnlatch
  refine serve_keeps fun _ => ?_
  split
  · exact .refuse
  · iterate 2 refine .refuseIf ?_
    exact .done (State.setDio_keeps ..)

theorem execFioDioUnlatch_answers (rq : Request) (s : State) : Answers s (exec (.fioDioUnlatch rq) s) :=
  show Answers s (execFioDioUnlatch rq s) from Answers.next (State.command_keeps s rq _ (cmdFioDioUnlatch_keeps rq))

theorem State.clearDio_keeps (s : State) (c : Fin 32) : Keeps s (State.clearDio s c) := by
  unfold State.clearDio
  refine .trans ?_ (State.setLink_keeps ..)
  exact State.dioCount_keeps ..

theorem cmdFioDioClear_keeps (rq : Request) (s : State) : Keeps s (cmdFioDioClear rq s) := by
  unfold cmdFioDioClear
  refine serve_keeps fun _ => ?_
  refine .ite (fun _ => ?_) fun _ => ?_
  · refine .done ?_
    refine .foldl (fun _ _ => ?_) ?_
    · exact State.clearDio_keeps ..
    · exact .refl _
  · split
    · exact .refuse
    · exact .done (State.clearDio_keeps ..)

theorem execFioDioClear_answers (rq : Request) (s : State) : Answers s (exec (.fioDioClear rq) s) :=
  show Answers s (execFioDioClear rq s) from Answers.next (State.command_keeps s rq _ (cmdFioDioClear_keeps rq))

theorem State.setAio_keeps (s : State) (c : Fin 16) (f : Aio → Aio) : Keeps s (State.setAio s c f) := by
  unfold State.setAio
  exact .step (.refl _)

theorem execAioComplianceCompare_answers (c : Fin 16) (s : State) : Answers s (exec (.aioComplianceCompare c) s) := by
  show Answers s (execAioComplianceCompare c s)
  unfold execAioComplianceCompare
  extract_lets +onlyGivenNames y
  refine .next ?_
  refine .ite (fun _ => ?_) fun _ => ?_
  · extract_lets +onlyGivenNames y
    split
    · extract_lets +onlyGivenNames y
      refine .cut (x := y) (fun _ => ?_) ?_
      · clear_value y
        split
        · exact .trans (by assumption) (State.event_keeps ..)
        · assumption
      · subst y
        exact .step (.refl _)
  · exact .refl _

theorem execNe43FailTimer_answers (c : Fin 16) (s : State) : Answers s (exec (.ne43FailTimer c) s) := by
  show Answers s (execNe43FailTimer c s)
  unfold execNe43FailTimer
  extract_lets +onlyGivenNames y
  refine .next ?_
  refine .ite (fun _ => ?_) fun _ => ?_
  · exact State.setAio_keeps ..
  · exact .refl _

theorem execLoopShortDetect_answers (c : Fin 16) (s : State) : Answers s (exec (.loopShortDetect c) s) := by
  show Answers s (execLoopShortDetect c s)
  unfold execLoopShortDetect
  refine .next ?_
  refine .ite (fun _ => ?_) fun _ => ?_
  · exact State.setAio_keeps ..
  · exact .refl _

theorem execSrcFaultShutdown_answers (c : Fin 16) (s : State) : Answers s (exec (.srcFaultShutdown c) s) := by
  show Answers s (execSrcFaultShutdown c s)
  unfold execSrcFaultShutdown
  refine .next ?_
  refine .ite (fun _ => ?_) fun _ => ?_
  · refine .trans ?_ (State.setSources_keeps ..)
    exact State.setAio_keeps ..
  · exact .refl _

theorem execAdcSelfCheckFail_answers (c : Fin 16) (s : State) : Answers s (exec (.adcSelfCheckFail c) s) := by
  show Answers s (execAdcSelfCheckFail c s)
  unfold execAdcSelfCheckFail
  refine .next ?_
  refine .ite (fun _ => ?_) fun _ => ?_
  · exact State.setAio_keeps ..
  · exact .refl _

theorem cmdFioAioSet_keeps (rq : Request) (s : State) : Keeps s (cmdFioAioSet rq s) := by
  unfold cmdFioAioSet
  refine serve_keeps fun _ => ?_
  extract_lets +onlyGivenNames y
  split
  · exact .refuse
  · refine .refuseIf ?_
    exact .done (State.setAio_keeps ..)

theorem execFioAioSet_answers (rq : Request) (s : State) : Answers s (exec (.fioAioSet rq) s) :=
  show Answers s (execFioAioSet rq s) from Answers.next (State.command_keeps s rq _ (cmdFioAioSet_keeps rq))

theorem cmdFioAioGet_keeps (rq : Request) (s : State) : Keeps s (cmdFioAioGet rq s) := by
  unfold cmdFioAioGet
  refine serve_keeps fun _ => ?_
  split
  · exact .refuse
  · exact .done (.refl _)

theorem execFioAioGet_answers (rq : Request) (s : State) : Answers s (exec (.fioAioGet rq) s) :=
  show Answers s (execFioAioGet rq s) from Answers.next (State.command_keeps s rq _ (cmdFioAioGet_keeps rq))

theorem cmdFioAioStatus_keeps (rq : Request) (s : State) : Keeps s (cmdFioAioStatus rq s) := by
  unfold cmdFioAioStatus
  refine serve_keeps fun _ => ?_
  split
  · exact .refuse
  · extract_lets +onlyGivenNames y
    exact .done (.refl _)

theorem execFioAioStatus_answers (rq : Request) (s : State) : Answers s (exec (.fioAioStatus rq) s) :=
  show Answers s (execFioAioStatus rq s) from Answers.next (State.command_keeps s rq _ (cmdFioAioStatus_keeps rq))

theorem cmdFioAioTrimSet_keeps (rq : Request) (s : State) : Keeps s (cmdFioAioTrimSet rq s) := by
  unfold cmdFioAioTrimSet
  refine serve_keeps fun _ => ?_
  split
  · exact .refuse
  · extract_lets +onlyGivenNames y
    split
    · split
      · iterate 4 refine .refuseIf ?_
        extract_lets +onlyGivenNames y
        exact .done (State.setAio_keeps ..)

theorem execFioAioTrimSet_answers (rq : Request) (s : State) : Answers s (exec (.fioAioTrimSet rq) s) :=
  show Answers s (execFioAioTrimSet rq s) from Answers.next (State.command_keeps s rq _ (cmdFioAioTrimSet_keeps rq))

theorem cmdFioAioTrimGet_keeps (rq : Request) (s : State) : Keeps s (cmdFioAioTrimGet rq s) := by
  unfold cmdFioAioTrimGet
  refine serve_keeps fun _ => ?_
  split
  · exact .refuse
  · extract_lets +onlyGivenNames y
    refine .refuseIf ?_
    exact .done (.refl _)

theorem execFioAioTrimGet_answers (rq : Request) (s : State) : Answers s (exec (.fioAioTrimGet rq) s) :=
  show Answers s (execFioAioTrimGet rq s) from Answers.next (State.command_keeps s rq _ (cmdFioAioTrimGet_keeps rq))

theorem cmdFioAioTrimDrive_keeps (rq : Request) (s : State) : Keeps s (cmdFioAioTrimDrive rq s) := by
  unfold cmdFioAioTrimDrive
  refine serve_keeps fun _ => ?_
  split
  · exact .refuse
  · iterate 2 refine .refuseIf ?_
    refine .done ?_
    refine .trans ?_ (State.rearmLink_keeps ..)
    exact State.setAio_keeps ..

theorem execFioAioTrimDrive_answers (rq : Request) (s : State) : Answers s (exec (.fioAioTrimDrive rq) s) :=
  show Answers s (execFioAioTrimDrive rq s) from Answers.next (State.command_keeps s rq _ (cmdFioAioTrimDrive_keeps rq))

theorem cmdFioAioTrimRemove_keeps (rq : Request) (s : State) : Keeps s (cmdFioAioTrimRemove rq s) := by
  unfold cmdFioAioTrimRemove
  refine serve_keeps fun _ => ?_
  split
  · exact .refuse
  · refine .refuseIf ?_
    extract_lets +onlyGivenNames y
    exact .done (State.setAio_keeps ..)

theorem execFioAioTrimRemove_answers (rq : Request) (s : State) : Answers s (exec (.fioAioTrimRemove rq) s) :=
  show Answers s (execFioAioTrimRemove rq s) from Answers.next (State.command_keeps s rq _ (cmdFioAioTrimRemove_keeps rq))

theorem cmdFioAioClear_keeps (rq : Request) (s : State) : Keeps s (cmdFioAioClear rq s) := by
  unfold cmdFioAioClear
  refine serve_keeps fun _ => ?_
  refine .ite (fun _ => ?_) fun _ => ?_
  · exact .done (.step (.refl _))
  · split
    · exact .refuse
    · exact .done (State.setAio_keeps ..)

theorem execFioAioClear_answers (rq : Request) (s : State) : Answers s (exec (.fioAioClear rq) s) :=
  show Answers s (execFioAioClear rq s) from Answers.next (State.command_keeps s rq _ (cmdFioAioClear_keeps rq))

end Sys2Proof.Machine
end

