-- ==== Sys2Proof/Laws/KeepsTasks.lean ====
section
/-! SUPPORT. What the operations of tasks, lanes, the recorder and boot keep. -/

namespace Sys2Proof.Machine

open Sys2Proof

set_option Elab.async false

theorem cmdPrgTaskSet_keeps (rq : Request) (s : State) : Keeps s (cmdPrgTaskSet rq s) := by
  unfold cmdPrgTaskSet
  refine serve_keeps fun _ => ?_
  extract_lets +onlyGivenNames y
  split
  · refine .refuseIf ?_
    exact .done (State.setTask_keeps ..)
  · exact .refuse

theorem onTask_keeps {s : State} {n : Nat} {k : Fin 128 → Served} (h : ∀ i, (k i).Keeps s) : (onTask n k).Keeps s := by
  unfold onTask
  split
  · exact h _
  · exact Served.Keeps.refuse

theorem cmdPrgTaskGet_keeps (rq : Request) (s : State) : Keeps s (cmdPrgTaskGet rq s) := by
  unfold cmdPrgTaskGet
  refine serve_keeps fun _ => ?_
  refine onTask_keeps fun _ => ?_
  exact .done (.refl _)

theorem cmdPrgTaskStatus_keeps (rq : Request) (s : State) : Keeps s (cmdPrgTaskStatus rq s) := by
  unfold cmdPrgTaskStatus
  refine serve_keeps fun _ => ?_
  refine onTask_keeps fun _ => ?_
  exact .done (.refl _)

theorem cmdPrgTaskResume_keeps (rq : Request) (s : State) : Keeps s (cmdPrgTaskResume rq s) := by
  unfold cmdPrgTaskResume
  refine serve_keeps fun _ => ?_
  refine onTask_keeps fun _ => ?_
  extract_lets +onlyGivenNames y
  refine .refuseIf ?_
  refine .ite (fun _ => ?_) fun _ => ?_
  · exact .done (State.setTask_keeps ..)
  · exact .done (State.setTask_keeps ..)

theorem cmdPrgTaskClear_keeps (rq : Request) (s : State) : Keeps s (cmdPrgTaskClear rq s) := by
  unfold cmdPrgTaskClear
  refine serve_keeps fun _ => ?_
  refine .ite (fun _ => ?_) fun _ => ?_
  · exact .done (.step (.refl _))
  · refine onTask_keeps fun _ => ?_
    exact .done (State.setTask_keeps ..)

theorem cmdPrgRemoteSet_keeps (rq : Request) (s : State) : Keeps s (cmdPrgRemoteSet rq s) := by
  unfold cmdPrgRemoteSet
  refine serve_keeps fun _ => ?_
  extract_lets +onlyGivenNames y
  extract_lets +onlyGivenNames y
  refine .refuseIf ?_
  exact .done (.step (.refl _))

theorem cmdPrgRemoteStatus_keeps (rq : Request) (s : State) : Keeps s (cmdPrgRemoteStatus rq s) := by
  unfold cmdPrgRemoteStatus
  refine serve_keeps fun _ => ?_
  refine .refuseIf ?_
  split
  · exact .done (.refl _)
  · exact .done (.refl _)

theorem execPrgTaskSet_answers (rq : Request) (s : State) : Answers s (exec (.prgTaskSet rq) s) :=
  show Answers s (execPrgTaskSet rq s) from Answers.next (State.command_keeps s rq _ (cmdPrgTaskSet_keeps rq))

theorem execPrgTaskGet_answers (rq : Request) (s : State) : Answers s (exec (.prgTaskGet rq) s) :=
  show Answers s (execPrgTaskGet rq s) from Answers.next (State.command_keeps s rq _ (cmdPrgTaskGet_keeps rq))

theorem execPrgTaskStatus_answers (rq : Request) (s : State) : Answers s (exec (.prgTaskStatus rq) s) :=
  show Answers s (execPrgTaskStatus rq s) from Answers.next (State.command_keeps s rq _ (cmdPrgTaskStatus_keeps rq))

theorem execPrgTaskResume_answers (rq : Request) (s : State) : Answers s (exec (.prgTaskResume rq) s) :=
  show Answers s (execPrgTaskResume rq s) from Answers.next (State.command_keeps s rq _ (cmdPrgTaskResume_keeps rq))

theorem execPrgTaskClear_answers (rq : Request) (s : State) : Answers s (exec (.prgTaskClear rq) s) :=
  show Answers s (execPrgTaskClear rq s) from Answers.next (State.command_keeps s rq _ (cmdPrgTaskClear_keeps rq))

theorem execPrgRemoteSet_answers (rq : Request) (s : State) : Answers s (exec (.prgRemoteSet rq) s) :=
  show Answers s (execPrgRemoteSet rq s) from Answers.next (State.command_keeps s rq _ (cmdPrgRemoteSet_keeps rq))

theorem execPrgRemoteStatus_answers (rq : Request) (s : State) : Answers s (exec (.prgRemoteStatus rq) s) :=
  show Answers s (execPrgRemoteStatus rq s) from Answers.next (State.command_keeps s rq _ (cmdPrgRemoteStatus_keeps rq))

theorem State.setRemote_keeps (s : State) (a : BitVec 16) (f : Remote → Remote) : Keeps s (State.setRemote s a f) := by
  unfold State.setRemote
  exact .step (.refl _)

theorem State.remoteEvent_keeps (s : State) (sev : Nat) (a : BitVec 16) (old new : RemoteState) : Keeps s (State.remoteEvent s sev a old new) := by
  unfold State.remoteEvent
  exact State.event_keeps ..

theorem State.importData_keeps (s : State) (r : Remote) (epoch : BitVec 64) (obj : BitVec 16) (data : List Byte) : Keeps s (State.importData s r epoch obj data) := by
  unfold State.importData
  extract_lets +onlyGivenNames y
  extract_lets +onlyGivenNames y
  extract_lets +onlyGivenNames y
  refine .cut (x := y) (fun _ => ?_) ?_
  · clear_value y
    extract_lets +onlyGivenNames y
    extract_lets +onlyGivenNames y
    extract_lets +onlyGivenNames y
    refine .cut (x := y) (fun _ => ?_) ?_
    · clear_value y
      refine .ite (fun _ => ?_) fun _ => ?_
      · exact .trans (by assumption) (State.remoteEvent_keeps ..)
      · assumption
    · subst y
      exact .trans (by assumption) (State.setRemote_keeps ..)
  · subst y
    refine .foldl (fun _ _ => ?_) ?_
    · refine .ite (fun _ => ?_) fun _ => ?_
      · exact State.writeImage_keeps ..
      · exact .refl _
    · exact .refl _

theorem execRemoteAbsent_answers (station : BitVec 16) (s : State) : Answers s (exec (.remoteAbsent station) s) := by
  show Answers s (execRemoteAbsent station s)
  unfold execRemoteAbsent
  refine .next ?_
  split
  · refine .ite (fun _ => ?_) fun _ => ?_
    · extract_lets +onlyGivenNames y
      refine .cut (x := y) (fun _ => ?_) ?_
      · clear_value y
        extract_lets +onlyGivenNames y
        refine .cut (x := y) (fun _ => ?_) ?_
        · clear_value y
          exact .trans (by assumption) (State.remoteEvent_keeps ..)
        · subst y
          exact .trans (by assumption) (State.setRemote_keeps ..)
      · subst y
        refine .foldl (fun _ _ => ?_) ?_
        · exact State.setQuality_keeps ..
        · exact .refl _
    · exact .refl _
  · exact .refl _

theorem execRemoteValueStale_answers (station : BitVec 16) (obj : BitVec 16) (s : State) : Answers s (exec (.remoteValueStale station obj) s) := by
  show Answers s (execRemoteValueStale station obj s)
  unfold execRemoteValueStale
  refine .next ?_
  split
  · refine .foldl (fun _ _ => ?_) ?_
    · refine .ite (fun _ => ?_) fun _ => ?_
      · exact State.setQuality_keeps ..
      · exact .refl _
    · exact .refl _
  · exact .refl _

theorem execProcessDataSend_answers (task : Fin 128) (s : State) : Answers s (exec (.processDataSend task) s) := by
  show Answers s (execProcessDataSend task s)
  unfold execProcessDataSend
  refine .next ?_
  refine .ite (fun _ => ?_) fun _ => ?_
  · extract_lets +onlyGivenNames y
    refine .trans ?_ (State.sendFrames_keeps ..)
    exact State.setTask_keeps ..
  · exact .refl _

theorem State.countOverrun_keeps (s : State) (t : Fin 128) : Keeps s (State.countOverrun s t) := by
  unfold State.countOverrun
  exact State.setTask_keeps ..

theorem State.undo_keeps (s : State) (t : Fin 128) : Keeps s (State.undo s t) := by
  unfold State.undo
  refine .setMem ?_ fun hm => ?_
  · exact .refl _
  · refine writes_wf (fun _ _ hw => ?_) ?_
    · refine Memory.write_wf _ _ ?_
      assumption
    · exact hm.gro.1 _

theorem State.abandon_keeps (s : State) (t : Fin 128) : Keeps s (State.abandon s t) := by
  unfold State.abandon
  extract_lets +onlyGivenNames y
  refine .cut (x := y) (fun _ => ?_) ?_
  · clear_value y
    refine .trans ?_ (State.offLane_keeps ..)
    exact .trans (by assumption) (State.setTask_keeps ..)
  · subst y
    refine .ite (fun _ => ?_) fun _ => ?_
    · exact State.undo_keeps ..
    · exact .refl _

theorem State.commitRun_keeps (s : State) (t : Fin 128) (r : TaskRun) : Keeps s (State.commitRun s t r) := by
  unfold State.commitRun
  extract_lets +onlyGivenNames y
  refine .cut (x := y) (fun _ => ?_) ?_
  · clear_value y
    refine .foldl (fun _ _ => ?_) ?_
    · exact .step (.refl _)
    · assumption
  · subst y
    exact State.commit_keeps ..

theorem State.endEventRun_keeps (s : State) (t : Fin 128) : Keeps s (State.endEventRun s t) := by
  unfold State.endEventRun
  split
  · refine .trans ?_ (State.runOutstanding_keeps ..)
    refine .trans ?_ (State.setTask_keeps ..)
    exact State.commitRun_keeps ..
  · exact .refl _

theorem execBufferHoldExpire_answers (task : Fin 128) (s : State) : Answers s (exec (.bufferHoldExpire task) s) := by
  show Answers s (execBufferHoldExpire task s)
  unfold execBufferHoldExpire
  refine .next ?_
  extract_lets +onlyGivenNames y
  refine .ite (fun _ => ?_) fun _ => ?_
  · extract_lets +onlyGivenNames y
    refine .cut (x := y) (fun _ => ?_) ?_
    · clear_value y
      refine .ite (fun _ => ?_) fun _ => ?_
      · refine .trans ?_ (State.dispatch_keeps ..)
        exact .trans (by assumption) (State.endEventRun_keeps ..)
      · assumption
    · subst y
      exact State.setTask_keeps ..
  · exact .refl _

theorem execEvtLimitExpire_answers (task : Fin 128) (s : State) : Answers s (exec (.evtLimitExpire task) s) := by
  show Answers s (execEvtLimitExpire task s)
  unfold execEvtLimitExpire
  refine .next ?_
  extract_lets +onlyGivenNames y
  refine .ite (fun _ => ?_) fun _ => ?_
  · extract_lets +onlyGivenNames y
    refine .cut (x := y) (fun _ => ?_) ?_
    · clear_value y
      refine .ite (fun _ => ?_) fun _ => ?_
      · refine .trans ?_ (State.dispatch_keeps ..)
        exact .trans (by assumption) (State.taskFault_keeps ..)
      · refine .ite (fun _ => ?_) fun _ => ?_
        · refine .ite (fun _ => ?_) fun _ => ?_
          · refine .trans ?_ (State.dispatch_keeps ..)
            exact .trans (by assumption) (State.taskFault_keeps ..)
          · refine .trans ?_ (State.dispatch_keeps ..)
            refine .trans ?_ (State.runOutstanding_keeps ..)
            refine .trans ?_ (State.missCommit_keeps ..)
            exact .trans (by assumption) (State.abandon_keeps ..)
        · exact .trans (by assumption) (State.setTask_keeps ..)
    · subst y
      exact State.countOverrun_keeps ..
  · exact .refl _

theorem execMinGapExpire_answers (task : Fin 128) (s : State) : Answers s (exec (.minGapExpire task) s) := by
  show Answers s (execMinGapExpire task s)
  unfold execMinGapExpire
  refine .next ?_
  split
  · refine .ite (fun _ => ?_) fun _ => ?_
    · refine .trans ?_ (State.dispatch_keeps ..)
      exact State.runOutstanding_keeps ..
    · exact .refl _
  · exact .refl _

theorem State.setLane_keeps (s : State) (l : Fin 4) (f : LaneStat → LaneStat) : Keeps s (State.setLane s l f) := by
  unfold State.setLane
  exact .step (.refl _)

theorem onLane_keeps {s : State} {n : Nat} {k : Fin 4 → Served} (h : ∀ i, (k i).Keeps s) : (onLane n k).Keeps s := by
  unfold onLane
  split
  · exact h _
  · exact Served.Keeps.refuse

theorem cmdPrgLaneSplit_keeps (rq : Request) (s : State) : Keeps s (cmdPrgLaneSplit rq s) := by
  unfold cmdPrgLaneSplit
  refine serve_keeps fun _ => ?_
  refine onLane_keeps fun _ => ?_
  extract_lets +onlyGivenNames y
  iterate 2 refine .refuseIf ?_
  split
  · exact .refuse
  · refine .ite (fun _ => ?_) fun _ => ?_
    · exact .done (State.setLane_keeps ..)
    · exact .done (State.setLane_keeps ..)

theorem cmdPrgLaneJoin_keeps (rq : Request) (s : State) : Keeps s (cmdPrgLaneJoin rq s) := by
  unfold cmdPrgLaneJoin
  refine serve_keeps fun _ => ?_
  refine onLane_keeps fun _ => ?_
  refine .refuseIf ?_
  refine .ite (fun _ => ?_) fun _ => ?_
  · exact .done (State.setLane_keeps ..)
  · exact .done (State.setLane_keeps ..)

theorem cmdPrgLaneStatus_keeps (rq : Request) (s : State) : Keeps s (cmdPrgLaneStatus rq s) := by
  unfold cmdPrgLaneStatus
  refine serve_keeps fun _ => ?_
  refine onLane_keeps fun _ => ?_
  exact .done (.refl _)

theorem cmdPrgTemperStatus_keeps (rq : Request) (s : State) : Keeps s (cmdPrgTemperStatus rq s) := by
  unfold cmdPrgTemperStatus
  refine serve_keeps fun _ => ?_
  refine onTask_keeps fun _ => ?_
  refine .refuseIf ?_
  exact .done (.refl _)

theorem cmdPrgTemperClear_keeps (rq : Request) (s : State) : Keeps s (cmdPrgTemperClear rq s) := by
  unfold cmdPrgTemperClear
  refine serve_keeps fun _ => ?_
  refine .ite (fun _ => ?_) fun _ => ?_
  · exact .done (.step (.refl _))
  · refine onTask_keeps fun _ => ?_
    exact .done (.step (.refl _))

theorem cmdPrgVarRead_keeps (rq : Request) (s : State) : Keeps s (cmdPrgVarRead rq s) := by
  unfold cmdPrgVarRead
  refine serve_keeps fun _ => ?_
  extract_lets +onlyGivenNames y
  split
  · exact .refuse
  · refine .refuseIf ?_
    exact .done (.refl _)

theorem cmdPrgVarWrite_keeps (rq : Request) (s : State) : Keeps s (cmdPrgVarWrite rq s) := by
  unfold cmdPrgVarWrite
  refine serve_keeps fun _ => ?_
  extract_lets +onlyGivenNames y
  split
  · exact .refuse
  · iterate 3 refine .refuseIf ?_
    extract_lets +onlyGivenNames y
    refine .ite (fun _ => ?_) fun _ => ?_
    · exact .done (State.applyVar_keeps ..)
    · split
      · exact .done (State.setTask_keeps ..)
      · exact .done (.step (.refl _))

theorem cmdPrgBreakSet_keeps (rq : Request) (s : State) : Keeps s (cmdPrgBreakSet rq s) := by
  unfold cmdPrgBreakSet
  refine serve_keeps fun _ => ?_
  refine onTask_keeps fun _ => ?_
  extract_lets +onlyGivenNames y
  extract_lets +onlyGivenNames y
  iterate 2 refine .refuseIf ?_
  split
  · exact .refuse
  · exact .done (.step (.refl _))

theorem cmdPrgBreakClear_keeps (rq : Request) (s : State) : Keeps s (cmdPrgBreakClear rq s) := by
  unfold cmdPrgBreakClear
  refine serve_keeps fun _ => ?_
  split
  · exact .refuse
  · refine .refuseIf ?_
    exact .done (.step (.refl _))

theorem State.rearmBreak_keeps (s : State) (t : Fin 128) : Keeps s (State.rearmBreak s t) := by
  unfold State.rearmBreak
  split
  · extract_lets +onlyGivenNames y
    refine .cut (x := y) (fun _ => ?_) ?_
    · clear_value y
      exact .step (by assumption)
    · subst y
      exact State.setTask_keeps ..
  · exact .refl _

theorem cmdPrgBreakRelease_keeps (rq : Request) (s : State) : Keeps s (cmdPrgBreakRelease rq s) := by
  unfold cmdPrgBreakRelease
  refine serve_keeps fun _ => ?_
  refine onTask_keeps fun _ => ?_
  iterate 2 refine .refuseIf ?_
  extract_lets +onlyGivenNames y
  refine .cut (x := y) (fun _ => ?_) ?_
  · clear_value y
    refine .done ?_
    refine .trans ?_ (State.dispatch_keeps ..)
    exact .trans (by assumption) (State.runOutstanding_keeps ..)
  · subst y
    refine .trans ?_ (State.setTask_keeps ..)
    exact State.rearmBreak_keeps ..

theorem cmdPrgStep_keeps (rq : Request) (s : State) : Keeps s (cmdPrgStep rq s) := by
  unfold cmdPrgStep
  refine serve_keeps fun _ => ?_
  refine onTask_keeps fun _ => ?_
  iterate 3 refine .refuseIf ?_
  refine .done ?_
  refine .trans ?_ (State.dispatch_keeps ..)
  refine .trans ?_ (State.setTask_keeps ..)
  exact State.rearmBreak_keeps ..

theorem cmdPrgBreakStatus_keeps (rq : Request) (s : State) : Keeps s (cmdPrgBreakStatus rq s) := by
  unfold cmdPrgBreakStatus
  refine serve_keeps fun _ => ?_
  exact .done (.refl _)

theorem cmdPrgImageLoad_keeps (rq : Request) (s : State) : Keeps s (cmdPrgImageLoad rq s) := by
  unfold cmdPrgImageLoad
  refine serve_keeps fun _ => ?_
  extract_lets +onlyGivenNames y
  extract_lets +onlyGivenNames y
  refine .ite (fun _ => ?_) fun _ => ?_
  · exact .done (.step (.refl _))
  · refine .ite (fun _ => ?_) fun _ => ?_
    · exact .done (.step (.refl _))
    · exact .refuseIn (.step (.refl _))

theorem cmdPrgImageInfo_keeps (rq : Request) (s : State) : Keeps s (cmdPrgImageInfo rq s) := by
  unfold cmdPrgImageInfo
  refine serve_keeps fun _ => ?_
  exact .done (.refl _)

theorem execPrgLaneSplit_answers (rq : Request) (s : State) : Answers s (exec (.prgLaneSplit rq) s) :=
  show Answers s (execPrgLaneSplit rq s) from Answers.next (State.command_keeps s rq _ (cmdPrgLaneSplit_keeps rq))

theorem execPrgLaneJoin_answers (rq : Request) (s : State) : Answers s (exec (.prgLaneJoin rq) s) :=
  show Answers s (execPrgLaneJoin rq s) from Answers.next (State.command_keeps s rq _ (cmdPrgLaneJoin_keeps rq))

theorem execPrgLaneStatus_answers (rq : Request) (s : State) : Answers s (exec (.prgLaneStatus rq) s) :=
  show Answers s (execPrgLaneStatus rq s) from Answers.next (State.command_keeps s rq _ (cmdPrgLaneStatus_keeps rq))

theorem execPrgTemperStatus_answers (rq : Request) (s : State) : Answers s (exec (.prgTemperStatus rq) s) :=
  show Answers s (execPrgTemperStatus rq s) from Answers.next (State.command_keeps s rq _ (cmdPrgTemperStatus_keeps rq))

theorem execPrgTemperClear_answers (rq : Request) (s : State) : Answers s (exec (.prgTemperClear rq) s) :=
  show Answers s (execPrgTemperClear rq s) from Answers.next (State.command_keeps s rq _ (cmdPrgTemperClear_keeps rq))

theorem execPrgVarRead_answers (rq : Request) (s : State) : Answers s (exec (.prgVarRead rq) s) :=
  show Answers s (execPrgVarRead rq s) from Answers.next (State.command_keeps s rq _ (cmdPrgVarRead_keeps rq))

theorem execPrgVarWrite_answers (rq : Request) (s : State) : Answers s (exec (.prgVarWrite rq) s) :=
  show Answers s (execPrgVarWrite rq s) from Answers.next (State.command_keeps s rq _ (cmdPrgVarWrite_keeps rq))

theorem execPrgBreakSet_answers (rq : Request) (s : State) : Answers s (exec (.prgBreakSet rq) s) :=
  show Answers s (execPrgBreakSet rq s) from Answers.next (State.command_keeps s rq _ (cmdPrgBreakSet_keeps rq))

theorem execPrgBreakClear_answers (rq : Request) (s : State) : Answers s (exec (.prgBreakClear rq) s) :=
  show Answers s (execPrgBreakClear rq s) from Answers.next (State.command_keeps s rq _ (cmdPrgBreakClear_keeps rq))

theorem execPrgBreakRelease_answers (rq : Request) (s : State) : Answers s (exec (.prgBreakRelease rq) s) :=
  show Answers s (execPrgBreakRelease rq s) from Answers.next (State.command_keeps s rq _ (cmdPrgBreakRelease_keeps rq))

theorem execPrgStep_answers (rq : Request) (s : State) : Answers s (exec (.prgStep rq) s) :=
  show Answers s (execPrgStep rq s) from Answers.next (State.command_keeps s rq _ (cmdPrgStep_keeps rq))

theorem execPrgBreakStatus_answers (rq : Request) (s : State) : Answers s (exec (.prgBreakStatus rq) s) :=
  show Answers s (execPrgBreakStatus rq s) from Answers.next (State.command_keeps s rq _ (cmdPrgBreakStatus_keeps rq))

theorem execPrgImageLoad_answers (rq : Request) (s : State) : Answers s (exec (.prgImageLoad rq) s) :=
  show Answers s (execPrgImageLoad rq s) from Answers.next (State.command_keeps s rq _ (cmdPrgImageLoad_keeps rq))

theorem execPrgImageInfo_answers (rq : Request) (s : State) : Answers s (exec (.prgImageInfo rq) s) :=
  show Answers s (execPrgImageInfo rq s) from Answers.next (State.command_keeps s rq _ (cmdPrgImageInfo_keeps rq))

theorem State.setTemper_keeps (s : State) (t : Fin 128) (f : TemperStat → TemperStat) : Keeps s (State.setTemper s t f) := by
  unfold State.setTemper
  exact .step (.refl _)

theorem State.laneFault_keeps (s : State) (l : Fin 4) (t : Fin 128) : Keeps s (State.laneFault s l t) := by
  unfold State.laneFault
  extract_lets +onlyGivenNames y
  refine .cut (x := y) (fun _ => ?_) ?_
  · clear_value y
    extract_lets +onlyGivenNames y
    refine .cut (x := y) (fun _ => ?_) ?_
    · clear_value y
      extract_lets +onlyGivenNames y
      refine .cut (x := y) (fun _ => ?_) ?_
      · clear_value y
        extract_lets +onlyGivenNames y
        extract_lets +onlyGivenNames y
        refine .cut (x := y) (fun _ => ?_) ?_
        · clear_value y
          refine .ite (fun _ => ?_) fun _ => ?_
          · exact .trans (by assumption) (State.requestFailover_keeps ..)
          · assumption
        · subst y
          refine .foldl (fun _ _ => ?_) ?_
          · exact State.taskFault_keeps ..
          · assumption
      · subst y
        refine .foldl (fun _ _ => ?_) ?_
        · split
          · exact State.preempt_keeps ..
          · exact .refl _
        · assumption
    · subst y
      refine .trans ?_ (State.event_keeps ..)
      exact .trans (by assumption) (State.setLane_keeps ..)
  · subst y
    refine .trans ?_ (State.setTemper_keeps ..)
    exact State.taskFault_keeps ..

theorem State.mismatch_keeps (s : State) (t : Fin 128) (cp : BitVec 3) (lines : Nat) : Keeps s (State.mismatch s t cp lines) := by
  unfold State.mismatch
  extract_lets +onlyGivenNames y
  extract_lets +onlyGivenNames y
  extract_lets +onlyGivenNames y
  extract_lets +onlyGivenNames y
  extract_lets +onlyGivenNames y
  refine .cut (x := y) (fun _ => ?_) ?_
  · clear_value y
    extract_lets +onlyGivenNames y
    extract_lets +onlyGivenNames y
    refine .cut (x := y) (fun _ => ?_) ?_
    · clear_value y
      extract_lets +onlyGivenNames y
      refine .cut (x := y) (fun _ => ?_) ?_
      · clear_value y
        extract_lets +onlyGivenNames y
        refine .cut (x := y) (fun _ => ?_) ?_
        · clear_value y
          refine .ite (fun _ => ?_) fun _ => ?_
          · exact .trans (by assumption) (State.laneFault_keeps ..)
          · refine .ite (fun _ => ?_) fun _ => ?_
            · refine .trans ?_ (State.setTask_keeps ..)
              exact .trans (by assumption) (State.setTemper_keeps ..)
            · refine .trans ?_ (State.setTask_keeps ..)
              exact .trans (by assumption) (State.setTemper_keeps ..)
        · subst y
          exact .trans (by assumption) (State.event_keeps ..)
      · subst y
        exact .trans (by assumption) (State.setLane_keeps ..)
    · subst y
      exact .step (by assumption)
  · subst y
    exact State.setTemper_keeps ..

theorem execRestoreComplete_answers (task : Fin 128) (s : State) : Answers s (exec (.restoreComplete task) s) := by
  show Answers s (execRestoreComplete task s)
  unfold execRestoreComplete
  refine .next ?_
  extract_lets +onlyGivenNames y
  refine .ite (fun _ => ?_) fun _ => ?_
  · extract_lets +onlyGivenNames y
    refine .cut (x := y) (fun _ => ?_) ?_
    · clear_value y
      extract_lets +onlyGivenNames y
      refine .cut (x := y) (fun _ => ?_) ?_
      · clear_value y
        refine .ite (fun _ => ?_) fun _ => ?_
        · assumption
        · extract_lets +onlyGivenNames y
          refine .cut (x := y) (fun _ => ?_) ?_
          · clear_value y
            refine .ite (fun _ => ?_) fun _ => ?_
            · refine .trans ?_ (State.dispatch_keeps ..)
              refine .trans ?_ (State.runOutstanding_keeps ..)
              refine .trans ?_ (State.missCommit_keeps ..)
              exact .trans (by assumption) (State.setTask_keeps ..)
            · refine .trans ?_ (State.dispatch_keeps ..)
              exact .trans (by assumption) (State.setTask_keeps ..)
          · subst y
            refine .trans ?_ (State.offLane_keeps ..)
            exact .trans (by assumption) (State.setTask_keeps ..)
      · subst y
        exact .trans (by assumption) (State.setTask_keeps ..)
    · subst y
      refine .foldl (fun _ _ => ?_) ?_
      · exact State.writeRetain_keeps ..
      · exact State.undo_keeps ..
  · exact .refl _

theorem State.cruWrite_keeps (s : State) (w : CruWrite) : Keeps s (State.cruWrite s w) := by
  unfold State.cruWrite
  exact .step (.refl _)

theorem State.queueRecord_keeps (s : State) (t : Fin 128) (x : TaskRec) : Keeps s (State.queueRecord s t x) := by
  unfold State.queueRecord
  extract_lets +onlyGivenNames y
  refine .ite (fun _ => ?_) fun _ => ?_
  · exact .refl _
  · refine .ite (fun _ => ?_) fun _ => ?_
    · exact .step (.refl _)
    · exact State.setTask_keeps ..

theorem State.runStores_keeps (s : State) (t : Fin 128) (r : TaskRun) : Keeps s (State.runStores s t r) := by
  unfold State.runStores
  extract_lets +onlyGivenNames y
  refine .cut (x := y) (fun _ => ?_) ?_
  · clear_value y
    extract_lets +onlyGivenNames y
    refine .cut (x := y) (fun _ => ?_) ?_
    · clear_value y
      extract_lets +onlyGivenNames y
      refine .cut (x := y) (fun _ => ?_) ?_
      · clear_value y
        extract_lets +onlyGivenNames y
        refine .cut (x := y) (fun _ => ?_) ?_
        · clear_value y
          refine .foldl (fun _ _ => ?_) ?_
          · exact State.queueRecord_keeps ..
          · assumption
        · subst y
          refine .foldl (fun _ _ => ?_) ?_
          · exact State.cruWrite_keeps ..
          · assumption
      · subst y
        refine .foldl (fun _ _ => ?_) ?_
        · refine .setMem ?_ fun hm => ?_
          · exact .refl _
          · refine Memory.write_wf _ _ ?_
            exact hm.gro.1 _
        · assumption
    · subst y
      refine .foldl (fun _ _ => ?_) ?_
      · exact State.writeRetain_keeps ..
      · assumption
  · subst y
    refine .foldl (fun _ _ => ?_) ?_
    · refine .trans ?_ (State.mirror_keeps ..)
      exact State.writeChamber_keeps ..
    · exact .refl _

theorem State.noteRun_keeps (s : State) (t : Fin 128) (r : TaskRun) : Keeps s (State.noteRun s t r) := by
  unfold State.noteRun
  extract_lets +onlyGivenNames y
  extract_lets +onlyGivenNames y
  extract_lets +onlyGivenNames y
  refine .cut (x := y) (fun _ => ?_) ?_
  · clear_value y
    exact .trans (by assumption) (State.setTask_keeps ..)
  · subst y
    exact State.setTemper_keeps ..

theorem State.finishRun_keeps (s : State) (t : Fin 128) (r : TaskRun) : Keeps s (State.finishRun s t r) := by
  unfold State.finishRun
  extract_lets +onlyGivenNames y
  refine .cut (x := y) (fun _ => ?_) ?_
  · clear_value y
    extract_lets +onlyGivenNames y
    refine .cut (x := y) (fun _ => ?_) ?_
    · clear_value y
      refine .ite (fun _ => ?_) fun _ => ?_
      · exact .trans (by assumption) (State.endEventRun_keeps ..)
      · assumption
    · subst y
      refine .trans ?_ (State.offLane_keeps ..)
      exact .trans (by assumption) (State.setTask_keeps ..)
  · subst y
    exact State.runStores_keeps ..

theorem execTaskFinish_answers (task : Fin 128) (run : TaskRun) (s : State) : Answers s (exec (.taskFinish task run) s) := by
  show Answers s (execTaskFinish task run s)
  unfold execTaskFinish
  refine .next ?_
  extract_lets +onlyGivenNames v1
  refine .ite (fun _ => ?_) fun _ => ?_
  · extract_lets +onlyGivenNames v2
    extract_lets +onlyGivenNames v3
    refine .cut (x := v3) (fun _ => ?_) ?_
    · clear_value v3
      clear_value v2
      split
      · extract_lets +onlyGivenNames v4
        extract_lets +onlyGivenNames v5
        refine .cut (x := v5) (fun _ => ?_) ?_
        · clear_value v5
          refine .trans ?_ (State.dispatch_keeps ..)
          refine .trans ?_ (State.mismatch_keeps ..)
          refine .foldl (fun _ _ => ?_) ?_
          · exact State.queueRecord_keeps ..
          · assumption
        · subst v5
          exact .step (by assumption)
      · refine .trans ?_ (State.dispatch_keeps ..)
        exact .trans (by assumption) (State.finishRun_keeps ..)
    · subst v3
      refine .ite (fun _ => ?_) fun _ => ?_
      · exact State.noteRun_keeps ..
      · exact .refl _
  · exact .refl _

theorem execBreakpointHit_answers (brk : Fin 16) (s : State) : Answers s (exec (.breakpointHit brk) s) := by
  show Answers s (execBreakpointHit brk s)
  unfold execBreakpointHit
  refine .next ?_
  extract_lets +onlyGivenNames y
  split
  · refine .ite (fun _ => ?_) fun _ => ?_
    · extract_lets +onlyGivenNames y
      extract_lets +onlyGivenNames y
      refine .cut (x := y) (fun _ => ?_) ?_
      · clear_value y
        extract_lets +onlyGivenNames y
        refine .cut (x := y) (fun _ => ?_) ?_
        · clear_value y
          extract_lets +onlyGivenNames y
          refine .cut (x := y) (fun _ => ?_) ?_
          · clear_value y
            exact .trans (by assumption) (State.dispatch_keeps ..)
          · subst y
            refine .ite (fun _ => ?_) fun _ => ?_
            · exact .trans (by assumption) (State.commitSafe_keeps ..)
            · assumption
        · subst y
          refine .trans ?_ (State.offLane_keeps ..)
          exact .trans (by assumption) (State.setTask_keeps ..)
      · subst y
        exact .step (.refl _)
    · exact .refl _
  · exact .refl _

theorem execStepComplete_answers (task : Fin 128) (ofs : BitVec 32) (s : State) : Answers s (exec (.stepComplete task ofs) s) := by
  show Answers s (execStepComplete task ofs s)
  unfold execStepComplete
  refine .next ?_
  extract_lets +onlyGivenNames y
  refine .ite (fun _ => ?_) fun _ => ?_
  · refine .trans ?_ (State.dispatch_keeps ..)
    refine .trans ?_ (State.offLane_keeps ..)
    exact State.setTask_keeps ..
  · exact .refl _

theorem execJtagWrite_answers (handle : BitVec 32) (value : BitVec 64) (s : State) : Answers s (exec (.jtagWrite handle value) s) := by
  show Answers s (execJtagWrite handle value s)
  unfold execJtagWrite
  refine .next ?_
  split
  · extract_lets +onlyGivenNames y
    refine .cut (x := y) (fun _ => ?_) ?_
    · clear_value y
      split
      · refine .ite (fun _ => ?_) fun _ => ?_
        · exact .step (by assumption)
        · assumption
      · assumption
    · subst y
      exact State.writeChamber_keeps ..
  · exact .refl _

theorem cmdFlowSet_keeps (rq : Request) (s : State) : Keeps s (cmdFlowSet rq s) := by
  unfold cmdFlowSet
  refine serve_keeps fun _ => ?_
  extract_lets +onlyGivenNames y
  refine .refuseIf ?_
  exact .done (.step (.refl _))

theorem cmdFlowGet_keeps (rq : Request) (s : State) : Keeps s (cmdFlowGet rq s) := by
  unfold cmdFlowGet
  refine serve_keeps fun _ => ?_
  exact .done (.refl _)

theorem cmdFlowFlush_keeps (rq : Request) (s : State) : Keeps s (cmdFlowFlush rq s) := by
  unfold cmdFlowFlush
  refine serve_keeps fun s => Served.Keeps.later ?_
  exact (Keeps.step (u := s) (flow := { s.flow with flushRqsNext := s.flow.flushRqsNext ++ [rq] }) (Keeps.refl s)).trans (State.flushTrigger_keeps _)

theorem cmdFlowStatus_keeps (rq : Request) (s : State) : Keeps s (cmdFlowStatus rq s) := by
  unfold cmdFlowStatus
  refine serve_keeps fun _ => ?_
  exact .done (.refl _)

theorem cmdFlowRead_keeps (rq : Request) (s : State) : Keeps s (cmdFlowRead rq s) := by
  unfold cmdFlowRead
  refine serve_keeps fun _ => ?_
  extract_lets +onlyGivenNames y
  extract_lets +onlyGivenNames y
  extract_lets +onlyGivenNames y
  refine .refuseIf ?_
  extract_lets +onlyGivenNames y
  exact .done (.refl _)

theorem State.exportCall_keeps (s : State) (e : Export) : (State.exportCall s e).Keeps s := by
  unfold State.exportCall
  extract_lets +onlyGivenNames y
  extract_lets +onlyGivenNames y
  extract_lets +onlyGivenNames y
  exact .done (.step (.refl _))

theorem cmdFlowExport_keeps (rq : Request) (s : State) : Keeps s (cmdFlowExport rq s) := by
  unfold cmdFlowExport
  refine serve_keeps fun _ => ?_
  refine .refuseIf ?_
  split
  · refine .refuseIf ?_
    refine State.exportCall_keeps ..
  · refine .refuseIf ?_
    refine .ite (fun _ => ?_) fun _ => ?_
    · refine State.exportCall_keeps ..
    · exact .refuseIn (.step (.refl _))

theorem cmdFlowClear_keeps (rq : Request) (s : State) : Keeps s (cmdFlowClear rq s) := by
  unfold cmdFlowClear
  refine serve_keeps fun _ => ?_
  exact .done (.step (.refl _))

theorem cmdFlowNote_keeps (rq : Request) (s : State) : Keeps s (cmdFlowNote rq s) := by
  unfold cmdFlowNote
  refine serve_keeps fun _ => ?_
  refine .refuseIf ?_
  extract_lets +onlyGivenNames y
  split
  · extract_lets +onlyGivenNames y
    refine .cut (x := y) (fun _ => ?_) ?_
    · clear_value y
      refine .done ?_
      assumption
    · subst y
      exact State.stageAt_keeps ..
  · exact .done (.step (.refl _))

theorem execFlowSet_answers (rq : Request) (s : State) : Answers s (exec (.flowSet rq) s) :=
  show Answers s (execFlowSet rq s) from Answers.next (State.command_keeps s rq _ (cmdFlowSet_keeps rq))

theorem execFlowGet_answers (rq : Request) (s : State) : Answers s (exec (.flowGet rq) s) :=
  show Answers s (execFlowGet rq s) from Answers.next (State.command_keeps s rq _ (cmdFlowGet_keeps rq))

theorem execFlowFlush_answers (rq : Request) (s : State) : Answers s (exec (.flowFlush rq) s) :=
  show Answers s (execFlowFlush rq s) from Answers.next (State.command_keeps s rq _ (cmdFlowFlush_keeps rq))

theorem execFlowStatus_answers (rq : Request) (s : State) : Answers s (exec (.flowStatus rq) s) :=
  show Answers s (execFlowStatus rq s) from Answers.next (State.command_keeps s rq _ (cmdFlowStatus_keeps rq))

theorem execFlowRead_answers (rq : Request) (s : State) : Answers s (exec (.flowRead rq) s) :=
  show Answers s (execFlowRead rq s) from Answers.next (State.command_keeps s rq _ (cmdFlowRead_keeps rq))

theorem execFlowExport_answers (rq : Request) (s : State) : Answers s (exec (.flowExport rq) s) :=
  show Answers s (execFlowExport rq s) from Answers.next (State.command_keeps s rq _ (cmdFlowExport_keeps rq))

theorem execFlowClear_answers (rq : Request) (s : State) : Answers s (exec (.flowClear rq) s) :=
  show Answers s (execFlowClear rq s) from Answers.next (State.command_keeps s rq _ (cmdFlowClear_keeps rq))

theorem execFlowNote_answers (rq : Request) (s : State) : Answers s (exec (.flowNote rq) s) :=
  show Answers s (execFlowNote rq s) from Answers.next (State.command_keeps s rq _ (cmdFlowNote_keeps rq))

theorem execFlowFlushPeriodic_answers (s : State) : Answers s (exec .flowFlushPeriodic s) := by
  show Answers s (execFlowFlushPeriodic s)
  unfold execFlowFlushPeriodic
  refine .next ?_
  refine .ite (fun _ => ?_) fun _ => ?_
  · exact State.flushTrigger_keeps ..
  · exact .refl _

theorem State.flushEnds_keeps (s : State) : Keeps s s.flushEnds := by
  unfold State.flushEnds
  extract_lets f
  have h : Keeps s { s with flow := f } := (Keeps.refl s).setFlow fun h => Flow.places_ordered _ h
  exact Keeps.step (u := { s with flow := f }) h

theorem execFlowFlushComplete_answers (s : State) : Answers s (exec .flowFlushComplete s) := by
  show Answers s (execFlowFlushComplete s)
  unfold execFlowFlushComplete
  refine .next ?_
  refine .ite (fun _ => ?_) fun _ => ?_
  · extract_lets +onlyGivenNames y
    extract_lets +onlyGivenNames y
    extract_lets +onlyGivenNames y
    refine .cut (x := y) (fun _ => ?_) ?_
    · clear_value y
      refine .ite (fun _ => ?_) fun _ => ?_
      · exact .trans (by assumption) (State.flushTrigger_keeps ..)
      · assumption
    · subst y
      refine .foldl (fun _ _ => ?_) ?_
      · exact State.reply_keeps ..
      · exact State.flushEnds_keeps ..
  · exact .refl _

theorem execCompactionPass_answers (bad : List Nat) (s : State) : Answers s (exec (.compactionPass bad) s) :=
  show Answers s (execCompactionPass bad s) from Answers.next (Keeps.ite (fun _ => (Keeps.refl s).setFlow fun h => Flow.scan_ordered _ _ h) fun _ => Keeps.refl s)

theorem execExportTimeout_answers (s : State) : Answers s (exec .exportTimeout s) := by
  show Answers s (execExportTimeout s)
  unfold execExportTimeout
  refine .next ?_
  split
  · refine .ite (fun _ => ?_) fun _ => ?_
    · exact .step (.refl _)
    · exact .refl _
  · exact .refl _

theorem execTaskRecordMove_answers (task : Fin 128) (calls : List TaskRec) (s : State) : Answers s (exec (.taskRecordMove task calls) s) := by
  show Answers s (execTaskRecordMove task calls s)
  unfold execTaskRecordMove
  refine .next ?_
  extract_lets +onlyGivenNames y
  refine .cut (x := y) (fun _ => ?_) ?_
  · clear_value y
    split
    · assumption
    · refine .trans ?_ (State.recordAt_keeps ..)
      exact .trans (by assumption) (State.setTask_keeps ..)
  · subst y
    refine .ite (fun _ => ?_) fun _ => ?_
    · refine .foldl (fun _ _ => ?_) ?_
      · exact State.queueRecord_keeps ..
      · exact .refl _
    · exact .refl _

theorem State.withRtc_keeps (s : State) (r : Rtc) : Keeps s (State.withRtc s r) := by
  unfold State.withRtc
  extract_lets +onlyGivenNames y
  extract_lets +onlyGivenNames y
  extract_lets +onlyGivenNames y
  refine .cut (x := y) (fun _ => ?_) ?_
  · clear_value y
    refine .ite (fun _ => ?_) fun _ => ?_
    · exact .trans (by assumption) (State.raise_keeps ..)
    · assumption
  · subst y
    exact .step (.refl _)

theorem State.storeLeap_keeps (s : State) (was : Bool) : Keeps s (State.storeLeap s was) := by
  unfold State.storeLeap
  refine .ite (fun _ => ?_) fun _ => ?_
  · exact .step (.refl _)
  · exact .refl _

theorem State.dueSet_keeps (s : State) : Keeps s (State.dueSet s) := by
  unfold State.dueSet
  split
  · refine .ite (fun _ => ?_) fun _ => ?_
    · extract_lets +onlyGivenNames y
      refine .cut (x := y) (fun _ => ?_) ?_
      · clear_value y
        exact .step (by assumption)
      · subst y
        exact State.withRtc_keeps ..
    · exact .refl _
  · exact .refl _

theorem State.tick_keeps (s : State) : Keeps s (State.tick s) := by
  unfold State.tick
  extract_lets +onlyGivenNames y
  refine .trans ?_ (State.dueSet_keeps ..)
  refine .trans ?_ (State.storeLeap_keeps ..)
  exact .step (.refl _)

theorem Grotto.drainAll_canonical {g : Grotto} (h : g.Canonical) : g.drainAll.Canonical :=
  ⟨h.1, writes_wf (fun m e w => by split; exact Memory.write_wf _ _ w; exact w) h.2⟩

theorem State.afterReset_keeps (s : State) (cause : Nat) : Keeps s (s.afterReset cause) := by
  refine ⟨rfl, fun x => ⟨⟨fun c => ?_, x.gro.2⟩, Flow.afterReset_ordered x.flow, ⟨fun n => ?_, fun n => ?_⟩⟩⟩
  · show Memory.wf ((Vector.replicate 11 ([] : Memory)).get c) = true
    simp [Vector.get]; rfl
  · show ((Vector.replicate 8 Mailbox.init).get n).data.wf = true
    simp [Vector.get]; rfl
  · show Memory.wf ((Vector.replicate 8 ([] : Memory)).get n) = true
    simp [Vector.get]; rfl

theorem State.resetEntry_keeps (s : State) (cause : Nat) : Keeps s (s.resetEntry cause) := by
  unfold State.resetEntry
  extract_lets +onlyGivenNames a b c d s1
  have h1 : Keeps s s1 := Keeps.step (u := s.killAll) (State.killAll_keeps s)
  clear_value s1
  extract_lets +onlyGivenNames s2
  have h2 : Keeps s s2 := by
    refine h1.trans (Keeps.ite (fun _ => ?_) fun _ => ?_)
    · exact (State.draw_keeps s1).trans (State.emergencyFlush_keeps ..)
    · exact (State.endFlush_keeps s1).trans (State.emergencyFlush_keeps ..)
  clear_value s2
  extract_lets
  exact Keeps.step (u := State.afterReset { s2 with gro := s2.gro.drainAll } cause)
    ((h2.setGro Grotto.drainAll_canonical).trans (State.afterReset_keeps ..))

theorem execNrstInAssert_answers (s : State) : Answers s (exec .nrstInAssert s) := by
  show Answers s (execNrstInAssert s)
  unfold execNrstInAssert
  refine .next ?_
  refine .ite (fun _ => ?_) fun _ => ?_
  · exact .step (.refl _)
  · extract_lets +onlyGivenNames y
    refine .cut (x := y) (fun _ => ?_) ?_
    · clear_value y
      exact .step (by assumption)
    · subst y
      exact State.resetEntry_keeps ..

theorem execBootWatchdogExpire_answers (s : State) : Answers s (exec .bootWatchdogExpire s) := by
  show Answers s (execBootWatchdogExpire s)
  unfold execBootWatchdogExpire
  refine .next ?_
  refine .ite (fun _ => ?_) fun _ => ?_
  · exact State.resetEntry_keeps ..
  · exact .refl _

theorem execHaltTimerExpire_answers (s : State) : Answers s (exec .haltTimerExpire s) := by
  show Answers s (execHaltTimerExpire s)
  unfold execHaltTimerExpire
  refine .next ?_
  extract_lets +onlyGivenNames y
  refine .ite (fun _ => ?_) fun _ => ?_
  · exact State.resetEntry_keeps ..
  · exact .refl _

theorem execClockFault_answers (s : State) : Answers s (exec .clockFault s) := by
  show Answers s (execClockFault s)
  unfold execClockFault
  refine .next ?_
  refine .ite (fun _ => ?_) fun _ => ?_
  · exact .refl _
  · extract_lets +onlyGivenNames y
    extract_lets +onlyGivenNames y
    extract_lets +onlyGivenNames y
    refine .cut (x := y) (fun _ => ?_) ?_
    · clear_value y
      exact .step (by assumption)
    · subst y
      refine .trans ?_ (State.afterReset_keeps ..)
      exact .step (.refl _)

theorem execPowerOnReset_answers (s : State) : Answers s (exec .powerOnReset s) := by
  show Answers s (execPowerOnReset s)
  unfold execPowerOnReset
  refine .next ?_
  refine .ite (fun _ => ?_) fun _ => ?_
  · extract_lets +onlyGivenNames y
    extract_lets +onlyGivenNames y
    refine .cut (x := y) (fun _ => ?_) ?_
    · clear_value y
      exact .step (by assumption)
    · subst y
      exact State.afterReset_keeps ..
  · refine .ite (fun _ => ?_) fun _ => ?_
    · extract_lets +onlyGivenNames y
      extract_lets +onlyGivenNames y
      refine .cut (x := y) (fun _ => ?_) ?_
      · clear_value y
        exact .step (by assumption)
      · subst y
        exact State.afterReset_keeps ..
    · exact .refl _

theorem State.release_keeps (s : State) (straps : Straps) : Keeps s (s.release straps) := by
  refine ⟨rfl, fun x => ⟨⟨upd_canonical x.gro.1 fun m w => ?_, x.gro.2⟩, x.flow, ⟨fun n => ?_, x.host.2⟩⟩⟩
  · exact Memory.write_wf _ _ (Memory.write_wf _ _ (Memory.write_wf _ _ (Memory.write_wf _ _ w)))
  · show ((Vector.replicate 8 Mailbox.init).get n).data.wf = true
    simp [Vector.get]; rfl

theorem execResetRelease_answers (straps : Straps) (s : State) : Answers s (exec (.resetRelease straps) s) := by
  show Answers s (execResetRelease straps s)
  unfold execResetRelease
  refine .next ?_
  refine .ite (fun _ => ?_) fun _ => ?_
  · split
    · refine .ite (fun _ => ?_) fun _ => ?_
      · exact State.release_keeps ..
      · exact .step (.refl _)
    · exact .step (.refl _)
  · exact .refl _

theorem execColdStartHoldEnd_answers (straps : Straps) (s : State) : Answers s (exec (.coldStartHoldEnd straps) s) := by
  show Answers s (execColdStartHoldEnd straps s)
  unfold execColdStartHoldEnd
  refine .next ?_
  refine .ite (fun _ => ?_) fun _ => ?_
  · split
    · refine .ite (fun _ => ?_) fun _ => ?_
      · exact State.release_keeps ..
      · exact .refl _
    · exact .refl _
  · exact .refl _

theorem execColdStartHoldTimeout_answers (straps : Straps) (s : State) : Answers s (exec (.coldStartHoldTimeout straps) s) := by
  show Answers s (execColdStartHoldTimeout straps s)
  unfold execColdStartHoldTimeout
  refine .next ?_
  refine .ite (fun _ => ?_) fun _ => ?_
  · extract_lets +onlyGivenNames y
    refine .cut (x := y) (fun _ => ?_) ?_
    · clear_value y
      exact .step (by assumption)
    · subst y
      exact State.release_keeps ..
  · exact .refl _

theorem execRomFaultHoldEnd_answers (s : State) : Answers s (exec .romFaultHoldEnd s) := by
  show Answers s (execRomFaultHoldEnd s)
  unfold execRomFaultHoldEnd
  refine .next ?_
  refine .ite (fun _ => ?_) fun _ => ?_
  · exact .step (.refl _)
  · exact .refl _

theorem execRomPhaseEnd_answers (s : State) : Answers s (exec .romPhaseEnd s) := by
  show Answers s (execRomPhaseEnd s)
  unfold execRomPhaseEnd
  refine .next ?_
  refine .ite (fun _ => ?_) fun _ => ?_
  · split
    · extract_lets +onlyGivenNames y
      extract_lets +onlyGivenNames y
      refine .cut (x := y) (fun _ => ?_) ?_
      · clear_value y
        refine .ite (fun _ => ?_) fun _ => ?_
        · exact .step (by assumption)
        · refine .trans ?_ (State.setReason_keeps ..)
          exact .step (by assumption)
      · subst y
        exact .step (.refl _)
  · exact .refl _

theorem State.loadConfig_keeps (s : State) (c : StoredCfg) : Keeps s (State.loadConfig s c) := by
  unfold State.loadConfig
  exact .step (.refl _)

theorem State.loadPanel_keeps (s : State) (c : StoredCfg) : Keeps s (State.loadPanel s c) := by
  unfold State.loadPanel
  exact .step (.refl _)

theorem execFirmwarePhaseEnd_answers (cfgBad : Bool) (fit : ModuleId) (s : State) : Answers s (exec (.firmwarePhaseEnd cfgBad fit) s) := by
  show Answers s (execFirmwarePhaseEnd cfgBad fit s)
  unfold execFirmwarePhaseEnd
  refine Answers.next (Keeps.ite (fun _ => ?_) fun _ => Keeps.refl s)
  extract_lets +onlyGivenNames why y0 s1
  have h1 : Keeps s s1 := ⟨rfl, fun x => ⟨x.gro, Flow.boot_ordered _ x.flow, x.host⟩⟩
  clear_value s1
  extract_lets +onlyGivenNames y1 s2
  have h2 : Keeps s s2 := Keeps.step h1
  clear_value s2
  extract_lets +onlyGivenNames s3
  have h3 : Keeps s s3 := h2.trans (State.stageAt_keeps ..)
  clear_value s3
  extract_lets +onlyGivenNames s4
  have h4 : Keeps s s4 := by
    subst s4; split
    · exact Keeps.step (h3.trans (State.event_keeps ..))
    · exact h3
  clear_value s4
  extract_lets +onlyGivenNames s5
  have h5 : Keeps s s5 := Keeps.ite (fun _ => h4.trans (State.event_keeps ..)) fun _ => h4
  clear_value s5
  extract_lets +onlyGivenNames s6
  have h6 : Keeps s s6 := by
    subst s6; split
    · exact Keeps.trans (Keeps.ite (fun _ => h5.trans (State.loadConfig_keeps ..)) fun _ => h5) (State.loadPanel_keeps ..)
    · exact h5
  clear_value s6
  extract_lets +onlyGivenNames s7
  have h7 : Keeps s s7 := h6.trans (State.journalRedraw_keeps ..)
  clear_value s7
  extract_lets +onlyGivenNames s8
  have h8 : Keeps s s8 := Keeps.ite (fun _ => h7.trans (State.raise_keeps ..)) fun _ => h7
  clear_value s8
  extract_lets +onlyGivenNames y3 y9 s9
  have h9 : Keeps s s9 := Keeps.step (h8.trans (State.record_keeps ..))
  clear_value s9
  extract_lets +onlyGivenNames y4 s10
  have h10 : Keeps s s10 := Keeps.step h9
  clear_value s10
  extract_lets +onlyGivenNames y5 s11
  have h11 : Keeps s s11 := Keeps.step h10
  clear_value s11
  extract_lets +onlyGivenNames y6
  refine Keeps.ite (fun _ => ?_) fun _ => ?_
  · exact Keeps.step ((h11.trans (State.setMode_keeps ..)).trans (State.canModes_keeps ..))
  · exact ((h11.trans (State.setMode_keeps ..)).trans (State.event_keeps ..)).trans (State.setReason_keeps ..)

theorem cmdSysFwLoad_keeps (rq : Request) (s : State) : Keeps s (cmdSysFwLoad rq s) := by
  unfold cmdSysFwLoad
  refine serve_keeps fun _ => ?_
  extract_lets +onlyGivenNames y
  extract_lets +onlyGivenNames y
  extract_lets +onlyGivenNames y
  exact .done (.step (.refl _))

theorem cmdSysFwActivate_keeps (rq : Request) (s : State) : Keeps s (cmdSysFwActivate rq s) := by
  unfold cmdSysFwActivate
  refine serve_keeps fun _ => ?_
  extract_lets +onlyGivenNames y
  extract_lets +onlyGivenNames y
  iterate 3 refine .refuseIf ?_
  exact .done (.step (.refl _))

theorem cmdSysStartSet_keeps (rq : Request) (s : State) : Keeps s (cmdSysStartSet rq s) := by
  unfold cmdSysStartSet
  refine serve_keeps fun _ => ?_
  extract_lets +onlyGivenNames y
  refine .refuseIf ?_
  exact .done (.step (.refl _))

theorem cmdSysStartGet_keeps (rq : Request) (s : State) : Keeps s (cmdSysStartGet rq s) := by
  unfold cmdSysStartGet
  refine serve_keeps fun _ => ?_
  exact .done (.refl _)

theorem cmdSysBootInfo_keeps (rq : Request) (s : State) : Keeps s (cmdSysBootInfo rq s) := by
  unfold cmdSysBootInfo
  refine serve_keeps fun _ => ?_
  exact .done (.refl _)

theorem acceptRestart_keeps (rq : Request) (s : State) : Keeps s (acceptRestart rq s) := by
  unfold acceptRestart
  refine serve_keeps fun _ => ?_
  exact .done (.step (.refl _))

theorem cmdSysRestart_keeps (rq : Request) (s : State) : Keeps s (cmdSysRestart rq s) := by
  unfold cmdSysRestart
  extract_lets s1 mb
  have h1 : Keeps s s1 := acceptRestart_keeps rq s
  refine Keeps.ite (fun _ => ?_) fun _ => h1
  have h2 := h1.trans (State.resetEntry_keeps s1 6)
  exact ⟨h2.pending, fun x => ⟨(h2.sound x).gro, (h2.sound x).flow, ⟨(h1.sound x).host.1, (h2.sound x).host.2⟩⟩⟩

theorem execSysFwLoad_answers (rq : Request) (s : State) : Answers s (exec (.sysFwLoad rq) s) :=
  show Answers s (execSysFwLoad rq s) from Answers.next (State.command_keeps s rq _ (cmdSysFwLoad_keeps rq))

theorem execSysFwActivate_answers (rq : Request) (s : State) : Answers s (exec (.sysFwActivate rq) s) :=
  show Answers s (execSysFwActivate rq s) from Answers.next (State.command_keeps s rq _ (cmdSysFwActivate_keeps rq))

theorem execSysStartSet_answers (rq : Request) (s : State) : Answers s (exec (.sysStartSet rq) s) :=
  show Answers s (execSysStartSet rq s) from Answers.next (State.command_keeps s rq _ (cmdSysStartSet_keeps rq))

theorem execSysStartGet_answers (rq : Request) (s : State) : Answers s (exec (.sysStartGet rq) s) :=
  show Answers s (execSysStartGet rq s) from Answers.next (State.command_keeps s rq _ (cmdSysStartGet_keeps rq))

theorem execSysBootInfo_answers (rq : Request) (s : State) : Answers s (exec (.sysBootInfo rq) s) :=
  show Answers s (execSysBootInfo rq s) from Answers.next (State.command_keeps s rq _ (cmdSysBootInfo_keeps rq))

theorem execSysRestart_answers (rq : Request) (s : State) : Answers s (exec (.sysRestart rq) s) :=
  show Answers s (execSysRestart rq s) from Answers.next (State.command_keeps s rq _ (cmdSysRestart_keeps rq))

theorem State.supervisorFatal_keeps (s : State) (c : FatalCause) : Keeps s (State.supervisorFatal s c) := by
  unfold State.supervisorFatal
  split
  · exact .step (.refl _)
  · exact .step (.refl _)
  · refine .ite (fun _ => ?_) fun _ => ?_
    · exact .refl _
    · exact State.enterHalt_keeps ..
  · refine .ite (fun _ => ?_) fun _ => ?_
    · exact .refl _
    · exact State.enterHalt_keeps ..
  · exact .refl _
  · exact .refl _

theorem execLogicRailFault_answers (rail : Nat) (s : State) : Answers s (exec (.logicRailFault rail) s) := by
  show Answers s (execLogicRailFault rail s)
  unfold execLogicRailFault
  refine .next ?_
  exact State.supervisorFatal_keeps ..

theorem execThermalTrip_answers (s : State) : Answers s (exec .thermalTrip s) := by
  show Answers s (execThermalTrip s)
  unfold execThermalTrip
  refine .next ?_
  refine .ite (fun _ => ?_) fun _ => ?_
  · exact State.supervisorFatal_keeps ..
  · exact .refl _

theorem execBootFailsClear_answers (s : State) : Answers s (exec .bootFailsClear s) := by
  show Answers s (execBootFailsClear s)
  unfold execBootFailsClear
  refine .next ?_
  refine .ite (fun _ => ?_) fun _ => ?_
  · exact .step (.refl _)
  · exact .refl _

theorem execHoldupDepleted_answers (s : State) : Answers s (exec .holdupDepleted s) := by
  show Answers s (execHoldupDepleted s)
  unfold execHoldupDepleted
  refine .next ?_
  refine .ite (fun _ => ?_) fun _ => ?_
  · exact .step (.refl _)
  · exact .refl _

end Sys2Proof.Machine
end

