-- ==== Sys2Proof/Laws/KeepsUnits.lean ====
section
/-! SUPPORT. What the operations of CAN, compare units, the Crucible, loops, change packages and motion keep. -/

namespace Sys2Proof.Machine

open Sys2Proof

set_option Elab.async false

theorem State.setCan_keeps (s : State) (c : Fin 4) (f : CanCtrl → CanCtrl) : Keeps s (State.setCan s c f) := by
  unfold State.setCan
  exact .step (.refl _)

theorem State.canStat_keeps (s : State) (c : Fin 4) (f : CanStat → CanStat) : Keeps s (State.canStat s c f) := by
  unfold State.canStat
  exact State.setCan_keeps ..

theorem cmdCanCtrlSet_keeps (rq : Request) (s : State) : Keeps s (cmdCanCtrlSet rq s) := by
  unfold cmdCanCtrlSet
  refine serve_keeps fun _ => ?_
  extract_lets +onlyGivenNames y
  split
  · exact .refuse
  · refine .refuseIf ?_
    exact .done (State.setCan_keeps ..)

theorem execCanCtrlSet_answers (rq : Request) (s : State) : Answers s (exec (.canCtrlSet rq) s) :=
  show Answers s (execCanCtrlSet rq s) from Answers.next (State.command_keeps s rq _ (cmdCanCtrlSet_keeps rq))

theorem cmdCanCtrlGet_keeps (rq : Request) (s : State) : Keeps s (cmdCanCtrlGet rq s) := by
  unfold cmdCanCtrlGet
  refine serve_keeps fun _ => ?_
  split
  · exact .refuse
  · exact .done (.refl _)

theorem execCanCtrlGet_answers (rq : Request) (s : State) : Answers s (exec (.canCtrlGet rq) s) :=
  show Answers s (execCanCtrlGet rq s) from Answers.next (State.command_keeps s rq _ (cmdCanCtrlGet_keeps rq))

theorem cmdCanFilterSet_keeps (rq : Request) (s : State) : Keeps s (cmdCanFilterSet rq s) := by
  unfold cmdCanFilterSet
  refine serve_keeps fun _ => ?_
  extract_lets +onlyGivenNames y
  split
  · refine .refuseIf ?_
    exact .done (State.setCan_keeps ..)
  · exact .refuse

theorem execCanFilterSet_answers (rq : Request) (s : State) : Answers s (exec (.canFilterSet rq) s) :=
  show Answers s (execCanFilterSet rq s) from Answers.next (State.command_keeps s rq _ (cmdCanFilterSet_keeps rq))

theorem cmdCanObjectSet_keeps (rq : Request) (s : State) : Keeps s (cmdCanObjectSet rq s) := by
  unfold cmdCanObjectSet
  refine serve_keeps fun _ => ?_
  extract_lets +onlyGivenNames y
  extract_lets +onlyGivenNames y
  iterate 2 refine .refuseIf ?_
  exact .done (.step (.refl _))

theorem execCanObjectSet_answers (rq : Request) (s : State) : Answers s (exec (.canObjectSet rq) s) :=
  show Answers s (execCanObjectSet rq s) from Answers.next (State.command_keeps s rq _ (cmdCanObjectSet_keeps rq))

theorem cmdCanRecover_keeps (rq : Request) (s : State) : Keeps s (cmdCanRecover rq s) := by
  unfold cmdCanRecover
  refine serve_keeps fun _ => ?_
  split
  · exact .refuse
  · extract_lets +onlyGivenNames y
    refine .refuseIf ?_
    exact .done (State.setCan_keeps ..)

theorem execCanRecover_answers (rq : Request) (s : State) : Answers s (exec (.canRecover rq) s) :=
  show Answers s (execCanRecover rq s) from Answers.next (State.command_keeps s rq _ (cmdCanRecover_keeps rq))

theorem cmdCanStatus_keeps (rq : Request) (s : State) : Keeps s (cmdCanStatus rq s) := by
  unfold cmdCanStatus
  refine serve_keeps fun _ => ?_
  split
  · exact .refuse
  · exact .done (.refl _)

theorem execCanStatus_answers (rq : Request) (s : State) : Answers s (exec (.canStatus rq) s) :=
  show Answers s (execCanStatus rq s) from Answers.next (State.command_keeps s rq _ (cmdCanStatus_keeps rq))

theorem cmdCanTxOnce_keeps (rq : Request) (s : State) : Keeps s (cmdCanTxOnce rq s) := by
  unfold cmdCanTxOnce
  refine serve_keeps fun _ => ?_
  split
  · exact .refuse
  · extract_lets +onlyGivenNames y
    extract_lets +onlyGivenNames y
    iterate 3 refine .refuseIf ?_
    extract_lets +onlyGivenNames y
    exact .done (State.setCan_keeps ..)

theorem execCanTxOnce_answers (rq : Request) (s : State) : Answers s (exec (.canTxOnce rq) s) :=
  show Answers s (execCanTxOnce rq s) from Answers.next (State.command_keeps s rq _ (cmdCanTxOnce_keeps rq))

theorem cmdCanClear_keeps (rq : Request) (s : State) : Keeps s (cmdCanClear rq s) := by
  unfold cmdCanClear
  refine serve_keeps fun _ => ?_
  refine .ite (fun _ => ?_) fun _ => ?_
  · exact .done (.step (.refl _))
  · split
    · exact .refuse
    · exact .done (State.canStat_keeps ..)

theorem execCanClear_answers (rq : Request) (s : State) : Answers s (exec (.canClear rq) s) :=
  show Answers s (execCanClear rq s) from Answers.next (State.command_keeps s rq _ (cmdCanClear_keeps rq))

theorem State.canCount_keeps (s : State) (c : Fin 4) (tec rc : Nat) : Keeps s (State.canCount s c tec rc) := by
  unfold State.canCount
  extract_lets +onlyGivenNames y
  refine .ite (fun _ => ?_) fun _ => ?_
  · exact .refl _
  · extract_lets +onlyGivenNames y
    extract_lets +onlyGivenNames y
    extract_lets +onlyGivenNames y
    refine .cut (x := y) (fun _ => ?_) ?_
    · clear_value y
      refine .ite (fun _ => ?_) fun _ => ?_
      · assumption
      · extract_lets +onlyGivenNames y
        refine .cut (x := y) (fun _ => ?_) ?_
        · clear_value y
          exact .trans (by assumption) (State.event_keeps ..)
        · subst y
          exact .trans (by assumption) (State.setCan_keeps ..)
    · subst y
      exact State.setCan_keeps ..

theorem State.canRing_keeps (s : State) (c : Fin 4) (k : Fin 64) (f : CanFrame) (ts : BitVec 64) : Keeps s (s.canRing c k f ts) := by
  unfold State.canRing
  extract_lets off m line depth lapped seq m1 line1 s1 s2
  have h : Keeps s s1 := (Keeps.refl s).setMem fun x => Memory.write_wf _ _ (Memory.write_wf _ _ (x.gro.1 5))
  clear_value s1
  exact Keeps.trans (Keeps.ite (fun _ => h.trans (State.canStat_keeps ..)) fun _ => h) (State.trigger_keeps ..)

theorem State.canReceive_keeps (s : State) (c : Fin 4) (o : CanObject) (f : CanFrame) (ts : BitVec 64) : Keeps s (s.canReceive c o f ts) := by
  unfold State.canReceive
  extract_lets off m old lost s1
  have h : Keeps s s1 := (Keeps.refl s).setMem fun x => Memory.write_wf _ _ (x.gro.1 5)
  clear_value s1
  exact Keeps.ite (fun _ => h.trans (State.canStat_keeps ..)) fun _ => h

theorem State.recAfter_keeps (s : State) (rc : Nat) : Keeps s (s.recAfter rc).2 := by
  unfold State.recAfter
  split
  · exact Keeps.refl s
  · exact State.draw_keeps s

theorem State.canPlace_keeps (s : State) (c : Fin 4) (f : CanFrame) (ts : BitVec 64) : Keeps s (State.canPlace s c f ts) := by
  unfold State.canPlace
  split
  · exact State.canRing_keeps ..
  · split
    · exact State.canReceive_keeps ..
    · exact State.canStat_keeps ..

theorem execCanFrameReceive_answers (ctrl : Fin 4) (f : CanFrame) (age : Nat) (phase : Fin 8) (s : State) : Answers s (exec (.canFrameReceive ctrl f age phase) s) := by
  show Answers s (execCanFrameReceive ctrl f age phase s)
  unfold execCanFrameReceive
  extract_lets +onlyGivenNames y
  refine .next ?_
  refine .ite (fun _ => ?_) fun _ => ?_
  · exact .refl _
  · refine .ite (fun _ => ?_) fun _ => ?_
    · refine .ite (fun _ => ?_) fun _ => ?_
      · exact State.canStat_keeps ..
      · exact .refl _
    · extract_lets +onlyGivenNames y
      split
      · rename_i eq
        have hp := Keeps.of_eq (State.recAfter_keeps ..) eq
        extract_lets +onlyGivenNames y
        refine .cut (x := y) (fun _ => ?_) ?_
        · clear_value y
          refine .trans ?_ (State.canPlace_keeps ..)
          exact .trans (by assumption) (State.setCan_keeps ..)
        · subst y
          exact .trans (by assumption) (State.canCount_keeps ..)

theorem State.canScan_keeps (s : State) (o : CanObject) : Keeps s (State.canScan s o) := by
  unfold State.canScan
  extract_lets +onlyGivenNames y
  extract_lets +onlyGivenNames y
  refine .ite (fun _ => ?_) fun _ => ?_
  · refine .setMem ?_ fun hm => ?_
    · exact .refl _
    · refine Memory.set_wf _ _ ?_
      exact hm.gro.1 _
  · exact .refl _

theorem execCanReceiveTimeoutScan_answers (s : State) : Answers s (exec .canReceiveTimeoutScan s) := by
  show Answers s (execCanReceiveTimeoutScan s)
  unfold execCanReceiveTimeoutScan
  refine .next ?_
  refine .foldl (fun _ _ => ?_) ?_
  · exact State.canScan_keeps ..
  · exact .refl _

theorem execCanTxPeriod_answers (ctrl : Fin 4) (obj : BitVec 16) (s : State) : Answers s (exec (.canTxPeriod ctrl obj) s) := by
  show Answers s (execCanTxPeriod ctrl obj s)
  unfold execCanTxPeriod
  extract_lets +onlyGivenNames y
  refine .next ?_
  split
  · refine .ite (fun _ => ?_) fun _ => ?_
    · exact State.setCan_keeps ..
    · exact .refl _
  · exact .refl _

theorem execCanArbitrationPrepare_answers (ctrl : Fin 4) (s : State) : Answers s (exec (.canArbitrationPrepare ctrl) s) := by
  show Answers s (execCanArbitrationPrepare ctrl s)
  unfold execCanArbitrationPrepare
  extract_lets +onlyGivenNames y
  refine .next ?_
  refine .ite (fun _ => ?_) fun _ => ?_
  · extract_lets +onlyGivenNames y
    refine .cut (x := y) (fun _ => ?_) ?_
    · clear_value y
      split
      · exact .trans (by assumption) (State.setCan_keeps ..)
      · assumption
    · subst y
      exact State.setCan_keeps ..
  · exact .refl _

theorem execCanTxComplete_answers (ctrl : Fin 4) (age : Nat) (phase : Fin 8) (delay : BitVec 8) (s : State) :
    Answers s (exec (.canTxComplete ctrl age phase delay) s) := by
  show Answers s (execCanTxComplete ctrl age phase delay s)
  unfold execCanTxComplete
  extract_lets x
  refine Answers.next ?_
  cases x.wire with
  | none => exact Keeps.refl s
  | some e =>
    obtain ⟨t, r⟩ := e
    refine Keeps.ite (fun _ => ?_) fun _ => Keeps.refl s
    extract_lets +onlyGivenNames s1
    have h1 : Keeps s s1 := State.setCan_keeps ..
    clear_value s1
    extract_lets +onlyGivenNames s2
    refine Keeps.trans ?_ (State.canCount_keeps ..)
    cases t with
    | object k => exact h1.setMem fun hm => Memory.write_wf _ _ ((h1.sound hm).gro.1 5)
    | once c => exact h1
    | reference c => exact h1

theorem execCanBusError_answers (ctrl : Fin 4) (err : CanErr) (transmitting : Bool) (site : CanSite) (delay : BitVec 8) (s : State) : Answers s (exec (.canBusError ctrl err transmitting site delay) s) := by
  show Answers s (execCanBusError ctrl err transmitting site delay s)
  unfold execCanBusError
  extract_lets +onlyGivenNames y
  refine .next ?_
  refine .ite (fun _ => ?_) fun _ => ?_
  · exact .refl _
  · extract_lets +onlyGivenNames y
    extract_lets +onlyGivenNames y
    refine .cut (x := y) (fun _ => ?_) ?_
    · clear_value y
      split
      · exact .trans (by assumption) (State.canCount_keeps ..)
    · subst y
      exact State.setCan_keeps ..

theorem execCanBusoffHoldExpire_answers (ctrl : Fin 4) (s : State) : Answers s (exec (.canBusoffHoldExpire ctrl) s) := by
  show Answers s (execCanBusoffHoldExpire ctrl s)
  unfold execCanBusoffHoldExpire
  extract_lets +onlyGivenNames y
  refine .next ?_
  refine .ite (fun _ => ?_) fun _ => ?_
  · exact State.setCan_keeps ..
  · exact .refl _

theorem execCanRecoveryComplete_answers (ctrl : Fin 4) (s : State) : Answers s (exec (.canRecoveryComplete ctrl) s) := by
  show Answers s (execCanRecoveryComplete ctrl s)
  unfold execCanRecoveryComplete
  extract_lets +onlyGivenNames y
  refine .next ?_
  refine .ite (fun _ => ?_) fun _ => ?_
  · refine .trans ?_ (State.event_keeps ..)
    exact State.setCan_keeps ..
  · exact .refl _

theorem execCanRefMessage_answers (ctrl : Fin 4) (s : State) : Answers s (exec (.canRefMessage ctrl) s) := by
  show Answers s (execCanRefMessage ctrl s)
  unfold execCanRefMessage
  extract_lets +onlyGivenNames y
  refine .next ?_
  refine .ite (fun _ => ?_) fun _ => ?_
  · extract_lets +onlyGivenNames y
    refine .ite (fun _ => ?_) fun _ => ?_
    · exact State.canStat_keeps ..
    · exact State.setCan_keeps ..
  · exact .refl _

theorem execCanRefLost_answers (ctrl : Fin 4) (s : State) : Answers s (exec (.canRefLost ctrl) s) := by
  show Answers s (execCanRefLost ctrl s)
  unfold execCanRefLost
  extract_lets +onlyGivenNames y
  refine .next ?_
  refine .ite (fun _ => ?_) fun _ => ?_
  · exact State.canStat_keeps ..
  · exact .refl _

theorem State.fireCompare_keeps (s : State) (n : Fin 8) : Keeps s (State.fireCompare s n) := by
  unfold State.fireCompare
  extract_lets +onlyGivenNames y
  split
  · refine .ite (fun _ => ?_) fun _ => ?_
    · refine .trans ?_ (State.trigger_keeps ..)
      exact .step (.refl _)
    · exact .refl _
  · exact .refl _

theorem State.fireLate_keeps (s : State) : Keeps s (State.fireLate s) := by
  unfold State.fireLate
  refine .foldl (fun _ _ => ?_) ?_
  · split
    · refine .ite (fun _ => ?_) fun _ => ?_
      · exact State.fireCompare_keeps ..
      · exact .refl _
    · exact .refl _
  · exact .refl _

theorem execCompareFire_answers (n : Fin 8) (s : State) : Answers s (exec (.compareFire n) s) := by
  show Answers s (execCompareFire n s)
  unfold execCompareFire
  refine .next ?_
  exact State.fireCompare_keeps ..

theorem execTpoPulseEnd_answers (n : Fin 8) (s : State) : Answers s (exec (.tpoPulseEnd n) s) := by
  show Answers s (execTpoPulseEnd n s)
  unfold execTpoPulseEnd
  extract_lets +onlyGivenNames y
  refine .next ?_
  split
  · refine .ite (fun _ => ?_) fun _ => ?_
    · exact .step (.refl _)
    · exact .refl _
  · exact .refl _

theorem cmdTimeCmpSet_keeps (rq : Request) (s : State) : Keeps s (cmdTimeCmpSet rq s) := by
  unfold cmdTimeCmpSet
  refine serve_keeps fun _ => ?_
  extract_lets +onlyGivenNames y
  split
  · exact .refuse
  · refine .refuseIf ?_
    refine .done ?_
    refine .trans ?_ (State.fireLate_keeps ..)
    exact .step (.refl _)

theorem execTimeCmpSet_answers (rq : Request) (s : State) : Answers s (exec (.timeCmpSet rq) s) :=
  show Answers s (execTimeCmpSet rq s) from Answers.next (State.command_keeps s rq _ (cmdTimeCmpSet_keeps rq))

theorem cmdTimeCmpGet_keeps (rq : Request) (s : State) : Keeps s (cmdTimeCmpGet rq s) := by
  unfold cmdTimeCmpGet
  refine serve_keeps fun _ => ?_
  split
  · exact .refuse
  · extract_lets +onlyGivenNames y
    exact .done (.refl _)

theorem execTimeCmpGet_answers (rq : Request) (s : State) : Answers s (exec (.timeCmpGet rq) s) :=
  show Answers s (execTimeCmpGet rq s) from Answers.next (State.command_keeps s rq _ (cmdTimeCmpGet_keeps rq))

theorem cmdTimeTciSet_keeps (rq : Request) (s : State) : Keeps s (cmdTimeTciSet rq s) := by
  unfold cmdTimeTciSet
  refine serve_keeps fun _ => ?_
  extract_lets +onlyGivenNames y
  split
  · exact .refuse
  · refine .refuseIf ?_
    exact .done (.step (.refl _))

theorem execTimeTciSet_answers (rq : Request) (s : State) : Answers s (exec (.timeTciSet rq) s) :=
  show Answers s (execTimeTciSet rq s) from Answers.next (State.command_keeps s rq _ (cmdTimeTciSet_keeps rq))

theorem execTciCapture_answers (k : Fin 2) (rising : Bool) (phase : Fin 8) (s : State) : Answers s (exec (.tciCapture k rising phase) s) := by
  show Answers s (execTciCapture k rising phase s)
  unfold execTciCapture
  extract_lets +onlyGivenNames y
  extract_lets +onlyGivenNames y
  refine .next ?_
  refine .ite (fun _ => ?_) fun _ => ?_
  · exact .refl _
  · extract_lets +onlyGivenNames y
    exact .step (.refl _)

theorem execTciCaptureMove_answers (k : Fin 2) (s : State) : Answers s (exec (.tciCaptureMove k) s) := by
  show Answers s (execTciCaptureMove k s)
  unfold execTciCaptureMove
  extract_lets +onlyGivenNames y
  refine .next ?_
  split
  · exact .refl _
  · refine .ite (fun _ => ?_) fun _ => ?_
    · exact .refl _
    · extract_lets +onlyGivenNames y
      extract_lets +onlyGivenNames y
      extract_lets +onlyGivenNames y
      extract_lets +onlyGivenNames y
      extract_lets +onlyGivenNames y
      extract_lets +onlyGivenNames y
      extract_lets +onlyGivenNames y
      extract_lets +onlyGivenNames y
      refine .cut (x := y) (fun _ => ?_) ?_
      · clear_value y
        refine .trans ?_ (State.writeImage_keeps ..)
        exact .trans (by assumption) (State.writeImage_keeps ..)
      · subst y
        exact .step (.refl _)

theorem State.drawList_keeps (s : State) (n : Nat) : Keeps s (s.drawList n).2 := Keeps.step (Keeps.refl s)

theorem State.drawMag_keeps (s : State) : Keeps s s.drawMag.2 := State.draw_keeps s

theorem State.drawBit_keeps (s : State) : Keeps s s.drawBit.2 := State.draw_keeps s

theorem State.setCs_keeps (s : State) (n : Fin 16) (f : Slot → Slot) : Keeps s (State.setCs s n f) := by
  unfold State.setCs
  exact .step (.refl _)

theorem State.renewSlots_keeps (s : State) : Keeps s (State.renewSlots s) := by
  unfold State.renewSlots
  exact .step (.refl _)

theorem State.endJob_keeps (s : State) (n : Fin 16) (code : Nat) (sol : Option Solution) : Keeps s (State.endJob s n code sol) := by
  unfold State.endJob
  split
  · exact .refl _
  · extract_lets +onlyGivenNames y
    refine .cut (x := y) (fun _ => ?_) ?_
    · clear_value y
      refine .trans ?_ (State.trigger_keeps ..)
      exact .step (by assumption)
    · subst y
      exact State.setCs_keeps ..

theorem State.setJob_keeps (s : State) (n : Fin 16) (f : Job → Job) : Keeps s (State.setJob s n f) := by
  unfold State.setJob
  exact State.setCs_keeps ..

theorem refine_keeps (bound : Dyad) (cap : Nat) (s : State) (x : List F64) (r : F64) (k : Nat) : Keeps s (refine bound cap s x r k).2 := by
  induction cap generalizing s x r k with
  | zero => exact Keeps.refl s
  | succ n ih =>
    have h := (State.drawList_keeps s x.length).trans (State.drawMag_keeps _)
    unfold refine
    split
    · exact Keeps.refl s
    · dsimp only
      split
      · exact h
      · split
        · exact h.trans (ih _ _ _ _)
        · exact h

theorem State.freeIterate_keeps (s : State) (x : Slot) (j : Job) : Keeps s (s.freeIterate x j).2 :=
  (((((((State.drawList_keeps s _).trans (State.drawList_keeps ..)).trans (State.drawList_keeps ..)).trans (State.drawMag_keeps _)).trans
    (State.drawMag_keeps _)).trans (State.drawMag_keeps _)).trans (State.drawMag_keeps _)).trans (State.drawMag_keeps _)

theorem State.endAtDeadline_keeps (s : State) (n : Fin 16) (held : Bool) : Keeps s (State.endAtDeadline s n held) := by
  unfold State.endAtDeadline
  extract_lets s1 x
  have h1 : Keeps s s1 := State.setJob_keeps ..
  clear_value s1
  cases x.job with
  | none => exact h1
  | some j =>
    dsimp only
    cases j.phase <;> dsimp only
    · exact h1
    · exact h1.trans (State.endJob_keeps ..)
    · have h2 := h1.trans (State.drawBit_keeps s1)
      have h3 := ((h2.trans (State.drawList_keeps _ x.size)).trans (State.drawMag_keeps _)).trans (State.draw_keeps _)
      refine Keeps.ite (fun _ => h2.trans (State.endJob_keeps ..)) fun _ => Keeps.ite (fun _ => ?_) fun _ => ?_
      · exact (h3.trans (State.setJob_keeps ..)).trans (State.endJob_keeps ..)
      · exact (h3.trans (State.setJob_keeps ..)).trans (State.endJob_keeps ..)
    · exact Keeps.ite (fun _ => h1.trans (State.endJob_keeps ..)) fun _ => h1.trans (State.endJob_keeps ..)
    · exact Keeps.ite (fun _ => h1.trans (State.endJob_keeps ..)) fun _ => h1.trans (State.endJob_keeps ..)
    · exact (h1.trans (State.setJob_keeps ..)).trans (State.endJob_keeps ..)
    · exact h1.trans (State.endJob_keeps ..)

theorem State.holdCrucible_keeps (s : State) : Keeps s (State.holdCrucible s) := by
  unfold State.holdCrucible
  split
  · refine .ite (fun _ => ?_) fun _ => ?_
    · exact State.endAtDeadline_keeps ..
    · exact .refl _
  · exact .refl _

theorem onSlot_keeps {s : State} {n : Nat} {k : Fin 16 → Served} (h : ∀ i, (k i).Keeps s) : (onSlot n k).Keeps s := by
  unfold onSlot
  split
  · exact h _
  · exact Served.Keeps.refuse

theorem State.onUsed_keeps {s u : State} {n : Nat} {k : Fin 16 → Served} (h : ∀ i, (k i).Keeps s) : (u.onUsed n k).Keeps s :=
  onSlot_keeps fun i => Served.Keeps.refuseIf (h i)

theorem cmdCruSlotSet_keeps (rq : Request) (s : State) : Keeps s (cmdCruSlotSet rq s) := by
  unfold cmdCruSlotSet
  refine serve_keeps fun _ => ?_
  extract_lets +onlyGivenNames y
  refine onSlot_keeps fun _ => ?_
  refine .refuseIf ?_
  exact .done (State.setCs_keeps ..)

theorem cmdCruSlotGet_keeps (rq : Request) (s : State) : Keeps s (cmdCruSlotGet rq s) := by
  unfold cmdCruSlotGet
  refine serve_keeps fun _ => ?_
  refine onSlot_keeps fun _ => ?_
  exact .done (.refl _)

theorem cmdCruPatternLoad_keeps (rq : Request) (s : State) : Keeps s (cmdCruPatternLoad rq s) := by
  unfold cmdCruPatternLoad
  refine serve_keeps fun _ => ?_
  refine State.onUsed_keeps fun _ => ?_
  exact .done (State.setCs_keeps ..)

theorem cmdCruAnalyse_keeps (rq : Request) (s : State) : Keeps s (cmdCruAnalyse rq s) := by
  unfold cmdCruAnalyse
  refine serve_keeps fun _ => ?_
  refine State.onUsed_keeps fun _ => ?_
  exact .later (State.setCs_keeps ..)

theorem cmdCruSlotInfo_keeps (rq : Request) (s : State) : Keeps s (cmdCruSlotInfo rq s) := by
  unfold cmdCruSlotInfo
  refine serve_keeps fun _ => ?_
  refine State.onUsed_keeps fun _ => ?_
  extract_lets +onlyGivenNames y
  refine .refuseIf ?_
  exact .done (.refl _)

theorem cmdCruJobSubmit_keeps (rq : Request) (s : State) : Keeps s (cmdCruJobSubmit rq s) := by
  unfold cmdCruJobSubmit
  refine serve_keeps fun _ => ?_
  refine onSlot_keeps fun _ => ?_
  extract_lets +onlyGivenNames y
  iterate 5 refine .refuseIf ?_
  extract_lets +onlyGivenNames y
  extract_lets +onlyGivenNames y
  exact .done (State.setCs_keeps ..)

theorem cmdCruResultRead_keeps (rq : Request) (s : State) : Keeps s (cmdCruResultRead rq s) := by
  unfold cmdCruResultRead
  refine serve_keeps fun _ => ?_
  refine State.onUsed_keeps fun _ => ?_
  extract_lets +onlyGivenNames y
  extract_lets +onlyGivenNames y
  exact .done (.refl _)

theorem cmdCruStatus_keeps (rq : Request) (s : State) : Keeps s (cmdCruStatus rq s) := by
  unfold cmdCruStatus
  refine serve_keeps fun _ => ?_
  extract_lets +onlyGivenNames y
  exact .done (.refl _)

theorem cmdCruClear_keeps (rq : Request) (s : State) : Keeps s (cmdCruClear rq s) := by
  unfold cmdCruClear
  refine serve_keeps fun _ => ?_
  exact .done (.step (.refl _))

theorem State.onQp_keeps {s u : State} {n : Nat} {k : Fin 16 → Served} (h : ∀ i, (k i).Keeps s) : (u.onQp n k).Keeps s :=
  onSlot_keeps fun i => Served.Keeps.refuseIf (h i)

theorem cmdCruQpSet_keeps (rq : Request) (s : State) : Keeps s (cmdCruQpSet rq s) := by
  unfold cmdCruQpSet
  refine serve_keeps fun _ => ?_
  extract_lets +onlyGivenNames y
  refine State.onQp_keeps fun _ => ?_
  refine .refuseIf ?_
  exact .done (State.setCs_keeps ..)

theorem cmdCruQpGet_keeps (rq : Request) (s : State) : Keeps s (cmdCruQpGet rq s) := by
  unfold cmdCruQpGet
  refine serve_keeps fun _ => ?_
  refine State.onQp_keeps fun _ => ?_
  exact .done (.refl _)

theorem cmdCruQpInfo_keeps (rq : Request) (s : State) : Keeps s (cmdCruQpInfo rq s) := by
  unfold cmdCruQpInfo
  refine serve_keeps fun _ => ?_
  refine State.onQp_keeps fun _ => ?_
  exact .done (.refl _)

theorem cmdCruInputWrite_keeps (rq : Request) (s : State) : Keeps s (cmdCruInputWrite rq s) := by
  unfold cmdCruInputWrite
  refine serve_keeps fun _ => ?_
  refine onSlot_keeps fun _ => ?_
  extract_lets +onlyGivenNames y
  extract_lets +onlyGivenNames y
  extract_lets +onlyGivenNames y
  iterate 3 refine .refuseIf ?_
  split
  · exact .refuse
  · iterate 2 refine .refuseIf ?_
    exact .done (State.setCs_keeps ..)

theorem execCruSlotSet_answers (rq : Request) (s : State) : Answers s (exec (.cruSlotSet rq) s) :=
  show Answers s (execCruSlotSet rq s) from Answers.next (State.command_keeps s rq _ (cmdCruSlotSet_keeps rq))

theorem execCruSlotGet_answers (rq : Request) (s : State) : Answers s (exec (.cruSlotGet rq) s) :=
  show Answers s (execCruSlotGet rq s) from Answers.next (State.command_keeps s rq _ (cmdCruSlotGet_keeps rq))

theorem execCruPatternLoad_answers (rq : Request) (s : State) : Answers s (exec (.cruPatternLoad rq) s) :=
  show Answers s (execCruPatternLoad rq s) from Answers.next (State.command_keeps s rq _ (cmdCruPatternLoad_keeps rq))

theorem execCruAnalyse_answers (rq : Request) (s : State) : Answers s (exec (.cruAnalyse rq) s) :=
  show Answers s (execCruAnalyse rq s) from Answers.next (State.command_keeps s rq _ (cmdCruAnalyse_keeps rq))

theorem execCruSlotInfo_answers (rq : Request) (s : State) : Answers s (exec (.cruSlotInfo rq) s) :=
  show Answers s (execCruSlotInfo rq s) from Answers.next (State.command_keeps s rq _ (cmdCruSlotInfo_keeps rq))

theorem execCruJobSubmit_answers (rq : Request) (s : State) : Answers s (exec (.cruJobSubmit rq) s) :=
  show Answers s (execCruJobSubmit rq s) from Answers.next (State.command_keeps s rq _ (cmdCruJobSubmit_keeps rq))

theorem execCruResultRead_answers (rq : Request) (s : State) : Answers s (exec (.cruResultRead rq) s) :=
  show Answers s (execCruResultRead rq s) from Answers.next (State.command_keeps s rq _ (cmdCruResultRead_keeps rq))

theorem execCruStatus_answers (rq : Request) (s : State) : Answers s (exec (.cruStatus rq) s) :=
  show Answers s (execCruStatus rq s) from Answers.next (State.command_keeps s rq _ (cmdCruStatus_keeps rq))

theorem execCruClear_answers (rq : Request) (s : State) : Answers s (exec (.cruClear rq) s) :=
  show Answers s (execCruClear rq s) from Answers.next (State.command_keeps s rq _ (cmdCruClear_keeps rq))

theorem execCruQpSet_answers (rq : Request) (s : State) : Answers s (exec (.cruQpSet rq) s) :=
  show Answers s (execCruQpSet rq s) from Answers.next (State.command_keeps s rq _ (cmdCruQpSet_keeps rq))

theorem execCruQpGet_answers (rq : Request) (s : State) : Answers s (exec (.cruQpGet rq) s) :=
  show Answers s (execCruQpGet rq s) from Answers.next (State.command_keeps s rq _ (cmdCruQpGet_keeps rq))

theorem execCruQpInfo_answers (rq : Request) (s : State) : Answers s (exec (.cruQpInfo rq) s) :=
  show Answers s (execCruQpInfo rq s) from Answers.next (State.command_keeps s rq _ (cmdCruQpInfo_keeps rq))

theorem execCruInputWrite_answers (rq : Request) (s : State) : Answers s (exec (.cruInputWrite rq) s) :=
  show Answers s (execCruInputWrite rq s) from Answers.next (State.command_keeps s rq _ (cmdCruInputWrite_keeps rq))

theorem Slot.analyse_keeps (x : Slot) (now : Nat) (s : State) : Keeps s (x.analyse now s).2 := State.drawList_keeps s 13

theorem execAnalysisComplete_answers (slot : Fin 16) (s : State) : Answers s (exec (.analysisComplete slot) s) := by
  show Answers s (execAnalysisComplete slot s)
  unfold execAnalysisComplete
  refine .next ?_
  extract_lets +onlyGivenNames y
  refine .ite (fun _ => ?_) fun _ => ?_
  · exact .refl _
  · split
    · rename_i eq
      have hp := Keeps.of_eq (Slot.analyse_keeps ..) eq
      extract_lets +onlyGivenNames y
      extract_lets +onlyGivenNames y
      refine .cut (x := y) (fun _ => ?_) ?_
      · clear_value y
        refine .foldl (fun _ _ => ?_) ?_
        · refine .ite (fun _ => ?_) fun _ => ?_
          · exact State.reply_keeps ..
          · exact State.refuse_keeps ..
        · assumption
      · subst y
        exact .trans (by assumption) (State.setCs_keeps ..)

theorem State.enqueue_keeps (s : State) (n : Fin 16) : Keeps s (State.enqueue s n) := by
  unfold State.enqueue
  extract_lets +onlyGivenNames y
  exact .step (.refl _)

theorem execCruRequestTake_answers (slot : Fin 16) (s : State) : Answers s (exec (.cruRequestTake slot) s) := by
  show Answers s (execCruRequestTake slot s)
  unfold execCruRequestTake
  refine Answers.next ?_
  extract_lets +onlyGivenNames x
  refine Keeps.ite (fun _ => ?_) fun _ => Keeps.refl s
  extract_lets +onlyGivenNames s1
  have h1 : Keeps s s1 := State.setCs_keeps ..
  clear_value s1
  refine Keeps.ite (fun _ => Keeps.step (h1.trans (State.setCs_keeps ..))) fun _ => ?_
  by_cases g : 1 < x.req.INSET.toNat
  · rw [if_pos g]
    exact ((h1.trans (State.drawBit_keeps s1)).trans (State.setCs_keeps ..)).trans (State.enqueue_keeps ..)
  · rw [if_neg g]
    exact (h1.trans (State.setCs_keeps ..)).trans (State.enqueue_keeps ..)

theorem State.beginSolve_keeps (s : State) (n : Fin 16) (stale : Bool) : Keeps s (State.beginSolve s n stale) := by
  unfold State.beginSolve
  extract_lets +onlyGivenNames y
  extract_lets +onlyGivenNames y
  extract_lets +onlyGivenNames y
  exact State.setJob_keeps ..

theorem execCruJobStart_answers (s : State) : Answers s (exec .cruJobStart s) := by
  show Answers s (execCruJobStart s)
  unfold execCruJobStart
  refine .next ?_
  split
  · extract_lets +onlyGivenNames y
    split
    · exact .refl _
    · refine .ite (fun _ => ?_) fun _ => ?_
      · exact .refl _
      · extract_lets +onlyGivenNames y
        split
        · extract_lets +onlyGivenNames y
          extract_lets +onlyGivenNames y
          refine .cut (x := y) (fun _ => ?_) ?_
          · clear_value y
            extract_lets +onlyGivenNames y
            refine .cut (x := y) (fun _ => ?_) ?_
            · clear_value y
              extract_lets +onlyGivenNames y
              refine .cut (x := y) (fun _ => ?_) ?_
              · clear_value y
                split
                · refine .trans ?_ (State.endJob_keeps ..)
                  exact .trans (by assumption) (State.setJob_keeps ..)
                · extract_lets +onlyGivenNames y
                  refine .cut (x := y) (fun _ => ?_) ?_
                  · clear_value y
                    refine .ite (fun _ => ?_) fun _ => ?_
                    · exact .trans (by assumption) (State.endJob_keeps ..)
                    · refine .ite (fun _ => ?_) fun _ => ?_
                      · exact .trans (by assumption) (State.endJob_keeps ..)
                      · refine .ite (fun _ => ?_) fun _ => ?_
                        · exact .trans (by assumption) (State.beginSolve_keeps ..)
                        · exact .trans (by assumption) (State.setJob_keeps ..)
                  · subst y
                    exact .trans (by assumption) (State.setCs_keeps ..)
              · subst y
                exact .trans (by assumption) (State.setJob_keeps ..)
            · subst y
              exact .trans (by assumption) (State.setCs_keeps ..)
          · subst y
            exact .step (.refl _)
  · exact .refl _

theorem State.factorTime_keeps (s : State) (n : Fin 16) (whole : Bool) : Keeps s (State.factorTime s n whole) := by
  unfold State.factorTime
  exact State.setCs_keeps ..

theorem State.newFactor_keeps (s : State) (rho : F64) : Keeps s (s.newFactor rho).2.2 :=
  ((State.draw_keeps s).trans (State.drawBit_keeps _)).trans (State.drawBit_keeps _)

theorem execCruFactorComplete_answers (s : State) : Answers s (exec .cruFactorComplete s) := by
  show Answers s (execCruFactorComplete s)
  unfold execCruFactorComplete
  refine .next ?_
  split
  · refine .ite (fun _ => ?_) fun _ => ?_
    · extract_lets +onlyGivenNames v1
      refine .cut (x := v1) (fun _ => ?_) ?_
      · clear_value v1
        split
        · rename_i t eq
          refine .cut (x := t) (fun _ => ?_) (Keeps.trans ?_ (Keeps.of_eq2 (State.newFactor_keeps ..) eq))
          · refine .ite (fun _ => ?_) fun _ => ?_
            · exact .trans (by assumption) (State.endJob_keeps ..)
            · extract_lets +onlyGivenNames v2
              refine .cut (x := v2) (fun _ => ?_) ?_
              · clear_value v2
                refine .ite (fun _ => ?_) fun _ => ?_
                · exact .trans (by assumption) (State.endJob_keeps ..)
                · assumption
              · subst v2
                refine .trans ?_ (State.beginSolve_keeps ..)
                exact .trans (by assumption) (State.setCs_keeps ..)
          · assumption
      · subst v1
        exact State.factorTime_keeps ..
    · exact .refl _
  · exact .refl _

theorem execCruFactorCutoff_answers (s : State) : Answers s (exec .cruFactorCutoff s) := by
  show Answers s (execCruFactorCutoff s)
  unfold execCruFactorCutoff
  refine .next ?_
  split
  · refine .ite (fun _ => ?_) fun _ => ?_
    · exact .refl _
    · split
      · refine .ite (fun _ => ?_) fun _ => ?_
        · refine .trans ?_ (State.beginSolve_keeps ..)
          exact State.factorTime_keeps ..
        · exact .refl _
      · refine .trans ?_ (State.setJob_keeps ..)
        exact State.factorTime_keeps ..
      · exact .refl _
  · exact .refl _

theorem execCruDeadline_answers (slot : Fin 16) (s : State) : Answers s (exec (.cruDeadline slot) s) := by
  show Answers s (execCruDeadline slot s)
  unfold execCruDeadline
  refine .next ?_
  split
  · refine .ite (fun _ => ?_) fun _ => ?_
    · exact State.endAtDeadline_keeps ..
    · exact .refl _
  · exact .refl _

theorem execCruSolveComplete_answers (s : State) : Answers s (exec .cruSolveComplete s) := by
  show Answers s (execCruSolveComplete s)
  unfold execCruSolveComplete
  refine .next ?_
  split
  · refine .ite (fun _ => ?_) fun _ => ?_
    · extract_lets +onlyGivenNames v1
      extract_lets +onlyGivenNames v2
      extract_lets +onlyGivenNames v3
      extract_lets +onlyGivenNames v4
      split
      · rename_i t eq
        refine .cut (x := t) (fun _ => ?_) (Keeps.trans ?_ (Keeps.of_eq (State.drawList_keeps ..) eq))
        · split
          · rename_i t eq
            refine .cut (x := t) (fun _ => ?_) (Keeps.trans ?_ (Keeps.of_eq (State.drawMag_keeps ..) eq))
            · extract_lets +onlyGivenNames v5
              refine .cut (x := v5) (fun _ => ?_) ?_
              · clear_value v5
                refine .ite (fun _ => ?_) fun _ => ?_
                · exact .trans (by assumption) (State.endJob_keeps ..)
                · split
                  · rename_i t eq
                    refine .cut (x := t) (fun _ => ?_) (Keeps.trans ?_ (Keeps.of_eq (refine_keeps ..) eq))
                    · extract_lets +onlyGivenNames v6
                      refine .cut (x := v6) (fun _ => ?_) ?_
                      · clear_value v6
                        refine .ite (fun _ => ?_) fun _ => ?_
                        · exact .trans (by assumption) (State.endJob_keeps ..)
                        · exact .trans (by assumption) (State.endJob_keeps ..)
                      · subst v6
                        exact .trans (by assumption) (State.setJob_keeps ..)
                    · assumption
              · subst v5
                exact .trans (by assumption) (State.setJob_keeps ..)
            · assumption
        · exact .refl _
    · exact .refl _
  · exact .refl _

theorem State.kktSteps_keeps (s : State) (x : Slot) (j : Job) : Keeps s (s.kktSteps x j).2 := by
  unfold State.kktSteps
  extract_lets p cap
  split
  · exact Keeps.refl s
  · exact State.draw_keeps s

theorem State.infeasible_keeps (s : State) (x : Slot) (j : Job) (old new : Iterate) : Keeps s (s.infeasible x j old new).2 := by
  unfold State.infeasible
  dsimp only
  have h := ((((State.drawMag_keeps s).trans (State.draw_keeps _)).trans (State.drawMag_keeps _)).trans (State.draw_keeps _)).trans
    (State.drawList_keeps _ j.lo.length)
  split
  · exact h
  · split
    · exact h
    · exact h

theorem State.endIteration_keeps (s : State) (n : Fin 16) (code : Nat) : Keeps s (State.endIteration s n code) := by
  unfold State.endIteration
  extract_lets +onlyGivenNames y
  split
  · exact .refl _
  · extract_lets +onlyGivenNames y
    extract_lets +onlyGivenNames y
    extract_lets +onlyGivenNames y
    refine .ite (fun _ => ?_) fun _ => ?_
    · exact State.setJob_keeps ..
    · refine .trans ?_ (State.endJob_keeps ..)
      exact State.setJob_keeps ..

theorem State.adapt_keeps (s : State) (n : Fin 16) (x : Slot) (j : Job) (i : Iterate) : Keeps s (State.adapt s n x j i) := by
  unfold State.adapt
  refine .ite (fun _ => ?_) fun _ => ?_
  · exact .refl _
  · split
    · exact .refl _
    · extract_lets +onlyGivenNames y
      refine .ite (fun _ => ?_) fun _ => ?_
      · exact State.setJob_keeps ..
      · exact State.setJob_keeps ..

theorem State.checkIterate_keeps (s : State) (n : Fin 16) (x : Slot) (j : Job) (i : Iterate) : Keeps s (State.checkIterate s n x j i) := by
  unfold State.checkIterate
  extract_lets best s1
  have h1 : Keeps s s1 := State.setJob_keeps ..
  clear_value s1
  refine Keeps.ite (fun _ => h1.trans (State.endIteration_keeps ..)) fun _ => ?_
  have h3 : ∀ p : Option Nat × State, Keeps s p.2 → Keeps s (match p with
      | (some c, t) => t.endJob n c none
      | (none, t) => if t.iterCap x ≤ j.iters then t.endIteration n 1 else t.adapt n x j i) := by
    intro p h2
    obtain ⟨bad, s2⟩ := p
    cases bad with
    | none => exact Keeps.ite (fun _ => h2.trans (State.endIteration_keeps ..)) fun _ => h2.trans (State.adapt_keeps ..)
    | some c => exact h2.trans (State.endJob_keeps ..)
  cases j.last with
  | none => exact h3 (none, s1) h1
  | some o =>
    dsimp only
    by_cases g : (j.stale || F64.eq x.qp.EPS_INF F64.zero) = true
    · rw [if_pos g]; exact h3 (none, s1) h1
    · rw [if_neg g]
      have h4 := h3 (s1.infeasible x j o i) (h1.trans (State.infeasible_keeps ..))
      generalize s1.infeasible x j o i = p at h4
      obtain ⟨bad, t⟩ := p
      cases bad <;> exact h4

theorem execQpIterationComplete_answers (s : State) : Answers s (exec .qpIterationComplete s) := by
  show Answers s (execQpIterationComplete s)
  unfold execQpIterationComplete
  refine .next ?_
  split
  · refine .ite (fun _ => ?_) fun _ => ?_
    · extract_lets +onlyGivenNames v1
      split
      · rename_i t eq
        refine .cut (x := t) (fun _ => ?_) (Keeps.trans ?_ (Keeps.of_eq (State.kktSteps_keeps ..) eq))
        · split
          · rename_i t eq
            refine .cut (x := t) (fun _ => ?_) (Keeps.trans ?_ (Keeps.of_eq (State.freeIterate_keeps ..) eq))
            · extract_lets +onlyGivenNames v2
              extract_lets +onlyGivenNames v3
              extract_lets +onlyGivenNames v4
              refine .cut (x := v4) (fun _ => ?_) ?_
              · clear_value v4
                refine .ite (fun _ => ?_) fun _ => ?_
                · exact .trans (by assumption) (State.endJob_keeps ..)
                · refine .ite (fun _ => ?_) fun _ => ?_
                  · exact .trans (by assumption) (State.checkIterate_keeps ..)
                  · assumption
              · subst v4
                exact .trans (by assumption) (State.setJob_keeps ..)
            · assumption
        · exact .refl _
    · exact .refl _
  · exact .refl _

theorem execQpRefactorComplete_answers (s : State) : Answers s (exec .qpRefactorComplete s) := by
  show Answers s (execQpRefactorComplete s)
  unfold execQpRefactorComplete
  refine .next ?_
  split
  · refine .ite (fun _ => ?_) fun _ => ?_
    · extract_lets +onlyGivenNames v1
      refine .cut (x := v1) (fun _ => ?_) ?_
      · clear_value v1
        split
        · rename_i t eq
          refine .cut (x := t) (fun _ => ?_) (Keeps.trans ?_ (Keeps.of_eq2 (State.newFactor_keeps ..) eq))
          · refine .ite (fun _ => ?_) fun _ => ?_
            · exact .trans (by assumption) (State.endJob_keeps ..)
            · extract_lets +onlyGivenNames v2
              refine .cut (x := v2) (fun _ => ?_) ?_
              · clear_value v2
                extract_lets +onlyGivenNames v3
                refine .cut (x := v3) (fun _ => ?_) ?_
                · clear_value v3
                  refine .ite (fun _ => ?_) fun _ => ?_
                  · exact .trans (by assumption) (State.endJob_keeps ..)
                  · assumption
                · subst v3
                  exact .trans (by assumption) (State.setJob_keeps ..)
              · subst v2
                exact .trans (by assumption) (State.setCs_keeps ..)
          · assumption
      · subst v1
        exact State.factorTime_keeps ..
    · exact .refl _
  · exact .refl _

theorem State.endPolish_keeps (s : State) (n : Fin 16) (accept : Bool) (i : Iterate) : Keeps s (State.endPolish s n accept i) := by
  unfold State.endPolish
  split
  · exact .refl _
  · refine .ite (fun _ => ?_) fun _ => ?_
    · refine .trans ?_ (State.endJob_keeps ..)
      exact State.setJob_keeps ..
    · refine .trans ?_ (State.endJob_keeps ..)
      exact State.setJob_keeps ..

theorem execPolishStepComplete_answers (s : State) : Answers s (exec .polishStepComplete s) := by
  show Answers s (execPolishStepComplete s)
  unfold execPolishStepComplete
  refine .next ?_
  split
  · refine .ite (fun _ => ?_) fun _ => ?_
    · split
      · rename_i t eq
        refine .cut (x := t) (fun _ => ?_) (Keeps.trans ?_ (Keeps.of_eq (State.drawBit_keeps ..) eq))
        · split
          · rename_i t eq
            refine .cut (x := t) (fun _ => ?_) (Keeps.trans ?_ (Keeps.of_eq (State.freeIterate_keeps ..) eq))
            · extract_lets +onlyGivenNames v1
              refine .cut (x := v1) (fun _ => ?_) ?_
              · clear_value v1
                refine .ite (fun _ => ?_) fun _ => ?_
                · exact .trans (by assumption) (State.endPolish_keeps ..)
                · refine .ite (fun _ => ?_) fun _ => ?_
                  · exact .trans (by assumption) (State.endJob_keeps ..)
                  · refine .ite (fun _ => ?_) fun _ => ?_
                    · assumption
                    · exact .trans (by assumption) (State.endPolish_keeps ..)
              · subst v1
                exact .trans (by assumption) (State.setJob_keeps ..)
            · assumption
        · exact .refl _
    · exact .refl _
  · exact .refl _

theorem State.faultJob_keeps (s : State) (n : Fin 16) (frontLost : Bool) : Keeps s (State.faultJob s n frontLost) := by
  unfold State.faultJob
  refine .trans ?_ (State.setCs_keeps ..)
  exact State.endJob_keeps ..

theorem execScratchError_answers (uncorrectable : Bool) (s : State) : Answers s (exec (.scratchError uncorrectable) s) := by
  show Answers s (execScratchError uncorrectable s)
  unfold execScratchError
  refine .next ?_
  refine .ite (fun _ => ?_) fun _ => ?_
  · exact .step (.refl _)
  · extract_lets +onlyGivenNames y
    extract_lets +onlyGivenNames y
    extract_lets +onlyGivenNames y
    refine .cut (x := y) (fun _ => ?_) ?_
    · clear_value y
      extract_lets +onlyGivenNames y
      refine .cut (x := y) (fun _ => ?_) ?_
      · clear_value y
        split
        · exact .trans (by assumption) (State.faultJob_keeps ..)
        · assumption
      · subst y
        exact .trans (by assumption) (State.event_keeps ..)
    · subst y
      exact .step (.refl _)

theorem State.setLoop_keeps (s : State) (n : Fin 256) (l : Loop) : Keeps s (State.setLoop s n l) := by
  unfold State.setLoop
  exact .step (.refl _)

theorem State.writeOut_keeps (s : State) (w : BitVec 32) (out : Int) (cls : BitVec 2) : Keeps s (State.writeOut s w out cls) := by
  unfold State.writeOut
  extract_lets +onlyGivenNames y
  extract_lets +onlyGivenNames y
  split
  · exact .refl _
  · refine .trans ?_ (State.noteOutput_keeps ..)
    exact State.writeImage_keeps ..

theorem onLoop_keeps {s : State} {n : Nat} {k : Fin 256 → Served} (h : ∀ i, (k i).Keeps s) : (onLoop n k).Keeps s := by
  unfold onLoop
  split
  · exact h _
  · exact Served.Keeps.refuse

theorem cmdLoopSet_keeps (rq : Request) (s : State) : Keeps s (cmdLoopSet rq s) := by
  unfold cmdLoopSet
  refine serve_keeps fun _ => ?_
  extract_lets +onlyGivenNames y
  refine onLoop_keeps fun _ => ?_
  refine .refuseIf ?_
  exact .done (State.setLoop_keeps ..)

theorem cmdLoopGet_keeps (rq : Request) (s : State) : Keeps s (cmdLoopGet rq s) := by
  unfold cmdLoopGet
  refine serve_keeps fun _ => ?_
  refine onLoop_keeps fun _ => ?_
  extract_lets +onlyGivenNames y
  exact .done (.refl _)

theorem cmdLoopSwapBank_keeps (rq : Request) (s : State) : Keeps s (cmdLoopSwapBank rq s) := by
  unfold cmdLoopSwapBank
  refine serve_keeps fun _ => ?_
  refine onLoop_keeps fun _ => ?_
  extract_lets +onlyGivenNames y
  iterate 4 refine .refuseIf ?_
  exact .done (State.setLoop_keeps ..)

theorem cmdLoopBankWrite_keeps (rq : Request) (s : State) : Keeps s (cmdLoopBankWrite rq s) := by
  unfold cmdLoopBankWrite
  refine serve_keeps fun _ => ?_
  refine onLoop_keeps fun _ => ?_
  extract_lets +onlyGivenNames y
  extract_lets +onlyGivenNames y
  iterate 3 refine .refuseIf ?_
  extract_lets +onlyGivenNames y
  extract_lets +onlyGivenNames y
  exact .done (State.setLoop_keeps ..)

theorem cmdLoopBankRead_keeps (rq : Request) (s : State) : Keeps s (cmdLoopBankRead rq s) := by
  unfold cmdLoopBankRead
  refine serve_keeps fun _ => ?_
  refine onLoop_keeps fun _ => ?_
  refine .refuseIf ?_
  exact .done (.refl _)

theorem cmdLoopMode_keeps (rq : Request) (s : State) : Keeps s (cmdLoopMode rq s) := by
  unfold cmdLoopMode
  refine serve_keeps fun _ => ?_
  refine onLoop_keeps fun _ => ?_
  extract_lets +onlyGivenNames y
  split
  · exact .refuse
  · iterate 3 refine .refuseIf ?_
    exact .done (State.setLoop_keeps ..)

theorem cmdLoopResetTrip_keeps (rq : Request) (s : State) : Keeps s (cmdLoopResetTrip rq s) := by
  unfold cmdLoopResetTrip
  refine serve_keeps fun _ => ?_
  refine onLoop_keeps fun _ => ?_
  extract_lets +onlyGivenNames y
  iterate 2 refine .refuseIf ?_
  exact .done (State.setLoop_keeps ..)

theorem cmdLoopStatus_keeps (rq : Request) (s : State) : Keeps s (cmdLoopStatus rq s) := by
  unfold cmdLoopStatus
  refine serve_keeps fun _ => ?_
  refine onLoop_keeps fun _ => ?_
  extract_lets +onlyGivenNames y
  exact .done (.refl _)

theorem cmdLoopClear_keeps (rq : Request) (s : State) : Keeps s (cmdLoopClear rq s) := by
  unfold cmdLoopClear
  refine serve_keeps fun _ => ?_
  refine .ite (fun _ => ?_) fun _ => ?_
  · exact .done (.step (.refl _))
  · refine onLoop_keeps fun _ => ?_
    exact .done (State.setLoop_keeps ..)

theorem cmdLoopEngineStatus_keeps (rq : Request) (s : State) : Keeps s (cmdLoopEngineStatus rq s) := by
  unfold cmdLoopEngineStatus
  refine serve_keeps fun _ => ?_
  extract_lets +onlyGivenNames y
  exact .done (.refl _)

theorem execLoopSet_answers (rq : Request) (s : State) : Answers s (exec (.loopSet rq) s) :=
  show Answers s (execLoopSet rq s) from Answers.next (State.command_keeps s rq _ (cmdLoopSet_keeps rq))

theorem execLoopGet_answers (rq : Request) (s : State) : Answers s (exec (.loopGet rq) s) :=
  show Answers s (execLoopGet rq s) from Answers.next (State.command_keeps s rq _ (cmdLoopGet_keeps rq))

theorem execLoopSwapBank_answers (rq : Request) (s : State) : Answers s (exec (.loopSwapBank rq) s) :=
  show Answers s (execLoopSwapBank rq s) from Answers.next (State.command_keeps s rq _ (cmdLoopSwapBank_keeps rq))

theorem execLoopBankWrite_answers (rq : Request) (s : State) : Answers s (exec (.loopBankWrite rq) s) :=
  show Answers s (execLoopBankWrite rq s) from Answers.next (State.command_keeps s rq _ (cmdLoopBankWrite_keeps rq))

theorem execLoopBankRead_answers (rq : Request) (s : State) : Answers s (exec (.loopBankRead rq) s) :=
  show Answers s (execLoopBankRead rq s) from Answers.next (State.command_keeps s rq _ (cmdLoopBankRead_keeps rq))

theorem execLoopMode_answers (rq : Request) (s : State) : Answers s (exec (.loopMode rq) s) :=
  show Answers s (execLoopMode rq s) from Answers.next (State.command_keeps s rq _ (cmdLoopMode_keeps rq))

theorem execLoopResetTrip_answers (rq : Request) (s : State) : Answers s (exec (.loopResetTrip rq) s) :=
  show Answers s (execLoopResetTrip rq s) from Answers.next (State.command_keeps s rq _ (cmdLoopResetTrip_keeps rq))

theorem execLoopStatus_answers (rq : Request) (s : State) : Answers s (exec (.loopStatus rq) s) :=
  show Answers s (execLoopStatus rq s) from Answers.next (State.command_keeps s rq _ (cmdLoopStatus_keeps rq))

theorem execLoopClear_answers (rq : Request) (s : State) : Answers s (exec (.loopClear rq) s) :=
  show Answers s (execLoopClear rq s) from Answers.next (State.command_keeps s rq _ (cmdLoopClear_keeps rq))

theorem execLoopEngineStatus_answers (rq : Request) (s : State) : Answers s (exec (.loopEngineStatus rq) s) :=
  show Answers s (execLoopEngineStatus rq s) from Answers.next (State.command_keeps s rq _ (cmdLoopEngineStatus_keeps rq))

theorem State.loopTripped_keeps (s : State) (n : Fin 256) (old : LoopMode) (cause : Nat) : Keeps s (State.loopTripped s n old cause) := by
  unfold State.loopTripped
  refine .trans ?_ (State.trigger_keeps ..)
  exact State.event_keeps ..

theorem State.tripLoop_keeps (s : State) (n : Fin 256) (cause : Nat) : Keeps s (State.tripLoop s n cause) := by
  unfold State.tripLoop
  extract_lets +onlyGivenNames y
  refine .ite (fun _ => ?_) fun _ => ?_
  · exact .refl _
  · refine .trans ?_ (State.loopTripped_keeps ..)
    exact State.setLoop_keeps ..

theorem State.lateSample_keeps (s : State) (n : Fin 256) : Keeps s (State.lateSample s n) := by
  unfold State.lateSample
  extract_lets +onlyGivenNames y
  extract_lets +onlyGivenNames y
  extract_lets +onlyGivenNames y
  extract_lets +onlyGivenNames y
  refine .cut (x := y) (fun _ => ?_) ?_
  · clear_value y
    extract_lets +onlyGivenNames y
    extract_lets +onlyGivenNames y
    extract_lets +onlyGivenNames y
    refine .cut (x := y) (fun _ => ?_) ?_
    · clear_value y
      extract_lets +onlyGivenNames y
      refine .cut (x := y) (fun _ => ?_) ?_
      · clear_value y
        refine .ite (fun _ => ?_) fun _ => ?_
        · exact .trans (by assumption) (State.tripLoop_keeps ..)
        · assumption
      · subst y
        exact .trans (by assumption) (State.event_keeps ..)
    · subst y
      exact .step (by assumption)
  · subst y
    exact State.setLoop_keeps ..

theorem State.boundaryOut_keeps (s : State) (n : Fin 256) : Keeps s (State.boundaryOut s n) := by
  unfold State.boundaryOut
  extract_lets +onlyGivenNames y
  refine .ite (fun _ => ?_) fun _ => ?_
  · exact State.lateSample_keeps ..
  · refine .ite (fun _ => ?_) fun _ => ?_
    · extract_lets +onlyGivenNames y
      refine .trans ?_ (State.writeOut_keeps ..)
      exact State.setLoop_keeps ..
    · refine .ite (fun _ => ?_) fun _ => ?_
      · refine .trans ?_ (State.writeOut_keeps ..)
        exact State.setLoop_keeps ..
      · exact .refl _

theorem State.readSources_keeps (s : State) (n : Fin 256) : Keeps s (State.readSources s n) := by
  unfold State.readSources
  extract_lets +onlyGivenNames y
  extract_lets +onlyGivenNames y
  extract_lets +onlyGivenNames y
  exact State.setLoop_keeps ..

theorem execLoopBoundary_answers (n : Fin 256) (s : State) : Answers s (exec (.loopBoundary n) s) := by
  show Answers s (execLoopBoundary n s)
  unfold execLoopBoundary
  refine .next ?_
  extract_lets +onlyGivenNames y
  refine .ite (fun _ => ?_) fun _ => ?_
  · refine .trans ?_ (State.readSources_keeps ..)
    exact State.boundaryOut_keeps ..
  · exact .refl _

theorem State.finishSample_keeps (s : State) (n : Fin 256) (b : Nat) (x : LoopSources) : Keeps s (State.finishSample s n b x) := by
  unfold State.finishSample
  extract_lets +onlyGivenNames y
  extract_lets +onlyGivenNames y
  extract_lets +onlyGivenNames y
  extract_lets +onlyGivenNames y
  refine .cut (x := y) (fun _ => ?_) ?_
  · clear_value y
    extract_lets +onlyGivenNames y
    extract_lets +onlyGivenNames y
    extract_lets +onlyGivenNames y
    refine .cut (x := y) (fun _ => ?_) ?_
    · clear_value y
      extract_lets +onlyGivenNames y
      refine .cut (x := y) (fun _ => ?_) ?_
      · clear_value y
        extract_lets +onlyGivenNames y
        refine .cut (x := y) (fun _ => ?_) ?_
        · clear_value y
          split
          · exact .trans (by assumption) (State.loopTripped_keeps ..)
          · refine .ite (fun _ => ?_) fun _ => ?_
            · exact .trans (by assumption) (State.trigger_keeps ..)
            · assumption
        · subst y
          refine .ite (fun _ => ?_) fun _ => ?_
          · exact .trans (by assumption) (State.event_keeps ..)
          · assumption
      · subst y
        refine .ite (fun _ => ?_) fun _ => ?_
        · exact .trans (by assumption) (State.event_keeps ..)
        · assumption
    · subst y
      exact .step (by assumption)
  · subst y
    exact State.setLoop_keeps ..

theorem execLoopSampleComplete_answers (n : Fin 256) (s : State) : Answers s (exec (.loopSampleComplete n) s) := by
  show Answers s (execLoopSampleComplete n s)
  unfold execLoopSampleComplete
  refine .next ?_
  split
  · refine .ite (fun _ => ?_) fun _ => ?_
    · exact State.finishSample_keeps ..
    · exact .refl _
  · exact .refl _

theorem execFeTimerExpire_answers (n : Fin 256) (s : State) : Answers s (exec (.feTimerExpire n) s) := by
  show Answers s (execFeTimerExpire n s)
  unfold execFeTimerExpire
  refine .next ?_
  split
  · refine .ite (fun _ => ?_) fun _ => ?_
    · exact State.finishSample_keeps ..
    · exact .refl _
  · exact .refl _

theorem cmdOlcLoad_keeps (rq : Request) (s : State) : Keeps s (cmdOlcLoad rq s) := by
  unfold cmdOlcLoad
  refine serve_keeps fun _ => ?_
  extract_lets +onlyGivenNames y
  extract_lets +onlyGivenNames y
  extract_lets +onlyGivenNames y
  extract_lets +onlyGivenNames y
  refine .refuseIf ?_
  exact .done (.step (.refl _))

theorem State.activateCheck_keeps {s u : State} {p : PkgInfo} {k : Served} (h : k.Keeps s) : (u.activateCheck p k).Keeps s := by
  unfold State.activateCheck
  iterate 9 refine Served.Keeps.refuseIf ?_
  split
  · exact Served.Keeps.refuse
  · split
    · exact Served.Keeps.refuse
    · iterate 2 refine Served.Keeps.refuseIf ?_
      exact h

theorem State.acceptChange_keeps (s : State) (p : PkgInfo) : Keeps s (State.acceptChange s p) := by
  unfold State.acceptChange
  extract_lets +onlyGivenNames y
  extract_lets +onlyGivenNames y
  extract_lets +onlyGivenNames y
  extract_lets +onlyGivenNames y
  refine .cut (x := y) (fun _ => ?_) ?_
  · clear_value y
    refine .ite (fun _ => ?_) fun _ => ?_
    · exact .trans (by assumption) (State.changeDone_keeps ..)
    · refine .ite (fun _ => ?_) fun _ => ?_
      · assumption
      · refine .foldl (fun _ _ => ?_) ?_
        · exact State.switchTask_keeps ..
        · assumption
  · subst y
    exact .step (.refl _)

theorem cmdOlcActivate_keeps (rq : Request) (s : State) : Keeps s (cmdOlcActivate rq s) := by
  unfold cmdOlcActivate
  refine serve_keeps fun _ => ?_
  extract_lets +onlyGivenNames y
  iterate 2 refine .refuseIf ?_
  refine State.activateCheck_keeps ?_
  extract_lets +onlyGivenNames y
  extract_lets +onlyGivenNames y
  refine .cut (x := y) (fun _ => ?_) ?_
  · clear_value y
    refine .done ?_
    exact .trans (by assumption) (State.acceptChange_keeps ..)
  · subst y
    refine .ite (fun _ => ?_) fun _ => ?_
    · exact State.pairSend_keeps ..
    · exact .refl _

theorem State.discardPackage_keeps (s : State) : Keeps s (State.discardPackage s) := by
  unfold State.discardPackage
  exact .step (.refl _)

theorem cmdOlcAbort_keeps (rq : Request) (s : State) : Keeps s (cmdOlcAbort rq s) := by
  unfold cmdOlcAbort
  refine serve_keeps fun _ => ?_
  iterate 2 refine .refuseIf ?_
  exact .done (State.discardPackage_keeps ..)

theorem cmdOlcStatus_keeps (rq : Request) (s : State) : Keeps s (cmdOlcStatus rq s) := by
  unfold cmdOlcStatus
  refine serve_keeps fun _ => ?_
  exact .done (.refl _)

theorem State.joinBatch_keeps (s : State) (rq : Request) (handle : BitVec 32) (value : Option (BitVec 64)) (all : Bool) : Keeps s (State.joinBatch s rq handle value all) := by
  unfold State.joinBatch
  exact .step (.refl _)

theorem cmdOlcForceSet_keeps (rq : Request) (s : State) : Keeps s (cmdOlcForceSet rq s) := by
  unfold cmdOlcForceSet
  refine serve_keeps fun _ => ?_
  extract_lets +onlyGivenNames y
  extract_lets +onlyGivenNames y
  split
  · exact .refuse
  · extract_lets +onlyGivenNames y
    iterate 5 refine .refuseIf ?_
    exact .later (State.joinBatch_keeps ..)

theorem cmdOlcForceRelease_keeps (rq : Request) (s : State) : Keeps s (cmdOlcForceRelease rq s) := by
  unfold cmdOlcForceRelease
  refine serve_keeps fun _ => ?_
  extract_lets +onlyGivenNames y
  refine .refuseIf ?_
  split
  · exact .done (.refl _)
  · refine .refuseIf ?_
    exact .later (State.joinBatch_keeps ..)

theorem cmdOlcForceReleaseAll_keeps (rq : Request) (s : State) : Keeps s (cmdOlcForceReleaseAll rq s) := by
  unfold cmdOlcForceReleaseAll
  refine serve_keeps fun _ => ?_
  extract_lets +onlyGivenNames y
  refine .ite (fun _ => ?_) fun _ => ?_
  · exact .done (.refl _)
  · extract_lets +onlyGivenNames y
    extract_lets +onlyGivenNames y
    refine .cut (x := y) (fun _ => ?_) ?_
    · clear_value y
      refine .later ?_
      refine .foldl (fun _ _ => ?_) ?_
      · exact State.joinBatch_keeps ..
      · assumption
    · subst y
      exact .step (.refl _)

theorem cmdOlcForceList_keeps (rq : Request) (s : State) : Keeps s (cmdOlcForceList rq s) := by
  unfold cmdOlcForceList
  refine serve_keeps fun _ => ?_
  exact .done (.refl _)

theorem execOlcLoad_answers (rq : Request) (s : State) : Answers s (exec (.olcLoad rq) s) :=
  show Answers s (execOlcLoad rq s) from Answers.next (State.command_keeps s rq _ (cmdOlcLoad_keeps rq))

theorem execOlcActivate_answers (rq : Request) (s : State) : Answers s (exec (.olcActivate rq) s) :=
  show Answers s (execOlcActivate rq s) from Answers.next (State.command_keeps s rq _ (cmdOlcActivate_keeps rq))

theorem execOlcAbort_answers (rq : Request) (s : State) : Answers s (exec (.olcAbort rq) s) :=
  show Answers s (execOlcAbort rq s) from Answers.next (State.command_keeps s rq _ (cmdOlcAbort_keeps rq))

theorem execOlcStatus_answers (rq : Request) (s : State) : Answers s (exec (.olcStatus rq) s) :=
  show Answers s (execOlcStatus rq s) from Answers.next (State.command_keeps s rq _ (cmdOlcStatus_keeps rq))

theorem execOlcForceSet_answers (rq : Request) (s : State) : Answers s (exec (.olcForceSet rq) s) :=
  show Answers s (execOlcForceSet rq s) from Answers.next (State.command_keeps s rq _ (cmdOlcForceSet_keeps rq))

theorem execOlcForceRelease_answers (rq : Request) (s : State) : Answers s (exec (.olcForceRelease rq) s) :=
  show Answers s (execOlcForceRelease rq s) from Answers.next (State.command_keeps s rq _ (cmdOlcForceRelease_keeps rq))

theorem execOlcForceReleaseAll_answers (rq : Request) (s : State) : Answers s (exec (.olcForceReleaseAll rq) s) :=
  show Answers s (execOlcForceReleaseAll rq s) from Answers.next (State.command_keeps s rq _ (cmdOlcForceReleaseAll_keeps rq))

theorem execOlcForceList_answers (rq : Request) (s : State) : Answers s (exec (.olcForceList rq) s) :=
  show Answers s (execOlcForceList rq s) from Answers.next (State.command_keeps s rq _ (cmdOlcForceList_keeps rq))

theorem execForceApplyWrite_answers (handle : BitVec 32) (s : State) : Answers s (exec (.forceApplyWrite handle) s) := by
  show Answers s (execForceApplyWrite handle s)
  unfold execForceApplyWrite
  refine .next ?_
  split
  · split
    · exact .refl _
    · extract_lets +onlyGivenNames y
      refine .cut (x := y) (fun _ => ?_) ?_
      · clear_value y
        split
        · exact .trans (by assumption) (State.putForced_keeps ..)
        · assumption
      · subst y
        exact State.resolveBatch_keeps ..
  · exact .refl _

theorem State.writeReleased_keeps (s : State) (f : ForceEntry) : Keeps s (State.writeReleased s f) := by
  unfold State.writeReleased
  split
  · exact State.putForced_keeps ..
  · exact .refl _

theorem execForceReleaseWrite_answers (handle : BitVec 32) (s : State) : Answers s (exec (.forceReleaseWrite handle) s) := by
  show Answers s (execForceReleaseWrite handle s)
  unfold execForceReleaseWrite
  refine .next ?_
  extract_lets +onlyGivenNames y
  refine .cut (x := y) (fun _ => ?_) ?_
  · clear_value y
    split
    · refine .trans ?_ (State.writeReleased_keeps ..)
      exact .step (by assumption)
    · assumption
  · subst y
    split
    · refine .ite (fun _ => ?_) fun _ => ?_
      · exact State.resolveBatch_keeps ..
      · exact .refl _
    · exact .refl _

theorem execForceAgedWarning_answers (s : State) : Answers s (exec .forceAgedWarning s) := by
  show Answers s (execForceAgedWarning s)
  unfold execForceAgedWarning
  refine .next ?_
  refine .ite (fun _ => ?_) fun _ => ?_
  · refine .trans ?_ (State.event_keeps ..)
    exact .step (.refl _)
  · exact .refl _

theorem State.stopAxis_keeps (s : State) (n : Fin 8) (f : Axis → Axis) : Keeps s (State.stopAxis s n f) := by
  unfold State.stopAxis
  refine .ite (fun _ => ?_) fun _ => ?_
  · refine .trans ?_ (State.abortTest_keeps ..)
    exact State.setMx_keeps ..
  · exact State.setMx_keeps ..

theorem State.applyRequest_keeps (s : State) (n : Fin 8) (cmd : AxisCmd) : Keeps s (State.applyRequest s n cmd) := by
  unfold State.applyRequest
  extract_lets +onlyGivenNames y
  extract_lets +onlyGivenNames y
  extract_lets +onlyGivenNames y
  refine .ite (fun _ => ?_) fun _ => ?_
  · exact State.stopAxis_keeps ..
  · refine .ite (fun _ => ?_) fun _ => ?_
    · exact State.stopAxis_keeps ..
    · refine .ite (fun _ => ?_) fun _ => ?_
      · exact State.stopAxis_keeps ..
      · refine .ite (fun _ => ?_) fun _ => ?_
        · exact State.setMx_keeps ..
        · refine .ite (fun _ => ?_) fun _ => ?_
          · extract_lets +onlyGivenNames y
            extract_lets +onlyGivenNames y
            exact State.setMx_keeps ..
          · refine .ite (fun _ => ?_) fun _ => ?_
            · exact State.setMx_keeps ..
            · refine .ite (fun _ => ?_) fun _ => ?_
              · split
                · exact State.setMx_keeps ..
                · exact .refl _
              · refine .ite (fun _ => ?_) fun _ => ?_
                · extract_lets +onlyGivenNames y
                  split
                  · exact State.setMx_keeps ..
                  · exact .refl _
                · refine .ite (fun _ => ?_) fun _ => ?_
                  · exact State.setMx_keeps ..
                  · exact .refl _

theorem State.takeRequest_keeps (s : State) (n : Fin 8) : Keeps s (State.takeRequest s n) := by
  unfold State.takeRequest
  extract_lets cmd code s1
  have h1 : Keeps s s1 := State.setMx_keeps ..
  refine Keeps.ite (fun _ => Keeps.refl s) fun _ => ?_
  clear_value s1 code
  cases code with
  | none => exact h1.trans (State.applyRequest_keeps ..)
  | some c => exact h1.trans (State.setMx_keeps ..)

theorem State.followVel_keeps (s : State) (n : Fin 8) : Keeps s (State.followVel s n) := by
  unfold State.followVel
  extract_lets +onlyGivenNames y
  extract_lets +onlyGivenNames y
  exact State.setMx_keeps ..

theorem State.applyRatio_keeps (s : State) (n : Fin 8) : Keeps s (State.applyRatio s n) := by
  unfold State.applyRatio
  split
  · extract_lets +onlyGivenNames y
    refine .ite (fun _ => ?_) fun _ => ?_
    · extract_lets +onlyGivenNames y
      extract_lets +onlyGivenNames y
      exact State.setMx_keeps ..
    · exact .refl _
  · exact .refl _

theorem State.armRatio_keeps (s : State) (n : Fin 8) : Keeps s (State.armRatio s n) := by
  unfold State.armRatio
  extract_lets +onlyGivenNames y
  split
  · refine .ite (fun _ => ?_) fun _ => ?_
    · exact .refl _
    · exact State.setMx_keeps ..
  · exact .refl _

theorem execGearRatioChange_answers (axis : Fin 8) (s : State) : Answers s (exec (.gearRatioChange axis) s) := by
  show Answers s (execGearRatioChange axis s)
  unfold execGearRatioChange
  refine .next ?_
  refine .ite (fun _ => ?_) fun _ => ?_
  · refine .trans ?_ (State.applyRatio_keeps ..)
    exact State.advanceAxes_keeps ..
  · exact .refl _

theorem execGearLagFault_answers (axis : Fin 8) (s : State) : Answers s (exec (.gearLagFault axis) s) := by
  show Answers s (execGearLagFault axis s)
  unfold execGearLagFault
  extract_lets +onlyGivenNames y
  refine .cut (x := y) (fun _ => ?_) ?_
  · clear_value y
    refine .next ?_
    refine .ite (fun _ => ?_) fun _ => ?_
    · exact .trans (by assumption) (State.setMx_keeps ..)
    · exact .refl _
  · subst y
    exact State.advanceAxes_keeps ..

theorem State.tripLimit_keeps (s : State) (n : Fin 8) (positive : Bool) : Keeps s (State.tripLimit s n positive) := by
  unfold State.tripLimit
  exact State.stopAxis_keeps ..

theorem State.readLimit_keeps (s : State) (n : Fin 8) (positive : Bool) : Keeps s (State.readLimit s n positive) := by
  unfold State.readLimit
  refine .ite (fun _ => ?_) fun _ => ?_
  · exact State.tripLimit_keeps ..
  · extract_lets +onlyGivenNames y
    exact State.setMx_keeps ..

theorem execLimitTrip_answers (axis : Fin 8) (positive : Bool) (s : State) : Answers s (exec (.limitTrip axis positive) s) := by
  show Answers s (execLimitTrip axis positive s)
  unfold execLimitTrip
  refine .next ?_
  extract_lets +onlyGivenNames y
  refine .cut (x := y) (fun _ => ?_) ?_
  · clear_value y
    refine .ite (fun _ => ?_) fun _ => ?_
    · exact .trans (by assumption) (State.tripLimit_keeps ..)
    · exact .refl _
  · subst y
    exact State.advanceAxes_keeps ..

theorem execLimitRelease_answers (axis : Fin 8) (positive : Bool) (s : State) : Answers s (exec (.limitRelease axis positive) s) := by
  show Answers s (execLimitRelease axis positive s)
  unfold execLimitRelease
  extract_lets +onlyGivenNames y
  refine .next ?_
  refine .ite (fun _ => ?_) fun _ => ?_
  · exact State.setMx_keeps ..
  · exact .refl _

theorem State.watchHome_keeps (s : State) (n : Fin 8) : Keeps s (State.watchHome s n) := by
  unfold State.watchHome
  extract_lets +onlyGivenNames y
  split
  · exact .refl _
  · extract_lets +onlyGivenNames y
    refine .ite (fun _ => ?_) fun _ => ?_
    · exact .refl _
    · refine .ite (fun _ => ?_) fun _ => ?_
      · exact State.setMx_keeps ..
      · refine .ite (fun _ => ?_) fun _ => ?_
        · exact .refl _
        · extract_lets +onlyGivenNames y
          extract_lets +onlyGivenNames y
          extract_lets +onlyGivenNames y
          exact State.setMx_keeps ..

theorem execHomeEdgeCapture_answers (axis : Fin 8) (s : State) : Answers s (exec (.homeEdgeCapture axis) s) := by
  show Answers s (execHomeEdgeCapture axis s)
  unfold execHomeEdgeCapture
  refine .next ?_
  extract_lets +onlyGivenNames y
  refine .cut (x := y) (fun _ => ?_) ?_
  · clear_value y
    extract_lets +onlyGivenNames y
    split
    · exact .refl _
    · refine .ite (fun _ => ?_) fun _ => ?_
      · exact .refl _
      · refine .ite (fun _ => ?_) fun _ => ?_
        · refine .ite (fun _ => ?_) fun _ => ?_
          · exact .trans (by assumption) (State.setMx_keeps ..)
          · exact .refl _
        · refine .ite (fun _ => ?_) fun _ => ?_
          · exact .trans (by assumption) (State.setMx_keeps ..)
          · exact .refl _
  · subst y
    exact State.advanceAxes_keeps ..

theorem execHomeComplete_answers (axis : Fin 8) (s : State) : Answers s (exec (.homeComplete axis) s) := by
  show Answers s (execHomeComplete axis s)
  unfold execHomeComplete
  refine .next ?_
  extract_lets +onlyGivenNames y
  refine .cut (x := y) (fun _ => ?_) ?_
  · clear_value y
    extract_lets +onlyGivenNames y
    split
    · split
      · refine .ite (fun _ => ?_) fun _ => ?_
        · exact .trans (by assumption) (State.setMx_keeps ..)
        · exact .refl _
      · exact .refl _
    · exact .refl _
  · subst y
    exact State.advanceAxes_keeps ..

theorem execHomeTimeout_answers (axis : Fin 8) (s : State) : Answers s (exec (.homeTimeout axis) s) := by
  show Answers s (execHomeTimeout axis s)
  unfold execHomeTimeout
  refine .next ?_
  extract_lets +onlyGivenNames y
  refine .cut (x := y) (fun _ => ?_) ?_
  · clear_value y
    extract_lets +onlyGivenNames y
    split
    · refine .ite (fun _ => ?_) fun _ => ?_
      · exact .trans (by assumption) (State.setMx_keeps ..)
      · exact .refl _
    · exact .refl _
  · subst y
    exact State.advanceAxes_keeps ..

theorem execZEdgeCapture_answers (enc : Fin 8) (s : State) : Answers s (exec (.zEdgeCapture enc) s) := by
  show Answers s (execZEdgeCapture enc s)
  unfold execZEdgeCapture
  refine .next ?_
  refine .ite (fun _ => ?_) fun _ => ?_
  · extract_lets +onlyGivenNames y
    refine .cut (x := y) (fun _ => ?_) ?_
    · clear_value y
      extract_lets +onlyGivenNames y
      extract_lets +onlyGivenNames y
      refine .cut (x := y) (fun _ => ?_) ?_
      · clear_value y
        exact .step (by assumption)
      · subst y
        exact .step (by assumption)
    · subst y
      exact State.advanceAxes_keeps ..
  · exact .refl _

theorem execEnDelayExpire_answers (axis : Fin 8) (s : State) : Answers s (exec (.enDelayExpire axis) s) := by
  show Answers s (execEnDelayExpire axis s)
  unfold execEnDelayExpire
  refine .next ?_
  refine .ite (fun _ => ?_) fun _ => ?_
  · exact State.setMx_keeps ..
  · exact .refl _

theorem execReversalRest_answers (axis : Fin 8) (s : State) : Answers s (exec (.reversalRest axis) s) := by
  show Answers s (execReversalRest axis s)
  unfold execReversalRest
  refine .next ?_
  extract_lets +onlyGivenNames y
  refine .cut (x := y) (fun _ => ?_) ?_
  · clear_value y
    extract_lets +onlyGivenNames y
    refine .ite (fun _ => ?_) fun _ => ?_
    · exact .trans (by assumption) (State.setMx_keeps ..)
    · exact .refl _
  · subst y
    exact State.advanceAxes_keeps ..

theorem execMoveArrival_answers (axis : Fin 8) (s : State) : Answers s (exec (.moveArrival axis) s) := by
  show Answers s (execMoveArrival axis s)
  unfold execMoveArrival
  refine .next ?_
  extract_lets +onlyGivenNames y
  refine .cut (x := y) (fun _ => ?_) ?_
  · clear_value y
    extract_lets +onlyGivenNames y
    refine .ite (fun _ => ?_) fun _ => ?_
    · exact .trans (by assumption) (State.setMx_keeps ..)
    · exact .refl _
  · subst y
    exact State.advanceAxes_keeps ..

theorem execAxisRestReached_answers (axis : Fin 8) (s : State) : Answers s (exec (.axisRestReached axis) s) := by
  show Answers s (execAxisRestReached axis s)
  unfold execAxisRestReached
  refine .next ?_
  refine .trans ?_ (State.afterRest_keeps ..)
  extract_lets +onlyGivenNames y
  refine .cut (x := y) (fun _ => ?_) ?_
  · clear_value y
    extract_lets +onlyGivenNames y
    refine .ite (fun _ => ?_) fun _ => ?_
    · exact .refl _
    · split
      · exact .trans (by assumption) (State.setMx_keeps ..)
      · split
        · refine .ite (fun _ => ?_) fun _ => ?_
          · exact .trans (by assumption) (State.setMx_keeps ..)
          · exact .refl _
        · exact .refl _
      · exact .refl _
      · exact .refl _
      · exact .refl _
      · exact .refl _
      · exact .refl _
      · exact .refl _
  · subst y
    exact State.advanceAxes_keeps ..

theorem State.nextSegment_keeps (s : State) (n : Fin 8) (k : Fin 16) (seg at_ : Nat) (start : Int) : Keeps s (State.nextSegment s n k seg at_ start) := by
  unfold State.nextSegment
  extract_lets +onlyGivenNames y
  extract_lets +onlyGivenNames y
  refine .ite (fun _ => ?_) fun _ => ?_
  · exact State.setMx_keeps ..
  · split
    · extract_lets +onlyGivenNames y
      refine .cut (x := y) (fun _ => ?_) ?_
      · clear_value y
        refine .ite (fun _ => ?_) fun _ => ?_
        · exact .trans (by assumption) (State.setMx_keeps ..)
        · split
          · assumption
          · extract_lets +onlyGivenNames y
            extract_lets +onlyGivenNames y
            split
            · exact .trans (by assumption) (State.setMx_keeps ..)
            · refine .ite (fun _ => ?_) fun _ => ?_
              · exact .trans (by assumption) (State.setMx_keeps ..)
              · exact .trans (by assumption) (State.setMx_keeps ..)
      · subst y
        exact State.setMx_keeps ..

theorem execTableSegmentEnd_answers (axis : Fin 8) (s : State) : Answers s (exec (.tableSegmentEnd axis) s) := by
  show Answers s (execTableSegmentEnd axis s)
  unfold execTableSegmentEnd
  refine .next ?_
  extract_lets +onlyGivenNames y
  refine .cut (x := y) (fun _ => ?_) ?_
  · clear_value y
    split
    · refine .ite (fun _ => ?_) fun _ => ?_
      · exact .trans (by assumption) (State.nextSegment_keeps ..)
      · exact .refl _
    · exact .refl _
  · subst y
    exact State.advanceAxes_keeps ..

theorem State.sendDrive_keeps (s : State) : Keeps s (State.sendDrive s) := by
  unfold State.sendDrive
  extract_lets +onlyGivenNames y
  exact .step (.refl _)

theorem execResCodeChange_answers (axis : Fin 8) (s : State) : Answers s (exec (.resCodeChange axis) s) := by
  show Answers s (execResCodeChange axis s)
  unfold execResCodeChange
  refine .next ?_
  extract_lets +onlyGivenNames y
  refine .cut (x := y) (fun _ => ?_) ?_
  · clear_value y
    extract_lets +onlyGivenNames y
    split
    · refine .ite (fun _ => ?_) fun _ => ?_
      · extract_lets +onlyGivenNames y
        refine .cut (x := y) (fun _ => ?_) ?_
        · clear_value y
          refine .ite (fun _ => ?_) fun _ => ?_
          · exact .trans (by assumption) (State.sendDrive_keeps ..)
          · assumption
        · subst y
          exact .trans (by assumption) (State.setMx_keeps ..)
      · exact .refl _
    · exact .refl _
  · subst y
    exact State.advanceAxes_keeps ..

theorem execDriveLinkRefresh_answers (s : State) : Answers s (exec .driveLinkRefresh s) := by
  show Answers s (execDriveLinkRefresh s)
  unfold execDriveLinkRefresh
  refine .next ?_
  refine .ite (fun _ => ?_) fun _ => ?_
  · exact State.sendDrive_keeps ..
  · exact .refl _

theorem State.judgeEcho_keeps (s : State) (frame : BitVec 32) (ok : Bool) : Keeps s (State.judgeEcho s frame ok) := by
  unfold State.judgeEcho
  refine .ite (fun _ => ?_) fun _ => ?_
  · extract_lets +onlyGivenNames y
    exact .step (.refl _)
  · refine .ite (fun _ => ?_) fun _ => ?_
    · extract_lets +onlyGivenNames y
      extract_lets +onlyGivenNames y
      refine .cut (x := y) (fun _ => ?_) ?_
      · clear_value y
        extract_lets +onlyGivenNames y
        refine .cut (x := y) (fun _ => ?_) ?_
        · clear_value y
          exact .trans (by assumption) (State.event_keeps ..)
        · subst y
          refine .ite (fun _ => ?_) fun _ => ?_
          · exact .trans (by assumption) (State.abortTest_keeps ..)
          · assumption
      · subst y
        exact .step (.refl _)
    · exact .step (.refl _)

theorem State.latchFrame_keeps (s : State) (f : BitVec 32) : Keeps s (State.latchFrame s f) := by
  unfold State.latchFrame
  exact .step (.refl _)

theorem State.sendWaiting_keeps (s : State) : Keeps s (State.sendWaiting s) := by
  unfold State.sendWaiting
  refine .ite (fun _ => ?_) fun _ => ?_
  · exact State.sendDrive_keeps ..
  · exact .refl _

theorem execDriveLinkFrameComplete_answers (echo : BitVec 32) (s : State) : Answers s (exec (.driveLinkFrameComplete echo) s) := by
  show Answers s (execDriveLinkFrameComplete echo s)
  unfold execDriveLinkFrameComplete
  refine .next ?_
  split
  · refine .ite (fun _ => ?_) fun _ => ?_
    · extract_lets +onlyGivenNames y
      refine .cut (x := y) (fun _ => ?_) ?_
      · clear_value y
        refine .trans ?_ (State.sendWaiting_keeps ..)
        refine .trans ?_ (State.judgeEcho_keeps ..)
        exact .trans (by assumption) (State.latchFrame_keeps ..)
      · subst y
        exact State.advanceAxes_keeps ..
    · exact .refl _
  · exact .refl _

theorem State.checkRange_keeps (s : State) (n : Fin 8) : Keeps s (State.checkRange s n) := by
  unfold State.checkRange
  extract_lets +onlyGivenNames y
  refine .ite (fun _ => ?_) fun _ => ?_
  · exact .refl _
  · exact State.setMx_keeps ..

theorem State.writeMotion_keeps (s : State) : Keeps s (State.writeMotion s) := by
  unfold State.writeMotion
  extract_lets +onlyGivenNames y
  refine .cut (x := y) (fun _ => ?_) ?_
  · clear_value y
    extract_lets +onlyGivenNames y
    refine .cut (x := y) (fun _ => ?_) ?_
    · clear_value y
      refine .foldl (fun _ _ => ?_) ?_
      · extract_lets +onlyGivenNames y
        refine .ite (fun _ => ?_) fun _ => ?_
        · exact State.mirror_keeps ..
        · exact .refl _
      · assumption
    · subst y
      refine .foldl (fun _ _ => ?_) ?_
      · extract_lets +onlyGivenNames y
        exact State.writeImage_keeps ..
      · assumption
  · subst y
    refine .foldl (fun _ _ => ?_) ?_
    · extract_lets +onlyGivenNames y
      exact State.writeImage_keeps ..
    · exact .refl _

theorem State.axisTick_keeps (s : State) (n : Fin 8) : Keeps s (State.axisTick s n) := by
  unfold State.axisTick
  refine .ite (fun _ => ?_) fun _ => ?_
  · refine .trans ?_ (State.armRatio_keeps ..)
    refine .trans ?_ (State.applyRatio_keeps ..)
    refine .trans ?_ (State.followVel_keeps ..)
    refine .trans ?_ (State.takeRequest_keeps ..)
    refine .trans ?_ (State.watchHome_keeps ..)
    refine .trans ?_ (State.readLimit_keeps ..)
    exact State.readLimit_keeps ..
  · exact .refl _

theorem execAxisRequestTake_answers (counts : Vector (BitVec 32) 8) (s : State) : Answers s (exec (.axisRequestTake counts) s) := by
  show Answers s (execAxisRequestTake counts s)
  unfold execAxisRequestTake
  refine .next ?_
  refine .ite (fun _ => ?_) fun _ => ?_
  · extract_lets +onlyGivenNames y
    extract_lets +onlyGivenNames y
    refine .cut (x := y) (fun _ => ?_) ?_
    · clear_value y
      extract_lets +onlyGivenNames y
      refine .cut (x := y) (fun _ => ?_) ?_
      · clear_value y
        extract_lets +onlyGivenNames y
        refine .cut (x := y) (fun _ => ?_) ?_
        · clear_value y
          exact .trans (by assumption) (State.sampleAxes_keeps ..)
        · subst y
          refine .foldl (fun _ _ => ?_) ?_
          · exact State.axisTick_keeps ..
          · exact .trans (by assumption) (State.writeMotion_keeps ..)
      · subst y
        refine .foldl (fun _ _ => ?_) ?_
        · exact State.checkRange_keeps ..
        · exact .trans (by assumption) (State.advanceAxes_keeps ..)
    · subst y
      exact .step (.refl _)
  · exact .refl _

theorem cmdMotAxisSet_keeps (rq : Request) (s : State) : Keeps s (cmdMotAxisSet rq s) := by
  unfold cmdMotAxisSet
  refine serve_keeps fun _ => ?_
  extract_lets +onlyGivenNames y
  split
  · exact .refuse
  · refine .refuseIf ?_
    exact .done (State.setMx_keeps ..)

theorem execMotAxisSet_answers (rq : Request) (s : State) : Answers s (exec (.motAxisSet rq) s) :=
  show Answers s (execMotAxisSet rq s) from Answers.next (State.command_keeps s rq _ (cmdMotAxisSet_keeps rq))

theorem cmdMotAxisGet_keeps (rq : Request) (s : State) : Keeps s (cmdMotAxisGet rq s) := by
  unfold cmdMotAxisGet
  refine serve_keeps fun _ => ?_
  split
  · exact .refuse
  · exact .done (.refl _)

theorem execMotAxisGet_answers (rq : Request) (s : State) : Answers s (exec (.motAxisGet rq) s) :=
  show Answers s (execMotAxisGet rq s) from Answers.next (State.command_keeps s rq _ (cmdMotAxisGet_keeps rq))

theorem cmdMotEncSet_keeps (rq : Request) (s : State) : Keeps s (cmdMotEncSet rq s) := by
  unfold cmdMotEncSet
  refine serve_keeps fun _ => ?_
  extract_lets +onlyGivenNames y
  split
  · exact .refuse
  · refine .refuseIf ?_
    exact .done (.step (.refl _))

theorem execMotEncSet_answers (rq : Request) (s : State) : Answers s (exec (.motEncSet rq) s) :=
  show Answers s (execMotEncSet rq s) from Answers.next (State.command_keeps s rq _ (cmdMotEncSet_keeps rq))

theorem cmdMotEncGet_keeps (rq : Request) (s : State) : Keeps s (cmdMotEncGet rq s) := by
  unfold cmdMotEncGet
  refine serve_keeps fun _ => ?_
  split
  · exact .refuse
  · exact .done (.refl _)

theorem execMotEncGet_answers (rq : Request) (s : State) : Answers s (exec (.motEncGet rq) s) :=
  show Answers s (execMotEncGet rq s) from Answers.next (State.command_keeps s rq _ (cmdMotEncGet_keeps rq))

theorem cmdMotTableLoad_keeps (rq : Request) (s : State) : Keeps s (cmdMotTableLoad rq s) := by
  unfold cmdMotTableLoad
  refine serve_keeps fun _ => ?_
  extract_lets +onlyGivenNames y
  split
  · exact .refuse
  · iterate 2 refine .refuseIf ?_
    exact .done (.step (.refl _))

theorem execMotTableLoad_answers (rq : Request) (s : State) : Answers s (exec (.motTableLoad rq) s) :=
  show Answers s (execMotTableLoad rq s) from Answers.next (State.command_keeps s rq _ (cmdMotTableLoad_keeps rq))

theorem cmdMotTableRead_keeps (rq : Request) (s : State) : Keeps s (cmdMotTableRead rq s) := by
  unfold cmdMotTableRead
  refine serve_keeps fun _ => ?_
  split
  · exact .refuse
  · extract_lets +onlyGivenNames y
    exact .done (.refl _)

theorem execMotTableRead_answers (rq : Request) (s : State) : Answers s (exec (.motTableRead rq) s) :=
  show Answers s (execMotTableRead rq s) from Answers.next (State.command_keeps s rq _ (cmdMotTableRead_keeps rq))

theorem cmdMotStatus_keeps (rq : Request) (s : State) : Keeps s (cmdMotStatus rq s) := by
  unfold cmdMotStatus
  refine serve_keeps fun _ => ?_
  split
  · exact .refuse
  · extract_lets +onlyGivenNames y
    refine .cut (x := y) (fun _ => ?_) ?_
    · clear_value y
      refine .done ?_
      assumption
    · subst y
      exact State.advanceAxes_keeps ..

theorem execMotStatus_answers (rq : Request) (s : State) : Answers s (exec (.motStatus rq) s) :=
  show Answers s (execMotStatus rq s) from Answers.next (State.command_keeps s rq _ (cmdMotStatus_keeps rq))

theorem State.clearMotion_keeps (s : State) (n : Fin 8) : Keeps s (State.clearMotion s n) := by
  unfold State.clearMotion
  extract_lets +onlyGivenNames y
  extract_lets +onlyGivenNames y
  refine .cut (x := y) (fun _ => ?_) ?_
  · clear_value y
    exact .step (by assumption)
  · subst y
    exact State.setMx_keeps ..

theorem cmdMotClear_keeps (rq : Request) (s : State) : Keeps s (cmdMotClear rq s) := by
  unfold cmdMotClear
  refine serve_keeps fun _ => ?_
  refine .ite (fun _ => ?_) fun _ => ?_
  · refine .done ?_
    refine .foldl (fun _ _ => ?_) ?_
    · exact State.clearMotion_keeps ..
    · exact .refl _
  · split
    · exact .refuse
    · exact .done (State.clearMotion_keeps ..)

theorem execMotClear_answers (rq : Request) (s : State) : Answers s (exec (.motClear rq) s) :=
  show Answers s (execMotClear rq s) from Answers.next (State.command_keeps s rq _ (cmdMotClear_keeps rq))

end Sys2Proof.Machine
end

