-- ==== Sys2Proof/Laws/KeepsSystem.lean ====
section
/-! SUPPORT. What the operations of the pair, the cycle, the fabric, sessions, the network, supply, start and mailboxes keep. -/

namespace Sys2Proof.Machine

open Sys2Proof

set_option Elab.async false

theorem State.setRole_keeps (s : State) (r : Role) : Keeps s (State.setRole s r) := by
  unfold State.setRole
  refine .ite (fun _ => ?_) fun _ => ?_
  · exact .refl _
  · refine .trans ?_ (State.raise_keeps ..)
    exact .step (.refl _)

theorem State.raiseEpoch_keeps (s : State) (old : Role) : Keeps s (State.raiseEpoch s old) := by
  unfold State.raiseEpoch
  extract_lets +onlyGivenNames y
  extract_lets +onlyGivenNames y
  extract_lets +onlyGivenNames y
  extract_lets +onlyGivenNames y
  refine .cut (x := y) (fun _ => ?_) ?_
  · clear_value y
    extract_lets +onlyGivenNames y
    refine .cut (x := y) (fun _ => ?_) ?_
    · clear_value y
      exact .trans (by assumption) (State.event_keeps ..)
    · subst y
      refine .ite (fun _ => ?_) fun _ => ?_
      · assumption
      · exact .trans (by assumption) (State.pairSend_keeps ..)
  · subst y
    exact .step (.refl _)

theorem State.pathFault_keeps (s : State) : Keeps s (State.pathFault s) := by
  unfold State.pathFault
  refine .trans ?_ (State.pairAlarm_keeps ..)
  exact .step (.refl _)

theorem State.dropJobs_keeps (s : State) : Keeps s (State.dropJobs s) := by
  unfold State.dropJobs
  exact .step (.refl _)

theorem State.leaveStation_keeps (s : State) (r : Role) : Keeps s (State.leaveStation s r) := by
  unfold State.leaveStation
  extract_lets +onlyGivenNames y
  refine .cut (x := y) (fun _ => ?_) ?_
  · clear_value y
    extract_lets +onlyGivenNames y
    extract_lets +onlyGivenNames y
    refine .cut (x := y) (fun _ => ?_) ?_
    · clear_value y
      refine .trans ?_ (State.evalMatrix_keeps ..)
      refine .trans ?_ (State.canModes_keeps ..)
      exact .trans (by assumption) (State.setRole_keeps ..)
    · subst y
      exact .step (by assumption)
  · subst y
    refine .trans ?_ (State.abortTest_keeps ..)
    refine .trans ?_ (State.stopAxes_keeps ..)
    refine .trans ?_ (State.dropJobs_keeps ..)
    refine .trans ?_ (State.dropSamples_keeps ..)
    exact State.idleTasks_keeps ..

theorem State.stopRun_keeps (s : State) : Keeps s (State.stopRun s) := by
  unfold State.stopRun
  extract_lets +onlyGivenNames y
  extract_lets +onlyGivenNames y
  refine .cut (x := y) (fun _ => ?_) ?_
  · clear_value y
    extract_lets +onlyGivenNames y
    refine .cut (x := y) (fun _ => ?_) ?_
    · clear_value y
      refine .trans ?_ (State.evalMatrix_keeps ..)
      refine .trans ?_ (State.canModes_keeps ..)
      refine .trans ?_ (State.setReason_keeps ..)
      refine .trans ?_ (State.setMode_keeps ..)
      refine .trans ?_ (State.clearRunEn_keeps ..)
      exact .step (by assumption)
    · subst y
      refine .trans ?_ (State.abortTest_keeps ..)
      refine .trans ?_ (State.stopAxes_keeps ..)
      refine .trans ?_ (State.dropJobs_keeps ..)
      refine .trans ?_ (State.dropSamples_keeps ..)
      refine .trans ?_ (State.dropLines_keeps ..)
      exact .trans (by assumption) (State.idleTasks_keeps ..)
  · subst y
    refine .foldl (fun _ _ => ?_) ?_
    · exact State.commitSafe_keeps ..
    · exact .refl _

theorem State.quarantine_keeps (s : State) : Keeps s (State.quarantine s) := by
  unfold State.quarantine
  extract_lets +onlyGivenNames y
  refine .cut (x := y) (fun _ => ?_) ?_
  · clear_value y
    refine .trans ?_ (State.pairAlarm_keeps ..)
    exact .step (by assumption)
  · subst y
    exact State.leaveStation_keeps ..

theorem State.learnOwner_keeps (s : State) (epoch : BitVec 64) : Keeps s (State.learnOwner s epoch) := by
  unfold State.learnOwner
  refine .ite (fun _ => ?_) fun _ => ?_
  · exact State.quarantine_keeps ..
  · exact .refl _

theorem State.takeLoop_keeps (s : State) (e : Fin 256 × LoopSlot × BitVec 1 × Bank × Bank) : Keeps s (State.takeLoop s e) := by
  unfold State.takeLoop
  extract_lets +onlyGivenNames y
  exact State.setLoop_keeps ..

theorem State.takeLoops_keeps (s : State) : Keeps s (State.takeLoops s) := by
  unfold State.takeLoops
  refine .foldl (fun _ _ => ?_) ?_
  · exact State.takeLoop_keeps ..
  · exact .refl _

theorem State.takeAxes_keeps (s : State) : Keeps s (State.takeAxes s) := by
  unfold State.takeAxes
  exact .step (.refl _)

theorem State.takeIsland_keeps (s : State) : Keeps s (State.takeIsland s) := by
  unfold State.takeIsland
  split
  · exact .refl _
  · exact .step (.refl _)

theorem State.redrive_keeps (s : State) (t : Fin 128) : Keeps s (State.redrive s t) := by
  unfold State.redrive
  split
  · exact .refl _
  · extract_lets +onlyGivenNames y
    refine .cut (x := y) (fun _ => ?_) ?_
    · clear_value y
      refine .trans ?_ (State.setTask_keeps ..)
      refine .foldl (fun _ _ => ?_) ?_
      · exact State.commitIsland_keeps ..
      · assumption
    · subst y
      refine .foldl (fun _ _ => ?_) ?_
      · exact State.publishOut_keeps ..
      · exact .refl _

theorem State.takeTask_keeps (s : State) (t : Fin 128) : Keeps s (State.takeTask s t) := by
  unfold State.takeTask
  exact State.setTask_keeps ..

theorem State.takeover_keeps (s : State) : Keeps s (State.takeover s) := by
  unfold State.takeover
  extract_lets +onlyGivenNames y
  extract_lets +onlyGivenNames y
  extract_lets +onlyGivenNames y
  extract_lets +onlyGivenNames y
  refine .cut (x := y) (fun _ => ?_) ?_
  · clear_value y
    extract_lets +onlyGivenNames y
    refine .cut (x := y) (fun _ => ?_) ?_
    · clear_value y
      extract_lets +onlyGivenNames y
      refine .cut (x := y) (fun _ => ?_) ?_
      · clear_value y
        extract_lets +onlyGivenNames y
        refine .cut (x := y) (fun _ => ?_) ?_
        · clear_value y
          refine .trans ?_ (State.pairSend_keeps ..)
          refine .trans ?_ (State.evalMatrix_keeps ..)
          exact .trans (by assumption) (State.canTakeover_keeps ..)
        · subst y
          refine .foldl (fun _ _ => ?_) ?_
          · refine .trans ?_ (State.redrive_keeps ..)
            exact State.takeTask_keeps ..
          · assumption
      · subst y
        refine .trans ?_ (State.takeIsland_keeps ..)
        refine .trans ?_ (State.renewSlots_keeps ..)
        refine .trans ?_ (State.takeAxes_keeps ..)
        exact .trans (by assumption) (State.takeLoops_keeps ..)
    · subst y
      refine .trans ?_ (State.raiseEpoch_keeps ..)
      exact .trans (by assumption) (State.setRole_keeps ..)
  · subst y
    exact .step (.refl _)

theorem State.askWitness_keeps (s : State) : Keeps s (State.askWitness s) := by
  unfold State.askWitness
  extract_lets +onlyGivenNames y
  extract_lets +onlyGivenNames y
  refine .cut (x := y) (fun _ => ?_) ?_
  · clear_value y
    exact .step (by assumption)
  · subst y
    exact State.sendFrames_keeps ..

theorem State.standbyActs_keeps (s : State) : Keeps s (State.standbyActs s) := by
  unfold State.standbyActs
  refine .ite (fun _ => ?_) fun _ => ?_
  · refine .ite (fun _ => ?_) fun _ => ?_
    · exact .refl _
    · exact State.askWitness_keeps ..
  · exact State.takeover_keeps ..

theorem State.ownerLost_keeps (s : State) : Keeps s (State.ownerLost s) := by
  unfold State.ownerLost
  extract_lets +onlyGivenNames y
  refine .cut (x := y) (fun _ => ?_) ?_
  · clear_value y
    exact .step (by assumption)
  · subst y
    refine .trans ?_ (State.stopRun_keeps ..)
    exact State.pairAlarm_keeps ..

theorem State.loseStandby_keeps (s : State) : Keeps s (State.loseStandby s) := by
  unfold State.loseStandby
  refine .ite (fun _ => ?_) fun _ => ?_
  · extract_lets +onlyGivenNames y
    extract_lets +onlyGivenNames y
    extract_lets +onlyGivenNames y
    extract_lets +onlyGivenNames y
    refine .cut (x := y) (fun _ => ?_) ?_
    · clear_value y
      extract_lets +onlyGivenNames y
      refine .cut (x := y) (fun _ => ?_) ?_
      · clear_value y
        refine .trans ?_ (State.setRole_keeps ..)
        refine .trans ?_ (State.evalMatrix_keeps ..)
        refine .foldl (fun _ _ => ?_) ?_
        · refine .trans ?_ (State.redrive_keeps ..)
          exact State.takeTask_keeps ..
        · assumption
      · subst y
        exact .trans (by assumption) (State.takeLoops_keeps ..)
    · subst y
      exact .step (.refl _)
  · refine .trans ?_ (State.setRole_keeps ..)
    exact .step (.refl _)

theorem cmdPairSet_keeps (rq : Request) (s : State) : Keeps s (cmdPairSet rq s) := by
  unfold cmdPairSet
  refine serve_keeps fun _ => ?_
  extract_lets +onlyGivenNames y
  refine .refuseIf ?_
  exact .done (.step (.refl _))

theorem execPairSet_answers (rq : Request) (s : State) : Answers s (exec (.pairSet rq) s) :=
  show Answers s (execPairSet rq s) from Answers.next (State.command_keeps s rq _ (cmdPairSet_keeps rq))

theorem cmdPairGet_keeps (rq : Request) (s : State) : Keeps s (cmdPairGet rq s) := by
  unfold cmdPairGet
  refine serve_keeps fun _ => ?_
  exact .done (.refl _)

theorem execPairGet_answers (rq : Request) (s : State) : Answers s (exec (.pairGet rq) s) :=
  show Answers s (execPairGet rq s) from Answers.next (State.command_keeps s rq _ (cmdPairGet_keeps rq))

theorem cmdPairStatus_keeps (rq : Request) (s : State) : Keeps s (cmdPairStatus rq s) := by
  unfold cmdPairStatus
  refine serve_keeps fun _ => ?_
  split
  · rename_i eq
    have hp := Keeps.of_eq (State.draw_keeps ..) eq
    refine .done ?_
    assumption

theorem execPairStatus_answers (rq : Request) (s : State) : Answers s (exec (.pairStatus rq) s) :=
  show Answers s (execPairStatus rq s) from Answers.next (State.command_keeps s rq _ (cmdPairStatus_keeps rq))

theorem cmdPairSwap_keeps (rq : Request) (s : State) : Keeps s (cmdPairSwap rq s) := by
  unfold cmdPairSwap
  refine serve_keeps fun _ => ?_
  iterate 4 refine .refuseIf ?_
  exact .done (State.acceptSwap_keeps ..)

theorem execPairSwap_answers (rq : Request) (s : State) : Answers s (exec (.pairSwap rq) s) :=
  show Answers s (execPairSwap rq s) from Answers.next (State.command_keeps s rq _ (cmdPairSwap_keeps rq))

theorem cmdPairReadmit_keeps (rq : Request) (s : State) : Keeps s (cmdPairReadmit rq s) := by
  unfold cmdPairReadmit
  refine serve_keeps fun _ => ?_
  iterate 3 refine .refuseIf ?_
  refine .done ?_
  refine .trans ?_ (State.canModes_keeps ..)
  refine .trans ?_ (State.setRole_keeps ..)
  exact .step (.refl _)

theorem execPairReadmit_answers (rq : Request) (s : State) : Answers s (exec (.pairReadmit rq) s) :=
  show Answers s (execPairReadmit rq s) from Answers.next (State.command_keeps s rq _ (cmdPairReadmit_keeps rq))

theorem cmdPairClear_keeps (rq : Request) (s : State) : Keeps s (cmdPairClear rq s) := by
  unfold cmdPairClear
  refine serve_keeps fun _ => ?_
  extract_lets +onlyGivenNames y
  extract_lets +onlyGivenNames y
  extract_lets +onlyGivenNames y
  extract_lets +onlyGivenNames y
  exact .done (.step (.refl _))

theorem execPairClear_answers (rq : Request) (s : State) : Answers s (exec (.pairClear rq) s) :=
  show Answers s (execPairClear rq s) from Answers.next (State.command_keeps s rq _ (cmdPairClear_keeps rq))

theorem execHeartbeatSend_answers (s : State) : Answers s (exec .heartbeatSend s) := by
  show Answers s (execHeartbeatSend s)
  unfold execHeartbeatSend
  refine .next ?_
  refine .ite (fun _ => ?_) fun _ => ?_
  · extract_lets +onlyGivenNames y
    refine .cut (x := y) (fun _ => ?_) ?_
    · clear_value y
      exact .step (by assumption)
    · subst y
      refine .trans ?_ (State.pairSend_keeps ..)
      exact State.pairSend_keeps ..
  · exact .refl _

theorem execPeerOkDrop_answers (s : State) : Answers s (exec .peerOkDrop s) := by
  show Answers s (execPeerOkDrop s)
  unfold execPeerOkDrop
  refine .next ?_
  refine .ite (fun _ => ?_) fun _ => ?_
  · exact .step (.refl _)
  · exact .refl _

theorem execPeerOkTestPulse_answers (s : State) : Answers s (exec .peerOkTestPulse s) := by
  show Answers s (execPeerOkTestPulse s)
  unfold execPeerOkTestPulse
  refine .next ?_
  refine .ite (fun _ => ?_) fun _ => ?_
  · extract_lets +onlyGivenNames y
    refine .cut (x := y) (fun _ => ?_) ?_
    · clear_value y
      exact .step (by assumption)
    · subst y
      exact State.pairSend_keeps ..
  · exact .refl _

theorem execPeerOkInLow_answers (s : State) : Answers s (exec .peerOkInLow s) := by
  show Answers s (execPeerOkInLow s)
  unfold execPeerOkInLow
  refine .next ?_
  extract_lets +onlyGivenNames y
  extract_lets +onlyGivenNames y
  refine .cut (x := y) (fun _ => ?_) ?_
  · clear_value y
    refine .ite (fun _ => ?_) fun _ => ?_
    · assumption
    · refine .ite (fun _ => ?_) fun _ => ?_
      · split
        · exact .trans (by assumption) (State.standbyActs_keeps ..)
        · exact .trans (by assumption) (State.ownerLost_keeps ..)
        · assumption
        · assumption
        · assumption
        · assumption
      · refine .ite (fun _ => ?_) fun _ => ?_
        · refine .ite (fun _ => ?_) fun _ => ?_
          · refine .trans ?_ (State.loseStandby_keeps ..)
            exact .trans (by assumption) (State.pathFault_keeps ..)
          · exact .trans (by assumption) (State.pathFault_keeps ..)
        · assumption
  · subst y
    exact .step (.refl _)

theorem State.notReady_keeps (s : State) : Keeps s (State.notReady s) := by
  unfold State.notReady
  refine .trans ?_ (State.setReason_keeps ..)
  refine .trans ?_ (State.clearRunEn_keeps ..)
  exact .step (.refl _)

theorem execPeerOkInRise_answers (s : State) : Answers s (exec .peerOkInRise s) := by
  show Answers s (execPeerOkInRise s)
  unfold execPeerOkInRise
  refine .next ?_
  extract_lets +onlyGivenNames y
  extract_lets +onlyGivenNames y
  refine .cut (x := y) (fun _ => ?_) ?_
  · clear_value y
    refine .ite (fun _ => ?_) fun _ => ?_
    · extract_lets +onlyGivenNames y
      refine .cut (x := y) (fun _ => ?_) ?_
      · clear_value y
        exact .step (by assumption)
      · subst y
        exact .trans (by assumption) (State.notReady_keeps ..)
    · assumption
  · subst y
    exact .step (.refl _)

theorem execPairLinkSilent_answers (s : State) : Answers s (exec .pairLinkSilent s) := by
  show Answers s (execPairLinkSilent s)
  unfold execPairLinkSilent
  refine .next ?_
  refine .ite (fun _ => ?_) fun _ => ?_
  · exact .refl _
  · split
    · refine .ite (fun _ => ?_) fun _ => ?_
      · exact State.pathFault_keeps ..
      · exact State.standbyActs_keeps ..
    · refine .ite (fun _ => ?_) fun _ => ?_
      · exact State.pathFault_keeps ..
      · exact State.ownerLost_keeps ..
    · refine .trans ?_ (State.loseStandby_keeps ..)
      refine .ite (fun _ => ?_) fun _ => ?_
      · exact State.pathFault_keeps ..
      · exact .refl _
    · extract_lets +onlyGivenNames y
      refine .cut (x := y) (fun _ => ?_) ?_
      · clear_value y
        refine .ite (fun _ => ?_) fun _ => ?_
        · exact .trans (by assumption) (State.loseStandby_keeps ..)
        · exact .step (by assumption)
      · subst y
        refine .ite (fun _ => ?_) fun _ => ?_
        · exact State.pathFault_keeps ..
        · exact .refl _
    · exact .refl _
    · exact .refl _

theorem execPairLaneFail_answers (s : State) : Answers s (exec .pairLaneFail s) := by
  show Answers s (execPairLaneFail s)
  unfold execPairLaneFail
  refine .next ?_
  refine .ite (fun _ => ?_) fun _ => ?_
  · refine .trans ?_ (State.pairAlarm_keeps ..)
    exact .step (.refl _)
  · exact .refl _

theorem State.confirmed_keeps (s : State) : Keeps s (State.confirmed s) := by
  unfold State.confirmed
  extract_lets +onlyGivenNames y
  extract_lets +onlyGivenNames y
  extract_lets +onlyGivenNames y
  refine .cut (x := y) (fun _ => ?_) ?_
  · clear_value y
    refine .ite (fun _ => ?_) fun _ => ?_
    · extract_lets +onlyGivenNames y
      refine .cut (x := y) (fun _ => ?_) ?_
      · clear_value y
        exact .step (by assumption)
      · subst y
        exact .trans (by assumption) (State.setRole_keeps ..)
    · exact .trans (by assumption) (State.takeover_keeps ..)
  · subst y
    exact .step (.refl _)

theorem State.denied_keeps (s : State) : Keeps s (State.denied s) := by
  unfold State.denied
  exact .step (.refl _)

theorem execWitnessReply_answers (answer : WitnessAnswer) (s : State) : Answers s (exec (.witnessReply answer) s) := by
  show Answers s (execWitnessReply answer s)
  unfold execWitnessReply
  refine .next ?_
  refine .ite (fun _ => ?_) fun _ => ?_
  · split
    · exact State.confirmed_keeps ..
    · exact State.denied_keeps ..
    · exact State.denied_keeps ..
  · exact .refl _

theorem execWitnessTimeout_answers (s : State) : Answers s (exec .witnessTimeout s) := by
  show Answers s (execWitnessTimeout s)
  unfold execWitnessTimeout
  refine .next ?_
  refine .ite (fun _ => ?_) fun _ => ?_
  · refine .ite (fun _ => ?_) fun _ => ?_
    · exact State.confirmed_keeps ..
    · exact State.denied_keeps ..
  · exact .refl _

theorem execWitnessRetry_answers (s : State) : Answers s (exec .witnessRetry s) := by
  show Answers s (execWitnessRetry s)
  unfold execWitnessRetry
  refine .next ?_
  refine .ite (fun _ => ?_) fun _ => ?_
  · exact State.askWitness_keeps ..
  · exact .refl _

theorem execWitnessPresenceFrame_answers (s : State) : Answers s (exec .witnessPresenceFrame s) := by
  show Answers s (execWitnessPresenceFrame s)
  unfold execWitnessPresenceFrame
  refine .next ?_
  refine .ite (fun _ => ?_) fun _ => ?_
  · exact State.sendFrames_keeps ..
  · exact .refl _

theorem State.answerWitness_keeps (s : State) (asker : BitVec 16) (n : Nat) : Keeps s (State.answerWitness s asker n) := by
  unfold State.answerWitness
  exact State.sendFrames_keeps ..

theorem State.takeQuery_keeps (s : State) (asker peer silentUs : BitVec 16) : Keeps s (State.takeQuery s asker peer silentUs) := by
  unfold State.takeQuery
  refine .ite (fun _ => ?_) fun _ => ?_
  · exact .step (.refl _)
  · exact State.answerWitness_keeps ..

theorem State.notePresence_keeps (s : State) (a : BitVec 16) : Keeps s (State.notePresence s a) := by
  unfold State.notePresence
  split
  · extract_lets +onlyGivenNames y
    extract_lets +onlyGivenNames y
    refine .cut (x := y) (fun _ => ?_) ?_
    · clear_value y
      refine .foldl (fun _ _ => ?_) ?_
      · exact State.answerWitness_keeps ..
      · assumption
    · subst y
      exact .step (.refl _)

theorem execWitnessSilenceConfirm_answers (s : State) : Answers s (exec .witnessSilenceConfirm s) := by
  show Answers s (execWitnessSilenceConfirm s)
  unfold execWitnessSilenceConfirm
  refine .next ?_
  split
  · refine .foldl (fun _ _ => ?_) ?_
    · exact State.answerWitness_keeps ..
    · exact .step (.refl _)

theorem execMirrorLoopSend_answers (n : Fin 256) (s : State) : Answers s (exec (.mirrorLoopSend n) s) := by
  show Answers s (execMirrorLoopSend n s)
  unfold execMirrorLoopSend
  refine .next ?_
  extract_lets +onlyGivenNames y
  refine .ite (fun _ => ?_) fun _ => ?_
  · refine .trans ?_ (State.mirror_keeps ..)
    exact State.setLoop_keeps ..
  · exact .refl _

theorem State.applyRetain_keeps (s : State) (off : Nat) (data : List Byte) : Keeps s (State.applyRetain s off data) := by
  unfold State.applyRetain
  refine .ite (fun _ => ?_) fun _ => ?_
  · exact State.chamberEvent_keeps ..
  · extract_lets +onlyGivenNames y
    refine .cut (x := y) (fun _ => ?_) ?_
    · clear_value y
      exact .step (by assumption)
    · subst y
      refine .setMem ?_ fun hm => ?_
      · exact .refl _
      · refine Memory.write_wf _ _ ?_
        exact hm.gro.1 _

theorem State.takeSeries_keeps (s : State) (island : List SafeVal) : Keeps s (State.takeSeries s island) := by
  unfold State.takeSeries
  refine .foldl (fun _ _ => ?_) ?_
  · split
    · refine .ite (fun _ => ?_) fun _ => ?_
      · exact State.commitIsland_keeps ..
      · exact .refl _
    · exact .refl _
  · exact .refl _

theorem State.applyMarker_keeps (s : State) (t : Fin 128) (outs : List ImgVal) (island : List SafeVal) (age : Nat) (pending : Bool) : Keeps s (State.applyMarker s t outs island age pending) := by
  unfold State.applyMarker
  extract_lets +onlyGivenNames y
  refine .cut (x := y) (fun _ => ?_) ?_
  · clear_value y
    split
    · extract_lets +onlyGivenNames y
      extract_lets +onlyGivenNames y
      refine .cut (x := y) (fun _ => ?_) ?_
      · clear_value y
        split
        · extract_lets +onlyGivenNames y
          extract_lets +onlyGivenNames y
          extract_lets +onlyGivenNames y
          refine .cut (x := y) (fun _ => ?_) ?_
          · clear_value y
            refine .ite (fun _ => ?_) fun _ => ?_
            · assumption
            · refine .trans ?_ (State.evalMatrix_keeps ..)
              exact .trans (by assumption) (State.takeSeries_keeps ..)
          · subst y
            exact .step (by assumption)
      · subst y
        refine .foldl (fun _ _ => ?_) ?_
        · refine .setMem ?_ fun hm => ?_
          · exact .refl _
          · refine Memory.write_wf _ _ ?_
            exact hm.gro.1 _
        · exact .step (by assumption)
  · subst y
    refine .ite (fun _ => ?_) fun _ => ?_
    · exact State.switchTask_keeps ..
    · exact .refl _

theorem State.diverged_keeps (s : State) (b : Nat) : Keeps s (State.diverged s b) := by
  unfold State.diverged
  extract_lets +onlyGivenNames y
  extract_lets +onlyGivenNames y
  extract_lets +onlyGivenNames y
  extract_lets +onlyGivenNames y
  extract_lets +onlyGivenNames y
  refine .cut (x := y) (fun _ => ?_) ?_
  · clear_value y
    extract_lets +onlyGivenNames y
    refine .cut (x := y) (fun _ => ?_) ?_
    · clear_value y
      refine .ite (fun _ => ?_) fun _ => ?_
      · exact .trans (by assumption) (State.event_keeps ..)
      · assumption
    · subst y
      refine .trans ?_ (State.pairSend_keeps ..)
      exact .trans (by assumption) (State.event_keeps ..)
  · subst y
    exact .step (.refl _)

theorem State.compare_keeps (s : State) (l : List (Nat × BitVec 32)) : Keeps s (State.compare s l) := by
  unfold State.compare
  extract_lets +onlyGivenNames y
  refine .foldl (fun _ _ => ?_) ?_
  · exact State.diverged_keeps ..
  · exact .step (.refl _)

theorem State.joinSwap_keeps (s : State) : Keeps s (State.joinSwap s) := by
  unfold State.joinSwap
  refine .ite (fun _ => ?_) fun _ => ?_
  · extract_lets +onlyGivenNames y
    extract_lets +onlyGivenNames y
    extract_lets +onlyGivenNames y
    refine .cut (x := y) (fun _ => ?_) ?_
    · clear_value y
      extract_lets +onlyGivenNames y
      refine .cut (x := y) (fun _ => ?_) ?_
      · clear_value y
        refine .trans ?_ (State.evalMatrix_keeps ..)
        exact .trans (by assumption) (State.fade_keeps ..)
      · subst y
        refine .foldl (fun _ _ => ?_) ?_
        · refine .trans ?_ (State.fade_keeps ..)
          refine .trans ?_ (State.redrive_keeps ..)
          exact State.takeTask_keeps ..
        · assumption
    · subst y
      refine .trans ?_ (State.takeLoops_keeps ..)
      exact .step (.refl _)
  · exact .refl _

theorem State.takeHandover_keeps (s : State) (t : Fin 128) : Keeps s (State.takeHandover s t) := by
  unfold State.takeHandover
  refine .ite (fun _ => ?_) fun _ => ?_
  · extract_lets +onlyGivenNames y
    extract_lets +onlyGivenNames y
    refine .cut (x := y) (fun _ => ?_) ?_
    · clear_value y
      refine .trans ?_ (State.evalMatrix_keeps ..)
      refine .trans ?_ (State.fade_keeps ..)
      refine .trans ?_ (State.redrive_keeps ..)
      exact .trans (by assumption) (State.takeTask_keeps ..)
    · subst y
      exact .step (.refl _)
  · exact .refl _

theorem State.noteSwap_keeps (s : State) : Keeps s (State.noteSwap s) := by
  unfold State.noteSwap
  exact .step (.refl _)

theorem State.endSwap_keeps (s : State) : Keeps s (State.endSwap s) := by
  unfold State.endSwap
  refine .ite (fun _ => ?_) fun _ => ?_
  · extract_lets +onlyGivenNames y
    extract_lets +onlyGivenNames y
    refine .cut (x := y) (fun _ => ?_) ?_
    · clear_value y
      refine .trans ?_ (State.evalMatrix_keeps ..)
      exact .trans (by assumption) (State.takeIsland_keeps ..)
    · subst y
      refine .trans ?_ (State.renewSlots_keeps ..)
      refine .trans ?_ (State.takeAxes_keeps ..)
      refine .trans ?_ (State.raiseEpoch_keeps ..)
      refine .trans ?_ (State.setRole_keeps ..)
      exact State.noteSwap_keeps ..
  · exact .refl _

theorem State.handOver_keeps (s : State) (t : Fin 128) : Keeps s (State.handOver s t) := by
  unfold State.handOver
  extract_lets +onlyGivenNames y
  refine .cut (x := y) (fun _ => ?_) ?_
  · clear_value y
    extract_lets +onlyGivenNames y
    extract_lets +onlyGivenNames y
    refine .cut (x := y) (fun _ => ?_) ?_
    · clear_value y
      refine .ite (fun _ => ?_) fun _ => ?_
      · extract_lets +onlyGivenNames y
        refine .cut (x := y) (fun _ => ?_) ?_
        · clear_value y
          extract_lets +onlyGivenNames y
          extract_lets +onlyGivenNames y
          refine .cut (x := y) (fun _ => ?_) ?_
          · clear_value y
            exact .step (by assumption)
          · subst y
            refine .trans ?_ (State.leaveStation_keeps ..)
            exact .trans (by assumption) (State.noteSwap_keeps ..)
        · subst y
          exact .trans (by assumption) (State.pairSend_keeps ..)
      · assumption
    · subst y
      exact .step (by assumption)
  · subst y
    refine .trans ?_ (State.pairSend_keeps ..)
    refine .trans ?_ (State.idleTasks_keeps ..)
    exact State.letGo_keeps ..

theorem State.fill_keeps (s : State) : Keeps s (State.fill s) := by
  unfold State.fill
  extract_lets +onlyGivenNames y
  extract_lets +onlyGivenNames y
  refine .cut (x := y) (fun _ => ?_) ?_
  · clear_value y
    extract_lets +onlyGivenNames y
    refine .cut (x := y) (fun _ => ?_) ?_
    · clear_value y
      extract_lets +onlyGivenNames y
      refine .cut (x := y) (fun _ => ?_) ?_
      · clear_value y
        extract_lets +onlyGivenNames y
        refine .cut (x := y) (fun _ => ?_) ?_
        · clear_value y
          extract_lets +onlyGivenNames y
          refine .cut (x := y) (fun _ => ?_) ?_
          · clear_value y
            exact .trans (by assumption) (State.pairSend_keeps ..)
          · subst y
            refine .trans ?_ (State.pairSend_keeps ..)
            exact .trans (by assumption) (State.pairSend_keeps ..)
        · subst y
          refine .trans ?_ (State.pairSend_keeps ..)
          exact .trans (by assumption) (State.pairSend_keeps ..)
      · subst y
        refine .foldl (fun _ _ => ?_) ?_
        · extract_lets +onlyGivenNames y
          refine .ite (fun _ => ?_) fun _ => ?_
          · exact .refl _
          · exact State.pairSend_keeps ..
        · assumption
    · subst y
      exact .trans (by assumption) (State.pairSend_keeps ..)
  · subst y
    exact .step (.refl _)

theorem State.takeBulk_keeps (s : State) (c : Fin 11) (m : Memory) (w : m.wf = true) : Keeps s (s.takeBulk c m) := by
  unfold State.takeBulk
  extract_lets +onlyGivenNames pct
  refine Keeps.ite (fun _ => Keeps.refl s) fun _ => Keeps.ite (fun _ => ?_) fun _ => Keeps.ite (fun _ => ?_) fun _ => ?_
  · have h : Keeps s (s.setMem 2 m) := (Keeps.refl s).setMem fun _ => w
    exact ⟨h.pending, fun x => ⟨⟨(h.sound x).gro.1, w⟩, (h.sound x).flow, (h.sound x).host⟩⟩
  · extract_lets outs
    have h : Keeps s (s.setMem 0 (List.foldl (fun i (e : Nat × Nat) => i.write e.1 (m.read e.1 e.2)) s.img outs)) :=
      (Keeps.refl s).setMem fun x => writes_wf (fun _ _ g => Memory.write_wf _ _ g) (x.gro.1 0)
    exact Keeps.step (u := pct 50 _) (Keeps.step h)
  · have h : Keeps s (s.setMem c m) := (Keeps.refl s).setMem fun _ => w
    exact Keeps.step (u := pct 75 _) (Keeps.step h)

theorem execSyncBulkComplete_answers (s : State) : Answers s (exec .syncBulkComplete s) := by
  show Answers s (execSyncBulkComplete s)
  unfold execSyncBulkComplete
  refine .next ?_
  split
  · exact .refl _
  · refine .ite (fun _ => ?_) fun _ => ?_
    · extract_lets +onlyGivenNames y
      refine .cut (x := y) (fun _ => ?_) ?_
      · clear_value y
        exact .step (by assumption)
      · subst y
        refine .foldl (fun _ _ => ?_) ?_
        · exact State.pairSend_keeps ..
        · exact .refl _
    · refine .ite (fun _ => ?_) fun _ => ?_
      · exact .step (.refl _)
      · exact .refl _

theorem execSyncComplete_answers (s : State) : Answers s (exec .syncComplete s) := by
  show Answers s (execSyncComplete s)
  unfold execSyncComplete
  refine .next ?_
  extract_lets +onlyGivenNames y
  refine .ite (fun _ => ?_) fun _ => ?_
  · refine .trans ?_ (State.setRole_keeps ..)
    exact .step (.refl _)
  · exact .refl _

theorem State.adoptEpoch_keeps (s : State) (e : BitVec 64) : Keeps s (State.adoptEpoch s e) := by
  unfold State.adoptEpoch
  extract_lets +onlyGivenNames y
  extract_lets +onlyGivenNames y
  refine .cut (x := y) (fun _ => ?_) ?_
  · clear_value y
    refine .ite (fun _ => ?_) fun _ => ?_
    · exact .step (by assumption)
    · assumption
  · subst y
    exact .step (.refl _)

theorem State.takeBeat_keeps (s : State) (p : PeerInfo) : Keeps s (State.takeBeat s p) := by
  unfold State.takeBeat
  extract_lets +onlyGivenNames y
  extract_lets +onlyGivenNames y
  refine .cut (x := y) (fun _ => ?_) ?_
  · clear_value y
    extract_lets +onlyGivenNames y
    refine .cut (x := y) (fun _ => ?_) ?_
    · clear_value y
      refine .ite (fun _ => ?_) fun _ => ?_
      · assumption
      · split
        · refine .trans ?_ (State.setRole_keeps ..)
          exact .step (by assumption)
        · refine .ite (fun _ => ?_) fun _ => ?_
          · exact .trans (by assumption) (State.fill_keeps ..)
          · assumption
        · refine .ite (fun _ => ?_) fun _ => ?_
          · exact .trans (by assumption) (State.loseStandby_keeps ..)
          · assumption
        · refine .ite (fun _ => ?_) fun _ => ?_
          · exact .trans (by assumption) (State.loseStandby_keeps ..)
          · assumption
        · assumption
        · assumption
    · subst y
      refine .ite (fun _ => ?_) fun _ => ?_
      · exact .trans (by assumption) (State.learnOwner_keeps ..)
      · assumption
  · subst y
    refine .trans ?_ (State.adoptEpoch_keeps ..)
    exact .step (.refl _)

theorem State.yielded_keeps (s : State) : Keeps s (State.yielded s) := by
  unfold State.yielded
  extract_lets +onlyGivenNames y
  extract_lets +onlyGivenNames y
  refine .cut (x := y) (fun _ => ?_) ?_
  · clear_value y
    refine .ite (fun _ => ?_) fun _ => ?_
    · exact .trans (by assumption) (State.stopRun_keeps ..)
    · extract_lets +onlyGivenNames y
      extract_lets +onlyGivenNames y
      extract_lets +onlyGivenNames y
      refine .cut (x := y) (fun _ => ?_) ?_
      · clear_value y
        split
        · exact .trans (by assumption) (State.enterHalt_keeps ..)
        · assumption
      · subst y
        exact .step (by assumption)
  · subst y
    exact State.leaveStation_keeps ..

theorem State.takeFrame_keeps (s : State) (msg : PairMsg) (w : pairMsgOk msg = true) : Keeps s (State.takeFrame s msg) := by
  cases msg <;> unfold State.takeFrame <;> dsimp only
  case bulkAll c m => exact State.takeBulk_keeps s c m w
  · exact State.takeBeat_keeps ..
  · exact .step (.refl _)
  · refine .ite (fun _ => ?_) fun _ => ?_
    · exact State.applyRetain_keeps ..
    · exact .refl _
  · refine .ite (fun _ => ?_) fun _ => ?_
    · exact .step (.refl _)
    · exact .refl _
  · refine .ite (fun _ => ?_) fun _ => ?_
    · exact State.applyMarker_keeps ..
    · exact .refl _
  · refine .ite (fun _ => ?_) fun _ => ?_
    · exact .step (.refl _)
    · exact .refl _
  · refine .ite (fun _ => ?_) fun _ => ?_
    · exact .step (.refl _)
    · exact .refl _
  · refine .ite (fun _ => ?_) fun _ => ?_
    · exact .step (.refl _)
    · exact .refl _
  · refine .ite (fun _ => ?_) fun _ => ?_
    · exact .step (.refl _)
    · exact .refl _
  · refine .ite (fun _ => ?_) fun _ => ?_
    · exact .step (.refl _)
    · exact .refl _
  · exact State.adoptEpoch_keeps ..
  · refine .ite (fun _ => ?_) fun _ => ?_
    · exact State.takeover_keeps ..
    · exact .refl _
  · exact State.joinSwap_keeps ..
  · exact State.takeHandover_keeps ..
  · exact State.endSwap_keeps ..
  · refine .ite (fun _ => ?_) fun _ => ?_
    · refine .trans ?_ (State.pairAlarm_keeps ..)
      exact .step (.refl _)
    · exact .refl _
  · refine .ite (fun _ => ?_) fun _ => ?_
    · exact State.compare_keeps ..
    · exact .refl _
  · refine .ite (fun _ => ?_) fun _ => ?_
    · refine .step ?_
      exact State.pairSend_keeps ..
    · exact .refl _
  · refine .ite (fun _ => ?_) fun _ => ?_
    · exact State.applyRetain_keeps ..
    · exact .refl _
  · refine .ite (fun _ => ?_) fun _ => ?_
    · exact State.yielded_keeps ..
    · exact .refl _
  · refine .ite (fun _ => ?_) fun _ => ?_
    · exact .refl _
    · refine .ite (fun _ => ?_) fun _ => ?_
      · exact State.applyRetain_keeps ..
      · refine .setMem ?_ fun hm => ?_
        · exact .refl _
        · refine Memory.write_wf _ _ ?_
          exact hm.gro.1 _
  · refine .ite (fun _ => ?_) fun _ => ?_
    · exact State.acceptChange_keeps ..
    · exact .refl _

theorem execPairFrameReceive_answers (crcOk : Bool) (msg : PairMsg) (s : State) (w : pairMsgOk msg = true) :
    Answers s (exec (.pairFrameReceive crcOk msg) s) := by
  show Answers s (execPairFrameReceive crcOk msg s)
  refine Answers.next (Keeps.ite (fun _ => Keeps.refl s) fun _ => Keeps.ite (fun _ => Keeps.step (Keeps.refl s)) fun _ => ?_)
  have h : Keeps s { s with pr.lastFrame := some s.now, pr.witnessAt := none, pr.witnessAsk := none } := Keeps.step (Keeps.refl s)
  exact h.trans (State.takeFrame_keeps _ msg w)

theorem execSwapStart_answers (s : State) : Answers s (exec .swapStart s) := by
  show Answers s (execSwapStart s)
  unfold execSwapStart
  refine .next ?_
  refine .ite (fun _ => ?_) fun _ => ?_
  · exact State.trySwap_keeps ..
  · exact .refl _

theorem execSwapRetry_answers (s : State) : Answers s (exec .swapRetry s) := by
  show Answers s (execSwapRetry s)
  unfold execSwapRetry
  refine .next ?_
  refine .ite (fun _ => ?_) fun _ => ?_
  · extract_lets +onlyGivenNames y
    extract_lets +onlyGivenNames y
    refine .cut (x := y) (fun _ => ?_) ?_
    · clear_value y
      refine .ite (fun _ => ?_) fun _ => ?_
      · assumption
      · exact .trans (by assumption) (State.trySwap_keeps ..)
    · subst y
      exact .step (.refl _)
  · exact .refl _

theorem execSwapAxisWaitTimeout_answers (s : State) : Answers s (exec .swapAxisWaitTimeout s) := by
  show Answers s (execSwapAxisWaitTimeout s)
  unfold execSwapAxisWaitTimeout
  refine .next ?_
  refine .ite (fun _ => ?_) fun _ => ?_
  · exact State.postponeSwap_keeps ..
  · exact .refl _

theorem State.inTime_keeps (s : State) (t : Fin 128) : Keeps s (State.inTime s t) := by
  unfold State.inTime
  exact State.setTask_keeps ..

theorem State.overran_keeps (s : State) (t : Fin 128) : Keeps s (State.overran s t) := by
  unfold State.overran
  extract_lets +onlyGivenNames y
  refine .cut (x := y) (fun _ => ?_) ?_
  · clear_value y
    extract_lets +onlyGivenNames y
    refine .ite (fun _ => ?_) fun _ => ?_
    · exact .trans (by assumption) (State.taskFault_keeps ..)
    · refine .ite (fun _ => ?_) fun _ => ?_
      · refine .trans ?_ (State.missCommit_keeps ..)
        exact .trans (by assumption) (State.abandon_keeps ..)
      · refine .trans ?_ (State.missCommit_keeps ..)
        exact .trans (by assumption) (State.setTask_keeps ..)
  · subst y
    exact State.countOverrun_keeps ..

theorem State.haltedBoundary_keeps (s : State) (t : Fin 128) : Keeps s (State.haltedBoundary s t) := by
  unfold State.haltedBoundary
  extract_lets +onlyGivenNames y
  refine .ite (fun _ => ?_) fun _ => ?_
  · refine .ite (fun _ => ?_) fun _ => ?_
    · exact State.commitSafe_keeps ..
    · exact State.missCommit_keeps ..
  · refine .trans ?_ (State.missCommit_keeps ..)
    exact State.setTask_keeps ..

theorem State.closeCycle_keeps (s : State) (t : Fin 128) : Keeps s (State.closeCycle s t) := by
  unfold State.closeCycle
  extract_lets +onlyGivenNames y
  refine .ite (fun _ => ?_) fun _ => ?_
  · exact .refl _
  · refine .ite (fun _ => ?_) fun _ => ?_
    · exact State.missCommit_keeps ..
    · refine .ite (fun _ => ?_) fun _ => ?_
      · exact State.haltedBoundary_keeps ..
      · refine .ite (fun _ => ?_) fun _ => ?_
        · refine .trans ?_ (State.inTime_keeps ..)
          refine .ite (fun _ => ?_) fun _ => ?_
          · exact State.missCommit_keeps ..
          · exact .refl _
        · refine .ite (fun _ => ?_) fun _ => ?_
          · refine .trans ?_ (State.inTime_keeps ..)
            refine .trans ?_ (State.missCommit_keeps ..)
            exact State.setTask_keeps ..
          · refine .ite (fun _ => ?_) fun _ => ?_
            · refine .trans ?_ (State.inTime_keeps ..)
              exact State.missCommit_keeps ..
            · split
              · refine .trans ?_ (State.inTime_keeps ..)
                exact State.commitRun_keeps ..
              · exact State.overran_keeps ..

theorem State.applyUnowned_keeps (s : State) : Keeps s (State.applyUnowned s) := by
  unfold State.applyUnowned
  refine .foldl (fun _ _ => ?_) ?_
  · exact State.applyVar_keeps ..
  · exact .step (.refl _)

theorem State.splitNow_keeps (s : State) (l : Fin 4) : Keeps s (State.splitNow s l) := by
  unfold State.splitNow
  refine .ite (fun _ => ?_) fun _ => ?_
  · split
    · refine .trans ?_ (State.event_keeps ..)
      exact State.setLane_keeps ..
    · exact State.setLane_keeps ..
  · exact .refl _

theorem State.joinNow_keeps (s : State) (l : Fin 4) : Keeps s (State.joinNow s l) := by
  unfold State.joinNow
  refine .ite (fun _ => ?_) fun _ => ?_
  · extract_lets +onlyGivenNames y
    refine .cut (x := y) (fun _ => ?_) ?_
    · clear_value y
      exact .trans (by assumption) (State.setLane_keeps ..)
    · subst y
      split
      · exact State.preempt_keeps ..
      · exact .refl _
  · exact .refl _

theorem State.beginLatched_keeps (s : State) (t : Fin 128) (stretched : Bool) : Keeps s (State.beginLatched s t stretched) := by
  unfold State.beginLatched
  refine .trans ?_ (State.setTask_keeps ..)
  refine .trans ?_ (State.latch_keeps ..)
  exact State.switchTask_keeps ..

theorem State.nextCycle_keeps (s : State) (t : Fin 128) : Keeps s (State.nextCycle s t) := by
  unfold State.nextCycle
  extract_lets +onlyGivenNames y
  refine .ite (fun _ => ?_) fun _ => ?_
  · exact State.setTask_keeps ..
  · refine .ite (fun _ => ?_) fun _ => ?_
    · exact State.setTask_keeps ..
    · exact State.beginLatched_keeps ..

theorem State.resumeTask_keeps (s : State) (t : Fin 128) : Keeps s (State.resumeTask s t) := by
  unfold State.resumeTask
  exact State.setTask_keeps ..

theorem State.openCycle_keeps (s : State) (t : Fin 128) : Keeps s (State.openCycle s t) := by
  unfold State.openCycle
  extract_lets +onlyGivenNames y
  refine .ite (fun _ => ?_) fun _ => ?_
  · exact .refl _
  · refine .ite (fun _ => ?_) fun _ => ?_
    · refine .ite (fun _ => ?_) fun _ => ?_
      · exact State.handOver_keeps ..
      · exact .refl _
    · refine .ite (fun _ => ?_) fun _ => ?_
      · exact .refl _
      · refine .ite (fun _ => ?_) fun _ => ?_
        · refine .ite (fun _ => ?_) fun _ => ?_
          · refine .trans ?_ (State.nextCycle_keeps ..)
            exact State.resumeTask_keeps ..
          · exact .refl _
        · exact State.nextCycle_keeps ..

theorem execPeriodBoundary_answers (s : State) : Answers s (exec .periodBoundary s) := by
  show Answers s (execPeriodBoundary s)
  unfold execPeriodBoundary
  refine .next ?_
  split
  · exact .refl _
  · extract_lets +onlyGivenNames y
    refine .cut (x := y) (fun _ => ?_) ?_
    · clear_value y
      extract_lets +onlyGivenNames y
      refine .cut (x := y) (fun _ => ?_) ?_
      · clear_value y
        refine .trans ?_ (State.dispatch_keeps ..)
        refine .foldl (fun _ _ => ?_) ?_
        · exact State.openCycle_keeps ..
        · assumption
      · subst y
        refine .foldl (fun _ _ => ?_) ?_
        · refine .trans ?_ (State.joinNow_keeps ..)
          exact State.splitNow_keeps ..
        · assumption
    · subst y
      refine .trans ?_ (State.applyUnowned_keeps ..)
      refine .foldl (fun _ _ => ?_) ?_
      · exact State.closeCycle_keeps ..
      · exact .refl _

theorem State.outside_keeps (s : State) (p : Fin 14) (r : PortReq) : Keeps s (State.outside s p r) := by
  unfold State.outside
  refine .ite (fun _ => ?_) fun _ => ?_
  · split
    · exact State.taskFault_keeps ..
    · exact .refl _
  · exact State.enterHalt_keeps ..

theorem State.grottoEvent_keeps (s : State) (sev : Nat) (c : Fin 11) (block : Nat) : Keeps s (State.grottoEvent s sev c block) := by
  unfold State.grottoEvent
  exact State.event_keeps ..

theorem State.degrade_keeps (s : State) (c : Fin 11) (block : Nat) : Keeps s (State.degrade s c block) := by
  unfold State.degrade
  refine .trans ?_ (State.grottoEvent_keeps ..)
  exact .step (.refl _)

theorem State.countHour_keeps (s : State) (c : Fin 11) : Keeps s (State.countHour s c) := by
  unfold State.countHour
  extract_lets +onlyGivenNames y
  extract_lets +onlyGivenNames y
  extract_lets +onlyGivenNames y
  extract_lets +onlyGivenNames y
  refine .cut (x := y) (fun _ => ?_) ?_
  · clear_value y
    refine .ite (fun _ => ?_) fun _ => ?_
    · exact .trans (by assumption) (State.degrade_keeps ..)
    · assumption
  · subst y
    exact .step (.refl _)

theorem State.countBlock_keeps (s : State) (c : Fin 11) (b : Nat) : Keeps s (State.countBlock s c b) := by
  unfold State.countBlock
  extract_lets +onlyGivenNames y
  extract_lets +onlyGivenNames y
  refine .ite (fun _ => ?_) fun _ => ?_
  · refine .trans ?_ (State.degrade_keeps ..)
    exact .step (.refl _)
  · exact .step (.refl _)

theorem State.noteCorrection_keeps (s : State) (c : Fin 11) (b : Nat) : Keeps s (State.noteCorrection s c b) := by
  unfold State.noteCorrection
  extract_lets +onlyGivenNames y
  extract_lets +onlyGivenNames y
  extract_lets +onlyGivenNames y
  extract_lets +onlyGivenNames y
  refine .cut (x := y) (fun _ => ?_) ?_
  · clear_value y
    refine .ite (fun _ => ?_) fun _ => ?_
    · exact .trans (by assumption) (State.event_keeps ..)
    · assumption
  · subst y
    exact .step (.refl _)

theorem State.corrected_keeps (s : State) (c : Fin 11) (b : Nat) : Keeps s (State.corrected s c b) := by
  unfold State.corrected
  refine .trans ?_ (State.countBlock_keeps ..)
  refine .trans ?_ (State.countHour_keeps ..)
  refine .trans ?_ (State.noteCorrection_keeps ..)
  exact State.chamberEvent_keeps ..

theorem State.taskUe_keeps (s : State) (b : Nat) (req : Option (Fin 128)) : Keeps s (State.taskUe s b req) := by
  unfold State.taskUe
  split
  · extract_lets +onlyGivenNames y
    refine .cut (x := y) (fun _ => ?_) ?_
    · clear_value y
      refine .ite (fun _ => ?_) fun _ => ?_
      · exact .trans (by assumption) (State.requestFailover_keeps ..)
      · assumption
    · subst y
      exact State.taskFault_keeps ..
  · exact .refl _

theorem State.retainUe_keeps (s : State) (b : Nat) : Keeps s (s.retainUe b) := by
  unfold State.retainUe
  extract_lets g0 m
  refine Keeps.ite (fun _ => Keeps.step (Keeps.refl s)) fun _ => ?_
  have h : Keeps s (s.setMem 2 ((s.gro.mem.get 2).write (32 * b) (m.read (32 * b) 32))) := (Keeps.refl s).setMem fun x => Memory.write_wf _ _ (x.gro.1 2)
  exact Keeps.step h

theorem State.msgUe_keeps (s : State) (b : Nat) : Keeps s (State.msgUe s b) := by
  unfold State.msgUe
  extract_lets a off m
  cases off with
  | none => exact Keeps.refl s
  | some o => exact (Keeps.refl s).setMem fun x => Memory.write_wf _ _ (x.gro.1 5)

theorem State.stagingUe_keeps (s : State) (b : Nat) : Keeps s (State.stagingUe s b) := by
  unfold State.stagingUe
  extract_lets +onlyGivenNames y
  extract_lets +onlyGivenNames y
  refine .ite (fun _ => ?_) fun _ => ?_
  · exact .refl _
  · exact .step (.refl _)

theorem State.mbxUe_keeps (s : State) (b : Nat) : Keeps s (State.mbxUe s b) := by
  unfold State.mbxUe
  split
  · split
    · rename_i eq
      have hp := Keeps.of_eq (State.draw_keeps ..) eq
      refine .trans ?_ (State.reply_keeps ..)
      exact .step (by assumption)
  · exact .refl _

theorem State.ueAction_keeps (s : State) (c : Fin 11) (b : Nat) (req : Option (Fin 128)) : Keeps s (State.ueAction s c b req) := by
  unfold State.ueAction
  split
  · refine .foldl (fun _ _ => ?_) ?_
    · exact State.setQuality_keeps ..
    · exact .refl _
  · exact State.taskUe_keeps ..
  · exact State.retainUe_keeps ..
  · refine .foldl (fun _ _ => ?_) ?_
    · refine .ite (fun _ => ?_) fun _ => ?_
      · exact .refl _
      · exact State.tripLoop_keeps ..
    · exact .refl _
  · split
    · exact State.faultJob_keeps ..
    · exact .refl _
  · exact State.msgUe_keeps ..
  · refine .trans ?_ (State.mirror_keeps ..)
    exact .step (.refl _)
  · exact State.stagingUe_keeps ..
  · exact .refl _
  · exact State.mbxUe_keeps ..
  · exact .step (.refl _)

theorem State.uncorrectable_keeps (s : State) (c : Fin 11) (b : Nat) (req : Option (Fin 128)) : Keeps s (State.uncorrectable s c b req) := by
  unfold State.uncorrectable
  extract_lets +onlyGivenNames y
  refine .cut (x := y) (fun _ => ?_) ?_
  · clear_value y
    extract_lets +onlyGivenNames y
    extract_lets +onlyGivenNames y
    refine .cut (x := y) (fun _ => ?_) ?_
    · clear_value y
      extract_lets +onlyGivenNames y
      extract_lets +onlyGivenNames y
      refine .cut (x := y) (fun _ => ?_) ?_
      · clear_value y
        refine .trans ?_ (State.ueAction_keeps ..)
        exact .trans (by assumption) (State.event_keeps ..)
      · subst y
        exact .step (by assumption)
    · subst y
      refine .ite (fun _ => ?_) fun _ => ?_
      · exact .step (by assumption)
      · exact .step (by assumption)
  · subst y
    exact State.chamberEvent_keeps ..

theorem State.logUndo_keeps (s : State) (r : PortReq) (d : List Byte) : Keeps s (State.logUndo s r d) := by
  unfold State.logUndo
  split
  · exact .refl _
  · extract_lets +onlyGivenNames y
    refine .ite (fun _ => ?_) fun _ => ?_
    · extract_lets +onlyGivenNames y
      extract_lets +onlyGivenNames y
      extract_lets +onlyGivenNames y
      extract_lets +onlyGivenNames y
      refine .ite (fun _ => ?_) fun _ => ?_
      · refine .trans ?_ (State.setTemper_keeps ..)
        exact State.setTask_keeps ..
      · refine .trans ?_ (State.setTemper_keeps ..)
        exact State.setTask_keeps ..
    · exact .refl _

theorem State.grantWrite_keeps (s : State) (p : Fin 14) (r : PortReq) (d : List Byte) : Keeps s (State.grantWrite s p r d) := by
  unfold State.grantWrite
  extract_lets +onlyGivenNames y
  refine .cut (x := y) (fun _ => ?_) ?_
  · clear_value y
    extract_lets +onlyGivenNames y
    extract_lets +onlyGivenNames y
    refine .cut (x := y) (fun _ => ?_) ?_
    · clear_value y
      refine .ite (fun _ => ?_) fun _ => ?_
      · refine .ite (fun _ => ?_) fun _ => ?_
        · exact .trans (by assumption) (State.chamberEvent_keeps ..)
        · refine .setMem ?_ fun hm => ?_
          · exact .step (by assumption)
          · refine Memory.write_wf _ _ ?_
            exact (Keeps.sound (by assumption) hm).gro.1 _
      · refine .ite (fun _ => ?_) fun _ => ?_
        · extract_lets +onlyGivenNames y
          refine .cut (x := y) (fun _ => ?_) ?_
          · clear_value y
            refine .setMem ?_ fun hm => ?_
            · assumption
            · refine Memory.write_wf _ _ ?_
              exact (Keeps.sound (by assumption) hm).gro.1 _
          · subst y
            exact .step (by assumption)
        · exact .trans (by assumption) (State.writeChamber_keeps ..)
    · subst y
      exact .step (by assumption)
  · subst y
    exact State.logUndo_keeps ..

theorem State.grant_keeps (s : State) (p : Fin 14) (r : PortReq) : Keeps s (State.grant s p r) := by
  unfold State.grant
  extract_lets bad b found
  cases r.write with
  | none =>
    dsimp only
    cases found
    · exact Keeps.refl s
    · exact State.corrected_keeps ..
    · exact State.uncorrectable_keeps ..
  | some d =>
    refine Keeps.ite (fun _ => State.grantWrite_keeps ..) fun _ => ?_
    cases found
    · exact State.grantWrite_keeps ..
    · exact (State.corrected_keeps ..).trans (State.grantWrite_keeps ..)
    · exact State.uncorrectable_keeps ..

theorem State.collision_keeps (s : State) (c : Fin 11) (earlier later : Fin 14) : Keeps s (State.collision s c earlier later) := by
  unfold State.collision
  extract_lets +onlyGivenNames y
  refine .cut (x := y) (fun _ => ?_) ?_
  · clear_value y
    extract_lets +onlyGivenNames y
    extract_lets +onlyGivenNames y
    refine .cut (x := y) (fun _ => ?_) ?_
    · clear_value y
      refine .ite (fun _ => ?_) fun _ => ?_
      · assumption
      · refine .trans ?_ (State.grottoEvent_keeps ..)
        exact .step (by assumption)
    · subst y
      exact .step (by assumption)
  · subst y
    exact State.chamberEvent_keeps ..

theorem State.grantOne_keeps (s : State) (fresh done : List (Fin 14 × PortReq)) (k : Fin 4) (floor : Bool) (p : Fin 14) (r : PortReq) : Keeps s (State.grantOne s fresh done k floor p r) := by
  unfold State.grantOne
  extract_lets +onlyGivenNames y
  extract_lets +onlyGivenNames y
  refine .cut (x := y) (fun _ => ?_) ?_
  · clear_value y
    extract_lets +onlyGivenNames y
    refine .cut (x := y) (fun _ => ?_) ?_
    · clear_value y
      extract_lets +onlyGivenNames y
      refine .cut (x := y) (fun _ => ?_) ?_
      · clear_value y
        exact .trans (by assumption) (State.grant_keeps ..)
      · subst y
        refine .ite (fun _ => ?_) fun _ => ?_
        · split
          · exact .trans (by assumption) (State.collision_keeps ..)
          · assumption
        · assumption
    · subst y
      exact .step (by assumption)
  · subst y
    exact .step (.refl _)

theorem State.grantAll_keeps (fresh : List (Fin 14 × PortReq)) (n : Nat) (done : List (Fin 14 × PortReq)) (s : State) :
    Keeps s (State.grantAll fresh n done s) := by
  induction n generalizing done s with
  | zero => exact Keeps.refl s
  | succ n ih =>
    unfold State.grantAll
    split
    · exact Keeps.refl s
    · split
      · exact Keeps.refl s
      · split
        · exact Keeps.refl s
        · exact (State.grantOne_keeps ..).trans (ih _ _)

theorem State.present_keeps (s : State) (reqs : List (Fin 14 × PortReq)) : Keeps s (State.present s reqs) := by
  unfold State.present
  refine .foldl (fun _ _ => ?_) ?_
  · refine .ite (fun _ => ?_) fun _ => ?_
    · exact .step (.refl _)
    · exact State.outside_keeps ..
  · exact .refl _

theorem execGrottoRequest_answers (reqs : List (Fin 14 × PortReq)) (s : State) : Answers s (exec (.grottoRequest reqs) s) := by
  show Answers s (execGrottoRequest reqs s)
  unfold execGrottoRequest
  refine .next ?_
  refine .ite (fun _ => ?_) fun _ => ?_
  · extract_lets +onlyGivenNames y
    refine .cut (x := y) (fun _ => ?_) ?_
    · clear_value y
      refine .trans ?_ (State.dispatch_keeps ..)
      exact .trans (by assumption) (State.grantAll_keeps ..)
    · subst y
      exact State.present_keeps ..
  · exact .refl _

theorem Grotto.drainBlock_canonical {g : Grotto} (h : g.Canonical) : g.drainBlock.Canonical := by
  unfold Grotto.drainBlock
  split
  · exact h
  · refine ⟨h.1, ?_⟩
    dsimp only
    split
    · exact Memory.write_wf _ _ h.2
    · exact h.2

theorem execMramBufferDrain_answers (s : State) : Answers s (exec .mramBufferDrain s) := by
  show Answers s (execMramBufferDrain s)
  unfold execMramBufferDrain
  refine Answers.next (Keeps.ite (fun _ => Keeps.refl s) fun _ => ?_)
  extract_lets +onlyGivenNames s1
  have h1 : Keeps s s1 := (Keeps.refl s).setGro Grotto.drainBlock_canonical
  clear_value s1
  refine Keeps.ite (fun _ => ?_) fun _ => h1
  extract_lets
  exact ((Keeps.step h1).trans (State.grantAll_keeps ..)).trans (State.dispatch_keeps ..)

theorem State.mramUncorrectable_keeps (s : State) (c : Fin 11) (b : Nat) : Keeps s (State.mramUncorrectable s c b) := by
  unfold State.mramUncorrectable
  refine .ite (fun _ => ?_) fun _ => ?_
  · exact State.uncorrectable_keeps ..
  · extract_lets +onlyGivenNames y
    extract_lets +onlyGivenNames y
    refine .cut (x := y) (fun _ => ?_) ?_
    · clear_value y
      refine .ite (fun _ => ?_) fun _ => ?_
      · refine .trans ?_ (State.event_keeps ..)
        exact .step (by assumption)
      · refine .ite (fun _ => ?_) fun _ => ?_
        · refine .trans ?_ (State.event_keeps ..)
          exact .step (by assumption)
        · exact .trans (by assumption) (State.event_keeps ..)
    · subst y
      exact .step (.refl _)

theorem State.scrubbed_keeps (s : State) (mram : Bool) (c : Fin 11) (b : Nat) (e : Ecc) : Keeps s (State.scrubbed s mram c b e) := by
  unfold State.scrubbed
  split
  · exact .refl _
  · refine .ite (fun _ => ?_) fun _ => ?_
    · exact .refl _
    · exact State.corrected_keeps ..
  · refine .ite (fun _ => ?_) fun _ => ?_
    · exact State.mramUncorrectable_keeps ..
    · refine .ite (fun _ => ?_) fun _ => ?_
      · exact State.enterHalt_keeps ..
      · exact State.uncorrectable_keeps ..

theorem State.beginPass_keeps (s : State) (mram : Bool) : Keeps s (State.beginPass s mram) := by
  unfold State.beginPass
  extract_lets +onlyGivenNames y
  extract_lets +onlyGivenNames y
  refine .ite (fun _ => ?_) fun _ => ?_
  · exact .step (.refl _)
  · exact .refl _

theorem State.advancePass_keeps (s : State) (mram : Bool) (c : Fin 11) (rest : List (Fin 11)) : Keeps s (State.advancePass s mram c rest) := by
  unfold State.advancePass
  extract_lets +onlyGivenNames y
  extract_lets +onlyGivenNames y
  extract_lets +onlyGivenNames y
  extract_lets +onlyGivenNames y
  refine .cut (x := y) (fun _ => ?_) ?_
  · clear_value y
    exact .step (by assumption)
  · subst y
    refine .ite (fun _ => ?_) fun _ => ?_
    · exact .step (.refl _)
    · exact .step (.refl _)

theorem execScrubRead_answers (mram : Bool) (ecc : Ecc) (s : State) : Answers s (exec (.scrubRead mram ecc) s) := by
  show Answers s (execScrubRead mram ecc s)
  unfold execScrubRead
  refine .next ?_
  refine .ite (fun _ => ?_) fun _ => ?_
  · extract_lets +onlyGivenNames y
    refine .cut (x := y) (fun _ => ?_) ?_
    · clear_value y
      split
      · extract_lets +onlyGivenNames y
        refine .trans ?_ (State.dispatch_keeps ..)
        refine .trans ?_ (State.scrubbed_keeps ..)
        exact .trans (by assumption) (State.advancePass_keeps ..)
      · assumption
    · subst y
      exact State.beginPass_keeps ..
  · exact .refl _

theorem execScrubBehind_answers (s : State) : Answers s (exec .scrubBehind s) := by
  show Answers s (execScrubBehind s)
  unfold execScrubBehind
  refine .next ?_
  refine .ite (fun _ => ?_) fun _ => ?_
  · exact .step (.refl _)
  · exact .refl _

theorem State.noteSession_keeps (s : State) (k : Fin 17) (closed : Nat) (certId : BitVec 64) : Keeps s (State.noteSession s k closed certId) := by
  unfold State.noteSession
  exact State.record_keeps ..

theorem State.openSession_keeps (s : State) (k : Fin 17) (role : Fin 4) (peer : BitVec 32) (certId : BitVec 64) : Keeps s (State.openSession s k role peer certId) := by
  unfold State.openSession
  extract_lets +onlyGivenNames y
  extract_lets +onlyGivenNames y
  refine .trans ?_ (State.noteSession_keeps ..)
  exact .step (.refl _)

theorem State.dropSession_keeps (s : State) (k : Fin 17) : Keeps s (s.dropSession k) := by
  refine ⟨rfl, fun x => ⟨x.gro, x.flow, ⟨fun n => ?_, x.host.2⟩⟩⟩
  show ((if k = 0 then s.host.mb.map fun m => if m.state = .posted then { m with state := .empty } else m else s.host.mb).get n).data.wf = true
  split
  · have e : (s.host.mb.map fun m => if m.state = .posted then { m with state := .empty } else m).get n
        = (fun m : Mailbox => if m.state = .posted then { m with state := .empty } else m) (s.host.mb.get n) := by simp [Vector.get]
    rw [e]
    dsimp only
    split
    · exact x.host.1 n
    · exact x.host.1 n
  · exact x.host.1 n

theorem State.closeSession_keeps (s : State) (k : Fin 17) : Keeps s (State.closeSession s k) := by
  unfold State.closeSession
  extract_lets +onlyGivenNames y
  refine .ite (fun _ => ?_) fun _ => ?_
  · refine .trans ?_ (State.noteSession_keeps ..)
    extract_lets +onlyGivenNames y
    refine .cut (x := y) (fun _ => ?_) ?_
    · clear_value y
      exact .step (by assumption)
    · subst y
      exact State.dropSession_keeps ..
  · exact .refl _

theorem execSessionClose_answers (session : Fin 17) (s : State) : Answers s (exec (.sessionClose session) s) := by
  show Answers s (execSessionClose session s)
  unfold execSessionClose
  refine .next ?_
  exact State.closeSession_keeps ..

theorem execSessionIdleTimeout_answers (session : Fin 17) (s : State) : Answers s (exec (.sessionIdleTimeout session) s) := by
  show Answers s (execSessionIdleTimeout session s)
  unfold execSessionIdleTimeout
  refine .next ?_
  extract_lets +onlyGivenNames y
  refine .ite (fun _ => ?_) fun _ => ?_
  · exact State.closeSession_keeps ..
  · exact .refl _

theorem State.handshakeFails_keeps (s : State) (addr : BitVec 32) : Keeps s (State.handshakeFails s addr) := by
  unfold State.handshakeFails
  extract_lets +onlyGivenNames y
  extract_lets +onlyGivenNames y
  extract_lets +onlyGivenNames y
  extract_lets +onlyGivenNames y
  refine .cut (x := y) (fun _ => ?_) ?_
  · clear_value y
    refine .ite (fun _ => ?_) fun _ => ?_
    · refine .trans ?_ (State.record_keeps ..)
      exact .step (by assumption)
    · assumption
  · subst y
    exact .step (.refl _)

theorem execSessionHandshake_answers (cert : ClientCert) (s : State) : Answers s (exec (.sessionHandshake cert) s) := by
  show Answers s (execSessionHandshake cert s)
  unfold execSessionHandshake
  refine .next ?_
  refine .ite (fun _ => ?_) fun _ => ?_
  · exact .refl _
  · refine .ite (fun _ => ?_) fun _ => ?_
    · exact State.handshakeFails_keeps ..
    · refine .ite (fun _ => ?_) fun _ => ?_
      · exact .refl _
      · split
        · exact .refl _
        · extract_lets +onlyGivenNames y
          refine .cut (x := y) (fun _ => ?_) ?_
          · clear_value y
            refine .ite (fun _ => ?_) fun _ => ?_
            · assumption
            · exact .trans (by assumption) (State.record_keeps ..)
          · subst y
            exact State.openSession_keeps ..

theorem execAddressBarExpire_answers (addr : BitVec 32) (s : State) : Answers s (exec (.addressBarExpire addr) s) := by
  show Answers s (execAddressBarExpire addr s)
  unfold execAddressBarExpire
  refine .next ?_
  exact .step (.refl _)

theorem execHpPerst_answers (s : State) : Answers s (exec .hpPerst s) := by
  show Answers s (execHpPerst s)
  unfold execHpPerst
  refine .next ?_
  refine .trans ?_ (State.closeSession_keeps ..)
  exact .step (.refl _)

theorem execHostLinkUp_answers (s : State) : Answers s (exec .hostLinkUp s) := by
  show Answers s (execHostLinkUp s)
  unfold execHostLinkUp
  exact Answers.next (Keeps.ite (fun _ => Keeps.step (Keeps.refl s)) fun _ => Keeps.trans (Keeps.step (Keeps.refl s)) (State.openSession_keeps ..))

theorem execHostLinkLeavesL0_answers (s : State) : Answers s (exec .hostLinkLeavesL0 s) := by
  show Answers s (execHostLinkLeavesL0 s)
  unfold execHostLinkLeavesL0
  refine .next ?_
  refine .ite (fun _ => ?_) fun _ => ?_
  · exact .step (.refl _)
  · exact .refl _

theorem execHostLinkLostTimeout_answers (s : State) : Answers s (exec .hostLinkLostTimeout s) := by
  show Answers s (execHostLinkLostTimeout s)
  unfold execHostLinkLostTimeout
  refine .next ?_
  refine .ite (fun _ => ?_) fun _ => ?_
  · exact State.closeSession_keeps ..
  · exact .refl _

theorem execMailboxWrite_answers (mb : Fin 8) (off : Nat) (data : List Byte) (s : State) : Answers s (exec (.mailboxWrite mb off data) s) := by
  show Answers s (execMailboxWrite mb off data s)
  unfold execMailboxWrite
  refine Answers.next (Keeps.ite (fun _ => Keeps.refl s) fun _ => ?_)
  cases (s.host.mb.get mb).state
  case posted => exact Keeps.step (Keeps.refl s)
  case busy => exact Keeps.step (Keeps.refl s)
  all_goals exact setMb_keeps s (updMb_canonical · fun _ w => Memory.write_wf _ _ w)

theorem execIrqStatusClear_answers (bits : BitVec 32) (s : State) : Answers s (exec (.irqStatusClear bits) s) := by
  show Answers s (execIrqStatusClear bits s)
  unfold execIrqStatusClear
  refine .next ?_
  refine .ite (fun _ => ?_) fun _ => ?_
  · exact .refl _
  · extract_lets +onlyGivenNames y
    extract_lets +onlyGivenNames y
    exact .step (.refl _)

theorem execIrqMaskWrite_answers (mask : BitVec 32) (s : State) : Answers s (exec (.irqMaskWrite mask) s) := by
  show Answers s (execIrqMaskWrite mask s)
  unfold execIrqMaskWrite
  refine .next ?_
  refine .ite (fun _ => ?_) fun _ => ?_
  · exact .refl _
  · extract_lets +onlyGivenNames y
    extract_lets +onlyGivenNames y
    exact .step (.refl _)

theorem execRegisterWriteOther_answers (_off : Nat) (_data : List Byte) (s : State) : Answers s (exec (.registerWriteOther _off _data) s) := by
  show Answers s (execRegisterWriteOther _off _data s)
  unfold execRegisterWriteOther
  exact .next (.refl _)

theorem execAliveTick_answers (s : State) : Answers s (exec .aliveTick s) := by
  show Answers s (execAliveTick s)
  unfold execAliveTick
  refine .next ?_
  split
  · refine .ite (fun _ => ?_) fun _ => ?_
    · exact .refl _
    · exact .step (.refl _)
  · refine .ite (fun _ => ?_) fun _ => ?_
    · exact .refl _
    · exact .step (.refl _)
  · exact .refl _

theorem execAppReplyCopy_answers (mb : Fin 8) (s : State) : Answers s (exec (.appReplyCopy mb) s) := by
  show Answers s (execAppReplyCopy mb s)
  unfold execAppReplyCopy
  refine Answers.next ?_
  split
  · exact Keeps.refl s
  · rename_i bytes _
    extract_lets h0 s1 m
    have h1 : Keeps s s1 := Keeps.step (Keeps.refl s)
    refine Keeps.ite (fun _ => ?_) fun _ => h1
    refine Keeps.trans ?_ (State.raise_keeps ..)
    refine ⟨h1.pending, fun x => ?_⟩
    have y := h1.sound x
    exact ⟨y.gro, y.flow, ⟨updMb_canonical y.host.1 fun _ _ => Memory.set_wf _ _ (Memory.write_wf _ _ (y.host.1 mb)), y.host.2⟩⟩

theorem execAppTimeout_answers (mb : Fin 8) (s : State) : Answers s (exec (.appTimeout mb) s) := by
  show Answers s (execAppTimeout mb s)
  unfold execAppTimeout
  refine Answers.next ?_
  extract_lets +onlyGivenNames m
  refine Keeps.ite (fun _ => ?_) fun _ => Keeps.refl s
  extract_lets bytes
  clear_value bytes
  have h : Keeps s { s with host.mb := upd s.host.mb mb fun x => x.answer bytes } :=
    setMb_keeps s (updMb_canonical · fun _ w => Memory.write_wf _ _ w)
  exact (Keeps.step h).trans (State.raise_keeps ..)

theorem cmdSysSessionList_keeps (rq : Request) (s : State) : Keeps s (cmdSysSessionList rq s) := by
  unfold cmdSysSessionList
  refine serve_keeps fun _ => ?_
  exact .done (.refl _)

theorem cmdSysSessionClose_keeps (rq : Request) (s : State) : Keeps s (cmdSysSessionClose rq s) := by
  unfold cmdSysSessionClose
  refine serve_keeps fun _ => ?_
  split
  · exact .refuse
  · iterate 2 refine .refuseIf ?_
    exact .done (State.closeSession_keeps ..)

theorem cmdSysTrustSet_keeps (rq : Request) (s : State) : Keeps s (cmdSysTrustSet rq s) := by
  unfold cmdSysTrustSet
  refine serve_keeps fun _ => ?_
  refine .refuseIf ?_
  split
  · exact .refuse
  · refine .refuseIf ?_
    exact .done (.step (.refl _))

theorem cmdSysTrustGet_keeps (rq : Request) (s : State) : Keeps s (cmdSysTrustGet rq s) := by
  unfold cmdSysTrustGet
  refine serve_keeps fun _ => ?_
  exact .done (.refl _)

theorem cmdSysSessSet_keeps (rq : Request) (s : State) : Keeps s (cmdSysSessSet rq s) := by
  unfold cmdSysSessSet
  refine serve_keeps fun _ => ?_
  extract_lets +onlyGivenNames y
  iterate 2 refine .refuseIf ?_
  exact .done (.step (.refl _))

theorem cmdSysSessGet_keeps (rq : Request) (s : State) : Keeps s (cmdSysSessGet rq s) := by
  unfold cmdSysSessGet
  refine serve_keeps fun _ => ?_
  exact .done (.refl _)

theorem execSysSessionList_answers (rq : Request) (s : State) : Answers s (exec (.sysSessionList rq) s) :=
  show Answers s (execSysSessionList rq s) from Answers.next (State.command_keeps s rq _ (cmdSysSessionList_keeps rq))

theorem execSysSessionClose_answers (rq : Request) (s : State) : Answers s (exec (.sysSessionClose rq) s) :=
  show Answers s (execSysSessionClose rq s) from Answers.next (State.command_keeps s rq _ (cmdSysSessionClose_keeps rq))

theorem execSysTrustSet_answers (rq : Request) (s : State) : Answers s (exec (.sysTrustSet rq) s) :=
  show Answers s (execSysTrustSet rq s) from Answers.next (State.command_keeps s rq _ (cmdSysTrustSet_keeps rq))

theorem execSysTrustGet_answers (rq : Request) (s : State) : Answers s (exec (.sysTrustGet rq) s) :=
  show Answers s (execSysTrustGet rq s) from Answers.next (State.command_keeps s rq _ (cmdSysTrustGet_keeps rq))

theorem execSysSessSet_answers (rq : Request) (s : State) : Answers s (exec (.sysSessSet rq) s) :=
  show Answers s (execSysSessSet rq s) from Answers.next (State.command_keeps s rq _ (cmdSysSessSet_keeps rq))

theorem execSysSessGet_answers (rq : Request) (s : State) : Answers s (exec (.sysSessGet rq) s) :=
  show Answers s (execSysSessGet rq s) from Answers.next (State.command_keeps s rq _ (cmdSysSessGet_keeps rq))

theorem execTimeRecordWrite_answers (s : State) : Answers s (exec .timeRecordWrite s) := by
  show Answers s (execTimeRecordWrite s)
  unfold execTimeRecordWrite
  refine .next ?_
  refine .ite (fun _ => ?_) fun _ => ?_
  · exact State.writeImage_keeps ..
  · exact .refl _

theorem cmdTimeStatus_keeps (rq : Request) (s : State) : Keeps s (cmdTimeStatus rq s) := by
  unfold cmdTimeStatus
  refine serve_keeps fun _ => ?_
  exact .done (.refl _)

theorem execTimeStatus_answers (rq : Request) (s : State) : Answers s (exec (.timeStatus rq) s) :=
  show Answers s (execTimeStatus rq s) from Answers.next (State.command_keeps s rq _ (cmdTimeStatus_keeps rq))

theorem cmdTimePtpSet_keeps (rq : Request) (s : State) : Keeps s (cmdTimePtpSet rq s) := by
  unfold cmdTimePtpSet
  refine serve_keeps fun _ => ?_
  extract_lets +onlyGivenNames y
  refine .refuseIf ?_
  exact .done (.step (.refl _))

theorem execTimePtpSet_answers (rq : Request) (s : State) : Answers s (exec (.timePtpSet rq) s) :=
  show Answers s (execTimePtpSet rq s) from Answers.next (State.command_keeps s rq _ (cmdTimePtpSet_keeps rq))

theorem cmdTimePtpGet_keeps (rq : Request) (s : State) : Keeps s (cmdTimePtpGet rq s) := by
  unfold cmdTimePtpGet
  refine serve_keeps fun _ => ?_
  exact .done (.refl _)

theorem execTimePtpGet_answers (rq : Request) (s : State) : Answers s (exec (.timePtpGet rq) s) :=
  show Answers s (execTimePtpGet rq s) from Answers.next (State.command_keeps s rq _ (cmdTimePtpGet_keeps rq))

theorem State.setClock_keeps (s : State) (c : ClkState) : Keeps s (State.setClock s c) := by
  unfold State.setClock
  refine .ite (fun _ => ?_) fun _ => ?_
  · exact .refl _
  · extract_lets +onlyGivenNames y
    extract_lets +onlyGivenNames y
    extract_lets +onlyGivenNames y
    extract_lets +onlyGivenNames y
    extract_lets +onlyGivenNames y
    extract_lets +onlyGivenNames y
    extract_lets +onlyGivenNames y
    extract_lets +onlyGivenNames y
    refine .trans ?_ (State.event_keeps ..)
    exact .step (.refl _)

theorem State.loseSync_keeps (s : State) : Keeps s (State.loseSync s) := by
  unfold State.loseSync
  refine .ite (fun _ => ?_) fun _ => ?_
  · exact State.setClock_keeps ..
  · exact .refl _

theorem State.setRate_keeps (s : State) (rate : Int) : Keeps s (State.setRate s rate) := by
  unfold State.setRate
  exact .step (.refl _)

theorem State.stepClock_keeps (s : State) (x : Int) : Keeps s (State.stepClock s x) := by
  unfold State.stepClock
  extract_lets +onlyGivenNames y
  extract_lets +onlyGivenNames y
  extract_lets +onlyGivenNames y
  extract_lets +onlyGivenNames y
  refine .cut (x := y) (fun _ => ?_) ?_
  · clear_value y
    refine .trans ?_ (State.fireLate_keeps ..)
    exact .trans (by assumption) (State.event_keeps ..)
  · subst y
    exact .step (.refl _)

theorem State.servo_keeps (s : State) (x : Int) : Keeps s (State.servo s x) := by
  unfold State.servo
  extract_lets +onlyGivenNames y
  extract_lets +onlyGivenNames y
  extract_lets +onlyGivenNames y
  extract_lets +onlyGivenNames y
  extract_lets +onlyGivenNames y
  extract_lets +onlyGivenNames y
  refine .trans ?_ (State.setRate_keeps ..)
  exact .step (.refl _)

theorem State.judgeLock_keeps (s : State) (x : Int) : Keeps s (State.judgeLock s x) := by
  unfold State.judgeLock
  extract_lets +onlyGivenNames y
  extract_lets +onlyGivenNames y
  extract_lets +onlyGivenNames y
  extract_lets +onlyGivenNames y
  extract_lets +onlyGivenNames y
  refine .cut (x := y) (fun _ => ?_) ?_
  · clear_value y
    refine .ite (fun _ => ?_) fun _ => ?_
    · exact .trans (by assumption) (State.setClock_keeps ..)
    · refine .ite (fun _ => ?_) fun _ => ?_
      · exact .trans (by assumption) (State.setClock_keeps ..)
      · assumption
  · subst y
    exact .step (.refl _)

theorem State.selectPort_keeps (s : State) : Keeps s (State.selectPort s) := by
  unfold State.selectPort
  extract_lets +onlyGivenNames y
  refine .ite (fun _ => ?_) fun _ => ?_
  · exact .refl _
  · exact .step (.refl _)

theorem State.followMaster_keeps (s : State) (m : PtpMaster) : Keeps s (State.followMaster s m) := by
  unfold State.followMaster
  extract_lets +onlyGivenNames y
  extract_lets +onlyGivenNames y
  extract_lets +onlyGivenNames y
  extract_lets +onlyGivenNames y
  refine .cut (x := y) (fun _ => ?_) ?_
  · clear_value y
    exact .step (by assumption)
  · subst y
    refine .ite (fun _ => ?_) fun _ => ?_
    · refine .trans ?_ (State.loseSync_keeps ..)
      exact .step (.refl _)
    · exact .refl _

theorem State.syncOn_keeps (s : State) (p : Fin 2) : Keeps s (State.syncOn s p) := by
  unfold State.syncOn
  refine .trans ?_ (State.selectPort_keeps ..)
  exact .step (.refl _)

theorem State.measured_keeps (s : State) (offset : Int) (meanPath : BitVec 32) (ann : PtpMaster) : Keeps s (State.measured s offset meanPath ann) := by
  unfold State.measured
  extract_lets +onlyGivenNames y
  refine .cut (x := y) (fun _ => ?_) ?_
  · clear_value y
    extract_lets +onlyGivenNames y
    refine .cut (x := y) (fun _ => ?_) ?_
    · clear_value y
      extract_lets +onlyGivenNames y
      extract_lets +onlyGivenNames y
      refine .cut (x := y) (fun _ => ?_) ?_
      · clear_value y
        refine .trans ?_ (State.judgeLock_keeps ..)
        refine .ite (fun _ => ?_) fun _ => ?_
        · refine .trans ?_ (State.servo_keeps ..)
          exact .trans (by assumption) (State.stepClock_keeps ..)
        · exact .trans (by assumption) (State.servo_keeps ..)
      · subst y
        exact .step (by assumption)
    · subst y
      refine .ite (fun _ => ?_) fun _ => ?_
      · exact .trans (by assumption) (State.setClock_keeps ..)
      · assumption
  · subst y
    exact State.followMaster_keeps ..

theorem execPtpSyncReceive_answers (port : Fin 2) (offset : Int) (meanPath : BitVec 32) (ann : PtpMaster) (s : State) : Answers s (exec (.ptpSyncReceive port offset meanPath ann) s) := by
  show Answers s (execPtpSyncReceive port offset meanPath ann s)
  unfold execPtpSyncReceive
  refine .next ?_
  refine .ite (fun _ => ?_) fun _ => ?_
  · exact .refl _
  · extract_lets +onlyGivenNames y
    refine .cut (x := y) (fun _ => ?_) ?_
    · clear_value y
      refine .ite (fun _ => ?_) fun _ => ?_
      · assumption
      · exact .trans (by assumption) (State.measured_keeps ..)
    · subst y
      exact State.syncOn_keeps ..

theorem execPtpSyncTimeout_answers (port : Fin 2) (s : State) : Answers s (exec (.ptpSyncTimeout port) s) := by
  show Answers s (execPtpSyncTimeout port s)
  unfold execPtpSyncTimeout
  refine .next ?_
  refine .ite (fun _ => ?_) fun _ => ?_
  · extract_lets +onlyGivenNames y
    refine .cut (x := y) (fun _ => ?_) ?_
    · clear_value y
      refine .ite (fun _ => ?_) fun _ => ?_
      · assumption
      · exact .trans (by assumption) (State.loseSync_keeps ..)
    · subst y
      exact State.selectPort_keeps ..
  · exact .refl _

theorem execAnnounceTimeout_answers (s : State) : Answers s (exec .announceTimeout s) := by
  show Answers s (execAnnounceTimeout s)
  unfold execAnnounceTimeout
  refine .next ?_
  extract_lets +onlyGivenNames y
  refine .ite (fun _ => ?_) fun _ => ?_
  · extract_lets +onlyGivenNames y
    refine .cut (x := y) (fun _ => ?_) ?_
    · clear_value y
      refine .ite (fun _ => ?_) fun _ => ?_
      · exact .step (by assumption)
      · assumption
    · subst y
      exact State.loseSync_keeps ..
  · exact .refl _

theorem execHoldoverAlarm_answers (s : State) : Answers s (exec .holdoverAlarm s) := by
  show Answers s (execHoldoverAlarm s)
  unfold execHoldoverAlarm
  refine .next ?_
  refine .ite (fun _ => ?_) fun _ => ?_
  · refine .trans ?_ (State.event_keeps ..)
    exact .step (.refl _)
  · exact .refl _

theorem execPtpMessageSend_answers (data : List Byte) (s : State) : Answers s (exec (.ptpMessageSend data) s) := by
  show Answers s (execPtpMessageSend data s)
  unfold execPtpMessageSend
  refine .next ?_
  refine .ite (fun _ => ?_) fun _ => ?_
  · exact State.sendFrames_keeps ..
  · exact .refl _

theorem cmdCfgNetSet_keeps (rq : Request) (s : State) : Keeps s (cmdCfgNetSet rq s) := by
  unfold cmdCfgNetSet
  refine serve_keeps fun _ => ?_
  extract_lets +onlyGivenNames y
  refine .refuseIf ?_
  exact .done (.step (.refl _))

theorem execCfgNetSet_answers (rq : Request) (s : State) : Answers s (exec (.cfgNetSet rq) s) :=
  show Answers s (execCfgNetSet rq s) from Answers.next (State.command_keeps s rq _ (cmdCfgNetSet_keeps rq))

theorem cmdCfgNetGet_keeps (rq : Request) (s : State) : Keeps s (cmdCfgNetGet rq s) := by
  unfold cmdCfgNetGet
  refine serve_keeps fun _ => ?_
  exact .done (.refl _)

theorem execCfgNetGet_answers (rq : Request) (s : State) : Answers s (exec (.cfgNetGet rq) s) :=
  show Answers s (execCfgNetGet rq s) from Answers.next (State.command_keeps s rq _ (cmdCfgNetGet_keeps rq))

theorem cmdDiagNetStatus_keeps (rq : Request) (s : State) : Keeps s (cmdDiagNetStatus rq s) := by
  unfold cmdDiagNetStatus
  refine serve_keeps fun _ => ?_
  exact .done (.refl _)

theorem execDiagNetStatus_answers (rq : Request) (s : State) : Answers s (exec (.diagNetStatus rq) s) :=
  show Answers s (execDiagNetStatus rq s) from Answers.next (State.command_keeps s rq _ (cmdDiagNetStatus_keeps rq))

theorem State.netCount_keeps (s : State) (f : NetStat → NetStat) : Keeps s (State.netCount s f) := by
  unfold State.netCount
  exact .step (.refl _)

theorem State.noteSeen_keeps (s : State) (f : NetFrame) : Keeps s (State.noteSeen s f) := by
  unfold State.noteSeen
  exact .step (.refl _)

theorem State.noteNode_keeps (s : State) (mac : BitVec 48) : Keeps s (State.noteNode s mac) := by
  unfold State.noteNode
  refine .ite (fun _ => ?_) fun _ => ?_
  · exact .step (.refl _)
  · exact State.netCount_keeps ..

theorem State.forward_keeps (s : State) (f : NetFrame) : Keeps s (State.forward s f) := by
  unfold State.forward
  refine .ite (fun _ => ?_) fun _ => ?_
  · exact State.netCount_keeps ..
  · exact .refl _

theorem State.queueFrame_keeps (s : State) (f : NetFrame) : Keeps s (State.queueFrame s f) := by
  unfold State.queueFrame
  refine .ite (fun _ => ?_) fun _ => ?_
  · exact State.netCount_keeps ..
  · exact .step (.refl _)

theorem State.heardOwner_keeps (s : State) (a : BitVec 16) (owner : Bool) (epoch : BitVec 64) : Keeps s (State.heardOwner s a owner epoch) := by
  unfold State.heardOwner
  refine .ite (fun _ => ?_) fun _ => ?_
  · exact State.learnOwner_keeps ..
  · exact .refl _

theorem State.takePayload_keeps (s : State) (f : NetFrame) : Keeps s (State.takePayload s f) := by
  unfold State.takePayload
  split
  · refine .trans ?_ (State.queueFrame_keeps ..)
    exact State.notePresence_keeps ..
  · refine .trans ?_ (State.heardOwner_keeps ..)
    exact State.notePresence_keeps ..
  · refine .ite (fun _ => ?_) fun _ => ?_
    · exact State.takeQuery_keeps ..
    · exact .refl _
  · exact State.queueFrame_keeps ..
  · exact .refl _
  · exact .refl _
  · exact .refl _
  · exact .refl _

theorem State.takeOnPort_keeps (s : State) (f : NetFrame) : Keeps s (State.takeOnPort s f) := by
  unfold State.takeOnPort
  split
  · exact .step (.refl _)
  · refine .ite (fun _ => ?_) fun _ => ?_
    · exact .step (.refl _)
    · exact .refl _
  · exact .refl _
  · exact .refl _
  · exact .refl _
  · exact .refl _
  · exact .refl _
  · exact .refl _

theorem State.takeNetFrame_keeps (s : State) (f : NetFrame) : Keeps s (State.takeNetFrame s f) := by
  unfold State.takeNetFrame
  extract_lets +onlyGivenNames y
  refine .cut (x := y) (fun _ => ?_) ?_
  · clear_value y
    refine .ite (fun _ => ?_) fun _ => ?_
    · exact .trans (by assumption) (State.takePayload_keeps ..)
    · extract_lets +onlyGivenNames y
      refine .cut (x := y) (fun _ => ?_) ?_
      · clear_value y
        refine .ite (fun _ => ?_) fun _ => ?_
        · refine .trans ?_ (State.netCount_keeps ..)
          exact .trans (by assumption) (State.noteSeen_keeps ..)
        · refine .trans ?_ (State.takePayload_keeps ..)
          exact .trans (by assumption) (State.noteSeen_keeps ..)
      · subst y
        exact .trans (by assumption) (State.noteNode_keeps ..)
  · subst y
    refine .trans ?_ (State.takeOnPort_keeps ..)
    refine .trans ?_ (State.forward_keeps ..)
    refine .ite (fun _ => ?_) fun _ => ?_
    · exact State.netCount_keeps ..
    · exact .refl _

theorem State.removeOwn_keeps (s : State) (f : NetFrame) : Keeps s (State.removeOwn s f) := by
  unfold State.removeOwn
  split
  · exact .step (.refl _)
  · exact .refl _
  · exact .refl _
  · exact .refl _
  · exact .refl _
  · exact .refl _
  · exact .refl _
  · exact .refl _

theorem execNetFrameReceive_answers (f : NetFrame) (s : State) : Answers s (exec (.netFrameReceive f) s) := by
  show Answers s (execNetFrameReceive f s)
  unfold execNetFrameReceive
  refine .next ?_
  refine .ite (fun _ => ?_) fun _ => ?_
  · exact .refl _
  · refine .ite (fun _ => ?_) fun _ => ?_
    · exact State.netCount_keeps ..
    · extract_lets +onlyGivenNames y
      refine .cut (x := y) (fun _ => ?_) ?_
      · clear_value y
        refine .ite (fun _ => ?_) fun _ => ?_
        · exact .trans (by assumption) (State.removeOwn_keeps ..)
        · exact .trans (by assumption) (State.takeNetFrame_keeps ..)
      · subst y
        exact State.netCount_keeps ..

theorem execProcessDataReceive_answers (station : BitVec 16) (owner : Bool) (epoch : BitVec 64) (obj : BitVec 16) (data : List Byte) (s : State) : Answers s (exec (.processDataReceive station owner epoch obj data) s) := by
  show Answers s (execProcessDataReceive station owner epoch obj data s)
  unfold execProcessDataReceive
  refine .next ?_
  refine .ite (fun _ => ?_) fun _ => ?_
  · exact .refl _
  · extract_lets +onlyGivenNames y
    extract_lets +onlyGivenNames y
    extract_lets +onlyGivenNames y
    refine .cut (x := y) (fun _ => ?_) ?_
    · clear_value y
      extract_lets +onlyGivenNames y
      refine .cut (x := y) (fun _ => ?_) ?_
      · clear_value y
        split
        · refine .ite (fun _ => ?_) fun _ => ?_
          · exact .trans (by assumption) (State.importData_keeps ..)
          · assumption
        · assumption
      · subst y
        exact .trans (by assumption) (State.heardOwner_keeps ..)
    · subst y
      refine .ite (fun _ => ?_) fun _ => ?_
      · exact .step (.refl _)
      · exact State.notePresence_keeps ..

theorem execPortLinkDown_answers (port : Fin 2) (s : State) : Answers s (exec (.portLinkDown port) s) := by
  show Answers s (execPortLinkDown port s)
  unfold execPortLinkDown
  refine .next ?_
  refine .ite (fun _ => ?_) fun _ => ?_
  · extract_lets +onlyGivenNames y
    extract_lets +onlyGivenNames y
    refine .cut (x := y) (fun _ => ?_) ?_
    · clear_value y
      refine .ite (fun _ => ?_) fun _ => ?_
      · extract_lets +onlyGivenNames y
        refine .cut (x := y) (fun _ => ?_) ?_
        · clear_value y
          refine .ite (fun _ => ?_) fun _ => ?_
          · exact .trans (by assumption) (State.event_keeps ..)
          · assumption
        · subst y
          exact .trans (by assumption) (State.netCount_keeps ..)
      · assumption
    · subst y
      exact .step (.refl _)
  · exact .refl _

theorem execPortLinkUp_answers (port : Fin 2) (s : State) : Answers s (exec (.portLinkUp port) s) := by
  show Answers s (execPortLinkUp port s)
  unfold execPortLinkUp
  refine .next ?_
  refine .ite (fun _ => ?_) fun _ => ?_
  · exact .refl _
  · extract_lets +onlyGivenNames y
    extract_lets +onlyGivenNames y
    refine .cut (x := y) (fun _ => ?_) ?_
    · clear_value y
      refine .ite (fun _ => ?_) fun _ => ?_
      · exact .trans (by assumption) (State.event_keeps ..)
      · assumption
    · subst y
      exact .step (.refl _)

theorem execSupervisionFrameSend_answers (s : State) : Answers s (exec .supervisionFrameSend s) := by
  show Answers s (execSupervisionFrameSend s)
  unfold execSupervisionFrameSend
  refine .next ?_
  refine .ite (fun _ => ?_) fun _ => ?_
  · extract_lets +onlyGivenNames y
    refine .cut (x := y) (fun _ => ?_) ?_
    · clear_value y
      exact .step (by assumption)
    · subst y
      exact State.sendFrames_keeps ..
  · exact .refl _

theorem execLanOkTimeout_answers (port : Fin 2) (s : State) : Answers s (exec (.lanOkTimeout port) s) := by
  show Answers s (execLanOkTimeout port s)
  unfold execLanOkTimeout
  refine .next ?_
  refine .ite (fun _ => ?_) fun _ => ?_
  · exact .step (.refl _)
  · exact .refl _

theorem execNodeForget_answers (mac : BitVec 48) (s : State) : Answers s (exec (.nodeForget mac) s) := by
  show Answers s (execNodeForget mac s)
  unfold execNodeForget
  refine .next ?_
  split
  · refine .ite (fun _ => ?_) fun _ => ?_
    · exact .step (.refl _)
    · exact .refl _
  · exact .refl _

theorem cmdCfgPowerSet_keeps (rq : Request) (s : State) : Keeps s (cmdCfgPowerSet rq s) := by
  unfold cmdCfgPowerSet
  refine serve_keeps fun _ => ?_
  extract_lets +onlyGivenNames y
  refine .refuseIf ?_
  exact .done (.step (.refl _))

theorem cmdCfgPowerGet_keeps (rq : Request) (s : State) : Keeps s (cmdCfgPowerGet rq s) := by
  unfold cmdCfgPowerGet
  refine serve_keeps fun _ => ?_
  exact .done (.refl _)

theorem cmdDiagPowerStatus_keeps (rq : Request) (s : State) : Keeps s (cmdDiagPowerStatus rq s) := by
  unfold cmdDiagPowerStatus
  refine serve_keeps fun _ => ?_
  exact .done (.refl _)

theorem cmdDiagPowerClear_keeps (rq : Request) (s : State) : Keeps s (cmdDiagPowerClear rq s) := by
  unfold cmdDiagPowerClear
  refine serve_keeps fun _ => ?_
  exact .done (.step (.refl _))

theorem execCfgPowerSet_answers (rq : Request) (s : State) : Answers s (exec (.cfgPowerSet rq) s) :=
  show Answers s (execCfgPowerSet rq s) from Answers.next (State.command_keeps s rq _ (cmdCfgPowerSet_keeps rq))

theorem execCfgPowerGet_answers (rq : Request) (s : State) : Answers s (exec (.cfgPowerGet rq) s) :=
  show Answers s (execCfgPowerGet rq s) from Answers.next (State.command_keeps s rq _ (cmdCfgPowerGet_keeps rq))

theorem execDiagPowerStatus_answers (rq : Request) (s : State) : Answers s (exec (.diagPowerStatus rq) s) :=
  show Answers s (execDiagPowerStatus rq s) from Answers.next (State.command_keeps s rq _ (cmdDiagPowerStatus_keeps rq))

theorem execDiagPowerClear_answers (rq : Request) (s : State) : Answers s (exec (.diagPowerClear rq) s) :=
  show Answers s (execDiagPowerClear rq s) from Answers.next (State.command_keeps s rq _ (cmdDiagPowerClear_keeps rq))

theorem State.orFree_keeps (s : State) (t : Option Int) : Keeps s (s.orFree t).2 := by
  cases t with
  | none => exact State.draw_keeps s
  | some x => exact Keeps.refl s

theorem State.publish_keeps (s : State) : Keeps s s.publish := by
  unfold State.publish
  extract_lets heat energy
  split
  rename_i die s1 e1
  have h1 : Keeps s s1 := Keeps.of_eq (State.orFree_keeps ..) e1
  split
  rename_i sink s2 e2
  have h2 : Keeps s s2 := h1.trans (Keeps.of_eq (State.orFree_keeps ..) e2)
  extract_lets p0 s3 s4
  have h4 : Keeps s s4 := (Keeps.step h2).trans (State.writeImage_keeps ..)
  exact Keeps.ite (fun _ => h4) fun _ => (h4.trans (State.levelChanged_keeps ..)).trans (State.holdCrucible_keeps ..)

theorem State.levelEvent_keeps (s : State) (sev oldHeat oldEnergy : Nat) : Keeps s (State.levelEvent s sev oldHeat oldEnergy) := by
  unfold State.levelEvent
  exact State.event_keeps ..

theorem State.sensorFault_keeps (s : State) : Keeps s (State.sensorFault s) := by
  unfold State.sensorFault
  extract_lets +onlyGivenNames y
  refine .ite (fun _ => ?_) fun _ => ?_
  · refine .trans ?_ (State.supplyEvent_keeps ..)
    exact .step (.refl _)
  · exact .step (.refl _)

theorem execBudgetPublish_answers (m : MonitorSample) (s : State) : Answers s (exec (.budgetPublish m) s) := by
  show Answers s (execBudgetPublish m s)
  unfold execBudgetPublish
  refine .next ?_
  refine .ite (fun _ => ?_) fun _ => ?_
  · extract_lets +onlyGivenNames y
    extract_lets +onlyGivenNames y
    refine .cut (x := y) (fun _ => ?_) ?_
    · clear_value y
      extract_lets +onlyGivenNames y
      refine .cut (x := y) (fun _ => ?_) ?_
      · clear_value y
        extract_lets +onlyGivenNames y
        extract_lets +onlyGivenNames y
        refine .cut (x := y) (fun _ => ?_) ?_
        · clear_value y
          extract_lets +onlyGivenNames y
          refine .cut (x := y) (fun _ => ?_) ?_
          · clear_value y
            refine .trans ?_ (State.swapOnRequest_keeps ..)
            exact .trans (by assumption) (State.publish_keeps ..)
          · subst y
            refine .ite (fun _ => ?_) fun _ => ?_
            · exact .trans (by assumption) (State.levelEvent_keeps ..)
            · assumption
        · subst y
          exact .step (by assumption)
      · subst y
        exact .trans (by assumption) (State.sensorFault_keeps ..)
    · subst y
      exact .step (.refl _)
  · exact .refl _

theorem execHeatLevelFall_answers (s : State) : Answers s (exec .heatLevelFall s) := by
  show Answers s (execHeatLevelFall s)
  unfold execHeatLevelFall
  refine .next ?_
  extract_lets +onlyGivenNames y
  refine .ite (fun _ => ?_) fun _ => ?_
  · extract_lets +onlyGivenNames y
    extract_lets +onlyGivenNames y
    extract_lets +onlyGivenNames y
    refine .cut (x := y) (fun _ => ?_) ?_
    · clear_value y
      refine .trans ?_ (State.levelEvent_keeps ..)
      exact .step (by assumption)
    · subst y
      exact .step (.refl _)
  · exact .refl _

theorem execBudgetStale_answers (s : State) : Answers s (exec .budgetStale s) := by
  show Answers s (execBudgetStale s)
  unfold execBudgetStale
  refine .next ?_
  refine .ite (fun _ => ?_) fun _ => ?_
  · refine .trans ?_ (State.holdCrucible_keeps ..)
    refine .trans ?_ (State.levelChanged_keeps ..)
    exact .step (.refl _)
  · exact .refl _

theorem State.stagePowerFail_keeps (s : State) : Keeps s s.stagePowerFail := by
  unfold State.stagePowerFail
  extract_lets s1 seq r
  refine (State.endFlush_keeps s).trans (Keeps.trans ?_ (State.raise_keeps ..))
  exact ⟨rfl, fun x => ⟨x.gro, ⟨x.flow.1, reserveSeq_ge _ _⟩, x.host⟩⟩

theorem State.enterE3_keeps (s : State) : Keeps s (State.enterE3 s) := by
  unfold State.enterE3
  extract_lets +onlyGivenNames y
  extract_lets +onlyGivenNames y
  extract_lets +onlyGivenNames y
  extract_lets +onlyGivenNames y
  extract_lets +onlyGivenNames y
  extract_lets +onlyGivenNames y
  extract_lets +onlyGivenNames y
  refine .cut (x := y) (fun _ => ?_) ?_
  · clear_value y
    extract_lets +onlyGivenNames y
    refine .cut (x := y) (fun _ => ?_) ?_
    · clear_value y
      extract_lets +onlyGivenNames y
      refine .cut (x := y) (fun _ => ?_) ?_
      · clear_value y
        exact .step (by assumption)
      · subst y
        refine .trans ?_ (State.stagePowerFail_keeps ..)
        exact .trans (by assumption) (State.publish_keeps ..)
    · subst y
      refine .trans ?_ (State.holdBlocks_keeps ..)
      exact .trans (by assumption) (State.dropLines_keeps ..)
  · subst y
    exact .step (.refl _)

theorem execEnergyLevelRise_answers (s : State) : Answers s (exec .energyLevelRise s) := by
  show Answers s (execEnergyLevelRise s)
  unfold execEnergyLevelRise
  refine .next ?_
  extract_lets +onlyGivenNames y
  extract_lets +onlyGivenNames y
  refine .ite (fun _ => ?_) fun _ => ?_
  · extract_lets +onlyGivenNames y
    extract_lets +onlyGivenNames y
    refine .cut (x := y) (fun _ => ?_) ?_
    · clear_value y
      refine .ite (fun _ => ?_) fun _ => ?_
      · exact .trans (by assumption) (State.enterE3_keeps ..)
      · extract_lets +onlyGivenNames y
        extract_lets +onlyGivenNames y
        refine .cut (x := y) (fun _ => ?_) ?_
        · clear_value y
          refine .trans ?_ (State.publish_keeps ..)
          exact .trans (by assumption) (State.levelEvent_keeps ..)
        · subst y
          exact .step (by assumption)
    · subst y
      exact .step (.refl _)
  · exact .refl _

theorem execE3TimerExpire_answers (s : State) : Answers s (exec .e3TimerExpire s) := by
  show Answers s (execE3TimerExpire s)
  unfold execE3TimerExpire
  refine .next ?_
  refine .ite (fun _ => ?_) fun _ => ?_
  · exact State.enterE3_keeps ..
  · exact .refl _

theorem execE2Exit_answers (s : State) : Answers s (exec .e2Exit s) := by
  show Answers s (execE2Exit s)
  unfold execE2Exit
  refine .next ?_
  refine .ite (fun _ => ?_) fun _ => ?_
  · extract_lets +onlyGivenNames y
    refine .trans ?_ (State.levelEvent_keeps ..)
    exact .step (.refl _)
  · exact .refl _

theorem execE1Exit_answers (s : State) : Answers s (exec .e1Exit s) := by
  show Answers s (execE1Exit s)
  unfold execE1Exit
  refine .next ?_
  refine .ite (fun _ => ?_) fun _ => ?_
  · refine .trans ?_ (State.levelEvent_keeps ..)
    exact .step (.refl _)
  · exact .refl _

theorem State.endStage1_keeps (s : State) (n : Nat) : Keeps s (s.endStage1 n) := by
  unfold State.endStage1
  extract_lets +onlyGivenNames f lost st0 st
  clear_value st st0
  have hf : s.flow.Ordered → f.Ordered := fun h => by
    show (match s.flow.pfRecord with | some r => s.flow.place r | none => s.flow).Ordered
    split
    · exact Flow.place_ordered _ h
    · exact h
  clear_value lost
  extract_lets +onlyGivenNames s1
  have h1 : Keeps s s1 :=
    ((Keeps.refl s).setFlow (f := { f with pfRecord := none, pfLost := satAdd f.pfLost lost, stat := st }) fun h => hf h).trans
      (State.emergencyFlush_keeps ..)
  clear_value s1
  have h2 : Keeps s { s1 with gro := s1.gro.drainAll } := h1.setGro Grotto.drainAll_canonical
  exact ⟨h2.pending, fun x => ⟨(h2.sound x).gro, (h2.sound x).flow, (h2.sound x).host⟩⟩

theorem execPowerFailStage1End_answers (s : State) : Answers s (exec .powerFailStage1End s) := by
  show Answers s (execPowerFailStage1End s)
  unfold execPowerFailStage1End
  refine .next ?_
  refine .ite (fun _ => ?_) fun _ => ?_
  · exact State.endStage1_keeps ..
  · exact .refl _

theorem execPowerFailStage2End_answers (s : State) : Answers s (exec .powerFailStage2End s) := by
  show Answers s (execPowerFailStage2End s)
  unfold execPowerFailStage2End
  refine .next ?_
  refine .ite (fun _ => ?_) fun _ => ?_
  · exact .step (.refl _)
  · exact .refl _

theorem execPfWarnChange_answers (s : State) : Answers s (exec .pfWarnChange s) := by
  show Answers s (execPfWarnChange s)
  unfold execPfWarnChange
  refine .next ?_
  refine .ite (fun _ => ?_) fun _ => ?_
  · exact .refl _
  · refine .ite (fun _ => ?_) fun _ => ?_
    · refine .trans ?_ (State.supplyEvent_keeps ..)
      exact .step (.refl _)
    · refine .ite (fun _ => ?_) fun _ => ?_
      · exact .step (.refl _)
      · exact .refl _

theorem execFeedLoss_answers (feed : Fin 2) (s : State) : Answers s (exec (.feedLoss feed) s) := by
  show Answers s (execFeedLoss feed s)
  unfold execFeedLoss
  refine .next ?_
  refine .ite (fun _ => ?_) fun _ => ?_
  · extract_lets +onlyGivenNames y
    refine .trans ?_ (State.supplyEvent_keeps ..)
    exact .step (.refl _)
  · exact .refl _

theorem execVinHighSet_answers (s : State) : Answers s (exec .vinHighSet s) := by
  show Answers s (execVinHighSet s)
  unfold execVinHighSet
  refine .next ?_
  refine .ite (fun _ => ?_) fun _ => ?_
  · refine .trans ?_ (State.supplyEvent_keeps ..)
    exact .step (.refl _)
  · exact .refl _

theorem execVinHighClear_answers (s : State) : Answers s (exec .vinHighClear s) := by
  show Answers s (execVinHighClear s)
  unfold execVinHighClear
  refine .next ?_
  refine .ite (fun _ => ?_) fun _ => ?_
  · refine .trans ?_ (State.supplyEvent_keeps ..)
    exact .step (.refl _)
  · exact .refl _

theorem execVinUnknownSet_answers (s : State) : Answers s (exec .vinUnknownSet s) := by
  show Answers s (execVinUnknownSet s)
  unfold execVinUnknownSet
  refine .next ?_
  refine .ite (fun _ => ?_) fun _ => ?_
  · exact .step (.refl _)
  · exact .refl _

theorem execHoldupMeasure_answers (uF : Nat) (s : State) : Answers s (exec (.holdupMeasure uF) s) := by
  show Answers s (execHoldupMeasure uF s)
  unfold execHoldupMeasure
  refine .next ?_
  refine .ite (fun _ => ?_) fun _ => ?_
  · extract_lets +onlyGivenNames y
    extract_lets +onlyGivenNames y
    extract_lets +onlyGivenNames y
    extract_lets +onlyGivenNames y
    refine .cut (x := y) (fun _ => ?_) ?_
    · clear_value y
      refine .ite (fun _ => ?_) fun _ => ?_
      · exact .step (by assumption)
      · refine .ite (fun _ => ?_) fun _ => ?_
        · refine .trans ?_ (State.supplyEvent_keeps ..)
          exact .step (by assumption)
        · refine .trans ?_ (State.supplyEvent_keeps ..)
          exact .step (by assumption)
    · subst y
      exact .step (.refl _)
  · exact .refl _

theorem execRtcRegisterRead_answers (s : State) : Answers s (exec .rtcRegisterRead s) := by
  show Answers s (execRtcRegisterRead s)
  unfold execRtcRegisterRead
  refine .next ?_
  exact .step (.refl _)

theorem execRtcShadowRelease_answers (s : State) : Answers s (exec .rtcShadowRelease s) := by
  show Answers s (execRtcShadowRelease s)
  unfold execRtcShadowRelease
  refine .next ?_
  exact .step (.refl _)

theorem cmdTimeRtcRead_keeps (rq : Request) (s : State) : Keeps s (cmdTimeRtcRead rq s) := by
  unfold cmdTimeRtcRead
  refine serve_keeps fun _ => ?_
  exact .done (.step (.refl _))

theorem execTimeRtcRead_answers (rq : Request) (s : State) : Answers s (exec (.timeRtcRead rq) s) :=
  show Answers s (execTimeRtcRead rq s) from Answers.next (State.command_keeps s rq _ (cmdTimeRtcRead_keeps rq))

theorem cmdTimeRtcSet_keeps (rq : Request) (s : State) : Keeps s (cmdTimeRtcSet rq s) := by
  unfold cmdTimeRtcSet
  refine serve_keeps fun _ => ?_
  split
  · refine .refuseIf ?_
    exact .done (State.withRtc_keeps ..)

theorem execTimeRtcSet_answers (rq : Request) (s : State) : Answers s (exec (.timeRtcSet rq) s) :=
  show Answers s (execTimeRtcSet rq s) from Answers.next (State.command_keeps s rq _ (cmdTimeRtcSet_keeps rq))

theorem cmdTimeRtcShift_keeps (rq : Request) (s : State) : Keeps s (cmdTimeRtcShift rq s) := by
  unfold cmdTimeRtcShift
  refine serve_keeps fun _ => ?_
  extract_lets +onlyGivenNames y
  iterate 2 refine .refuseIf ?_
  exact .done (.step (.refl _))

theorem execTimeRtcShift_answers (rq : Request) (s : State) : Answers s (exec (.timeRtcShift rq) s) :=
  show Answers s (execTimeRtcShift rq s) from Answers.next (State.command_keeps s rq _ (cmdTimeRtcShift_keeps rq))

theorem cmdTimeRtcAlarm_keeps (rq : Request) (s : State) : Keeps s (cmdTimeRtcAlarm rq s) := by
  unfold cmdTimeRtcAlarm
  refine serve_keeps fun _ => ?_
  split
  · extract_lets +onlyGivenNames y
    iterate 2 refine .refuseIf ?_
    exact .done (.step (.refl _))

theorem execTimeRtcAlarm_answers (rq : Request) (s : State) : Answers s (exec (.timeRtcAlarm rq) s) :=
  show Answers s (execTimeRtcAlarm rq s) from Answers.next (State.command_keeps s rq _ (cmdTimeRtcAlarm_keeps rq))

theorem cmdTimeRtcWake_keeps (rq : Request) (s : State) : Keeps s (cmdTimeRtcWake rq s) := by
  unfold cmdTimeRtcWake
  refine serve_keeps fun _ => ?_
  extract_lets +onlyGivenNames y
  refine .refuseIf ?_
  exact .done (.step (.refl _))

theorem execTimeRtcWake_answers (rq : Request) (s : State) : Answers s (exec (.timeRtcWake rq) s) :=
  show Answers s (execTimeRtcWake rq s) from Answers.next (State.command_keeps s rq _ (cmdTimeRtcWake_keeps rq))

theorem cmdTimeClear_keeps (rq : Request) (s : State) : Keeps s (cmdTimeClear rq s) := by
  unfold cmdTimeClear
  refine serve_keeps fun _ => ?_
  extract_lets +onlyGivenNames y
  extract_lets +onlyGivenNames y
  extract_lets +onlyGivenNames y
  extract_lets +onlyGivenNames y
  refine .cut (x := y) (fun _ => ?_) ?_
  · clear_value y
    refine .done ?_
    refine .ite (fun _ => ?_) fun _ => ?_
    · exact .step (by assumption)
    · assumption
  · subst y
    refine .ite (fun _ => ?_) fun _ => ?_
    · exact .step (.refl _)
    · exact .refl _

theorem execTimeClear_answers (rq : Request) (s : State) : Answers s (exec (.timeClear rq) s) :=
  show Answers s (execTimeClear rq s) from Answers.next (State.command_keeps s rq _ (cmdTimeClear_keeps rq))

theorem execRtcOscStop_answers (s : State) : Answers s (exec .rtcOscStop s) := by
  show Answers s (execRtcOscStop s)
  unfold execRtcOscStop
  refine .next ?_
  exact .step (.refl _)

theorem execRtcShiftTick_answers (s : State) : Answers s (exec .rtcShiftTick s) := by
  show Answers s (execRtcShiftTick s)
  unfold execRtcShiftTick
  extract_lets +onlyGivenNames y
  refine .next ?_
  refine .ite (fun _ => ?_) fun _ => ?_
  · exact State.withRtc_keeps ..
  · refine .ite (fun _ => ?_) fun _ => ?_
    · exact .step (.refl _)
    · exact .refl _

theorem execRtcAlarmFire_answers (s : State) : Answers s (exec .rtcAlarmFire s) := by
  show Answers s (execRtcAlarmFire s)
  unfold execRtcAlarmFire
  extract_lets +onlyGivenNames y
  refine .next ?_
  split
  · refine .ite (fun _ => ?_) fun _ => ?_
    · exact State.withRtc_keeps ..
    · exact .refl _
  · exact .refl _

theorem execRtcWake_answers (s : State) : Answers s (exec .rtcWake s) := by
  show Answers s (execRtcWake s)
  unfold execRtcWake
  extract_lets +onlyGivenNames y
  refine .next ?_
  refine .ite (fun _ => ?_) fun _ => ?_
  · exact State.withRtc_keeps ..
  · exact .refl _

theorem execRtcLeapSecond_answers (s : State) : Answers s (exec .rtcLeapSecond s) := by
  show Answers s (execRtcLeapSecond s)
  unfold execRtcLeapSecond
  extract_lets +onlyGivenNames y
  refine .next ?_
  refine .ite (fun _ => ?_) fun _ => ?_
  · exact .step (.refl _)
  · refine .ite (fun _ => ?_) fun _ => ?_
    · extract_lets +onlyGivenNames y
      extract_lets +onlyGivenNames y
      extract_lets +onlyGivenNames y
      refine .cut (x := y) (fun _ => ?_) ?_
      · clear_value y
        exact .step (by assumption)
      · subst y
        exact State.withRtc_keeps ..
    · exact .refl _

theorem execRtcDiscipline_answers (s : State) : Answers s (exec .rtcDiscipline s) := by
  show Answers s (execRtcDiscipline s)
  unfold execRtcDiscipline
  refine .next ?_
  refine .ite (fun _ => ?_) fun _ => ?_
  · extract_lets +onlyGivenNames y
    extract_lets +onlyGivenNames y
    extract_lets +onlyGivenNames y
    extract_lets +onlyGivenNames y
    extract_lets +onlyGivenNames y
    refine .cut (x := y) (fun _ => ?_) ?_
    · clear_value y
      refine .ite (fun _ => ?_) fun _ => ?_
      · exact .step (by assumption)
      · refine .ite (fun _ => ?_) fun _ => ?_
        · exact .step (by assumption)
        · assumption
    · subst y
      exact .step (.refl _)
  · exact .refl _

theorem State.atEnable_keeps (s : State) : Keeps s (State.atEnable s) := by
  unfold State.atEnable
  split
  · refine .ite (fun _ => ?_) fun _ => ?_
    · exact .refl _
    · exact .step (.refl _)
  · refine .ite (fun _ => ?_) fun _ => ?_
    · exact .step (.refl _)
    · exact .refl _

theorem cmdSysEnable_keeps (rq : Request) (s : State) : Keeps s (cmdSysEnable rq s) := by
  unfold cmdSysEnable
  refine serve_keeps fun _ => ?_
  refine .refuseIf ?_
  exact .later (.step (.refl _))

theorem execSysEnable_answers (rq : Request) (s : State) : Answers s (exec (.sysEnable rq) s) :=
  show Answers s (execSysEnable rq s) from Answers.next (State.command_keeps s rq _ (cmdSysEnable_keeps rq))

theorem execRunEnSet_answers (s : State) : Answers s (exec .runEnSet s) := by
  show Answers s (execRunEnSet s)
  unfold execRunEnSet
  refine .next ?_
  refine .ite (fun _ => ?_) fun _ => ?_
  · exact .refl _
  · exact .step (.refl _)

theorem execAutoStart_answers (s : State) : Answers s (exec .autoStart s) := by
  show Answers s (execAutoStart s)
  unfold execAutoStart
  refine .next ?_
  refine .ite (fun _ => ?_) fun _ => ?_
  · extract_lets +onlyGivenNames y
    extract_lets +onlyGivenNames y
    refine .cut (x := y) (fun _ => ?_) ?_
    · clear_value y
      extract_lets +onlyGivenNames y
      split
      · refine .ite (fun _ => ?_) fun _ => ?_
        · exact .step (by assumption)
        · assumption
      · exact .step (by assumption)
      · refine .ite (fun _ => ?_) fun _ => ?_
        · exact .step (by assumption)
        · assumption
      · assumption
    · subst y
      exact .step (.refl _)
  · exact .refl _

theorem State.stopRequest_keeps (s : State) (noYield : Bool) : Keeps s (State.stopRequest s noYield) := by
  unfold State.stopRequest
  refine .ite (fun _ => ?_) fun _ => ?_
  · extract_lets +onlyGivenNames y
    refine .cut (x := y) (fun _ => ?_) ?_
    · clear_value y
      exact .step (by assumption)
    · subst y
      exact State.pairSend_keeps ..
  · exact State.stopRun_keeps ..

theorem cmdSysStop_keeps (rq : Request) (s : State) : Keeps s (cmdSysStop rq s) := by
  unfold cmdSysStop
  refine serve_keeps fun _ => ?_
  exact .done (State.stopRequest_keeps ..)

theorem execSysStop_answers (rq : Request) (s : State) : Answers s (exec (.sysStop rq) s) :=
  show Answers s (execSysStop rq s) from Answers.next (State.command_keeps s rq _ (cmdSysStop_keeps rq))

theorem execRunEnClear_answers (s : State) : Answers s (exec .runEnClear s) := by
  show Answers s (execRunEnClear s)
  unfold execRunEnClear
  refine .next ?_
  refine .ite (fun _ => ?_) fun _ => ?_
  · exact .refl _
  · extract_lets +onlyGivenNames y
    extract_lets +onlyGivenNames y
    refine .cut (x := y) (fun _ => ?_) ?_
    · clear_value y
      refine .ite (fun _ => ?_) fun _ => ?_
      · exact .trans (by assumption) (State.stopRequest_keeps ..)
      · assumption
    · subst y
      exact .step (.refl _)

theorem State.takeRole_keeps (s : State) : Keeps s (State.takeRole s) := by
  unfold State.takeRole
  extract_lets +onlyGivenNames y
  extract_lets +onlyGivenNames y
  extract_lets +onlyGivenNames y
  extract_lets +onlyGivenNames y
  refine .cut (x := y) (fun _ => ?_) ?_
  · clear_value y
    exact .trans (by assumption) (State.setRole_keeps ..)
  · subst y
    refine .ite (fun _ => ?_) fun _ => ?_
    · exact .step (.refl _)
    · exact .step (.refl _)

theorem State.meetPeer_keeps (s : State) : Keeps s (State.meetPeer s) := by
  unfold State.meetPeer
  extract_lets +onlyGivenNames y
  extract_lets +onlyGivenNames y
  refine .cut (x := y) (fun _ => ?_) ?_
  · clear_value y
    refine .ite (fun _ => ?_) fun _ => ?_
    · refine .trans ?_ (State.setRole_keeps ..)
      exact .step (by assumption)
    · refine .ite (fun _ => ?_) fun _ => ?_
      · refine .trans ?_ (State.setRole_keeps ..)
        exact .step (by assumption)
      · exact .trans (by assumption) (State.takeRole_keeps ..)
  · subst y
    exact .step (.refl _)

theorem State.applyDescriptors_keeps (s : State) : Keeps s (State.applyDescriptors s) := by
  unfold State.applyDescriptors
  exact .step (.refl _)

theorem State.clearForce_keeps (s : State) (f : ForceEntry) : Keeps s (State.clearForce s f) := by
  unfold State.clearForce
  split
  · exact State.putForced_keeps ..
  · exact .refl _

theorem State.clearForces_keeps (s : State) : Keeps s (State.clearForces s) := by
  unfold State.clearForces
  extract_lets +onlyGivenNames y
  refine .trans ?_ (State.record_keeps ..)
  refine .trans ?_ (State.setForces_keeps ..)
  refine .foldl (fun _ _ => ?_) ?_
  · exact State.clearForce_keeps ..
  · exact .refl _

theorem ProgInfo.initialOf_wf (p : ProgInfo) (c : Fin 11) {m : Memory} (h : m.wf = true) : (p.initialOf c m).wf = true :=
  writes_wf (fun _ _ w => Memory.write_wf _ _ w) h

theorem State.initialData_keeps (s : State) : Keeps s s.initialData := by
  refine ⟨rfl, fun x => ⟨⟨put_canonical (put_canonical x.gro.1 (ProgInfo.initialOf_wf _ _ rfl)) (ProgInfo.initialOf_wf _ _ ?_), x.gro.2⟩, x.flow, x.host⟩⟩
  exact writes_wf (fun _ _ w => Memory.write_wf _ _ w) (x.gro.1 0)

theorem State.clearPackage_keeps (s : State) : Keeps s (State.clearPackage s) := by
  unfold State.clearPackage
  extract_lets +onlyGivenNames y
  exact .step (.refl _)

theorem Grotto.warm_canonical {g : Grotto} (h : g.Canonical) : g.warm.Canonical :=
  have h' := Grotto.drainAll_canonical h
  ⟨put_canonical h'.1 (writes_wf (fun _ _ w => Memory.write_wf _ _ w) h'.2), h'.2⟩

theorem Grotto.cold_canonical {g : Grotto} (p : ProgInfo) (h : g.Canonical) : (g.cold p).Canonical :=
  ⟨put_canonical h.1 (ProgInfo.initialOf_wf _ _ rfl), ProgInfo.initialOf_wf _ _ rfl⟩

theorem State.initContent_keeps (s : State) (cold : Bool) : Keeps s (s.initContent cold) := by
  unfold State.initContent
  refine Keeps.trans ?_ (State.initialData_keeps _)
  refine Keeps.trans ?_ (State.clearForces_keeps _)
  refine (Keeps.refl s).setGro fun h => ?_
  split
  · exact Grotto.cold_canonical _ h
  · exact Grotto.warm_canonical h

theorem State.initialise_keeps (s : State) (c : Check) (cold : Bool) (qlOk : BitVec 8) : Keeps s (State.initialise s c cold qlOk) := by
  unfold State.initialise
  extract_lets +onlyGivenNames y
  refine .cut (x := y) (fun _ => ?_) ?_
  · clear_value y
    extract_lets +onlyGivenNames y
    refine .cut (x := y) (fun _ => ?_) ?_
    · clear_value y
      extract_lets +onlyGivenNames y
      refine .cut (x := y) (fun _ => ?_) ?_
      · clear_value y
        extract_lets +onlyGivenNames y
        extract_lets +onlyGivenNames y
        extract_lets +onlyGivenNames y
        extract_lets +onlyGivenNames y
        extract_lets +onlyGivenNames y
        extract_lets +onlyGivenNames y
        refine .cut (x := y) (fun _ => ?_) ?_
        · clear_value y
          extract_lets +onlyGivenNames y
          refine .cut (x := y) (fun _ => ?_) ?_
          · clear_value y
            refine .trans ?_ (State.testLines_keeps ..)
            exact .step (by assumption)
          · subst y
            exact .trans (by assumption) (State.renewSlots_keeps ..)
        · subst y
          exact .step (by assumption)
      · subst y
        exact .trans (by assumption) (State.clearPackage_keeps ..)
    · subst y
      refine .ite (fun _ => ?_) fun _ => ?_
      · assumption
      · exact .trans (by assumption) (State.initContent_keeps ..)
  · subst y
    refine .trans ?_ (State.meetPeer_keeps ..)
    exact State.applyDescriptors_keeps ..

theorem State.noteEnable_keeps (s : State) (sev session code inst item : Nat) : Keeps s (State.noteEnable s sev session code inst item) := by
  unfold State.noteEnable
  exact State.record_keeps ..

theorem State.enableRefused_keeps (s : State) (c : Check) (code inst item : Nat) : Keeps s (State.enableRefused s c code inst item) := by
  unfold State.enableRefused
  extract_lets +onlyGivenNames y
  extract_lets +onlyGivenNames y
  refine .cut (x := y) (fun _ => ?_) ?_
  · clear_value y
    extract_lets +onlyGivenNames y
    extract_lets +onlyGivenNames y
    extract_lets +onlyGivenNames y
    refine .cut (x := y) (fun _ => ?_) ?_
    · clear_value y
      split
      · refine .trans ?_ (State.reply_keeps ..)
        exact .trans (by assumption) (State.noteRefusal_keeps ..)
      · exact .trans (by assumption) (State.noteEnable_keeps ..)
      · exact .trans (by assumption) (State.noteEnable_keeps ..)
    · subst y
      refine .ite (fun _ => ?_) fun _ => ?_
      · exact .step (by assumption)
      · assumption
  · subst y
    refine .trans ?_ (State.clearRunEn_keeps ..)
    refine .trans ?_ (State.setReason_keeps ..)
    exact .step (.refl _)

theorem State.enableAccepted_keeps (s : State) (c : Check) (qlOk : BitVec 8) : Keeps s (State.enableAccepted s c qlOk) := by
  unfold State.enableAccepted
  extract_lets +onlyGivenNames y
  extract_lets +onlyGivenNames y
  extract_lets +onlyGivenNames y
  refine .cut (x := y) (fun _ => ?_) ?_
  · clear_value y
    extract_lets +onlyGivenNames y
    refine .cut (x := y) (fun _ => ?_) ?_
    · clear_value y
      refine .trans ?_ (State.initialise_keeps ..)
      exact .trans (by assumption) (State.atEnable_keeps ..)
    · subst y
      split
      · exact .trans (by assumption) (State.reply_keeps ..)
      · assumption
      · assumption
  · subst y
    refine .trans ?_ (State.setReason_keeps ..)
    exact .step (.refl _)

theorem execEnableCheckComplete_answers (qlOk : BitVec 8) (s : State) : Answers s (exec (.enableCheckComplete qlOk) s) := by
  show Answers s (execEnableCheckComplete qlOk s)
  unfold execEnableCheckComplete
  refine .next ?_
  split
  · refine .ite (fun _ => ?_) fun _ => ?_
    · split
      · exact State.enableRefused_keeps ..
      · exact State.enableAccepted_keeps ..
    · exact .refl _
  · exact .refl _

theorem execStartWaitExpire_answers (s : State) : Answers s (exec .startWaitExpire s) := by
  show Answers s (execStartWaitExpire s)
  unfold execStartWaitExpire
  refine .next ?_
  refine .ite (fun _ => ?_) fun _ => ?_
  · refine .ite (fun _ => ?_) fun _ => ?_
    · refine .ite (fun _ => ?_) fun _ => ?_
      · exact .refl _
      · exact State.askWitness_keeps ..
    · extract_lets +onlyGivenNames y
      refine .cut (x := y) (fun _ => ?_) ?_
      · clear_value y
        exact .step (by assumption)
      · subst y
        exact State.setRole_keeps ..
  · exact .refl _

theorem State.peerCame_keeps (s : State) : Keeps s (State.peerCame s) := by
  unfold State.peerCame
  refine .ite (fun _ => ?_) fun _ => ?_
  · split
    · refine .trans ?_ (State.setReason_keeps ..)
      exact State.notReady_keeps ..
    · refine .trans ?_ (State.takeRole_keeps ..)
      exact .step (.refl _)
  · exact .refl _

theorem State.enterRun_keeps (s : State) : Keeps s (State.enterRun s) := by
  unfold State.enterRun
  extract_lets +onlyGivenNames y
  extract_lets +onlyGivenNames y
  extract_lets +onlyGivenNames y
  extract_lets +onlyGivenNames y
  extract_lets +onlyGivenNames y
  refine .cut (x := y) (fun _ => ?_) ?_
  · clear_value y
    refine .trans ?_ (State.evalMatrix_keeps ..)
    refine .trans ?_ (State.killForRun_keeps ..)
    refine .trans ?_ (State.canStart_keeps ..)
    exact .trans (by assumption) (State.setMode_keeps ..)
  · subst y
    exact .step (.refl _)

theorem execRunEntry_answers (s : State) : Answers s (exec .runEntry s) := by
  show Answers s (execRunEntry s)
  unfold execRunEntry
  refine .next ?_
  refine .ite (fun _ => ?_) fun _ => ?_
  · extract_lets +onlyGivenNames y
    refine .cut (x := y) (fun _ => ?_) ?_
    · clear_value y
      refine .ite (fun _ => ?_) fun _ => ?_
      · exact .trans (by assumption) (State.enterRun_keeps ..)
      · assumption
    · subst y
      exact State.peerCame_keeps ..
  · exact .refl _

theorem systemServed_keeps : ∀ e ∈ systemServed, ∀ rq s, Keeps s (e.2 rq s) := by
  unfold systemServed
  simp only [List.forall_mem_cons]
  exact ⟨cmdSysEnable_keeps, cmdSysStop_keeps, cmdSysRestart_keeps, cmdSysBootInfo_keeps, cmdSysStartSet_keeps, cmdSysStartGet_keeps, cmdSysFwLoad_keeps, cmdSysFwActivate_keeps, cmdSysSessionList_keeps, cmdSysSessionClose_keeps, cmdSysTrustSet_keeps, cmdSysTrustGet_keeps, cmdSysSessSet_keeps, cmdSysSessGet_keeps, nofun⟩

theorem configurationServed_keeps : ∀ e ∈ configurationServed, ∀ rq s, Keeps s (e.2 rq s) := by
  unfold configurationServed
  simp only [List.forall_mem_cons]
  exact ⟨cmdCfgChamberSet_keeps, cmdCfgChamberGet_keeps, cmdCfgPowerSet_keeps, cmdCfgPowerGet_keeps, cmdCfgNetSet_keeps, cmdCfgNetGet_keeps, nofun⟩

theorem programServed_keeps : ∀ e ∈ programServed, ∀ rq s, Keeps s (e.2 rq s) := by
  unfold programServed
  simp only [List.forall_mem_cons]
  exact ⟨cmdPrgTaskSet_keeps, cmdPrgTaskGet_keeps, cmdPrgTaskStatus_keeps, cmdPrgTaskResume_keeps, cmdPrgTaskClear_keeps, cmdPrgRemoteSet_keeps, cmdPrgRemoteStatus_keeps, cmdPrgLaneSplit_keeps, cmdPrgLaneJoin_keeps, cmdPrgLaneStatus_keeps, cmdPrgTemperStatus_keeps, cmdPrgTemperClear_keeps, cmdPrgImageLoad_keeps, cmdPrgImageInfo_keeps, cmdPrgVarRead_keeps, cmdPrgVarWrite_keeps, cmdPrgBreakSet_keeps, cmdPrgBreakClear_keeps, cmdPrgBreakRelease_keeps, cmdPrgStep_keeps, cmdPrgBreakStatus_keeps, nofun⟩

theorem changeServed_keeps : ∀ e ∈ changeServed, ∀ rq s, Keeps s (e.2 rq s) := by
  unfold changeServed
  simp only [List.forall_mem_cons]
  exact ⟨cmdOlcLoad_keeps, cmdOlcActivate_keeps, cmdOlcAbort_keeps, cmdOlcStatus_keeps, cmdOlcForceSet_keeps, cmdOlcForceRelease_keeps, cmdOlcForceReleaseAll_keeps, cmdOlcForceList_keeps, nofun⟩

theorem loopServed_keeps : ∀ e ∈ loopServed, ∀ rq s, Keeps s (e.2 rq s) := by
  unfold loopServed
  simp only [List.forall_mem_cons]
  exact ⟨cmdLoopSet_keeps, cmdLoopGet_keeps, cmdLoopSwapBank_keeps, cmdLoopBankWrite_keeps, cmdLoopBankRead_keeps, cmdLoopMode_keeps, cmdLoopResetTrip_keeps, cmdLoopStatus_keeps, cmdLoopClear_keeps, cmdLoopEngineStatus_keeps, nofun⟩

theorem crucibleServed_keeps : ∀ e ∈ crucibleServed, ∀ rq s, Keeps s (e.2 rq s) := by
  unfold crucibleServed
  simp only [List.forall_mem_cons]
  exact ⟨cmdCruSlotSet_keeps, cmdCruSlotGet_keeps, cmdCruPatternLoad_keeps, cmdCruAnalyse_keeps, cmdCruSlotInfo_keeps, cmdCruJobSubmit_keeps, cmdCruResultRead_keeps, cmdCruStatus_keeps, cmdCruClear_keeps, cmdCruQpSet_keeps, cmdCruQpGet_keeps, cmdCruQpInfo_keeps, cmdCruInputWrite_keeps, nofun⟩

theorem fieldServed_keeps : ∀ e ∈ fieldServed, ∀ rq s, Keeps s (e.2 rq s) := by
  unfold fieldServed
  simp only [List.forall_mem_cons]
  exact ⟨cmdFioDioSet_keeps, cmdFioDioGet_keeps, cmdFioDioStatus_keeps, cmdFioGroupStatus_keeps, cmdFioGroupReset_keeps, cmdFioDioUnlatch_keeps, cmdFioDioClear_keeps, cmdFioAioSet_keeps, cmdFioAioGet_keeps, cmdFioAioStatus_keeps, cmdFioAioTrimSet_keeps, cmdFioAioTrimGet_keeps, cmdFioAioTrimDrive_keeps, cmdFioAioTrimRemove_keeps, cmdFioAioClear_keeps, nofun⟩

theorem safetyServed_keeps : ∀ e ∈ safetyServed, ∀ rq s, Keeps s (e.2 rq s) := by
  unfold safetyServed
  simp only [List.forall_mem_cons]
  exact ⟨cmdSafeParamLoad_keeps, cmdSafeParamRead_keeps, cmdSafeSignOff_keeps, cmdSafeStatus_keeps, cmdSafeReset_keeps, cmdSafeBrakeTest_keeps, cmdSafeClear_keeps, nofun⟩

theorem motionServed_keeps : ∀ e ∈ motionServed, ∀ rq s, Keeps s (e.2 rq s) := by
  unfold motionServed
  simp only [List.forall_mem_cons]
  exact ⟨cmdMotAxisSet_keeps, cmdMotAxisGet_keeps, cmdMotEncSet_keeps, cmdMotEncGet_keeps, cmdMotTableLoad_keeps, cmdMotTableRead_keeps, cmdMotStatus_keeps, cmdMotClear_keeps, nofun⟩

theorem canServed_keeps : ∀ e ∈ canServed, ∀ rq s, Keeps s (e.2 rq s) := by
  unfold canServed
  simp only [List.forall_mem_cons]
  exact ⟨cmdCanCtrlSet_keeps, cmdCanCtrlGet_keeps, cmdCanFilterSet_keeps, cmdCanObjectSet_keeps, cmdCanRecover_keeps, cmdCanStatus_keeps, cmdCanTxOnce_keeps, cmdCanClear_keeps, nofun⟩

theorem timeServed_keeps : ∀ e ∈ timeServed, ∀ rq s, Keeps s (e.2 rq s) := by
  unfold timeServed
  simp only [List.forall_mem_cons]
  exact ⟨cmdTimePtpSet_keeps, cmdTimePtpGet_keeps, cmdTimeStatus_keeps, cmdTimeCmpSet_keeps, cmdTimeCmpGet_keeps, cmdTimeTciSet_keeps, cmdTimeRtcRead_keeps, cmdTimeRtcSet_keeps, cmdTimeRtcShift_keeps, cmdTimeRtcAlarm_keeps, cmdTimeRtcWake_keeps, cmdTimeClear_keeps, nofun⟩

theorem pairServed_keeps : ∀ e ∈ pairServed, ∀ rq s, Keeps s (e.2 rq s) := by
  unfold pairServed
  simp only [List.forall_mem_cons]
  exact ⟨cmdPairSet_keeps, cmdPairGet_keeps, cmdPairStatus_keeps, cmdPairSwap_keeps, cmdPairReadmit_keeps, cmdPairClear_keeps, nofun⟩

theorem recorderServed_keeps : ∀ e ∈ recorderServed, ∀ rq s, Keeps s (e.2 rq s) := by
  unfold recorderServed
  simp only [List.forall_mem_cons]
  exact ⟨cmdFlowSet_keeps, cmdFlowGet_keeps, cmdFlowFlush_keeps, cmdFlowStatus_keeps, cmdFlowRead_keeps, cmdFlowExport_keeps, cmdFlowClear_keeps, cmdFlowNote_keeps, nofun⟩

theorem panelServed_keeps : ∀ e ∈ panelServed, ∀ rq s, Keeps s (e.2 rq s) := by
  unfold panelServed
  simp only [List.forall_mem_cons]
  exact ⟨cmdPnlSet_keeps, cmdPnlGet_keeps, cmdPnlWaveLoad_keeps, cmdPnlDraw_keeps, cmdPnlUpdate_keeps, cmdPnlStatus_keeps, cmdPnlClear_keeps, nofun⟩

theorem diagnosticServed_keeps : ∀ e ∈ diagnosticServed, ∀ rq s, Keeps s (e.2 rq s) := by
  unfold diagnosticServed
  simp only [List.forall_mem_cons]
  exact ⟨cmdDiagGrottoStatus_keeps, cmdDiagGrottoClear_keeps, cmdDiagPowerStatus_keeps, cmdDiagPowerClear_keeps, cmdDiagNetStatus_keeps, nofun⟩

theorem served_keeps : ∀ e ∈ served, ∀ rq s, Keeps s (e.2 rq s) := by
  intro e h
  unfold served at h
  simp only [List.mem_append] at h
  rcases h with (((((((((((((h | h) | h) | h) | h) | h) | h) | h) | h) | h) | h) | h) | h) | h) | h
  · exact systemServed_keeps e h
  · exact configurationServed_keeps e h
  · exact programServed_keeps e h
  · exact changeServed_keeps e h
  · exact loopServed_keeps e h
  · exact crucibleServed_keeps e h
  · exact fieldServed_keeps e h
  · exact safetyServed_keeps e h
  · exact motionServed_keeps e h
  · exact canServed_keeps e h
  · exact timeServed_keeps e h
  · exact pairServed_keeps e h
  · exact recorderServed_keeps e h
  · exact panelServed_keeps e h
  · exact diagnosticServed_keeps e h

theorem State.serveMessage_keeps (s : State) (w : Waiting) : Keeps s (State.serveMessage s w) := by
  unfold State.serveMessage
  split
  · exact State.refuse_keeps ..
  · rename_i e m h
    exact Keeps.ite (fun _ => State.refuse_keeps ..) fun _ => served_keeps _ (List.mem_of_find?_eq_some h) _ _

theorem State.toApplication_keeps (s : State) (n : Fin 8) : Keeps s (s.toApplication n) := by
  unfold State.toApplication
  refine Keeps.trans ?_ (State.trigger_keeps ..)
  exact ⟨rfl, fun x => ⟨x.gro, x.flow, ⟨updMb_canonical x.host.1 fun _ w => w, put_canonical x.host.2 (x.host.1 n)⟩⟩⟩

theorem State.ring_keeps (s : State) (n : Fin 8) : Keeps s (s.ring n) := by
  unfold State.ring
  cases (s.host.mb.get n).state
  case posted => exact State.raise_keeps ..
  case busy => exact State.raise_keeps ..
  all_goals
    dsimp only
    have h := (setMb_keeps s (updMb_canonical (i := n) (f := fun m => { m with state := .posted, rxTs := s.ts }) · fun _ w => w)).trans
      (State.receive_keeps _ (State.messageIn { s with host.mb := upd s.host.mb n fun m => { m with state := .posted, rxTs := s.ts } } n).rq)
    exact Keeps.ite (fun _ => h.trans (State.toApplication_keeps ..)) fun _ => Keeps.step h

theorem execMailboxRing_answers (mask : BitVec 8) (s : State) : Answers s (exec (.mailboxRing mask) s) := by
  show Answers s (execMailboxRing mask s)
  unfold execMailboxRing
  refine .next ?_
  refine .ite (fun _ => ?_) fun _ => ?_
  · refine .foldl (fun _ _ => ?_) ?_
    · exact State.ring_keeps ..
    · exact .refl _
  · exact .refl _

theorem execSessionMessageReceive_answers (session : Fin 17) (msg : List Byte) (s : State) : Answers s (exec (.sessionMessageReceive session msg) s) := by
  show Answers s (execSessionMessageReceive session msg s)
  unfold execSessionMessageReceive
  refine .next ?_
  refine .ite (fun _ => ?_) fun _ => ?_
  · exact .refl _
  · extract_lets +onlyGivenNames y
    refine .ite (fun _ => ?_) fun _ => ?_
    · exact State.closeSession_keeps ..
    · refine .ite (fun _ => ?_) fun _ => ?_
      · exact .refl _
      · extract_lets +onlyGivenNames y
        extract_lets +onlyGivenNames y
        refine .cut (x := y) (fun _ => ?_) ?_
        · clear_value y
          extract_lets +onlyGivenNames y
          extract_lets +onlyGivenNames y
          refine .cut (x := y) (fun _ => ?_) ?_
          · clear_value y
            refine .ite (fun _ => ?_) fun _ => ?_
            · extract_lets +onlyGivenNames y
              refine .cut (x := y) (fun _ => ?_) ?_
              · clear_value y
                exact .step (by assumption)
              · subst y
                exact .trans (by assumption) (State.serveMessage_keeps ..)
            · assumption
          · subst y
            exact .step (by assumption)
        · subst y
          exact State.receive_keeps ..

theorem execCommandTake_answers (s : State) : Answers s (exec .commandTake s) := by
  show Answers s (execCommandTake s)
  unfold execCommandTake
  refine Answers.next ?_
  cases s.nextMessage with
  | none => exact Keeps.refl s
  | some w =>
    dsimp only
    have h1 : Keeps s { s with host.waiting := s.host.waiting.erase w } := Keeps.step (Keeps.refl s)
    cases w.rq.mailbox with
    | none => exact h1.trans (State.serveMessage_keeps ..)
    | some n =>
      refine Keeps.ite (fun _ => h1.trans (State.toApplication_keeps ..)) fun _ => ?_
      refine (h1.trans (setMb_keeps _ (updMb_canonical (i := n) (f := fun m => { m with state := .busy }) · fun _ w => w))).trans
        (State.serveMessage_keeps ..)

end Sys2Proof.Machine
end

