-- ==== Sys2Proof/Laws/Vectors.lean ====
section
/-! SUPPORT. Reading a vector after a change of one entry, and timers that have reached their time. -/

namespace Sys2Proof.Machine

open Sys2Proof

set_option Elab.async false

variable {α : Type} {n : Nat}

/-- An entry put into a vector reads back. -/
@[simp] theorem put_get_same (v : Vector α n) (i : Fin n) (x : α) : (put v i x).get i = x := by
  show (v.set i.val x i.isLt)[i.val] = x
  simp

/-- Another entry is as before. -/
theorem put_get_ne (v : Vector α n) {i j : Fin n} (x : α) (h : j ≠ i) : (put v i x).get j = v.get j := by
  have : (i : Nat) ≠ j := fun e => h (Fin.ext e.symm)
  show (v.set i.val x i.isLt)[j.val] = v[j.val]
  simp [this]

/-- A changed entry reads as changed. -/
@[simp] theorem upd_get_same (v : Vector α n) (i : Fin n) (f : α → α) : (upd v i f).get i = f (v.get i) := by
  simp [upd]

/-- Another entry is as before. -/
theorem upd_get_ne (v : Vector α n) {i j : Fin n} (f : α → α) (h : j ≠ i) : (upd v i f).get j = v.get j :=
  put_get_ne v _ h

/-- Two changes of one entry are one. -/
theorem upd_upd (v : Vector α n) (i : Fin n) (f g : α → α) : upd (upd v i f) i g = upd v i fun x => g (f x) := by
  have h : (upd v i f).get i = f (v.get i) := upd_get_same v i f
  rw [show upd (upd v i f) i g = put (upd v i f) i (g ((upd v i f).get i)) from rfl, h]
  apply Vector.ext
  intro j hj
  by_cases e : (i : Nat) = j <;> simp [upd, put, e]

/-- An entry put and then changed is put as changed. -/
theorem upd_put (v : Vector α n) (i : Fin n) (x : α) (g : α → α) : upd (put v i x) i g = put v i (g x) := by
  rw [show upd (put v i x) i g = put (put v i x) i (g ((put v i x).get i)) from rfl, put_get_same]
  apply Vector.ext
  intro j hj
  by_cases e : (i : Nat) = j <;> simp [put, e]

/-- Axis `n` after its change. -/
@[simp] theorem State.mx_setMx (s : State) (n : Fin 8) (f : Axis → Axis) : (s.setMx n f).mx n = f (s.mx n) :=
  upd_get_same ..

/-- A time has passed since an instant. -/
theorem State.since_of {s : State} {t0 t : Nat} (h : t0 + t ≤ s.now) : s.since t0 t = true := decide_eq_true h

/-- A timer that runs has reached a time. -/
theorem State.ran_of {s : State} {t0 : Option Nat} {a t : Nat} (e : t0 = some a) (h : a + t ≤ s.now) : s.ran t0 t = true := by
  subst e; exact State.since_of h

end Sys2Proof.Machine
end

