-- ==== Sys2Proof/Laws/State.lean ====
section
/-! SUPPORT. What each update of one part of the state leaves of every other part, and what the changed part then reads. -/

namespace Sys2Proof.Machine

open Sys2Proof

set_option Elab.async false

variable (s : State)

/-! ### `State.setMem` changes `gro` alone -/

@[simp] theorem State.setMem_pow (c : Fin 11) (m : Memory) : (s.setMem c m).pow = s.pow := rfl
@[simp] theorem State.setMem_tk (c : Fin 11) (m : Memory) : (s.setMem c m).tk = s.tk := rfl
@[simp] theorem State.setMem_dbg (c : Fin 11) (m : Memory) : (s.setMem c m).dbg = s.dbg := rfl
@[simp] theorem State.setMem_olc (c : Fin 11) (m : Memory) : (s.setMem c m).olc = s.olc := rfl
@[simp] theorem State.setMem_lp (c : Fin 11) (m : Memory) : (s.setMem c m).lp = s.lp := rfl
@[simp] theorem State.setMem_cru (c : Fin 11) (m : Memory) : (s.setMem c m).cru = s.cru := rfl
@[simp] theorem State.setMem_isl (c : Fin 11) (m : Memory) : (s.setMem c m).isl = s.isl := rfl
@[simp] theorem State.setMem_dio (c : Fin 11) (m : Memory) : (s.setMem c m).dio = s.dio := rfl
@[simp] theorem State.setMem_aio (c : Fin 11) (m : Memory) : (s.setMem c m).aio = s.aio := rfl
@[simp] theorem State.setMem_mot (c : Fin 11) (m : Memory) : (s.setMem c m).mot = s.mot := rfl
@[simp] theorem State.setMem_can (c : Fin 11) (m : Memory) : (s.setMem c m).can = s.can := rfl
@[simp] theorem State.setMem_tm (c : Fin 11) (m : Memory) : (s.setMem c m).tm = s.tm := rfl
@[simp] theorem State.setMem_pr (c : Fin 11) (m : Memory) : (s.setMem c m).pr = s.pr := rfl
@[simp] theorem State.setMem_flow (c : Fin 11) (m : Memory) : (s.setMem c m).flow = s.flow := rfl
@[simp] theorem State.setMem_pnl (c : Fin 11) (m : Memory) : (s.setMem c m).pnl = s.pnl := rfl
@[simp] theorem State.setMem_sys (c : Fin 11) (m : Memory) : (s.setMem c m).sys = s.sys := rfl
@[simp] theorem State.setMem_host (c : Fin 11) (m : Memory) : (s.setMem c m).host = s.host := rfl
@[simp] theorem State.setMem_free (c : Fin 11) (m : Memory) : (s.setMem c m).free = s.free := rfl
@[simp] theorem State.setMem_pending (c : Fin 11) (m : Memory) : (s.setMem c m).pending = s.pending := rfl

/-! ### `State.chamberEvent` changes `gro` alone -/

@[simp] theorem State.chamberEvent_pow (c : Fin 11) (f : ChamberStat → ChamberStat) : (s.chamberEvent c f).pow = s.pow := rfl
@[simp] theorem State.chamberEvent_tk (c : Fin 11) (f : ChamberStat → ChamberStat) : (s.chamberEvent c f).tk = s.tk := rfl
@[simp] theorem State.chamberEvent_dbg (c : Fin 11) (f : ChamberStat → ChamberStat) : (s.chamberEvent c f).dbg = s.dbg := rfl
@[simp] theorem State.chamberEvent_olc (c : Fin 11) (f : ChamberStat → ChamberStat) : (s.chamberEvent c f).olc = s.olc := rfl
@[simp] theorem State.chamberEvent_lp (c : Fin 11) (f : ChamberStat → ChamberStat) : (s.chamberEvent c f).lp = s.lp := rfl
@[simp] theorem State.chamberEvent_cru (c : Fin 11) (f : ChamberStat → ChamberStat) : (s.chamberEvent c f).cru = s.cru := rfl
@[simp] theorem State.chamberEvent_isl (c : Fin 11) (f : ChamberStat → ChamberStat) : (s.chamberEvent c f).isl = s.isl := rfl
@[simp] theorem State.chamberEvent_dio (c : Fin 11) (f : ChamberStat → ChamberStat) : (s.chamberEvent c f).dio = s.dio := rfl
@[simp] theorem State.chamberEvent_aio (c : Fin 11) (f : ChamberStat → ChamberStat) : (s.chamberEvent c f).aio = s.aio := rfl
@[simp] theorem State.chamberEvent_mot (c : Fin 11) (f : ChamberStat → ChamberStat) : (s.chamberEvent c f).mot = s.mot := rfl
@[simp] theorem State.chamberEvent_can (c : Fin 11) (f : ChamberStat → ChamberStat) : (s.chamberEvent c f).can = s.can := rfl
@[simp] theorem State.chamberEvent_tm (c : Fin 11) (f : ChamberStat → ChamberStat) : (s.chamberEvent c f).tm = s.tm := rfl
@[simp] theorem State.chamberEvent_pr (c : Fin 11) (f : ChamberStat → ChamberStat) : (s.chamberEvent c f).pr = s.pr := rfl
@[simp] theorem State.chamberEvent_flow (c : Fin 11) (f : ChamberStat → ChamberStat) : (s.chamberEvent c f).flow = s.flow := rfl
@[simp] theorem State.chamberEvent_pnl (c : Fin 11) (f : ChamberStat → ChamberStat) : (s.chamberEvent c f).pnl = s.pnl := rfl
@[simp] theorem State.chamberEvent_sys (c : Fin 11) (f : ChamberStat → ChamberStat) : (s.chamberEvent c f).sys = s.sys := rfl
@[simp] theorem State.chamberEvent_host (c : Fin 11) (f : ChamberStat → ChamberStat) : (s.chamberEvent c f).host = s.host := rfl
@[simp] theorem State.chamberEvent_free (c : Fin 11) (f : ChamberStat → ChamberStat) : (s.chamberEvent c f).free = s.free := rfl
@[simp] theorem State.chamberEvent_pending (c : Fin 11) (f : ChamberStat → ChamberStat) : (s.chamberEvent c f).pending = s.pending := rfl

/-! ### `State.setTask` changes `tk` alone -/

@[simp] theorem State.setTask_gro (t : Fin 128) (f : Task → Task) : (s.setTask t f).gro = s.gro := rfl
@[simp] theorem State.setTask_pow (t : Fin 128) (f : Task → Task) : (s.setTask t f).pow = s.pow := rfl
@[simp] theorem State.setTask_dbg (t : Fin 128) (f : Task → Task) : (s.setTask t f).dbg = s.dbg := rfl
@[simp] theorem State.setTask_olc (t : Fin 128) (f : Task → Task) : (s.setTask t f).olc = s.olc := rfl
@[simp] theorem State.setTask_lp (t : Fin 128) (f : Task → Task) : (s.setTask t f).lp = s.lp := rfl
@[simp] theorem State.setTask_cru (t : Fin 128) (f : Task → Task) : (s.setTask t f).cru = s.cru := rfl
@[simp] theorem State.setTask_isl (t : Fin 128) (f : Task → Task) : (s.setTask t f).isl = s.isl := rfl
@[simp] theorem State.setTask_dio (t : Fin 128) (f : Task → Task) : (s.setTask t f).dio = s.dio := rfl
@[simp] theorem State.setTask_aio (t : Fin 128) (f : Task → Task) : (s.setTask t f).aio = s.aio := rfl
@[simp] theorem State.setTask_mot (t : Fin 128) (f : Task → Task) : (s.setTask t f).mot = s.mot := rfl
@[simp] theorem State.setTask_can (t : Fin 128) (f : Task → Task) : (s.setTask t f).can = s.can := rfl
@[simp] theorem State.setTask_tm (t : Fin 128) (f : Task → Task) : (s.setTask t f).tm = s.tm := rfl
@[simp] theorem State.setTask_pr (t : Fin 128) (f : Task → Task) : (s.setTask t f).pr = s.pr := rfl
@[simp] theorem State.setTask_flow (t : Fin 128) (f : Task → Task) : (s.setTask t f).flow = s.flow := rfl
@[simp] theorem State.setTask_pnl (t : Fin 128) (f : Task → Task) : (s.setTask t f).pnl = s.pnl := rfl
@[simp] theorem State.setTask_sys (t : Fin 128) (f : Task → Task) : (s.setTask t f).sys = s.sys := rfl
@[simp] theorem State.setTask_host (t : Fin 128) (f : Task → Task) : (s.setTask t f).host = s.host := rfl
@[simp] theorem State.setTask_free (t : Fin 128) (f : Task → Task) : (s.setTask t f).free = s.free := rfl
@[simp] theorem State.setTask_pending (t : Fin 128) (f : Task → Task) : (s.setTask t f).pending = s.pending := rfl

/-! ### `State.offLane` changes `tk` alone -/

@[simp] theorem State.offLane_gro (t : Fin 128) : (s.offLane t).gro = s.gro := rfl
@[simp] theorem State.offLane_pow (t : Fin 128) : (s.offLane t).pow = s.pow := rfl
@[simp] theorem State.offLane_dbg (t : Fin 128) : (s.offLane t).dbg = s.dbg := rfl
@[simp] theorem State.offLane_olc (t : Fin 128) : (s.offLane t).olc = s.olc := rfl
@[simp] theorem State.offLane_lp (t : Fin 128) : (s.offLane t).lp = s.lp := rfl
@[simp] theorem State.offLane_cru (t : Fin 128) : (s.offLane t).cru = s.cru := rfl
@[simp] theorem State.offLane_isl (t : Fin 128) : (s.offLane t).isl = s.isl := rfl
@[simp] theorem State.offLane_dio (t : Fin 128) : (s.offLane t).dio = s.dio := rfl
@[simp] theorem State.offLane_aio (t : Fin 128) : (s.offLane t).aio = s.aio := rfl
@[simp] theorem State.offLane_mot (t : Fin 128) : (s.offLane t).mot = s.mot := rfl
@[simp] theorem State.offLane_can (t : Fin 128) : (s.offLane t).can = s.can := rfl
@[simp] theorem State.offLane_tm (t : Fin 128) : (s.offLane t).tm = s.tm := rfl
@[simp] theorem State.offLane_pr (t : Fin 128) : (s.offLane t).pr = s.pr := rfl
@[simp] theorem State.offLane_flow (t : Fin 128) : (s.offLane t).flow = s.flow := rfl
@[simp] theorem State.offLane_pnl (t : Fin 128) : (s.offLane t).pnl = s.pnl := rfl
@[simp] theorem State.offLane_sys (t : Fin 128) : (s.offLane t).sys = s.sys := rfl
@[simp] theorem State.offLane_host (t : Fin 128) : (s.offLane t).host = s.host := rfl
@[simp] theorem State.offLane_free (t : Fin 128) : (s.offLane t).free = s.free := rfl
@[simp] theorem State.offLane_pending (t : Fin 128) : (s.offLane t).pending = s.pending := rfl

/-! ### `State.setRemote` changes `tk` alone -/

@[simp] theorem State.setRemote_gro (a : BitVec 16) (f : Remote → Remote) : (s.setRemote a f).gro = s.gro := rfl
@[simp] theorem State.setRemote_pow (a : BitVec 16) (f : Remote → Remote) : (s.setRemote a f).pow = s.pow := rfl
@[simp] theorem State.setRemote_dbg (a : BitVec 16) (f : Remote → Remote) : (s.setRemote a f).dbg = s.dbg := rfl
@[simp] theorem State.setRemote_olc (a : BitVec 16) (f : Remote → Remote) : (s.setRemote a f).olc = s.olc := rfl
@[simp] theorem State.setRemote_lp (a : BitVec 16) (f : Remote → Remote) : (s.setRemote a f).lp = s.lp := rfl
@[simp] theorem State.setRemote_cru (a : BitVec 16) (f : Remote → Remote) : (s.setRemote a f).cru = s.cru := rfl
@[simp] theorem State.setRemote_isl (a : BitVec 16) (f : Remote → Remote) : (s.setRemote a f).isl = s.isl := rfl
@[simp] theorem State.setRemote_dio (a : BitVec 16) (f : Remote → Remote) : (s.setRemote a f).dio = s.dio := rfl
@[simp] theorem State.setRemote_aio (a : BitVec 16) (f : Remote → Remote) : (s.setRemote a f).aio = s.aio := rfl
@[simp] theorem State.setRemote_mot (a : BitVec 16) (f : Remote → Remote) : (s.setRemote a f).mot = s.mot := rfl
@[simp] theorem State.setRemote_can (a : BitVec 16) (f : Remote → Remote) : (s.setRemote a f).can = s.can := rfl
@[simp] theorem State.setRemote_tm (a : BitVec 16) (f : Remote → Remote) : (s.setRemote a f).tm = s.tm := rfl
@[simp] theorem State.setRemote_pr (a : BitVec 16) (f : Remote → Remote) : (s.setRemote a f).pr = s.pr := rfl
@[simp] theorem State.setRemote_flow (a : BitVec 16) (f : Remote → Remote) : (s.setRemote a f).flow = s.flow := rfl
@[simp] theorem State.setRemote_pnl (a : BitVec 16) (f : Remote → Remote) : (s.setRemote a f).pnl = s.pnl := rfl
@[simp] theorem State.setRemote_sys (a : BitVec 16) (f : Remote → Remote) : (s.setRemote a f).sys = s.sys := rfl
@[simp] theorem State.setRemote_host (a : BitVec 16) (f : Remote → Remote) : (s.setRemote a f).host = s.host := rfl
@[simp] theorem State.setRemote_free (a : BitVec 16) (f : Remote → Remote) : (s.setRemote a f).free = s.free := rfl
@[simp] theorem State.setRemote_pending (a : BitVec 16) (f : Remote → Remote) : (s.setRemote a f).pending = s.pending := rfl

/-! ### `State.setLane` changes `dbg` alone -/

@[simp] theorem State.setLane_gro (l : Fin 4) (f : LaneStat → LaneStat) : (s.setLane l f).gro = s.gro := rfl
@[simp] theorem State.setLane_pow (l : Fin 4) (f : LaneStat → LaneStat) : (s.setLane l f).pow = s.pow := rfl
@[simp] theorem State.setLane_tk (l : Fin 4) (f : LaneStat → LaneStat) : (s.setLane l f).tk = s.tk := rfl
@[simp] theorem State.setLane_olc (l : Fin 4) (f : LaneStat → LaneStat) : (s.setLane l f).olc = s.olc := rfl
@[simp] theorem State.setLane_lp (l : Fin 4) (f : LaneStat → LaneStat) : (s.setLane l f).lp = s.lp := rfl
@[simp] theorem State.setLane_cru (l : Fin 4) (f : LaneStat → LaneStat) : (s.setLane l f).cru = s.cru := rfl
@[simp] theorem State.setLane_isl (l : Fin 4) (f : LaneStat → LaneStat) : (s.setLane l f).isl = s.isl := rfl
@[simp] theorem State.setLane_dio (l : Fin 4) (f : LaneStat → LaneStat) : (s.setLane l f).dio = s.dio := rfl
@[simp] theorem State.setLane_aio (l : Fin 4) (f : LaneStat → LaneStat) : (s.setLane l f).aio = s.aio := rfl
@[simp] theorem State.setLane_mot (l : Fin 4) (f : LaneStat → LaneStat) : (s.setLane l f).mot = s.mot := rfl
@[simp] theorem State.setLane_can (l : Fin 4) (f : LaneStat → LaneStat) : (s.setLane l f).can = s.can := rfl
@[simp] theorem State.setLane_tm (l : Fin 4) (f : LaneStat → LaneStat) : (s.setLane l f).tm = s.tm := rfl
@[simp] theorem State.setLane_pr (l : Fin 4) (f : LaneStat → LaneStat) : (s.setLane l f).pr = s.pr := rfl
@[simp] theorem State.setLane_flow (l : Fin 4) (f : LaneStat → LaneStat) : (s.setLane l f).flow = s.flow := rfl
@[simp] theorem State.setLane_pnl (l : Fin 4) (f : LaneStat → LaneStat) : (s.setLane l f).pnl = s.pnl := rfl
@[simp] theorem State.setLane_sys (l : Fin 4) (f : LaneStat → LaneStat) : (s.setLane l f).sys = s.sys := rfl
@[simp] theorem State.setLane_host (l : Fin 4) (f : LaneStat → LaneStat) : (s.setLane l f).host = s.host := rfl
@[simp] theorem State.setLane_free (l : Fin 4) (f : LaneStat → LaneStat) : (s.setLane l f).free = s.free := rfl
@[simp] theorem State.setLane_pending (l : Fin 4) (f : LaneStat → LaneStat) : (s.setLane l f).pending = s.pending := rfl

/-! ### `State.setTemper` changes `dbg` alone -/

@[simp] theorem State.setTemper_gro (t : Fin 128) (f : TemperStat → TemperStat) : (s.setTemper t f).gro = s.gro := rfl
@[simp] theorem State.setTemper_pow (t : Fin 128) (f : TemperStat → TemperStat) : (s.setTemper t f).pow = s.pow := rfl
@[simp] theorem State.setTemper_tk (t : Fin 128) (f : TemperStat → TemperStat) : (s.setTemper t f).tk = s.tk := rfl
@[simp] theorem State.setTemper_olc (t : Fin 128) (f : TemperStat → TemperStat) : (s.setTemper t f).olc = s.olc := rfl
@[simp] theorem State.setTemper_lp (t : Fin 128) (f : TemperStat → TemperStat) : (s.setTemper t f).lp = s.lp := rfl
@[simp] theorem State.setTemper_cru (t : Fin 128) (f : TemperStat → TemperStat) : (s.setTemper t f).cru = s.cru := rfl
@[simp] theorem State.setTemper_isl (t : Fin 128) (f : TemperStat → TemperStat) : (s.setTemper t f).isl = s.isl := rfl
@[simp] theorem State.setTemper_dio (t : Fin 128) (f : TemperStat → TemperStat) : (s.setTemper t f).dio = s.dio := rfl
@[simp] theorem State.setTemper_aio (t : Fin 128) (f : TemperStat → TemperStat) : (s.setTemper t f).aio = s.aio := rfl
@[simp] theorem State.setTemper_mot (t : Fin 128) (f : TemperStat → TemperStat) : (s.setTemper t f).mot = s.mot := rfl
@[simp] theorem State.setTemper_can (t : Fin 128) (f : TemperStat → TemperStat) : (s.setTemper t f).can = s.can := rfl
@[simp] theorem State.setTemper_tm (t : Fin 128) (f : TemperStat → TemperStat) : (s.setTemper t f).tm = s.tm := rfl
@[simp] theorem State.setTemper_pr (t : Fin 128) (f : TemperStat → TemperStat) : (s.setTemper t f).pr = s.pr := rfl
@[simp] theorem State.setTemper_flow (t : Fin 128) (f : TemperStat → TemperStat) : (s.setTemper t f).flow = s.flow := rfl
@[simp] theorem State.setTemper_pnl (t : Fin 128) (f : TemperStat → TemperStat) : (s.setTemper t f).pnl = s.pnl := rfl
@[simp] theorem State.setTemper_sys (t : Fin 128) (f : TemperStat → TemperStat) : (s.setTemper t f).sys = s.sys := rfl
@[simp] theorem State.setTemper_host (t : Fin 128) (f : TemperStat → TemperStat) : (s.setTemper t f).host = s.host := rfl
@[simp] theorem State.setTemper_free (t : Fin 128) (f : TemperStat → TemperStat) : (s.setTemper t f).free = s.free := rfl
@[simp] theorem State.setTemper_pending (t : Fin 128) (f : TemperStat → TemperStat) : (s.setTemper t f).pending = s.pending := rfl

/-! ### `State.setLoop` changes `lp` alone -/

@[simp] theorem State.setLoop_gro (n : Fin 256) (l : Loop) : (s.setLoop n l).gro = s.gro := rfl
@[simp] theorem State.setLoop_pow (n : Fin 256) (l : Loop) : (s.setLoop n l).pow = s.pow := rfl
@[simp] theorem State.setLoop_tk (n : Fin 256) (l : Loop) : (s.setLoop n l).tk = s.tk := rfl
@[simp] theorem State.setLoop_dbg (n : Fin 256) (l : Loop) : (s.setLoop n l).dbg = s.dbg := rfl
@[simp] theorem State.setLoop_olc (n : Fin 256) (l : Loop) : (s.setLoop n l).olc = s.olc := rfl
@[simp] theorem State.setLoop_cru (n : Fin 256) (l : Loop) : (s.setLoop n l).cru = s.cru := rfl
@[simp] theorem State.setLoop_isl (n : Fin 256) (l : Loop) : (s.setLoop n l).isl = s.isl := rfl
@[simp] theorem State.setLoop_dio (n : Fin 256) (l : Loop) : (s.setLoop n l).dio = s.dio := rfl
@[simp] theorem State.setLoop_aio (n : Fin 256) (l : Loop) : (s.setLoop n l).aio = s.aio := rfl
@[simp] theorem State.setLoop_mot (n : Fin 256) (l : Loop) : (s.setLoop n l).mot = s.mot := rfl
@[simp] theorem State.setLoop_can (n : Fin 256) (l : Loop) : (s.setLoop n l).can = s.can := rfl
@[simp] theorem State.setLoop_tm (n : Fin 256) (l : Loop) : (s.setLoop n l).tm = s.tm := rfl
@[simp] theorem State.setLoop_pr (n : Fin 256) (l : Loop) : (s.setLoop n l).pr = s.pr := rfl
@[simp] theorem State.setLoop_flow (n : Fin 256) (l : Loop) : (s.setLoop n l).flow = s.flow := rfl
@[simp] theorem State.setLoop_pnl (n : Fin 256) (l : Loop) : (s.setLoop n l).pnl = s.pnl := rfl
@[simp] theorem State.setLoop_sys (n : Fin 256) (l : Loop) : (s.setLoop n l).sys = s.sys := rfl
@[simp] theorem State.setLoop_host (n : Fin 256) (l : Loop) : (s.setLoop n l).host = s.host := rfl
@[simp] theorem State.setLoop_free (n : Fin 256) (l : Loop) : (s.setLoop n l).free = s.free := rfl
@[simp] theorem State.setLoop_pending (n : Fin 256) (l : Loop) : (s.setLoop n l).pending = s.pending := rfl

/-! ### `State.setCs` changes `cru` alone -/

@[simp] theorem State.setCs_gro (n : Fin 16) (f : Slot → Slot) : (s.setCs n f).gro = s.gro := rfl
@[simp] theorem State.setCs_pow (n : Fin 16) (f : Slot → Slot) : (s.setCs n f).pow = s.pow := rfl
@[simp] theorem State.setCs_tk (n : Fin 16) (f : Slot → Slot) : (s.setCs n f).tk = s.tk := rfl
@[simp] theorem State.setCs_dbg (n : Fin 16) (f : Slot → Slot) : (s.setCs n f).dbg = s.dbg := rfl
@[simp] theorem State.setCs_olc (n : Fin 16) (f : Slot → Slot) : (s.setCs n f).olc = s.olc := rfl
@[simp] theorem State.setCs_lp (n : Fin 16) (f : Slot → Slot) : (s.setCs n f).lp = s.lp := rfl
@[simp] theorem State.setCs_isl (n : Fin 16) (f : Slot → Slot) : (s.setCs n f).isl = s.isl := rfl
@[simp] theorem State.setCs_dio (n : Fin 16) (f : Slot → Slot) : (s.setCs n f).dio = s.dio := rfl
@[simp] theorem State.setCs_aio (n : Fin 16) (f : Slot → Slot) : (s.setCs n f).aio = s.aio := rfl
@[simp] theorem State.setCs_mot (n : Fin 16) (f : Slot → Slot) : (s.setCs n f).mot = s.mot := rfl
@[simp] theorem State.setCs_can (n : Fin 16) (f : Slot → Slot) : (s.setCs n f).can = s.can := rfl
@[simp] theorem State.setCs_tm (n : Fin 16) (f : Slot → Slot) : (s.setCs n f).tm = s.tm := rfl
@[simp] theorem State.setCs_pr (n : Fin 16) (f : Slot → Slot) : (s.setCs n f).pr = s.pr := rfl
@[simp] theorem State.setCs_flow (n : Fin 16) (f : Slot → Slot) : (s.setCs n f).flow = s.flow := rfl
@[simp] theorem State.setCs_pnl (n : Fin 16) (f : Slot → Slot) : (s.setCs n f).pnl = s.pnl := rfl
@[simp] theorem State.setCs_sys (n : Fin 16) (f : Slot → Slot) : (s.setCs n f).sys = s.sys := rfl
@[simp] theorem State.setCs_host (n : Fin 16) (f : Slot → Slot) : (s.setCs n f).host = s.host := rfl
@[simp] theorem State.setCs_free (n : Fin 16) (f : Slot → Slot) : (s.setCs n f).free = s.free := rfl
@[simp] theorem State.setCs_pending (n : Fin 16) (f : Slot → Slot) : (s.setCs n f).pending = s.pending := rfl

/-! ### `State.setPair` changes `isl` alone -/

@[simp] theorem State.setPair_gro (k : Fin 16) (f : SafePair → SafePair) : (s.setPair k f).gro = s.gro := rfl
@[simp] theorem State.setPair_pow (k : Fin 16) (f : SafePair → SafePair) : (s.setPair k f).pow = s.pow := rfl
@[simp] theorem State.setPair_tk (k : Fin 16) (f : SafePair → SafePair) : (s.setPair k f).tk = s.tk := rfl
@[simp] theorem State.setPair_dbg (k : Fin 16) (f : SafePair → SafePair) : (s.setPair k f).dbg = s.dbg := rfl
@[simp] theorem State.setPair_olc (k : Fin 16) (f : SafePair → SafePair) : (s.setPair k f).olc = s.olc := rfl
@[simp] theorem State.setPair_lp (k : Fin 16) (f : SafePair → SafePair) : (s.setPair k f).lp = s.lp := rfl
@[simp] theorem State.setPair_cru (k : Fin 16) (f : SafePair → SafePair) : (s.setPair k f).cru = s.cru := rfl
@[simp] theorem State.setPair_dio (k : Fin 16) (f : SafePair → SafePair) : (s.setPair k f).dio = s.dio := rfl
@[simp] theorem State.setPair_aio (k : Fin 16) (f : SafePair → SafePair) : (s.setPair k f).aio = s.aio := rfl
@[simp] theorem State.setPair_mot (k : Fin 16) (f : SafePair → SafePair) : (s.setPair k f).mot = s.mot := rfl
@[simp] theorem State.setPair_can (k : Fin 16) (f : SafePair → SafePair) : (s.setPair k f).can = s.can := rfl
@[simp] theorem State.setPair_tm (k : Fin 16) (f : SafePair → SafePair) : (s.setPair k f).tm = s.tm := rfl
@[simp] theorem State.setPair_pr (k : Fin 16) (f : SafePair → SafePair) : (s.setPair k f).pr = s.pr := rfl
@[simp] theorem State.setPair_flow (k : Fin 16) (f : SafePair → SafePair) : (s.setPair k f).flow = s.flow := rfl
@[simp] theorem State.setPair_pnl (k : Fin 16) (f : SafePair → SafePair) : (s.setPair k f).pnl = s.pnl := rfl
@[simp] theorem State.setPair_sys (k : Fin 16) (f : SafePair → SafePair) : (s.setPair k f).sys = s.sys := rfl
@[simp] theorem State.setPair_host (k : Fin 16) (f : SafePair → SafePair) : (s.setPair k f).host = s.host := rfl
@[simp] theorem State.setPair_free (k : Fin 16) (f : SafePair → SafePair) : (s.setPair k f).free = s.free := rfl
@[simp] theorem State.setPair_pending (k : Fin 16) (f : SafePair → SafePair) : (s.setPair k f).pending = s.pending := rfl

/-! ### `State.setSafeAxis` changes `isl` alone -/

@[simp] theorem State.setSafeAxis_gro (n : Fin 8) (f : SafeAxis → SafeAxis) : (s.setSafeAxis n f).gro = s.gro := rfl
@[simp] theorem State.setSafeAxis_pow (n : Fin 8) (f : SafeAxis → SafeAxis) : (s.setSafeAxis n f).pow = s.pow := rfl
@[simp] theorem State.setSafeAxis_tk (n : Fin 8) (f : SafeAxis → SafeAxis) : (s.setSafeAxis n f).tk = s.tk := rfl
@[simp] theorem State.setSafeAxis_dbg (n : Fin 8) (f : SafeAxis → SafeAxis) : (s.setSafeAxis n f).dbg = s.dbg := rfl
@[simp] theorem State.setSafeAxis_olc (n : Fin 8) (f : SafeAxis → SafeAxis) : (s.setSafeAxis n f).olc = s.olc := rfl
@[simp] theorem State.setSafeAxis_lp (n : Fin 8) (f : SafeAxis → SafeAxis) : (s.setSafeAxis n f).lp = s.lp := rfl
@[simp] theorem State.setSafeAxis_cru (n : Fin 8) (f : SafeAxis → SafeAxis) : (s.setSafeAxis n f).cru = s.cru := rfl
@[simp] theorem State.setSafeAxis_dio (n : Fin 8) (f : SafeAxis → SafeAxis) : (s.setSafeAxis n f).dio = s.dio := rfl
@[simp] theorem State.setSafeAxis_aio (n : Fin 8) (f : SafeAxis → SafeAxis) : (s.setSafeAxis n f).aio = s.aio := rfl
@[simp] theorem State.setSafeAxis_mot (n : Fin 8) (f : SafeAxis → SafeAxis) : (s.setSafeAxis n f).mot = s.mot := rfl
@[simp] theorem State.setSafeAxis_can (n : Fin 8) (f : SafeAxis → SafeAxis) : (s.setSafeAxis n f).can = s.can := rfl
@[simp] theorem State.setSafeAxis_tm (n : Fin 8) (f : SafeAxis → SafeAxis) : (s.setSafeAxis n f).tm = s.tm := rfl
@[simp] theorem State.setSafeAxis_pr (n : Fin 8) (f : SafeAxis → SafeAxis) : (s.setSafeAxis n f).pr = s.pr := rfl
@[simp] theorem State.setSafeAxis_flow (n : Fin 8) (f : SafeAxis → SafeAxis) : (s.setSafeAxis n f).flow = s.flow := rfl
@[simp] theorem State.setSafeAxis_pnl (n : Fin 8) (f : SafeAxis → SafeAxis) : (s.setSafeAxis n f).pnl = s.pnl := rfl
@[simp] theorem State.setSafeAxis_sys (n : Fin 8) (f : SafeAxis → SafeAxis) : (s.setSafeAxis n f).sys = s.sys := rfl
@[simp] theorem State.setSafeAxis_host (n : Fin 8) (f : SafeAxis → SafeAxis) : (s.setSafeAxis n f).host = s.host := rfl
@[simp] theorem State.setSafeAxis_free (n : Fin 8) (f : SafeAxis → SafeAxis) : (s.setSafeAxis n f).free = s.free := rfl
@[simp] theorem State.setSafeAxis_pending (n : Fin 8) (f : SafeAxis → SafeAxis) : (s.setSafeAxis n f).pending = s.pending := rfl

/-! ### `State.setField` changes `dio` alone -/

@[simp] theorem State.setField_gro (n : Fin 4) (f : FieldSide → FieldSide) : (s.setField n f).gro = s.gro := rfl
@[simp] theorem State.setField_pow (n : Fin 4) (f : FieldSide → FieldSide) : (s.setField n f).pow = s.pow := rfl
@[simp] theorem State.setField_tk (n : Fin 4) (f : FieldSide → FieldSide) : (s.setField n f).tk = s.tk := rfl
@[simp] theorem State.setField_dbg (n : Fin 4) (f : FieldSide → FieldSide) : (s.setField n f).dbg = s.dbg := rfl
@[simp] theorem State.setField_olc (n : Fin 4) (f : FieldSide → FieldSide) : (s.setField n f).olc = s.olc := rfl
@[simp] theorem State.setField_lp (n : Fin 4) (f : FieldSide → FieldSide) : (s.setField n f).lp = s.lp := rfl
@[simp] theorem State.setField_cru (n : Fin 4) (f : FieldSide → FieldSide) : (s.setField n f).cru = s.cru := rfl
@[simp] theorem State.setField_isl (n : Fin 4) (f : FieldSide → FieldSide) : (s.setField n f).isl = s.isl := rfl
@[simp] theorem State.setField_aio (n : Fin 4) (f : FieldSide → FieldSide) : (s.setField n f).aio = s.aio := rfl
@[simp] theorem State.setField_mot (n : Fin 4) (f : FieldSide → FieldSide) : (s.setField n f).mot = s.mot := rfl
@[simp] theorem State.setField_can (n : Fin 4) (f : FieldSide → FieldSide) : (s.setField n f).can = s.can := rfl
@[simp] theorem State.setField_tm (n : Fin 4) (f : FieldSide → FieldSide) : (s.setField n f).tm = s.tm := rfl
@[simp] theorem State.setField_pr (n : Fin 4) (f : FieldSide → FieldSide) : (s.setField n f).pr = s.pr := rfl
@[simp] theorem State.setField_flow (n : Fin 4) (f : FieldSide → FieldSide) : (s.setField n f).flow = s.flow := rfl
@[simp] theorem State.setField_pnl (n : Fin 4) (f : FieldSide → FieldSide) : (s.setField n f).pnl = s.pnl := rfl
@[simp] theorem State.setField_sys (n : Fin 4) (f : FieldSide → FieldSide) : (s.setField n f).sys = s.sys := rfl
@[simp] theorem State.setField_host (n : Fin 4) (f : FieldSide → FieldSide) : (s.setField n f).host = s.host := rfl
@[simp] theorem State.setField_free (n : Fin 4) (f : FieldSide → FieldSide) : (s.setField n f).free = s.free := rfl
@[simp] theorem State.setField_pending (n : Fin 4) (f : FieldSide → FieldSide) : (s.setField n f).pending = s.pending := rfl

/-! ### `State.setLink` changes `dio` alone -/

@[simp] theorem State.setLink_gro (n : Fin 4) (f : Link → Link) : (s.setLink n f).gro = s.gro := rfl
@[simp] theorem State.setLink_pow (n : Fin 4) (f : Link → Link) : (s.setLink n f).pow = s.pow := rfl
@[simp] theorem State.setLink_tk (n : Fin 4) (f : Link → Link) : (s.setLink n f).tk = s.tk := rfl
@[simp] theorem State.setLink_dbg (n : Fin 4) (f : Link → Link) : (s.setLink n f).dbg = s.dbg := rfl
@[simp] theorem State.setLink_olc (n : Fin 4) (f : Link → Link) : (s.setLink n f).olc = s.olc := rfl
@[simp] theorem State.setLink_lp (n : Fin 4) (f : Link → Link) : (s.setLink n f).lp = s.lp := rfl
@[simp] theorem State.setLink_cru (n : Fin 4) (f : Link → Link) : (s.setLink n f).cru = s.cru := rfl
@[simp] theorem State.setLink_isl (n : Fin 4) (f : Link → Link) : (s.setLink n f).isl = s.isl := rfl
@[simp] theorem State.setLink_aio (n : Fin 4) (f : Link → Link) : (s.setLink n f).aio = s.aio := rfl
@[simp] theorem State.setLink_mot (n : Fin 4) (f : Link → Link) : (s.setLink n f).mot = s.mot := rfl
@[simp] theorem State.setLink_can (n : Fin 4) (f : Link → Link) : (s.setLink n f).can = s.can := rfl
@[simp] theorem State.setLink_tm (n : Fin 4) (f : Link → Link) : (s.setLink n f).tm = s.tm := rfl
@[simp] theorem State.setLink_pr (n : Fin 4) (f : Link → Link) : (s.setLink n f).pr = s.pr := rfl
@[simp] theorem State.setLink_flow (n : Fin 4) (f : Link → Link) : (s.setLink n f).flow = s.flow := rfl
@[simp] theorem State.setLink_pnl (n : Fin 4) (f : Link → Link) : (s.setLink n f).pnl = s.pnl := rfl
@[simp] theorem State.setLink_sys (n : Fin 4) (f : Link → Link) : (s.setLink n f).sys = s.sys := rfl
@[simp] theorem State.setLink_host (n : Fin 4) (f : Link → Link) : (s.setLink n f).host = s.host := rfl
@[simp] theorem State.setLink_free (n : Fin 4) (f : Link → Link) : (s.setLink n f).free = s.free := rfl
@[simp] theorem State.setLink_pending (n : Fin 4) (f : Link → Link) : (s.setLink n f).pending = s.pending := rfl

/-! ### `State.dioCount` changes `dio` alone -/

@[simp] theorem State.dioCount_gro (c : Fin 32) (f : DioStat → DioStat) : (s.dioCount c f).gro = s.gro := rfl
@[simp] theorem State.dioCount_pow (c : Fin 32) (f : DioStat → DioStat) : (s.dioCount c f).pow = s.pow := rfl
@[simp] theorem State.dioCount_tk (c : Fin 32) (f : DioStat → DioStat) : (s.dioCount c f).tk = s.tk := rfl
@[simp] theorem State.dioCount_dbg (c : Fin 32) (f : DioStat → DioStat) : (s.dioCount c f).dbg = s.dbg := rfl
@[simp] theorem State.dioCount_olc (c : Fin 32) (f : DioStat → DioStat) : (s.dioCount c f).olc = s.olc := rfl
@[simp] theorem State.dioCount_lp (c : Fin 32) (f : DioStat → DioStat) : (s.dioCount c f).lp = s.lp := rfl
@[simp] theorem State.dioCount_cru (c : Fin 32) (f : DioStat → DioStat) : (s.dioCount c f).cru = s.cru := rfl
@[simp] theorem State.dioCount_isl (c : Fin 32) (f : DioStat → DioStat) : (s.dioCount c f).isl = s.isl := rfl
@[simp] theorem State.dioCount_aio (c : Fin 32) (f : DioStat → DioStat) : (s.dioCount c f).aio = s.aio := rfl
@[simp] theorem State.dioCount_mot (c : Fin 32) (f : DioStat → DioStat) : (s.dioCount c f).mot = s.mot := rfl
@[simp] theorem State.dioCount_can (c : Fin 32) (f : DioStat → DioStat) : (s.dioCount c f).can = s.can := rfl
@[simp] theorem State.dioCount_tm (c : Fin 32) (f : DioStat → DioStat) : (s.dioCount c f).tm = s.tm := rfl
@[simp] theorem State.dioCount_pr (c : Fin 32) (f : DioStat → DioStat) : (s.dioCount c f).pr = s.pr := rfl
@[simp] theorem State.dioCount_flow (c : Fin 32) (f : DioStat → DioStat) : (s.dioCount c f).flow = s.flow := rfl
@[simp] theorem State.dioCount_pnl (c : Fin 32) (f : DioStat → DioStat) : (s.dioCount c f).pnl = s.pnl := rfl
@[simp] theorem State.dioCount_sys (c : Fin 32) (f : DioStat → DioStat) : (s.dioCount c f).sys = s.sys := rfl
@[simp] theorem State.dioCount_host (c : Fin 32) (f : DioStat → DioStat) : (s.dioCount c f).host = s.host := rfl
@[simp] theorem State.dioCount_free (c : Fin 32) (f : DioStat → DioStat) : (s.dioCount c f).free = s.free := rfl
@[simp] theorem State.dioCount_pending (c : Fin 32) (f : DioStat → DioStat) : (s.dioCount c f).pending = s.pending := rfl

/-! ### `State.setAio` changes `aio` alone -/

@[simp] theorem State.setAio_gro (c : Fin 16) (f : Aio → Aio) : (s.setAio c f).gro = s.gro := rfl
@[simp] theorem State.setAio_pow (c : Fin 16) (f : Aio → Aio) : (s.setAio c f).pow = s.pow := rfl
@[simp] theorem State.setAio_tk (c : Fin 16) (f : Aio → Aio) : (s.setAio c f).tk = s.tk := rfl
@[simp] theorem State.setAio_dbg (c : Fin 16) (f : Aio → Aio) : (s.setAio c f).dbg = s.dbg := rfl
@[simp] theorem State.setAio_olc (c : Fin 16) (f : Aio → Aio) : (s.setAio c f).olc = s.olc := rfl
@[simp] theorem State.setAio_lp (c : Fin 16) (f : Aio → Aio) : (s.setAio c f).lp = s.lp := rfl
@[simp] theorem State.setAio_cru (c : Fin 16) (f : Aio → Aio) : (s.setAio c f).cru = s.cru := rfl
@[simp] theorem State.setAio_isl (c : Fin 16) (f : Aio → Aio) : (s.setAio c f).isl = s.isl := rfl
@[simp] theorem State.setAio_dio (c : Fin 16) (f : Aio → Aio) : (s.setAio c f).dio = s.dio := rfl
@[simp] theorem State.setAio_mot (c : Fin 16) (f : Aio → Aio) : (s.setAio c f).mot = s.mot := rfl
@[simp] theorem State.setAio_can (c : Fin 16) (f : Aio → Aio) : (s.setAio c f).can = s.can := rfl
@[simp] theorem State.setAio_tm (c : Fin 16) (f : Aio → Aio) : (s.setAio c f).tm = s.tm := rfl
@[simp] theorem State.setAio_pr (c : Fin 16) (f : Aio → Aio) : (s.setAio c f).pr = s.pr := rfl
@[simp] theorem State.setAio_flow (c : Fin 16) (f : Aio → Aio) : (s.setAio c f).flow = s.flow := rfl
@[simp] theorem State.setAio_pnl (c : Fin 16) (f : Aio → Aio) : (s.setAio c f).pnl = s.pnl := rfl
@[simp] theorem State.setAio_sys (c : Fin 16) (f : Aio → Aio) : (s.setAio c f).sys = s.sys := rfl
@[simp] theorem State.setAio_host (c : Fin 16) (f : Aio → Aio) : (s.setAio c f).host = s.host := rfl
@[simp] theorem State.setAio_free (c : Fin 16) (f : Aio → Aio) : (s.setAio c f).free = s.free := rfl
@[simp] theorem State.setAio_pending (c : Fin 16) (f : Aio → Aio) : (s.setAio c f).pending = s.pending := rfl

/-! ### `State.setMx` changes `mot` alone -/

@[simp] theorem State.setMx_gro (n : Fin 8) (f : Axis → Axis) : (s.setMx n f).gro = s.gro := rfl
@[simp] theorem State.setMx_pow (n : Fin 8) (f : Axis → Axis) : (s.setMx n f).pow = s.pow := rfl
@[simp] theorem State.setMx_tk (n : Fin 8) (f : Axis → Axis) : (s.setMx n f).tk = s.tk := rfl
@[simp] theorem State.setMx_dbg (n : Fin 8) (f : Axis → Axis) : (s.setMx n f).dbg = s.dbg := rfl
@[simp] theorem State.setMx_olc (n : Fin 8) (f : Axis → Axis) : (s.setMx n f).olc = s.olc := rfl
@[simp] theorem State.setMx_lp (n : Fin 8) (f : Axis → Axis) : (s.setMx n f).lp = s.lp := rfl
@[simp] theorem State.setMx_cru (n : Fin 8) (f : Axis → Axis) : (s.setMx n f).cru = s.cru := rfl
@[simp] theorem State.setMx_isl (n : Fin 8) (f : Axis → Axis) : (s.setMx n f).isl = s.isl := rfl
@[simp] theorem State.setMx_dio (n : Fin 8) (f : Axis → Axis) : (s.setMx n f).dio = s.dio := rfl
@[simp] theorem State.setMx_aio (n : Fin 8) (f : Axis → Axis) : (s.setMx n f).aio = s.aio := rfl
@[simp] theorem State.setMx_can (n : Fin 8) (f : Axis → Axis) : (s.setMx n f).can = s.can := rfl
@[simp] theorem State.setMx_tm (n : Fin 8) (f : Axis → Axis) : (s.setMx n f).tm = s.tm := rfl
@[simp] theorem State.setMx_pr (n : Fin 8) (f : Axis → Axis) : (s.setMx n f).pr = s.pr := rfl
@[simp] theorem State.setMx_flow (n : Fin 8) (f : Axis → Axis) : (s.setMx n f).flow = s.flow := rfl
@[simp] theorem State.setMx_pnl (n : Fin 8) (f : Axis → Axis) : (s.setMx n f).pnl = s.pnl := rfl
@[simp] theorem State.setMx_sys (n : Fin 8) (f : Axis → Axis) : (s.setMx n f).sys = s.sys := rfl
@[simp] theorem State.setMx_host (n : Fin 8) (f : Axis → Axis) : (s.setMx n f).host = s.host := rfl
@[simp] theorem State.setMx_free (n : Fin 8) (f : Axis → Axis) : (s.setMx n f).free = s.free := rfl
@[simp] theorem State.setMx_pending (n : Fin 8) (f : Axis → Axis) : (s.setMx n f).pending = s.pending := rfl

/-! ### `State.setCan` changes `can` alone -/

@[simp] theorem State.setCan_gro (c : Fin 4) (f : CanCtrl → CanCtrl) : (s.setCan c f).gro = s.gro := rfl
@[simp] theorem State.setCan_pow (c : Fin 4) (f : CanCtrl → CanCtrl) : (s.setCan c f).pow = s.pow := rfl
@[simp] theorem State.setCan_tk (c : Fin 4) (f : CanCtrl → CanCtrl) : (s.setCan c f).tk = s.tk := rfl
@[simp] theorem State.setCan_dbg (c : Fin 4) (f : CanCtrl → CanCtrl) : (s.setCan c f).dbg = s.dbg := rfl
@[simp] theorem State.setCan_olc (c : Fin 4) (f : CanCtrl → CanCtrl) : (s.setCan c f).olc = s.olc := rfl
@[simp] theorem State.setCan_lp (c : Fin 4) (f : CanCtrl → CanCtrl) : (s.setCan c f).lp = s.lp := rfl
@[simp] theorem State.setCan_cru (c : Fin 4) (f : CanCtrl → CanCtrl) : (s.setCan c f).cru = s.cru := rfl
@[simp] theorem State.setCan_isl (c : Fin 4) (f : CanCtrl → CanCtrl) : (s.setCan c f).isl = s.isl := rfl
@[simp] theorem State.setCan_dio (c : Fin 4) (f : CanCtrl → CanCtrl) : (s.setCan c f).dio = s.dio := rfl
@[simp] theorem State.setCan_aio (c : Fin 4) (f : CanCtrl → CanCtrl) : (s.setCan c f).aio = s.aio := rfl
@[simp] theorem State.setCan_mot (c : Fin 4) (f : CanCtrl → CanCtrl) : (s.setCan c f).mot = s.mot := rfl
@[simp] theorem State.setCan_tm (c : Fin 4) (f : CanCtrl → CanCtrl) : (s.setCan c f).tm = s.tm := rfl
@[simp] theorem State.setCan_pr (c : Fin 4) (f : CanCtrl → CanCtrl) : (s.setCan c f).pr = s.pr := rfl
@[simp] theorem State.setCan_flow (c : Fin 4) (f : CanCtrl → CanCtrl) : (s.setCan c f).flow = s.flow := rfl
@[simp] theorem State.setCan_pnl (c : Fin 4) (f : CanCtrl → CanCtrl) : (s.setCan c f).pnl = s.pnl := rfl
@[simp] theorem State.setCan_sys (c : Fin 4) (f : CanCtrl → CanCtrl) : (s.setCan c f).sys = s.sys := rfl
@[simp] theorem State.setCan_host (c : Fin 4) (f : CanCtrl → CanCtrl) : (s.setCan c f).host = s.host := rfl
@[simp] theorem State.setCan_free (c : Fin 4) (f : CanCtrl → CanCtrl) : (s.setCan c f).free = s.free := rfl
@[simp] theorem State.setCan_pending (c : Fin 4) (f : CanCtrl → CanCtrl) : (s.setCan c f).pending = s.pending := rfl

/-! ### `State.setRate` changes `tm` alone -/

@[simp] theorem State.setRate_gro (rate : Int) : (s.setRate rate).gro = s.gro := rfl
@[simp] theorem State.setRate_pow (rate : Int) : (s.setRate rate).pow = s.pow := rfl
@[simp] theorem State.setRate_tk (rate : Int) : (s.setRate rate).tk = s.tk := rfl
@[simp] theorem State.setRate_dbg (rate : Int) : (s.setRate rate).dbg = s.dbg := rfl
@[simp] theorem State.setRate_olc (rate : Int) : (s.setRate rate).olc = s.olc := rfl
@[simp] theorem State.setRate_lp (rate : Int) : (s.setRate rate).lp = s.lp := rfl
@[simp] theorem State.setRate_cru (rate : Int) : (s.setRate rate).cru = s.cru := rfl
@[simp] theorem State.setRate_isl (rate : Int) : (s.setRate rate).isl = s.isl := rfl
@[simp] theorem State.setRate_dio (rate : Int) : (s.setRate rate).dio = s.dio := rfl
@[simp] theorem State.setRate_aio (rate : Int) : (s.setRate rate).aio = s.aio := rfl
@[simp] theorem State.setRate_mot (rate : Int) : (s.setRate rate).mot = s.mot := rfl
@[simp] theorem State.setRate_can (rate : Int) : (s.setRate rate).can = s.can := rfl
@[simp] theorem State.setRate_pr (rate : Int) : (s.setRate rate).pr = s.pr := rfl
@[simp] theorem State.setRate_flow (rate : Int) : (s.setRate rate).flow = s.flow := rfl
@[simp] theorem State.setRate_pnl (rate : Int) : (s.setRate rate).pnl = s.pnl := rfl
@[simp] theorem State.setRate_sys (rate : Int) : (s.setRate rate).sys = s.sys := rfl
@[simp] theorem State.setRate_host (rate : Int) : (s.setRate rate).host = s.host := rfl
@[simp] theorem State.setRate_free (rate : Int) : (s.setRate rate).free = s.free := rfl
@[simp] theorem State.setRate_pending (rate : Int) : (s.setRate rate).pending = s.pending := rfl

/-! ### `State.netCount` changes `tm` alone -/

@[simp] theorem State.netCount_gro (f : NetStat → NetStat) : (s.netCount f).gro = s.gro := rfl
@[simp] theorem State.netCount_pow (f : NetStat → NetStat) : (s.netCount f).pow = s.pow := rfl
@[simp] theorem State.netCount_tk (f : NetStat → NetStat) : (s.netCount f).tk = s.tk := rfl
@[simp] theorem State.netCount_dbg (f : NetStat → NetStat) : (s.netCount f).dbg = s.dbg := rfl
@[simp] theorem State.netCount_olc (f : NetStat → NetStat) : (s.netCount f).olc = s.olc := rfl
@[simp] theorem State.netCount_lp (f : NetStat → NetStat) : (s.netCount f).lp = s.lp := rfl
@[simp] theorem State.netCount_cru (f : NetStat → NetStat) : (s.netCount f).cru = s.cru := rfl
@[simp] theorem State.netCount_isl (f : NetStat → NetStat) : (s.netCount f).isl = s.isl := rfl
@[simp] theorem State.netCount_dio (f : NetStat → NetStat) : (s.netCount f).dio = s.dio := rfl
@[simp] theorem State.netCount_aio (f : NetStat → NetStat) : (s.netCount f).aio = s.aio := rfl
@[simp] theorem State.netCount_mot (f : NetStat → NetStat) : (s.netCount f).mot = s.mot := rfl
@[simp] theorem State.netCount_can (f : NetStat → NetStat) : (s.netCount f).can = s.can := rfl
@[simp] theorem State.netCount_pr (f : NetStat → NetStat) : (s.netCount f).pr = s.pr := rfl
@[simp] theorem State.netCount_flow (f : NetStat → NetStat) : (s.netCount f).flow = s.flow := rfl
@[simp] theorem State.netCount_pnl (f : NetStat → NetStat) : (s.netCount f).pnl = s.pnl := rfl
@[simp] theorem State.netCount_sys (f : NetStat → NetStat) : (s.netCount f).sys = s.sys := rfl
@[simp] theorem State.netCount_host (f : NetStat → NetStat) : (s.netCount f).host = s.host := rfl
@[simp] theorem State.netCount_free (f : NetStat → NetStat) : (s.netCount f).free = s.free := rfl
@[simp] theorem State.netCount_pending (f : NetStat → NetStat) : (s.netCount f).pending = s.pending := rfl

/-! ### `State.pairSend` changes `pr` alone -/

@[simp] theorem State.pairSend_gro (m : PairMsg) : (s.pairSend m).gro = s.gro := rfl
@[simp] theorem State.pairSend_pow (m : PairMsg) : (s.pairSend m).pow = s.pow := rfl
@[simp] theorem State.pairSend_tk (m : PairMsg) : (s.pairSend m).tk = s.tk := rfl
@[simp] theorem State.pairSend_dbg (m : PairMsg) : (s.pairSend m).dbg = s.dbg := rfl
@[simp] theorem State.pairSend_olc (m : PairMsg) : (s.pairSend m).olc = s.olc := rfl
@[simp] theorem State.pairSend_lp (m : PairMsg) : (s.pairSend m).lp = s.lp := rfl
@[simp] theorem State.pairSend_cru (m : PairMsg) : (s.pairSend m).cru = s.cru := rfl
@[simp] theorem State.pairSend_isl (m : PairMsg) : (s.pairSend m).isl = s.isl := rfl
@[simp] theorem State.pairSend_dio (m : PairMsg) : (s.pairSend m).dio = s.dio := rfl
@[simp] theorem State.pairSend_aio (m : PairMsg) : (s.pairSend m).aio = s.aio := rfl
@[simp] theorem State.pairSend_mot (m : PairMsg) : (s.pairSend m).mot = s.mot := rfl
@[simp] theorem State.pairSend_can (m : PairMsg) : (s.pairSend m).can = s.can := rfl
@[simp] theorem State.pairSend_tm (m : PairMsg) : (s.pairSend m).tm = s.tm := rfl
@[simp] theorem State.pairSend_flow (m : PairMsg) : (s.pairSend m).flow = s.flow := rfl
@[simp] theorem State.pairSend_pnl (m : PairMsg) : (s.pairSend m).pnl = s.pnl := rfl
@[simp] theorem State.pairSend_sys (m : PairMsg) : (s.pairSend m).sys = s.sys := rfl
@[simp] theorem State.pairSend_host (m : PairMsg) : (s.pairSend m).host = s.host := rfl
@[simp] theorem State.pairSend_free (m : PairMsg) : (s.pairSend m).free = s.free := rfl
@[simp] theorem State.pairSend_pending (m : PairMsg) : (s.pairSend m).pending = s.pending := rfl

/-! ### `State.receive` changes `host` alone -/

@[simp] theorem State.receive_gro (rq : Request) : (s.receive rq).gro = s.gro := rfl
@[simp] theorem State.receive_pow (rq : Request) : (s.receive rq).pow = s.pow := rfl
@[simp] theorem State.receive_tk (rq : Request) : (s.receive rq).tk = s.tk := rfl
@[simp] theorem State.receive_dbg (rq : Request) : (s.receive rq).dbg = s.dbg := rfl
@[simp] theorem State.receive_olc (rq : Request) : (s.receive rq).olc = s.olc := rfl
@[simp] theorem State.receive_lp (rq : Request) : (s.receive rq).lp = s.lp := rfl
@[simp] theorem State.receive_cru (rq : Request) : (s.receive rq).cru = s.cru := rfl
@[simp] theorem State.receive_isl (rq : Request) : (s.receive rq).isl = s.isl := rfl
@[simp] theorem State.receive_dio (rq : Request) : (s.receive rq).dio = s.dio := rfl
@[simp] theorem State.receive_aio (rq : Request) : (s.receive rq).aio = s.aio := rfl
@[simp] theorem State.receive_mot (rq : Request) : (s.receive rq).mot = s.mot := rfl
@[simp] theorem State.receive_can (rq : Request) : (s.receive rq).can = s.can := rfl
@[simp] theorem State.receive_tm (rq : Request) : (s.receive rq).tm = s.tm := rfl
@[simp] theorem State.receive_pr (rq : Request) : (s.receive rq).pr = s.pr := rfl
@[simp] theorem State.receive_flow (rq : Request) : (s.receive rq).flow = s.flow := rfl
@[simp] theorem State.receive_pnl (rq : Request) : (s.receive rq).pnl = s.pnl := rfl
@[simp] theorem State.receive_sys (rq : Request) : (s.receive rq).sys = s.sys := rfl
@[simp] theorem State.receive_free (rq : Request) : (s.receive rq).free = s.free := rfl
@[simp] theorem State.receive_pending (rq : Request) : (s.receive rq).pending = s.pending := rfl

/-! ### `State.raise` changes `host` alone -/

@[simp] theorem State.raise_gro (bits : BitVec 32) : (s.raise bits).gro = s.gro := rfl
@[simp] theorem State.raise_pow (bits : BitVec 32) : (s.raise bits).pow = s.pow := rfl
@[simp] theorem State.raise_tk (bits : BitVec 32) : (s.raise bits).tk = s.tk := rfl
@[simp] theorem State.raise_dbg (bits : BitVec 32) : (s.raise bits).dbg = s.dbg := rfl
@[simp] theorem State.raise_olc (bits : BitVec 32) : (s.raise bits).olc = s.olc := rfl
@[simp] theorem State.raise_lp (bits : BitVec 32) : (s.raise bits).lp = s.lp := rfl
@[simp] theorem State.raise_cru (bits : BitVec 32) : (s.raise bits).cru = s.cru := rfl
@[simp] theorem State.raise_isl (bits : BitVec 32) : (s.raise bits).isl = s.isl := rfl
@[simp] theorem State.raise_dio (bits : BitVec 32) : (s.raise bits).dio = s.dio := rfl
@[simp] theorem State.raise_aio (bits : BitVec 32) : (s.raise bits).aio = s.aio := rfl
@[simp] theorem State.raise_mot (bits : BitVec 32) : (s.raise bits).mot = s.mot := rfl
@[simp] theorem State.raise_can (bits : BitVec 32) : (s.raise bits).can = s.can := rfl
@[simp] theorem State.raise_tm (bits : BitVec 32) : (s.raise bits).tm = s.tm := rfl
@[simp] theorem State.raise_pr (bits : BitVec 32) : (s.raise bits).pr = s.pr := rfl
@[simp] theorem State.raise_flow (bits : BitVec 32) : (s.raise bits).flow = s.flow := rfl
@[simp] theorem State.raise_pnl (bits : BitVec 32) : (s.raise bits).pnl = s.pnl := rfl
@[simp] theorem State.raise_sys (bits : BitVec 32) : (s.raise bits).sys = s.sys := rfl
@[simp] theorem State.raise_free (bits : BitVec 32) : (s.raise bits).free = s.free := rfl
@[simp] theorem State.raise_pending (bits : BitVec 32) : (s.raise bits).pending = s.pending := rfl

/-! ### `State.clearRunEn` changes `host` alone -/

@[simp] theorem State.clearRunEn_gro : (s.clearRunEn).gro = s.gro := rfl
@[simp] theorem State.clearRunEn_pow : (s.clearRunEn).pow = s.pow := rfl
@[simp] theorem State.clearRunEn_tk : (s.clearRunEn).tk = s.tk := rfl
@[simp] theorem State.clearRunEn_dbg : (s.clearRunEn).dbg = s.dbg := rfl
@[simp] theorem State.clearRunEn_olc : (s.clearRunEn).olc = s.olc := rfl
@[simp] theorem State.clearRunEn_lp : (s.clearRunEn).lp = s.lp := rfl
@[simp] theorem State.clearRunEn_cru : (s.clearRunEn).cru = s.cru := rfl
@[simp] theorem State.clearRunEn_isl : (s.clearRunEn).isl = s.isl := rfl
@[simp] theorem State.clearRunEn_dio : (s.clearRunEn).dio = s.dio := rfl
@[simp] theorem State.clearRunEn_aio : (s.clearRunEn).aio = s.aio := rfl
@[simp] theorem State.clearRunEn_mot : (s.clearRunEn).mot = s.mot := rfl
@[simp] theorem State.clearRunEn_can : (s.clearRunEn).can = s.can := rfl
@[simp] theorem State.clearRunEn_tm : (s.clearRunEn).tm = s.tm := rfl
@[simp] theorem State.clearRunEn_pr : (s.clearRunEn).pr = s.pr := rfl
@[simp] theorem State.clearRunEn_flow : (s.clearRunEn).flow = s.flow := rfl
@[simp] theorem State.clearRunEn_pnl : (s.clearRunEn).pnl = s.pnl := rfl
@[simp] theorem State.clearRunEn_sys : (s.clearRunEn).sys = s.sys := rfl
@[simp] theorem State.clearRunEn_free : (s.clearRunEn).free = s.free := rfl
@[simp] theorem State.clearRunEn_pending : (s.clearRunEn).pending = s.pending := rfl

/-! ### What a changed part reads -/

/-- A chamber that was written. -/
@[simp] theorem State.mem_setMem (c : Fin 11) (m : Memory) : (s.setMem c m).gro.mem.get c = m := put_get_same ..
/-- Another chamber. -/
theorem State.mem_setMem_ne {c d : Fin 11} (m : Memory) (h : d ≠ c) : (s.setMem c m).gro.mem.get d = s.gro.mem.get d := put_get_ne _ _ h
/-- A task that was changed. -/
@[simp] theorem State.task_setTask (t : Fin 128) (f : Task → Task) : (s.setTask t f).task t = f (s.task t) := upd_get_same ..
/-- Another task. -/
theorem State.task_setTask_ne {t u : Fin 128} (f : Task → Task) (h : u ≠ t) : (s.setTask t f).task u = s.task u := upd_get_ne _ _ h
/-- A task after a part outside the tasks changed. -/
@[simp] theorem State.task_setMem (c : Fin 11) (m : Memory) (t : Fin 128) : (s.setMem c m).task t = s.task t := rfl
/-- A lane that was changed. -/
@[simp] theorem State.lane_setLane (l : Fin 4) (f : LaneStat → LaneStat) : (s.setLane l f).lane l = f (s.lane l) :=
  congrArg Lane.stat (upd_get_same ..)
/-- A Crucible slot that was changed. -/
@[simp] theorem State.slot_setCs (n : Fin 16) (f : Slot → Slot) : (s.setCs n f).cru.slot.get n = f (s.cru.slot.get n) := upd_get_same ..
/-- A loop that was written. -/
@[simp] theorem State.loop_setLoop (n : Fin 256) (l : Loop) : (s.setLoop n l).lp.loop.get n = l := put_get_same ..
/-- A link that was changed. -/
@[simp] theorem State.link_setLink (n : Fin 4) (f : Link → Link) : (s.setLink n f).dio.link.get n = f (s.dio.link.get n) := upd_get_same ..
/-- An analogue channel that was changed. -/
@[simp] theorem State.aio_setAio (c : Fin 16) (f : Aio → Aio) : (s.setAio c f).aio.get c = f (s.aio.get c) := upd_get_same ..
/-- A CAN controller that was changed. -/
@[simp] theorem State.ctrl_setCan (c : Fin 4) (f : CanCtrl → CanCtrl) : (s.setCan c f).can.ctrl.get c = f (s.can.ctrl.get c) := upd_get_same ..

/-! ### What the arrival of a request leaves of its session -/

/-- A session keeps its role when a request arrives. -/
@[simp] theorem State.receive_role (rq : Request) (k : Fin 17) : ((s.receive rq).host.session.get k).role = (s.host.session.get k).role := by
  by_cases h : k = rq.session
  · subst h; simp [State.receive]
  · simp only [State.receive]; rw [upd_get_ne _ _ h]
/-- The role that a request brings is as before it arrived. -/
@[simp] theorem State.receive_roleOf (rq q : Request) : (s.receive rq).roleOf q = s.roleOf q := congrArg Fin.val (s.receive_role rq q.session)
/-- So is whether its session has the safety role. -/
@[simp] theorem State.receive_safetyRole (rq : Request) (k : Fin 17) : (s.receive rq).safetyRole k = s.safetyRole k := by
  simp [State.safetyRole]
/-- And which forces it may release. -/
@[simp] theorem State.receive_mayRelease (rq : Request) (k : Fin 17) : (s.receive rq).mayRelease k = s.mayRelease k := by
  funext f; simp [State.mayRelease]

end Sys2Proof.Machine
end

