-- ==== Sys2Proof/Machine/Flags.lean ====
section
/-! DEFINITION. What the module shows outside: the register block and the mailboxes as they read through the window (R461, R462), the
interrupt, the status LED and the contacts whose level follows from the state (R297, R456, R460, R464, R487). -/

namespace Sys2Proof.Machine

/-! ### The register block (R462) -/

/-- A firmware status bit stands at its default until the firmware has loaded what it shows. -/
def State.romRecovery (s : State) : Bool := s.sys.phase == .recovery

/-- MB_STATE: the eight mailbox states, four bits each (R462, R467). -/
def HostPort.mbStates (h : HostPort) : Nat := pack (h.mb.toList.map fun m => (4, m.state.num))

/-- A bit of HPW_IRQ_STATUS as 0 or 1. -/
def HostPort.irqBit (h : HostPort) (k : Nat) : Nat := bit (h.irqStatus.getLsbD k)

/-- The 32 bytes of the register block (R462). (log 160) -/
def State.registers (s : State) : List Byte :=
  let h := s.host
  HpwRegs.dflt.toBytes (STATION_ADDR := s.sys.straps.addr.toNat) (PAIR_POS := bit s.sys.straps.pairPos) (MODE := s.sys.mode.num)
    (ROLE := s.pr.role.num) (HEAT := s.pow.heat.num) (ENERGY := s.pow.energy.num) (CONFIGURED := bit s.sys.configured)
    (FORCES_ACTIVE := bit !s.olc.forces.isEmpty) (TIME_VALID := bit s.tm.timeValid) (ROM_RECOVERY := bit s.romRecovery)
    (ALIVE := h.alive.toNat) (RUN_EN := bit h.runEn) (MB_STATE := h.mbStates) (MB_DONE := h.irqStatus.toNat % 256)
    (MODE_CHANGE := h.irqBit 10) (REASON := h.irqBit 11) (TIME_EVENT := h.irqBit 12) (ROLE_CHANGE := h.irqBit 13)
    (FLOW_ALARM := h.irqBit 14) (DB_ERROR := h.irqBit 15) (MASK := h.irqMask.toNat) (CODE := h.reasonCode.toNat)
    (SOURCE := h.reasonSource.toNat)

/-- A read of the window (R461): the registers as aligned 32-bit words and no other way, the mailboxes in any width, and 0 elsewhere. What a
BUSY mailbox reads as is not guaranteed (R467): free values. -/
def State.readWindow (s : State) (off len : Nat) : List Byte :=
  if off < 0x20 then (if len = 4 && off % 4 = 0 then (s.registers.drop off).take 4 else List.replicate len 0#8)
  else if h : 0x8000 ≤ off ∧ off < 0x10000 then 
    let m := s.host.mb.get ⟨(off - 0x8000) / 0x1000, by omega⟩
    if m.state = .busy then (List.range len).map fun k => Config.busyByte s.free (off + k) else m.data.read (off % 0x1000) len
  else List.replicate len 0#8

/-- INTA: asserted while the masked status is not zero (R464). -/
def State.inta (s : State) : Bool := s.host.irqPending

/-! ### The status LED (R487) -/

/-- On for the first `on` ms of every `period` ms. (log 166) -/
def State.blink (s : State) (on period : Nat) : Bool := s.now % ms period < ms on

/-- The pattern of the mode and role, none where the LED is off (R487). (log 166) -/
def State.ledPattern (s : State) : Option Bool :=
  match s.sys.phase with
  | .off | .held | .rom => none
  | .recovery | .firmware => some (s.blink 100 200)
  | .serving =>
    match s.sys.mode with
    | .off | .boot => none
    | .minimal => some (s.blink 100 1000)
    | .stop => some (s.blink 500 1000)
    | .halt => some (s.blink 50 100)
    | .run =>
      match s.pr.role with
      | .standby => some (s.blink 900 1000)
      | .syncing => some (s.blink 250 500)
      | .quarantined => some (s.blink 1000 2000)
      | .none | .alone | .active => some true

/-- The double flash of standing forces, from each even second of the local clock (R149, R487). -/
def State.ledFlash (s : State) : Bool :=
  let t := s.ts.toNat % 2000000000
  !s.olc.forces.isEmpty && s.sys.mode != .halt && (t < 100000000 || (200000000 ≤ t && t < 300000000))

/-- STAT_LED is on (R487). (log 166) -/
def State.led (s : State) : Bool :=
  match s.ledPattern with
  | none => false
  | some on => on != s.ledFlash

/-! ### Contacts -/

/-- MXn_EN is active (R297): in RUN on the module that drives outputs, for an enabled axis, also while T8 is killed unless KILL_EN_OFF
is set. -/
def State.enActive (s : State) (n : Fin 8) : Bool :=
  let x := s.mot.axis.get n
  s.inRun && s.owner && x.en && !(s.isl.killed.get 8 && x.desc.KILL_EN_OFF == 1#1)

/-- PHY_RST is held low for 10 ms from each start of the network unit (R341). -/
def State.phyRstLow (s : State) : Bool :=
  match s.tm.netAt with
  | some t => !s.since t (ms 10)
  | none => true

end Sys2Proof.Machine
end

