-- ==== Sys2Proof/Tests/Slice0.lean ====
section
/-! SUPPORT. Tests: ill-formed commands that are refused, small steps against worked examples of the spec, and for every statement
a state and operands that meet its hypotheses. -/

namespace Sys2Proof.Tests

open Sys2Proof Sys2Proof.Machine

set_option Elab.async false

/-! ### Helpers -/

/-- A state that serves commands in a mode. -/
def base (m : Mode) : State :=
  { State.reset with sys.mode := m, sys.phase := .serving, pow.pfStage := .idle,
                     host.session := State.reset.host.session.map fun x => { x with open_ := true, role := 3 } }

/-- A request of the host port with a payload. -/
def req (payload : List Byte) : Request := ⟨0, some 0, 0x1234#16, payload, 0⟩

/-- A chamber descriptor of LOOP with a CE_LIMIT. -/
def okChamber : ChamberDesc := { ChamberDesc.dflt with CHAMBER_ID := 10#8, CE_LIMIT := 65535#16 }
/-- Witnesses of GrottoCommandsAnswer. -/
theorem witness_GrottoCommandsAnswer :
    ((base .stop).Accepts Cmd.cfgChamberSet (req okChamber.toBytes) ∧
      (ChamberDesc.ofBytes (req okChamber.toBytes).payload).CHAMBER_ID.toNat = (10 : Fin 11).val ∧
      (ChamberDesc.ofBytes (req okChamber.toBytes).payload).CE_LIMIT ≠ 0) ∧
    ((base .run).Accepts Cmd.cfgChamberGet (req [10#8]) ∧ (req [10#8]).u8 0 = (10 : Fin 11).val) ∧
    (base .run).Accepts Cmd.diagGrottoStatus (req []) ∧ (base .run).Accepts Cmd.diagGrottoClear (req []) :=
  ⟨⟨⟨by decide +kernel, by decide +kernel⟩, by decide +kernel, by decide +kernel⟩, ⟨⟨by decide +kernel, by decide +kernel⟩, by decide +kernel⟩,
   ⟨by decide +kernel, by decide +kernel⟩, ⟨by decide +kernel, by decide +kernel⟩⟩

/-- A write of one line by lane 0 to TASK. -/
def laneWrite : PortReq := ⟨1, 0, 1, some (List.replicate 64 7#8), some 0, .clean⟩
/-- A module in RUN whose TASK chamber has its quota in force. -/
def withQuota : State := { base .run with gro.act := upd (base .run).gro.act 1 fun d => { d with QUOTA_KIB := 1024#32 } }
/-- Witness of PortWriteReachesItsChamber. -/
theorem witness_PortWriteReachesItsChamber :
    withQuota.fabricUp = true ∧ (∀ q, withQuota.gro.waiting.get q = []) ∧ withQuota.gro.backpressure = false ∧
    (0 : Fin 14) ∈ classPorts.get 1 ∧ withQuota.permits 0 laneWrite = true ∧ laneWrite.write = some (List.replicate 64 7#8) ∧
    laneWrite.chamber ∉ ([0, 2, 8, 10] : List (Fin 11)) ∧ laneWrite.ecc = .clean ∧ withQuota.foundBlock laneWrite = none := by
  decide +kernel

/-- Witnesses of GrottoEventsComplete: a buffered write, a pass of one chamber at its first block, and a pass an hour behind. -/
theorem witness_GrottoEventsComplete :
    (∃ s : State, s.sys.phase ≠ .off ∧ s.gro.backpressure = false ∧ s.gro.wbuf = [WbEntry.mk .retain 32 (List.replicate 32 1#8)]) ∧
    (∃ s : State, s.sys.phase = .serving ∧ s.waitingCount = 0 ∧ s.gro.scrubPass.get (tier false) = [1] ∧
      s.gro.scrubPos.get (tier false) + 1 < s.passBlocks false 1) ∧
    ∃ s : State, s.sys.phase = .serving ∧ s.passBehind false 9 = true :=
  ⟨⟨{ base .run with gro.wbuf := [WbEntry.mk .retain 32 (List.replicate 32 1#8)] }, by decide +kernel⟩,
   ⟨{ withQuota with gro.scrubPass := put withQuota.gro.scrubPass (tier false) [1], gro.scrubPos := put withQuota.gro.scrubPos (tier false) 0 }, by decide +kernel⟩,
   { withQuota with gro.scrubPass := put withQuota.gro.scrubPass (tier false) (withQuota.passOrder false), gro.scrubPos := put withQuota.gro.scrubPos (tier false) 0,
                    gro.scrubAt := put withQuota.gro.scrubAt (tier false) (some 0), tm.c := sec 3600 }, by decide +kernel⟩

/-- Witnesses of ChamberDescriptorsAreLockedAndChecked. -/
theorem witness_ChamberDescriptorsAreLockedAndChecked :
    ((base .run).serves 0 = true ∧ (req okChamber.toBytes).payload.length = 16 ∧ (base .run).sys.mode ≠ .stop) ∧
    ((base .stop).Accepts Cmd.cfgChamberSet (req okChamber.toBytes) ∧ ((ChamberDesc.ofBytes okChamber.toBytes).CHAMBER_ID.toNat = 10 ∧
      (ChamberDesc.ofBytes okChamber.toBytes).CE_LIMIT ≠ 0#16)) ∧
    ((base .stop).Accepts Cmd.cfgChamberSet (req { okChamber with CHAMBER_ID := 11#8 }.toBytes) ∧
      10 < (ChamberDesc.ofBytes { okChamber with CHAMBER_ID := 11#8 }.toBytes).CHAMBER_ID.toNat) ∧
    ((base .stop).Accepts Cmd.cfgChamberSet (req { okChamber with CE_LIMIT := 0#16 }.toBytes) ∧
      (ChamberDesc.ofBytes { okChamber with CE_LIMIT := 0#16 }.toBytes).CE_LIMIT = 0#16) ∧
    ((base .minimal).Accepts Cmd.cfgChamberGet (req [11]) ∧ 10 < (req [11]).u8 0) := by
  refine ⟨⟨?_, ?_, ?_⟩, ⟨⟨?_, ?_⟩, ?_⟩, ⟨⟨?_, ?_⟩, ?_⟩, ⟨⟨?_, ?_⟩, ?_⟩, ⟨⟨?_, ?_⟩, ?_⟩⟩ <;> decide +kernel

/-- Witnesses of PowerCommandsAnswer: each command accepted, a descriptor in range and one out of it. -/
theorem witness_PowerCommandsAnswer :
    ((base .stop).Accepts Cmd.cfgPowerSet (req PowerDesc.dflt.toBytes) ∧ (PowerDesc.ofBytes PowerDesc.dflt.toBytes).inRange = true) ∧
    ((base .stop).Accepts Cmd.cfgPowerSet (req (3 :: PowerDesc.dflt.toBytes.drop 1)) ∧
      (PowerDesc.ofBytes (3 :: PowerDesc.dflt.toBytes.drop 1)).inRange = false) ∧
    (base .run).Accepts Cmd.cfgPowerGet (req []) ∧ (base .run).Accepts Cmd.diagPowerStatus (req []) ∧
    (base .run).Accepts Cmd.diagPowerClear (req []) :=
  ⟨⟨⟨by decide +kernel, by decide +kernel⟩, by decide +kernel⟩, ⟨⟨by decide +kernel, by decide +kernel⟩, by decide +kernel⟩, ⟨by decide +kernel, by decide +kernel⟩, ⟨by decide +kernel, by decide +kernel⟩, ⟨by decide +kernel, by decide +kernel⟩⟩

/-- A module in RUN with one valid VIN reading. -/
def atVin (e : Energy) (mv : BitVec 16) : State :=
  { base .run with pow := { Power.init with vinUnknown := false, vinIlk0 := some mv, energy := e, e2Since := some 0, e2OkSince := some 0, e1OkSince := some 0 },
                   tm.c := sec 1 }
/-- Witnesses of EnergyLevelsMove, at the edges of the ranges. -/
theorem witness_EnergyLevelsMove :
    ((atVin .e0 15000#16).powered = true ∧ (atVin .e0 15000#16).pow.pfStage = .idle ∧ (atVin .e0 15000#16).pow.energy = .e0 ∧
      15000 ≤ (atVin .e0 15000#16).pow.vin ∧ (atVin .e0 16999#16).pow.vin < 17000) ∧
    (12000 ≤ (atVin .e1 12000#16).pow.vin ∧ (atVin .e1 14999#16).pow.vin < 15000) ∧
    ((atVin .e2 11999#16).pow.energy ≠ .e3 ∧ (atVin .e2 11999#16).pow.vin < 12000) ∧
    (atVin .e2 0#16).ran (atVin .e2 0#16).pow.e2Since (ms 10) = true ∧ (atVin .e2 0#16).ran (atVin .e2 0#16).pow.e2OkSince (ms 1) = true ∧
    (atVin .e1 0#16).ran (atVin .e1 0#16).pow.e1OkSince (ms 100) = true ∧
    ((atVin .e0 0#16).pow.budgetStale = false ∧ (atVin .e0 0#16).pow.publishAt + us 300 < (atVin .e0 0#16).now) := by
  decide +kernel

/-- Witnesses of PowerFailSequenceRuns. -/
theorem witness_PowerFailSequenceRuns :
    (∃ s : State, s.pow.pfStage = .stage1) ∧ (∃ s : State, s.pow.pfStage = .stage2) ∧ (∃ s : State, s.pow.pfStage = .wait) ∧
    ((base .run).sys.phase = .serving ∧ (base .run).sys.mode ≠ .halt) ∧
    ∃ s : State, s.sys.phase = .firmware ∧ s.sys.mode ≠ .halt ∧ s.ran s.pow.die125Since (ms 1) = true :=
  ⟨⟨{ base .run with pow.pfStage := .stage1 }, rfl⟩, ⟨{ base .run with pow.pfStage := .stage2 }, rfl⟩,
   ⟨{ base .run with pow.pfStage := .wait }, rfl⟩, by decide +kernel,
   { base .boot with sys.phase := .firmware, tm.c := ms 1, pow.die125Since := some 0 }, by decide +kernel⟩

/-- Witnesses of SupplyEventsComplete. -/
theorem witness_SupplyEventsComplete :
    ((atVin .e0 15999#16).powered = true ∧ (atVin .e0 15999#16).pow.pfWarn = false ∧ (atVin .e0 15999#16).pow.vin < 16000) ∧
    (∃ s : State, s.powered = true ∧ s.pow.pfWarn = true ∧ 16500 ≤ s.pow.vin) ∧
    (∃ s : State, s.powered = true ∧ s.pow.feedLost.get 1 = false ∧ s.ran (s.pow.feedLowSince.get 1) (ms s.pow.act.FEED_LOSS_MS.toNat) = true) ∧
    (∃ s : State, s.powered = true ∧ s.pow.vinHigh = false ∧ s.ran s.pow.vinHighSince (ms 10) = true) ∧
    (∃ s : State, s.powered = true ∧ s.pow.vinHigh = true ∧ s.ran s.pow.vinHighOkSince (ms 100) = true) ∧
    ((base .run).linkSilent 0 = true ∧ (base .run).linkSilent 2 = true) :=
  ⟨by decide +kernel, ⟨{ atVin .e0 16500#16 with pow.pfWarn := true }, by decide +kernel⟩,
   ⟨{ atVin .e0 24000#16 with pow.feedLowSince := #v[none, some 0] }, by decide +kernel⟩,
   ⟨{ atVin .e0 33000#16 with pow.vinHighSince := some 0 }, by decide +kernel⟩,
   ⟨{ atVin .e0 24000#16 with pow.vinHigh := true, pow.vinHighOkSince := some 0 }, by decide +kernel⟩, by decide +kernel⟩

/-- Sensors that all read 40 °C. -/
def warm : Vector (List (BitVec 16)) 6 := Vector.replicate 6 [640#16]
/-- Witnesses of HeatLevelsPublish. -/
theorem witness_HeatLevelsPublish :
    (((base .run).pow.take ⟨Vector.replicate 6 640#16, 24000#16, 24000#16, 0#16⟩ 0).raiseHeat 0).heatFloor = 0 ∧
    ∃ s : State, 0 < s.pow.heat.num ∧ s.pow.heatExit s.pow.heat.num = true ∧ s.ran s.pow.heatOkSince (sec 1) = true :=
  ⟨by decide +kernel, { base .run with tm.c := sec 1, pow := { Power.init with heat := .h2, temps := warm, heatOkSince := some 0 } }, by decide +kernel⟩

/-- A TASK_ID payload and an in-range descriptor. -/
def okTask : TaskDesc := { TaskDesc.dflt with TASK_ID := 127#8, KIND := 1#8 }
/-- A task at fault. -/
def faulted : State := { base .run with tk.task := upd (base .run).tk.task 127 fun k => { k with desc := okTask, stat := { k.stat with FAULT := 1#1 } } }
/-- A station with a descriptor. -/
def withRemote : State := { base .run with tk.remotes := [{ Remote.init with desc := { RemoteDesc.dflt with STATION_ADDR := 1023#16 } }] }
/-- Witnesses of TaskCommandsAnswer. -/
theorem witness_TaskCommandsAnswer :
    ((base .stop).Accepts Cmd.prgTaskSet (req okTask.toBytes) ∧ (TaskDesc.ofBytes okTask.toBytes).TASK_ID.toNat = (127 : Fin 128).val ∧
      (TaskDesc.ofBytes okTask.toBytes).inRange = true) ∧
    ((base .stop).Accepts Cmd.prgTaskSet (req (TaskDesc.toBytes { okTask with PRIORITY := 32#8 })) ∧
      (TaskDesc.ofBytes (TaskDesc.toBytes { okTask with PRIORITY := 32#8 })).inRange = false) ∧
    ((base .run).Accepts Cmd.prgTaskGet (req [127#8]) ∧ (req [127#8]).u8 0 = (127 : Fin 128).val) ∧ (base .run).Accepts Cmd.prgTaskStatus (req [127#8]) ∧
    (faulted.Accepts Cmd.prgTaskResume (req [127#8]) ∧ (faulted.tk.task.get 127).stat.FAULT = 1#1 ∧ (faulted.tk.task.get 127).desc.KIND = 1#8) ∧
    ((base .run).Accepts Cmd.prgTaskResume (req [0#8]) ∧ ((base .run).tk.task.get 0).stat.FAULT = 0#1) ∧
    ((base .run).Accepts Cmd.prgTaskClear (req [255#8]) ∧ (req [255#8]).u8 0 = 255) ∧
    ((base .stop).Accepts Cmd.prgRemoteSet (req RemoteDesc.dflt.toBytes) ∧ (RemoteDesc.ofBytes RemoteDesc.dflt.toBytes).inRange = true ∧
      (remotePut (base .stop).tk.remotes (RemoteDesc.ofBytes RemoteDesc.dflt.toBytes)).length ≤ 256) ∧
    (withRemote.Accepts Cmd.prgRemoteStatus (req [0xFF#8, 3#8]) ∧ (req [0xFF#8, 3#8]).u16 0 ≤ 1023 ∧
      (withRemote.tk.remotes.find? fun r => r.desc.STATION_ADDR.toNat == (req [0xFF#8, 3#8]).u16 0) ≠ none) := by
  refine ⟨⟨⟨by decide +kernel, by decide +kernel⟩, by decide +kernel, by decide +kernel⟩, ⟨⟨by decide +kernel, by decide +kernel⟩, by decide +kernel⟩, ⟨⟨by decide +kernel, by decide +kernel⟩, by decide +kernel⟩,
    ⟨by decide +kernel, by decide +kernel⟩, ⟨⟨by decide +kernel, by decide +kernel⟩, by decide +kernel, by decide +kernel⟩, ⟨⟨by decide +kernel, by decide +kernel⟩, by decide +kernel⟩,
    ⟨⟨by decide +kernel, by decide +kernel⟩, by decide +kernel⟩, ⟨⟨by decide +kernel, by decide +kernel⟩, by decide +kernel, by decide +kernel⟩, ⟨by decide +kernel, by decide +kernel⟩, by decide +kernel, by decide +kernel⟩

/-- A module in RUN with its task 5 as given. -/
def withTask (f : Task → Task) : State := { base .run with tk.task := upd (base .run).tk.task 5 f }
/-- A run that leaves nothing. -/
def noRun : TaskRun := ⟨[], [], [], [], [], 0#32, none, 0, (0, 0), [], [], []⟩
/-- A cyclic task of lowest priority. -/
def cyclic (k : Task) : Task := { k with desc := { TaskDesc.dflt with TASK_ID := 5#8, KIND := 1#8, PRIORITY := 31#8 } }
/-- Witnesses of BoundaryRunsCommitsThenLatches: a due task, a finished cycle, an unfinished one, a task held. -/
theorem witness_BoundaryRunsCommitsThenLatches :
    (withTask cyclic).dueTasks = [5] ∧
    (∃ s : State, s.hasTask 5 = true ∧ s.midCycle 5 = false ∧ (s.tk.task.get 5).stat.FAULT = 0#1 ∧ (s.tk.task.get 5).stat.DEBUG_HALT = 0#1 ∧
      (s.tk.task.get 5).cycleOpen = true ∧ (s.tk.task.get 5).heldCycle = false ∧ (s.tk.task.get 5).restoreAt = none ∧
      (s.tk.task.get 5).finished = some noRun ∧ (s.tk.task.get 5).bufHeld = false) ∧
    (∃ s : State, s.hasTask 5 = true ∧ s.midCycle 5 = false ∧ (s.tk.task.get 5).stat.FAULT = 0#1 ∧ (s.tk.task.get 5).stat.DEBUG_HALT = 0#1 ∧
      (s.tk.task.get 5).cycleOpen = true ∧ (s.tk.task.get 5).heldCycle = false ∧ (s.tk.task.get 5).restoreAt = none ∧
      (s.tk.task.get 5).finished = none ∧ (s.tk.task.get 5).abandons = false) ∧
    (∃ s : State, s.hasTask 5 = true ∧ s.pr.swapping = false ∧ s.pr.yielding = false ∧ (s.tk.task.get 5).stat.DEBUG_HALT = 0#1 ∧
      (s.tk.task.get 5).cycleOpen = false ∧ (s.tk.task.get 5).stat.FAULT = 0#1 ∧ (s.effectOn 5).holds = true) :=
  ⟨by decide +kernel,
   ⟨withTask fun k => { cyclic k with cycleOpen := true, finished := some noRun }, by decide +kernel⟩,
   ⟨withTask fun k => { cyclic k with cycleOpen := true }, by decide +kernel⟩,
   { withTask cyclic with pow := { Power.init with budgetStale := true, pfStage := .idle } }, by decide +kernel⟩

/-- An event task that no level of the ladder holds. -/
def evt (k : Task) : Task := { k with desc := { TaskDesc.dflt with TASK_ID := 5#8, KIND := 2#8, PRIORITY := 0#8, OVERRUN_LIMIT := 255#8 } }
/-- A station PRESENT with one value imported from it. -/
def heard : State :=
  { base .run with
    tk := { (base .run).tk with
      remotes := [{ Remote.init with desc := { RemoteDesc.dflt with STATION_ADDR := 40#16 }, state := .present }]
      prog := { ProgInfo.empty with imports := [⟨40#16, 3#16, 0x1000, 4⟩] } }
    tm := { (base .run).tm with c := sec 2, baseTs := 10000000000#64 } }
/-- Witnesses of EventTaskTimersComplete. -/
theorem witness_EventTaskTimersComplete :
    (∃ s : State, (s.tk.task.get 5).bufHeld = true ∧ (s.tk.task.get 5).bufFreeAt ≤ s.now ∧ s.hasTask 5 = true) ∧
    (∃ s : State, s.hasTask 5 = true ∧ (s.tk.task.get 5).desc.KIND = 2#8 ∧ (s.tk.task.get 5).begun = true ∧ (s.tk.task.get 5).stat.OVERRUN = 0#1 ∧
      (s.tk.task.get 5).stat.DEBUG_HALT = 0#1 ∧ s.since (s.tk.task.get 5).startAt (us (s.tk.task.get 5).desc.EVT_LIMIT_US.toNat) = true ∧
      (s.tk.task.get 5).abandons = false ∧ (s.tk.task.get 5).consecOvr + 1 < (s.tk.task.get 5).desc.OVERRUN_LIMIT.toNat) ∧
    (∃ s : State, (s.tk.task.get 5).gapUntil = some s.now ∧ s.hasTask 5 = true ∧ (s.tk.task.get 5).trigger.isSome = true ∧
      (s.tk.task.get 5).run = .idle ∧ (s.tk.task.get 5).cycleOpen = false ∧ (s.effectOn 5).holds = false ∧ (s.tk.task.get 5).gapEnd ≤ s.now) ∧
    ((heard.tk.remotes.find? fun r => r.desc.STATION_ADDR == 40#16).any (fun r => r.state != .absent && heard.since r.lastRx (us r.desc.absentUs)) = true) ∧
    ((heard.importsOf 40#16).any (fun i => i.object == 3#16 && decide ((heard.writtenAt i.off).toNat + 2000 * 0 < heard.ts.toNat)) = true ∧
      (heard.importsOf 40#16).length = 1) ∧
    (heard.inRun = true ∧ heard.pr.role ≠ .quarantined) ∧
    ∃ s : State, s.firmwareUp = true ∧
      (State.remoteFor (State.heardOwner (State.notePresence s 40#16) 40#16 true 7#64) 40#16).any (fun r => r.state == .absent) = true ∧ s.tm.msgQueue = [] :=
  ⟨⟨withTask fun k => { evt k with bufHeld := true }, by decide +kernel⟩,
   ⟨{ (withTask fun k => { evt k with cycleOpen := true, started := true }) with tm := { (base .run).tm with c := sec 20 } }, by decide +kernel⟩,
   ⟨withTask fun k => { evt k with trigger := some 0, gapUntil := some 0 }, by decide +kernel⟩,
   by decide +kernel, by decide +kernel, by decide +kernel,
   { heard with tk := { heard.tk with remotes := heard.tk.remotes.map fun r => { r with state := .absent } } }, by decide +kernel⟩

/-- A module with the lane 3 split. -/
def splitLane (m : Mode) : State := { base m with dbg := { (base m).dbg with lane := upd (base m).dbg.lane 3 fun x => { x with stat := { x.stat with SPLIT := 1#1 } } } }
/-- A module whose budget record is not stale, so that a lane may be split. -/
def cool (m : Mode) : State := { base m with pow := { Power.init with budgetStale := false, pfStage := .idle } }
/-- A module with a safety-class task 5. -/
def safetyTask : State := withTask fun k => { k with desc := { TaskDesc.dflt with KIND := 1#8, SAFETY := 1#1 } }
/-- Witnesses of LaneCommandsAnswer. -/
theorem witness_LaneCommandsAnswer :
    ((cool .stop).Accepts Cmd.prgLaneSplit (req [3#8]) ∧ (req [3#8]).u8 0 = (3 : Fin 4).val ∧ ((cool .stop).lane 3).LANE_FAULT = 0#1 ∧
      ((cool .stop).lane 3).SPLIT = 0#1 ∧ ((cool .stop).lane 3).SPLIT_PENDING = 0#1 ∧ (cool .stop).splitRefusal 3 = none) ∧
    ((cool .run).Accepts Cmd.prgLaneSplit (req [0#8]) ∧ (cool .run).splitRefusal 0 = none) ∧
    ((splitLane .run).Accepts Cmd.prgLaneSplit (req [3#8]) ∧ ((splitLane .run).lane 3).LANE_FAULT = 0#1 ∧ ((splitLane .run).lane 3).SPLIT = 1#1) ∧
    ((splitLane .stop).Accepts Cmd.prgLaneJoin (req [3#8]) ∧ ((splitLane .stop).lane 3).SPLIT = 1#1) ∧
    ((base .run).Accepts Cmd.prgLaneJoin (req [0#8]) ∧ ((base .run).lane 0).SPLIT = 0#1) ∧
    (base .run).Accepts Cmd.prgLaneStatus (req [3#8]) ∧
    (safetyTask.Accepts Cmd.prgTemperStatus (req [5#8]) ∧ (req [5#8]).u8 0 = (5 : Fin 128).val ∧ (safetyTask.tk.task.get 5).desc.SAFETY = 1#1 ∧
      (safetyTask.tk.task.get 5).desc.KIND ≠ 0#8) ∧
    ((base .run).Accepts Cmd.prgTemperClear (req [127#8]) ∧ (req [127#8]).u8 0 = (127 : Fin 128).val) :=
  ⟨⟨⟨by decide +kernel, by decide +kernel⟩, by decide +kernel, by decide +kernel, by decide +kernel, by decide +kernel, by decide +kernel⟩,
   ⟨⟨by decide +kernel, by decide +kernel⟩, by decide +kernel⟩, ⟨⟨by decide +kernel, by decide +kernel⟩, by decide +kernel, by decide +kernel⟩,
   ⟨⟨by decide +kernel, by decide +kernel⟩, by decide +kernel⟩, ⟨⟨by decide +kernel, by decide +kernel⟩, by decide +kernel⟩,
   ⟨by decide +kernel, by decide +kernel⟩, ⟨⟨by decide +kernel, by decide +kernel⟩, by decide +kernel, by decide +kernel, by decide +kernel⟩,
   ⟨⟨by decide +kernel, by decide +kernel⟩, by decide +kernel⟩⟩

/-- A program with three variables: one of TASK that task 5 owns, one of IMAGE, one of RETAIN with no owner. -/
def withVars (m : Mode) : State :=
  { base m with tk := { (base m).tk with prog := { ProgInfo.empty with
      vars := [⟨1#32, 4#8, 0#8, 1, 0, some 5, true, false⟩, ⟨2#32, 2#8, 0#8, 0, 0x1000, none, false, false⟩, ⟨3#32, 8#8, 0#8, 2, 8, none, false, false⟩] } } }
/-- A variable request. -/
def varReq (h : BitVec 32) (n : BitVec 8) : Request := req (VarReq.toBytes ⟨h, n, 0x0102030405060708#64⟩)
/-- A read request. -/
def varRead (h : BitVec 32) (n : BitVec 8) : Request := req ((VarReq.toBytes ⟨h, n, 0#64⟩).take 8)
/-- Witnesses of VariableCommandsAnswer. -/
theorem witness_VariableCommandsAnswer :
    ((withVars .run).Accepts Cmd.prgVarRead (varRead 2#32 2#8) ∧
      ((withVars .run).varOf (VarReq.ofBytes (varRead 2#32 2#8).payload).HANDLE).any (fun v => v.size == (VarReq.ofBytes (varRead 2#32 2#8).payload).SIZE) = true) ∧
    ((withVars .run).Accepts Cmd.prgVarRead (varRead 9#32 2#8) ∧ (withVars .run).varOf (VarReq.ofBytes (varRead 9#32 2#8).payload).HANDLE = none) ∧
    ((withVars .run).Accepts Cmd.prgVarWrite (varReq 1#32 8#8) ∧
      ((withVars .run).varOf (VarReq.ofBytes (varReq 1#32 8#8).payload).HANDLE).any (fun v => v.size != (VarReq.ofBytes (varReq 1#32 8#8).payload).SIZE) = true) ∧
    ((withVars .run).Accepts Cmd.prgVarWrite (varReq 2#32 2#8) ∧
      ((withVars .run).varOf (VarReq.ofBytes (varReq 2#32 2#8).payload).HANDLE).any
        (fun v => v.size == (VarReq.ofBytes (varReq 2#32 2#8).payload).SIZE && v.chamber != 1 && v.chamber != 2) = true) ∧
    ((withVars .stop).Accepts Cmd.prgVarWrite (varReq 3#32 8#8) ∧ 3 ≤ (withVars .stop).roleOf (varReq 3#32 8#8) ∧
      ((withVars .stop).varOf (VarReq.ofBytes (varReq 3#32 8#8).payload).HANDLE).any
        (fun v => v.size == (VarReq.ofBytes (varReq 3#32 8#8).payload).SIZE && v.chamber == 2) = true ∧ (withVars .stop).sys.mode = .stop) ∧
    ((withVars .run).Accepts Cmd.prgVarWrite (varReq 1#32 4#8) ∧ 3 ≤ (withVars .run).roleOf (varReq 1#32 4#8) ∧
      ((withVars .run).varOf (VarReq.ofBytes (varReq 1#32 4#8).payload).HANDLE).any
        (fun v => v.size == (VarReq.ofBytes (varReq 1#32 4#8).payload).SIZE && v.chamber == 1 && v.owner == some 5) = true ∧
      (withVars .run).sys.mode = .run) ∧
    ((base .stop).Accepts Cmd.prgImageLoad (req [0#8, 0#8, 0#8, 0#8, 7#8]) ∧ (req [0#8, 0#8, 0#8, 0#8, 7#8]).u32 0 = 0) ∧
    (base .run).Accepts Cmd.prgImageInfo (req []) :=
  ⟨⟨⟨by decide +kernel, by decide +kernel⟩, by decide +kernel⟩, ⟨⟨by decide +kernel, by decide +kernel⟩, by decide +kernel⟩,
   ⟨⟨by decide +kernel, by decide +kernel⟩, by decide +kernel⟩, ⟨⟨by decide +kernel, by decide +kernel⟩, by decide +kernel⟩,
   ⟨⟨by decide +kernel, by decide +kernel⟩, by decide +kernel, by decide +kernel, by decide +kernel⟩,
   ⟨⟨by decide +kernel, by decide +kernel⟩, by decide +kernel, by decide +kernel, by decide +kernel⟩,
   ⟨⟨by decide +kernel, by decide +kernel⟩, by decide +kernel⟩, ⟨by decide +kernel, by decide +kernel⟩⟩

/-- A module with a task 5 outside the safety class and an instruction at 16 in its code. -/
def withCode (f : Task → Task) : State :=
  { withTask fun k => f (cyclic k) with
    tk := { (withTask fun k => f (cyclic k)).tk with prog := { ProgInfo.empty with tasks := [⟨5, [], [], 0, 0, 0, 0, [16#32], []⟩] } } }
/-- A task halted at a breakpoint. -/
def halted (k : Task) : Task := { k with run := .stopped, cycleOpen := true, stat := { k.stat with DEBUG_HALT := 1#1 } }
/-- A request to arm a breakpoint of task 5 at 16. -/
def breakReq : Request := req [5#8, 0#8, 0#8, 0#8, 16#8, 0#8, 0#8, 0#8]
/-- A module with breakpoint 15 armed on task 5. -/
def withBreak (f : Task → Task) : State := { withCode f with dbg := { (withCode f).dbg with brk := put (withCode f).dbg.brk 15 ⟨5#8, 1#8, 0#16, 16#32⟩ } }
/-- Witnesses of BreakpointsArmHaltAndRelease. -/
theorem witness_BreakpointsArmHaltAndRelease :
    ((withCode id).Accepts Cmd.prgBreakSet breakReq ∧ breakReq.u8 0 = (5 : Fin 128).val ∧ ((withCode id).tk.task.get 5).desc.KIND ≠ 0#8 ∧
      ((withCode id).declOf 5).any (fun d => d.instrs.contains (BitVec.ofNat 32 (breakReq.u32 4))) = true ∧ (withCode id).isSafety 5 = false ∧
      ((idx 16).find? fun b => ((withCode id).dbg.brk.get b).STATE == 0#8) = some 0) ∧
    ((withBreak id).Accepts Cmd.prgBreakClear (req [15#8]) ∧ (req [15#8]).u8 0 = (15 : Fin 16).val ∧ ((withBreak id).dbg.brk.get 15).STATE ≠ 0#8) ∧
    ((withCode id).Accepts Cmd.prgBreakRelease (req [5#8]) ∧ ((withCode id).tk.task.get 5).stat.DEBUG_HALT = 0#1) ∧
    ((withCode halted).Accepts Cmd.prgBreakRelease (req [5#8]) ∧ (withCode halted).isSafety 5 = false ∧
      ((withCode halted).tk.task.get 5).desc.SAFETY = 0#1 ∧ ((withCode halted).tk.task.get 5).stat.DEBUG_HALT = 1#1) ∧
    ((withCode halted).Accepts Cmd.prgStep (req [5#8, 255#8]) ∧ (req [5#8, 255#8]).u8 0 = (5 : Fin 128).val ∧ (req [5#8, 255#8]).u8 1 ≠ 0) ∧
    (base .run).Accepts Cmd.prgBreakStatus (req []) ∧
    (∃ s : State, (s.dbg.brk.get 15).TASK_ID.toNat = (5 : Fin 128).val ∧ (s.dbg.brk.get 15).STATE ≠ 0#8 ∧ s.hasTask 5 = true ∧
      (s.tk.task.get 5).run = .running ∧ (s.tk.task.get 5).restoreAt = none ∧ (s.tk.task.get 5).desc.SAFETY = 0#1) ∧
    ∃ s : State, (s.tk.task.get 5).stepsLeft ≠ 0#32 ∧ (s.tk.task.get 5).run = .running ∧ s.hasTask 5 = true :=
  ⟨⟨⟨by decide +kernel, by decide +kernel⟩, by decide +kernel, by decide +kernel, by decide +kernel, by decide +kernel, by decide +kernel⟩,
   ⟨⟨by decide +kernel, by decide +kernel⟩, by decide +kernel, by decide +kernel⟩, ⟨⟨by decide +kernel, by decide +kernel⟩, by decide +kernel⟩,
   ⟨⟨by decide +kernel, by decide +kernel⟩, by decide +kernel, by decide +kernel, by decide +kernel⟩,
   ⟨⟨by decide +kernel, by decide +kernel⟩, by decide +kernel, by decide +kernel⟩, ⟨by decide +kernel, by decide +kernel⟩,
   ⟨withBreak fun k => { k with run := .running }, by decide +kernel⟩,
   withTask fun k => { k with run := .running, stepsLeft := 1#32 }, by decide +kernel⟩

/-- A module with task 5 of a class running on lane 0, stream 0. -/
def runningOn (sc : BitVec 1) (f : Task → Task) : State :=
  let s := withTask fun k => f { cyclic k with run := .running, desc := { (cyclic k).desc with SAFETY := sc } }
  { s with tk := { s.tk with laneTask := put s.tk.laneTask 0 (some 5) } }
/-- Witnesses of RunsFinishAndRestore. -/
theorem witness_RunsFinishAndRestore :
    ((runningOn 0#1 id).hasTask 5 = true ∧ ((runningOn 0#1 id).tk.task.get 5).run = .running ∧ ((runningOn 0#1 id).tk.task.get 5).restoreAt = none ∧
      ((runningOn 0#1 id).streamOf 5).isSome = true ∧ ((runningOn 0#1 id).tk.task.get 5).desc.SAFETY = 0#1) ∧
    ((runningOn 1#1 id).hasTask 5 = true ∧ ((runningOn 1#1 id).streamOf 5).isSome = true ∧ ((runningOn 1#1 id).tk.task.get 5).desc.SAFETY = 1#1 ∧
      ({ noRun with mismatch := some 2#8 } : TaskRun).mismatch = some 2#8 ∧ (runningOn 1#1 id).dbg.jtag = []) ∧
    (∃ s : State, (s.tk.task.get 5).restoreAt.isSome = true ∧ s.hasTask 5 = true ∧ (s.tk.task.get 5).reexec = true ∧ (s.tk.task.get 5).undoRetain = []) ∧
    (∃ s : State, (s.tk.task.get 5).restoreAt.isSome = true ∧ s.hasTask 5 = true ∧ (s.tk.task.get 5).reexec = false ∧
      (s.tk.task.get 5).undoRetain = [] ∧ (s.tk.task.get 5).desc.KIND = 1#8) ∧
    ((withVars .run).varOf 3#32).any (fun v => v.owner == none) = true :=
  ⟨by decide +kernel, by decide +kernel, ⟨runningOn 1#1 fun k => { k with restoreAt := some 0, reexec := true }, by decide +kernel⟩,
   ⟨runningOn 1#1 fun k => { k with restoreAt := some 0 }, by decide +kernel⟩, by decide +kernel⟩

/-- A module in a change state, held by a session. -/
def changing (st n : BitVec 8) : State := { base .run with olc := { (base .run).olc with stat := { ChangeStat.dflt with STATE := st, SESSION := n } } }
/-- Witnesses of ChangePackageCommandsAnswer. -/
theorem witness_ChangePackageCommandsAnswer :
    ((base .run).Accepts Cmd.olcLoad (req [4#8, 0#8, 0#8, 0#8, 7#8]) ∧ (base .run).olcBusy 0 = false ∧ (req [4#8, 0#8, 0#8, 0#8, 7#8]).u32 0 ≠ 0) ∧
    ((changing 1#8 1#8).Accepts Cmd.olcLoad (req [4#8, 0#8, 0#8, 0#8, 7#8]) ∧ (changing 1#8 1#8).olcBusy 0 = true) ∧
    ((changing 3#8 0#8).Accepts Cmd.olcActivate (req []) ∧ (changing 3#8 0#8).olc.stat.STATE = 3#8) ∧
    ((changing 1#8 0#8).Accepts Cmd.olcActivate (req []) ∧ (changing 1#8 0#8).olc.stat.STATE = 1#8 ∧ (changing 1#8 0#8).olcBusy 0 = false ∧
      (changing 1#8 0#8).paired = false ∧ (changing 1#8 0#8).sys.mode = .run) ∧
    (changing 1#8 0#8).Accepts Cmd.olcAbort (req []) ∧ (base .run).Accepts Cmd.olcStatus (req []) :=
  ⟨⟨⟨by decide +kernel, by decide +kernel⟩, by decide +kernel, by decide +kernel⟩, ⟨⟨by decide +kernel, by decide +kernel⟩, by decide +kernel⟩,
   ⟨⟨by decide +kernel, by decide +kernel⟩, by decide +kernel⟩,
   ⟨⟨by decide +kernel, by decide +kernel⟩, by decide +kernel, by decide +kernel, by decide +kernel, by decide +kernel⟩,
   ⟨by decide +kernel, by decide +kernel⟩, ⟨by decide +kernel, by decide +kernel⟩⟩

/-- A force of variable 2 by a session. -/
def forced (n : BitVec 8) : State :=
  { withVars .run with olc := { (base .run).olc with forces := [⟨2#32, n, 0#1, 2#8, 5#64, 6#64, 0#64⟩] } }
/-- A force request for a variable. -/
def forceReq (h : BitVec 32) : Request := req (ForceReq.toBytes ⟨h, 2#8, 5#64⟩)
/-- A set of variable 2 that waits in its batch. -/
def waitingSet : ForcePending := ⟨2#32, some 5#64, 0, 0, forceReq 2#32, false⟩
/-- Witnesses of ForcesSetReleaseAndList. -/
theorem witness_ForcesSetReleaseAndList :
    ((withVars .run).Accepts Cmd.olcForceSet (forceReq 2#32) ∧
      ((withVars .run).varOf (ForceReq.ofBytes (forceReq 2#32).payload).HANDLE).any
        (fun v => (ForceReq.ofBytes (forceReq 2#32).payload).SIZE == v.size && !v.safetyRead && !(withVars .run).unforceable v) = true ∧
      (ForceReq.ofBytes (forceReq 2#32).payload).SIZE.toNat ∈ [1, 2, 4, 8] ∧
      (withVars .run).forceOf (ForceReq.ofBytes (forceReq 2#32).payload).HANDLE = none ∧ (withVars .run).forcesToCome.length < 256) ∧
    ((withVars .run).Accepts Cmd.olcForceSet (forceReq 9#32) ∧ (withVars .run).varOf (ForceReq.ofBytes (forceReq 9#32).payload).HANDLE = none) ∧
    ((withVars .run).Accepts Cmd.olcForceRelease (req [2#8, 0#8, 0#8, 0#8]) ∧
      ((withVars .run).varOf (BitVec.ofNat 32 ((req [2#8, 0#8, 0#8, 0#8]).u32 0))).isSome = true ∧
      (withVars .run).forceOf (BitVec.ofNat 32 ((req [2#8, 0#8, 0#8, 0#8]).u32 0)) = none) ∧
    ((forced 0#8).Accepts Cmd.olcForceRelease (req [2#8, 0#8, 0#8, 0#8]) ∧
      ((forced 0#8).varOf (BitVec.ofNat 32 ((req [2#8, 0#8, 0#8, 0#8]).u32 0))).isSome = true ∧
      ((forced 0#8).forceOf (BitVec.ofNat 32 ((req [2#8, 0#8, 0#8, 0#8]).u32 0))).any ((forced 0#8).mayRelease 0) = true) ∧
    ((withVars .run).Accepts Cmd.olcForceReleaseAll (req []) ∧ (withVars .run).olc.forces.filter ((withVars .run).mayRelease 0) = []) ∧
    (forced 0#8).Accepts Cmd.olcForceList (req [0#8]) ∧
    (∃ s : State, batchWinner (s.olc.batch.filter fun p => p.handle == 2#32) = some waitingSet ∧ waitingSet.value = some 5#64 ∧
      ((s.resolveBatch 2#32).varOf 2#32).isSome = true) ∧
    (∃ s : State, s.olc.batch = [] ∧ (s.olc.releaseWrites.find? fun f => f.HANDLE == 2#32) = some ⟨2#32, 0#8, 0#1, 2#8, 5#64, 6#64, 0#64⟩ ∧
      (s.varOf 2#32).isSome = true) ∧
    ∃ s : State, 0 < s.agedForces ∧ s.olc.agedAt = none :=
  ⟨⟨⟨by decide +kernel, by decide +kernel⟩, by decide +kernel, by decide +kernel, by decide +kernel, by decide +kernel⟩,
   ⟨⟨by decide +kernel, by decide +kernel⟩, by decide +kernel⟩, ⟨⟨by decide +kernel, by decide +kernel⟩, by decide +kernel, by decide +kernel⟩,
   ⟨⟨by decide +kernel, by decide +kernel⟩, by decide +kernel, by decide +kernel⟩, ⟨⟨by decide +kernel, by decide +kernel⟩, by decide +kernel⟩,
   ⟨by decide +kernel, by decide +kernel⟩,
   ⟨{ withVars .run with olc := { (base .run).olc with batch := [waitingSet] } }, by decide +kernel⟩,
   ⟨{ withVars .run with olc := { (base .run).olc with releaseWrites := [⟨2#32, 0#8, 0#1, 2#8, 5#64, 6#64, 0#64⟩] } }, by decide +kernel⟩,
   { forced 0#8 with tm := { (base .run).tm with c := sec 90000, baseTs := 0#64 } }, by decide +kernel⟩

/-- A state with loop 5 in use, its bank B written, in a loop mode. -/
def withLoop (m : Mode) (lm : LoopMode) : State :=
  (base m).setLoop 5 { Loop.init with desc := { LoopDesc.dflt with LAW := 1#8 }, bankB := { Bank.dflt with BANK_SEQ := 1#32 },
                                      slot := { Loop.init.slot with mode := lm } }
/-- Witnesses of LoopCommandsAnswer. -/
theorem witness_LoopCommandsAnswer :
    ((withLoop .stop .off).Accepts Cmd.loopSet (req LoopDesc.dflt.toBytes) ∧ (LoopDesc.ofBytes LoopDesc.dflt.toBytes).LOOP_ID.toNat = (0 : Fin 256).val) ∧
    ((withLoop .run .auto).Accepts Cmd.loopGet (req [255]) ∧ (req [255]).u8 0 = (255 : Fin 256).val) ∧
    ((withLoop .run .auto).Accepts Cmd.loopSwapBank (req [5]) ∧ ((withLoop .run .auto).loop 5).desc.byTask = false ∧
      (withLoop .run .auto).swapPending ((withLoop .run .auto).loop 5) = false ∧ ((withLoop .run .auto).loop 5).other.BANK_SEQ ≠ 0#32) ∧
    ((withLoop .run .auto).setLoop 5 { Loop.init with desc := { LoopDesc.dflt with LAW := 1#8 } }).Accepts Cmd.loopSwapBank (req [5]) ∧
    ((withLoop .run .auto).Accepts Cmd.loopBankWrite (req (5 :: List.replicate 131 0)) ∧
      (Bank.ofBytes ((req (5 :: List.replicate 131 0)).payload.drop 4)).shiftBad 1 = false) ∧
    ((withLoop .run .auto).Accepts Cmd.loopBankRead (req [5, 1]) ∧ (req [5, 1]).u8 1 ≤ 1) ∧
    ((withLoop .run .auto).Accepts Cmd.loopMode (req [5, 3, 0, 0]) ∧ modeOfNum ((req [5, 3, 0, 0]).u8 1) = some .hold) ∧
    ((withLoop .run .tripped).Accepts Cmd.loopResetTrip (req [5]) ∧ ((withLoop .run .tripped).loop 5).slot.mode = .tripped) ∧
    ((withLoop .run .auto).Accepts Cmd.loopStatus (req [5]) ∧ (withLoop .run .auto).Accepts Cmd.loopClear (req [5, 0]) ∧
      (withLoop .run .auto).Accepts Cmd.loopClear (req [255, 255]) ∧ (withLoop .run .auto).Accepts Cmd.loopEngineStatus (req [])) := by
  refine ⟨⟨⟨?_, ?_⟩, ?_⟩, ⟨⟨?_, ?_⟩, ?_⟩, ⟨⟨?_, ?_⟩, ?_, ?_, ?_⟩, ⟨?_, ?_⟩, ⟨⟨?_, ?_⟩, ?_⟩, ⟨⟨?_, ?_⟩, ?_⟩, ⟨⟨?_, ?_⟩, ?_⟩, ⟨⟨?_, ?_⟩, ?_⟩,
    ⟨?_, ?_⟩, ⟨?_, ?_⟩, ⟨?_, ?_⟩, ⟨?_, ?_⟩⟩ <;> decide +kernel

/-- Loop 5 at a boundary of its grid, with a result to write, or a sample in progress. -/
def atBoundary (result : Bool) (sample : Option (Nat × LoopSources)) : State :=
  { withLoop .run .auto with tm.c := sec 2 }.setLoop 5 { Loop.init with
    desc := { LoopDesc.dflt with LAW := 1#8 }, fresh := false, result := result, sample := sample, feSince := some 0 }
/-- Sources with a process value of a class. -/
def sources (cls : BitVec 2) : LoopSources := ⟨some ⟨0, cls, false⟩, some ⟨0, 0#2, false⟩, none, none⟩
/-- Witnesses of LoopSamplesComplete. -/
theorem witness_LoopSamplesComplete :
    ((atBoundary true none).runsLoops = true ∧ ((atBoundary true none).loop 5).desc.LAW ≠ 0#8 ∧
      onGrid (atBoundary true none).now ((atBoundary true none).loop 5).desc.PERIOD_US.toNat ((atBoundary true none).loop 5).desc.PHASE_US.toNat = true ∧
      ((atBoundary true none).loop 5).sample = none ∧ ((atBoundary true none).loop 5).fresh = false ∧ ((atBoundary true none).loop 5).result = true) ∧
    ((atBoundary false (some (sec 1, sources 0#2))).loop 5).sample = some (sec 1, sources 0#2) ∧
    ((sources 2#2).used { LoopDesc.dflt with LAW := 1#8 }).any SrcVal.bad = true ∧
    (((atBoundary false (some (sec 1, sources 0#2))).loop 5).feSince = some 0 ∧
      0 + ms ((atBoundary false (some (sec 1, sources 0#2))).loop 5).desc.FE_TIME_MS.toNat ≤ sec 1) := by
  decide +kernel

/-- Slot 3 in use, with a job type and a state, driven by sessions. -/
def withSlot (m : Mode) (job : BitVec 8) (st : SlotState) : State :=
  (base m).setCs 3 fun x => { x with desc := { SlotDesc.dflt with JOB_TYPE := job, REQ_BY_SESSION := 1#1, N := 2#32, NNZ_A := 2#32 }, state := st }
/-- Witnesses of CrucibleCommandsAnswer. -/
theorem witness_CrucibleCommandsAnswer :
    (base .stop).Accepts Cmd.cruSlotSet (req SlotDesc.dflt.toBytes) ∧ (base .run).Accepts Cmd.cruSlotGet (req [15]) ∧
    (withSlot .stop 1#8 .empty).Accepts Cmd.cruPatternLoad (req [3, 0, 0, 0, 0, 0, 0, 0, 7]) ∧ (req [3, 0, 0, 0, 0, 0, 0, 0, 7]).u32 4 = 0 ∧
    (withSlot .stop 1#8 .loading).Accepts Cmd.cruAnalyse (req [3]) ∧ (withSlot .stop 1#8 .analysed).Accepts Cmd.cruSlotInfo (req [3]) ∧
    (withSlot .run 1#8 .analysed).Accepts Cmd.cruJobSubmit (req [3, 1, 0, 0, 0, 0, 0, 0, 0, 0, 0, 0]) ∧
    ((withSlot .run 1#8 .analysed).cs 3).desc.REQ_BY_SESSION ≠ 0#1 ∧ ((withSlot .run 1#8 .analysed).cs 3).job = none ∧
    (withSlot .run 1#8 .analysed).Accepts Cmd.cruResultRead (req [3, 0, 0, 0, 0, 0, 0, 0]) ∧
    (base .run).Accepts Cmd.cruStatus (req []) ∧ (base .run).cru.running = none ∧ (base .run).Accepts Cmd.cruClear (req []) ∧
    (withSlot .stop 2#8 .empty).Accepts Cmd.cruQpSet (req (3 :: List.replicate 71 0)) ∧ ((withSlot .stop 2#8 .empty).cs 3).qpJob = true ∧
    (withSlot .run 1#8 .empty).Accepts Cmd.cruQpGet (req [3]) ∧ (withSlot .run 2#8 .empty).Accepts Cmd.cruQpInfo (req [3]) ∧
    (withSlot .run 1#8 .analysed).Accepts Cmd.cruInputWrite (req [3, 1, 0, 0, 0, 0, 0, 0, 9]) ∧
    (req [3, 1, 0, 0, 0, 0, 0, 0, 9]).u32 4 + ((req [3, 1, 0, 0, 0, 0, 0, 0, 9]).payload.drop 8).length ≤ ((withSlot .run 1#8 .analysed).cs 3).insetBytes := by
  refine ⟨⟨?_, ?_⟩, ⟨?_, ?_⟩, ⟨?_, ?_⟩, ?_, ⟨?_, ?_⟩, ⟨?_, ?_⟩, ⟨?_, ?_⟩, ?_, ?_, ⟨?_, ?_⟩, ⟨?_, ?_⟩, ?_, ⟨?_, ?_⟩, ⟨?_, ?_⟩, ?_, ⟨?_, ?_⟩,
    ⟨?_, ?_⟩, ⟨?_, ?_⟩, ?_⟩ <;> decide +kernel

/-- Slot 3 with a job in a phase that runs. -/
def running (qp : Bool) (p : JobPhase) : State :=
  { ((withSlot .run (if qp then 2#8 else 1#8) .analysed).setCs 3 fun x => { x with
      job := some { Job.fresh 1#32 0 0 0 0#64 with phase := p }, front := some ⟨true, 0#64, 0#16, false, 0⟩ }) with cru.running := some 3 }
/-- Slot 3 with its job in the queue, its input set as given. -/
def queued (m : Memory) (deadline : Nat) : State :=
  { ((withSlot .run 1#8 .analysed).setCs 3 fun x => { x with
      job := some (Job.fresh 1#32 0 deadline 0 0#64), inset := put x.inset 0 m,
      desc := { x.desc with DELTA_MAX := 1#32 } }) with cru.queue := [3] }
/-- Witnesses of CrucibleJobsMove. -/
theorem witness_CrucibleJobsMove :
    ((withSlot .run 1#8 .analysed).setCs 3 fun x => { x with reqNew := true }).inRun = true ∧
    (((withSlot .run 1#8 .analysed).setCs 3 fun x => { x with reqNew := true }).cs 3).req.INSET.toNat ≤ 1 ∧
    ((queued [] 1).cs 3).job = some (Job.fresh 1#32 0 1 0 0#64) ∧ (queued [] 1).inRun = true ∧
    (cruEffect (queued [] 1).heatNow (queued [] 1).energyNow).holds = false ∧
    (match ((queued (Memory.write [] 0 [2]) 1).cs 3).check (((queued (Memory.write [] 0 [2]) 1).cs 3).inset.get 0) with | .error c => c == 5 | .ok _ => false) = true ∧
    (match ((queued [] 1).cs 3).check (((queued [] 1).cs 3).inset.get 0) with | .error _ => false | .ok ds => ds.isEmpty) = true ∧
    (queued [] 1).now < 1 ∧ ((queued [] 1).cs 3).front = none ∧
    (running false .factor).runningJob.isSome = true ∧ ((running false .factor).cs 3).qpJob = false ∧
    (running false .factor).pastCutoff ((running false .factor).cs 3) (Job.fresh 1#32 0 0 0 0#64) = true ∧
    (running false .solve).runningJob.isSome = true ∧ (running true .iterate).runningJob.isSome = true ∧
    (running true .refactor).runningJob.isSome = true ∧ (running true .polish).runningJob.isSome = true ∧
    (((withSlot .stop 1#8 .loading).setCs 3 fun x => { x with analysing := [req [3]] }).cs 3).analysing ≠ [] := by
  refine ⟨?_, ?_, ?_, ?_, ?_, ?_, ?_, ?_, ?_, ?_, ?_, ?_, ?_, ?_, ?_, ?_, ?_⟩ <;> decide +kernel

/-- A signed set: its CRC is its own. -/
def sealed (x : SafetySet) : SafetySet := { x with CRC := x.crcOf }
/-- The sealed set is valid: the CRC covers the 832 bytes before it (R239). -/
theorem sealed_valid (x : SafetySet) : (sealed x).valid = true := by
  simp only [SafetySet.valid, sealed, beq_iff_eq]
  exact (SafetySet.crcOf_crc x _).symm
/-- A module with a signed set. -/
def signedWith (m : Mode) (x : SafetySet) : State :=
  { base m with isl := { Island.init with signed := Vector.replicate 2 (some (sealed x)) } }
/-- The signed set is held. -/
theorem validSet_signedWith (m : Mode) (x : SafetySet) : (signedWith m x).validSet = some (sealed x) := by
  simp only [State.validSet, signedWith, Vector.replicate, goodCopy]
  simp [Vector.get, Option.filter, sealed_valid]
/-- A module with a pending set whose CRC is 5. -/
def pendingSet (m : Mode) : State := { base m with isl := { Island.init with pending := some { SafetySet.dflt with CRC := 5#32 } } }
/-- Witnesses of SafetyCommandsAnswer. -/
theorem witness_SafetyCommandsAnswer :
    ((base .stop).Accepts Cmd.safeParamLoad (req SafetySet.dflt.toBytes) ∧
      { SafetySet.ofBytes SafetySet.dflt.toBytes with SIGNED_BY := 0#32, SIGNED_TS := 0#64 }.inRange = true ∧
      { SafetySet.ofBytes SafetySet.dflt.toBytes with SIGNED_BY := 0#32, SIGNED_TS := 0#64 }.conflict = false) ∧
    ((base .stop).Accepts Cmd.safeParamLoad (req (List.replicate 836 0)) ∧
      { SafetySet.ofBytes (List.replicate 836 0) with SIGNED_BY := 0#32, SIGNED_TS := 0#64 }.inRange = false) ∧
    (base .run).Accepts Cmd.safeParamRead (req [1]) ∧
    ((pendingSet .stop).Accepts Cmd.safeSignOff (req [5, 0, 0, 0, 1, 0, 0, 0]) ∧ (req [5, 0, 0, 0, 1, 0, 0, 0]).u32 0 = (5#32).toNat) ∧
    (base .stop).Accepts Cmd.safeSignOff (req [5, 0, 0, 0, 1, 0, 0, 0]) ∧ (base .run).Accepts Cmd.safeStatus (req []) ∧
    (base .run).Accepts Cmd.safeClear (req []) ∧ ((base .run).Accepts Cmd.safeReset (req [255, 3]) ∧ (req [255, 3]).u16 0 < 1024) ∧
    ((base .run).Accepts Cmd.safeReset (req [0, 4]) ∧ 1024 ≤ (req [0, 4]).u16 0) ∧ (base .run).Accepts Cmd.safeBrakeTest (req [3]) := by
  refine ⟨⟨⟨?_, ?_⟩, ?_, ?_⟩, ⟨⟨?_, ?_⟩, ?_⟩, ⟨?_, ?_⟩, ⟨⟨?_, ?_⟩, ?_⟩, ⟨?_, ?_⟩, ⟨?_, ?_⟩, ⟨?_, ?_⟩, ⟨⟨?_, ?_⟩, ?_⟩, ⟨⟨?_, ?_⟩, ?_⟩, ⟨?_, ?_⟩⟩ <;>
    decide +kernel

/-- A set with pair 2 equivalent on DIO0 and DIO1, SO 1 used, axis entry 0 used. -/
def someSet : SafetySet :=
  { SafetySet.dflt with
    PAIR := put SafetySet.dflt.PAIR 2 { PairEntry.dflt with KIND := 1#8, CH_B := 1#8 }
    SO := put SafetySet.dflt.SO 1 { SoEntry.dflt with FUNCTION := 1#8 }
    AXIS := put SafetySet.dflt.AXIS 0 { AxisEntry.dflt with AXIS := 0#8, SRC2_ENC := 1#8 } }
/-- The island in RUN after ten days of uptime, with that set signed. -/
def guarded : State := { signedWith .run someSet with tm.c := sec 864000 }
/-- The signed set of that module. -/
theorem validSet_guarded : guarded.validSet = some (sealed someSet) := validSet_signedWith .run someSet
/-- Its set in use. -/
theorem safetySet_guarded : guarded.safetySet = sealed someSet := by simp [State.safetySet, validSet_guarded]
/-- Witnesses of PairsFiltersAndTestsMove. -/
theorem witness_PairsFiltersAndTestsMove :
    (((sealed someSet).PAIR.get 2).KIND ≠ 0#8 ∧ (guarded.isl.pair.get 2).nowA = true ∧
      guarded.since (guarded.isl.pair.get 2).sinceA (us ((sealed someSet).PAIR.get 2).FILTER_US.toNat) = true) ∧
    (SafePair.init.faulty = false ∧ guarded.since 0 (us ((sealed someSet).PAIR.get 2).FILTER_US.toNat) = true) ∧
    guarded.ran (some 0) (ms ((sealed someSet).PAIR.get 2).DISC_MS.toNat) = true ∧
    (guarded.tpRuns = true ∧ us ((sealed someSet).TP_WIDTH_US.toNat + (sealed someSet).TP_SETTLE_US.toNat) ≤ guarded.pulseAge (sealed someSet) 1) ∧
    (guarded.ran (some 0) (ms 1) = true ∧ guarded.ran (some 0) (us 50) = true) ∧
    (guarded.soTestDue 1 = true ∧ guarded.dio.soOff 1 = true ∧ (guarded.safetySet.SO.get 1).PAIR_WIRING ≠ 1#8) ∧
    (guarded.sys.phase = .serving ∧ (guarded.axisEntry 0).used = true) ∧
    guarded.wdExpired (sealed someSet) 0 = false ∧
    ({ guarded with tk.task := upd guarded.tk.task 0 fun k => { k with desc := { k.desc with KIND := 1#8, SAFETY := 1#1 } } } : State).wdExpired (sealed someSet) 0 = true ∧
    guarded.since guarded.isl.qlTestAt (sec 86400) = true := by
  refine ⟨⟨?_, ?_, ?_⟩, ⟨?_, ?_⟩, ?_, ⟨?_, ?_⟩, ⟨?_, ?_⟩, ⟨?_, ?_, ?_⟩, ⟨?_, ?_⟩, ?_, ?_, ?_⟩
  all_goals first
    | decide +kernel
    | (simp only [State.soTestDue, State.axisEntry, safetySet_guarded]; decide +kernel)

/-- A set with SO 1 a brake of axis entry 0. -/
def brakeSet : SafetySet := { someSet with SO := put SafetySet.dflt.SO 1 { SoEntry.dflt with FUNCTION := 2#8 } }
/-- The island in RUN with that set and a brake test in a step, or none. -/
def braking (bt : Option BrakeTest) (due : Bool) (pulse : Option Nat) : State :=
  { signedWith .run brakeSet with
    tm.c := sec 864000
    isl := { (signedWith .run brakeSet).isl with
      bt := bt, resetPulse := pulse, killed := Vector.replicate 10 false
      so := put Island.init.so 1 { SafeOut.init with btDue := due, btRequest := true } } }
/-- Its set. -/
theorem safetySet_braking (bt : Option BrakeTest) (due : Bool) (pulse : Option Nat) : (braking bt due pulse).safetySet = sealed brakeSet := by
  have : (braking bt due pulse).validSet = some (sealed brakeSet) := validSet_signedWith .run brakeSet
  simp [State.safetySet, this]
/-- Witnesses of BrakeTestsAndResetsMove. -/
theorem witness_BrakeTestsAndResetsMove :
    ((((braking (some ⟨1, .apply, 0, 0, 0, 0, 0⟩) false none).safetySet.SO.get 1).phase .apply).2 = some .posMove ∧
      (braking (some ⟨1, .apply, 0, 0, 0, 0, 0⟩) false none).since 0 (((sealed brakeSet).SO.get 1).phase .apply).1 = true) ∧
    (braking (some ⟨1, .settle, 0, 0, 0, 101, 0⟩) false none).since 0 (ms 50) = true ∧
    ((braking none false none).inRun = true ∧
      ((idx 4).find? fun c => ((braking none false none).isl.so.get c).btRequest && !(braking none false none).btRefused c) = some 1) ∧
    (((braking none false none).safetySet.SO.get 1).FUNCTION = 2#8 ∧ ((braking none false none).isl.so.get 1).btDue = false ∧
      (braking none false none).since 0 (hours ((braking none false none).safetySet.SO.get 1).BT_INTERVAL_H.toNat) = true) ∧
    (((braking none true none).isl.so.get 1).btDue = true ∧ ((braking none true none).safetySet.SO.get 1).BT_OVERDUE_ACTION = 1#8 ∧
      (braking none true none).since 0 (hours (((braking none true none).safetySet.SO.get 1).BT_INTERVAL_H.toNat + ((braking none true none).safetySet.SO.get 1).BT_GRACE_H.toNat)) = true) ∧
    ((braking none true (some (ms 100))).isl.resetPulse = some (ms 100) ∧ ms 100 ≤ sec 2 ∧ ms 99 < ms 100) := by
  refine ⟨⟨?_, ?_⟩, ?_, ⟨?_, ?_⟩, ⟨?_, ?_, ?_⟩, ⟨?_, ?_, ?_⟩, ⟨?_, ?_, ?_⟩⟩
  all_goals first
    | decide +kernel
    | (simp only [State.btRefused, safetySet_braking]; decide +kernel)

/-- Channel 9 an output with a latch or without, the fuse of group 1 tripped at a time, the field clock at 2 s. -/
def fieldAt (m : Mode) (latched fuse : Bool) (fuseAt : Nat) : State :=
  { base m with dio := { (base m).dio with
      act := put (base m).dio.act 9 { DioDesc.dflt with MODE := 2#8, RETRY_S := 1#8 }, clock := sec 2
      field := put (base m).dio.field 1 { FieldSide.init with
        fuse := fuse, fuseAt := fuseAt
        ch := put FieldSide.init.ch 1 { DioField.init with latchedAt := if latched then some 0 else none } } } }
/-- Witnesses of DigitalCommandsAnswer. -/
theorem witness_DigitalCommandsAnswer :
    ((base .stop).Accepts Cmd.fioDioSet (req DioDesc.dflt.toBytes) ∧ (DioDesc.ofBytes DioDesc.dflt.toBytes).CH_ID.toNat = (0 : Fin 32).val) ∧
    (base .run).Accepts Cmd.fioDioGet (req [31]) ∧ (base .run).Accepts Cmd.fioDioStatus (req [31]) ∧ (base .run).Accepts Cmd.fioGroupStatus (req [3]) ∧
    ((fieldAt .run true true (sec 1)).Accepts Cmd.fioGroupReset (req [1]) ∧ ((fieldAt .run true true (sec 1)).dio.field.get 1).fuse = true ∧
      ((fieldAt .run true true (sec 1)).dio.field.get 1).fuseAt + sec 1 ≤ (fieldAt .run true true (sec 1)).dio.clock) ∧
    (fieldAt .run true true (sec 1 + 1)).dio.clock < ((fieldAt .run true true (sec 1 + 1)).dio.field.get 1).fuseAt + sec 1 ∧
    ((fieldAt .run false false 0).dio.field.get 1).fuse = false ∧
    ((fieldAt .run true false 0).Accepts Cmd.fioDioUnlatch (req [9]) ∧ ((fieldAt .run true false 0).dioDesc 9).MODE = 2#8 ∧
      ((fieldAt .run true false 0).dioField 9).latchedAt.isSome = true) ∧
    ((fieldAt .run false false 0).dioField 9).latchedAt = none ∧ ((fieldAt .run false false 0).dioDesc 8).MODE ≠ 2#8 ∧
    (base .run).Accepts Cmd.fioDioClear (req [31]) ∧ (base .run).Accepts Cmd.fioDioClear (req [255]) := by
  refine ⟨⟨⟨?_, ?_⟩, ?_⟩, ⟨?_, ?_⟩, ⟨?_, ?_⟩, ⟨?_, ?_⟩, ⟨⟨?_, ?_⟩, ?_, ?_⟩, ?_, ?_, ⟨⟨?_, ?_⟩, ?_, ?_⟩, ?_, ?_, ⟨?_, ?_⟩, ⟨?_, ?_⟩⟩ <;> decide +kernel

/-- Link 1 of a running module with a channel 9 that drives, its timers started long ago. -/
def driving : State :=
  { fieldAt .run false false 0 with dio := { (fieldAt .run false false 0).dio with
      link := put (fieldAt .run false false 0).dio.link 1 { Link.init with down := some 5#100, reArm := true, clearRun := 32, lastValid := some 0 }
      partnerOffAt := put (fieldAt .run false false 0).dio.partnerOffAt 9 (some 0)
      field := put (fieldAt .run false false 0).dio.field 1 { FieldSide.init with
        grpOn := true, armed := true, lost := false, cfgWait := false, qlGrp := false, qlWait := false, fuseWait := false, sensFault := true, cfgSeen := 256
        ch := put FieldSide.init.ch 1 { DioField.init with
          cmd := true, limitSince := some 0, openSince := some 0, extSince := some 0 } } }, tm.c := sec 2 }
/-- Link 1 as it begins, with a configuration pass received. -/
def waiting : State := { driving with dio := { driving.dio with field := put driving.dio.field 1 { FieldSide.init with cfgSeen := 256 } } }
/-- A sample of quiet terminals. -/
def quietSample : FieldSample := ⟨0, 0, 0, Vector.replicate 8 0, 0, 0⟩
/-- Witnesses of LinksAndChannelsMove. -/
theorem witness_LinksAndChannelsMove :
    (driving.logicUp = true ∧ driving.sendsFrames = true ∧ driving.fieldUp = true ∧ (driving.dio.link.get 1).down = some 5#100) ∧
    frameOk (((driving.notePartners 1).fieldSample 1 quietSample).upFrame 1 quietSample).wire
      ((((driving.notePartners 1).fieldSample 1 quietSample).setField 1 fun x => { x with upSeq := x.upSeq + 1, rxErr := false }).dio.link.get 1).seqRef
      ((((driving.notePartners 1).fieldSample 1 quietSample).setField 1 fun x => { x with upSeq := x.upSeq + 1, rxErr := false }).upBroken
        ((((driving.notePartners 1).fieldSample 1 quietSample).setField 1 fun x => { x with upSeq := x.upSeq + 1, rxErr := false }).dio.link.get 1)) = true ∧
    frameOk ((((driving.notePartners 1).fieldSample 1 quietSample).upFrame 1 quietSample).wire ^^^ 1#100)
      ((((driving.notePartners 1).fieldSample 1 quietSample).setField 1 fun x => { x with upSeq := x.upSeq + 1, rxErr := false }).dio.link.get 1).seqRef true = false ∧
    ((driving.dio.field.get 1).lost = false ∧ (driving.dio.field.get 1).lastValid + us 3 ≤ driving.dio.clock) ∧
    ((driving.dio.link.get 1).lost = false ∧ driving.ran (driving.dio.link.get 1).lastValid (us 3) = true) ∧
    ((driving.dio.link.get 1).reArm = true ∧ 32 ≤ (driving.dio.link.get 1).clearRun) ∧
    ((waiting.dio.field.get 1).cfgWait = true ∧ 256 ≤ (waiting.dio.field.get 1).cfgSeen) ∧
    (driving.dio.ql.getLsbD 5 = false ∧ driving.dioOn 9 = true ∧
      driving.fieldRan (driving.dioField 9).limitSince (ms (driving.dioDesc 9).OVL_MS.toNat) = true) ∧
    ((fieldAt .run true false 0).fieldRan ((fieldAt .run true false 0).dioField 9).latchedAt (sec ((fieldAt .run true false 0).dioDesc 9).RETRY_S.toNat) = true ∧
      ((fieldAt .run true false 0).dioDesc 9).RETRY_S ≠ 0#8) ∧
    (driving.fieldRan (driving.dioField 9).openSince (ms (driving.dioDesc 9).OW_MS.toNat) = true ∧
      driving.fieldRan (driving.dioField 9).extSince (ms (driving.dioDesc 9).EXT_MS.toNat) = true) ∧
    (driving.partnerOn 9 = false ∧ driving.ran (driving.dio.partnerOffAt.get 9) (ms 2) = true) ∧
    ((driving.dio.field.get 1).fuse = false ∧ (driving.dio.field.get 0).sensFault = false ∧ (driving.dio.field.get 1).sensFault = true ∧
      (driving.dio.field.get 1).sensAt + sec 1 ≤ driving.dio.clock) ∧
    (({ base .run with dio := { (base .run).dio with act := put (base .run).dio.act 0 { DioDesc.dflt with MODE := 1#8 } } } : State).dioDesc 0).MODE = 1#8 := by
  refine ⟨⟨?_, ?_, ?_, ?_⟩, ?_, ?_, ⟨?_, ?_⟩, ⟨?_, ?_⟩, ⟨?_, ?_⟩, ⟨?_, ?_⟩, ⟨?_, ?_, ?_⟩, ⟨?_, ?_⟩, ⟨?_, ?_⟩, ⟨?_, ?_⟩, ⟨?_, ?_, ?_, ?_⟩, ?_⟩ <;> decide +kernel

/-- Channel `c` configured in a mode. -/
def aioAs (m : Mode) (c : Fin 16) (mode : BitVec 8) : State :=
  (base m).setAio c fun a => { a with act := { a.act with MODE := mode } }
/-- A two-point trim of the output path of channel 15. -/
def trimReq (n1 t1 n2 t2 : Nat) : Request := req ([15#8, 1#8, 0#8, 0#8] ++ leBytes 4 n1 ++ leBytes 4 t1 ++ leBytes 4 n2 ++ leBytes 4 t2)
/-- Witnesses of AnalogueCommandsAnswer: both outcomes of each check. -/
theorem witness_AnalogueCommandsAnswer :
    ((base .stop).Accepts Cmd.fioAioSet (req AioDesc.dflt.toBytes) ∧ (AioDesc.ofBytes AioDesc.dflt.toBytes).CH_ID.toNat = (0 : Fin 16).val) ∧
    (base .run).Accepts Cmd.fioAioGet (req [15]) ∧ (base .run).Accepts Cmd.fioAioStatus (req [15]) ∧
    ((aioAs .stop 15 3).Accepts Cmd.fioAioTrimSet (trimReq 4000000 4001000 20000000 20001000) ∧
      (trimReq 4000000 4001000 20000000 20001000).u32 8 = 4001000 ∧ pathFits ((aioAs .stop 15 3).aio.get 15).act.MODE 1 = true ∧
      trimOf 4000000 4001000 20000000 20001000 = (0, 1000)) ∧
    (¬ pathFits ((aioAs .stop 15 2).aio.get 15).act.MODE 1 = true) ∧
    (20000 < (trimOf 3000000 5000000 19000000 22000000).1.natAbs) ∧
    (base .run).Accepts Cmd.fioAioTrimGet (req [15, 1]) ∧ (aioAs .stop 15 3).Accepts Cmd.fioAioTrimDrive (req [15, 2]) ∧
    ((aioAs .stop 15 3).aio.get 15).act.MODE = 3#8 ∧ (base .stop).Accepts Cmd.fioAioTrimRemove (req [15, 1]) ∧
    (base .run).Accepts Cmd.fioAioClear (req [15]) ∧ (base .run).Accepts Cmd.fioAioClear (req [255]) := by
  refine ⟨⟨⟨?_, ?_⟩, ?_⟩, ⟨?_, ?_⟩, ⟨?_, ?_⟩, ⟨⟨?_, ?_⟩, ?_, ?_, ?_⟩, ?_, ?_, ⟨?_, ?_⟩, ⟨?_, ?_⟩, ?_, ⟨?_, ?_⟩, ⟨?_, ?_⟩, ⟨?_, ?_⟩⟩ <;> decide +kernel

/-- An output whose readback of 1 ms lies below its command, an open loop for 10 ms, the clock at 20 ms. -/
def loopOut : State :=
  let s := aioAs .run 15 3
  { (s.setAio 15 fun a => { a with sumBack := (0, 2), sumCmd := 2 * (4000000 * 1024), openSince := some 0, act := { a.act with OPEN_LOOP_EN := 1#1 } }) with
    tm := { s.tm with c := ms 20 } }
/-- An input below the lower limit of NE 43 since 0. -/
def loopIn : State :=
  (aioAs .run 14 2).setAio 14 fun a => { a with failSince := some (false, 0), record := { a.record with MARKER := 0#1 } }
/-- The field side of channel 13 configured for a mode. -/
def fieldAio (mode : BitVec 16) : State :=
  let s := base .run
  { s with dio := { s.dio with field := put s.dio.field 3 { s.dio.field.get 3 with cfgWait := false, aioCfg := put (s.dio.field.get 3).aioCfg 8 mode } } }
/-- Witnesses of AnalogueEventsMove. -/
theorem witness_AnalogueEventsMove :
    (loopOut.logicUp = true ∧ loopOut.aioMode 15 = 3 ∧ loopOut.since (loopOut.aio.get 15).cmpAt (ms 1) = true ∧
      (loopOut.aio.get 15).sumBack.2 ≠ 0 ∧ (((loopOut.aio.get 15).judge loopOut.now).decide287 loopOut.now).2 = some 4) ∧
    ((loopOut.aio.get 15).openSince = some 0 ∧ 0 + ms 10 ≤ loopOut.now ∧ (loopOut.aio.get 15).record.OPEN_LOOP = 0#1) ∧
    (loopIn.logicUp = true ∧ (loopIn.aio.get 14).record.MARKER = 0#1 ∧ loopIn.aioMode 14 = 2 ∧ (loopIn.aio.get 14).failSince = some (false, 0)) ∧
    ((fieldAio 1).fieldUp = true ∧ (fieldAio 1).fieldMode 13 = 1) ∧ ((fieldAio 3).fieldUp = true ∧ (fieldAio 3).fieldMode 13 = 3) := by
  refine ⟨⟨?_, ?_, ?_, ?_, ?_⟩, ⟨?_, ?_, ?_⟩, ⟨?_, ?_, ?_, ?_⟩, ⟨?_, ?_⟩, ⟨?_, ?_⟩⟩ <;> decide +kernel

/-- A table of one segment at rest, to position 100. -/
def smallTable (id : BitVec 8) : SegTable :=
  { SegTable.init with head := { TableHead.dflt with TABLE_ID := id, N_SEG := 1#8, NEXT := 0xFF#8 }
                       segs := put SegTable.init.segs 0 { Segment.dflt with DUR_US := 1000#32, POS := 100#32 } }
/-- Axis `n` of a serving state changed. -/
def axisAs (m : Mode) (n : Fin 8) (f : Axis → Axis) : State := (base m).setMx n f
/-- Witnesses of MotionCommandsAnswer. -/
theorem witness_MotionCommandsAnswer :
    ((base .stop).Accepts Cmd.motAxisSet (req AxisDesc.dflt.toBytes) ∧ (AxisDesc.ofBytes AxisDesc.dflt.toBytes).AXIS_ID.toNat = (0 : Fin 8).val ∧
      (AxisDesc.ofBytes AxisDesc.dflt.toBytes).ok = true) ∧
    (base .run).Accepts Cmd.motAxisGet (req [7]) ∧
    ((base .stop).Accepts Cmd.motEncSet (req EncDesc.dflt.toBytes) ∧ (EncDesc.ofBytes EncDesc.dflt.toBytes).ENC_ID.toNat = (0 : Fin 8).val) ∧
    (base .run).Accepts Cmd.motEncGet (req [7]) ∧
    ((base .run).Accepts Cmd.motTableLoad (req (smallTable 15).toBytes) ∧
      (SegTable.ofBytes (smallTable 15).toBytes).head.TABLE_ID.toNat = (15 : Fin 16).val ∧ (SegTable.ofBytes (smallTable 15).toBytes).ok = true ∧
      (base .run).tableInUse 15 = false ∧ (axisAs .run 7 fun x => { x with state := .table, tbl := some (15, 0, 0, 0) }).tableInUse 15 = true) ∧
    (base .run).Accepts Cmd.motTableRead (req [15]) ∧ (base .run).Accepts Cmd.motStatus (req [7]) ∧
    (base .run).Accepts Cmd.motClear (req [7]) ∧ (base .run).Accepts Cmd.motClear (req [255]) := by
  refine ⟨⟨⟨?_, ?_⟩, ?_, ?_⟩, ⟨?_, ?_⟩, ⟨⟨?_, ?_⟩, ?_⟩, ⟨?_, ?_⟩, ⟨⟨?_, ?_⟩, ?_, ?_, ?_, ?_⟩, ⟨?_, ?_⟩, ⟨?_, ?_⟩, ⟨?_, ?_⟩, ⟨?_, ?_⟩⟩ <;> decide +kernel

/-- A state with one byte of IMAGE set. -/
def withImage (s : State) (a : Nat) (b : Byte) : State :=
  { s with gro := { s.gro with mem := put s.gro.mem 0 (Memory.set (s.gro.mem.get 0) a b) } }
/-- Axis 7 in use in RUN, with a request MODE_REQ of CMD_SEQ 1 in IMAGE. -/
def withRequest (mode : Byte) (f : Axis → Axis) : State :=
  let s := axisAs .run 7 fun x => f { x with desc := { x.desc with USED := 1#1 } }
  withImage (withImage s 0x270 1) 0x272 mode
/-- Witnesses of MotionRequestsAreTakenOrRefused. -/
theorem witness_MotionRequestsAreTakenOrRefused :
    ((base .run).sys.phase = .serving ∧ (base .run).pow.pfStage = .idle ∧ (base .run).now % us 10 = 0) ∧
    ((withRequest 3 id).takesMotion 7 = true ∧ ((withRequest 3 id).axisCmd 7).CMD_SEQ ≠ ((withRequest 3 id).mx 7).lastSeq ∧
      (withRequest 3 id).requestCode 7 ((withRequest 3 id).axisCmd 7) = some 0x0908) ∧
    ((withRequest 2 id).takesMotion 7 = true ∧ ((withRequest 2 id).axisCmd 7).CMD_SEQ ≠ ((withRequest 2 id).mx 7).lastSeq ∧
      (withRequest 2 id).requestCode 7 ((withRequest 2 id).axisCmd 7) = none) ∧
    ((base .run).axisCmd 7).CMD_SEQ = ((base .run).mx 7).lastSeq ∧
    ((withRequest 8 id).isl.killed.get 8 = true) ∧
    (let s := { withRequest 8 id with isl := { (base .run).isl with killed := put (base .run).isl.killed 8 false } }
     s.isl.killed.get 8 = false ∧ (s.mx 7).btHold = false ∧ (s.mx 7).stat.EN_ON = 0#1 ∧ (s.axisCmd 7).MODE_REQ = 8#8) ∧
    (let x := { Axis.init with state := .velocity, vel := 5 }
     x.state ≠ .disabled ∧ x.state ≠ .idle ∧ x.desc.VEL_START.toNat * velUnit < x.vel.natAbs) := by
  refine ⟨⟨?_, ?_, ?_⟩, ⟨?_, ?_, ?_⟩, ⟨?_, ?_, ?_⟩, ?_, ?_, ⟨?_, ?_, ?_, ?_⟩, ⟨?_, ?_, ?_⟩⟩ <;> decide +kernel

/-- A homing run in a phase. -/
def homingAt (p : HomePhase) (sw : Bool) (edge : Nat) (cap : Option Int) : Homing :=
  { phase := p, begun := 0, since := 0, chatter := 0, sw := sw, edgeAt := edge, edgePos := 0, capture := cap, turned := false }
/-- Axis 7 in RUN at a count of the timebase, the references brought up to it. -/
def moving (t : Nat) (f : Axis → Axis) : State :=
  let s := axisAs .run 7 f
  { s with tm := { s.tm with c := t }, mot := { s.mot with runAt := t } }
/-- What of `moving` an advance leaves. -/
def moved (t : Nat) (f : Axis → Axis) : Axis := ((moving t f).advanceAxes).mx 7
/-- Witnesses of MovesTablesAndGearsEnd. -/
theorem witness_MovesTablesAndGearsEnd :
    ((moving (us 1000) fun x => { x with enAt := some 0 }).inRun = true ∧ 0 + us ((moving (us 1000) id).mx 7).desc.EN_DELAY_US.toNat ≤ (moving (us 1000) id).now) ∧
    (let x := moved 0 fun x => { x with state := .position, stat := { x.stat with REVERSING := 1#1 } }
     x.state = .position ∧ x.vel = 0 ∧ x.stat.REVERSING = 1#1) ∧
    (let x := moved 0 fun x => { x with state := .position }
     x.state = .position ∧ x.vel = 0 ∧ x.stat.REVERSING = 0#1 ∧ x.exact = x.target * stepUnit) ∧
    (let x := moved 0 fun x => { x with state := .stopping }
     x.state = .stopping ∧ x.vel = 0) ∧
    (let x := moved 0 fun x => { x with state := .homing, home := some (homingAt .stop true 0 none) }
     x.state = .homing ∧ x.vel = 0 ∧ x.home = some (homingAt .stop true 0 none)) ∧
    (let x := moved 0 fun x => { x with state := .table, tbl := some (15, 0, 0, 0) }
     x.state = .table ∧ x.tbl = some (15, 0, 0, 0) ∧ 0 + us (((moving 0 id).mot.table.get 15).dur 0) ≤ (moving 0 id).now) ∧
    (0 + 1 < SegTable.count { smallTable 15 with head := { TableHead.dflt with N_SEG := 2#8 } }) ∧
    (let x := moved 0 fun x => { x with state := .gear, stat := { x.stat with LAG := 30000#32 } }
     x.state = .gear ∧ 256 * x.desc.LAG_MAX_FS.toNat < x.stat.LAG.toInt.natAbs) ∧
    ((withImage (moving 0 fun x => { x with state := .velocity, vel := 5, desc := { x.desc with USED := 1#1, LIM_POS_DIO := 31#8 } }) (dioOff 31) 1).advanceAxes.limitHit 7 true = true) ∧
    (let s := moving (ms 5) fun x => { x.setLimited true true with limPos := some 0 }
     (s.mx 7).limited true = true ∧ s.limitReads (s.mx 7).desc.LIM_POS_DIO = false ∧ (s.mx 7).limPos = some 0 ∧ 0 + ms (s.mx 7).desc.SW_STABLE_MS.toNat ≤ s.now) ∧
    (let s := moving (ms 5) fun x => { x.setLimited false true with limNeg := some 0 }
     (s.mx 7).limited false = true ∧ s.limitReads (s.mx 7).desc.LIM_NEG_DIO = false ∧ (s.mx 7).limNeg = some 0 ∧ 0 + ms (s.mx 7).desc.SW_STABLE_MS.toNat ≤ s.now) ∧
    (let x := moved (ms 5 + 1) fun x => { x with state := .homing, home := some (homingAt .leave false 1 none) }
     x.state = .homing ∧ x.home = some (homingAt .leave false 1 none) ∧ 1 + ms x.desc.SW_STABLE_MS.toNat ≤ (moving (ms 5 + 1) id).now) ∧
    (let x := moved 0 fun x => { x with state := .homing, home := some (homingAt .captured true 0 (some 4)) }
     x.vel = 0 ∧ x.home = some (homingAt .captured true 0 (some 4))) ∧
    (let x := moved (sec 120) fun x => { x with state := .homing, home := some (homingAt .search true 0 none) }
     x.home = some (homingAt .search true 0 none) ∧ 0 + sec x.desc.HOME_TIMEOUT_S.toNat ≤ (moving (sec 120) id).now) ∧
    (let s := { base .run with mot := { (base .run).mot with enc := upd (base .run).mot.enc 7 fun e => { e with desc := { e.desc with MODE := 1#8 } } } }
     s.sys.phase = .serving ∧ (s.mot.enc.get 7).desc.MODE = 1#8) := by
  refine ⟨⟨?_, ?_⟩, ⟨?_, ?_, ?_⟩, ⟨?_, ?_, ?_, ?_⟩, ⟨?_, ?_⟩, ⟨?_, ?_, ?_⟩, ⟨?_, ?_, ?_⟩, ?_, ⟨?_, ?_⟩, ?_, ⟨?_, ?_, ?_, ?_⟩, ⟨?_, ?_, ?_, ?_⟩, ⟨?_, ?_, ?_⟩, ⟨?_, ?_⟩, ⟨?_, ?_⟩, ⟨?_, ?_⟩⟩ <;> decide +kernel

/-- Axis 7 at a velocity, at its finest code. -/
def fast : State := moving 0 fun x => { x with state := .velocity, vel := 4000000 * velUnit, want := 4000000 * velUnit, desc := { x.desc with USED := 1#1 } }
/-- The link with a frame of 320 cycles out, or one mismatch before. -/
def linkAt (frame : Option (BitVec 32)) (bad : Bool) : State :=
  let s := moving (ms 1) id
  { s with mot := { s.mot with dlFrame := frame, dlBad := bad, dlAt := 0 } }
/-- Witnesses of DriveLinkRuns. -/
theorem witness_DriveLinkRuns :
    (fast.inRun = true ∧ (fast.advanceAxes.mx 7).used = true ∧ (fast.advanceAxes.mx 7).resWanted = none ∧
      (fast.advanceAxes.mx 7).wantedCode = some 6 ∧ fast.advanceAxes.mot.dlFrame = none) ∧
    ((linkAt none false).driveRuns = true ∧ (linkAt none false).mot.dlFrame = none ∧ (linkAt none false).mot.dlAt + ms 1 ≤ (linkAt none false).now) ∧
    ((linkAt (some 5) false).mot.dlFrame = some 5 ∧ (linkAt (some 5) false).mot.dlAt + 320 ≤ (linkAt (some 5) false).now) ∧
    (linkAt none false).mot.dlBad = false ∧ (linkAt none true).mot.dlBad = true ∧
    (linkAt none true).linkHeld = false := by
  refine ⟨⟨?_, ?_, ?_, ?_, ?_⟩, ⟨?_, ?_, ?_⟩, ⟨?_, ?_⟩, ?_, ?_, ?_⟩ <;> decide +kernel

/-- Controller 3 changed, in normal operation and error-active to begin with. -/
def canAs (m : Mode) (f : CanCtrl → CanCtrl) : State := (base m).setCan 3 fun x => f { x with mode := .normal, state := .active }
/-- Frame 5 with no data, as CAN_TX_ONCE of controller 3 gives it. -/
def once : Request := req ([3#8, 0#8, 0#8, 0#8] ++ { FrameRec.dflt with ID := 5#32 }.toBytes.take 80)
/-- Witnesses of CanCommandsAnswer. -/
theorem witness_CanCommandsAnswer :
    ((base .stop).Accepts Cmd.canCtrlSet (req CanDesc.dflt.toBytes) ∧ (CanDesc.ofBytes CanDesc.dflt.toBytes).CTRL_ID.toNat = (0 : Fin 4).val ∧
      (CanDesc.ofBytes CanDesc.dflt.toBytes).ok = true) ∧
    (base .run).Accepts Cmd.canCtrlGet (req [3]) ∧
    ((base .stop).Accepts Cmd.canFilterSet (req { CanFilter.dflt with CTRL_ID := 3#8, FILT_NO := 63#8 }.toBytes) ∧
      (CanFilter.ofBytes { CanFilter.dflt with CTRL_ID := 3#8, FILT_NO := 63#8 }.toBytes) = { CanFilter.dflt with CTRL_ID := 3#8, FILT_NO := 63#8 }) ∧
    ((base .stop).Accepts Cmd.canObjectSet (req { CanObject.dflt with OBJ_NO := 2047#16, DIR := 2#8 }.toBytes) ∧
      (CanObject.ofBytes { CanObject.dflt with OBJ_NO := 2047#16, DIR := 2#8 }.toBytes).ok = true) ∧
    ((canAs .run fun x => { x with state := .busOff }).Accepts Cmd.canRecover (req [3]) ∧
      ((canAs .run fun x => { x with state := .busOff }).can.ctrl.get 3).state = .busOff ∧
      ¬ (((canAs .run id).can.ctrl.get 3).state = .busOff ∨ ((canAs .run id).can.ctrl.get 3).boffLocked = true)) ∧
    (base .run).Accepts Cmd.canStatus (req [3]) ∧
    ((canAs .run id).Accepts Cmd.canTxOnce once ∧ once.u8 0 = (3 : Fin 4).val ∧
      (FrameRec.ofBytes (once.payload.drop 4)).sendable ((canAs .run id).can.ctrl.get 3).desc = true ∧
      ((canAs .run id).can.ctrl.get 3).mode = .normal ∧ ((canAs .run id).can.ctrl.get 3).state = .active ∧
      ((canAs .run id).can.ctrl.get 3).queue.length < 16 ∧ (canAs .run id).can.objects = []) ∧
    (base .run).Accepts Cmd.canClear (req [3]) ∧ (base .run).Accepts Cmd.canClear (req [255]) := by
  refine ⟨⟨⟨?_, ?_⟩, ?_, ?_⟩, ⟨?_, ?_⟩, ⟨⟨?_, ?_⟩, ?_⟩, ⟨⟨?_, ?_⟩, ?_⟩, ⟨⟨?_, ?_⟩, ?_, ?_⟩, ⟨?_, ?_⟩, ⟨⟨?_, ?_⟩, ?_, ?_, ?_, ?_, ?_, ?_⟩, ⟨?_, ?_⟩, ⟨?_, ?_⟩⟩ <;> decide +kernel

/-- A classical frame. -/
def frameOf (id : BitVec 32) : CanFrame := { id := id, dlc := 0, fdf := false, brs := false, esi := false, res := false, data := 0 }
/-- The controllers' transmit object 7 of controller 3, sent every 10 ms. -/
def txObj : CanObject := { CanObject.dflt with OBJ_NO := 7#16, CTRL_ID := 3#8, DIR := 2#8, ON_PERIOD := 1#1, TIME_MS := 10#16 }
/-- `canAs` with that object, at a count of the timebase. -/
def canAt (t : Nat) (f : CanCtrl → CanCtrl) : State :=
  let s := canAs .run f
  { s with can := { s.can with objects := [txObj] }, tm := { s.tm with c := t, baseCnt := 0, baseTs := 0 } }
/-- Witnesses of CanFramesMove. -/
theorem witness_CanFramesMove :
    (((canAs .run id).can.ctrl.get 3).onBus = true ∧ (frameOf 5).fdf = false ∧
      (canAs .run id).recAfter ((canAs .run id).can.ctrl.get 3).recCount = (0, canAs .run id)) ∧
    ((canAs .run fun x => { x with state := .busOff }).can.ctrl.get 3).onBus = false ∧
    (let x := (canAs .run id).can.ctrl.get 3
     x.onBus = true ∧ x.desc.FD_EN = 0#1 ∧ x.desc.PROT_EXC = 1#1) ∧
    ((canAt (ms 10) id).txObject 3 7 = some txObj ∧ (canAt (ms 10) id).inRun = true ∧ ((canAt (ms 10) id).can.ctrl.get 3).mode ≠ .off ∧
      ((((canAt (ms 10) id).can.ctrl.get 3).txAt.lookup 7).getD 0) + ms txObj.TIME_MS.toNat ≤ (canAt (ms 10) id).now) ∧
    (let s := canAt 0 fun x => { x with pendingTx := [7] }
     (s.can.ctrl.get 3).mode = .normal ∧ (s.can.ctrl.get 3).onBus = true ∧
     (lowestId ((s.setCan 3 CanCtrl.failed).txCandidates 3)).map (fun t => t.1) = some (.object 7)) ∧
    (((canAt 0 fun x => { x with wire := some (.object 7, FrameRec.dflt) }).can.ctrl.get 3).wire = some (.object 7, FrameRec.dflt)) ∧
    (let s := canAt (ms 100) fun x => { x with state := .busOff }
     let x := s.can.ctrl.get 3
     x.state = .busOff ∧ x.recovering = false ∧ x.desc.BUSOFF_POLICY = 0#8 ∧ x.boffLocked = false ∧ x.boffAt + ms x.desc.BOFF_HOLD_MS.toNat ≤ s.now) ∧
    (let x := (canAs .run fun x => { x with state := .busOff, recovering := true }).can.ctrl.get 3
     x.state = .busOff ∧ x.recovering = true ∧ x.mode ≠ .off) ∧
    (let s := canAt (ms 10) fun x => { x with desc := { x.desc with TIME_ROLE := 1#8 } }
     let x := s.can.ctrl.get 3
     x.mode = .normal ∧ x.onBus = true ∧ x.desc.TIME_ROLE = 1#8 ∧ s.crossed (1000 * x.desc.REF_PERIOD_US.toNat) = true ∧ x.refAt = none) ∧
    (let s := canAt (ms 20) fun x => { x with desc := { x.desc with TIME_ROLE := 2#8 }, refAt := some 0 }
     let x := s.can.ctrl.get 3
     x.mode ≠ .off ∧ x.desc.TIME_ROLE = 2#8 ∧ x.refAt = some 0 ∧ 0 + us (2 * x.desc.REF_PERIOD_US.toNat) ≤ s.now) ∧
    ((canAs .run fun x => { x with state := .passive }).can.ctrl.get 3).state = .passive := by
  refine ⟨⟨?_, ?_, ?_⟩, ?_, ⟨?_, ?_, ?_⟩, ⟨?_, ?_, ?_, ?_⟩, ⟨?_, ?_, ?_⟩, ?_, ⟨?_, ?_, ?_, ?_, ?_⟩, ⟨?_, ?_, ?_⟩, ⟨?_, ?_, ?_, ?_, ?_⟩, ⟨?_, ?_, ?_, ?_⟩, ?_⟩ <;> decide +kernel

/-- The network unit started at 0, at a count of the timebase; the link of a port up or down. -/
def netAs (t : Nat) (up : Bool) : State :=
  let s := base .run
  { s with tm := { s.tm with c := t, netAt := some 0, nodes := [(9, 0)]
                             ports := s.tm.ports.map fun (x : NetPort) => { x with linkUp := up, lanOkAt := some 0 } } }
/-- A supervision frame of another node, of a length. -/
def supervision (len : Nat) : NetFrame := { src := 9, seq := 1, port := 1, data := .supervision, len := len, good := true, wrongLan := false }
/-- Witnesses of NetworkCommandsAndEventsComplete. -/
theorem witness_NetworkCommandsAndEventsComplete :
    ((base .stop).Accepts Cmd.cfgNetSet (req NetDesc.dflt.toBytes) ∧ (NetDesc.ofBytes NetDesc.dflt.toBytes).ok = true ∧
      (NetDesc.ofBytes { NetDesc.dflt with NET_MODE := 3#8 }.toBytes).ok = false) ∧
    (base .run).Accepts Cmd.cfgNetGet (req []) ∧ (base .run).Accepts Cmd.diagNetStatus (req []) ∧
    ((netAs (ms 10) true).netUp = true ∧ (netAs (ms 10) true).portUsed 1 = true ∧ ((netAs (ms 10) true).tm.ports.get 1).linkUp = true ∧
      (supervision 1528).len ≤ (netAs (ms 10) true).longestFrame ∧ (netAs (ms 10) true).longestFrame < (supervision 1529).len ∧
      (netAs (ms 10) true).firmwareUp = true) ∧
    ((netAs (ms 10) false).netUp = true ∧ ((netAs (ms 10) false).tm.ports.get 1).linkUp = false) ∧
    (let s := netAs (ms 6000) true
     s.netUp = true ∧ s.tm.netAct.NET_MODE ≠ 2#8 ∧ s.tm.suprAt + ms s.tm.netAct.LIFE_CHECK_MS.toNat ≤ s.now ∧
     (s.tm.ports.get 1).lanOkAt = some 0 ∧ 0 + ms (3 * s.tm.netAct.LIFE_CHECK_MS.toNat) ≤ s.now ∧ s.ptpUp = true) ∧
    ((netAs (sec 60) true).tm.nodes.lookup 9 = some 0 ∧ 0 + sec (netAs (sec 60) true).tm.netAct.NODE_FORGET_S.toNat ≤ (netAs (sec 60) true).now) := by
  refine ⟨⟨⟨?_, ?_⟩, ?_, ?_⟩, ⟨?_, ?_⟩, ⟨?_, ?_⟩, ⟨?_, ?_, ?_, ?_, ?_, ?_⟩, ⟨?_, ?_⟩, ⟨?_, ?_, ?_, ?_, ?_, ?_⟩, ⟨?_, ?_⟩⟩ <;> decide +kernel

/-- 2026-03-04 05:06:07 as a request gives it, after a leading byte or none. -/
def calendarReq (lead : List Byte) : Request := req (lead ++ leBytes 2 2026 ++ [3, 4, 5, 6, 7, 0] ++ leBytes 2 8)
/-- A compare descriptor of unit 7. -/
def cmp7 : CmpDesc := { CmpDesc.dflt with CMP_ID := 7#8, MODE := 1#8 }
/-- Witnesses of TimeCommandsAnswer. -/
theorem witness_TimeCommandsAnswer :
    ((base .stop).Accepts Cmd.timePtpSet (req PtpDesc.dflt.toBytes) ∧ (PtpDesc.ofBytes PtpDesc.dflt.toBytes).ok = true) ∧
    (base .run).Accepts Cmd.timePtpGet (req []) ∧ (base .run).Accepts Cmd.timeStatus (req []) ∧
    ((base .run).Accepts Cmd.timeCmpSet (req cmp7.toBytes) ∧ (CmpDesc.ofBytes cmp7.toBytes).CMP_ID.toNat = (7 : Fin 8).val ∧
      (CmpDesc.ofBytes cmp7.toBytes).ok = true ∧ (CmpDesc.ofBytes { cmp7 with OUT_EN := 1#1 }.toBytes).ok = false) ∧
    (base .run).Accepts Cmd.timeCmpGet (req [7]) ∧
    ((base .stop).Accepts Cmd.timeTciSet (req { TciDesc.dflt with TCI_ID := 1#8 }.toBytes) ∧
      (TciDesc.ofBytes { TciDesc.dflt with TCI_ID := 1#8 }.toBytes).TCI_ID.toNat = (1 : Fin 2).val) ∧
    (base .run).Accepts Cmd.timeRtcRead (req []) ∧
    ((base .run).Accepts Cmd.timeRtcSet (calendarReq []) ∧ calendarAt (calendarReq []) 0 = (⟨2026, 3, 4, 5, 6, 7⟩, 8) ∧
      Calendar.valid ⟨2026, 3, 4, 5, 6, 7⟩ 8 = true) ∧
    ((base .run).Accepts Cmd.timeRtcShift (req (leBytes 2 16384)) ∧ (BitVec.ofNat 16 ((req (leBytes 2 16384)).u16 0)).toInt = 16384 ∧
      (base .run).tm.rtc.shiftLeft = 0) ∧
    ((base .run).Accepts Cmd.timeRtcAlarm (calendarReq [1]) ∧ calendarAt (calendarReq [1]) 1 = (⟨2026, 3, 4, 5, 6, 7⟩, 8) ∧
      (calendarReq [1]).u8 0 = 1 ∧ (base .run).tm.rtc.counts < rtcCounts ⟨2026, 3, 4, 5, 6, 7⟩ 8) ∧
    ((base .run).Accepts Cmd.timeRtcAlarm (calendarReq [0]) ∧ (calendarReq [0]).u8 0 = 0) ∧
    (base .run).Accepts Cmd.timeRtcWake (req (leBytes 4 5529600)) ∧ (base .run).Accepts Cmd.timeClear (req [3, 0]) ∧
    (base .run).Accepts Cmd.timeClear (req [2, 0]) := by
  refine ⟨⟨⟨?_, ?_⟩, ?_⟩, ⟨?_, ?_⟩, ⟨?_, ?_⟩, ⟨⟨?_, ?_⟩, ?_, ?_, ?_⟩, ⟨?_, ?_⟩, ⟨⟨?_, ?_⟩, ?_⟩, ⟨?_, ?_⟩, ⟨⟨?_, ?_⟩, ?_, ?_⟩, ⟨⟨?_, ?_⟩, ?_, ?_⟩, ⟨⟨?_, ?_⟩, ?_, ?_, ?_⟩, ⟨⟨?_, ?_⟩, ?_⟩, ⟨?_, ?_⟩, ⟨?_, ?_⟩, ⟨?_, ?_⟩⟩ <;> decide +kernel

/-- The clock at a count, with its time set to 2 s at 0; PTP and the time unit changed. -/
def timeAs (t : Nat) (f : Time → Time) : State :=
  let s := base .run
  { s with tm := f { s.tm with c := t, baseTs := 2000000000, baseCnt := 0 } }
/-- Witnesses of ClockCompareAndRtcMove. -/
theorem witness_ClockCompareAndRtcMove :
    (timeAs 0 id).ptpUp = true ∧
    ((timeAs (sec 1) id).ptpUp = true ∧ (timeAs (sec 1) id).syncFresh 0 = false ∧ (timeAs (sec 1) id).tm.portSel = 0) ∧
    (let s := timeAs (sec 6) id
     s.tm.isMaster = false ∧ s.tm.announceAt + intervals s.tm.ptpAct.ANNOUNCE_TIMEOUT.toNat s.tm.ptpAct.LOG_ANNOUNCE.toInt ≤ s.now) ∧
    (let s := timeAs (sec 60) fun t => { t with clk := .holdover }
     s.firmwareUp = true ∧ s.tm.clk = .holdover ∧ s.tm.holdAlarm = false ∧ s.tm.holdAt + sec s.tm.ptpAct.HOLD_ALARM_S.toNat ≤ s.now) ∧
    (let s := timeAs 0 fun t => { t with cmp := upd t.cmp 7 fun x => { x with next := some 2000000000, pulse := some (0, 8, false) } }
     s.compareUp = true ∧ (s.tm.cmp.get 7).next = some 2000000000 ∧ (2000000000#64).toNat ≤ s.ts.toNat ∧
     (s.tm.cmp.get 7).pulse = some (0, 8, false) ∧ (0#64).toNat + (8#32).toNat ≤ s.ts.toNat) ∧
    (let s := timeAs 0 fun t => { t with tci := upd t.tci 1 fun x => { x with desc := { x.desc with EDGE_SEL := 1#8 }, queue := [⟨5, 1⟩] } }
     s.sys.phase = .serving ∧ (s.tm.tci.get 1).desc.takes true = true ∧ (s.tm.tci.get 1).lastAt = none ∧ s.firmwareUp = true ∧
     (s.tm.tci.get 1).queue = [⟨5, 1⟩]) ∧
    (timeAs 0 fun t => { t with rtc := { t.rtc with shiftLeft := -1 } }).tm.rtc.shiftLeft < 0 ∧
    0 < (timeAs 0 fun t => { t with rtc := { t.rtc with shiftLeft := 1 } }).tm.rtc.shiftLeft ∧
    (let r := (timeAs 0 fun t => { t with rtc := { t.rtc with alarm := some (⟨1999, 1, 1, 0, 0, 0⟩, 0), wakePeriod := 1, wakeNext := 1 } }).tm.rtc
     r.alarm = some (⟨1999, 1, 1, 0, 0, 0⟩, 0) ∧ rtcCounts ⟨1999, 1, 1, 0, 0, 0⟩ 0 ≤ r.counts ∧ r.wakePeriod ≠ 0 ∧ 512 * r.wakeNext ≤ r.counts) ∧
    (let r := (timeAs 0 fun t => { t with rtc := { t.rtc with leapArmed := true, cal := ⟨2026, 6, 30, 23, 59, 59⟩ } }).tm.rtc
     r.leapArmed = true ∧ r.cal.hour = 23 ∧ r.cal.minute = 59 ∧ r.cal.second = 59) ∧
    (let s := timeAs 0 fun t => { t with clk := .locked, utcValid := true }
     s.firmwareUp = true ∧ s.tm.clk = .locked ∧ s.tm.utcValid = true) := by
  refine ⟨?_, ⟨?_, ?_, ?_⟩, ⟨?_, ?_⟩, ⟨?_, ?_, ?_, ?_⟩, ⟨?_, ?_, ?_, ?_, ?_⟩, ⟨?_, ?_, ?_, ?_, ?_⟩, ?_, ?_, ⟨?_, ?_, ?_, ?_⟩, ⟨?_, ?_, ?_, ?_⟩, ⟨?_, ?_, ?_⟩⟩ <;> decide +kernel

/-- A heartbeat of a peer with a role. -/
def peerAs (r : Role) : PeerInfo :=
  { role := r, epoch := 0, mode := .run, heat := .h0, energy := .e0, faulty := false, doCmd := 0, soCmd := 0 }
/-- A module of a pair with a role, the link up or silent, PEER_OK_IN low; the peer's last heartbeat with a role. -/
def pairAs (m : Mode) (r : Role) (peer : Role) (up : Bool) (f : Pair → Pair) : State :=
  let s := base m
  { s with tm := { s.tm with c := sec 1 }
           pr := f { s.pr with act := { s.pr.act with PAIR_MODE := 1#8 }, role := r, peer := some (peerAs peer), lastFrame := if up then some (sec 1) else none } }
/-- Witnesses of PairCommandsAnswer: every branch of PAIR_SWAP and PAIR_READMIT. -/
theorem witness_PairCommandsAnswer :
    ((base .stop).Accepts Cmd.pairSet (req PairDesc.dflt.toBytes) ∧ (PairDesc.ofBytes PairDesc.dflt.toBytes).ok = true) ∧
    (base .run).Accepts Cmd.pairGet (req []) ∧ (base .run).Accepts Cmd.pairStatus (req []) ∧
    ((base .run).Accepts Cmd.pairSwap (req []) ∧ (base .run).paired = false) ∧
    ((pairAs .run .active .standby true fun p => { p with swapArm := true }).swapPendingNow = true) ∧
    ((pairAs .run .active .standby false id).pairSilent = true) ∧
    ((pairAs .run .active .standby true fun p => { p with stat := { p.stat with DIVERGE_FAULT := 1#1 } }).swapBlocked = true) ∧
    (let s := pairAs .run .active .standby true id
     s.Accepts Cmd.pairSwap (req []) ∧ s.paired = true ∧ s.swapPendingNow = false ∧ s.pairSilent = false ∧ s.peerRole = .standby ∧
     s.owner = true ∧ s.swapBlocked = false) ∧
    (let s := pairAs .run .quarantined .alone true id
     s.Accepts Cmd.pairReadmit (req []) ∧ s.paired = true ∧ s.pr.role = .quarantined ∧ s.pairSilent = false ∧ s.peerRole.owns = true) ∧
    (base .run).Accepts Cmd.pairClear (req [7]) ∧ (base .run).Accepts Cmd.pairClear (req [1]) := by
  refine ⟨⟨⟨?_, ?_⟩, ?_⟩, ⟨?_, ?_⟩, ⟨?_, ?_⟩, ⟨⟨?_, ?_⟩, ?_⟩, ?_, ?_, ?_, ⟨⟨?_, ?_⟩, ?_, ?_, ?_, ?_, ?_, ?_⟩, ⟨⟨?_, ?_⟩, ?_, ?_, ?_, ?_⟩, ⟨?_, ?_⟩, ⟨?_, ?_⟩⟩ <;> decide +kernel

/-- Witnesses of HeartbeatFramesAndWitnessMove. -/
theorem witness_HeartbeatFramesAndWitnessMove :
    (let s := pairAs .run .active .standby true id
     s.linkUp = true ∧ s.pr.heartbeatAt + us 50 ≤ s.now ∧ s.pr.heartbeatAt + us 75 ≤ s.now ∧ s.pr.role.owns = true ∧ s.pr.pulseAt + sec 1 ≤ s.now) ∧
    (let s := pairAs .run .standby .active false fun p => { p with peerOkIn := false }
     s.paired = true ∧ s.inRun = true ∧ s.pairSilent = true ∧ s.pr.role = .standby ∧ s.pr.act.WITNESS_EN = 0#1) ∧
    (let s := pairAs .stop .none .none false fun p => { p with peerOkIn := true, startWait := some 0 }
     s.pr.startWait.isSome = true ∧ s.pairSilent = true) ∧
    (let s := pairAs .run .active .standby false fun p => { p with peerOkIn := true }
     s.paired = true ∧ s.inRun = true ∧ s.pairSilent = true ∧ s.pr.role = .active ∧ s.pr.peerOkIn = true) ∧
    (let s := pairAs .run .syncing .active false id
     s.pairSilent = true ∧ s.pr.role = .syncing ∧ s.pr.peerOkIn = false) ∧
    (let s := pairAs .run .standby .active false fun p => { p with witnessAt := some 0 }
     s.asking = true ∧ s.pr.witnessAt = some 0 ∧ 0 + us s.pr.act.WITNESS_TIMEOUT_US.toNat ≤ s.now) ∧
    (let s := pairAs .run .standby .active false fun p => { p with witnessAsk := some 0 }
     s.asking = true ∧ s.pr.witnessAt = none ∧ s.pr.witnessAsk = some 0 ∧ 0 + ms 10 ≤ s.now) ∧
    (let s := pairAs .run .active .standby true fun p => { p with act := { p.act with WITNESS_EN := 1#1 }, witnessFor := [(1, 2, 2500, 0)] }
     s.linkUp = true ∧ s.pr.act.WITNESS_EN = 1#1 ∧ s.pr.witnessFor = [(1, 2, 2500, 0)] ∧ ((s.pr.presence.lookup 2).getD 0) + us (2500#16).toNat ≤ s.now) ∧
    (let s := State.setLoop (pairAs .run .active .standby true id) 255 { ((base .run).loop 255) with desc := { ((base .run).loop 255).desc with LAW := 1#8 } }
     s.runsLoops = true ∧ s.mirrors = true ∧ (s.loop 255).desc.LAW ≠ 0#8 ∧ (s.loop 255).mirrorAt + us 100 ≤ s.now) ∧
    (let s := { pairAs .run .active .standby true id with tm := { (base .run).tm with c := sec (60 * 1440) } }
     s.inRun = true ∧ s.paired = true ∧ s.pr.act.SWAP_MODE = 0#8 ∧ s.swapPendingNow = false ∧ s.pr.retryAt = none ∧ s.pr.stat.DIVERGE_FAULT = 0#1 ∧
     s.pr.lastSwapAt + sec (60 * s.pr.act.SWAP_PERIOD_MIN.toNat) ≤ s.now) ∧
    (let s := pairAs .run .active .standby true fun p => { p with retryAt := some 0 }
     s.swapPendingNow = false ∧ s.pr.retryAt = some 0 ∧ s.pr.swapByReq = false) ∧
    (let s := { pairAs .run .active .standby true fun p => { p with swapWait := some 0 } with tm := { (base .run).tm with c := sec 60 } }
     s.pr.swapWait = some 0 ∧ 0 + sec 60 ≤ s.now) ∧
    (let s := pairAs .run .syncing .active true fun p => { p with sync := some .secondPass, sigClean := true }
     s.owner = false ∧ s.pr.sync = some .secondPass ∧ s.pr.sigClean = true ∧
     (((idx 128).filter fun t => (s.task t).desc.KIND != 0#8).all s.pr.markersSeen.contains) = true) := by
  refine ⟨⟨?_, ?_, ?_, ?_, ?_⟩, ⟨?_, ?_, ?_, ?_, ?_⟩, ⟨?_, ?_⟩, ⟨?_, ?_, ?_, ?_, ?_⟩, ⟨?_, ?_, ?_⟩, ⟨?_, ?_, ?_⟩, ⟨?_, ?_, ?_, ?_⟩, ⟨?_, ?_, ?_, ?_⟩, ⟨?_, ?_, ?_, ?_⟩, ⟨?_, ?_, ?_, ?_, ?_, ?_, ?_⟩, ⟨?_, ?_, ?_⟩, ⟨?_, ?_⟩, ⟨?_, ?_, ?_, ?_⟩⟩ <;> decide +kernel

/-- A request for a part of an export of everything. -/
def exportRq (off : Nat) : Request := req (leBytes 8 0 ++ leBytes 8 0 ++ leBytes 4 0 ++ leBytes 4 off)
/-- A state with an export held by a session. -/
def exporting (k : Fin 17) : State :=
  let s := base .run
  { s with flow := { s.flow with exp := some (
      { session := k, fromSeq := 0, toSeq := 0, minSev := 0, next := 64, stream := List.replicate 64 0#8, nextSeq := 1, count := 0, whole := false, lastAt := 0 } : Export) } }
/-- Witnesses of RecorderCommandsAnswer. -/
theorem witness_RecorderCommandsAnswer :
    ((base .stop).Accepts Cmd.flowSet (req FlowDesc.dflt.toBytes) ∧ (FlowDesc.ofBytes FlowDesc.dflt.toBytes).inRange = true ∧
      (FlowDesc.ofBytes { FlowDesc.dflt with MIN_SEVERITY := 5#8 }.toBytes).inRange = false) ∧
    (base .run).Accepts Cmd.flowGet (req []) ∧ (base .run).Accepts Cmd.flowStatus (req []) ∧ (base .run).Accepts Cmd.flowFlush (req []) ∧
    ((base .run).Accepts Cmd.flowRead (req (leBytes 8 1 ++ [7, 63])) ∧ (req (leBytes 8 1 ++ [7, 63])).u8 9 = 63 ∧ (req (leBytes 8 1 ++ [7, 63])).u8 8 = 7) ∧
    ((base .run).Accepts Cmd.flowRead (req (leBytes 8 1 ++ [7, 64])) ∧ (req (leBytes 8 1 ++ [7, 64])).u8 9 = 64) ∧
    ((base .run).Accepts Cmd.flowExport (exportRq 0) ∧ (base .run).flow.exp = none ∧ (exportRq 0).u64 0 ≤ (exportRq 0).u64 8 ∧ (exportRq 0).u8 16 ≤ 7 ∧
      (exportRq 0).u32 20 = 0) ∧
    ((exporting 0).Accepts Cmd.flowExport (exportRq 64) ∧ (exporting 0).flow.exp.isSome = true ∧ (exportRq 64).u32 20 = 64 ∧ (exportRq 64).u8 16 ≤ 7) ∧
    ((exporting 1).Accepts Cmd.flowExport (exportRq 64) ∧ ((exporting 1).flow.exp.map (·.session)) = some 1) ∧
    ((exporting 0).Accepts Cmd.flowExport (exportRq 65) ∧ (exportRq 65).u32 20 = 65) ∧
    (base .run).Accepts Cmd.flowClear (req []) := by
  refine ⟨⟨⟨?_, ?_⟩, ?_, ?_⟩, ⟨?_, ?_⟩, ⟨?_, ?_⟩, ⟨?_, ?_⟩, ⟨⟨?_, ?_⟩, ?_, ?_⟩, ⟨⟨?_, ?_⟩, ?_⟩, ⟨⟨?_, ?_⟩, ?_, ?_, ?_, ?_⟩, ⟨⟨?_, ?_⟩, ?_, ?_, ?_⟩,
    ⟨⟨?_, ?_⟩, ?_⟩, ⟨⟨?_, ?_⟩, ?_⟩, ⟨?_, ?_⟩⟩ <;> decide +kernel

/-- A record of a severity and a number. -/
def recOf (sev : BitVec 3) (seq : BitVec 48) : FlowRec := { FlowRec.dflt with SEVERITY := sev, SEQ := seq }
/-- A task's call of FLOW_REC. -/
def callOf (sev : BitVec 3) : TaskRec := (0, sev, 5, 0)
/-- Witnesses of RecorderEventsComplete. -/
theorem witness_RecorderEventsComplete :
    (let s := (base .run).setTask 3 fun k => { k with run := .running }
     (s.task 3).run = .running ∧ (s.task 3).msgQueue = [] ∧ ((s.queueRecord 3 (callOf 5)).task 3).msgQueue = [callOf 5] ∧
       ((s.queueRecord 3 (callOf 6)).task 3).msgQueue = []) ∧
    (let s := (base .run).setTask 3 fun k => { k with msgQueue := List.replicate 16 (callOf 4) }
     (s.task 3).run ≠ .running ∧ 16 ≤ (s.task 3).msgQueue.length ∧ (s.queueRecord 3 (callOf 4)).flow.stat.TASK_REC_DROP = 1#32) ∧
    (let s := { base .run with tm := { (base .run).tm with c := sec 86400 } }
     s.flowRuns = true ∧ s.flow.flushAt + sec 1 ≤ s.now ∧ s.compactHeld = false ∧ s.flow.compactAt + sec 86400 ≤ s.now) ∧
    (let s := { base .run with flow := { (base .run).flow with flushOn := true, staging := [recOf 4 1], flushing := [recOf 4 1] } }
     s.flow.flushOn = true ∧ s.flow.flushRqs = [] ∧ s.flow.flushAgain = false) ∧
    ({ base .run with pow := { (base .run).pow with heat := .h1, budgetStale := true } }.compactHeld = true) ∧
    ((exporting 0).flow.exp.map (·.lastAt) = some 0 ∧ 0 + sec 60 ≤ { exporting 0 with tm := { (exporting 0).tm with c := sec 60 } }.now) := by
  decide +kernel

/-- Witnesses of NotesThatAreNotStagedAnswerZero. -/
theorem witness_NotesThatAreNotStagedAnswerZero :
    (let rq := req (0 :: List.replicate 35 0)
     (base .run).Accepts Cmd.flowNote rq ∧ rq.u8 0 < (base .run).flow.act.MIN_SEVERITY.toNat) ∧
    (let rq := req (3 :: List.replicate 35 0)
     (base .run).Accepts Cmd.flowNote rq ∧ rq.u8 0 ≤ 3 ∧ (base .run).flow.act.MIN_SEVERITY.toNat ≤ rq.u8 0 ∧
       ((base .run).flow.rate.filter fun t => (base .run).now < t + sec 10).length < (base .run).flow.act.RATE_LIMIT.toNat ∧
       (base .run).flow.staging.length < 131072) ∧
    (let s := { base .run with flow := { (base .run).flow with act := { FlowDesc.dflt with RATE_LIMIT := 2#32 }, rate := [0, 0] } }
     s.Accepts Cmd.flowNote (req (1 :: List.replicate 35 0)) ∧
       s.flow.act.RATE_LIMIT.toNat ≤ (s.flow.rate.filter fun t => s.now < t + sec 10).length) ∧
    (∃ s : State, s.Accepts Cmd.flowNote (req (1 :: List.replicate 35 0)) ∧ s.flow.act.MIN_SEVERITY.toNat ≤ 1 ∧
       (s.flow.rate.filter fun t => s.now < t + sec 10).length < s.flow.act.RATE_LIMIT.toNat ∧ 131072 ≤ s.flow.staging.length) := by
  refine ⟨⟨⟨?_, ?_⟩, ?_⟩, ⟨⟨?_, ?_⟩, ?_, ?_, ?_, ?_⟩, ⟨⟨?_, ?_⟩, ?_⟩,
    ⟨{ base .run with flow := { (base .run).flow with staging := List.replicate 131072 FlowRec.dflt } }, ⟨?_, ?_⟩, ?_, ?_, by simp only [List.length_replicate]; omega⟩⟩ <;> decide +kernel

/-- A request for a rectangle, with what follows it. -/
def rectRq (x y w h : Nat) (rest : List Byte) : Request := req (leBytes 2 x ++ leBytes 2 y ++ leBytes 2 w ++ leBytes 2 h ++ rest)
/-- A state whose panel has a checked waveform set, and some requests waiting. -/
def panelAs (n : Nat) : State :=
  let s := base .run
  { s with pnl := { s.pnl with wavesOk := true, queue := List.replicate n ({ x := 0, y := 0, w := 8, h := 1, zone := 0, clean := false, forced := false, redraw := none, atBoot := false, levels := [], seq := 1 } : PanelReq) } }
/-- Witnesses of PanelCommandsAnswer. -/
theorem witness_PanelCommandsAnswer :
    ((base .stop).Accepts Cmd.pnlSet (req PanelDesc.dflt.toBytes) ∧ (PanelDesc.ofBytes PanelDesc.dflt.toBytes).inRange = true ∧
      (PanelDesc.ofBytes { PanelDesc.dflt with WIDTH := 1032#16 }.toBytes).inRange = false) ∧
    (base .run).Accepts Cmd.pnlGet (req []) ∧ (base .run).Accepts Cmd.pnlStatus (req []) ∧
    ((base .stop).Accepts Cmd.pnlWaveLoad (req (leBytes 4 34944 ++ [0])) ∧ 34944 < (req (leBytes 4 34944 ++ [0])).u32 0 + 1) ∧
    ((base .stop).Accepts Cmd.pnlWaveLoad (req (leBytes 4 34943 ++ [0])) ∧ (req (leBytes 4 34943 ++ [0])).u32 0 + 1 = 34944 ∧
      ¬ 34943 ≤ (base .stop).pnl.wavesTo) ∧
    (waveBalanced 0 (waveFrames [0x39#8]) = true ∧ waveBalanced 0 (waveFrames [0x31#8]) = false) ∧
    ((base .run).Accepts Cmd.pnlDraw (rectRq 0 0 8 1 (leBytes 4 0 ++ [0x12, 0x34, 0x56, 0x78])) ∧ (base .run).pnl.act.fits 0 0 8 1 = true ∧
      (base .run).pnl.act.fits 1016 767 8 1 = true ∧ (base .run).pnl.act.fits 1016 767 16 1 = false ∧
      (base .run).pnl.act.onMarker 952 0 8 1 = false ∧ (base .run).pnl.act.onMarker 960 15 8 1 = true ∧ (base .run).pnl.act.onMarker 960 16 8 1 = false) ∧
    ((panelAs 15).Accepts Cmd.pnlUpdate (rectRq 0 0 8 1 [0]) ∧ (panelAs 15).pnl.queue.length < 16 ∧ 16 ≤ (panelAs 16).pnl.queue.length ∧
      (panelAs 15).pnl.wavesOk = true ∧ (base .run).pnl.wavesOk = false) ∧
    (base .run).Accepts Cmd.pnlClear (req []) := by
  refine ⟨⟨⟨?_, ?_⟩, ?_, ?_⟩, ⟨?_, ?_⟩, ⟨?_, ?_⟩, ⟨⟨?_, ?_⟩, ?_⟩, ⟨⟨?_, ?_⟩, ?_, ?_⟩, ?_, ⟨⟨?_, ?_⟩, ?_, ?_, ?_, ?_, ?_, ?_⟩,
    ⟨⟨?_, ?_⟩, ?_, ?_, ?_, ?_⟩, ⟨?_, ?_⟩⟩ <;> decide +kernel
/-- A whole waveform set without a drive is balanced, and one with a single drive is not. -/
theorem witness_PanelCommandsAnswer_sets : badWave [] = none ∧ badWave (Memory.write [] 128 [1#8]) = some (0, 0) ∧
    Memory.write [] 34943 [0#8] = [] ∧ (req (leBytes 4 34943 ++ [0])).u32 0 ≤ 34943 ∧ max 34943 ((req (leBytes 4 34943 ++ [0])).u32 0 + 1) = 34944 := by
  refine ⟨?_, by decide +kernel⟩
  have h : ∀ b e, waveAt [] b e = List.replicate 16 0#8 := fun _ _ => rfl
  have h2 : waveBalanced 0 (waveFrames (List.replicate 16 0#8)) = true := by decide +kernel
  simp only [badWave, List.find?_eq_none, h, h2]; simp

/-- An update in flight that has had some of its frames. -/
def updAt (frames length : Nat) (abort : Bool) : PanelUpd :=
  { req := { x := 0, y := 0, w := 8, h := 1, zone := 0, clean := false, forced := false, redraw := none, atBoot := false, levels := [], seq := 7 },
    phase := false, band := 3, vcom := 0, railMv := 0, table := [], frames := frames, length := length, entry := 2, abort := abort }
/-- A state with an update in flight. -/
def flying (u : PanelUpd) : State := { base .run with pnl := { (base .run).pnl with flight := [u] } }
/-- Witnesses of PanelUpdatesRun. -/
theorem witness_PanelUpdatesRun :
    ((base .run).pick [] (base .run).pnl.queue).isNone = true ∧ ((panelAs 2).pick [] (panelAs 2).pnl.queue).isSome = true ∧
    ((panelAs 1).pnl.entryFor (updAt 0 1 false).req = some 0) ∧ (base .run).pnl.flight = [] ∧
    ((flying (updAt 3 5 false)).pnl.flight = [updAt 3 5 false] ∧ 3 + 1 < (updAt 3 5 false).length ∧ (updAt 4 5 false).length ≤ 4 + 1) ∧
    (flying (updAt 4 5 true)).pnl.flight = [updAt 4 5 true] ∧
    (let s := { panelAs 0 with pnl := { (panelAs 0).pnl with railsOn := true }, tm := { (base .run).tm with c := ms 100 } }
     s.pnl.railsOn = true ∧ s.pnl.flight = [] ∧ s.pnl.idleSince + ms s.pnl.act.IDLE_MS.toNat ≤ s.now) := by decide +kernel

/-- Witnesses of StartCommandsAnswer. -/
theorem witness_StartCommandsAnswer :
    ((base .stop).Accepts Cmd.sysEnable (req [1]) ∧ (base .stop).enabling = false ∧
      { base .stop with sys := { (base .stop).sys with check := some ⟨.runEn, false⟩ } }.enabling = true) ∧
    (base .run).Accepts Cmd.sysStop (req [0]) ∧ (base .halt).Accepts Cmd.sysRestart (req [1]) ∧ (base .halt).Accepts Cmd.sysBootInfo (req []) ∧
    ((base .stop).Accepts Cmd.sysStartSet (req StartDesc.dflt.toBytes) ∧ (StartDesc.ofBytes StartDesc.dflt.toBytes) = StartDesc.dflt) ∧
    (base .run).Accepts Cmd.sysStartGet (req []) ∧ (base .minimal).Accepts Cmd.sysFwLoad (req (leBytes 4 16777215 ++ [1, 2])) ∧
    (base .minimal).Accepts Cmd.sysFwActivate (req []) ∧
    ({ base .boot with sys := { (base .boot).sys with mode := .boot, phase := .recovery } }.Accepts Cmd.sysFwActivate (req [])) := by
  refine ⟨⟨⟨?_, ?_⟩, ?_, ?_⟩, ⟨?_, ?_⟩, ⟨?_, ?_⟩, ⟨?_, ?_⟩, ⟨⟨?_, ?_⟩, ?_⟩, ⟨?_, ?_⟩, ⟨?_, ?_⟩, ⟨?_, ?_⟩, ⟨?_, ?_⟩⟩ <;> decide +kernel

/-- A state in a mode and phase, at a count of the timebase. -/
def inPhase (m : Mode) (p : Phase) (t : Nat) : State :=
  let s := base m
  { s with sys := { s.sys with phase := p, mode := m }, tm := { s.tm with c := t } }
/-- Witnesses of ResetsTakeTheModuleToBoot. -/
theorem witness_ResetsTakeTheModuleToBoot :
    ((base .run).sys.phase ≠ .off ∧ (base .run).pow.pfStage = .idle) ∧ (inPhase .off .off 0).sys.phase = .off ∧
    (let s := inPhase .boot .firmware (sec 5); s.sys.phase = .firmware ∧ s.sys.firmwareAt + sec 5 ≤ s.now) ∧
    (let s := inPhase .halt .serving (sec 30); s.sys.mode = .halt ∧ s.sys.startAct.HALT_RESTART_S ≠ 0#16 ∧
      s.sys.haltAt + sec s.sys.startAct.HALT_RESTART_S.toNat ≤ s.now) ∧
    ({ State.reset with sys := { State.reset.sys with startAct := { StartDesc.dflt with HALT_RESTART_S := 0#16 } } }.sys.startAct.HALT_RESTART_S = 0#16) ∧
    (let s := { inPhase .run .held (ms 100) with pow := { (base .run).pow with pfStage := .wait, waitOkSince := some 0 } }
     s.sys.phase ≠ .off ∧ s.pow.pfStage = .wait ∧ s.pow.waitOkSince = some 0 ∧ 0 + ms 100 ≤ s.now) ∧
    (let s := inPhase .boot .held 0; s.sys.phase = .held ∧ s.pow.pfStage = .idle ∧ s.sys.romFault = false ∧ s.sys.coldHold = none) ∧
    (let s := { inPhase .boot .held (sec 60) with sys := { (inPhase .boot .held 0).sys with coldHold := some 0 } }
     s.sys.coldHold = some 0 ∧ 0 + sec 60 ≤ s.now ∧ s.pow.startTemp = none) ∧
    (let s := { inPhase .boot .held 0 with
       sys := { (inPhase .boot .held 0).sys with coldHold := some 0 }, pow := { (base .boot).pow with temps := Vector.replicate 6 (List.replicate 8 320#16) } }
     s.sys.coldHold.isSome = true ∧ s.pow.startTemp = some 320 ∧ s.sys.lowerLimit ≤ 320) ∧
    { inPhase .boot .held 0 with sys := { (inPhase .boot .held 0).sys with romFault := true } }.sys.romFault = true := by
  decide +kernel

/-- Witnesses of BootRunsToStopOrMinimal. -/
theorem witness_BootRunsToStopOrMinimal :
    (inPhase .boot .rom 0).sys.phase = .rom ∧ (∀ i, ((base .boot).sys.slot.get i).state = .empty ∨ ((base .boot).sys.slot.get i).state = .invalid) ∧
    (inPhase .boot .firmware 0).sys.phase = .firmware ∧
    (let y := { Sys.init with slot := Vector.replicate 2 (⟨.trial, [], 0, 1, 1⟩ : FwSlot) }; (y.slot.get y.runningSlot).state = .trial) ∧
    ((inPhase .run .serving (sec 60)).sys.mode = .run ∧ (inPhase .run .serving (sec 60)).sys.runAt + sec 60 ≤ (inPhase .run .serving (sec 60)).now) := by
  decide +kernel

/-- Witnesses of EnableRunsItsCourse. -/
theorem witness_EnableRunsItsCourse :
    (let s := base .stop; s.host.runEn = false ∧ s.enabling = false ∧ s.serves 0 = true ∧ s.sys.mode = .stop ∧ s.firmwareUp = true ∧ s.sys.autoDone = false) ∧
    (let s := { base .run with host := { (base .run).host with runEn := true } }; s.host.runEn = true ∧ s.enabling = false ∧ s.serves 0 = true ∧ s.sys.mode = .run) ∧
    (let s := { base .stop with sys := { (base .stop).sys with check := some ⟨.automatic, true⟩ } }
     s.sys.check = some ⟨.automatic, true⟩ ∧ s.firmwareUp = true ∧ s.enabling = true) ∧
    (let s := pairAs .stop .none .none false fun p => { p with startWait := some 0, peerOkIn := false, act := { p.act with START_WAIT_MS := 1000#16 } }
     s.pr.startWait = some 0 ∧ 0 + ms s.pr.act.START_WAIT_MS.toNat ≤ s.now ∧ s.peerGone = true ∧ s.pr.act.WITNESS_EN ≠ 1#1 ∧ s.pr.witnessAsk = none) ∧
    (let s := pairAs .stop .none .none false fun p => { p with startWait := some 0, peerOkIn := false, act := { p.act with START_WAIT_MS := 1000#16, WITNESS_EN := 1#1 } }
     0 + ms s.pr.act.START_WAIT_MS.toNat ≤ s.now ∧ s.peerGone = true ∧ s.pr.act.WITNESS_EN = 1#1) ∧
    (let s := { base .stop with sys := { (base .stop).sys with starting := some ⟨.runEn, false⟩, t0 := 0 } }
     s.sys.starting.isSome = true ∧ s.firmwareUp = true ∧ s.sys.mode = .stop ∧ s.sys.t0 ≤ s.now ∧ s.now % ms 1 = 0 ∧ s.pr.startWait = none) ∧
    (let s := { base .stop with sys := { (base .stop).sys with starting := some ⟨.runEn, false⟩, t0 := 0 }, pr := { (base .stop).pr with startWait := some 0 } }
     s.sys.starting.isSome = true ∧ s.pr.startWait.isSome = true ∧ s.pairSilent = true) := by
  decide +kernel

/-- A request of a network session with a payload. -/
def netReq (k : Fin 17) (payload : List Byte) : Request := ⟨k, none, 0x1234#16, payload, 0⟩
/-- Witnesses of SessionCommandsAnswer. -/
theorem witness_SessionCommandsAnswer :
    (base .run).Accepts Cmd.sysSessionList (req []) ∧
    ((base .run).Accepts Cmd.sysSessionClose (req [16]) ∧ (req [16]).u8 0 = 16 ∧ (((base .run).receive (req [16])).host.session.get 16).open_ = true) ∧
    ((base .run).Accepts Cmd.sysSessionClose (req [17]) ∧ 17 ≤ (req [17]).u8 0) ∧
    ((base .stop).Accepts Cmd.sysTrustSet (netReq 5 []) ∧ (netReq 5 []).session ≠ 0) ∧
    ((base .stop).Accepts Cmd.sysTrustSet (req []) ∧ (req []).session = 0 ∧ certificates 5 [] = some [] ∧
      certificates 5 ([1, 0, 9] ++ [1, 0, 9] ++ [1, 0, 9] ++ [1, 0, 9]) = some [[9], [9], [9], [9]] ∧ certificates 5 [2, 0, 9] = none) ∧
    (base .run).Accepts Cmd.sysTrustGet (req []) ∧
    ((base .stop).Accepts Cmd.sysSessSet (req SessDesc.dflt.toBytes) ∧ (SessDesc.ofBytes SessDesc.dflt.toBytes).inRange = true ∧
      (SessDesc.ofBytes { SessDesc.dflt with PREFIX := 22#8 }.toBytes).inRange = false) ∧
    (base .run).Accepts Cmd.sysSessGet (req []) := by
  refine ⟨⟨?_, ?_⟩, ⟨⟨?_, ?_⟩, ?_, ?_⟩, ⟨⟨?_, ?_⟩, ?_⟩, ⟨⟨?_, ?_⟩, ?_⟩, ⟨⟨?_, ?_⟩, ?_, ?_, ?_, ?_⟩, ⟨?_, ?_⟩, ⟨⟨?_, ?_⟩, ?_, ?_⟩, ⟨?_, ?_⟩⟩ <;> decide +kernel

/-- A state with a mailbox in a state, perhaps an application's since a count. -/
def mailboxIn (st : MbState) (app : Option Nat) (t : Nat) : State :=
  let s := base .run
  { s with tm := { s.tm with c := t }
           host := { s.host with
             mb := put s.host.mb 3 ({ Mailbox.init with state := st, appAt := app } : Mailbox)
             sessAct := if app.isSome then { s.host.sessAct with MB_APP := 8#8 } else s.host.sessAct
             appReply := put s.host.appReply 3 (some (List.replicate 16 0#8)) } }
/-- A message that waits. -/
def waits (mb : Option (Fin 8)) (code : BitVec 16) : Waiting := { code := code, length := 0, rq := ⟨0, mb, 1, [], 0⟩ }
/-- A state in which one message waits. -/
def waiting1 (w : Waiting) : State := { base .run with host := { (base .run).host with waiting := [w] } }
/-- Witnesses of HostPortAndMailboxesMove. -/
theorem witness_HostPortAndMailboxesMove :
    ((mailboxIn .empty none 0).hostPortUp = true ∧ ((mailboxIn .empty none 0).host.mb.get 3).state = .empty ∧
      ((mailboxIn .empty none 0).host.isApp 3 && (mailboxIn .empty none 0).serves 0) = false) ∧
    ((mailboxIn .done none 0).host.mb.get 3).state = .done ∧ ((mailboxIn .posted none 0).host.mb.get 3).state = .posted ∧
    { base .run with host := { (base .run).host with inL0 := true } }.host.inL0 = true ∧
    (let s := { base .run with tm := { (base .run).tm with c := sec 1 }, host := { (base .run).host with outOfL0 := some 0 } }
     s.host.outOfL0 = some 0 ∧ 0 + sec 1 ≤ s.now) ∧
    (base .run).nextMessage = none ∧
    ((waiting1 (waits (some 2) 0x0133)).nextMessage = some (waits (some 2) 0x0133) ∧ (waiting1 (waits (some 2) 0x0133)).host.isApp 2 = false) ∧
    ((waiting1 (waits none 0x0001)).nextMessage = some (waits none 0x0001) ∧ (servedBy (waits none 0x0001).code).isNone = true) ∧
    (let s := mailboxIn .busy (some 0) (ms 100)
     (s.host.appReply.get 3).isSome = true ∧ (s.host.mb.get 3).state = .busy ∧ s.host.isApp 3 = true ∧ s.sys.supervisorDead = false ∧
     (s.host.mb.get 3).appAt = some 0 ∧ 0 + ms s.host.sessAct.APP_TIMEOUT_MS.toNat ≤ s.now) ∧
    ((base .run).sys.phase = .serving ∧ (inPhase .boot .firmware 0).sys.phase = .firmware) := by decide +kernel

/-- A client's certificate. -/
def certOf (ok : Bool) : ClientCert := { chainOk := ok, role := 2, certId := 7, notBefore := 0, notAfter := 0, peer := 0x0A500020 }
/-- A state without an open session, with an anchor. -/
def anchored : State := { base .run with host := { (base .run).host with session := Vector.replicate 17 Session.init, anchors := [[1]] } }
/-- Witnesses of SessionsOpenAndClose. -/
theorem witness_SessionsOpenAndClose :
    ({ base .run with host := { (base .run).host with barred := [(0x0A500020, 0)] } }.host.barred.any fun b => b.1 == (certOf true).peer) = true ∧
    (let s := anchored
     s.sys.phase = .serving ∧ s.sys.supervisorDead = false ∧ (s.host.barred.any fun b => b.1 == (certOf true).peer) = false ∧
     (certOf false).chainOk = false ∧ (certOf true).chainOk = true ∧ s.host.anchors ≠ [] ∧ s.datesOk (certOf true) = true ∧
     s.host.openCount < s.host.sessAct.MAX_SESSIONS.toNat ∧ s.host.freeSession = some 1) ∧
    (let m : List Byte := [0x33, 0x01, 0, 0, 0xF0, 0x0F, 0, 0, 0, 0, 0, 0, 0, 0, 0, 0]
     ((base .run).host.session.get 1).open_ = true ∧ u16 m 4 = 4080 ∧ u8 m 7 % 2 ≠ 1 ∧ 16 ≤ m.length) ∧
    (let m : List Byte := [0x33, 0x01, 0, 0, 0xF1, 0x0F, 0, 0, 0, 0, 0, 0, 0, 0, 0, 0]; 4080 < u16 m 4 ∧ 16 ≤ m.length) ∧
    (let m : List Byte := [0x33, 0x01, 0, 0, 0, 0, 0, 0, 0, 0, 0, 0, 0, 0, 0, 0]; u16 m 4 ≤ 4080 ∧ 16 + u16 m 4 ≤ m.length) ∧
    (let s := { base .run with tm := { (base .run).tm with c := sec 600 } }
     s.host.sessAct.IDLE_S ≠ 0#16 ∧ (s.host.session.get 1).lastAt + sec s.host.sessAct.IDLE_S.toNat ≤ s.now) ∧
    (anchored.host.session.get 1).open_ = false := by decide +kernel

/-- Witness of StepRunsTheFrontCommand: an empty queue. -/
theorem witness_StepRunsTheFrontCommand : State.reset.pending = [] := rfl

/-- Witness of EveryCommandCompletesAndLeavesTheQueue: two commands that wait run in their order. -/
theorem witness_EveryCommandCompletesAndLeavesTheQueue :
    ({ State.reset with pending := [.aliveTick, .rtcWake] } : State).pending.length = 2 := rfl

/-- The state after reset is sound. -/
theorem reset_sound : State.reset.Sound := by
  refine ⟨⟨fun c => ?_, rfl⟩, ⟨rfl, Nat.le_refl _⟩, ⟨fun n => ?_, fun n => ?_⟩⟩
  · revert c; decide +kernel
  · revert n; decide +kernel
  · revert n; decide +kernel
/-- Witness of EveryStepKeepsSoundness: the state after reset with a command that waits. -/
theorem witness_EveryStepKeepsSoundness :
    ({ State.reset with pending := [.aliveTick] } : State).Sound ∧ ({ State.reset with pending := [.aliveTick] } : State).QueueWf ∧
      (exec .aliveTick State.reset ≠ .fault .none) := by
  refine ⟨⟨reset_sound.gro, reset_sound.flow, reset_sound.host⟩, ?_, ?_⟩
  · intro c h
    simp only [List.mem_singleton] at h
    subst h; rfl
  · intro h; cases h

/-- Witness of ResetIsAsTheSpecSays: it has no hypotheses; the state after reset is one. -/
theorem witness_ResetIsAsTheSpecSays : State.reset.sys.mode = .boot := rfl

/-- A record of a log that is full: severity 3, the one in slot 0 older than the others. -/
def oldRec (i : Nat) : FlowRec := { FlowRec.dflt with SEVERITY := 3#3, SEQ := if i = 0 then 1#48 else 2#48 }
/-- A log body with `n` slots taken. -/
def logOf (n : Nat) : Flow := { Flow.init with log := (List.range' 0 n).map fun i => (i, oldRec i) }
theorem range_rise (k n : Nat) (h : k + n ≤ logSlots) : slotsRise k ((List.range' k n).map fun i => (i, oldRec i)) = true := by
  induction n generalizing k with
  | zero => rfl
  | succ n ih =>
    rw [List.range'_succ, List.map_cons]
    simp only [slotsRise, Bool.and_eq_true, decide_eq_true_eq]
    exact ⟨⟨Nat.le_refl _, by omega⟩, ih (k + 1) (by omega)⟩
theorem logOf_at (k n j : Nat) : (((List.range' k n).map fun i => (i, oldRec i)).find? fun e => e.1 == j).map (·.2)
    = if k ≤ j ∧ j < k + n then some (oldRec j) else none := by
  induction n generalizing k with
  | zero => rw [if_neg (by omega)]; rfl
  | succ n ih =>
    rw [List.range'_succ, List.map_cons, List.find?_cons]
    by_cases h : k = j
    · subst h
      rw [if_pos (by omega)]; simp
    · have e : ((k, oldRec k).1 == j) = false := by simpa using h
      rw [e]
      simp only [ih]
      by_cases g : k + 1 ≤ j ∧ j < k + 1 + n
      · rw [if_pos g, if_pos (by omega)]
      · rw [if_neg g, if_neg (by omega)]
theorem logOf_get (n j : Nat) : (logOf n).at j = if j < n then some (oldRec j) else none := by
  have := logOf_at 0 n j
  simp only [Nat.zero_le, true_and, Nat.zero_add] at this
  exact this
/-- Witnesses of FullLogPlacement: a log with its last slot free, and a full one that takes, replaces and drops. -/
theorem witness_FullLogPlacement :
    (slotsRise 0 (logOf 4194303).log = true ∧ (logOf 4194303).at 4194303 = none ∧ ∀ j, j < 4194303 → (logOf 4194303).at j ≠ none) ∧
    (slotsRise 0 (logOf logSlots).log = true ∧ (∀ j, j < logSlots → (logOf logSlots).at j ≠ none) ∧ (logOf logSlots).OldestLowest 0 (oldRec 0) ∧
      (oldRec 0).SEVERITY.toNat ≤ 3) ∧
    ((∀ j q, (logOf logSlots).at j = some q → (2#3).toNat < q.SEVERITY.toNat) ∧ (logOf logSlots).at 5 = some (oldRec 5)) := by
  refine ⟨⟨range_rise 0 _ (by decide), ?_, ?_⟩, ⟨range_rise 0 _ (by decide), ?_, ⟨?_, ?_, ?_⟩, by decide⟩, ?_, ?_⟩
  · rw [logOf_get]; exact if_neg (by omega)
  · intro j h; rw [logOf_get, if_pos h]; exact Option.some_ne_none _
  · intro j h; rw [logOf_get, if_pos h]; exact Option.some_ne_none _
  · rw [logOf_get]; exact if_pos (by decide)
  · intro j q h
    rw [logOf_get] at h
    split at h
    · cases h; exact Nat.le_refl _
    · cases h
  · intro j q n h e
    rw [logOf_get] at h
    split at h
    · cases h
      simp only [oldRec, n, if_true, if_false]; decide
    · cases h
  · intro j q h
    rw [logOf_get] at h
    split at h
    · cases h
      show (2#3).toNat < (3#3).toNat
      decide
    · cases h
  · rw [logOf_get]; exact if_pos (by decide)

/-- Witness of ViewCommandsChangeOnlyTheHost: an accepted request, which its mailbox answers. -/
theorem witness_ViewCommandsChangeOnlyTheHost : (base .run).Accepts Cmd.diagGrottoStatus (req []) := by
  refine ⟨?_, ?_⟩ <;> decide +kernel

/-- Witnesses of RepliesReachMailboxes: a mailbox, an open network session, and a request whose session has closed. -/
theorem witness_RepliesReachMailboxes :
    ((req []).mailbox = some 0 ∧ (base .run).host.orphans = [] ∧ ((base .run).host.mb.get 0).data.wf = true) ∧
    (({ req [] with mailbox := none, session := 3 } : Request).mailbox = none ∧
      ((base .run).host.session.get 3).open_ = true ∧ (base .run).host.orphans = []) ∧
    (req [] ∈ ({ (base .run) with host := { (base .run).host with orphans := [req []] } } : State).host.orphans) := by
  refine ⟨⟨?_, ?_, ?_⟩, ⟨?_, ?_, ?_⟩, ?_⟩ <;> decide +kernel

/-- Witness of DescriptorsRoundTrip: it has no hypotheses; a layout with every bit of a field set. -/
theorem witness_DescriptorsRoundTrip : (PowerDesc.ofBytes PowerDesc.dflt.toBytes) = PowerDesc.dflt := by decide +kernel

/-! ### Ill-formed commands: one for each check of Instr.wf -/

theorem test_wf_long_request : (Instr.loopGet (req (List.replicate 4081 0#8))).wf = false := by decide +kernel
theorem test_wf_mailbox_of_a_network_session : (Instr.loopGet { req [] with session := 3 }).wf = false := by decide
theorem test_wf_mailbox_write_past_its_end : (Instr.mailboxWrite 0 4095 [1, 2]).wf = false := by decide
theorem test_wf_empty_register_write : (Instr.registerWriteOther 0 []).wf = false := by decide
theorem test_wf_message_without_header : (Instr.sessionMessageReceive 1 [0]).wf = false := by decide
theorem test_wf_message_of_session_0 : (Instr.sessionMessageReceive 0 (List.replicate 16 0#8)).wf = false := by decide
theorem test_wf_holdup_reading : (Instr.holdupMeasure 65536).wf = false := by decide
theorem test_wf_rail_number : (Instr.logicRailFault 65536).wf = false := by decide
theorem test_wf_port_request_of_nine_lines : (Instr.grottoRequest [(0, { laneWrite with lines := 9 })]).wf = false := by decide
theorem test_wf_port_write_beyond_its_lines : (Instr.grottoRequest [(0, { laneWrite with write := some (List.replicate 65 0#8) })]).wf = false := by decide
theorem test_wf_long_process_data : (Instr.processDataReceive 1 true 0 0 (List.replicate 1401 0#8)).wf = false := by decide +kernel
theorem test_wf_wide_base_identifier : (Instr.canFrameReceive 0 (frameOf 2048) 0 0).wf = false := by decide
theorem test_wf_remote_fd_frame : (Instr.canFrameReceive 0 { frameOf 0x40000000 with fdf := true } 0 0).wf = false := by decide
theorem test_wf_bit_rate_switch_of_a_classical_frame : (Instr.canFrameReceive 0 { frameOf 5 with brs := true } 0 0).wf = false := by decide
theorem test_wf_empty_network_frame : (Instr.netFrameReceive (supervision 0)).wf = false := by decide
theorem test_wf_empty_ptp_message : (Instr.ptpMessageSend []).wf = false := by decide
theorem test_wf_memory_out_of_order : (Instr.pairFrameReceive true (.bulkAll 0 [(1, 1), (0, 1)])).wf = false := by decide
theorem test_wf_slot_beyond_the_log : (Instr.compactionPass [4194304]).wf = false := by decide

/-! ### Worked examples and figures of the spec -/

/-- R279: 4 mA is 10486, 20 mA is 52429, 3.6 mA is 9437 and 21.0 mA is 55050. -/
theorem test_current_codes : [4000000, 20000000, 3600000, 21000000].map (fun n => currentCode (nA n)) = [10486, 52429, 9437, 55050] := by decide

/-- Chapter 7: at 1600 LSB/s a sample of 200 µs moves the set-point 0.32 LSB. -/
theorem test_setpoint_ramp : toward (6554 * 1000000) (19661 * 1000000) 1600 200 = 6554 * 1000000 + 320000 := by decide

/-- Chapter 7: the first ramped output of a trip from 29491 toward 0 at 16384 LSB/s is 29487.7, rounded to 29488. -/
theorem test_safe_ramp_first_output : roundAway (toward (29491 * 1000000) 0 16384 200) 1000000 = 29488 := by decide

/-- Chapter 7: PID with one pre-filter and one post-filter costs 16 MAC. -/
theorem test_loop_cost : { LoopDesc.dflt with LAW := 1#8, N_PRE := 1#8, N_POST := 1#8 }.cost = 16 := by decide

/-- Chapter 13: at 2,000 full steps/s the stopping distance at 4,000 full steps/s² is 500 full steps. -/
theorem test_stopping_distance :
    { Axis.init with desc := { AxisDesc.dflt with DEC := 1024000#32 }, vel := 512000 * velUnit }.stopDist = 500 * 256 * stepUnit := by decide

/-- The descriptors of chapter 2's worked example, in MiB for chambers 0 to 9. -/
def quotasOf (mib : List Nat) : Vector ChamberDesc 11 :=
  Vector.ofFn fun c => { ChamberDesc.dflt with QUOTA_KIB := BitVec.ofNat 32 (1024 * mib.getD c.val 0) }

/-- Chapter 2: with 900 MiB of task data a MIRROR of 1024 MiB is refused with 0x0204, and 1040 MiB passes. -/
theorem test_mirror_quota :
    (quotas (quotasOf [64, 3072, 32, 16, 1536, 64, 1024, 8, 8, 4]) 6 = 1024 * 1024) ∧
    mirrorShort (quotasOf [64, 3072, 32, 16, 1536, 64, 1024, 8, 8, 4]) true (900 * 1048576) = true ∧
    mirrorShort (quotasOf [64, 3072, 32, 16, 1536, 64, 1040, 8, 8, 4]) true (900 * 1048576) = false := by decide +kernel

/-- Chapter 3: VIN below 17.0 V enters E1 and below 15.0 V E2; an E2 of 2.717 ms leaves LAST_E2_US at 2717. -/
theorem test_energy_levels :
    [16999, 14999, 11999, 17000].map (fun v => (atVin .e0 (BitVec.ofNat 16 v)).pow.energyEntry) = [1, 2, 3, 0] := by decide +kernel

/-- Session 5 with the ENGINEER role, in RUN. -/
def loopSetInRun (role : Fin 4) : State :=
  { base .run with host := { (base .run).host with session := upd (base .run).host.session 5 fun x => { x with role := role } } }

/-- LOOP_SET of L40 from session 5 with TAG 0x0042 (chapter 23's worked example). -/
def setL40 : Request := ⟨5, none, 0x0042#16, 40#8 :: List.replicate 63 0#8, 0⟩

/-- The fields of the newest record staged. -/
def newest (s : State) : Option (List Nat) :=
  s.flow.staging.getLast?.map fun r =>
    [r.SEVERITY.toNat, r.CODE.toNat, r.SRC_FAMILY.toNat, r.SRC_INST.toNat, r.SESSION.toNat, r.PAYLOAD.toNat % 2 ^ 96]

/-- The record that follows a command. -/
def newestAfter (i : Instr) (s : State) : Option (List Nat) :=
  match exec i s with
  | .next t => newest t
  | .fault _ | .refused _ => none

/-- Chapter 23: a NOTICE with CODE 0x0502, SRC_FAMILY 5, SRC_INST 40, SESSION 5, COMMAND 0x0510, TAG 0x0042, INSTANCE 40 and ITEM 0. -/
theorem test_loop_set_in_run :
    newestAfter (.loopSet setL40) (loopSetInRun 2) = some [2, 0x0502, 5, 40, 5, 0x0510 + 0x0042 * 65536 + 40 * 2 ^ 32] := by decide +kernel

/-- Chapter 23: with the VIEW role the code is the same, for the mode is checked before the role. -/
theorem test_loop_set_in_run_as_viewer : Cmd.loopSet.check setL40 (loopSetInRun 0) = some 0x0502 := by decide +kernel

/-- Scope: after reset the module is held in BOOT, and the empty queue idles. -/
theorem test_reset_idles : (match step State.reset with | .next t => t.pending == [] && t.sys.mode == .boot | _ => false) = true := by decide +kernel

/-- No row of the table gives bits. -/
theorem test_no_word_is_a_command : decodeTableWord 8 0x55 = none := rfl

end Sys2Proof.Tests
end

section
/-! PROOFS. Layouts read back what they store: a layout's fields fill its bytes, and each field is read at the bit where it begins. -/

namespace Sys2Proof.Machine

set_option Elab.async false

/-- Stored bytes read back as `x` when the fields fill the bytes and the packed number reads as `x`. -/
theorem ofBits_stored {α : Type} (ofBits : Nat → α) (l : List (Nat × Nat)) {n : Nat} {x : α} (fills : widths l = 8 * n)
    (reads : ofBits (pack l) = x) : ofBits (ofLe (leBytes n (pack l))) = x := by
  rw [ofLe_pack n l fills, reads]

/-! ### The layouts of CAN, network, time and the pair (chapters 14 to 16) -/

@[simp] theorem CanDesc.ofBytes_toBytes (x : CanDesc) : CanDesc.ofBytes x.toBytes = x := by
  refine ofBits_stored CanDesc.ofBits x.fields (by simp [widths, CanDesc.fields]) ?_
  rw [CanDesc.ofBits]
  congr 1 <;> exact bitsAt_bv rfl

@[simp] theorem CanFilter.ofBytes_toBytes (x : CanFilter) : CanFilter.ofBytes x.toBytes = x := by
  refine ofBits_stored CanFilter.ofBits x.fields (by simp [widths, CanFilter.fields]) ?_
  rw [CanFilter.ofBits]
  congr 1 <;> exact bitsAt_bv rfl

@[simp] theorem CanObject.ofBytes_toBytes (x : CanObject) : CanObject.ofBytes x.toBytes = x := by
  refine ofBits_stored CanObject.ofBits x.fields (by simp [widths, CanObject.fields]) ?_
  rw [CanObject.ofBits]
  congr 1 <;> exact bitsAt_bv rfl

@[simp] theorem NetDesc.ofBytes_toBytes (x : NetDesc) : NetDesc.ofBytes x.toBytes = x := by
  refine ofBits_stored NetDesc.ofBits x.fields (by simp [widths, NetDesc.fields]) ?_
  rw [NetDesc.ofBits]
  congr 1 <;> exact bitsAt_bv rfl

@[simp] theorem PtpDesc.ofBytes_toBytes (x : PtpDesc) : PtpDesc.ofBytes x.toBytes = x := by
  refine ofBits_stored PtpDesc.ofBits x.fields (by simp [widths, PtpDesc.fields]) ?_
  rw [PtpDesc.ofBits]
  congr 1 <;> exact bitsAt_bv rfl

@[simp] theorem CmpDesc.ofBytes_toBytes (x : CmpDesc) : CmpDesc.ofBytes x.toBytes = x := by
  refine ofBits_stored CmpDesc.ofBits x.fields (by simp [widths, CmpDesc.fields]) ?_
  rw [CmpDesc.ofBits]
  congr 1 <;> exact bitsAt_bv rfl

@[simp] theorem TciDesc.ofBytes_toBytes (x : TciDesc) : TciDesc.ofBytes x.toBytes = x := by
  refine ofBits_stored TciDesc.ofBits x.fields (by simp [widths, TciDesc.fields]) ?_
  rw [TciDesc.ofBits]
  congr 1 <;> exact bitsAt_bv rfl

@[simp] theorem PairDesc.ofBytes_toBytes (x : PairDesc) : PairDesc.ofBytes x.toBytes = x := by
  refine ofBits_stored PairDesc.ofBits x.fields (by simp [widths, PairDesc.fields]) ?_
  rw [PairDesc.ofBits]
  congr 1 <;> exact bitsAt_bv rfl

/-! ### The layouts of the Grotto, the supply and the tasks (chapters 2 to 4) -/

@[simp] theorem ChamberDesc.ofBytes_toBytes (x : ChamberDesc) : ChamberDesc.ofBytes x.toBytes = x := by
  refine ofBits_stored ChamberDesc.ofBits x.fields (by simp [widths, ChamberDesc.fields]) ?_
  rw [ChamberDesc.ofBits]
  congr 1 <;> exact bitsAt_bv rfl

@[simp] theorem PowerDesc.ofBytes_toBytes (x : PowerDesc) : PowerDesc.ofBytes x.toBytes = x := by
  refine ofBits_stored PowerDesc.ofBits x.fields (by simp [widths, PowerDesc.fields]) ?_
  rw [PowerDesc.ofBits]
  congr 1 <;> exact bitsAt_bv rfl

@[simp] theorem TaskDesc.ofBytes_toBytes (x : TaskDesc) : TaskDesc.ofBytes x.toBytes = x := by
  refine ofBits_stored TaskDesc.ofBits x.fields (by simp [widths, TaskDesc.fields]) ?_
  rw [TaskDesc.ofBits]
  congr 1 <;> exact bitsAt_bv rfl

@[simp] theorem RemoteDesc.ofBytes_toBytes (x : RemoteDesc) : RemoteDesc.ofBytes x.toBytes = x := by
  refine ofBits_stored RemoteDesc.ofBits x.fields (by simp [widths, RemoteDesc.fields]) ?_
  rw [RemoteDesc.ofBits]
  congr 1 <;> exact bitsAt_bv rfl

/-! ### The layouts of the field channels and motion (chapters 11 to 13) -/

@[simp] theorem DioDesc.ofBytes_toBytes (x : DioDesc) : DioDesc.ofBytes x.toBytes = x := by
  refine ofBits_stored DioDesc.ofBits x.fields (by simp [widths, DioDesc.fields]) ?_
  rw [DioDesc.ofBits]
  congr 1 <;> exact bitsAt_bv rfl

@[simp] theorem AioDesc.ofBytes_toBytes (x : AioDesc) : AioDesc.ofBytes x.toBytes = x := by
  refine ofBits_stored AioDesc.ofBits x.fields (by simp [widths, AioDesc.fields]) ?_
  rw [AioDesc.ofBits]
  congr 1 <;> exact bitsAt_bv rfl

@[simp] theorem EncDesc.ofBytes_toBytes (x : EncDesc) : EncDesc.ofBytes x.toBytes = x := by
  refine ofBits_stored EncDesc.ofBits x.fields (by simp [widths, EncDesc.fields]) ?_
  rw [EncDesc.ofBits]
  congr 1 <;> exact bitsAt_bv rfl

@[simp] theorem AxisDesc.ofBytes_toBytes (x : AxisDesc) : AxisDesc.ofBytes x.toBytes = x := by
  refine ofBits_stored AxisDesc.ofBits x.fields (by simp [widths, AxisDesc.fields]) ?_
  rw [AxisDesc.ofBits]
  congr 1 <;> exact bitsAt_bv rfl

/-! ### The layouts of the recorder, the start and the sessions (chapters 17, 19 and 20) -/

@[simp] theorem FlowDesc.ofBytes_toBytes (x : FlowDesc) : FlowDesc.ofBytes x.toBytes = x := by
  refine ofBits_stored FlowDesc.ofBits x.fields (by simp [widths, FlowDesc.fields]) ?_
  rw [FlowDesc.ofBits]
  congr 1 <;> exact bitsAt_bv rfl

@[simp] theorem FlowRec.ofBytes_toBytes (x : FlowRec) : FlowRec.ofBytes x.toBytes = x := by
  refine ofBits_stored FlowRec.ofBits x.fields (by simp [widths, FlowRec.fields]) ?_
  rw [FlowRec.ofBits]
  congr 1 <;> exact bitsAt_bv rfl

@[simp] theorem StartDesc.ofBytes_toBytes (x : StartDesc) : StartDesc.ofBytes x.toBytes = x := by
  refine ofBits_stored StartDesc.ofBits x.fields (by simp [widths, StartDesc.fields]) ?_
  rw [StartDesc.ofBits]
  congr 1 <;> exact bitsAt_bv rfl

@[simp] theorem SessDesc.ofBytes_toBytes (x : SessDesc) : SessDesc.ofBytes x.toBytes = x := by
  refine ofBits_stored SessDesc.ofBits x.fields (by simp [widths, SessDesc.fields]) ?_
  rw [SessDesc.ofBits]
  congr 1 <;> exact bitsAt_bv rfl

/-! ### The layouts of the loops and the Crucible (chapters 7 to 9) -/

@[simp] theorem LoopDesc.ofBytes_toBytes (x : LoopDesc) : LoopDesc.ofBytes x.toBytes = x := by
  refine ofBits_stored LoopDesc.ofBits x.fields (by simp [widths, LoopDesc.fields]) ?_
  rw [LoopDesc.ofBits]
  congr 1 <;> exact bitsAt_bv rfl

@[simp] theorem SlotDesc.ofBytes_toBytes (x : SlotDesc) : SlotDesc.ofBytes x.toBytes = x := by
  refine ofBits_stored SlotDesc.ofBits x.fields (by simp [widths, SlotDesc.fields]) ?_
  rw [SlotDesc.ofBits]
  congr 1 <;> exact bitsAt_bv rfl

@[simp] theorem QpParams.ofBytes_toBytes (x : QpParams) : QpParams.ofBytes x.toBytes = x := by
  refine ofBits_stored QpParams.ofBits x.fields (by simp [widths, QpParams.fields]) ?_
  rw [QpParams.ofBits]
  congr 1 <;> exact bitsAt_bv rfl

/-- Settles O60, layout by layout: each one's fields fill its bytes, and each field is read where it begins. -/
theorem descriptorsRoundTrip : Obligations.DescriptorsRoundTrip :=
  ⟨CanDesc.ofBytes_toBytes, CanFilter.ofBytes_toBytes, CanObject.ofBytes_toBytes, NetDesc.ofBytes_toBytes,
    PtpDesc.ofBytes_toBytes, PairDesc.ofBytes_toBytes, ChamberDesc.ofBytes_toBytes, PowerDesc.ofBytes_toBytes,
    TaskDesc.ofBytes_toBytes, RemoteDesc.ofBytes_toBytes, DioDesc.ofBytes_toBytes, AioDesc.ofBytes_toBytes,
    EncDesc.ofBytes_toBytes, AxisDesc.ofBytes_toBytes, FlowDesc.ofBytes_toBytes, StartDesc.ofBytes_toBytes,
    SessDesc.ofBytes_toBytes, LoopDesc.ofBytes_toBytes, SlotDesc.ofBytes_toBytes, QpParams.ofBytes_toBytes,
    CmpDesc.ofBytes_toBytes, TciDesc.ofBytes_toBytes, FlowRec.ofBytes_toBytes⟩

end Sys2Proof.Machine
end

section
/-! PROOFS. The state after reset, and what every reset and the release from it lead to (chapters 1 and 19). -/

namespace Sys2Proof.Machine

set_option Elab.async false

/-! ### The state after reset -/

/-- The state after reset meets the machine's invariant. -/
theorem State.reset_sound : State.reset.Sound where
  gro := ⟨fun c => congrArg Memory.wf (Vector.get_replicate 11 [] c), rfl⟩
  flow := ⟨rfl, Nat.le_refl _⟩
  host := ⟨fun n => congrArg (fun m : Mailbox => m.data.wf) (Vector.get_replicate 8 Mailbox.init n),
    fun n => congrArg Memory.wf (Vector.get_replicate 8 [] n)⟩

/-- Every byte of a chamber reads 0 after reset: no chamber lists a byte (log 3). -/
theorem State.reset_mem_get (c : Fin 11) (a : Nat) : (State.reset.gro.mem.get c).get a = 0#8 :=
  congrArg (fun m : Memory => m.get a) (Vector.get_replicate 11 [] c)

/-- Settles O56: each table of the state after reset repeats one entry, so that a claim about all its entries is one about that entry. -/
theorem resetIsAsTheSpecSays : Obligations.ResetIsAsTheSpecSays := by
  refine ⟨State.reset_sound, List.forall_mem_nil _, rfl, rfl, rfl, rfl, rfl, rfl, fun t => ?killed, rfl, rfl, rfl, rfl, fun n => ?mailbox,
    fun k => ?session, State.reset_mem_get, rfl, rfl, rfl, rfl, rfl, fun l => ?lane, fun n => ?axis, fun c => ?can⟩
  case killed => exact Vector.get_replicate 10 true t
  case mailbox => exact congrArg Mailbox.state (Vector.get_replicate 8 Mailbox.init n)
  case session => exact congrArg Session.open_ (Vector.get_replicate 17 Session.init k)
  case lane => exact Vector.get_replicate 8 none l
  case axis => exact congrArg Axis.state (Vector.get_replicate 8 Axis.init n)
  case can => exact congrArg CanCtrl.state (Vector.get_replicate 4 CanCtrl.init c)

/-! ### What a reset leaves (R436, R437) -/

section Resets

variable (s : State) (c : Nat)

@[simp] theorem State.afterReset_mode : (s.afterReset c).sys.mode = .boot := rfl
@[simp] theorem State.afterReset_phase : (s.afterReset c).sys.phase = .held := rfl
@[simp] theorem State.afterReset_resetCause : (s.afterReset c).sys.resetCause = BitVec.ofNat 8 c := rfl
@[simp] theorem State.afterReset_nFault : (s.afterReset c).sys.nFault = true := rfl
@[simp] theorem State.afterReset_fatal : (s.afterReset c).sys.fatal = s.sys.fatal := rfl
@[simp] theorem State.afterReset_ql : (s.afterReset c).dio.ql = 0#8 := rfl
@[simp] theorem State.afterReset_wbuf : (s.afterReset c).gro.wbuf = [] := rfl
@[simp] theorem State.afterReset_retainMram : (s.afterReset c).gro.retainMram = s.gro.retainMram := rfl
@[simp] theorem State.afterReset_staging : (s.afterReset c).flow.staging = [] := rfl
@[simp] theorem State.afterReset_log : (s.afterReset c).flow.log = s.flow.log := rfl
@[simp] theorem State.afterReset_peerOkOut : (s.afterReset c).pr.peerOkOut = false := rfl

/-- Whatever a reset flushes and drains first, the module then stands as after every reset, but for whether its program is mixed. -/
theorem State.resetEntry_eq_afterReset : ∃ (u : State) (mixed : Bool), s.resetEntry c = { u.afterReset c with olc.mixed := mixed } :=
  ⟨_, _, rfl⟩

/-- After a reset the module is in BOOT with its blocks held, its outputs killed, and nothing staged or buffered. -/
theorem State.resetEntry_holds_blocks (hc : c < 256) :
    (s.resetEntry c).sys.mode = .boot ∧ (s.resetEntry c).sys.phase = .held ∧ (s.resetEntry c).sys.resetCause.toNat = c ∧
    (s.resetEntry c).sys.nFault = true ∧ (s.resetEntry c).dio.ql = 0#8 ∧ (s.resetEntry c).gro.wbuf = [] ∧
    (s.resetEntry c).flow.staging = [] ∧ (s.resetEntry c).pr.peerOkOut = false := by
  obtain ⟨u, mixed, e⟩ := s.resetEntry_eq_afterReset c
  rw [e]
  simpa using hc

end Resets

/-! ### The causes of a reset (R19, R436) -/

section Causes

variable {s : State}

/-- nRST_IN resets a module that has power and is in no power-fail sequence. -/
theorem exec_nrstInAssert_resets (hp : s.sys.phase ≠ .off) (hf : s.pow.pfStage = .idle) :
    exec .nrstInAssert s = .next { s.resetEntry 2 with sys := { (s.resetEntry 2).sys with nrstIn := true } } := by
  show execNrstInAssert s = _
  rw [execNrstInAssert, if_neg (by simp [hp, hf])]

/-- Otherwise only its level is kept. -/
theorem exec_nrstInAssert_keeps_level (h : s.sys.phase = .off ∨ s.pow.pfStage ≠ .idle) :
    exec .nrstInAssert s = .next { s with sys := { s.sys with nrstIn := true } } := by
  show execNrstInAssert s = _
  rw [execNrstInAssert, if_pos (by simpa using h)]

/-- The boot watchdog resets after 5 s of the firmware phase. -/
theorem exec_bootWatchdogExpire_resets (hp : s.sys.phase = .firmware) (hf : s.pow.pfStage = .idle)
    (ht : s.sys.firmwareAt + sec 5 ≤ s.now) : exec .bootWatchdogExpire s = .next (s.resetEntry 4) := by
  show execBootWatchdogExpire s = _
  rw [execBootWatchdogExpire, if_pos (by simp [hp, hf, State.since_of ht])]

/-- HALT ends in a reset after HALT_RESTART_S. -/
theorem exec_haltTimerExpire_resets (hm : s.sys.mode = .halt) (hf : s.pow.pfStage = .idle) (hn : s.sys.startAct.HALT_RESTART_S ≠ 0#16)
    (ht : s.sys.haltAt + sec s.sys.startAct.HALT_RESTART_S.toNat ≤ s.now) : exec .haltTimerExpire s = .next (s.resetEntry 5) := by
  have hn' : s.sys.startAct.HALT_RESTART_S.toNat ≠ 0 := fun e => hn (BitVec.eq_of_toNat_eq e)
  show execHaltTimerExpire s = _
  rw [execHaltTimerExpire, if_pos (by simp [hm, hf, hn', State.since_of ht])]

/-- With HALT_RESTART_S 0 it never does. -/
theorem exec_haltTimerExpire_never (hn : s.sys.startAct.HALT_RESTART_S = 0#16) : exec .haltTimerExpire s = .next s := by
  show execHaltTimerExpire s = _
  rw [execHaltTimerExpire, if_neg (by simp [hn])]

/-- A clock fault resets at once: nothing is flushed, and its reason is held. -/
theorem exec_clockFault_resets (hp : s.sys.phase ≠ .off) :
    exec .clockFault s = .next { ({ s with sys.fatal := some .clock } : State).afterReset 3 with olc.mixed := s.keepsMixed } := by
  show execClockFault s = _
  rw [execClockFault, if_neg hp]

/-- VIN that returns after OFF resets with cause 1. -/
theorem exec_powerOnReset_after_off (hp : s.sys.phase = .off) :
    ∃ t, exec .powerOnReset s = .next t ∧ t.sys = (s.afterReset 1).sys :=
  ⟨_, congrArg Host.Outcome.next (if_pos hp), rfl⟩

/-- So does VIN that has stood for 100 ms in the wait of the power-fail sequence. -/
theorem exec_powerOnReset_after_wait {a : Nat} (hp : s.sys.phase ≠ .off) (hw : s.pow.pfStage = .wait) (ha : s.pow.waitOkSince = some a)
    (ht : a + ms 100 ≤ s.now) : ∃ t, exec .powerOnReset s = .next t ∧ t.sys = (s.afterReset 1).sys :=
  ⟨_, congrArg Host.Outcome.next ((if_neg hp).trans (if_pos (by simp [hw, State.ran_of ha ht]))), rfl⟩

end Causes

/-! ### Release from reset and the cold-start hold (R439, R446, R501) -/

section Release

variable {s : State} (x : Straps)

/-- At release the straps are sampled, the ROM phase starts, and every mailbox is EMPTY. -/
theorem State.release_starts_rom : (s.release x).sys.phase = .rom ∧ (s.release x).sys.straps = x ∧ (s.release x).sys.releaseAt = s.now ∧
    ∀ n, ((s.release x).host.mb.get n).state = .empty :=
  ⟨rfl, rfl, rfl, fun n => congrArg Mailbox.state (Vector.get_replicate 8 Mailbox.init n)⟩

/-- A module held in reset is released where it is warm enough, and holds itself there otherwise. -/
theorem exec_resetRelease_held (hp : s.sys.phase = .held) (hf : s.pow.pfStage = .idle) (hr : s.sys.romFault = false)
    (hc : s.sys.coldHold = none) :
    exec (.resetRelease x) s = .next (match s.pow.startTemp with
      | some t => if s.sys.lowerLimit ≤ t then s.release x else { s with sys := { s.sys with coldHold := some s.now } }
      | none => { s with sys := { s.sys with coldHold := some s.now } }) := by
  show execResetRelease x s = _
  refine (congrArg Host.Outcome.next (if_pos (by simp [hp, hf, hr, hc]))).trans ?_
  cases s.pow.startTemp <;> rfl

/-- The hold ends in the release once the module is warm. -/
theorem exec_coldStartHoldEnd_warm {t : Int} (hp : s.sys.phase = .held) (hc : s.sys.coldHold.isSome = true)
    (ht : s.pow.startTemp = some t) (hw : s.sys.lowerLimit ≤ t) : exec (.coldStartHoldEnd x) s = .next (s.release x) := by
  show execColdStartHoldEnd x s = _
  rw [execColdStartHoldEnd, if_pos (by simp [hp, hc])]
  simp [ht, hw]

/-- After 60 s without a sensor it ends in the release as well, with the sensor fault set. -/
theorem exec_coldStartHoldTimeout_no_sensor {a : Nat} (hp : s.sys.phase = .held) (hc : s.sys.coldHold = some a)
    (ht : a + sec 60 ≤ s.now) (hn : s.pow.startTemp = none) :
    exec (.coldStartHoldTimeout x) s = .next { s.release x with
      pow := { (s.release x).pow with thermFault := true }, sys := { (s.release x).sys with resetCause := 1#8 } } := by
  show execColdStartHoldTimeout x s = _
  rw [execColdStartHoldTimeout, if_pos (by simp [hp, hn, State.ran_of hc ht])]

/-- A fault of the ROM phase that has cleared starts BOOT again, which counts as unclean. -/
theorem exec_romFaultHoldEnd_restarts (hr : s.sys.romFault = true) (hf : s.pow.pfStage = .idle) :
    exec .romFaultHoldEnd s = .next { s with sys := { s.sys with romFault := false, phase := .rom, clean := false, releaseAt := s.now } } := by
  show execRomFaultHoldEnd s = _
  rw [execRomFaultHoldEnd, if_pos (by simp [hr, hf])]

end Release

/-- Settles O47: each cause leads to the state after a reset, of which the mode, the cause and the killed outputs are read once. -/
theorem resetsTakeTheModuleToBoot : Obligations.ResetsTakeTheModuleToBoot := by
  refine ⟨fun _ => exec_nrstInAssert_resets, fun _ => exec_nrstInAssert_keeps_level, fun _ => exec_bootWatchdogExpire_resets,
    fun _ => exec_haltTimerExpire_resets, fun _ => exec_haltTimerExpire_never, State.resetEntry_holds_blocks,
    fun s hp => ⟨_, exec_clockFault_resets hp, ?clock⟩, fun s hp => ?off, fun s a hp hw ha ht => ?wait,
    fun _ x => exec_resetRelease_held x, fun _ => State.release_starts_rom, fun _ x _ => exec_coldStartHoldEnd_warm x,
    fun _ x _ => exec_coldStartHoldTimeout_no_sensor x, fun _ => exec_romFaultHoldEnd_restarts⟩
  case clock => simp
  case off =>
    obtain ⟨t, he, hs⟩ := exec_powerOnReset_after_off hp
    exact ⟨t, he, by simp [hs]⟩
  case wait =>
    obtain ⟨t, he, hs⟩ := exec_powerOnReset_after_wait hp hw ha ht
    exact ⟨t, he, by simp [hs]⟩

end Sys2Proof.Machine
end

section
/-! PROOFS. The isolation links and the digital field channels: what frames carry across, how losses show on either side, and how channels
and fuses latch and recover (chapters 1 and 11). -/

namespace Sys2Proof.Machine

set_option Elab.async false

/-! ### What leaves the field channels and links as they are -/

section Frames

variable (s : State)

@[simp] theorem State.setField_link (n : Fin 4) (f : FieldSide → FieldSide) : (s.setField n f).dio.link = s.dio.link := rfl
@[simp] theorem State.setLink_field (n : Fin 4) (f : Link → Link) : (s.setLink n f).dio.field = s.dio.field := rfl
@[simp] theorem State.setSources_dio (n : Fin 4) : (s.setSources n).dio = s.dio := rfl

/-- A field side that was changed. -/
@[simp] theorem State.field_setField (n : Fin 4) (f : FieldSide → FieldSide) : (s.setField n f).dio.field.get n = f (s.dio.field.get n) :=
  upd_get_same ..

/-- A record that is staged changes no field channel. -/
@[simp] theorem State.stageAt_dio (n : Note) (ts : BitVec 64) : (s.stageAt n ts).dio = s.dio := by
  unfold State.stageAt
  extract_lets seq r f s1 s2
  have raised : s2.dio = s.dio := by
    show (if 4 ≤ n.sev then s1.raise irqFlowAlarm else s1).dio = s.dio
    split <;> rfl
  split
  · exact raised
  · exact raised

/-- Neither does a record that is kept out. -/
@[simp] theorem State.event_dio (sev code inst old new detail : Nat) : (s.event sev code inst old new detail).dio = s.dio := by
  simp only [State.event, State.record, State.recordAt]
  split
  · exact State.stageAt_dio ..
  · rfl

/-- A value that takes a class does so in IMAGE alone. -/
@[simp] theorem State.reclass_dio (off : Nat) (q : BitVec 4) : (s.reclass off q).dio = s.dio := by
  simp only [State.reclass, State.setQuality]
  split
  · rfl
  · split <;> rfl

/-- So do several values. -/
theorem State.foldl_reclass_dio {α : Type} (l : List α) (off : α → Nat) (q : BitVec 4) :
    (l.foldl (fun s i => s.reclass (off i) q) s).dio = s.dio := by
  induction l generalizing s with
  | nil => rfl
  | cons i l ih => rw [List.foldl_cons, ih, State.reclass_dio]

end Frames

/-! ### An evaluation of the trip matrix ends no loss and no re-arm -/

/-- From `d` to `e` every link keeps its loss and its counters, and none that waits for its re-arm stops waiting. -/
def Dio.LinksStand (d e : Dio) : Prop :=
  ∀ n, (e.link.get n).lost = (d.link.get n).lost ∧ (e.link.get n).stat = (d.link.get n).stat ∧
    ((d.link.get n).rearmWait = true → (e.link.get n).rearmWait = true)

theorem Dio.LinksStand.refl (d : Dio) : d.LinksStand d := fun _ => ⟨rfl, rfl, id⟩

theorem Dio.LinksStand.trans {d e f : Dio} (h : d.LinksStand e) (g : e.LinksStand f) : d.LinksStand f := fun n =>
  have ⟨hl, hs, hr⟩ := h n
  have ⟨gl, gs, gr⟩ := g n
  ⟨gl.trans hl, gs.trans hs, gr ∘ hr⟩

theorem Dio.LinksStand.of_eq {d e : Dio} (h : e = d) : d.LinksStand e := h ▸ .refl d

theorem Dio.LinksStand.ite {d : Dio} {a b : State} {c : Prop} [Decidable c] (ha : d.LinksStand a.dio) (hb : d.LinksStand b.dio) :
    d.LinksStand (if c then a else b).dio := by
  split
  · exact ha
  · exact hb

theorem Dio.LinksStand.foldl {α : Type} {f : State → α → State} (h : ∀ (s : State) a, s.dio.LinksStand (f s a).dio) (l : List α) (s : State) :
    s.dio.LinksStand (l.foldl f s).dio := by
  induction l generalizing s with
  | nil => exact .refl _
  | cons a l ih => exact (h s a).trans (ih _)

/-- A link that begins to wait for its re-arm stands otherwise. -/
theorem Dio.linksStand_rearm (d : Dio) (n : Fin 4) :
    d.LinksStand { d with link := upd d.link n fun k => { k with rearmWait := true, reArm := false, clearRun := 0 } } := by
  intro m
  by_cases h : m = n
  · subst h; simp
  · simp [upd_get_ne _ _ h]

/-- A QL line that goes high only makes links wait for their re-arm (R234). -/
theorem State.lineUp_linksStand (s : State) (t : Fin 8) : s.dio.LinksStand (s.lineUp t).dio := by
  have fold : ∀ (l : List (Fin 4)) (d : Dio), d.LinksStand
      { d with link := l.foldl (fun v n => upd v n fun k => { k with rearmWait := true, reArm := false, clearRun := 0 }) d.link } := by
    intro l d
    induction l generalizing d with
    | nil => exact .refl d
    | cons n l ih => exact (d.linksStand_rearm n).trans (ih _)
  exact fold (linksOf t) s.dio

theorem State.setLines_linksStand (s : State) : s.dio.LinksStand s.setLines.dio := by
  unfold State.setLines
  extract_lets up dio t
  have levels : s.dio.LinksStand t.dio := fun _ => ⟨rfl, rfl, id⟩
  exact levels.trans (.foldl State.lineUp_linksStand up t)

/-- Motion stop-all acts on axes and brakes alone. -/
theorem State.motionKill_dio (s : State) : s.motionKill.dio = s.dio := by
  simp only [State.motionKill, State.abortTest]
  split
  · rfl
  · exact State.event_dio ..

/-- What goes to the peer changes nothing here. -/
theorem State.mirrorIsland_dio (s : State) : s.mirrorIsland.dio = s.dio := by
  simp only [State.mirrorIsland, State.mirror]
  split <;> rfl

theorem State.evalMatrix_linksStand (s : State) : s.dio.LinksStand s.evalMatrix.dio := by
  unfold State.evalMatrix
  refine .ite (.refl _) ?_
  split
  · exact s.setLines_linksStand
  · extract_lets src old new trips before isl stat s1 s2 s3 s4
    have trip : s.dio.LinksStand s2.dio := .ite (.refl _) (.of_eq (State.event_dio ..))
    have lines : s.dio.LinksStand s3.dio := trip.trans (State.setLines_linksStand s2)
    have stop : s.dio.LinksStand s4.dio := .ite (lines.trans (.of_eq s3.motionKill_dio)) lines
    exact .ite stop (stop.trans (.of_eq s4.mirrorIsland_dio))

/-! ### The uplink (R22, R266) -/

section Uplink

variable {s u : State} {n : Fin 4} {f : FieldSample} {k : Link}

/-- A frame that arrives undisturbed, is whole and follows its predecessor is taken in. -/
theorem exec_uplinkFrameReceive_valid (hl : s.logicUp = true)
    (hu : u = ((s.notePartners n).fieldSample n f).setField n fun x => { x with upSeq := x.upSeq + 1, rxErr := false })
    (hk : u.dio.link.get n = k) (ok : frameOk (((s.notePartners n).fieldSample n f).upFrame n f).wire k.seqRef (u.upBroken k) = true) :
    exec (.uplinkFrameReceive n f 0#100) s =
      .next (u.takeUplink n (UplinkFrame.ofBits (((s.notePartners n).fieldSample n f).upFrame n f).wire.toNat)) := by
  subst hu hk
  show execUplinkFrameReceive n f 0#100 s = _
  simp only [execUplinkFrameReceive, hl, if_true, BitVec.xor_zero, ok]

/-- A frame that is disturbed is counted and discarded. -/
theorem exec_uplinkFrameReceive_invalid {errors : BitVec 100} (hl : s.logicUp = true)
    (hu : u = ((s.notePartners n).fieldSample n f).setField n fun x => { x with upSeq := x.upSeq + 1, rxErr := false })
    (hk : u.dio.link.get n = k)
    (bad : frameOk ((((s.notePartners n).fieldSample n f).upFrame n f).wire ^^^ errors) k.seqRef (u.upBroken k) = false) :
    exec (.uplinkFrameReceive n f errors) s =
      .next (u.setLink n fun k => { k with broken := true, stat := { k.stat with UP_CRC_ERR := sat k.stat.UP_CRC_ERR } }) := by
  subst hu hk
  show execUplinkFrameReceive n f errors s = _
  simp only [execUplinkFrameReceive, hl, if_true, bad, Bool.false_eq_true, if_false]

/-- 3 µs without a valid uplink frame: the link is lost and waits for its re-arm, and the loss is counted and dated (R23). -/
theorem exec_logicLinkLoss_declares (hl : s.logicUp = true) (hk : (s.dio.link.get n).lost = false)
    (ht : s.ran (s.dio.link.get n).lastValid (us 3) = true) :
    ∃ t, exec (.logicLinkLoss n) s = .next t ∧ (t.dio.link.get n).lost = true ∧ (t.dio.link.get n).rearmWait = true ∧
      (t.dio.link.get n).stat.LOSS_COUNT = sat (s.dio.link.get n).stat.LOSS_COUNT ∧ (t.dio.link.get n).stat.LAST_LOSS_TS = s.ts := by
  have run : exec (.logicLinkLoss n) s = execLogicLinkLoss n s := rfl
  rw [run, execLogicLinkLoss, if_pos (by simp [hl, hk, ht])]
  extract_lets s1 s2 s3 s4 old p
  have reclassed : s4.dio = s1.dio :=
    calc s4.dio = s2.dio := State.foldl_reclass_dio ..
      _ = s1.dio := State.foldl_reclass_dio ..
  clear_value s2 s3 s4 p
  have noted := (State.event_dio { s4 with pow := p.sampleVin s4.now } 4 0x0780 (0x40 + n.val) 0 n.val 0).trans reclassed
  have link : s1.dio.link.get n = _ := State.link_setLink ..
  obtain ⟨lost, stat, waits⟩ := (Dio.LinksStand.of_eq noted).trans (State.evalMatrix_linksStand _) n
  rw [link] at lost stat waits
  exact ⟨_, rfl, lost, waits rfl, congrArg GroupStat.LOSS_COUNT stat, congrArg GroupStat.LAST_LOSS_TS stat⟩

/-- 32 uplink frames that report RX_ERR clear end the re-arm (R23). -/
theorem exec_rearmComplete_ends (hr : (s.dio.link.get n).reArm = true) (hc : 32 ≤ (s.dio.link.get n).clearRun) :
    exec (.rearmComplete n) s = .next (s.setLink n fun k => { k with reArm := false, rearmWait := false, clearRun := 0 }) := by
  show execRearmComplete n s = _
  rw [execRearmComplete, if_pos (by simp [hr, hc])]

end Uplink

/-! ### The downlink (R23, R266, R269 to R271) -/

section Downlink

variable {s : State} {n : Fin 4}

/-- The frame of a link goes on the wire with the commands of now. -/
theorem exec_downlinkFrameSend_sends (h : s.sendsFrames = true) :
    ∃ t, exec (.downlinkFrameSend n) s = .next t ∧ (t.dio.link.get n).down = some (s.downFrame n).wire ∧
      (t.dio.link.get n).doSent = (s.downFrame n).DO ∧ (t.dio.link.get n).seqOut = (s.dio.link.get n).seqOut + 1 ∧
      (t.dio.link.get n).cfgNext = (s.dio.link.get n).cfgNext + 1 ∧ t.dio.field = s.dio.field := by
  refine ⟨_, congrArg Host.Outcome.next (if_pos h), ?_⟩
  simp

@[simp] theorem Dio.releaseSo_field (d : Dio) : d.releaseSo.field = d.field := by
  simp only [Dio.releaseSo]
  split <;> rfl

@[simp] theorem Dio.releaseSo_link (d : Dio) : d.releaseSo.link = d.link := by
  simp only [Dio.releaseSo]
  split <;> rfl

/-- The field side of a link finds a frame valid that arrives as `w` (R266). -/
def State.downOk (s : State) (n : Fin 4) (w : BitVec 100) : Bool :=
  let f := s.dio.field.get n
  frameOk w f.seqRef (f.broken || f.lost || f.slotMissed s.dio.clock)

/-- The state in which the field side judges a frame: the frame is off the wire, and the lines are seen. -/
def State.judging (s : State) (n : Fin 4) : State :=
  let t := s.setLink n fun k => { k with down := none }
  { t with dio := t.dio.seeLines }

/-- The field side takes a valid frame, and sets its outputs by it. -/
def State.takeDownlink (s : State) (n : Fin 4) (d : DownlinkFrame) : State :=
  let t := s.setField n fun f => f.take n d s.dio.clock
  State.setSources { t with
    dio := t.dio.releaseSo
    aio := upd t.aio (aioChan n ⟨d.SEQ.toNat % 4, by omega⟩) fun a => { a with fieldCmd := d.AIO } } n

/-- The field side discards a frame. -/
def State.missDownlink (s : State) (n : Fin 4) : State :=
  s.setField n fun f => { f with broken := true, rxErr := true, validRun := 0, cfgSeen := if f.cfgWait then 0 else f.cfgSeen }

@[simp] theorem State.judging_link : (s.judging n).dio.link = upd s.dio.link n fun k => { k with down := none } := rfl
@[simp] theorem State.judging_clock : (s.judging n).dio.clock = s.dio.clock := rfl

/-- Seeing the lines changes what the field side knows of them, and no channel. -/
theorem State.judging_field : ∃ a b, (s.judging n).dio.field.get n = { s.dio.field.get n with qlGrp := a, qlWait := b } :=
  ⟨_, _, Vector.get_ofFn ..⟩

@[simp] theorem State.takeDownlink_link (d : DownlinkFrame) : (s.takeDownlink n d).dio.link = s.dio.link := by
  simp [State.takeDownlink]

@[simp] theorem State.takeDownlink_field (d : DownlinkFrame) :
    (s.takeDownlink n d).dio.field.get n = (s.dio.field.get n).take n d s.dio.clock := by
  simp [State.takeDownlink]

variable {w errors : BitVec 100}

/-- A frame on the wire is judged, and then taken or discarded. -/
theorem exec_downlinkFrameApply_judges (hf : s.fieldUp = true) (hw : (s.dio.link.get n).down = some w) :
    exec (.downlinkFrameApply n errors) s = .next (
      if s.downOk n (w ^^^ errors) then (s.judging n).takeDownlink n (DownlinkFrame.ofBits (w ^^^ errors).toNat)
      else (s.judging n).missDownlink n) := by
  have run : exec (.downlinkFrameApply n errors) s = execDownlinkFrameApply n errors s := rfl
  have same : (s.judging n).downOk n (w ^^^ errors) = s.downOk n (w ^^^ errors) := by
    obtain ⟨a, b, e⟩ := State.judging_field (s := s) (n := n)
    simp only [State.downOk, e, State.judging_clock]
    rfl
  rw [run, execDownlinkFrameApply, hw, ← same]
  simp only [hf]
  rfl

/-- A valid frame ends a loss on the field side and gives each channel its command. -/
theorem exec_downlinkFrameApply_valid (hf : s.fieldUp = true) (hw : (s.dio.link.get n).down = some w)
    (ok : s.downOk n (w ^^^ errors) = true) :
    ∃ t, exec (.downlinkFrameApply n errors) s = .next t ∧ (t.dio.link.get n).down = none ∧
      (t.dio.field.get n).lost = false ∧ (t.dio.field.get n).lastValid = s.dio.clock ∧
      ∀ i, ((t.dio.field.get n).ch.get i).cmd = (DownlinkFrame.ofBits (w ^^^ errors).toNat).DO.getLsbD i.val := by
  refine ⟨_, (exec_downlinkFrameApply_judges hf hw).trans (congrArg Host.Outcome.next (if_pos ok)), ?_⟩
  simp [FieldSide.take]

/-- A disturbed frame is reported, and leaves the channels as they are. -/
theorem exec_downlinkFrameApply_invalid (hf : s.fieldUp = true) (hw : (s.dio.link.get n).down = some w)
    (bad : s.downOk n (w ^^^ errors) = false) :
    ∃ t, exec (.downlinkFrameApply n errors) s = .next t ∧ (t.dio.link.get n).down = none ∧
      (t.dio.field.get n).rxErr = true ∧ ∀ i, (t.dio.field.get n).ch.get i = (s.dio.field.get n).ch.get i := by
  refine ⟨_, (exec_downlinkFrameApply_judges hf hw).trans (congrArg Host.Outcome.next (if_neg (by simp [bad]))), ?_⟩
  obtain ⟨a, b, e⟩ := State.judging_field (s := s) (n := n)
  simp [State.missDownlink, e]

/-- 3 µs without a valid downlink frame: the field side declares the loss, and no output of it is on (R23). -/
theorem exec_fieldLinkLoss_declares (hf : s.fieldUp = true) (hl : (s.dio.field.get n).lost = false)
    (ht : (s.dio.field.get n).lastValid + us 3 ≤ s.dio.clock) :
    ∃ t, exec (.fieldLinkLoss n) s = .next t ∧ (t.dio.field.get n).lost = true ∧ (t.dio.field.get n).armed = false ∧
      (t.dio.field.get n).validRun = 0 ∧ ∀ i m, (t.dio.field.get n).outOn m ((t.dio.field.get n).ch.get i) = false := by
  refine ⟨_, congrArg Host.Outcome.next (if_pos (by simp [hf, hl, ht])), ?_⟩
  simp [FieldSide.outOn]

end Downlink

/-! ### Group fuses (R264) -/

/-- A group fuse that trips is shown in the group's record and counted. -/
theorem exec_groupFuseTrip_trips {s : State} {n : Fin 4} (hf : s.fieldUp = true) (hn : (s.dio.field.get n).fuse = false) :
    ∃ t, exec (.groupFuseTrip n) s = .next t ∧ (t.dio.field.get n).fuse = true ∧ (t.dio.link.get n).record.GRP_FUSE = 1#1 ∧
      (t.dio.link.get n).stat.FUSE_TRIPS = sat (s.dio.link.get n).stat.FUSE_TRIPS := by
  refine ⟨_, congrArg Host.Outcome.next (if_pos (by simp [hf, hn])), ?_⟩
  simp

/-- Settles O27: a loss is judged by what the trip matrix leaves of the links, a downlink frame by what the field side sees of it; every other
event of a channel or fuse is its one change, once its condition holds. -/
theorem linksAndChannelsMove : Obligations.LinksAndChannelsMove := by
  refine ⟨fun _ _ _ _ _ => exec_uplinkFrameReceive_valid, fun _ _ _ _ _ _ => exec_uplinkFrameReceive_invalid,
    fun _ _ => exec_downlinkFrameSend_sends, fun s n w errors hf hw => ?downlink, fun _ _ => exec_fieldLinkLoss_declares,
    fun _ _ => exec_logicLinkLoss_declares, fun _ _ => exec_rearmComplete_ends, fun s n hf hw hc => ?configPass, fun s l hf hq => ?lineKill,
    fun s c v hf hm => ?filter, fun s c hf ho => ?currentLimit, fun s c hf ho ht => ?overload, fun s c hf ho => ?thermal,
    fun s c hf hr ht => ?retry, fun s c hf ht => ?openWire, fun s c hf ht => ?extFeed, fun s c hp ht => ?partner,
    fun _ _ => exec_groupFuseTrip_trips, fun s n hf hn => ?sensTrip, fun s n clear hf hn ht => ?sensRetry⟩
  case downlink =>
    cases ok : s.downOk n (w ^^^ errors) with
    | true =>
      obtain ⟨t, ht, hd, taken⟩ := exec_downlinkFrameApply_valid hf hw ok
      exact ⟨t, ht, hd, fun _ => taken, fun bad => absurd (ok.symm.trans bad) (by decide)⟩
    | false =>
      obtain ⟨t, ht, hd, missed⟩ := exec_downlinkFrameApply_invalid hf hw ok
      exact ⟨t, ht, hd, fun good => absurd (good.symm.trans ok) (by decide), fun _ => missed⟩
  case configPass => exact congrArg Host.Outcome.next (if_pos (by simp [hf, hw, hc]))
  case lineKill => exact congrArg Host.Outcome.next (if_pos (by rw [hf, hq]; rfl))
  case filter => exact congrArg Host.Outcome.next (if_pos (by simp [hf, hm]))
  case currentLimit => exact congrArg Host.Outcome.next (if_pos (by simp [hf, ho]))
  case overload => exact congrArg Host.Outcome.next (if_pos (by simp [hf, ho, ht]))
  case thermal => exact congrArg Host.Outcome.next (if_pos (by simp [hf, ho]))
  case retry =>
    have hr' : (s.dioDesc c).RETRY_S.toNat ≠ 0 := fun e => hr (BitVec.eq_of_toNat_eq e)
    exact congrArg Host.Outcome.next (if_pos (by simp [hf, hr', ht]))
  case openWire => exact congrArg Host.Outcome.next (if_pos (by simp [hf, ht]))
  case extFeed => exact congrArg Host.Outcome.next (if_pos (by simp [hf, ht]))
  case partner => exact congrArg Host.Outcome.next (if_pos (by simp [hp, ht]))
  case sensTrip => exact congrArg Host.Outcome.next (if_pos (by simp [hf, hn]))
  case sensRetry => exact congrArg Host.Outcome.next (if_pos (by simp [hf, hn, ht]))

end Sys2Proof.Machine
end

section
/-! PROOFS. What every step keeps: the queue of the commands that wait behind it, and a sound state sound. -/

namespace Sys2Proof.Machine

set_option Elab.async false

/-- Every command answers a next state, with the queue as it was and a sound state sound. Of all operands, only the message of a pair
frame need be well formed: the others are taken by operations that keep soundness whatever they are given. -/
theorem exec_answers (i : Instr) (s : State) (h : ∀ ok msg, i = .pairFrameReceive ok msg → pairMsgOk msg = true) :
    Answers s (exec i s) := by
  cases i with
  | sysEnable => exact execSysEnable_answers ..
  | sysStop => exact execSysStop_answers ..
  | sysRestart => exact execSysRestart_answers ..
  | sysBootInfo => exact execSysBootInfo_answers ..
  | sysStartSet => exact execSysStartSet_answers ..
  | sysStartGet => exact execSysStartGet_answers ..
  | sysFwLoad => exact execSysFwLoad_answers ..
  | sysFwActivate => exact execSysFwActivate_answers ..
  | sysSessionList => exact execSysSessionList_answers ..
  | sysSessionClose => exact execSysSessionClose_answers ..
  | sysTrustSet => exact execSysTrustSet_answers ..
  | sysTrustGet => exact execSysTrustGet_answers ..
  | sysSessSet => exact execSysSessSet_answers ..
  | sysSessGet => exact execSysSessGet_answers ..
  | cfgChamberSet => exact execCfgChamberSet_answers ..
  | cfgChamberGet => exact execCfgChamberGet_answers ..
  | cfgPowerSet => exact execCfgPowerSet_answers ..
  | cfgPowerGet => exact execCfgPowerGet_answers ..
  | cfgNetSet => exact execCfgNetSet_answers ..
  | cfgNetGet => exact execCfgNetGet_answers ..
  | prgTaskSet => exact execPrgTaskSet_answers ..
  | prgTaskGet => exact execPrgTaskGet_answers ..
  | prgTaskStatus => exact execPrgTaskStatus_answers ..
  | prgTaskResume => exact execPrgTaskResume_answers ..
  | prgTaskClear => exact execPrgTaskClear_answers ..
  | prgRemoteSet => exact execPrgRemoteSet_answers ..
  | prgRemoteStatus => exact execPrgRemoteStatus_answers ..
  | prgLaneSplit => exact execPrgLaneSplit_answers ..
  | prgLaneJoin => exact execPrgLaneJoin_answers ..
  | prgLaneStatus => exact execPrgLaneStatus_answers ..
  | prgTemperStatus => exact execPrgTemperStatus_answers ..
  | prgTemperClear => exact execPrgTemperClear_answers ..
  | prgImageLoad => exact execPrgImageLoad_answers ..
  | prgImageInfo => exact execPrgImageInfo_answers ..
  | prgVarRead => exact execPrgVarRead_answers ..
  | prgVarWrite => exact execPrgVarWrite_answers ..
  | prgBreakSet => exact execPrgBreakSet_answers ..
  | prgBreakClear => exact execPrgBreakClear_answers ..
  | prgBreakRelease => exact execPrgBreakRelease_answers ..
  | prgStep => exact execPrgStep_answers ..
  | prgBreakStatus => exact execPrgBreakStatus_answers ..
  | olcLoad => exact execOlcLoad_answers ..
  | olcActivate => exact execOlcActivate_answers ..
  | olcAbort => exact execOlcAbort_answers ..
  | olcStatus => exact execOlcStatus_answers ..
  | olcForceSet => exact execOlcForceSet_answers ..
  | olcForceRelease => exact execOlcForceRelease_answers ..
  | olcForceReleaseAll => exact execOlcForceReleaseAll_answers ..
  | olcForceList => exact execOlcForceList_answers ..
  | loopSet => exact execLoopSet_answers ..
  | loopGet => exact execLoopGet_answers ..
  | loopSwapBank => exact execLoopSwapBank_answers ..
  | loopBankWrite => exact execLoopBankWrite_answers ..
  | loopBankRead => exact execLoopBankRead_answers ..
  | loopMode => exact execLoopMode_answers ..
  | loopResetTrip => exact execLoopResetTrip_answers ..
  | loopStatus => exact execLoopStatus_answers ..
  | loopClear => exact execLoopClear_answers ..
  | loopEngineStatus => exact execLoopEngineStatus_answers ..
  | cruSlotSet => exact execCruSlotSet_answers ..
  | cruSlotGet => exact execCruSlotGet_answers ..
  | cruPatternLoad => exact execCruPatternLoad_answers ..
  | cruAnalyse => exact execCruAnalyse_answers ..
  | cruSlotInfo => exact execCruSlotInfo_answers ..
  | cruJobSubmit => exact execCruJobSubmit_answers ..
  | cruResultRead => exact execCruResultRead_answers ..
  | cruStatus => exact execCruStatus_answers ..
  | cruClear => exact execCruClear_answers ..
  | cruQpSet => exact execCruQpSet_answers ..
  | cruQpGet => exact execCruQpGet_answers ..
  | cruQpInfo => exact execCruQpInfo_answers ..
  | cruInputWrite => exact execCruInputWrite_answers ..
  | fioDioSet => exact execFioDioSet_answers ..
  | fioDioGet => exact execFioDioGet_answers ..
  | fioDioStatus => exact execFioDioStatus_answers ..
  | fioGroupStatus => exact execFioGroupStatus_answers ..
  | fioGroupReset => exact execFioGroupReset_answers ..
  | fioDioUnlatch => exact execFioDioUnlatch_answers ..
  | fioDioClear => exact execFioDioClear_answers ..
  | fioAioSet => exact execFioAioSet_answers ..
  | fioAioGet => exact execFioAioGet_answers ..
  | fioAioStatus => exact execFioAioStatus_answers ..
  | fioAioTrimSet => exact execFioAioTrimSet_answers ..
  | fioAioTrimGet => exact execFioAioTrimGet_answers ..
  | fioAioTrimDrive => exact execFioAioTrimDrive_answers ..
  | fioAioTrimRemove => exact execFioAioTrimRemove_answers ..
  | fioAioClear => exact execFioAioClear_answers ..
  | safeParamLoad => exact execSafeParamLoad_answers ..
  | safeParamRead => exact execSafeParamRead_answers ..
  | safeSignOff => exact execSafeSignOff_answers ..
  | safeStatus => exact execSafeStatus_answers ..
  | safeReset => exact execSafeReset_answers ..
  | safeBrakeTest => exact execSafeBrakeTest_answers ..
  | safeClear => exact execSafeClear_answers ..
  | motAxisSet => exact execMotAxisSet_answers ..
  | motAxisGet => exact execMotAxisGet_answers ..
  | motEncSet => exact execMotEncSet_answers ..
  | motEncGet => exact execMotEncGet_answers ..
  | motTableLoad => exact execMotTableLoad_answers ..
  | motTableRead => exact execMotTableRead_answers ..
  | motStatus => exact execMotStatus_answers ..
  | motClear => exact execMotClear_answers ..
  | canCtrlSet => exact execCanCtrlSet_answers ..
  | canCtrlGet => exact execCanCtrlGet_answers ..
  | canFilterSet => exact execCanFilterSet_answers ..
  | canObjectSet => exact execCanObjectSet_answers ..
  | canRecover => exact execCanRecover_answers ..
  | canStatus => exact execCanStatus_answers ..
  | canTxOnce => exact execCanTxOnce_answers ..
  | canClear => exact execCanClear_answers ..
  | timePtpSet => exact execTimePtpSet_answers ..
  | timePtpGet => exact execTimePtpGet_answers ..
  | timeStatus => exact execTimeStatus_answers ..
  | timeCmpSet => exact execTimeCmpSet_answers ..
  | timeCmpGet => exact execTimeCmpGet_answers ..
  | timeTciSet => exact execTimeTciSet_answers ..
  | timeRtcRead => exact execTimeRtcRead_answers ..
  | timeRtcSet => exact execTimeRtcSet_answers ..
  | timeRtcShift => exact execTimeRtcShift_answers ..
  | timeRtcAlarm => exact execTimeRtcAlarm_answers ..
  | timeRtcWake => exact execTimeRtcWake_answers ..
  | timeClear => exact execTimeClear_answers ..
  | pairSet => exact execPairSet_answers ..
  | pairGet => exact execPairGet_answers ..
  | pairStatus => exact execPairStatus_answers ..
  | pairSwap => exact execPairSwap_answers ..
  | pairReadmit => exact execPairReadmit_answers ..
  | pairClear => exact execPairClear_answers ..
  | flowSet => exact execFlowSet_answers ..
  | flowGet => exact execFlowGet_answers ..
  | flowFlush => exact execFlowFlush_answers ..
  | flowStatus => exact execFlowStatus_answers ..
  | flowRead => exact execFlowRead_answers ..
  | flowExport => exact execFlowExport_answers ..
  | flowClear => exact execFlowClear_answers ..
  | flowNote => exact execFlowNote_answers ..
  | pnlSet => exact execPnlSet_answers ..
  | pnlGet => exact execPnlGet_answers ..
  | pnlWaveLoad => exact execPnlWaveLoad_answers ..
  | pnlDraw => exact execPnlDraw_answers ..
  | pnlUpdate => exact execPnlUpdate_answers ..
  | pnlStatus => exact execPnlStatus_answers ..
  | pnlClear => exact execPnlClear_answers ..
  | diagGrottoStatus => exact execDiagGrottoStatus_answers ..
  | diagGrottoClear => exact execDiagGrottoClear_answers ..
  | diagPowerStatus => exact execDiagPowerStatus_answers ..
  | diagPowerClear => exact execDiagPowerClear_answers ..
  | diagNetStatus => exact execDiagNetStatus_answers ..
  | mailboxWrite => exact execMailboxWrite_answers ..
  | mailboxRing => exact execMailboxRing_answers ..
  | runEnSet => exact execRunEnSet_answers ..
  | runEnClear => exact execRunEnClear_answers ..
  | irqStatusClear => exact execIrqStatusClear_answers ..
  | irqMaskWrite => exact execIrqMaskWrite_answers ..
  | registerWriteOther => exact execRegisterWriteOther_answers ..
  | hpPerst => exact execHpPerst_answers ..
  | hostLinkUp => exact execHostLinkUp_answers ..
  | hostLinkLostTimeout => exact execHostLinkLostTimeout_answers ..
  | commandTake => exact execCommandTake_answers ..
  | appReplyCopy => exact execAppReplyCopy_answers ..
  | appTimeout => exact execAppTimeout_answers ..
  | aliveTick => exact execAliveTick_answers ..
  | sessionHandshake => exact execSessionHandshake_answers ..
  | addressBarExpire => exact execAddressBarExpire_answers ..
  | sessionMessageReceive => exact execSessionMessageReceive_answers ..
  | sessionIdleTimeout => exact execSessionIdleTimeout_answers ..
  | sessionClose => exact execSessionClose_answers ..
  | powerOnReset => exact execPowerOnReset_answers ..
  | nrstInAssert => exact execNrstInAssert_answers ..
  | bootWatchdogExpire => exact execBootWatchdogExpire_answers ..
  | haltTimerExpire => exact execHaltTimerExpire_answers ..
  | resetRelease => exact execResetRelease_answers ..
  | romPhaseEnd => exact execRomPhaseEnd_answers ..
  | romFaultHoldEnd => exact execRomFaultHoldEnd_answers ..
  | firmwarePhaseEnd => exact execFirmwarePhaseEnd_answers ..
  | coldStartHoldEnd => exact execColdStartHoldEnd_answers ..
  | coldStartHoldTimeout => exact execColdStartHoldTimeout_answers ..
  | autoStart => exact execAutoStart_answers ..
  | enableCheckComplete => exact execEnableCheckComplete_answers ..
  | startWaitExpire => exact execStartWaitExpire_answers ..
  | runEntry => exact execRunEntry_answers ..
  | bootFailsClear => exact execBootFailsClear_answers ..
  | clockFault => exact execClockFault_answers ..
  | energyLevelRise => exact execEnergyLevelRise_answers ..
  | e1Exit => exact execE1Exit_answers ..
  | e2Exit => exact execE2Exit_answers ..
  | e3TimerExpire => exact execE3TimerExpire_answers ..
  | powerFailStage1End => exact execPowerFailStage1End_answers ..
  | powerFailStage2End => exact execPowerFailStage2End_answers ..
  | holdupDepleted => exact execHoldupDepleted_answers ..
  | pfWarnChange => exact execPfWarnChange_answers ..
  | feedLoss => exact execFeedLoss_answers ..
  | vinHighSet => exact execVinHighSet_answers ..
  | vinHighClear => exact execVinHighClear_answers ..
  | vinUnknownSet => exact execVinUnknownSet_answers ..
  | holdupMeasure => exact execHoldupMeasure_answers ..
  | logicRailFault => exact execLogicRailFault_answers ..
  | budgetPublish => exact execBudgetPublish_answers ..
  | heatLevelFall => exact execHeatLevelFall_answers ..
  | thermalTrip => exact execThermalTrip_answers ..
  | budgetStale => exact execBudgetStale_answers ..
  | uplinkFrameReceive => exact execUplinkFrameReceive_answers ..
  | downlinkFrameSend => exact execDownlinkFrameSend_answers ..
  | downlinkFrameApply => exact execDownlinkFrameApply_answers ..
  | fieldLinkLoss => exact execFieldLinkLoss_answers ..
  | logicLinkLoss => exact execLogicLinkLoss_answers ..
  | rearmComplete => exact execRearmComplete_answers ..
  | configPassComplete => exact execConfigPassComplete_answers ..
  | qlLineKill => exact execQlLineKill_answers ..
  | inputFilterPass => exact execInputFilterPass_answers ..
  | grottoRequest => exact execGrottoRequest_answers ..
  | arbitrationWindowEnd => exact execArbitrationWindowEnd_answers ..
  | mramBufferDrain => exact execMramBufferDrain_answers ..
  | scrubRead => exact execScrubRead_answers ..
  | scrubBehind => exact execScrubBehind_answers ..
  | periodBoundary => exact execPeriodBoundary_answers ..
  | taskFinish => exact execTaskFinish_answers ..
  | bufferHoldExpire => exact execBufferHoldExpire_answers ..
  | evtLimitExpire => exact execEvtLimitExpire_answers ..
  | minGapExpire => exact execMinGapExpire_answers ..
  | processDataReceive => exact execProcessDataReceive_answers ..
  | remoteAbsent => exact execRemoteAbsent_answers ..
  | remoteValueStale => exact execRemoteValueStale_answers ..
  | processDataSend => exact execProcessDataSend_answers ..
  | restoreComplete => exact execRestoreComplete_answers ..
  | breakpointHit => exact execBreakpointHit_answers ..
  | stepComplete => exact execStepComplete_answers ..
  | taskRecordMove => exact execTaskRecordMove_answers ..
  | forceApplyWrite => exact execForceApplyWrite_answers ..
  | forceReleaseWrite => exact execForceReleaseWrite_answers ..
  | forceAgedWarning => exact execForceAgedWarning_answers ..
  | loopBoundary => exact execLoopBoundary_answers ..
  | loopSampleComplete => exact execLoopSampleComplete_answers ..
  | feTimerExpire => exact execFeTimerExpire_answers ..
  | cruRequestTake => exact execCruRequestTake_answers ..
  | cruJobStart => exact execCruJobStart_answers ..
  | cruFactorComplete => exact execCruFactorComplete_answers ..
  | cruFactorCutoff => exact execCruFactorCutoff_answers ..
  | cruDeadline => exact execCruDeadline_answers ..
  | cruSolveComplete => exact execCruSolveComplete_answers ..
  | qpIterationComplete => exact execQpIterationComplete_answers ..
  | qpRefactorComplete => exact execQpRefactorComplete_answers ..
  | polishStepComplete => exact execPolishStepComplete_answers ..
  | analysisComplete => exact execAnalysisComplete_answers ..
  | scratchError => exact execScratchError_answers ..
  | safetySourceAssert => exact execSafetySourceAssert_answers ..
  | channelDisagree => exact execChannelDisagree_answers ..
  | copyDisagree => exact execCopyDisagree_answers ..
  | qlDailyTest => exact execQlDailyTest_answers ..
  | pairDemand => exact execPairDemand_answers ..
  | pairSourceClear => exact execPairSourceClear_answers ..
  | pairDiscFault => exact execPairDiscFault_answers ..
  | testPulse => exact execTestPulse_answers ..
  | soBiasFault => exact execSoBiasFault_answers ..
  | soLightTest => exact execSoLightTest_answers ..
  | soDarkTest => exact execSoDarkTest_answers ..
  | soOvercurrent => exact execSoOvercurrent_answers ..
  | encoderQuadError => exact execEncoderQuadError_answers ..
  | axisDiscrepancy => exact execAxisDiscrepancy_answers ..
  | brakeTestPhase => exact execBrakeTestPhase_answers ..
  | brakeTestDue => exact execBrakeTestDue_answers ..
  | brakeTestOverdue => exact execBrakeTestOverdue_answers ..
  | resetDioPulse => exact execResetDioPulse_answers ..
  | wdTaskExpire => exact execWdTaskExpire_answers ..
  | dioOverloadLatch => exact execDioOverloadLatch_answers ..
  | dioThermalShutdown => exact execDioThermalShutdown_answers ..
  | dioRetryExpire => exact execDioRetryExpire_answers ..
  | dioOpenWire => exact execDioOpenWire_answers ..
  | dioExtFeed => exact execDioExtFeed_answers ..
  | extFeedSuppressEnd => exact execExtFeedSuppressEnd_answers ..
  | groupFuseTrip => exact execGroupFuseTrip_answers ..
  | sensFuseTrip => exact execSensFuseTrip_answers ..
  | sensRetry => exact execSensRetry_answers ..
  | aioComplianceCompare => exact execAioComplianceCompare_answers ..
  | ne43FailTimer => exact execNe43FailTimer_answers ..
  | loopShortDetect => exact execLoopShortDetect_answers ..
  | axisRequestTake => exact execAxisRequestTake_answers ..
  | enDelayExpire => exact execEnDelayExpire_answers ..
  | reversalRest => exact execReversalRest_answers ..
  | moveArrival => exact execMoveArrival_answers ..
  | tableSegmentEnd => exact execTableSegmentEnd_answers ..
  | gearRatioChange => exact execGearRatioChange_answers ..
  | gearLagFault => exact execGearLagFault_answers ..
  | resCodeChange => exact execResCodeChange_answers ..
  | driveLinkFrameComplete => exact execDriveLinkFrameComplete_answers ..
  | driveLinkRefresh => exact execDriveLinkRefresh_answers ..
  | limitTrip => exact execLimitTrip_answers ..
  | limitRelease => exact execLimitRelease_answers ..
  | homeEdgeCapture => exact execHomeEdgeCapture_answers ..
  | homeComplete => exact execHomeComplete_answers ..
  | homeTimeout => exact execHomeTimeout_answers ..
  | zEdgeCapture => exact execZEdgeCapture_answers ..
  | canFrameReceive => exact execCanFrameReceive_answers ..
  | canReceiveTimeoutScan => exact execCanReceiveTimeoutScan_answers ..
  | canTxPeriod => exact execCanTxPeriod_answers ..
  | canArbitrationPrepare => exact execCanArbitrationPrepare_answers ..
  | canTxComplete => exact execCanTxComplete_answers ..
  | canBusError => exact execCanBusError_answers ..
  | canBusoffHoldExpire => exact execCanBusoffHoldExpire_answers ..
  | canRecoveryComplete => exact execCanRecoveryComplete_answers ..
  | canRefMessage => exact execCanRefMessage_answers ..
  | canRefLost => exact execCanRefLost_answers ..
  | netFrameReceive => exact execNetFrameReceive_answers ..
  | portLinkDown => exact execPortLinkDown_answers ..
  | portLinkUp => exact execPortLinkUp_answers ..
  | supervisionFrameSend => exact execSupervisionFrameSend_answers ..
  | lanOkTimeout => exact execLanOkTimeout_answers ..
  | nodeForget => exact execNodeForget_answers ..
  | ptpMessageSend => exact execPtpMessageSend_answers ..
  | ptpSyncReceive => exact execPtpSyncReceive_answers ..
  | ptpSyncTimeout => exact execPtpSyncTimeout_answers ..
  | announceTimeout => exact execAnnounceTimeout_answers ..
  | holdoverAlarm => exact execHoldoverAlarm_answers ..
  | timeRecordWrite => exact execTimeRecordWrite_answers ..
  | compareFire => exact execCompareFire_answers ..
  | tpoPulseEnd => exact execTpoPulseEnd_answers ..
  | tciCapture => exact execTciCapture_answers ..
  | tciCaptureMove => exact execTciCaptureMove_answers ..
  | rtcOscStop => exact execRtcOscStop_answers ..
  | rtcRegisterRead => exact execRtcRegisterRead_answers ..
  | rtcShadowRelease => exact execRtcShadowRelease_answers ..
  | rtcShiftTick => exact execRtcShiftTick_answers ..
  | rtcAlarmFire => exact execRtcAlarmFire_answers ..
  | rtcWake => exact execRtcWake_answers ..
  | rtcLeapSecond => exact execRtcLeapSecond_answers ..
  | rtcDiscipline => exact execRtcDiscipline_answers ..
  | heartbeatSend => exact execHeartbeatSend_answers ..
  | pairFrameReceive ok msg => exact execPairFrameReceive_answers ok msg s (h ok msg rfl)
  | mirrorLoopSend => exact execMirrorLoopSend_answers ..
  | pairLaneFail => exact execPairLaneFail_answers ..
  | peerOkDrop => exact execPeerOkDrop_answers ..
  | peerOkTestPulse => exact execPeerOkTestPulse_answers ..
  | peerOkInLow => exact execPeerOkInLow_answers ..
  | pairLinkSilent => exact execPairLinkSilent_answers ..
  | witnessReply => exact execWitnessReply_answers ..
  | witnessTimeout => exact execWitnessTimeout_answers ..
  | witnessRetry => exact execWitnessRetry_answers ..
  | witnessPresenceFrame => exact execWitnessPresenceFrame_answers ..
  | witnessSilenceConfirm => exact execWitnessSilenceConfirm_answers ..
  | swapStart => exact execSwapStart_answers ..
  | swapRetry => exact execSwapRetry_answers ..
  | syncBulkComplete => exact execSyncBulkComplete_answers ..
  | syncComplete => exact execSyncComplete_answers ..
  | flowFlushPeriodic => exact execFlowFlushPeriodic_answers ..
  | flowFlushComplete => exact execFlowFlushComplete_answers ..
  | compactionPass => exact execCompactionPass_answers ..
  | exportTimeout => exact execExportTimeout_answers ..
  | panelTempRead => exact execPanelTempRead_answers ..
  | panelUpdateStart => exact execPanelUpdateStart_answers ..
  | panelFrameComplete => exact execPanelFrameComplete_answers ..
  | panelRailsOff => exact execPanelRailsOff_answers ..
  | peerOkInRise => exact execPeerOkInRise_answers ..
  | axisRestReached => exact execAxisRestReached_answers ..
  | swapAxisWaitTimeout => exact execSwapAxisWaitTimeout_answers ..
  | srcFaultShutdown => exact execSrcFaultShutdown_answers ..
  | adcSelfCheckFail => exact execAdcSelfCheckFail_answers ..
  | dioCurrentLimit => exact execDioCurrentLimit_answers ..
  | hostLinkLeavesL0 => exact execHostLinkLeavesL0_answers ..
  | jtagWrite => exact execJtagWrite_answers ..

/-- Every well-formed command answers so. -/
theorem exec_answers_of_wf {i : Instr} (s : State) (h : i.wf = true) : Answers s (exec i s) :=
  exec_answers i s fun _ _ e => by subst e; exact h

/-- Taking commands off the queue leaves a sound state sound. -/
theorem State.Sound.setPending {s : State} (h : s.Sound) (l : List Instr) : State.Sound { s with pending := l } :=
  ⟨h.gro, h.flow, h.host⟩

/-- Settles O55: with an empty queue the step is a tick and an evaluation of the trip matrix, and otherwise the front command; each keeps a
sound state sound and the queue behind the command as it was. -/
theorem everyStepKeepsSoundness : Obligations.EveryStepKeepsSoundness := by
  intro s t hs hq hstep
  cases hp : s.pending with
  | nil =>
    have ht : s.tick.evalMatrix = t := by simpa [step, hp] using hstep
    have kept : Keeps s t := ht ▸ s.tick_keeps.trans (State.evalMatrix_keeps _)
    exact ⟨kept.sound hs, fun c hc => hq c (kept.pending ▸ hc)⟩
  | cons c rest =>
    have ht : exec c { s with pending := rest } = .next t := by simpa [step, hp] using hstep
    have waiting : ∀ d ∈ c :: rest, d.wf = true := fun d hd => hq d (hp ▸ hd)
    obtain ⟨u, hu, kept⟩ := exec_answers_of_wf { s with pending := rest } (waiting c List.mem_cons_self)
    obtain rfl : u = t := Host.Outcome.next.inj (hu.symm.trans ht)
    have left : u.pending = rest := kept.pending
    exact ⟨kept.sound (hs.setPending rest), fun d hd => waiting d (List.mem_cons_of_mem c (left ▸ hd))⟩

end Sys2Proof.Machine
end

section
/-! PROOFS. The Grotto's commands (chapter 2): what the mailbox layer lets pass of them, chamber descriptors, and the status block. -/

namespace Sys2Proof.Machine

set_option Elab.async false

/-! ### What the mailbox layer lets pass -/

/-- A number is the index that has its value. -/
theorem asFin_of_eq_val {n k : Nat} {c : Fin n} (h : k = c.val) : asFin n k = some c := by
  subst h; exact dif_pos c.isLt

/-- A number that is not below the size is no index. -/
theorem asFin_of_le {n k : Nat} (h : n ≤ k) : asFin n k = none := dif_neg (by omega)

/-- A request of the right length in a mode in which its command is not served is refused with the code of the lock (R477, R514). -/
theorem CmdInfo.check_of_mode {e : CmdInfo} {rq : Request} {s : State} (least : e.least ≤ rq.payload.length)
    (most : rq.payload.length ≤ e.most) (hm : e.modeOk s = false) : e.check rq s = some e.lock := by
  rw [CmdInfo.check, if_neg (by simp [least, most]), if_pos (by simp [hm])]

/-- A command that passes the mailbox layer is permitted in the present mode. -/
theorem State.Accepts.modeOk {s : State} {e : CmdInfo} {rq : Request} (h : s.Accepts e rq) : e.modeOk (s.receive rq) = true := by
  have hc := h.check
  rw [CmdInfo.check] at hc
  split at hc
  · cases hc
  · by_contra hm
    rw [if_pos (by simpa using hm)] at hc
    cases hc

/-- A payload that reaches the byte at which a command names what it is about names it by that byte. -/
theorem CmdInfo.inst_of_byte {e : CmdInfo} {rq : Request} {off : Nat} (he : e.instAt = some (off, 1)) (hl : off + 1 ≤ rq.payload.length) :
    e.inst rq = rq.u8 off := by
  simp [CmdInfo.inst, he, hl, Request.u8, Machine.u8]

/-- CFG_CHAMBER_SET is permitted in STOP alone (R44). -/
theorem Cmd.cfgChamberSet_modeOk_iff (s : State) : Cmd.cfgChamberSet.modeOk s = true ↔ s.sys.mode = .stop := by
  simp only [CmdInfo.modeOk, Cmd.cfgChamberSet]
  cases s.sys.mode <;> decide

/-! ### Chamber descriptors (R43, R44, R51) -/

section Descriptors

variable {s : State} {rq : Request} {c : Fin 11}

theorem exec_cfgChamberSet_writes (h : s.Accepts Cmd.cfgChamberSet rq) (hc : (ChamberDesc.ofBytes rq.payload).CHAMBER_ID.toNat = c.val)
    (hl : (ChamberDesc.ofBytes rq.payload).CE_LIMIT ≠ 0) :
    exec (.cfgChamberSet rq) s = .next (State.answered
      { s with gro.desc := upd s.gro.desc c fun o => { ChamberDesc.ofBytes rq.payload with TIER := o.TIER, BASE_KIB := o.BASE_KIB } }
      Cmd.cfgChamberSet rq []) := by
  refine congrArg Host.Outcome.next (h.done rfl ?_)
  simp only [asFin_of_eq_val hc, refuseIf, beq_eq_false_iff_ne.mpr hl]
  rfl

/-- An ID above 10 and a CE_LIMIT of 0 are refused alike, each with the ID in the refusal's record. -/
theorem exec_cfgChamberSet_refuses (h : s.Accepts Cmd.cfgChamberSet rq)
    (bad : 10 < (ChamberDesc.ofBytes rq.payload).CHAMBER_ID.toNat ∨ (ChamberDesc.ofBytes rq.payload).CE_LIMIT = 0) :
    exec (.cfgChamberSet rq) s =
      .next ((s.receive rq).refuse Cmd.cfgChamberSet rq 0x0202 (ChamberDesc.ofBytes rq.payload).CHAMBER_ID.toNat 0) := by
  refine congrArg Host.Outcome.next (h.refused rfl ?_)
  by_cases hid : 10 < (ChamberDesc.ofBytes rq.payload).CHAMBER_ID.toNat
  · simp only [asFin_of_le hid]
  · have hc : asFin 11 (ChamberDesc.ofBytes rq.payload).CHAMBER_ID.toNat =
        some ⟨(ChamberDesc.ofBytes rq.payload).CHAMBER_ID.toNat, by omega⟩ := asFin_of_eq_val rfl
    simp only [hc, refuseIf, beq_iff_eq.mpr (bad.resolve_left hid), if_true]

/-- Outside STOP the mailbox layer refuses with the code of the lock, which stands for SYS_MODE (R44, R514). -/
theorem exec_cfgChamberSet_locked (hs : s.serves rq.session = true) (hl : rq.payload.length = 16) (hm : s.sys.mode ≠ .stop) :
    exec (.cfgChamberSet rq) s = .next ((s.receive rq).refuse Cmd.cfgChamberSet rq 0x0208 (rq.u8 0) 0) := by
  have locked : Cmd.cfgChamberSet.modeOk (s.receive rq) = false :=
    Bool.eq_false_iff.mpr fun ok => hm ((Cmd.cfgChamberSet_modeOk_iff _).mp ok)
  have check : Cmd.cfgChamberSet.check rq (s.receive rq) = some 0x0208 :=
    CmdInfo.check_of_mode (by rw [hl]; decide) (by rw [hl]; decide) locked
  have inst : Cmd.cfgChamberSet.inst rq = rq.u8 0 := CmdInfo.inst_of_byte rfl (by omega)
  refine congrArg Host.Outcome.next ((if_pos hs).trans ?_)
  rw [← inst]
  exact serve_check check

theorem exec_cfgChamberGet_answers_descriptor (h : s.Accepts Cmd.cfgChamberGet rq) (hc : rq.u8 0 = c.val) :
    exec (.cfgChamberGet rq) s = .next (s.answered Cmd.cfgChamberGet rq
      { s.gro.desc.get c with BASE_KIB := (s.gro.act.get c).BASE_KIB }.toBytes) := by
  refine congrArg Host.Outcome.next (h.done rfl ?_)
  simp only [asFin_of_eq_val hc]
  rfl

theorem exec_cfgChamberGet_refuses (h : s.Accepts Cmd.cfgChamberGet rq) (bad : 10 < rq.u8 0) :
    exec (.cfgChamberGet rq) s = .next ((s.receive rq).refuse Cmd.cfgChamberGet rq 0x0202 (rq.u8 0) 0) := by
  refine congrArg Host.Outcome.next (h.refused rfl ?_)
  simp only [asFin_of_le bad]

end Descriptors

/-- Settles O4: the lock is the mailbox layer's check of the mode; what passes it in STOP is refused for its ID or its CE_LIMIT, or written. -/
theorem chamberDescriptorsAreLockedAndChecked : Obligations.ChamberDescriptorsAreLockedAndChecked := by
  refine ⟨fun _ _ => exec_cfgChamberSet_locked, fun s rq d h hd => ?_, fun _ _ => exec_cfgChamberGet_refuses⟩
  subst hd
  refine ⟨(Cmd.cfgChamberSet_modeOk_iff _).mp h.modeOk, exec_cfgChamberSet_refuses h,
    fun c hc hl => ⟨_, exec_cfgChamberSet_writes h hc hl, ?_⟩⟩
  exact ⟨by simp, by simp, by simp, by simp, fun k hk => upd_get_ne _ _ hk⟩

/-! ### The Grotto's status (R52) -/

/-- Free values drawn one after another are the next ones of the counter. -/
theorem State.draws_eq (n : Nat) (s : State) :
    State.draws n s = ((List.range n).map fun i => (Config.freeValue (s.free + i)).toNat, { s with free := s.free + n }) := by
  induction n generalizing s with
  | zero => rfl
  | succ n ih =>
    simp only [State.draws, State.draw, ih, List.range_succ_eq_map, List.map_cons, List.map_map]
    have step (i : Nat) : s.free + 1 + i = s.free + (i + 1) := by omega
    simp [Function.comp_def, step]

/-- A vector's entries taken together with the numbers from 0 on are each taken with its index. -/
theorem zipWith_toList_range {α β γ : Type} {n : Nat} (f : α → β → γ) (v : Vector α n) (g : Nat → β) :
    List.zipWith f v.toList ((List.range n).map g) = (idx n).map fun c => f (v.get c) (g c.val) := by
  apply List.ext_getElem
  · simp [idx]
  · intro i _ _
    simp [idx, Vector.get]

section Status

variable {s : State} {rq : Request}

theorem exec_diagGrottoStatus_answers_blocks (h : s.Accepts Cmd.diagGrottoStatus rq) :
    exec (.diagGrottoStatus rq) s = .next (State.answered { s with free := s.free + 11 } Cmd.diagGrottoStatus rq
      (leBytes 4 s.gro.statusWord ++ leBytes 4 0
        ++ ((idx 11).map fun c => (s.gro.stat.get c).toBytes (FILL_KIB := (Config.freeValue (s.free + c.val)).toNat)).flatten
        ++ s.gro.linesClass.toList.flatMap fun v => leBytes 8 v.toNat)) := by
  refine congrArg Host.Outcome.next (h.done rfl ?_)
  simp only [State.draws_eq, zipWith_toList_range]
  rfl

theorem exec_diagGrottoClear_clears (h : s.Accepts Cmd.diagGrottoClear rq) :
    exec (.diagGrottoClear rq) s = .next (State.answered
      { s with gro.stat := Vector.replicate 11 ChamberStat.dflt, gro.linesClass := Vector.replicate 4 0#64, gro.mramUe := false,
               gro.floorHit := false, gro.wwSeen := false, gro.ueSeen := false, gro.degraded := false }
      Cmd.diagGrottoClear rq []) :=
  congrArg Host.Outcome.next (h.done rfl rfl)

end Status

/-- Settles O1: each command that passes the mailbox layer and its own checks ends in its effect and its answer. -/
theorem grottoCommandsAnswer : Obligations.GrottoCommandsAnswer :=
  ⟨fun _ _ _ => exec_cfgChamberSet_writes, fun _ _ _ => exec_cfgChamberGet_answers_descriptor,
    fun _ _ => exec_diagGrottoStatus_answers_blocks, fun _ _ => exec_diagGrottoClear_clears⟩

end Sys2Proof.Machine
end

section
/-! PROOFS. The Grotto's fabric (chapter 2): the events of its clock, and a lone write on its way from a port to its chamber. -/

namespace Sys2Proof.Machine

set_option Elab.async false

/-! ### The write buffer, the scrubber and the arbitration window (R34, R35, R41, R47) -/

/-- A buffered write that begins a block and lies within it leaves the buffer in one drain. -/
theorem Grotto.drainBlock_of_one_block {g : Grotto} {e : WbEntry} {r : List WbEntry} (hw : g.wbuf = e :: r) (begins : e.off % 32 = 0)
    (within : e.data.length ≤ 32) :
    g.drainBlock = { g with
      wbuf := r
      retainMram := if e.region = .retain then g.retainMram.write e.off e.data else g.retainMram } := by
  simp [Grotto.drainBlock, hw, begins, List.drop_eq_nil_of_le within, List.take_of_length_le within]

theorem exec_mramBufferDrain_one_block {s : State} {e : WbEntry} {r : List WbEntry} (hp : s.sys.phase ≠ .off) (hb : s.gro.backpressure = false)
    (hw : s.gro.wbuf = e :: r) (begins : e.off % 32 = 0) (within : e.data.length ≤ 32) :
    exec .mramBufferDrain s = .next { s with
      gro.wbuf := r
      gro.retainMram := if e.region = .retain then s.gro.retainMram.write e.off e.data else s.gro.retainMram } := by
  refine congrArg Host.Outcome.next ((if_neg hp).trans ?_)
  simp [Grotto.drainBlock_of_one_block hw begins within, hb]

/-- A pass that has parts left does not begin anew. -/
theorem State.beginPass_of_running {s : State} {mram : Bool} {c : Fin 11} {rest : List (Fin 11)}
    (hl : s.gro.scrubPass.get (tier mram) = c :: rest) : s.beginPass mram = s := by
  simp [State.beginPass, hl]

/-- The scrubber is active while a tier's pass has parts left. -/
theorem any_pass_of_running {v : Vector (List (Fin 11)) 2} {i : Fin 2} {c : Fin 11} {rest : List (Fin 11)} (hl : v.get i = c :: rest) :
    (v.toList.any fun l => !l.isEmpty) = true :=
  List.any_eq_true.mpr ⟨v.get i, by simp [Vector.get], by simp [hl]⟩

theorem exec_scrubRead_goes_on {s : State} {mram : Bool} {c : Fin 11} {rest : List (Fin 11)} (hp : s.sys.phase = .serving)
    (idle : s.waitingCount = 0) (hl : s.gro.scrubPass.get (tier mram) = c :: rest)
    (inside : s.gro.scrubPos.get (tier mram) + 1 < s.passBlocks mram c) :
    ∃ t : State, exec (.scrubRead mram .clean) s = .next t.dispatch ∧
      t.gro.scrubPos = put s.gro.scrubPos (tier mram) (s.gro.scrubPos.get (tier mram) + 1) ∧ t.gro.scrubPass = s.gro.scrubPass ∧
      t.gro.scrubActive = true ∧ t.gro.mem = s.gro.mem := by
  refine ⟨s.advancePass mram c rest, ?_, ?_⟩
  · refine congrArg Host.Outcome.next ((if_pos (by simp [hp, idle])).trans ?_)
    simp only [State.beginPass_of_running hl, hl]
    rfl
  · simp [State.advancePass, inside, any_pass_of_running hl]

/-- Settles O3: a drain takes the whole of a write that lies in one block, and a pass that is inside a part goes one block on. -/
theorem grottoEventsComplete : Obligations.GrottoEventsComplete := by
  refine ⟨fun s => rfl, fun s e r => exec_mramBufferDrain_one_block, fun s mram c rest => exec_scrubRead_goes_on, fun s hp behind => ?_⟩
  exact congrArg Host.Outcome.next (if_pos (by simpa [hp] using behind))

/-! ### A lone request at the fabric (R46, R47) -/

/-- No port has a request waiting but `p`, which has `r`, and nothing is held back. -/
structure State.OnlyWaits (s : State) (p : Fin 14) (r : PortReq) : Prop where
  waiting : s.gro.waiting = put (Vector.replicate 14 []) p [r]
  flows   : s.gro.backpressure = false

section Lone

variable {s : State} {p : Fin 14} {r : PortReq} {k : Fin 4}

/-- A port belongs to one class. -/
theorem class_of_port : ∀ {p : Fin 14} {k j : Fin 4}, p ∈ classPorts.get k → p ∈ classPorts.get j → j = k := by decide

/-- Among the classes below class 0, the only pending one is the lowest. -/
theorem lowest_of_class : ∀ {k : Fin 4}, k ≠ 0 → ([1, 2, 3] : List (Fin 4)).find? (fun j => decide (j = k)) = some k := by decide

/-- The port that waits offers its request. -/
theorem State.OnlyWaits.offered (h : s.OnlyWaits p r) : s.offered p = some r := by
  simp [State.offered, h.waiting, h.flows]

/-- Every other port offers none. -/
theorem State.OnlyWaits.offered_ne (h : s.OnlyWaits p r) {q : Fin 14} (hq : q ≠ p) : s.offered q = none := by
  rw [State.offered, h.waiting, put_get_ne _ _ hq]
  simp [Vector.get]

theorem State.OnlyWaits.offers_iff (h : s.OnlyWaits p r) (q : Fin 14) : (s.offered q).isSome = true ↔ q = p := by
  by_cases hq : q = p
  · simp [hq, h.offered]
  · simp [hq, h.offered_ne hq]

/-- The class of the port that waits is the one with a pending request. -/
theorem State.OnlyWaits.classPending (h : s.OnlyWaits p r) (hp : p ∈ classPorts.get k) (j : Fin 4) : s.classPending j = decide (j = k) := by
  rw [State.classPending, Bool.eq_iff_iff, List.any_eq_true, decide_eq_true_iff]
  constructor
  · rintro ⟨q, hq, offers⟩
    exact class_of_port hp ((h.offers_iff q).mp offers ▸ hq)
  · rintro rfl
    exact ⟨p, hp, (h.offers_iff p).mpr rfl⟩

/-- It is granted, and by no floor: where a floor would raise it, it is the lowest pending all the same. -/
theorem State.OnlyWaits.chooseClass (h : s.OnlyWaits p r) (hp : p ∈ classPorts.get k) : s.chooseClass = some (k, false) := by
  have pending : s.classPending = fun j => decide (j = k) := funext (h.classPending hp)
  rw [State.chooseClass, pending]
  by_cases hk : k = 0
  · simp [hk]
  · have lowest : ([1, 2, 3] : List (Fin 4)).find? (fun j => decide (j = k)) = some k := lowest_of_class hk
    rw [if_neg (by simpa using Ne.symm hk), lowest]
    split
    case h_1 j raised =>
      have pends := List.find?_some raised
      have hj : j = k := of_decide_eq_true (Bool.and_eq_true_iff.mp pends).2
      simp [hj]
    case h_2 => rfl

/-- Wherever the token of its class stands, the port is granted. -/
theorem State.OnlyWaits.choosePort (h : s.OnlyWaits p r) (hp : p ∈ classPorts.get k) : s.choosePort k = some p := by
  unfold State.choosePort
  have turn : p ∈ (classPorts.get k).drop (s.gro.token.get k) ++ (classPorts.get k).take (s.gro.token.get k) := by
    rw [List.mem_append, or_comm, ← List.mem_append, List.take_append_drop]
    exact hp
  have granted := List.find?_isSome (p := fun q => (s.offered q).isSome).mpr ⟨p, turn, (h.offers_iff p).mpr rfl⟩
  obtain ⟨q, hq⟩ := Option.isSome_iff_exists.mp granted
  have offers := List.find?_some hq
  exact hq.trans (congrArg some ((h.offers_iff q).mp offers))

theorem State.OnlyWaits.waitingCount (h : s.OnlyWaits p r) : s.waitingCount = 1 := by
  rw [State.waitingCount, h.waiting, put, Vector.toList_set, List.map_set]
  simp [List.sum_set, -List.reduceReplicate]

/-- The arbiter grants the request and is done. -/
theorem State.OnlyWaits.grantAll (h : s.OnlyWaits p r) (hp : p ∈ classPorts.get k) (fresh : List (Fin 14 × PortReq)) :
    State.grantAll fresh s.waitingCount [] s = s.grantOne fresh [] k false p r := by
  rw [h.waitingCount]
  simp only [State.grantAll, h.chooseClass hp, h.choosePort hp, h.offered]

end Lone

/-! ### A clean write reaches its chamber (R31, R45) -/

/-- A change that gives an entry as it was changes nothing. -/
theorem upd_eq_self {α : Type} {n : Nat} {v : Vector α n} {i : Fin n} {f : α → α} (h : f (v.get i) = v.get i) : upd v i f = v := by
  rw [upd, h]
  exact Vector.set_getElem_self i.isLt

section Write

variable (s : State) (p : Fin 14) (r : PortReq) (d : List Byte)

@[simp] theorem State.noteLine_gro (c : Fin 11) (off : Nat) : (s.noteLine c off).gro = s.gro := by
  unfold State.noteLine
  split <;> rfl

/-- The undo log stands with the tasks and the Temper pass: a store that it takes in leaves the Grotto as it is. -/
@[simp] theorem State.logUndo_gro : (s.logUndo r d).gro = s.gro := by
  unfold State.logUndo
  split
  · rfl
  · dsimp only
    split
    · split <;> rfl
    · rfl

variable {s p r d}

/-- A request that is granted leaves its port, counts for its class, and turns the tokens (R47). -/
def State.taken (s : State) (k : Fin 4) (p : Fin 14) (r : PortReq) : State :=
  { s with gro := Grotto.spin { s.gro with
      waiting := upd s.gro.waiting p fun l => l.erase r
      winCount := upd s.gro.winCount k fun n => n + r.lines
      linesClass := upd s.gro.linesClass k fun n => satAdd n r.lines } r.lines }

/-- The first grant of a fabric cycle, which no floor raises, meets no earlier write: it is taken and takes effect. -/
theorem State.grantOne_first (k : Fin 4) (fresh : List (Fin 14 × PortReq)) : s.grantOne fresh [] k false p r = (s.taken k p r).grant p r := by
  simp [State.grantOne, State.taken]

/-- Where no finding of the decoder is left in the lines of a clean request, its write is made. -/
theorem State.grant_clean_write (hw : r.write = some d) (clean : r.ecc = .clean) (sound : s.foundBlock r = none) :
    s.grant p r = s.grantWrite p r d := by
  simp [State.grant, hw, clean, sound]

/-- A write outside IMAGE, RETAIN, PANEL and FW changes its chamber alone, and clears the poison of the blocks that it covers. -/
theorem State.grantWrite_gro (hc : r.chamber ∉ ([0, 2, 8, 10] : List (Fin 11))) :
    (s.grantWrite p r d).gro = { s.gro with
      poison := s.gro.poison.filter fun e => e.1 != r.chamber || !wholeBlock r.off d.length e.2
      mem := put s.gro.mem r.chamber ((s.gro.mem.get r.chamber).write r.off d) } := by
  simp only [List.mem_cons, List.not_mem_nil, or_false, not_or] at hc
  obtain ⟨image, retain, panel, fw⟩ := hc
  simp [State.grantWrite, State.writeChamber, image, retain, panel, fw, State.setMem]

/-- A request within its port's rights and bounds waits at its port. -/
theorem State.present_permitted (ok : s.permits p r = true) :
    s.present [(p, r)] = { s with gro.waiting := upd s.gro.waiting p fun l => l ++ [r] } := by
  simp [State.present, ok]

/-- Presented at an idle fabric, it waits alone. -/
theorem State.present_onlyWaits (ok : s.permits p r = true) (idle : s.gro.waiting = Vector.replicate 14 [])
    (flows : s.gro.backpressure = false) : (s.present [(p, r)]).OnlyWaits p r := by
  rw [State.present_permitted ok]
  exact ⟨by simp [upd, idle, Vector.get], flows⟩

end Write

/-- Settles O2: the presented request waits alone, so that the arbiter grants it and nothing else, and its grant is the write of its chamber.
That it is granted in the step in which it is presented is the model's choice (log 57). -/
theorem portWriteReachesItsChamber : Obligations.PortWriteReachesItsChamber := by
  intro s p k r d up idle flows hp ok hw hc clean sound
  have empty : s.gro.waiting = Vector.replicate 14 [] := Vector.ext fun i hi => (idle ⟨i, hi⟩).trans (by simp)
  have alone := s.present_onlyWaits ok empty flows
  refine ⟨((s.present [(p, r)]).taken k p r).grantWrite p r d, ?_, ?_⟩
  · have granted := alone.grantAll hp [(p, r)]
    rw [State.grantOne_first, State.grant_clean_write hw clean (by rw [State.present_permitted ok]; exact sound)] at granted
    exact congrArg Host.Outcome.next ((if_pos up).trans (congrArg State.dispatch granted))
  · rw [State.grantWrite_gro hc, State.present_permitted ok]
    have left : upd (upd s.gro.waiting p fun l => l ++ [r]) p (fun l => l.erase r) = s.gro.waiting := by
      rw [upd_upd]
      exact upd_eq_self (by simp [idle p])
    exact ⟨rfl, rfl, left, rfl⟩

end Sys2Proof.Machine
end

section
/-! PROOFS. Supply, heat and hold-up (chapter 3): the power commands, the events of the supply and the store, and the heat level. -/

namespace Sys2Proof.Machine

set_option Elab.async false

/-! ### What the monitor's own operations leave (R55, R75) -/

section Monitor

variable (p : Power) (now : Nat)

/-! Bringing the level times up to now changes no level, no counter but the level times, and no other finding of the monitor. -/

@[simp] theorem Power.countHeat_energy : (p.countHeat now).energy = p.energy := rfl
@[simp] theorem Power.countHeat_heat : (p.countHeat now).heat = p.heat := rfl
@[simp] theorem Power.countHeat_E3_COUNT : (p.countHeat now).stat.E3_COUNT = p.stat.E3_COUNT := rfl
@[simp] theorem Power.countHeat_HOLDUP_CAP : (p.countHeat now).stat.HOLDUP_CAP = p.stat.HOLDUP_CAP := rfl

/-! A clear is one of the status fields and of the parts of a second behind the level times. -/

@[simp] theorem Power.cleared_energy : p.cleared.energy = p.energy := rfl
@[simp] theorem Power.cleared_heat : p.cleared.heat = p.heat := rfl
@[simp] theorem Power.cleared_E3_COUNT : p.cleared.stat.E3_COUNT = p.stat.E3_COUNT := rfl
@[simp] theorem Power.cleared_HOLDUP_CAP : p.cleared.stat.HOLDUP_CAP = p.stat.HOLDUP_CAP := rfl

/-- Every sticky bit is 0 after a clear. -/
theorem Power.cleared_sticky :
    p.cleared.stat.E1_SEEN = 0#1 ∧ p.cleared.stat.E2_SEEN = 0#1 ∧ p.cleared.stat.FEED_A_LOST_SEEN = 0#1 ∧
    p.cleared.stat.FEED_B_LOST_SEEN = 0#1 ∧ p.cleared.stat.SENSOR_FAULT_SEEN = 0#1 ∧ p.cleared.stat.VIN_HIGH_SEEN = 0#1 :=
  ⟨rfl, rfl, rfl, rfl, rfl, rfl⟩

/-- So are the counts of E1 and E2 and the level times. -/
theorem Power.cleared_counters :
    p.cleared.stat.E1_COUNT = 0#32 ∧ p.cleared.stat.E2_COUNT = 0#32 ∧ p.cleared.stat.H1_SECONDS = 0#32 ∧
    p.cleared.stat.H2_SECONDS = 0#32 ∧ p.cleared.stat.H3_SECONDS = 0#32 :=
  ⟨rfl, rfl, rfl, rfl, rfl⟩

/-! A sample of VIN moves the timers of its thresholds; VIN itself, what is known of it and the energy level stand. -/

@[simp] theorem Power.sampleVin_vin : (p.sampleVin now).vin = p.vin := rfl
@[simp] theorem Power.sampleVin_vinUnknown : (p.sampleVin now).vinUnknown = p.vinUnknown := rfl
@[simp] theorem Power.sampleVin_energy : (p.sampleVin now).energy = p.energy := rfl

variable {p}

/-- An unknown VIN counts as below 15.0 V (R55). -/
theorem Power.vin_lt_of_unknown (h : p.vinUnknown = true) : p.vin < 15000 := by
  rw [Power.vin, if_pos h]
  decide

end Monitor

/-! ### The power commands (R74, R75) -/

section Commands

variable {s : State} {rq : Request}

theorem exec_cfgPowerSet_writes (h : s.Accepts Cmd.cfgPowerSet rq) (ok : (PowerDesc.ofBytes rq.payload).inRange = true) :
    exec (.cfgPowerSet rq) s =
      .next (State.answered { s with pow.desc := PowerDesc.ofBytes rq.payload } Cmd.cfgPowerSet rq []) := by
  refine congrArg Host.Outcome.next (h.done rfl ?_)
  simp only [refuseIf, ok]
  rfl

theorem exec_cfgPowerSet_refuses (h : s.Accepts Cmd.cfgPowerSet rq) (bad : (PowerDesc.ofBytes rq.payload).inRange = false) :
    exec (.cfgPowerSet rq) s = .next ((s.receive rq).refuse Cmd.cfgPowerSet rq 0x0209 0xFFFF 0) := by
  refine congrArg Host.Outcome.next (h.refused rfl ?_)
  simp only [refuseIf, bad]
  rfl

theorem exec_cfgPowerGet_answers_descriptor (h : s.Accepts Cmd.cfgPowerGet rq) :
    exec (.cfgPowerGet rq) s = .next (s.answered Cmd.cfgPowerGet rq s.pow.desc.toBytes) :=
  congrArg Host.Outcome.next (h.done rfl rfl)

theorem exec_diagPowerStatus_answers_record (h : s.Accepts Cmd.diagPowerStatus rq) :
    exec (.diagPowerStatus rq) s =
      .next (s.answered Cmd.diagPowerStatus rq ((s.gro.mem.get 0).read 0 24 ++ s.pow.stat.toBytes)) :=
  congrArg Host.Outcome.next (h.done rfl rfl)

/-- The level times are brought up to now before they are cleared, so that the time until the clear is not counted after it. -/
theorem exec_diagPowerClear_clears (h : s.Accepts Cmd.diagPowerClear rq) :
    exec (.diagPowerClear rq) s =
      .next (State.answered { s with pow := (s.pow.countHeat s.now).cleared } Cmd.diagPowerClear rq []) :=
  congrArg Host.Outcome.next (h.done rfl rfl)

end Commands

/-- Settles O5: each command ends in its effect and its answer, and a clear takes every bit and counter that R75 names. That the extremes begin
again at the present readings is the model's choice (log 66). -/
theorem powerCommandsAnswer : Obligations.PowerCommandsAnswer := by
  refine ⟨fun _ _ => exec_cfgPowerSet_writes, fun _ _ => exec_cfgPowerSet_refuses, fun _ _ => exec_cfgPowerGet_answers_descriptor,
    fun _ _ => exec_diagPowerStatus_answers_record, fun s rq h => ⟨_, exec_diagPowerClear_clears h, ?_⟩⟩
  have sticky := (s.pow.countHeat s.now).cleared_sticky
  have counters := (s.pow.countHeat s.now).cleared_counters
  simp [sticky, counters]

/-! ### The events of the supply (R54, R55, R60) -/

section Supply

variable {s : State}

theorem exec_pfWarnChange_sets (hp : s.powered = true) (hw : s.pow.pfWarn = false) (low : s.pow.vin < 16000) :
    exec .pfWarnChange s = .next (State.supplyEvent { s with pow := { s.pow with pfWarn := true } } 3) :=
  congrArg Host.Outcome.next ((if_neg (by simp [hp])).trans (if_pos (by simp [hw, low])))

theorem exec_pfWarnChange_clears (hp : s.powered = true) (hw : s.pow.pfWarn = true) (high : 16500 ≤ s.pow.vin) :
    exec .pfWarnChange s = .next { s with pow := { s.pow with pfWarn := false } } :=
  congrArg Host.Outcome.next
    ((if_neg (by simp [hp])).trans ((if_neg (by simp [hw])).trans (if_pos (by simp [hw, high]))))

theorem exec_feedLoss_declares {feed : Fin 2} (hp : s.powered = true) (hf : s.pow.feedLost.get feed = false)
    (ht : s.ran (s.pow.feedLowSince.get feed) (ms s.pow.act.FEED_LOSS_MS.toNat) = true) :
    exec (.feedLoss feed) s = .next (State.supplyEvent
      { s with pow := { s.pow with
        feedLost := put s.pow.feedLost feed true,
        stat := if feed = 0 then { s.pow.stat with FEED_A_LOST_SEEN := 1#1 } else { s.pow.stat with FEED_B_LOST_SEEN := 1#1 } } } 4) :=
  congrArg Host.Outcome.next (if_pos (by simp [hp, hf, ht]))

theorem exec_vinHighSet_sets (hp : s.powered = true) (hv : s.pow.vinHigh = false) (ht : s.ran s.pow.vinHighSince (ms 10) = true) :
    exec .vinHighSet s = .next (State.supplyEvent
      { s with pow := { s.pow with vinHigh := true, stat := { s.pow.stat with VIN_HIGH_SEEN := 1#1 } } } 3) :=
  congrArg Host.Outcome.next (if_pos (by simp [hp, hv, ht]))

theorem exec_vinHighClear_clears (hp : s.powered = true) (hv : s.pow.vinHigh = true)
    (ht : s.ran s.pow.vinHighOkSince (ms 100) = true) :
    exec .vinHighClear s = .next (State.supplyEvent { s with pow := { s.pow with vinHigh := false } } 2) :=
  congrArg Host.Outcome.next (if_pos (by simp [hp, hv, ht]))

/-- The silence of both links is itself a sample of VIN: the timers of its thresholds see it as unknown. -/
theorem exec_vinUnknownSet_samples (hp : s.powered = true) (h0 : s.linkSilent 0 = true) (h2 : s.linkSilent 2 = true) :
    exec .vinUnknownSet s =
      .next { s with pow := Power.sampleVin { s.pow with vinUnknown := true, vinIlk0 := none, vinIlk2 := none } s.now } :=
  congrArg Host.Outcome.next (if_pos (by simp [hp, h0, h2]))

end Supply

/-! ### The store's measurement (R58) -/

section Store

variable {s : State} {uF : Nat}

theorem exec_holdupMeasure_full (hp : s.powered = true) (full : 12500 ≤ uF) :
    exec (.holdupMeasure uF) s = .next { s with pow := { s.pow with
      stat := { s.pow.stat with HOLDUP_CAP := BitVec.ofNat 16 (min 65535 (uF / 10)) }
      holdupWeak := false
      holdupReady := decide (18000 ≤ s.pow.vin) } } :=
  congrArg Host.Outcome.next ((if_pos hp).trans (if_pos full))

/-- Below 12.5 mF a store is weak and ready, or neither, as it reaches 8.5 mF or does not. -/
theorem exec_holdupMeasure_short (hp : s.powered = true) (short : uF < 12500) :
    exec (.holdupMeasure uF) s = .next (State.supplyEvent { s with pow := { s.pow with
      stat := { s.pow.stat with HOLDUP_CAP := BitVec.ofNat 16 (min 65535 (uF / 10)) }
      holdupWeak := decide (8500 ≤ uF)
      holdupReady := decide (8500 ≤ uF) } } 4) := by
  refine congrArg Host.Outcome.next ((if_pos hp).trans ((if_neg (by omega)).trans ?_))
  by_cases weak : 8500 ≤ uF
  · rw [if_pos weak, decide_eq_true weak]
  · rw [if_neg weak, decide_eq_false weak]

end Store

/-- Settles O8: each event ends in its flag and its record. That a weak store is ready at once
and a full one only at 18.0 V is the model's reading (log 67). -/
theorem supplyEventsComplete : Obligations.SupplyEventsComplete := by
  refine ⟨fun _ => exec_pfWarnChange_sets, fun _ => exec_pfWarnChange_clears, fun _ _ => exec_feedLoss_declares,
    fun _ => exec_vinHighSet_sets, fun _ => exec_vinHighClear_clears,
    fun s hp h0 h2 => ⟨_, exec_vinUnknownSet_samples hp h0 h2, rfl, ?_, rfl⟩,
    fun _ _ => exec_holdupMeasure_full, fun _ _ => exec_holdupMeasure_short⟩
  exact Power.vin_lt_of_unknown rfl

/-! ### Publication and the heat level (R69 to R72) -/

section Heat

variable {s : State}

/-- With no floor raised by the sensors there is no sensor fault, and one that stood ends (R71). -/
theorem State.sensorFault_of_no_floor {p : Power} (h : p.heatFloor = 0) :
    State.sensorFault { s with pow := p } = { s with pow := { p with thermFault := false } } := by
  simp [State.sensorFault, h]

theorem exec_budgetPublish_no_fault {m : MonitorSample} {p : Power} (hp : s.powered = true)
    (taken : (s.pow.take m s.now).raiseHeat s.now = p) (sound : p.heatFloor = 0) :
    exec (.budgetPublish m) s = .next (State.swapOnRequest (State.publish
      (let s1 : State := { s with pow := { p with
         thermFault := false, swapReq := State.swapReqNow { s with pow := { p with thermFault := false } } } }
       if s.pow.heat.num < p.heat.num then s1.levelEvent (if p.heat = .h3 then 4 else 3) s.pow.heat.num p.energy.num else s1))) := by
  refine congrArg Host.Outcome.next ((if_pos hp).trans ?_)
  simp only [taken, State.sensorFault_of_no_floor sound, beq_iff_eq]

/-- The fall leaves the next level down, and its record names the level that it leaves. -/
theorem exec_heatLevelFall_falls (above : 0 < s.pow.heat.num) (exit : s.pow.heatExit s.pow.heat.num = true)
    (ht : s.ran s.pow.heatOkSince (sec 1) = true) :
    ∃ s1 : State, exec .heatLevelFall s = .next (s1.levelEvent 2 s.pow.heat.num s.pow.energy.num) ∧
      s1.pow.heat = Heat.ofNum (s.pow.heat.num - 1) ∧ s1.pow.energy = s.pow.energy :=
  ⟨_, congrArg Host.Outcome.next (if_pos (by simp [above, exit, ht])), rfl, rfl⟩

end Heat

/-- Settles O9: without a floor the readings alone decide the level that is published, and a fall goes one level down. -/
theorem heatLevelsPublish : Obligations.HeatLevelsPublish :=
  ⟨fun _ _ _ => exec_budgetPublish_no_fault, fun _ => exec_heatLevelFall_falls⟩

end Sys2Proof.Machine
end

section
/-! PROOFS. The task and remote-station commands (chapter 4): descriptors, statuses, the resume and the clear. -/

namespace Sys2Proof.Machine

set_option Elab.async false

/-! ### Commands about one task (R92, R102, R103, R105) -/

/-- A number that names a task leads to what the command does with it. -/
theorem onTask_of_eq_val {n : Nat} {t : Fin 128} (h : n = t.val) (k : Fin 128 → Served) : onTask n k = k t := by
  rw [onTask, asFin_of_eq_val h]

/-- A test that fails refuses nothing. -/
theorem refuseIf_of_false {c : Bool} {reason inst item : Nat} {k : Served} (h : c = false) : refuseIf c reason inst k item = k :=
  if_neg (by simp [h])

/-- A test that holds refuses. -/
theorem refuseIf_of_true {c : Bool} {reason inst item : Nat} {k : Served} (h : c = true) :
    refuseIf c reason inst k item = .refuse reason inst item := if_pos h

section TaskCommands

variable {s : State} {rq : Request} {t : Fin 128}

theorem exec_prgTaskSet_writes (h : s.Accepts Cmd.prgTaskSet rq) (ht : (TaskDesc.ofBytes rq.payload).TASK_ID.toNat = t.val)
    (ok : (TaskDesc.ofBytes rq.payload).inRange = true) :
    exec (.prgTaskSet rq) s = .next (State.answered
      (s.setTask t fun k => { k with desc := TaskDesc.ofBytes rq.payload }) Cmd.prgTaskSet rq []) := by
  refine congrArg Host.Outcome.next (h.done rfl ?_)
  simp only [asFin_of_eq_val ht]
  exact refuseIf_of_false (by simp [ok])

theorem exec_prgTaskSet_refuses (h : s.Accepts Cmd.prgTaskSet rq) (ht : (TaskDesc.ofBytes rq.payload).TASK_ID.toNat = t.val)
    (bad : (TaskDesc.ofBytes rq.payload).inRange = false) :
    exec (.prgTaskSet rq) s = .next ((s.receive rq).refuse Cmd.prgTaskSet rq 0x0301 t.val 0) := by
  refine congrArg Host.Outcome.next (h.refused rfl ?_)
  simp only [asFin_of_eq_val ht]
  exact refuseIf_of_true (by simp [bad])

theorem exec_prgTaskGet_answers_descriptor (h : s.Accepts Cmd.prgTaskGet rq) (ht : rq.u8 0 = t.val) :
    exec (.prgTaskGet rq) s = .next (s.answered Cmd.prgTaskGet rq
      (TaskDesc.toBytes { (s.task t).desc with TASK_ID := BitVec.ofNat 8 t.val })) :=
  congrArg Host.Outcome.next (h.done rfl (onTask_of_eq_val ht _))

theorem exec_prgTaskStatus_answers_status (h : s.Accepts Cmd.prgTaskStatus rq) (ht : rq.u8 0 = t.val) :
    exec (.prgTaskStatus rq) s = .next (s.answered Cmd.prgTaskStatus rq
      ((s.task t).stat.toBytes (STATE := (s.task t).run.num) (ACTUAL_PERIOD_US := (s.task t).actualPeriod))) :=
  congrArg Host.Outcome.next (h.done rfl (onTask_of_eq_val ht _))

/-- The restart of a cyclic task waits for its next boundary (R92), so that the command only asks for it. -/
theorem exec_prgTaskResume_of_cyclic (h : s.Accepts Cmd.prgTaskResume rq) (ht : rq.u8 0 = t.val)
    (fault : (s.task t).stat.FAULT = 1#1) (cyclic : (s.task t).desc.KIND = 1#8) :
    exec (.prgTaskResume rq) s = .next (State.answered
      (s.setTask t fun k => { k with resume := true }) Cmd.prgTaskResume rq []) := by
  have here : ((s.receive rq).task t).stat.FAULT = 1#1 := fault
  have kind : ((s.receive rq).task t).desc.KIND = 1#8 := cyclic
  refine congrArg Host.Outcome.next (h.done rfl ((onTask_of_eq_val ht _).trans ?_))
  exact (refuseIf_of_false (by simp [here])).trans (if_neg (by simp [kind]))

theorem exec_prgTaskResume_without_fault (h : s.Accepts Cmd.prgTaskResume rq) (ht : rq.u8 0 = t.val)
    (sound : (s.task t).stat.FAULT = 0#1) :
    exec (.prgTaskResume rq) s = .next ((s.receive rq).refuse Cmd.prgTaskResume rq 0x0303 t.val 0) :=
  have here : ((s.receive rq).task t).stat.FAULT = 0#1 := sound
  congrArg Host.Outcome.next (h.refused rfl ((onTask_of_eq_val ht _).trans (refuseIf_of_true (by simp [here]))))

theorem exec_prgTaskClear_one (h : s.Accepts Cmd.prgTaskClear rq) (ht : rq.u8 0 = t.val) :
    exec (.prgTaskClear rq) s = .next (State.answered
      (s.setTask t fun k => { k with stat := k.stat.cleared }) Cmd.prgTaskClear rq []) :=
  congrArg Host.Outcome.next (h.done rfl ((if_neg (by omega)).trans (onTask_of_eq_val ht _)))

theorem exec_prgTaskClear_every (h : s.Accepts Cmd.prgTaskClear rq) (every : rq.u8 0 = 255) :
    exec (.prgTaskClear rq) s = .next (State.answered
      { s with tk.task := s.tk.task.map fun k => { k with stat := k.stat.cleared } } Cmd.prgTaskClear rq []) :=
  congrArg Host.Outcome.next (h.done rfl (if_pos every))

end TaskCommands

/-! ### Commands about a remote station (R104, R105) -/

section RemoteCommands

variable {s : State} {rq : Request} {r : Remote}

theorem exec_prgRemoteSet_writes (h : s.Accepts Cmd.prgRemoteSet rq) (ok : (RemoteDesc.ofBytes rq.payload).inRange = true)
    (room : (remotePut s.tk.remotes (RemoteDesc.ofBytes rq.payload)).length ≤ 256) :
    exec (.prgRemoteSet rq) s = .next (State.answered
      { s with tk.remotes := remotePut s.tk.remotes (RemoteDesc.ofBytes rq.payload) } Cmd.prgRemoteSet rq []) :=
  congrArg Host.Outcome.next (h.done rfl (refuseIf_of_false
    (Bool.or_eq_false_iff.mpr ⟨by simp [ok], decide_eq_false (Nat.not_lt.mpr room)⟩)))

theorem exec_prgRemoteStatus_answers_status (h : s.Accepts Cmd.prgRemoteStatus rq) (addr : rq.u16 0 ≤ 1023)
    (found : (s.tk.remotes.find? fun r => r.desc.STATION_ADDR.toNat == rq.u16 0) = some r) :
    exec (.prgRemoteStatus rq) s = .next (s.answered Cmd.prgRemoteStatus rq (r.stat.toBytes (STATE := r.state.num))) := by
  have here : ((s.receive rq).tk.remotes.find? fun r => r.desc.STATION_ADDR.toNat == rq.u16 0) = some r := found
  refine congrArg Host.Outcome.next (h.done rfl ((refuseIf_of_false (by simpa using addr)).trans ?_))
  simp only [here]

end RemoteCommands

/-- Settles O10: each command that passes the mailbox layer names its task or its station, and ends in its effect or in its refusal. -/
theorem taskCommandsAnswer : Obligations.TaskCommandsAnswer :=
  ⟨fun _ _ _ => exec_prgTaskSet_writes, fun _ _ _ => exec_prgTaskSet_refuses, fun _ _ _ => exec_prgTaskGet_answers_descriptor,
    fun _ _ _ => exec_prgTaskStatus_answers_status, fun _ _ _ => exec_prgTaskResume_of_cyclic,
    fun _ _ _ => exec_prgTaskResume_without_fault, fun _ _ _ => exec_prgTaskClear_one, fun _ _ => exec_prgTaskClear_every,
    fun _ _ => exec_prgRemoteSet_writes, fun _ _ _ => exec_prgRemoteStatus_answers_status⟩

end Sys2Proof.Machine
end

section
/-! PROOFS. The period boundary (chapter 4): its order, the close of a task's cycle, and the hold of the next one. -/

namespace Sys2Proof.Machine

set_option Elab.async false

section Boundary

variable {s : State} {t : Fin 128} {ts : List (Fin 128)} {r : TaskRun}

/-! ### The order of a boundary (R82) -/

/-- With a task due, all commits come first, then what takes effect between, then all latches, then the decision. -/
theorem exec_periodBoundary_of_due (due : s.dueTasks = t :: ts) :
    exec .periodBoundary s = .next (State.dispatch ((t :: ts).foldl State.openCycle
      ((idx 4).foldl (fun s l => (s.splitNow l).joinNow l) ((t :: ts).foldl State.closeCycle s).applyUnowned))) := by
  refine congrArg Host.Outcome.next ?_
  simp only [due]

/-! ### The close of a cycle (R82, R90 to R93) -/

/-- The task meets a boundary of its own in an open cycle that neither a fault, a halt, a hold nor a restore keeps from its end. -/
structure State.ClosesCycle (s : State) (t : Fin 128) : Prop where
  runs     : s.hasTask t = true
  boundary : s.midCycle t = false
  sound    : (s.task t).stat.FAULT = 0#1
  goes     : (s.task t).stat.DEBUG_HALT = 0#1
  opened   : (s.task t).cycleOpen = true
  notHeld  : (s.task t).heldCycle = false
  stands   : (s.task t).restoreAt = none

/-- A finished cycle commits where its buffer is not held. -/
theorem State.ClosesCycle.closeCycle_finished (h : s.ClosesCycle t) (done : (s.task t).finished = some r)
    (free : (s.task t).bufHeld = false) : s.closeCycle t = (s.commitRun t r).inTime t := by
  simp [State.closeCycle, h.runs, h.boundary, h.sound, h.goes, h.opened, h.notHeld, h.stands, done, free]

/-- An unfinished one has overrun. -/
theorem State.ClosesCycle.closeCycle_unfinished (h : s.ClosesCycle t) (late : (s.task t).finished = none) :
    s.closeCycle t = s.overran t := by
  simp [State.closeCycle, h.runs, h.boundary, h.sound, h.goes, h.opened, h.notHeld, h.stands, late]

/-- An overrun counts one in the status and one toward the limit. -/
theorem State.task_countOverrun : (s.countOverrun t).task t = { s.task t with
    consecOvr := (s.task t).consecOvr + 1
    stat := { (s.task t).stat with OVERRUN_COUNT := sat (s.task t).stat.OVERRUN_COUNT } } := State.task_setTask ..

/-- The overrun of a task that does not abandon counts toward its limit: there the task faults, below it OVERRUN is set and the
commit is missed. -/
theorem State.overran_of_not_abandons (keeps : (s.task t).abandons = false) :
    s.overran t =
      if (s.task t).desc.OVERRUN_LIMIT.toNat ≤ (s.task t).consecOvr + 1 then (s.countOverrun t).taskFault t false
      else ((s.countOverrun t).setTask t fun k => { k with stat := { k.stat with OVERRUN := 1#1 } }).missCommit t := by
  have limit : ((s.countOverrun t).task t).desc = (s.task t).desc := by rw [State.task_countOverrun]
  have count : ((s.countOverrun t).task t).consecOvr = (s.task t).consecOvr + 1 := by rw [State.task_countOverrun]
  have still : ((s.countOverrun t).task t).abandons = false := by rw [State.task_countOverrun]; exact keeps
  simp [State.overran, limit, count, still]

/-! ### A task held by the ladder (R96) -/

/-- A task between its cycles that nothing of a swap, a yield, a halt or a fault keeps back goes on to its next cycle. -/
theorem State.openCycle_eq_nextCycle (runs : s.hasTask t = true) (stays : s.pr.swapping = false) (yields : s.pr.yielding = false)
    (goes : (s.task t).stat.DEBUG_HALT = 0#1) (between : (s.task t).cycleOpen = false) (sound : (s.task t).stat.FAULT = 0#1) :
    s.openCycle t = s.nextCycle t := by
  simp [State.openCycle, runs, stays, yields, goes, between, sound]

/-- A held task makes no latch: its status alone changes. -/
theorem State.nextCycle_of_holds (held : (s.effectOn t).holds = true) :
    s.nextCycle t = s.setTask t fun k =>
      { k with stretchWait := false, stat := { k.stat with HELD := 1#1, HELD_COUNT := sat k.stat.HELD_COUNT, STRETCHED := 0#1 } } :=
  if_pos held

end Boundary

/-- Settles O11: the boundary is its four passes in their order; a cycle that can end there commits or overruns, and a held task counts its
hold. -/
theorem boundaryRunsCommitsThenLatches : Obligations.BoundaryRunsCommitsThenLatches := by
  refine ⟨fun _ _ _ => exec_periodBoundary_of_due, ?_, ?_, ?_⟩
  · intro s t r runs boundary sound goes opened notHeld stands done free
    exact State.ClosesCycle.closeCycle_finished ⟨runs, boundary, sound, goes, opened, notHeld, stands⟩ done free
  · intro s t runs boundary sound goes opened notHeld stands late keeps
    have closes : s.ClosesCycle t := ⟨runs, boundary, sound, goes, opened, notHeld, stands⟩
    exact (closes.closeCycle_unfinished late).trans (State.overran_of_not_abandons keeps)
  · intro s t runs stays yields goes between sound held
    exact (State.openCycle_eq_nextCycle runs stays yields goes between sound).trans (State.nextCycle_of_holds held)

end Sys2Proof.Machine
end

section
/-! PROOFS. The end of a run (chapters 4 and 5): its finish or its mismatch, the restore, and the JTAG write. -/

namespace Sys2Proof.Machine

set_option Elab.async false

section Runs

variable {s : State} {t : Fin 128} {r : TaskRun}

/-! ### The finish of a run (R113, R118) -/

/-- A running task, on its stream and not in a restore, is one whose run can end. -/
structure State.CanFinish (s : State) (t : Fin 128) : Prop where
  runs    : s.hasTask t = true
  running : (s.task t).run = .running
  stands  : (s.task t).restoreAt = none
  placed  : (s.streamOf t).isSome = true

/-- Outside the safety class no passes are compared. -/
theorem State.runMismatch_of_not_safety (other : (s.task t).desc.SAFETY = 0#1) : s.runMismatch t r = none := by
  simp [State.runMismatch, other]

/-- In the safety class a mismatch that the lane found is the run's. -/
theorem State.runMismatch_of_found {c : BitVec 8} (safety : (s.task t).desc.SAFETY = 1#1) (found : r.mismatch = some c) :
    s.runMismatch t r = some (c.setWidth 3) := by
  simp [State.runMismatch, safety, found]

/-- What a run notes of itself is no JTAG write. -/
@[simp] theorem State.noteRun_jtag : (s.noteRun t r).dbg.jtag = s.dbg.jtag := rfl

/-- A module in which no JTAG write stands is as it is with their list empty. -/
theorem State.with_jtag_nil (h : s.dbg.jtag = []) : { s with dbg.jtag := [] } = s := by
  rw [← h]

theorem exec_taskFinish_of_not_safety (h : s.CanFinish t) (other : (s.task t).desc.SAFETY = 0#1) :
    exec (.taskFinish t r) s = .next (s.finishRun t r).dispatch := by
  refine congrArg Host.Outcome.next ((if_pos (by simp [h.runs, h.running, h.stands, h.placed])).trans ?_)
  simp [State.runMismatch_of_not_safety other, other]

/-- A run that mismatches makes none of its stores; the records of the run are in its queue before the mismatch is handled. -/
theorem exec_taskFinish_of_mismatch {c : BitVec 8} (h : s.CanFinish t) (safety : (s.task t).desc.SAFETY = 1#1)
    (found : r.mismatch = some c) (untouched : s.dbg.jtag = []) :
    exec (.taskFinish t r) s = .next (State.dispatch
      ((r.records.foldl (fun s x => s.queueRecord t x) (s.noteRun t r)).mismatch t (c.setWidth 3) (r.undoLines.1 + r.undoLines.2))) := by
  refine congrArg Host.Outcome.next ((if_pos (by simp [h.runs, h.running, h.stands, h.placed])).trans ?_)
  have noted : (s.noteRun t r).dbg.jtag = [] := State.noteRun_jtag.trans untouched
  simp only [State.runMismatch_of_found safety found, safety, beq_self_eq_true, if_true, noted, List.filter_nil, State.with_jtag_nil noted]

/-! ### The end of a restore (R116, R119) -/

/-- A task that leaves its stream is otherwise as it was. -/
@[simp] theorem State.task_offLane (u : Fin 128) : (s.offLane t).task u = s.task u := rfl

/-- The undo logs written back, and the task at its checkpoint, out of its restore. -/
def State.restored (s : State) (t : Fin 128) : State :=
  (s.undo t).setTask t fun k => { k with restoreAt := none, data0 := [], undoRetain := [], codeOfs := k.ckptOfs }

/-- The cycle of a cyclic task that is not executed again: off its lane, held to its boundary. -/
def State.heldToBoundary (s : State) (t : Fin 128) : State :=
  ((s.setTask t fun k => { k with run := .idle }).offLane t).setTask t fun k => { k with heldCycle := true }

/-- With nothing logged of RETAIN, the restore writes the task data back and ends in its re-execution. -/
theorem exec_restoreComplete_reexecutes (restoring : (s.task t).restoreAt.isSome = true) (runs : s.hasTask t = true)
    (again : (s.task t).reexec = true) (unlogged : (s.task t).undoRetain = []) :
    exec (.restoreComplete t) s = .next (s.restored t) := by
  refine congrArg Host.Outcome.next ((if_pos (by simp [restoring, runs])).trans ?_)
  simp only [unlogged, List.foldl_nil, again, if_true]
  rfl

theorem exec_restoreComplete_holds (restoring : (s.task t).restoreAt.isSome = true) (runs : s.hasTask t = true)
    (ends : (s.task t).reexec = false) (unlogged : (s.task t).undoRetain = []) (cyclic : (s.task t).desc.KIND = 1#8) :
    exec (.restoreComplete t) s = .next ((s.restored t).heldToBoundary t).dispatch := by
  refine congrArg Host.Outcome.next ((if_pos (by simp [restoring, runs])).trans ?_)
  simp only [unlogged, List.foldl_nil, ends]
  exact (if_neg (by simp)).trans ((if_neg (by simp [cyclic])).trans rfl)

/-- The hold leaves the restored task IDLE in a held cycle. -/
theorem State.task_heldToBoundary : (s.heldToBoundary t).task t = { s.task t with run := .idle, heldCycle := true } := by
  simp [State.heldToBoundary]

/-- The restored task is in no restore. -/
theorem State.restored_restoreAt : ((s.restored t).task t).restoreAt = none := by
  simp [State.restored]

/-! ### A JTAG write (R127) -/

/-- A variable that no task owns has no shadow copy to part from. -/
theorem exec_jtagWrite_of_unowned {handle : BitVec 32} {v : VarDecl} {value : BitVec 64} (known : s.varOf handle = some v)
    (unowned : v.owner = none) :
    exec (.jtagWrite handle value) s = .next (s.writeChamber v.chamber v.off (leBytes v.size.toNat value.toNat)) := by
  refine congrArg Host.Outcome.next ?_
  simp only [known, unowned]

end Runs

/-- Settles O16: a finish is split by the comparison of its passes, a restore by its re-execution. That the records of a run that mismatches
stand is the model's choice (log 79). -/
theorem runsFinishAndRestore : Obligations.RunsFinishAndRestore := by
  refine ⟨?_, ?_, fun _ _ => exec_restoreComplete_reexecutes, ?_, fun _ _ _ _ => exec_jtagWrite_of_unowned⟩
  · intro s t r runs running stands placed other
    exact exec_taskFinish_of_not_safety ⟨runs, running, stands, placed⟩ other
  · intro s t r c runs running stands placed safety found untouched
    exact exec_taskFinish_of_mismatch ⟨runs, running, stands, placed⟩ safety found untouched
  · intro s t restoring runs ends unlogged cyclic
    have task : ((s.restored t).heldToBoundary t).task t = { (s.restored t).task t with run := .idle, heldCycle := true } :=
      State.task_heldToBoundary
    refine ⟨_, exec_restoreComplete_holds restoring runs ends unlogged cyclic, ?_, ?_, ?_, rfl⟩
    · exact congrArg Task.run task
    · exact congrArg Task.heldCycle task
    · exact (congrArg Task.restoreAt task).trans State.restored_restoreAt

end Sys2Proof.Machine
end

section
/-! PROOFS. The lane and Temper commands (chapter 5): split, join, statuses and the clear of one task's counters. -/

namespace Sys2Proof.Machine

set_option Elab.async false

/-- A number that names a lane leads to what the command does with it. -/
theorem onLane_of_eq_val {n : Nat} {l : Fin 4} (h : n = l.val) (k : Fin 4 → Served) : onLane n k = k l := by
  rw [onLane, asFin_of_eq_val h]

/-! ### What the arrival of a request leaves -/

section Arrival

variable (s : State) (rq : Request)

@[simp] theorem State.receive_lane (l : Fin 4) : (s.receive rq).lane l = s.lane l := rfl
@[simp] theorem State.receive_splitRefusal (l : Fin 4) : (s.receive rq).splitRefusal l = s.splitRefusal l := rfl
@[simp] theorem State.receive_task (t : Fin 128) : (s.receive rq).task t = s.task t := rfl
@[simp] theorem State.receive_isSafety (t : Fin 128) : (s.receive rq).isSafety t = s.isSafety t := rfl
@[simp] theorem State.receive_declOf (t : Fin 128) : (s.receive rq).declOf t = s.declOf t := rfl
@[simp] theorem State.receive_varOf (handle : BitVec 32) : (s.receive rq).varOf handle = s.varOf handle := rfl

end Arrival

section Lanes

variable {s : State} {rq : Request} {l : Fin 4}

/-! ### Splitting and joining a lane (R123 to R125) -/

/-- A command that changes a lane in one of two ways, as a condition says, is done with the lane changed as the condition says. -/
theorem done_setLane_ite {c : Prop} [Decidable c] {f g : LaneStat → LaneStat} :
    (if c then Served.done (s.setLane l f) [] else .done (s.setLane l g) []) = .done (s.setLane l fun x => if c then f x else g x) [] := by
  by_cases h : c
  · simp only [h, if_true]
  · simp only [h, if_false]

/-- A lane that nothing of R123 keeps whole is split at once in STOP; elsewhere its split is pending. -/
theorem exec_prgLaneSplit_takes (h : s.Accepts Cmd.prgLaneSplit rq) (hl : rq.u8 0 = l.val) (sound : (s.lane l).LANE_FAULT = 0#1)
    (whole : (s.lane l).SPLIT = 0#1) (idle : (s.lane l).SPLIT_PENDING = 0#1) (may : s.splitRefusal l = none) :
    exec (.prgLaneSplit rq) s = .next (State.answered
      (s.setLane l fun x => if s.sys.mode = .stop then x.split else { x with SPLIT_PENDING := 1#1 }) Cmd.prgLaneSplit rq []) := by
  refine congrArg Host.Outcome.next (h.done rfl ((onLane_of_eq_val hl _).trans ?_))
  refine (refuseIf_of_false (by simp [sound])).trans ((refuseIf_of_false (by simp [whole, idle])).trans ?_)
  simp only [State.receive_splitRefusal, may]
  exact done_setLane_ite

theorem exec_prgLaneSplit_of_split (h : s.Accepts Cmd.prgLaneSplit rq) (hl : rq.u8 0 = l.val) (sound : (s.lane l).LANE_FAULT = 0#1)
    (split : (s.lane l).SPLIT = 1#1) :
    exec (.prgLaneSplit rq) s = .next ((s.receive rq).refuse Cmd.prgLaneSplit rq 0x0309 l.val 0) := by
  refine congrArg Host.Outcome.next (h.refused rfl ((onLane_of_eq_val hl _).trans ?_))
  exact (refuseIf_of_false (by simp [sound])).trans (refuseIf_of_true (by simp [split]))

theorem exec_prgLaneJoin_of_split (h : s.Accepts Cmd.prgLaneJoin rq) (hl : rq.u8 0 = l.val) (split : (s.lane l).SPLIT = 1#1) :
    exec (.prgLaneJoin rq) s = .next (State.answered
      (s.setLane l fun x => if s.sys.mode = .stop then { x with SPLIT := 0#1, JOIN_PENDING := 0#1 } else { x with JOIN_PENDING := 1#1 })
      Cmd.prgLaneJoin rq []) := by
  refine congrArg Host.Outcome.next (h.done rfl ((onLane_of_eq_val hl _).trans ((refuseIf_of_false (by simp [split])).trans ?_)))
  exact done_setLane_ite

theorem exec_prgLaneJoin_of_whole (h : s.Accepts Cmd.prgLaneJoin rq) (hl : rq.u8 0 = l.val) (whole : (s.lane l).SPLIT = 0#1) :
    exec (.prgLaneJoin rq) s = .next ((s.receive rq).refuse Cmd.prgLaneJoin rq 0x0309 l.val 0) :=
  congrArg Host.Outcome.next (h.refused rfl ((onLane_of_eq_val hl _).trans (refuseIf_of_true (by simp [whole]))))

theorem exec_prgLaneStatus_answers_status (h : s.Accepts Cmd.prgLaneStatus rq) (hl : rq.u8 0 = l.val) :
    exec (.prgLaneStatus rq) s = .next (s.answered Cmd.prgLaneStatus rq
      ((s.lane l).toBytes (SAFETY_ACTIVE := bit (s.safetyActive l)) (STREAM0_TASK := s.streamTask ⟨l.val, by omega⟩)
        (STREAM1_TASK := s.streamTask ⟨l.val + 4, by omega⟩))) :=
  congrArg Host.Outcome.next (h.done rfl (onLane_of_eq_val hl _))

/-! ### The Temper status of a task (R134) -/

variable {t : Fin 128}

theorem exec_prgTemperStatus_answers_status (h : s.Accepts Cmd.prgTemperStatus rq) (ht : rq.u8 0 = t.val)
    (safety : (s.task t).desc.SAFETY = 1#1) (used : (s.task t).desc.KIND ≠ 0#8) :
    exec (.prgTemperStatus rq) s = .next (s.answered Cmd.prgTemperStatus rq (s.dbg.temper.get t).stat.toBytes) := by
  refine congrArg Host.Outcome.next (h.done rfl ((onTask_of_eq_val ht _).trans ?_))
  exact refuseIf_of_false (by simp [safety, used])

theorem exec_prgTemperClear_one (h : s.Accepts Cmd.prgTemperClear rq) (ht : rq.u8 0 = t.val) :
    exec (.prgTemperClear rq) s = .next (State.answered (s.setTemper t TemperStat.cleared) Cmd.prgTemperClear rq []) :=
  congrArg Host.Outcome.next (h.done rfl ((if_neg (by omega)).trans (onTask_of_eq_val ht _)))

end Lanes

/-- Settles O13: each command that passes the mailbox layer names its lane or its task, and ends in its effect or in the refusal of its lane's
state. That a lane with a split pending is none of the lanes left of R123 is the model's choice (log 34). -/
theorem laneCommandsAnswer : Obligations.LaneCommandsAnswer :=
  ⟨fun _ _ _ => exec_prgLaneSplit_takes, fun _ _ _ => exec_prgLaneSplit_of_split, fun _ _ _ => exec_prgLaneJoin_of_split,
    fun _ _ _ => exec_prgLaneJoin_of_whole, fun _ _ _ => exec_prgLaneStatus_answers_status,
    fun _ _ _ => exec_prgTemperStatus_answers_status, fun _ _ _ => exec_prgTemperClear_one⟩

end Sys2Proof.Machine
end

section
/-! PROOFS. The program's variables and its image (chapter 5, R516): reads, writes and their refusals, the load and the digest. -/

namespace Sys2Proof.Machine

set_option Elab.async false

section Variables

variable {s : State} {rq : Request} {v : VarDecl}

/-! ### Reading a variable (R129, R132) -/

theorem exec_prgVarRead_answers_value (h : s.Accepts Cmd.prgVarRead rq) (known : s.varOf (VarReq.ofBytes rq.payload).HANDLE = some v)
    (size : (VarReq.ofBytes rq.payload).SIZE = v.size) :
    exec (.prgVarRead rq) s = .next (s.answered Cmd.prgVarRead rq (ValReply.toBytes { ValReply.dflt with
      VALUE := BitVec.ofNat 64 (if v.chamber = 0 then s.valueAt v.off v.size.toNat else (s.gro.mem.get v.chamber).num v.off v.size.toNat)
      QUAL := if v.chamber = 0 then s.qualityAt v.off else 0#4 })) := by
  refine congrArg Host.Outcome.next (h.done rfl ?_)
  simp only [State.receive_varOf, known]
  exact refuseIf_of_false (by simp [size])

theorem exec_prgVarRead_of_unknown (h : s.Accepts Cmd.prgVarRead rq) (unknown : s.varOf (VarReq.ofBytes rq.payload).HANDLE = none) :
    exec (.prgVarRead rq) s =
      .next ((s.receive rq).refuse Cmd.prgVarRead rq 0x030C 0xFFFF (VarReq.ofBytes rq.payload).HANDLE.toNat) := by
  refine congrArg Host.Outcome.next (h.refused rfl ?_)
  simp only [State.receive_varOf, unknown]

/-! ### Writing a variable (R129, R132) -/

theorem exec_prgVarWrite_of_wrong_size (h : s.Accepts Cmd.prgVarWrite rq) (known : s.varOf (VarReq.ofBytes rq.payload).HANDLE = some v)
    (size : (VarReq.ofBytes rq.payload).SIZE ≠ v.size) :
    exec (.prgVarWrite rq) s =
      .next ((s.receive rq).refuse Cmd.prgVarWrite rq 0x030D 0xFFFF (VarReq.ofBytes rq.payload).HANDLE.toNat) := by
  refine congrArg Host.Outcome.next (h.refused rfl ?_)
  simp only [State.receive_varOf, known]
  exact refuseIf_of_true (by simp [size])

theorem exec_prgVarWrite_of_other_chamber (h : s.Accepts Cmd.prgVarWrite rq)
    (known : s.varOf (VarReq.ofBytes rq.payload).HANDLE = some v) (size : (VarReq.ofBytes rq.payload).SIZE = v.size)
    (notTask : v.chamber ≠ 1) (notRetain : v.chamber ≠ 2) :
    exec (.prgVarWrite rq) s =
      .next ((s.receive rq).refuse Cmd.prgVarWrite rq 0x030E 0xFFFF (VarReq.ofBytes rq.payload).HANDLE.toNat) := by
  refine congrArg Host.Outcome.next (h.refused rfl ?_)
  simp only [State.receive_varOf, known]
  exact (refuseIf_of_false (by simp [size])).trans (refuseIf_of_true (by simp [notTask, notRetain]))

/-- A request names a variable of TASK or RETAIN by its handle and its size, from a role that may write it. -/
structure State.MayWriteVar (s : State) (rq : Request) (v : VarDecl) : Prop where
  known   : s.varOf (VarReq.ofBytes rq.payload).HANDLE = some v
  size    : (VarReq.ofBytes rq.payload).SIZE = v.size
  chamber : v.chamber = 1 ∨ v.chamber = 2
  role    : v.safetyRead = true → 3 ≤ s.roleOf rq

/-- The arrival of the request changes nothing of that. -/
theorem State.MayWriteVar.receive (may : s.MayWriteVar rq v) : (s.receive rq).MayWriteVar rq v :=
  ⟨may.known, may.size, may.chamber, by simpa using may.role⟩

/-- A write that may be made passes the three tests before its effect. -/
theorem State.MayWriteVar.passes (may : s.MayWriteVar rq v) {item : Nat} (k : Served) :
    (refuseIf ((VarReq.ofBytes rq.payload).SIZE != v.size) 0x030D 0xFFFF (item := item) <|
      refuseIf (v.chamber != 1 && v.chamber != 2) 0x030E 0xFFFF (item := item) <|
      refuseIf (v.safetyRead && s.roleOf rq < 3) 0x030F 0xFFFF (item := item) k) = k := by
  have place : (v.chamber != 1 && v.chamber != 2) = false := by
    rcases may.chamber with task | retain
    · simp [task]
    · simp [retain]
  have role : (v.safetyRead && decide (s.roleOf rq < 3)) = false := by simpa using may.role
  exact (refuseIf_of_false (by simp [may.size])).trans ((refuseIf_of_false place).trans (refuseIf_of_false role))

/-- In STOP the variable's bytes are written in its chamber at once. -/
theorem exec_prgVarWrite_in_stop (h : s.Accepts Cmd.prgVarWrite rq) (may : s.MayWriteVar rq v) (stop : s.sys.mode = .stop) :
    exec (.prgVarWrite rq) s = .next (State.reply
      (State.writeChamber (s.receive rq) v.chamber v.off (leBytes v.size.toNat (VarReq.ofBytes rq.payload).VALUE.toNat))
      Cmd.prgVarWrite rq 0 []) := by
  refine congrArg Host.Outcome.next (h.done rfl ?_)
  simp only [may.receive.known, may.receive.passes, State.receive_sys, stop, if_true, State.applyVar]

/-- In RUN the write waits with the task that owns the variable. -/
theorem exec_prgVarWrite_in_run {t : Fin 128} (h : s.Accepts Cmd.prgVarWrite rq) (may : s.MayWriteVar rq v) (run : s.sys.mode = .run)
    (owned : v.owner = some t) :
    exec (.prgVarWrite rq) s = .next (State.answered
      (s.setTask t fun k => { k with varWrites := k.varWrites ++ [((VarReq.ofBytes rq.payload).HANDLE, (VarReq.ofBytes rq.payload).VALUE)] })
      Cmd.prgVarWrite rq []) := by
  have running : s.sys.mode ≠ .stop := by simp [run]
  refine congrArg Host.Outcome.next (h.done rfl ?_)
  simp only [may.receive.known, may.receive.passes, State.receive_sys, running, if_false, owned]
  rfl

/-! ### The program image (R516) -/

/-- The first part of an image replaces the one loaded, and the program that it made. -/
theorem exec_prgImageLoad_at_zero (h : s.Accepts Cmd.prgImageLoad rq) (first : rq.u32 0 = 0) :
    exec (.prgImageLoad rq) s = .next (State.answered
      { s with tk := { s.tk with image := Memory.write [] 0 (rq.payload.drop 4), imageLen := (rq.payload.drop 4).length, prog := ProgInfo.empty },
               olc := { s.olc with running := none, mixed := false } } Cmd.prgImageLoad rq []) :=
  congrArg Host.Outcome.next (h.done rfl (if_pos first))

theorem exec_prgImageInfo_answers_digest (h : s.Accepts Cmd.prgImageInfo rq) :
    exec (.prgImageInfo rq) s = .next (s.answered Cmd.prgImageInfo rq
      (leBytes 32 (if s.tk.imageLen = 0 then 0 else (Config.sha256 s.programBytes).toNat))) :=
  congrArg Host.Outcome.next (h.done rfl rfl)

end Variables

/-- Settles O14: the handle and the size find the variable, its chamber and the role decide whether it may be written, and the mode decides
when; an image's first part begins it anew (R516). -/
theorem variableCommandsAnswer : Obligations.VariableCommandsAnswer := by
  refine ⟨fun _ _ _ => exec_prgVarRead_answers_value, fun _ _ => exec_prgVarRead_of_unknown, fun _ _ _ => exec_prgVarWrite_of_wrong_size,
    fun _ _ _ => exec_prgVarWrite_of_other_chamber, ?_, ?_, fun _ _ => exec_prgImageLoad_at_zero,
    fun _ _ => exec_prgImageInfo_answers_digest⟩
  · intro s rq v h known size chamber role stop
    exact exec_prgVarWrite_in_stop h ⟨known, size, chamber, role⟩ stop
  · intro s rq v t h known size chamber role run owned
    exact exec_prgVarWrite_in_run h ⟨known, size, chamber, role⟩ run owned

end Sys2Proof.Machine
end

section
/-! PROOFS. Breakpoints and single steps (chapter 5): what arms and frees a breakpoint, what halts a task, and what lets it go on. -/

namespace Sys2Proof.Machine

set_option Elab.async false

section Breakpoints

variable {s : State} {rq : Request} {t : Fin 128} {b : Fin 16}

/-! ### Arming, clearing and reading breakpoints (R130 to R132) -/

theorem exec_prgBreakSet_arms {d : TaskDecl} (h : s.Accepts Cmd.prgBreakSet rq) (ht : rq.u8 0 = t.val)
    (used : (s.task t).desc.KIND ≠ 0#8) (declared : s.declOf t = some d) (instr : d.instrs.contains (BitVec.ofNat 32 (rq.u32 4)) = true)
    (role : s.isSafety t = true → 3 ≤ s.roleOf rq) (free : ((idx 16).find? fun b => (s.dbg.brk.get b).STATE == 0#8) = some b) :
    exec (.prgBreakSet rq) s = .next (State.answered
      { s with dbg.brk := put s.dbg.brk b (BreakEntry.mk (BitVec.ofNat 8 t.val) 1#8 0#16 (BitVec.ofNat 32 (rq.u32 4))) }
      Cmd.prgBreakSet rq [BitVec.ofNat 8 b.val, 0#8, 0#8, 0#8]) := by
  refine congrArg Host.Outcome.next (h.done rfl ((onTask_of_eq_val ht _).trans ?_))
  simp only [State.receive_declOf, declared, instr, State.receive_dbg, free]
  exact (refuseIf_of_false (by simp [used])).trans (refuseIf_of_false (by simpa using role))

theorem exec_prgBreakClear_frees (h : s.Accepts Cmd.prgBreakClear rq) (hb : rq.u8 0 = b.val) (taken : (s.dbg.brk.get b).STATE ≠ 0#8) :
    exec (.prgBreakClear rq) s = .next (State.answered { s with dbg.brk := put s.dbg.brk b BreakEntry.dflt } Cmd.prgBreakClear rq []) := by
  refine congrArg Host.Outcome.next (h.done rfl ?_)
  simp only [asFin_of_eq_val hb]
  exact refuseIf_of_false (by simp [taken])

theorem exec_prgBreakStatus_answers_entries (h : s.Accepts Cmd.prgBreakStatus rq) :
    exec (.prgBreakStatus rq) s = .next (s.answered Cmd.prgBreakStatus rq (s.dbg.brk.toList.flatMap BreakEntry.toBytes)) :=
  congrArg Host.Outcome.next (h.done rfl rfl)

/-! ### Releasing and stepping a halted task (R130, R132) -/

/-- Of its task, arming a breakpoint again takes only the mark of where it is halted. -/
theorem State.task_rearmBreak : (s.rearmBreak t).task t = { s.task t with haltedAt := none } := by
  cases marked : (s.task t).haltedAt with
  | none =>
    have unmarked : { s.task t with haltedAt := none } = s.task t := by rw [← marked]
    rw [State.rearmBreak, marked]
    exact unmarked.symm
  | some b => rw [State.rearmBreak, marked]; exact State.task_setTask ..

/-- The halted task on its way again: its breakpoint armed, READY at the halted instruction, or, of the safety class, with its cycle given up. -/
def State.released (s : State) (t : Fin 128) : State :=
  (s.rearmBreak t).setTask t fun k =>
    { k with
      stepsLeft := 0#32, stat := { k.stat with DEBUG_HALT := 0#1 },
      run := if k.desc.SAFETY == 1#1 then .idle else .ready,
      cycleOpen := k.cycleOpen && k.desc.SAFETY == 0#1, finished := if k.desc.SAFETY == 1#1 then none else k.finished }

/-- Outside the safety class a released task is READY in the cycle it was halted in. -/
theorem State.task_released (other : (s.task t).desc.SAFETY = 0#1) :
    (s.released t).task t = { s.task t with
      haltedAt := none, stepsLeft := 0#32, stat := { (s.task t).stat with DEBUG_HALT := 0#1 }, run := .ready } := by
  simp [State.released, State.task_rearmBreak, other]

theorem exec_prgBreakRelease_without_halt (h : s.Accepts Cmd.prgBreakRelease rq) (ht : rq.u8 0 = t.val)
    (role : s.isSafety t = true → 3 ≤ s.roleOf rq) (goes : (s.task t).stat.DEBUG_HALT = 0#1) :
    exec (.prgBreakRelease rq) s = .next ((s.receive rq).refuse Cmd.prgBreakRelease rq 0x0312 t.val 0) := by
  refine congrArg Host.Outcome.next (h.refused rfl ((onTask_of_eq_val ht _).trans ?_))
  exact (refuseIf_of_false (by simpa using role)).trans (refuseIf_of_true (by simp [goes]))

theorem exec_prgBreakRelease_of_halt (h : s.Accepts Cmd.prgBreakRelease rq) (ht : rq.u8 0 = t.val)
    (role : s.isSafety t = true → 3 ≤ s.roleOf rq) (halt : (s.task t).stat.DEBUG_HALT = 1#1) :
    exec (.prgBreakRelease rq) s =
      .next (((((s.receive rq).released t).runOutstanding t).dispatch).reply Cmd.prgBreakRelease rq 0 []) := by
  refine congrArg Host.Outcome.next (h.done rfl ((onTask_of_eq_val ht _).trans ?_))
  exact (refuseIf_of_false (by simpa using role)).trans (refuseIf_of_false (by simp [halt]))

/-- The halted task with a number of instructions to run, after which it is halted again. -/
def State.stepping (s : State) (t : Fin 128) (count : BitVec 32) : State :=
  (s.rearmBreak t).setTask t fun k => { k with stepsLeft := count, run := .ready }

/-- A stepping task is READY with its count to run. -/
theorem State.task_stepping (count : BitVec 32) :
    (s.stepping t count).task t = { s.task t with haltedAt := none, stepsLeft := count, run := .ready } := by
  simp [State.stepping, State.task_rearmBreak]

theorem exec_prgStep_of_halt (h : s.Accepts Cmd.prgStep rq) (ht : rq.u8 0 = t.val) (count : rq.u8 1 ≠ 0)
    (role : s.isSafety t = true → 3 ≤ s.roleOf rq) (halt : (s.task t).stat.DEBUG_HALT = 1#1) :
    exec (.prgStep rq) s =
      .next ((((s.receive rq).stepping t (BitVec.ofNat 32 (rq.u8 1))).dispatch).reply Cmd.prgStep rq 0 []) := by
  refine congrArg Host.Outcome.next (h.done rfl ((onTask_of_eq_val ht _).trans ?_))
  exact (refuseIf_of_false (by simp [count])).trans
    ((refuseIf_of_false (by simpa using role)).trans (refuseIf_of_false (by simp [halt])))

/-! ### What halts a task (R128, R130) -/

/-- The task halted at a breakpoint: stopped before its instruction, off its lane, with the hit counted. -/
def State.haltedAtBreak (s : State) (t : Fin 128) (b : Fin 16) : State :=
  (State.setTask { s with dbg.brk := put s.dbg.brk b { s.dbg.brk.get b with STATE := 2#8, HIT_COUNT := sat (s.dbg.brk.get b).HIT_COUNT } } t
    fun k => { k with run := .stopped, codeOfs := (s.dbg.brk.get b).CODE_OFS, haltedAt := some b, stepsLeft := 0#32,
                      stat := { k.stat with DEBUG_HALT := 1#1 } }).offLane t

/-- The halted task stands before the breakpoint's instruction. -/
theorem State.task_haltedAtBreak : (s.haltedAtBreak t b).task t = { s.task t with
    run := .stopped, codeOfs := (s.dbg.brk.get b).CODE_OFS, haltedAt := some b, stepsLeft := 0#32,
    stat := { (s.task t).stat with DEBUG_HALT := 1#1 } } :=
  State.task_setTask ..

/-- The breakpoint has been hit once more. -/
theorem State.brk_haltedAtBreak : (s.haltedAtBreak t b).dbg.brk.get b =
    { s.dbg.brk.get b with STATE := 2#8, HIT_COUNT := sat (s.dbg.brk.get b).HIT_COUNT } :=
  put_get_same ..

/-- Outside the safety class the hit halts the task and commits nothing. -/
theorem exec_breakpointHit_halts (ht : (s.dbg.brk.get b).TASK_ID.toNat = t.val) (taken : (s.dbg.brk.get b).STATE ≠ 0#8)
    (runs : s.hasTask t = true) (running : (s.task t).run = .running) (stands : (s.task t).restoreAt = none)
    (other : (s.task t).desc.SAFETY = 0#1) :
    exec (.breakpointHit b) s = .next (s.haltedAtBreak t b).dispatch := by
  have otherThen : ((s.haltedAtBreak t b).task t).desc.SAFETY = 0#1 := by rw [State.task_haltedAtBreak]; exact other
  have own : execBreakpointHit b s = .next (State.dispatch
      (if ((s.haltedAtBreak t b).task t).desc.SAFETY == 1#1 && ((s.haltedAtBreak t b).task t).desc.KIND == 2#8
       then (s.haltedAtBreak t b).commitSafe t else s.haltedAtBreak t b)) := by
    refine congrArg Host.Outcome.next ?_
    simp only [asFin_of_eq_val ht]
    exact if_pos (by simp [taken, runs, running, stands])
  exact own.trans (congrArg (fun s => Host.Outcome.next (State.dispatch s)) (if_neg (by simp [otherThen])))

/-- The task after the last instruction of its step: stopped at the next one, off its lane. -/
def State.stepEnded (s : State) (t : Fin 128) (ofs : BitVec 32) : State :=
  (s.setTask t fun k => { k with run := .stopped, stepsLeft := 0#32, codeOfs := ofs }).offLane t

/-- It has nothing left to run. -/
theorem State.task_stepEnded (ofs : BitVec 32) :
    (s.stepEnded t ofs).task t = { s.task t with run := .stopped, stepsLeft := 0#32, codeOfs := ofs } :=
  State.task_setTask ..

theorem exec_stepComplete_halts {ofs : BitVec 32} (left : (s.task t).stepsLeft ≠ 0#32) (running : (s.task t).run = .running)
    (runs : s.hasTask t = true) :
    exec (.stepComplete t ofs) s = .next (s.stepEnded t ofs).dispatch :=
  congrArg Host.Outcome.next (if_pos (by simp [left, running, runs]))

end Breakpoints

/-- Settles O15: a breakpoint is armed, freed and read as its entry says; the halted task of a release, of a step and of a hit is read field by
field. That a breakpoint armed again at a release keeps its HIT_COUNT is the model's choice (log 83). -/
theorem breakpointsArmHaltAndRelease : Obligations.BreakpointsArmHaltAndRelease := by
  refine ⟨fun _ _ _ _ _ => exec_prgBreakSet_arms, fun _ _ _ => exec_prgBreakClear_frees, fun _ _ _ => exec_prgBreakRelease_without_halt,
    ?_, ?_, fun _ _ => exec_prgBreakStatus_answers_entries, ?_, ?_⟩
  · intro s rq t h ht plain other halt
    have task := State.task_released (s := s.receive rq) (t := t) other
    refine ⟨_, exec_prgBreakRelease_of_halt h ht (by simp [plain]) halt, ?_, ?_, ?_⟩
    · exact congrArg (fun k => k.stat.DEBUG_HALT) task
    · exact congrArg Task.run task
    · exact (congrArg Task.cycleOpen task).trans rfl
  · intro s rq t h ht count plain halt
    have task := State.task_stepping (s := s.receive rq) (t := t) (BitVec.ofNat 32 (rq.u8 1))
    exact ⟨_, exec_prgStep_of_halt h ht count (by simp [plain]) halt, congrArg Task.stepsLeft task, congrArg Task.run task⟩
  · intro s b t ht taken runs running stands other
    have task := State.task_haltedAtBreak (s := s) (t := t) (b := b)
    have brk := State.brk_haltedAtBreak (s := s) (t := t) (b := b)
    refine ⟨_, exec_breakpointHit_halts ht taken runs running stands other, ?_, ?_, ?_, ?_, ?_⟩
    · exact congrArg Task.run task
    · exact congrArg (fun k => k.stat.DEBUG_HALT) task
    · exact congrArg Task.codeOfs task
    · exact congrArg BreakEntry.STATE brk
    · exact congrArg BreakEntry.HIT_COUNT brk
  · intro s t ofs left running runs
    have task := State.task_stepEnded (s := s) (t := t) ofs
    exact ⟨_, exec_stepComplete_halts left running runs, congrArg Task.run task, congrArg Task.codeOfs task, congrArg Task.stepsLeft task⟩

end Sys2Proof.Machine
end

section
/-! PROOFS. Online change (chapter 6): what loads, activates, discards and reads a change package. -/

namespace Sys2Proof.Machine

set_option Elab.async false

section Change

variable {s : State} {rq : Request} {p : PkgInfo}

/-! ### What the arrival of a request leaves -/

@[simp] theorem State.receive_olcBusy (s : State) (rq : Request) (n : Fin 17) : (s.receive rq).olcBusy n = s.olcBusy n := rfl
@[simp] theorem State.receive_paired (s : State) (rq : Request) : (s.receive rq).paired = s.paired := rfl
@[simp] theorem State.receive_activateCheck (s : State) (rq : Request) (p : PkgInfo) (k : Served) :
    (s.receive rq).activateCheck p k = s.activateCheck p k := rfl
@[simp] theorem State.receive_dropReply (s : State) (rq : Request) (p : PkgInfo) : (s.receive rq).dropReply p = s.dropReply p := rfl

/-! ### Loading a package (R136) -/

/-- A part that is not at offset 0 is added to what is loaded; BYTES_LOADED is the highest end of a part. -/
theorem exec_olcLoad_stores_part (h : s.Accepts Cmd.olcLoad rq) (free : s.olcBusy rq.session = false) (further : rq.u32 0 ≠ 0) :
    exec (.olcLoad rq) s = .next (State.answered
      { s with olc := { s.olc with
        pkg := s.olc.pkg.write (rq.u32 0) (rq.payload.drop 4), info := none
        stat := { s.olc.stat with STATE := 1#8, SESSION := BitVec.ofNat 8 rq.session.val,
                                  BYTES_LOADED := BitVec.ofNat 32 (max s.olc.stat.BYTES_LOADED.toNat (rq.u32 0 + (rq.payload.drop 4).length)) } } }
      Cmd.olcLoad rq []) := by
  refine congrArg Host.Outcome.next (h.done rfl ((refuseIf_of_false free).trans ?_))
  simp only [further, if_false]
  rfl

theorem exec_olcLoad_of_busy (h : s.Accepts Cmd.olcLoad rq) (busy : s.olcBusy rq.session = true) :
    exec (.olcLoad rq) s = .next ((s.receive rq).refuse Cmd.olcLoad rq 0x0406 0xFFFF 0) :=
  congrArg Host.Outcome.next (h.refused rfl (refuseIf_of_true busy))

/-! ### Activating a package (R137, R139, R145) -/

theorem exec_olcActivate_without_package (h : s.Accepts Cmd.olcActivate rq) (unloaded : s.olc.stat.STATE = 0#8 ∨ s.olc.stat.STATE = 3#8) :
    exec (.olcActivate rq) s = .next ((s.receive rq).refuse Cmd.olcActivate rq 0x041A 0xFFFF 0) :=
  congrArg Host.Outcome.next (h.refused rfl (refuseIf_of_true (by simpa using unloaded)))

/-- Outside a pair, a package that passes the checks of R139 is accepted; the reply lists the forces that it will drop. -/
theorem exec_olcActivate_accepts (h : s.Accepts Cmd.olcActivate rq) (loaded : s.olc.stat.STATE = 1#8) (free : s.olcBusy rq.session = false)
    (alone : s.paired = false) (info : Config.packageInfo (s.olc.pkg.read 0 s.olc.stat.BYTES_LOADED.toNat) = p)
    (passes : ∀ k : Served, s.activateCheck p k = k) :
    exec (.olcActivate rq) s = .next (((s.receive rq).acceptChange p).reply Cmd.olcActivate rq 0 (s.dropReply p)) := by
  refine congrArg Host.Outcome.next (h.done rfl ?_)
  simp only [State.receive_olc, info]
  refine (refuseIf_of_false (by simp [loaded])).trans ((refuseIf_of_false free).trans ?_)
  simp [passes, alone]

/-- In RUN the affected tasks of an accepted package wait for their switches. -/
theorem State.acceptChange_in_run (run : s.sys.mode = .run) (affected : p.tasks ≠ []) :
    s.acceptChange p = { s with olc := { s.olc with
      info := some p, pendingTasks := p.tasks.map fun x => x.task
      before := some (s.tk.prog, (p.tasks.map fun x => x.task).map fun t => (t, (s.tk.task.get t).desc.WCET_US))
      stat := { s.olc.stat with STATE := 2#8, SESSION := 0xFF#8, ACCEPT_TS := s.ts } } } := by
  simp [State.acceptChange, run, affected]

/-! ### Discarding a package and reading the change status (R136, R152) -/

theorem exec_olcAbort_discards (h : s.Accepts Cmd.olcAbort rq) (loaded : s.olc.stat.STATE = 1#8) (free : s.olcBusy rq.session = false) :
    exec (.olcAbort rq) s = .next (s.discardPackage.answered Cmd.olcAbort rq []) := by
  refine congrArg Host.Outcome.next (h.done rfl ?_)
  exact (refuseIf_of_false (by simp [loaded])).trans (refuseIf_of_false (by simp [free]))

theorem exec_olcStatus_answers_status (h : s.Accepts Cmd.olcStatus rq) :
    exec (.olcStatus rq) s = .next (s.answered Cmd.olcStatus rq (s.olc.stat.toBytes (PENDING_TASKS := s.olc.pendingTasks.length))) :=
  congrArg Host.Outcome.next (h.done rfl rfl)

end Change

/-- Settles O17: each command that passes the mailbox layer is decided by the state of the change and the session that holds it. That a part
may lie at any offset and that BYTES_LOADED is the highest end of a part is the model's choice (log 39); so is that a change that is still
switching is busy for every session (log 88). -/
theorem changePackageCommandsAnswer : Obligations.ChangePackageCommandsAnswer := by
  refine ⟨fun _ _ => exec_olcLoad_stores_part, fun _ _ => exec_olcLoad_of_busy, fun _ _ => exec_olcActivate_without_package, ?_,
    fun _ _ => exec_olcAbort_discards, fun _ _ => exec_olcStatus_answers_status⟩
  intro s rq h loaded free alone run
  refine ⟨_, rfl, fun p info affected passes => ?_⟩
  have accepted : (s.receive rq).acceptChange p = _ := State.acceptChange_in_run run affected
  refine ⟨_, Host.Outcome.next.inj (exec_olcActivate_accepts h loaded free alone info passes), ?_⟩
  rw [accepted]
  exact ⟨rfl, rfl, rfl, rfl⟩

end Sys2Proof.Machine
end

section
/-! PROOFS. Forces (chapter 6): the requests that join a batch, the releases, the list, and the supervisor's writes. -/

namespace Sys2Proof.Machine

set_option Elab.async false

section ForceRequests

variable {s : State} {rq : Request} {v : VarDecl} {f : ForceEntry}

/-! ### What the arrival of a request leaves -/

@[simp] theorem State.receive_forceOf (s : State) (rq : Request) (handle : BitVec 32) : (s.receive rq).forceOf handle = s.forceOf handle := rfl
@[simp] theorem State.receive_unforceable (s : State) (rq : Request) (v : VarDecl) : (s.receive rq).unforceable v = s.unforceable v := rfl
@[simp] theorem State.receive_forcesToCome (s : State) (rq : Request) : (s.receive rq).forcesToCome = s.forcesToCome := rfl

/-! ### Setting a force (R141, R148) -/

/-- A request sets a value that is not forced yet and may be, in its size, from a role that suffices, with room in the table. -/
structure State.MaySetForce (s : State) (rq : Request) (v : VarDecl) : Prop where
  known     : s.varOf (ForceReq.ofBytes rq.payload).HANDLE = some v
  size      : (ForceReq.ofBytes rq.payload).SIZE = v.size
  width     : (ForceReq.ofBytes rq.payload).SIZE.toNat ∈ [1, 2, 4, 8]
  unforced  : s.forceOf (ForceReq.ofBytes rq.payload).HANDLE = none
  forceable : s.unforceable v = false
  role      : v.safetyRead = true → s.safetyRole rq.session = true
  room      : s.forcesToCome.length < 256

/-- The arrival of the request changes nothing of that. -/
theorem State.MaySetForce.receive (may : s.MaySetForce rq v) : (s.receive rq).MaySetForce rq v :=
  ⟨may.known, may.size, may.width, may.unforced, may.forceable, by simpa using may.role, may.room⟩

theorem exec_olcForceSet_joins (h : s.Accepts Cmd.olcForceSet rq) (may : s.MaySetForce rq v) :
    exec (.olcForceSet rq) s = .next
      ((s.joinBatch rq (ForceReq.ofBytes rq.payload).HANDLE (some (ForceReq.ofBytes rq.payload).used) false).receive rq) := by
  refine congrArg Host.Outcome.next (h.later rfl ?_)
  simp only [may.receive.known, may.receive.unforced]
  have typed : ((ForceReq.ofBytes rq.payload).SIZE != v.size || !([1, 2, 4, 8].contains (ForceReq.ofBytes rq.payload).SIZE.toNat)) = false := by
    rw [List.contains_iff_mem.mpr may.width]; simp [may.size]
  have role : (v.safetyRead && !(s.receive rq).safetyRole rq.session) = false := by simpa using may.role
  have room : decide (256 ≤ s.forcesToCome.length) = false := decide_eq_false (Nat.not_le.mpr may.room)
  refine (refuseIf_of_false typed).trans ((refuseIf_of_false (by simp [may.forceable])).trans ((refuseIf_of_false role).trans ?_))
  exact (refuseIf_of_false rfl).trans (refuseIf_of_false (Bool.and_eq_false_iff.mpr (.inr room)))

theorem exec_olcForceSet_of_unknown (h : s.Accepts Cmd.olcForceSet rq) (unknown : s.varOf (ForceReq.ofBytes rq.payload).HANDLE = none) :
    exec (.olcForceSet rq) s =
      .next ((s.receive rq).refuse Cmd.olcForceSet rq 0x0418 0xFFFF (ForceReq.ofBytes rq.payload).HANDLE.toNat) := by
  refine congrArg Host.Outcome.next (h.refused rfl ?_)
  simp only [State.receive_varOf, unknown]

/-! ### Releasing and listing forces (R146 to R149) -/

theorem exec_olcForceRelease_of_unforced (h : s.Accepts Cmd.olcForceRelease rq) (known : (s.varOf (BitVec.ofNat 32 (rq.u32 0))).isSome = true)
    (unforced : s.forceOf (BitVec.ofNat 32 (rq.u32 0)) = none) :
    exec (.olcForceRelease rq) s = .next (s.answered Cmd.olcForceRelease rq []) := by
  refine congrArg Host.Outcome.next (h.done rfl ((refuseIf_of_false (by simpa using known)).trans ?_))
  simp only [State.receive_forceOf, unforced]

theorem exec_olcForceRelease_joins (h : s.Accepts Cmd.olcForceRelease rq) (known : (s.varOf (BitVec.ofNat 32 (rq.u32 0))).isSome = true)
    (stands : s.forceOf (BitVec.ofNat 32 (rq.u32 0)) = some f) (may : s.mayRelease rq.session f = true) :
    exec (.olcForceRelease rq) s = .next ((s.joinBatch rq (BitVec.ofNat 32 (rq.u32 0)) none false).receive rq) := by
  refine congrArg Host.Outcome.next (h.later rfl ((refuseIf_of_false (by simpa using known)).trans ?_))
  simp only [State.receive_forceOf, stands]
  exact refuseIf_of_false (by simp [may])

theorem exec_olcForceReleaseAll_of_none (h : s.Accepts Cmd.olcForceReleaseAll rq) (others : s.olc.forces.filter (s.mayRelease rq.session) = []) :
    exec (.olcForceReleaseAll rq) s = .next (s.answered Cmd.olcForceReleaseAll rq [0#8, 0#8]) := by
  refine congrArg Host.Outcome.next (h.done rfl ?_)
  simp only [State.receive_olc, State.receive_mayRelease, others]
  rfl

theorem exec_olcForceList_answers_entries (h : s.Accepts Cmd.olcForceList rq) :
    exec (.olcForceList rq) s = .next (s.answered Cmd.olcForceList rq
      (leBytes 2 s.olc.forces.length ++ [0#8, 0#8] ++ ((s.olc.forces.drop (rq.u8 0)).take 127).flatMap ForceEntry.toBytes)) :=
  congrArg Host.Outcome.next (h.done rfl rfl)

end ForceRequests

section SupervisorWrites

variable {s : State} {handle : BitVec 32} {v : VarDecl}

/-! ### The supervisor's writes (R142, R143, R149) -/

/-- A batch that a set wins is decided before its value is written. -/
theorem exec_forceApplyWrite_of_set {w : ForcePending} {value : BitVec 64}
    (wins : batchWinner (s.olc.batch.filter fun p => p.handle == handle) = some w) (set : w.value = some value)
    (known : (s.resolveBatch handle).varOf handle = some v) :
    exec (.forceApplyWrite handle) s = .next ((s.resolveBatch handle).putForced v.off v.size.toNat value.toNat true) := by
  refine congrArg Host.Outcome.next ?_
  simp only [wins, set, known]

/-- A released value of the running program is written with FORCED clear. -/
theorem State.writeReleased_of_known {f : ForceEntry} (known : s.varOf f.HANDLE = some v) :
    s.writeReleased f = s.putForced v.off f.SIZE.toNat f.UNDERLYING.toNat false := by
  simp only [State.writeReleased, known]

/-- A value that is written as released waits for no further write. -/
theorem exec_forceReleaseWrite_of_released {f : ForceEntry} (decided : s.olc.batch = [])
    (released : (s.olc.releaseWrites.find? fun f => f.HANDLE == handle) = some f) (known : s.varOf f.HANDLE = some v) :
    exec (.forceReleaseWrite handle) s = .next (State.putForced
      { s with olc := { s.olc with releaseWrites := s.olc.releaseWrites.filter fun g => g.HANDLE != handle } }
      v.off f.SIZE.toNat f.UNDERLYING.toNat false) := by
  refine congrArg Host.Outcome.next ?_
  simp only [decided, List.filter_nil, batchWinner, released]
  exact State.writeReleased_of_known known

theorem exec_forceAgedWarning_first (aged : 0 < s.agedForces) (unwarned : s.olc.agedAt = none) :
    exec .forceAgedWarning s = .next (State.event { s with olc := { s.olc with agedAt := some s.now } } 3 0x0481 0xFF 0 s.agedForces) :=
  congrArg Host.Outcome.next (if_pos (by simp [aged, unwarned]))

end SupervisorWrites

/-- Settles O18: a request is decided by the forces that stand and those to come, a write by what waits for it. That sets which wait in a batch
count toward the 256 forces and that 0x0416 is for a value not yet forced is the model's choice (log 88); so is what the warning of old forces
counts (log 90). -/
theorem forcesSetReleaseAndList : Obligations.ForcesSetReleaseAndList := by
  refine ⟨?_, fun _ _ => exec_olcForceSet_of_unknown, fun _ _ => exec_olcForceRelease_of_unforced, fun _ _ _ => exec_olcForceRelease_joins,
    fun _ _ => exec_olcForceReleaseAll_of_none, fun _ _ => exec_olcForceList_answers_entries, fun _ _ _ _ _ => exec_forceApplyWrite_of_set,
    fun _ _ _ _ => exec_forceReleaseWrite_of_released, fun _ => exec_forceAgedWarning_first⟩
  intro s rq v r h hr known size width unforced forceable role room
  subst hr
  exact exec_olcForceSet_joins h ⟨known, size, width, unforced, forceable, role, room⟩

end Sys2Proof.Machine
end

section
/-! PROOFS. The loop commands (chapter 7): descriptors, banks and their swap, modes, trips, statuses and the clear of counters. -/

namespace Sys2Proof.Machine

set_option Elab.async false

/-- A number that names a loop slot leads to what the command does with it. -/
theorem onLoop_of_eq_val {k : Nat} {n : Fin 256} (h : k = n.val) (f : Fin 256 → Served) : onLoop k f = f n := by
  rw [onLoop, asFin_of_eq_val h]

/-! ### What the arrival of a request leaves -/

@[simp] theorem State.receive_loop (s : State) (rq : Request) (n : Fin 256) : (s.receive rq).loop n = s.loop n := rfl
@[simp] theorem State.receive_swapPending (s : State) (rq : Request) (l : Loop) : (s.receive rq).swapPending l = s.swapPending l := rfl

/-! ### The inactive bank (R167) -/

/-- The loop with a bank in the place of the one that is not in use. -/
def Loop.putOther (l : Loop) (b : Bank) : Loop := if l.stat.ACTIVE_BANK == 0#1 then { l with bankB := b } else { l with bankA := b }

section InactiveBank

variable (l : Loop) (b : Bank)

@[simp] theorem Loop.putOther_stat : (l.putOther b).stat = l.stat := by unfold Loop.putOther; split <;> rfl
@[simp] theorem Loop.putOther_slot : (l.putOther b).slot = l.slot := by unfold Loop.putOther; split <;> rfl
@[simp] theorem Loop.putOther_desc : (l.putOther b).desc = l.desc := by unfold Loop.putOther; split <;> rfl

/-- The inactive bank is the one that was put. -/
@[simp] theorem Loop.putOther_other : (l.putOther b).other = b := by
  rw [Loop.other, Loop.putOther_stat, Loop.putOther]
  split <;> rfl

/-- The bank in use stands. -/
@[simp] theorem Loop.putOther_bank : (l.putOther b).bank = l.bank := by
  rw [Loop.bank, Loop.putOther_stat, Loop.putOther, Loop.bank]
  split <;> rfl

/-- The number of the next write of a bank of the slot: one above the later of its two banks. -/
def Loop.nextBankSeq : BitVec 32 :=
  sat (if l.bankA.BANK_SEQ.toNat < l.bankB.BANK_SEQ.toNat then l.bankB.BANK_SEQ else l.bankA.BANK_SEQ)

end InactiveBank

section LoopCommands

variable {s : State} {rq : Request} {n : Fin 256}

/-! ### Descriptors (R170, R174) -/

theorem exec_loopSet_writes (h : s.Accepts Cmd.loopSet rq) (hn : (LoopDesc.ofBytes rq.payload).LOOP_ID.toNat = n.val)
    (ok : (LoopDesc.ofBytes rq.payload).inRange = true) :
    exec (.loopSet rq) s = .next (State.answered (s.setLoop n { s.loop n with desc := LoopDesc.ofBytes rq.payload }) Cmd.loopSet rq []) :=
  congrArg Host.Outcome.next (h.done rfl ((onLoop_of_eq_val hn _).trans (refuseIf_of_false (by simp [ok]))))

theorem exec_loopSet_refuses (h : s.Accepts Cmd.loopSet rq) (hn : (LoopDesc.ofBytes rq.payload).LOOP_ID.toNat = n.val)
    (bad : (LoopDesc.ofBytes rq.payload).inRange = false) :
    exec (.loopSet rq) s = .next ((s.receive rq).refuse Cmd.loopSet rq 0x0501 n.val 0) :=
  congrArg Host.Outcome.next (h.refused rfl ((onLoop_of_eq_val hn _).trans (refuseIf_of_true (by simp [bad]))))

theorem exec_loopGet_answers_descriptor (h : s.Accepts Cmd.loopGet rq) (hn : rq.u8 0 = n.val) :
    exec (.loopGet rq) s = .next (s.answered Cmd.loopGet rq
      { (s.loop n).desc with LOOP_ID := BitVec.ofNat 8 n.val, COST := BitVec.ofNat 8 (s.loop n).desc.cost }.toBytes) :=
  congrArg Host.Outcome.next (h.done rfl (onLoop_of_eq_val hn _))

/-! ### Banks and their swap (R167, R171, R174) -/

theorem exec_loopSwapBank_takes (h : s.Accepts Cmd.loopSwapBank rq) (hn : rq.u8 0 = n.val) (used : (s.loop n).desc.LAW ≠ 0#8)
    (byCommand : (s.loop n).desc.byTask = false) (idle : s.swapPending (s.loop n) = false) (written : (s.loop n).other.BANK_SEQ ≠ 0#32) :
    exec (.loopSwapBank rq) s = .next (State.answered
      (s.setLoop n (if s.sys.mode = .stop then (s.loop n).swap s.ts else { s.loop n with swapReq := some s.now })) Cmd.loopSwapBank rq []) := by
  refine congrArg Host.Outcome.next (h.done rfl ((onLoop_of_eq_val hn _).trans ?_))
  refine (refuseIf_of_false (by simp [used])).trans ((refuseIf_of_false (by simp [byCommand])).trans ?_)
  exact (refuseIf_of_false (by simp [idle])).trans (refuseIf_of_false (by simp [written]))

/-- A pending swap is refused before the bank that the next one would take is looked at. -/
theorem exec_loopSwapBank_refuses (h : s.Accepts Cmd.loopSwapBank rq) (hn : rq.u8 0 = n.val) (used : (s.loop n).desc.LAW ≠ 0#8)
    (byCommand : (s.loop n).desc.byTask = false) (bad : s.swapPending (s.loop n) = true ∨ (s.loop n).other.BANK_SEQ = 0#32) :
    exec (.loopSwapBank rq) s = .next ((s.receive rq).refuse Cmd.loopSwapBank rq
      (if s.swapPending (s.loop n) = true then 0x0503 else 0x0504) n.val 0) := by
  refine congrArg Host.Outcome.next (h.refused rfl ((onLoop_of_eq_val hn _).trans ?_))
  refine (refuseIf_of_false (by simp [used])).trans ((refuseIf_of_false (by simp [byCommand])).trans ?_)
  by_cases pending : s.swapPending (s.loop n) = true
  · rw [if_pos pending]
    exact refuseIf_of_true (by simp [pending])
  · have empty : (s.loop n).other.BANK_SEQ = 0#32 := bad.resolve_left pending
    rw [if_neg pending]
    exact (refuseIf_of_false (by simp [pending])).trans (refuseIf_of_true (by simp [empty]))

theorem exec_loopBankWrite_puts_other (h : s.Accepts Cmd.loopBankWrite rq) (hn : rq.u8 0 = n.val) (used : (s.loop n).desc.LAW ≠ 0#8)
    (idle : s.swapPending (s.loop n) = false) (shifts : (Bank.ofBytes (rq.payload.drop 4)).shiftBad (s.loop n).desc.LAW.toNat = false) :
    exec (.loopBankWrite rq) s = .next (State.answered
      (s.setLoop n ((s.loop n).putOther { Bank.ofBytes (rq.payload.drop 4) with BANK_SEQ := (s.loop n).nextBankSeq }))
      Cmd.loopBankWrite rq (leBytes 4 (s.loop n).nextBankSeq.toNat)) := by
  refine congrArg Host.Outcome.next (h.done rfl ((onLoop_of_eq_val hn _).trans ?_))
  exact (refuseIf_of_false (by simp [used])).trans ((refuseIf_of_false (by simp [idle])).trans (refuseIf_of_false (by simp [shifts])))

theorem exec_loopBankRead_answers_bank (h : s.Accepts Cmd.loopBankRead rq) (hn : rq.u8 0 = n.val) (bank : rq.u8 1 ≤ 1) :
    exec (.loopBankRead rq) s = .next (s.answered Cmd.loopBankRead rq
      (if rq.u8 1 = 0 then (s.loop n).bankA else (s.loop n).bankB).toBytes) :=
  congrArg Host.Outcome.next (h.done rfl ((onLoop_of_eq_val hn _).trans (refuseIf_of_false (by simpa using bank))))

/-! ### Modes and trips (R163, R165, R174) -/

theorem exec_loopMode_requests {m : LoopMode} (h : s.Accepts Cmd.loopMode rq) (hn : rq.u8 0 = n.val) (named : modeOfNum (rq.u8 1) = some m)
    (used : (s.loop n).desc.LAW ≠ 0#8) (byCommand : (s.loop n).desc.byTask = false) (sound : (s.loop n).slot.mode ≠ .tripped) :
    exec (.loopMode rq) s = .next (State.answered
      (s.setLoop n { s.loop n with modeReq := some (m, signed 16 (rq.u16 2), s.now) }) Cmd.loopMode rq []) := by
  refine congrArg Host.Outcome.next (h.done rfl ((onLoop_of_eq_val hn _).trans ?_))
  simp only [named]
  refine (refuseIf_of_false (by simp [used])).trans ((refuseIf_of_false (by simp [byCommand])).trans ?_)
  exact refuseIf_of_false (by simp [sound])

theorem exec_loopResetTrip_takes_manual (h : s.Accepts Cmd.loopResetTrip rq) (hn : rq.u8 0 = n.val) (used : (s.loop n).desc.LAW ≠ 0#8)
    (tripped : (s.loop n).slot.mode = .tripped) :
    exec (.loopResetTrip rq) s = .next (State.answered
      (s.setLoop n { s.loop n with
        slot := { (s.loop n).slot with mode := .manual, manual := (s.loop n).slot.out }
        modeReq := none
        stat := { (s.loop n).stat with TRIP_CAUSE := 0#3, FE_ALARM := 0#1 } }) Cmd.loopResetTrip rq []) := by
  refine congrArg Host.Outcome.next (h.done rfl ((onLoop_of_eq_val hn _).trans ?_))
  exact (refuseIf_of_false (by simp [used])).trans (refuseIf_of_false (by simp [tripped]))

theorem exec_loopResetTrip_without_trip (h : s.Accepts Cmd.loopResetTrip rq) (hn : rq.u8 0 = n.val) (used : (s.loop n).desc.LAW ≠ 0#8)
    (sound : (s.loop n).slot.mode ≠ .tripped) :
    exec (.loopResetTrip rq) s = .next ((s.receive rq).refuse Cmd.loopResetTrip rq 0x0506 n.val 0) := by
  refine congrArg Host.Outcome.next (h.refused rfl ((onLoop_of_eq_val hn _).trans ?_))
  exact (refuseIf_of_false (by simp [used])).trans (refuseIf_of_true (by simp [sound]))

/-! ### Statuses and the clear of counters (R172, R173) -/

theorem exec_loopStatus_answers_status (h : s.Accepts Cmd.loopStatus rq) (hn : rq.u8 0 = n.val) :
    exec (.loopStatus rq) s = .next (s.answered Cmd.loopStatus rq
      ((s.loop n).stat.toBytes (SWAP_PENDING := bit (s.swapPending (s.loop n))) (MODE := (s.loop n).slot.mode.num)
        (OUT := (BitVec.ofInt 16 (s.loop n).slot.out).toNat)
        (SP_INT := (BitVec.ofInt 16 (clampInt (-32768) 32767 (roundAway (s.loop n).slot.sp16 65536))).toNat)
        (PV_F := (BitVec.ofInt 16 (s.loop n).slot.pvF).toNat) (BANK_SEQ := (s.loop n).bank.BANK_SEQ.toNat))) :=
  congrArg Host.Outcome.next (h.done rfl (onLoop_of_eq_val hn _))

theorem exec_loopClear_one (h : s.Accepts Cmd.loopClear rq) (hn : rq.u16 0 = n.val) :
    exec (.loopClear rq) s = .next (State.answered
      (s.setLoop n { s.loop n with stat := (s.loop n).stat.cleared }) Cmd.loopClear rq []) :=
  congrArg Host.Outcome.next (h.done rfl ((if_neg (by omega)).trans (onLoop_of_eq_val hn _)))

theorem exec_loopClear_every (h : s.Accepts Cmd.loopClear rq) (every : rq.u16 0 = 0xFFFF) :
    exec (.loopClear rq) s = .next (State.answered
      { s with lp := { s.lp with
          loop := s.lp.loop.map fun l => { l with stat := l.stat.cleared }, eng := { s.lp.eng with TOTAL_LATE := 0#32 } } }
      Cmd.loopClear rq []) :=
  congrArg Host.Outcome.next (h.done rfl (if_pos every))

theorem exec_loopEngineStatus_answers_status (h : s.Accepts Cmd.loopEngineStatus rq) :
    exec (.loopEngineStatus rq) s = .next (s.answered Cmd.loopEngineStatus rq
      (s.lp.eng.toBytes (LOAD_PM := perMille (s.usedLoops.map fun e => e.2.load) 2000000000)
        (LINES_PM := perMille (s.usedLoops.map fun e => s.lineLoad e.2) 38400000) (ACTIVE_SLOTS := s.usedLoops.length))) :=
  congrArg Host.Outcome.next (h.done rfl rfl)

end LoopCommands

/-- Settles O19: each command that passes the mailbox layer names its slot and ends in its effect or in the refusal of the slot's state. That
LOOP_RESET_TRIP clears TRIP_CAUSE and FE_ALARM and that LOOP_CLEAR of every loop clears TOTAL_LATE is the model's choice (log 96); so is that
BANK_SEQ counts the writes of the slot, over both its banks, and that LOAD_PM is rounded down (log 97). -/
theorem loopCommandsAnswer : Obligations.LoopCommandsAnswer := by
  refine ⟨fun s rq n h hn => ?_, fun _ _ _ => exec_loopGet_answers_descriptor, fun _ _ _ => exec_loopSwapBank_takes,
    fun _ _ _ => exec_loopSwapBank_refuses, fun s rq n h hn used idle shifts => ?_, fun _ _ _ => exec_loopBankRead_answers_bank,
    fun _ _ _ _ => exec_loopMode_requests, fun _ _ _ => exec_loopResetTrip_takes_manual, fun _ _ _ => exec_loopResetTrip_without_trip,
    fun _ _ _ h hn => ⟨_, exec_loopStatus_answers_status h hn, rfl⟩, fun _ _ _ => exec_loopClear_one, fun _ _ => exec_loopClear_every,
    fun _ _ => exec_loopEngineStatus_answers_status⟩
  · by_cases ok : (LoopDesc.ofBytes rq.payload).inRange = true
    · rw [if_pos ok]; exact exec_loopSet_writes h hn ok
    · rw [if_neg ok]; exact exec_loopSet_refuses h hn (Bool.eq_false_iff.mpr ok)
  · exact ⟨_, _, exec_loopBankWrite_puts_other h hn used idle shifts, rfl, Loop.putOther_other .., Loop.putOther_bank ..,
      Loop.putOther_stat .., Loop.putOther_slot .., Loop.putOther_desc ..⟩

end Sys2Proof.Machine
end

section
/-! PROOFS. The samples of a loop (chapter 7): what a boundary writes and reads, and what a sample computes in each mode. -/

namespace Sys2Proof.Machine

set_option Elab.async false

section Boundary

variable {s : State} {n : Fin 256}

/-! ### A boundary (R155, R156) -/

/-- Loops run, and a boundary of the used loop's grid is now. -/
structure State.AtLoopBoundary (s : State) (n : Fin 256) : Prop where
  runs : s.runsLoops = true
  used : (s.loop n).desc.LAW ≠ 0#8
  grid : onGrid s.now (s.loop n).desc.PERIOD_US.toNat (s.loop n).desc.PHASE_US.toNat = true

/-- A boundary writes the output, then reads the sources. -/
theorem State.AtLoopBoundary.exec_loopBoundary (h : s.AtLoopBoundary n) :
    exec (.loopBoundary n) s = .next ((s.boundaryOut n).readSources n) :=
  congrArg Host.Outcome.next (if_pos (by simp [h.runs, h.used, h.grid]))

/-- A result that stands complete is written with its quality, and is no longer late. -/
theorem State.boundaryOut_of_result (complete : (s.loop n).sample = none) (ran : (s.loop n).fresh = false) (result : (s.loop n).result = true) :
    s.boundaryOut n = State.writeOut
      (s.setLoop n { s.loop n with result := false, taken := false, lateRun := 0, stat := { (s.loop n).stat with LOOP_LATE := 0#1 } })
      (s.loop n).desc.OUT_DST (s.loop n).slot.out (s.loop n).slot.outQual := by
  simp [State.boundaryOut, complete, ran, result]

/-- A sample still in progress is late. -/
theorem State.boundaryOut_of_sample {x : Nat × LoopSources} (late : (s.loop n).sample = some x) : s.boundaryOut n = s.lateSample n := by
  simp [State.boundaryOut, late]

/-! ### The end of a sample (R153, R164) -/

theorem exec_loopSampleComplete_finishes {b : Nat} {x : LoopSources} (runs : s.runsLoops = true) (sample : (s.loop n).sample = some (b, x)) :
    exec (.loopSampleComplete n) s = .next (s.finishSample n b x) := by
  refine congrArg Host.Outcome.next ?_
  simp only [sample]
  exact if_pos runs

theorem exec_feTimerExpire_finishes {b t : Nat} {x : LoopSources} (runs : s.runsLoops = true) (sample : (s.loop n).sample = some (b, x))
    (timing : (s.loop n).feSince = some t) (expired : t + ms (s.loop n).desc.FE_TIME_MS.toNat ≤ b) :
    exec (.feTimerExpire n) s = .next (s.finishSample n b x) := by
  refine congrArg Host.Outcome.next ?_
  simp only [sample, timing]
  exact if_pos (by simp [runs, expired])

end Boundary

/-! ### What a sample computes in its mode (R159, R160, R162, R164) -/

/-- The sample with a saturation of a store counted, where one saturated. -/
def Sampled.counted (r : Sampled) (saturates : Bool) : Sampled :=
  if saturates then { r with loop := { r.loop with stat := { r.loop.stat with SAT_COUNT := sat r.loop.stat.SAT_COUNT, SAT_SEEN := 1#1 } } } else r

section Counted

variable (r : Sampled) (c : Bool)

/-! The count of saturations is apart from the running state and from the trips. -/

@[simp] theorem Sampled.counted_slot : (r.counted c).loop.slot = r.loop.slot := by unfold Sampled.counted; split <;> rfl
@[simp] theorem Sampled.counted_trip : (r.counted c).trip = r.trip := by unfold Sampled.counted; split <;> rfl
@[simp] theorem Sampled.counted_TRIP_CAUSE : (r.counted c).loop.stat.TRIP_CAUSE = r.loop.stat.TRIP_CAUSE := by
  unfold Sampled.counted; split <;> rfl
@[simp] theorem Sampled.counted_TRIP_COUNT : (r.counted c).loop.stat.TRIP_COUNT = r.loop.stat.TRIP_COUNT := by
  unfold Sampled.counted; split <;> rfl

end Counted

section Modes

variable {l : Loop} {b : Nat} {x : LoopSources} {forced : Bool} {ts : BitVec 64}

/-- PV after the pre-filters, their states, and whether a store saturates; the filters stand in HOLD and TRIPPED, and in LAW 4, which has none. -/
def Loop.prefiltered (l : Loop) (x : LoopSources) : Int × List BiqState × Bool :=
  if l.desc.LAW != 4#8 && (l.slot.mode = .off || l.slot.mode = .manual || l.slot.mode = .auto) then
    runChain ([l.bank.P1, l.bank.P2].take l.desc.N_PRE.toNat) l.slot.pre (srcVal x.pv)
  else (l.slot.pvF, l.slot.pre, false)

/-- The loop on which a sample that nothing is asked of acts in its mode: PV is filtered. -/
def Loop.prepared (l : Loop) (x : LoopSources) (forced : Bool) : Loop :=
  { l with
    ctrlRef := none, fresh := false, slot := { l.slot with pre := (l.prefiltered x).2.1, pvF := (l.prefiltered x).1 },
    stat := { l.stat with OUT_FORCED := BitVec.ofNat 1 (bit forced) } }

/-- A prepared loop in its mode: what its sample brings about, and whether a store of it saturates. -/
def Loop.inMode (l : Loop) (b : Nat) (x : LoopSources) (forced : Bool) (ts : BitVec 64) : Sampled × Bool :=
  match l.slot.mode with
  | .off =>
    (⟨{ l.quiet with slot := { l.slot.cleared with out := l.desc.SAFE_OUT.toInt, outQual := 0#2, spPos := l.slot.pvF * 1000000 } },
      none, false, false⟩, false)
  | .manual => (⟨(l.quiet.manualSample l.slot.pvF).1, none, false, false⟩, (l.quiet.manualSample l.slot.pvF).2)
  | .auto => l.auto b x l.slot.pvF false forced ts
  | .hold => (⟨{ l with slot := { l.slot with outQual := 0#2 } }, none, false, false⟩, false)
  | .tripped => (⟨l.tripOut, none, false, false⟩, false)

/-- Nothing asks a sample for a mode, a manual value or a swap: it is not the first in RUN, no command waits, and no control word is read. -/
structure Loop.Unasked (l : Loop) (x : LoopSources) : Prop where
  ran  : l.fresh = false
  mode : l.modeReq = none
  swap : l.swapReq = none
  ctrl : x.ctrl = none

/-- Without a control word, no command asks for a mode or a swap. -/
theorem Loop.Unasked.asked_eq (h : l.Unasked x) : l.asked b none = (none, l.slot.manual, false, false) := by
  simp [Loop.asked, h.mode, h.swap]

/-- A sample that nothing is asked of keeps its mode and its bank. -/
theorem Loop.Unasked.takeRequests_eq (h : l.Unasked x) : l.takeRequests b x.ctrl ts = ({ l with ctrlRef := none }, l.slot.mode, false) := by
  have stays : (if l.slot.mode = .tripped then .tripped else l.slot.mode) = l.slot.mode := ite_eq_right_iff.mpr Eq.symm
  simp [Loop.takeRequests, h.ctrl, h.asked_eq, h.ran, h.mode, stays]

/-- Such a sample filters PV, acts in its mode, and counts the saturations of both. -/
theorem Loop.Unasked.compute_eq (h : l.Unasked x) : l.compute b x forced ts =
    ((l.prepared x forced).inMode b x forced ts).1.counted ((l.prefiltered x).2.2 || ((l.prepared x forced).inMode b x forced ts).2) := by
  have stands : (l.fresh || decide (l.slot.mode ≠ l.slot.mode)) = false := by simp [h.ran]
  rw [Loop.compute, h.takeRequests_eq]
  simp only [stands, Bool.false_eq_true, if_false]
  rfl

/-! Preparing a sample changes neither the mode nor the output that stands, nor the trips counted. -/

@[simp] theorem Loop.prepared_desc : (l.prepared x forced).desc = l.desc := rfl
@[simp] theorem Loop.prepared_mode : (l.prepared x forced).slot.mode = l.slot.mode := rfl
@[simp] theorem Loop.prepared_out : (l.prepared x forced).slot.out = l.slot.out := rfl
@[simp] theorem Loop.prepared_manual : (l.prepared x forced).slot.manual = l.slot.manual := rfl
@[simp] theorem Loop.prepared_TRIP_COUNT : (l.prepared x forced).stat.TRIP_COUNT = l.stat.TRIP_COUNT := rfl

/-! Each mode's own part. -/

@[simp] theorem Loop.quiet_desc : l.quiet.desc = l.desc := rfl
@[simp] theorem Loop.quiet_slot : l.quiet.slot = l.slot := rfl

@[simp] theorem Loop.manualSample_out (pvf : Int) : (l.manualSample pvf).1.slot.out = l.desc.clampOut l.slot.manual := rfl

/-- A trip that holds the output keeps it, as UNCERTAIN. -/
theorem Loop.tripOut_of_hold (hold : l.desc.FE_ACTION ≠ 2#2) : l.tripOut = { l with slot := { l.slot with outQual := 1#2 } } :=
  if_neg (by simp [hold])

@[simp] theorem Loop.tripOut_mode : l.tripOut.slot.mode = l.slot.mode := by unfold Loop.tripOut; dsimp only; split <;> rfl
@[simp] theorem Loop.tripOut_stat : l.tripOut.stat = l.stat := by unfold Loop.tripOut; dsimp only; split <;> rfl

/-- A bad source trips a loop in AUTO before its law runs. -/
theorem Loop.auto_of_bad {pvf : Int} {swapped : Bool} (bad : (x.used l.desc).any SrcVal.bad = true) :
    l.auto b x pvf swapped forced ts = (l.tripped 2 ts false, false) := if_pos bad

theorem Loop.Unasked.compute_off (h : l.Unasked x) (off : l.slot.mode = .off) :
    (l.compute b x forced ts).loop.slot.out = l.desc.SAFE_OUT.toInt ∧ (l.compute b x forced ts).loop.slot.outQual = 0#2 := by
  simp [h.compute_eq, Loop.inMode, off]

theorem Loop.Unasked.compute_manual (h : l.Unasked x) (manual : l.slot.mode = .manual) :
    (l.compute b x forced ts).loop.slot.out = l.desc.clampOut l.slot.manual := by
  simp [h.compute_eq, Loop.inMode, manual]

theorem Loop.Unasked.compute_hold (h : l.Unasked x) (hold : l.slot.mode = .hold) :
    (l.compute b x forced ts).loop.slot.out = l.slot.out ∧ (l.compute b x forced ts).loop.slot.outQual = 0#2 := by
  simp [h.compute_eq, Loop.inMode, hold]

theorem Loop.Unasked.compute_tripped (h : l.Unasked x) (tripped : l.slot.mode = .tripped) (hold : l.desc.FE_ACTION ≠ 2#2) :
    (l.compute b x forced ts).loop.slot.out = l.slot.out ∧ (l.compute b x forced ts).loop.slot.outQual = 1#2 := by
  have held := Loop.tripOut_of_hold (l := l.prepared x forced) hold
  simp [h.compute_eq, Loop.inMode, tripped, held]

theorem Loop.Unasked.compute_auto_of_bad (h : l.Unasked x) (auto : l.slot.mode = .auto) (bad : (x.used l.desc).any SrcVal.bad = true) :
    (l.compute b x forced ts).trip = some (.auto, 2) ∧ (l.compute b x forced ts).loop.slot.mode = .tripped ∧
      (l.compute b x forced ts).loop.stat.TRIP_CAUSE = 2#3 ∧ (l.compute b x forced ts).loop.stat.TRIP_COUNT = sat l.stat.TRIP_COUNT := by
  have trips : (l.prepared x forced).inMode b x forced ts = ((l.prepared x forced).tripped 2 ts false, false) := by
    simp [Loop.inMode, auto, Loop.auto_of_bad (l := l.prepared x forced) bad]
  simp [h.compute_eq, trips, Loop.tripped, Loop.trip, auto]

end Modes

/-- Settles O20: a boundary writes what stands complete or finds it late, a sample that completes is finished, and a sample that nothing is
asked of acts in its mode after its pre-filters. That these run on in OFF and MANUAL, where no law runs, is the model's choice (log 93); so is
how a late sample is recorded (log 96). -/
theorem loopSamplesComplete : Obligations.LoopSamplesComplete := by
  refine ⟨?_, ?_, fun _ _ _ _ => exec_loopSampleComplete_finishes, ?_, fun _ _ _ _ _ => exec_feTimerExpire_finishes⟩
  · intro s n runs used grid complete ran result
    rw [State.AtLoopBoundary.exec_loopBoundary ⟨runs, used, grid⟩, State.boundaryOut_of_result complete ran result]
  · intro s n x runs used grid late
    rw [State.AtLoopBoundary.exec_loopBoundary ⟨runs, used, grid⟩, State.boundaryOut_of_sample late]
  · intro l b x forced ts ran mode swap ctrl
    have unasked : l.Unasked x := ⟨ran, mode, swap, ctrl⟩
    exact ⟨unasked.compute_off, unasked.compute_manual, unasked.compute_hold, unasked.compute_tripped, unasked.compute_auto_of_bad⟩

end Sys2Proof.Machine
end

section
/-! PROOFS. The Crucible's commands (chapter 8): slots, their patterns and analysis, requests and input sets, results, statuses, and the QP
parameters (chapter 9). -/

namespace Sys2Proof.Machine

set_option Elab.async false

/-! ### What a command about a slot comes to (R195, R215) -/

/-- A number that names a slot leads to what the command does with it. -/
theorem onSlot_of_eq_val {k : Nat} {c : Fin 16} (h : k = c.val) (f : Fin 16 → Served) : onSlot k f = f c := by
  rw [onSlot, asFin_of_eq_val h]

section SlotChoice

variable {s : State} {k : Nat} {c : Fin 16}

/-- A command about used slots comes to a used one. -/
theorem State.onUsed_of_used (hc : k = c.val) (used : (s.cs c).desc.JOB_TYPE ≠ 0#8) (f : Fin 16 → Served) : s.onUsed k f = f c :=
  (onSlot_of_eq_val hc _).trans (refuseIf_of_false (by simp [used]))

/-- A command about QP slots comes to a QP slot. -/
theorem State.onQp_of_qpJob (hc : k = c.val) (qp : (s.cs c).qpJob = true) (f : Fin 16 → Served) : s.onQp k f = f c :=
  (onSlot_of_eq_val hc _).trans (refuseIf_of_false (by simp [qp]))

/-- A command about QP slots is refused for any other slot. -/
theorem State.onQp_of_other (hc : k = c.val) (other : (s.cs c).qpJob = false) (f : Fin 16 → Served) :
    s.onQp k f = .refuse 0x060B c.val 0 :=
  (onSlot_of_eq_val hc _).trans (refuseIf_of_true (by simp [other]))

end SlotChoice

@[simp] theorem State.receive_cs (s : State) (rq : Request) (c : Fin 16) : (s.receive rq).cs c = s.cs c := rfl
@[simp] theorem State.receive_now (s : State) (rq : Request) : (s.receive rq).now = s.now := rfl

/-- Two changes of a slot that agree on it as it stands are one. -/
theorem State.setCs_congr {s : State} {c : Fin 16} {f g : Slot → Slot} (h : f (s.cs c) = g (s.cs c)) : s.setCs c f = s.setCs c g :=
  congrArg (fun y => { s with cru.slot := put s.cru.slot c y }) h

/-! ### A part at offset 0 (R179) -/

section Load

variable (x : Slot) (off : Nat) (part : List Byte)

@[simp] theorem Slot.load_desc : (x.load off part).desc = x.desc := rfl
@[simp] theorem Slot.load_reloaded : (x.load off part).reloaded = true := rfl
@[simp] theorem Slot.load_zero_pattern : (x.load 0 part).pattern = Memory.write [] 0 part := rfl
@[simp] theorem Slot.load_zero_patternLen : (x.load 0 part).patternLen = part.length := by simp [Slot.load]

/-- A load neither makes a slot analysed nor takes that from it. -/
theorem Slot.load_analysed_iff : (x.load off part).state = .analysed ↔ x.state = .analysed := by
  rw [Slot.load]
  cases x.state <;> simp

end Load

section CrucibleCommands

variable {s : State} {rq : Request} {c : Fin 16}

/-! ### Descriptors (R181) -/

theorem exec_cruSlotSet_writes (h : s.Accepts Cmd.cruSlotSet rq) (hc : (SlotDesc.ofBytes rq.payload).SLOT_ID.toNat = c.val)
    (ok : (SlotDesc.ofBytes rq.payload).inRange = true) :
    exec (.cruSlotSet rq) s = .next (State.answered
      (s.setCs c fun x => { x with desc := SlotDesc.ofBytes rq.payload }) Cmd.cruSlotSet rq []) :=
  congrArg Host.Outcome.next (h.done rfl ((onSlot_of_eq_val hc _).trans (refuseIf_of_false (by simp [ok]))))

theorem exec_cruSlotSet_refuses (h : s.Accepts Cmd.cruSlotSet rq) (hc : (SlotDesc.ofBytes rq.payload).SLOT_ID.toNat = c.val)
    (bad : (SlotDesc.ofBytes rq.payload).inRange = false) :
    exec (.cruSlotSet rq) s = .next ((s.receive rq).refuse Cmd.cruSlotSet rq 0x0601 c.val 0) :=
  congrArg Host.Outcome.next (h.refused rfl ((onSlot_of_eq_val hc _).trans (refuseIf_of_true (by simp [bad]))))

theorem exec_cruSlotGet_answers_descriptor (h : s.Accepts Cmd.cruSlotGet rq) (hc : rq.u8 0 = c.val) :
    exec (.cruSlotGet rq) s = .next (s.answered Cmd.cruSlotGet rq { (s.cs c).desc with SLOT_ID := BitVec.ofNat 8 c.val }.toBytes) :=
  congrArg Host.Outcome.next (h.done rfl (onSlot_of_eq_val hc _))

/-! ### The pattern and its analysis (R179, R180, R182) -/

theorem exec_cruPatternLoad_loads (h : s.Accepts Cmd.cruPatternLoad rq) (hc : rq.u8 0 = c.val) (used : (s.cs c).desc.JOB_TYPE ≠ 0#8) :
    exec (.cruPatternLoad rq) s = .next (State.answered
      (s.setCs c fun _ => (s.cs c).load (rq.u32 4) (rq.payload.drop 8)) Cmd.cruPatternLoad rq []) :=
  congrArg Host.Outcome.next (h.done rfl (State.onUsed_of_used hc used _))

theorem exec_cruAnalyse_waits (h : s.Accepts Cmd.cruAnalyse rq) (hc : rq.u8 0 = c.val) (used : (s.cs c).desc.JOB_TYPE ≠ 0#8)
    (idle : (s.cs c).analysing = []) :
    exec (.cruAnalyse rq) s = .next ((s.receive rq).setCs c fun x => { x with analysing := [rq], analysisAt := s.now }) := by
  refine congrArg Host.Outcome.next (h.later rfl ((State.onUsed_of_used hc used _).trans ?_))
  refine congrArg Served.later (State.setCs_congr ?_)
  simp [idle]

theorem exec_cruSlotInfo_answers_info (h : s.Accepts Cmd.cruSlotInfo rq) (hc : rq.u8 0 = c.val) (used : (s.cs c).desc.JOB_TYPE ≠ 0#8)
    (analysed : (s.cs c).state = .analysed) :
    exec (.cruSlotInfo rq) s = .next (s.answered Cmd.cruSlotInfo rq ((s.cs c).info.toBytes (STATE := 2))) := by
  refine congrArg Host.Outcome.next (h.done rfl ((State.onUsed_of_used hc used _).trans ((refuseIf_of_false (by simp [analysed])).trans ?_)))
  simp only [State.receive_cs, analysed, SlotState.num]

theorem exec_cruSlotInfo_refuses (h : s.Accepts Cmd.cruSlotInfo rq) (hc : rq.u8 0 = c.val) (used : (s.cs c).desc.JOB_TYPE ≠ 0#8)
    (other : (s.cs c).state ≠ .analysed) :
    exec (.cruSlotInfo rq) s = .next ((s.receive rq).refuse Cmd.cruSlotInfo rq 0x0606 c.val 0) :=
  congrArg Host.Outcome.next (h.refused rfl ((State.onUsed_of_used hc used _).trans (refuseIf_of_true (by simp [other]))))

/-! ### Requests and input sets of a slot that sessions drive (R183, R185, R517) -/

theorem exec_cruJobSubmit_writes_request (h : s.Accepts Cmd.cruJobSubmit rq) (hc : rq.u8 0 = c.val) (inset : rq.u8 1 ≤ 1)
    (used : (s.cs c).desc.JOB_TYPE ≠ 0#8) (analysed : (s.cs c).state = .analysed) (bySession : (s.cs c).desc.REQ_BY_SESSION ≠ 0#1)
    (idle : (s.cs c).job = none) :
    exec (.cruJobSubmit rq) s = .next (State.answered
      (s.setCs c fun x => { x with
        req := { REQ_SEQ := nextSeq (s.cs c).req.REQ_SEQ, INSET := BitVec.ofNat 8 (rq.u8 1), DEADLINE := BitVec.ofNat 64 (rq.u64 4) }
        reqNew := true }) Cmd.cruJobSubmit rq (leBytes 4 (nextSeq (s.cs c).req.REQ_SEQ).toNat)) := by
  refine congrArg Host.Outcome.next (h.done rfl ((onSlot_of_eq_val hc _).trans ?_))
  refine (refuseIf_of_false (by simpa using inset)).trans ((refuseIf_of_false (by simp [used])).trans ?_)
  refine (refuseIf_of_false (by simp [analysed])).trans ((refuseIf_of_false (by simp [bySession])).trans ?_)
  exact refuseIf_of_false (by simp [idle])

theorem exec_cruInputWrite_writes_inset {i : Fin 2} (h : s.Accepts Cmd.cruInputWrite rq) (hc : rq.u8 0 = c.val) (hi : rq.u8 1 = i.val)
    (used : (s.cs c).desc.JOB_TYPE ≠ 0#8) (analysed : (s.cs c).state = .analysed) (bySession : (s.cs c).desc.REQ_BY_SESSION ≠ 0#1)
    (idle : (s.cs c).job = none) (fits : rq.u32 4 + (rq.payload.drop 8).length ≤ (s.cs c).insetBytes) :
    exec (.cruInputWrite rq) s = .next (State.answered
      (s.setCs c fun x => { x with inset := upd x.inset i fun m => m.write (rq.u32 4) (rq.payload.drop 8) }) Cmd.cruInputWrite rq []) := by
  refine congrArg Host.Outcome.next (h.done rfl ((onSlot_of_eq_val hc _).trans ?_))
  refine (refuseIf_of_false (by simp [used])).trans ((refuseIf_of_false (by simp [analysed])).trans ?_)
  refine (refuseIf_of_false (by simp [bySession])).trans ?_
  simp only [asFin_of_eq_val hi]
  exact (refuseIf_of_false (decide_eq_false (Nat.not_lt.mpr fits))).trans (refuseIf_of_false (by simp [idle]))

/-! ### Results, the engine's status and its clear (R192, R194, R214) -/

theorem exec_cruResultRead_answers_elements {xs : List F64} (h : s.Accepts Cmd.cruResultRead rq) (hc : rq.u8 0 = c.val)
    (used : (s.cs c).desc.JOB_TYPE ≠ 0#8)
    (hx : xs = if (s.cs c).index.X_SEQ = 0#32 then [] else ((s.cs c).buf.get (if (s.cs c).index.BUF = 0#8 then 0 else 1)).x) :
    exec (.cruResultRead rq) s = .next (s.answered Cmd.cruResultRead rq
      ((s.cs c).index.toBytes ++ ((xs.drop (rq.u32 4)).take 500).flatMap fun v => leBytes 8 v.toNat)) := by
  refine congrArg Host.Outcome.next (h.done rfl ((State.onUsed_of_used hc used _).trans ?_))
  simp only [State.receive_cs, beq_iff_eq, hx]

theorem exec_cruStatus_of_idle (h : s.Accepts Cmd.cruStatus rq) (idle : s.cru.running = none) :
    exec (.cruStatus rq) s = .next (s.answered Cmd.cruStatus rq
      (s.cru.stat.toBytes (BUSY := 0) (CAPS_HALVED_NOW := bit (1 ≤ s.heatNow && s.heatNow ≤ 2))
        (HELD_NOW := bit (cruEffect s.heatNow s.energyNow).holds) (RUNNING_SLOT := 255) (QUEUED := s.cru.queue.length))) := by
  have here : (s.receive rq).cru.running = none := idle
  refine congrArg Host.Outcome.next (h.done rfl ?_)
  simp only [here]
  rfl

theorem exec_cruClear_clears (h : s.Accepts Cmd.cruClear rq) :
    exec (.cruClear rq) s = .next (State.answered
      { s with cru := { s.cru with
        stat := CruStat.dflt
        slot := s.cru.slot.map fun x => { x with
          info := { x.info with FACTOR_MAX_NS := 0#32 }
          qpInfo := { x.qpInfo with ADAPT_COUNT := 0#32, POLISH_REJECT_COUNT := 0#32, INFEAS_COUNT := 0#32 } } } } Cmd.cruClear rq []) :=
  congrArg Host.Outcome.next (h.done rfl rfl)

/-! ### QP parameters and QP information (R200, R214, R215) -/

theorem exec_cruQpSet_writes (h : s.Accepts Cmd.cruQpSet rq) (hc : rq.u8 0 = c.val) (qp : (s.cs c).qpJob = true)
    (ok : (QpParams.ofBytes (rq.payload.drop 8)).inRange = true) :
    exec (.cruQpSet rq) s = .next (State.answered
      (s.setCs c fun x => { x with qp := QpParams.ofBytes (rq.payload.drop 8) }) Cmd.cruQpSet rq []) :=
  congrArg Host.Outcome.next (h.done rfl ((State.onQp_of_qpJob hc qp _).trans (refuseIf_of_false (by simp [ok]))))

theorem exec_cruQpSet_refuses (h : s.Accepts Cmd.cruQpSet rq) (hc : rq.u8 0 = c.val) (qp : (s.cs c).qpJob = true)
    (bad : (QpParams.ofBytes (rq.payload.drop 8)).inRange = false) :
    exec (.cruQpSet rq) s = .next ((s.receive rq).refuse Cmd.cruQpSet rq 0x060A c.val 0) :=
  congrArg Host.Outcome.next (h.refused rfl ((State.onQp_of_qpJob hc qp _).trans (refuseIf_of_true (by simp [bad]))))

theorem exec_cruQpGet_answers_parameters (h : s.Accepts Cmd.cruQpGet rq) (hc : rq.u8 0 = c.val) (qp : (s.cs c).qpJob = true) :
    exec (.cruQpGet rq) s = .next (s.answered Cmd.cruQpGet rq (s.cs c).qp.toBytes) :=
  congrArg Host.Outcome.next (h.done rfl (State.onQp_of_qpJob hc qp _))

theorem exec_cruQpGet_refuses (h : s.Accepts Cmd.cruQpGet rq) (hc : rq.u8 0 = c.val) (other : (s.cs c).qpJob = false) :
    exec (.cruQpGet rq) s = .next ((s.receive rq).refuse Cmd.cruQpGet rq 0x060B c.val 0) :=
  congrArg Host.Outcome.next (h.refused rfl (State.onQp_of_other hc other _))

theorem exec_cruQpInfo_answers_information (h : s.Accepts Cmd.cruQpInfo rq) (hc : rq.u8 0 = c.val) (qp : (s.cs c).qpJob = true) :
    exec (.cruQpInfo rq) s = .next (s.answered Cmd.cruQpInfo rq ((s.cs c).qpInfo.toBytes (RHO_CUR := (s.cs c).rhoCur.toNat))) :=
  congrArg Host.Outcome.next (h.done rfl (State.onQp_of_qpJob hc qp _))

end CrucibleCommands

/-- Settles O21: each command that passes the mailbox layer names its slot and ends in its effect or in the refusal of the slot's state. That a
part at offset 0 begins a new image is the model's choice (log 42); so is that CRU_JOB_SUBMIT counts on from the last REQ_SEQ, skips 0 and
serves only slots with REQ_BY_SESSION (log 99), and that CRU_SLOT_SET and CRU_SLOT_GET serve unused slots as well (log 164). -/
theorem crucibleCommandsAnswer : Obligations.CrucibleCommandsAnswer := by
  refine ⟨fun s rq c h hc => ?_, fun _ _ _ => exec_cruSlotGet_answers_descriptor, fun s rq c h hc used first => ?_,
    fun _ _ _ => exec_cruAnalyse_waits, fun s rq c h hc used => ?_, fun _ _ _ => exec_cruJobSubmit_writes_request,
    fun _ _ _ _ => exec_cruResultRead_answers_elements, fun _ _ => exec_cruStatus_of_idle, fun _ _ => exec_cruClear_clears,
    fun s rq c h hc qp => ?_, fun s rq c h hc => ?_, fun _ _ _ => exec_cruQpInfo_answers_information,
    fun _ _ _ _ => exec_cruInputWrite_writes_inset⟩
  · split
    case isTrue ok => exact exec_cruSlotSet_writes h hc ok
    case isFalse bad => exact exec_cruSlotSet_refuses h hc (Bool.eq_false_iff.mpr bad)
  · refine ⟨_, exec_cruPatternLoad_loads h hc used, ?_⟩
    rw [first]
    exact ⟨Slot.load_zero_pattern .., Slot.load_zero_patternLen .., Slot.load_reloaded .., Slot.load_analysed_iff .., Slot.load_desc ..⟩
  · split
    case isTrue analysed => exact exec_cruSlotInfo_answers_info h hc used analysed
    case isFalse other => exact exec_cruSlotInfo_refuses h hc used other
  · split
    case isTrue ok => exact exec_cruQpSet_writes h hc qp ok
    case isFalse bad => exact exec_cruQpSet_refuses h hc qp (Bool.eq_false_iff.mpr bad)
  · split
    case isTrue qp => exact exec_cruQpGet_answers_parameters h hc qp
    case isFalse other => exact exec_cruQpGet_refuses h hc (Bool.eq_false_iff.mpr other)

end Sys2Proof.Machine
end

section
/-! PROOFS. What an evaluation of the trip matrix, a latched fault and the references of motion leave of the safety island (chapter 10). -/

namespace Sys2Proof.Machine

set_option Elab.async false

/-! ### What leaves the island as it is -/

section Records

variable (s : State)

/-- A record that is staged changes nothing of the island. -/
@[simp] theorem State.stageAt_isl (n : Note) (ts : BitVec 64) : (s.stageAt n ts).isl = s.isl := by
  unfold State.stageAt
  extract_lets seq r f s1 s2
  have raised : s2.isl = s.isl := by
    show (if 4 ≤ n.sev then s1.raise irqFlowAlarm else s1).isl = s.isl
    split <;> rfl
  split
  · exact raised
  · exact raised

/-- Neither does one that is kept out. -/
@[simp] theorem State.event_isl (sev code inst old new detail : Nat) : (s.event sev code inst old new detail).isl = s.isl := by
  simp only [State.event, State.record, State.recordAt]
  split
  · exact State.stageAt_isl ..
  · rfl

/-- Nor does what goes to the peer. -/
@[simp] theorem State.mirrorIsland_isl : s.mirrorIsland.isl = s.isl := by
  simp only [State.mirrorIsland, State.mirror]
  split <;> rfl

/-- An axis brought up to now changes neither the island nor the clock. -/
theorem State.advanceAxis_isl_tm (n : Fin 8) (k : Nat) : (s.advanceAxis n k).isl = s.isl ∧ (s.advanceAxis n k).tm = s.tm := by
  unfold State.advanceAxis
  extract_lets x
  split
  · exact ⟨rfl, rfl⟩
  · split <;> exact ⟨rfl, rfl⟩

/-- So do several. -/
theorem State.foldl_advanceAxis_isl_tm (l : List (Fin 8)) (k : Nat) :
    (l.foldl (fun s a => s.advanceAxis a k) s).isl = s.isl ∧ (l.foldl (fun s a => s.advanceAxis a k) s).tm = s.tm := by
  induction l generalizing s with
  | nil => exact ⟨rfl, rfl⟩
  | cons a l ih =>
    obtain ⟨isl, tm⟩ := s.advanceAxis_isl_tm a k
    exact ⟨(ih _).1.trans isl, (ih _).2.trans tm⟩

@[simp] theorem State.advanceAxes_isl : s.advanceAxes.isl = s.isl := by
  simp only [State.advanceAxes, State.foldl_advanceAxis_isl_tm]

@[simp] theorem State.advanceAxes_now : s.advanceAxes.now = s.now := by
  simp only [State.advanceAxes, State.now, State.foldl_advanceAxis_isl_tm]

/-- So the signed set in force stands. -/
@[simp] theorem State.advanceAxes_safetySet : s.advanceAxes.safetySet = s.safetySet := by
  simp only [State.safetySet, State.validSet, State.advanceAxes_isl]

end Records

/-! ### The parameter sets and the safety outputs stand -/

/-- From `i` to `j` the parameter sets stand; with no brake test in progress none begins, and the safety outputs stand. -/
structure Island.SetsStand (i j : Island) : Prop where
  signed  : j.signed = i.signed
  pending : j.pending = i.pending
  bt      : i.bt = none → j.bt = none
  so      : i.bt = none → j.so = i.so

theorem Island.SetsStand.refl (i : Island) : i.SetsStand i := ⟨rfl, rfl, id, fun _ => rfl⟩

theorem Island.SetsStand.trans {i j k : Island} (h : i.SetsStand j) (g : j.SetsStand k) : i.SetsStand k :=
  ⟨g.signed.trans h.signed, g.pending.trans h.pending, g.bt ∘ h.bt, fun none => (g.so (h.bt none)).trans (h.so none)⟩

theorem Island.SetsStand.of_eq {i j : Island} (h : j = i) : i.SetsStand j := h ▸ .refl i

theorem Island.SetsStand.ite {i : Island} {a b : State} {c : Prop} [Decidable c] (ha : i.SetsStand a.isl) (hb : i.SetsStand b.isl) :
    i.SetsStand (if c then a else b).isl := by
  split
  · exact ha
  · exact hb

theorem Island.SetsStand.event {i : Island} {s : State} {sev code inst old new detail : Nat} (h : i.SetsStand s.isl) :
    i.SetsStand (s.event sev code inst old new detail).isl := h.trans (.of_eq (State.event_isl ..))

section Matrix

variable (s : State)

/-- QL lines that go high are only dated (R234). -/
theorem State.foldl_lineUp_setsStand (l : List (Fin 8)) : s.isl.SetsStand (l.foldl State.lineUp s).isl := by
  induction l generalizing s with
  | nil => exact .refl _
  | cons t l ih =>
    have dated : s.isl.SetsStand (s.lineUp t).isl := ⟨rfl, rfl, id, fun _ => rfl⟩
    exact dated.trans (ih _)

theorem State.setLines_setsStand : s.isl.SetsStand s.setLines.isl := by
  unfold State.setLines
  extract_lets up dio t
  exact State.foldl_lineUp_setsStand t up

/-- Motion stop-all touches the safety outputs through the brake test that it aborts. -/
theorem State.motionKill_setsStand : s.isl.SetsStand s.motionKill.isl := by
  simp only [State.motionKill, State.abortTest]
  split
  · exact .refl _
  · next b test =>
    rw [State.event_isl]
    exact ⟨rfl, rfl, fun _ => rfl, fun none => absurd (none.symm.trans test) (by simp)⟩

/-- An evaluation of the matrix keeps the parameter sets and, with no brake test to abort, the safety outputs. -/
theorem State.evalMatrix_setsStand : s.isl.SetsStand s.evalMatrix.isl := by
  unfold State.evalMatrix
  refine .ite (.refl _) ?_
  split
  · exact s.setLines_setsStand
  · extract_lets src old new trips before isl stat s1 s2 s3 s4
    have found : s.isl.SetsStand s1.isl := ⟨rfl, rfl, id, fun _ => rfl⟩
    have noted : s1.isl.SetsStand s2.isl := .ite (.refl _) (.event ⟨rfl, rfl, id, fun _ => rfl⟩)
    have lines : s.isl.SetsStand s3.isl := (found.trans noted).trans s2.setLines_setsStand
    have stop : s.isl.SetsStand s4.isl := .ite (lines.trans s3.motionKill_setsStand) lines
    exact .ite stop (stop.trans (.of_eq s4.mirrorIsland_isl))

/-- So does an evaluation that follows a record. -/
theorem State.event_evalMatrix_setsStand {sev code inst old new detail : Nat} :
    s.isl.SetsStand (s.event sev code inst old new detail).evalMatrix.isl :=
  .trans (.event (.refl _)) (State.evalMatrix_setsStand _)

/-- An axis source that latches is of an axis alone. -/
theorem State.latchAxis_setsStand (n : Fin 8) : s.isl.SetsStand (s.latchAxis n).isl :=
  .ite (.refl _) (.event ⟨rfl, rfl, id, fun _ => rfl⟩)

end Matrix

end Sys2Proof.Machine
end

section
/-! PROOFS. The safety commands (chapter 10): the parameter set and its sign-off, the status and its clear, resets, and the start of a brake
test. -/

namespace Sys2Proof.Machine

set_option Elab.async false

section SafetyCommands

variable {s : State} {rq : Request}

/-! ### The parameter set (R239, R240, R247) -/

section ParameterSet

variable {x : SafetySet} (hx : x = { SafetySet.ofBytes rq.payload with SIGNED_BY := 0#32, SIGNED_TS := 0#64 })
include hx

theorem exec_safeParamLoad_stores (h : s.Accepts Cmd.safeParamLoad rq) (ok : x.inRange = true) (agrees : x.conflict = false) :
    exec (.safeParamLoad rq) s = .next (State.answered { s with isl := { s.isl with pending := some { x with CRC := x.crcOf } } }
      Cmd.safeParamLoad rq (leBytes 4 x.crcOf.toNat)) := by
  subst hx
  exact congrArg Host.Outcome.next (h.done rfl ((refuseIf_of_false (by simp [ok])).trans (refuseIf_of_false agrees)))

theorem exec_safeParamLoad_refuses_range (h : s.Accepts Cmd.safeParamLoad rq) (bad : x.inRange = false) :
    exec (.safeParamLoad rq) s = .next ((s.receive rq).refuse Cmd.safeParamLoad rq 0x0803 0xFFFF 0) := by
  subst hx
  exact congrArg Host.Outcome.next (h.refused rfl (refuseIf_of_true (by simp [bad])))

theorem exec_safeParamLoad_refuses_conflict (h : s.Accepts Cmd.safeParamLoad rq) (ok : x.inRange = true) (differs : x.conflict = true) :
    exec (.safeParamLoad rq) s = .next ((s.receive rq).refuse Cmd.safeParamLoad rq 0x0804 0xFFFF 0) := by
  subst hx
  exact congrArg Host.Outcome.next (h.refused rfl ((refuseIf_of_false (by simp [ok])).trans (refuseIf_of_true differs)))

end ParameterSet

theorem exec_safeParamRead_answers_set (h : s.Accepts Cmd.safeParamRead rq) (which : rq.u8 0 ≤ 1) :
    exec (.safeParamRead rq) s = .next (s.answered Cmd.safeParamRead rq
      ((if rq.u8 0 = 0 then s.validSet else s.isl.pending).getD SafetySet.dflt).toBytes) :=
  congrArg Host.Outcome.next (h.done rfl (refuseIf_of_false (by simpa using which)))

/-! ### The sign-off (R240) -/

/-- A set becomes the signed one in both copies, with its record, and the matrix is evaluated with it. -/
def State.signOff (s : State) (x : SafetySet) : State :=
  (State.event { s with isl := { s.isl with signed := Vector.replicate 2 (some x), pending := none } }
    6 0x0882 0xFF ((s.validSet.map fun x => x.CRC.toNat).getD 0) x.CRC.toNat x.SIGNED_BY.toNat).evalMatrix

/-- Neither the record nor the evaluation changes a parameter set. -/
theorem State.signOff_setsStand (x : SafetySet) :
    Island.SetsStand { s.isl with signed := Vector.replicate 2 (some x), pending := none } (s.signOff x).isl :=
  State.event_evalMatrix_setsStand { s with isl := { s.isl with signed := Vector.replicate 2 (some x), pending := none } }

theorem exec_safeSignOff_signs {p : SafetySet} (h : s.Accepts Cmd.safeSignOff rq) (hp : s.isl.pending = some p)
    (shown : rq.u32 0 = p.CRC.toNat) :
    exec (.safeSignOff rq) s = .next (State.reply
      ((s.receive rq).signOff { p with SIGNED_BY := BitVec.ofNat 32 (rq.u32 4), SIGNED_TS := s.ts }) Cmd.safeSignOff rq 0 []) := by
  refine congrArg Host.Outcome.next (h.done rfl ?_)
  simp only [State.receive_isl, hp]
  exact refuseIf_of_false (by simp [shown])

theorem exec_safeSignOff_refuses_crc {p : SafetySet} (h : s.Accepts Cmd.safeSignOff rq) (hp : s.isl.pending = some p)
    (other : rq.u32 0 ≠ p.CRC.toNat) :
    exec (.safeSignOff rq) s = .next ((s.receive rq).refuse Cmd.safeSignOff rq 0x0805 0xFFFF 0) := by
  refine congrArg Host.Outcome.next (h.refused rfl ?_)
  simp only [State.receive_isl, hp]
  exact refuseIf_of_true (by simpa using other)

theorem exec_safeSignOff_refuses_none (h : s.Accepts Cmd.safeSignOff rq) (hp : s.isl.pending = none) :
    exec (.safeSignOff rq) s = .next ((s.receive rq).refuse Cmd.safeSignOff rq 0x0806 0xFFFF 0) := by
  refine congrArg Host.Outcome.next (h.refused rfl ?_)
  simp only [State.receive_isl, hp]

/-! ### The status and its clear (R248) -/

theorem exec_safeStatus_answers_status (h : s.Accepts Cmd.safeStatus rq) :
    exec (.safeStatus rq) s = .next (s.answered Cmd.safeStatus rq s.safeStatus) :=
  congrArg Host.Outcome.next (h.done rfl rfl)

theorem exec_safeClear_clears (h : s.Accepts Cmd.safeClear rq) :
    exec (.safeClear rq) s = .next (State.answered
      { s with isl := { s.isl with stat := { s.isl.stat with SOURCES_SEEN := 0#32, TRIP_COUNT := 0#32, RESET_COUNT := 0#32 } } }
      Cmd.safeClear rq []) :=
  congrArg Host.Outcome.next (h.done rfl rfl)

/-! ### Resets and the start of a brake test (R229, R230, R234) -/

/-- An accepted command that is refused with an effect leaves that effect, its record and its answer. -/
theorem State.Accepts.refusedIn {e : CmdInfo} {m : Request → State → State} {own : State → Served} {t : State} {c inst item : Nat}
    {body : List Byte} (h : s.Accepts e rq) (hm : m rq (s.receive rq) = serve e rq (s.receive rq) own)
    (ho : own (s.receive rq) = .refuseIn t c inst item body) :
    s.command rq m = (t.noteRefusal e rq c inst item).reply e rq c body := by
  rw [h.command_eq, hm]
  simp only [serve, h.check, ho]

section Reset

variable {t : State} {freed : Nat}

theorem exec_safeReset_releases (h : s.Accepts Cmd.safeReset rq) (mask : rq.u16 0 < 1024)
    (reset : (s.receive rq).clearLatches.resetTargets (rq.u16 0) = (t, freed, false)) :
    exec (.safeReset rq) s = .next (t.reply Cmd.safeReset rq 0 (leBytes 2 freed)) := by
  refine congrArg Host.Outcome.next (h.done rfl ((refuseIf_of_false (by simpa using mask)).trans ?_))
  rw [reset]
  rfl

/-- One target that stays killed has the reset answered with its code, the others released all the same. -/
theorem exec_safeReset_reports (h : s.Accepts Cmd.safeReset rq) (mask : rq.u16 0 < 1024)
    (reset : (s.receive rq).clearLatches.resetTargets (rq.u16 0) = (t, freed, true)) :
    exec (.safeReset rq) s = .next ((t.noteRefusal Cmd.safeReset rq 0x0807 0xFFFF 0).reply Cmd.safeReset rq 0x0807 (leBytes 2 freed)) := by
  refine congrArg Host.Outcome.next (h.refusedIn rfl ((refuseIf_of_false (by simpa using mask)).trans ?_))
  rw [reset]
  rfl

theorem exec_safeReset_refuses (h : s.Accepts Cmd.safeReset rq) (mask : 1024 ≤ rq.u16 0) :
    exec (.safeReset rq) s = .next ((s.receive rq).refuse Cmd.safeReset rq 0x0803 0xFFFF 0) :=
  congrArg Host.Outcome.next (h.refused rfl (refuseIf_of_true (decide_eq_true mask)))

end Reset

section BrakeTest

variable {c : Fin 4}

theorem exec_safeBrakeTest_starts (h : s.Accepts Cmd.safeBrakeTest rq) (hc : rq.u8 0 = c.val) (free : s.btRefused c = false) :
    exec (.safeBrakeTest rq) s = .next (State.reply ((s.receive rq).startTest c) Cmd.safeBrakeTest rq 0 []) := by
  refine congrArg Host.Outcome.next (h.done rfl ?_)
  simp only [asFin_of_eq_val hc]
  exact refuseIf_of_false free

theorem exec_safeBrakeTest_refuses (h : s.Accepts Cmd.safeBrakeTest rq) (hc : rq.u8 0 = c.val) (refused : s.btRefused c = true) :
    exec (.safeBrakeTest rq) s = .next ((s.receive rq).refuse Cmd.safeBrakeTest rq 0x080A c.val 0) := by
  refine congrArg Host.Outcome.next (h.refused rfl ?_)
  simp only [asFin_of_eq_val hc]
  exact refuseIf_of_true refused

end BrakeTest

end SafetyCommands

/-- Settles O23: each command that passes the mailbox layer is decided by the set it carries, by the pending set, by what a reset leaves
killed, or by R230, and a sign-off is read through what its record and the evaluation of the matrix leave of the sets. That a set which does not
exist is read as the layout's defaults is the model's choice (log 113); so is that a reset frees what it may where another target stays killed
(log 112), and what SAFE_CLEAR clears (log 117). -/
theorem safetyCommandsAnswer : Obligations.SafetyCommandsAnswer := by
  refine ⟨fun _ _ _ h hx => exec_safeParamLoad_stores hx h, fun s rq x h hx bad => ?load, fun _ _ => exec_safeParamRead_answers_set,
    fun s rq p h hp shown => ?sign, fun s rq h other => ?signRefused, fun _ _ => exec_safeStatus_answers_status,
    fun _ _ => exec_safeClear_clears, fun s t rq freed active h mask reset => ?reset, fun _ _ => exec_safeReset_refuses,
    fun s rq c h hc => ?brakeTest⟩
  case load =>
    split
    case isTrue ok => exact exec_safeParamLoad_refuses_conflict hx h ok (bad.resolve_left (by simp [ok]))
    case isFalse range => exact exec_safeParamLoad_refuses_range hx h (Bool.eq_false_iff.mpr range)
  case sign =>
    have stands := State.signOff_setsStand (s := s.receive rq) { p with SIGNED_BY := BitVec.ofNat 32 (rq.u32 4), SIGNED_TS := s.ts }
    exact ⟨_, exec_safeSignOff_signs h hp shown, stands.pending, stands.signed⟩
  case signRefused =>
    split
    case isTrue absent => exact exec_safeSignOff_refuses_none h absent
    case isFalse present =>
      obtain ⟨p, hp⟩ := Option.ne_none_iff_exists'.mp present
      exact exec_safeSignOff_refuses_crc h hp (other p hp)
  case reset =>
    cases active with
    | true => exact exec_safeReset_reports h mask reset
    | false => exact exec_safeReset_releases h mask reset
  case brakeTest =>
    split
    case isTrue refused => exact exec_safeBrakeTest_refuses h hc refused
    case isFalse free => exact exec_safeBrakeTest_starts h hc (Bool.eq_false_iff.mpr free)

end Sys2Proof.Machine
end

section
/-! PROOFS. Safety pairs and their test pulses, the tests of the outputs, the faults of axes and of the island's own parts (chapter 10). -/

namespace Sys2Proof.Machine

set_option Elab.async false

/-- Where a signed set stands it is the set in force. -/
theorem State.safetySet_of_validSet {s : State} {x : SafetySet} (h : s.validSet = some x) : s.safetySet = x := by
  rw [State.safetySet, h]
  rfl

/-! ### Pairs and test pulses (R219 to R221) -/

section Pairs

variable {s : State} {x : SafetySet} {k : Fin 16} {p : SafePair} {tp : Fin 2} {low : BitVec 32} (signed : s.validSet = some x)
include signed

/-- Side a stable in demand. -/
theorem exec_pairDemand_asserts (used : (x.PAIR.get k).KIND ≠ 0#8) (demand : (s.isl.pair.get k).nowA = true)
    (stable : s.since (s.isl.pair.get k).sinceA (us (x.PAIR.get k).FILTER_US.toNat) = true) :
    exec (.pairDemand k false) s = .next (State.evalMatrix (s.setPair k fun p =>
      SafePair.timed { p with demandA := true, okA := false, source := true, bothDemand := p.bothDemand || p.demandB } s.now)) := by
  have inUse := State.safetySet_of_validSet signed
  exact congrArg Host.Outcome.next (if_pos (by simp [signed, inUse, used, demand, stable]))

theorem exec_pairSourceClear_clears (used : (x.PAIR.get k).KIND ≠ 0#8) (hp : s.isl.pair.get k = p)
    (runA : p.nowA = false) (runB : p.nowB = false) (stableA : s.since p.sinceA (us (x.PAIR.get k).FILTER_US.toNat) = true)
    (stableB : s.since p.sinceB (us (x.PAIR.get k).FILTER_US.toNat) = true) (sound : p.faulty = false) (cycle : p.needCycle = false) :
    exec (.pairSourceClear k) s = .next (State.evalMatrix (s.setPair k fun p =>
      { p with source := false, demandA := false, demandB := false, differSince := none, disc := false, test := false, cross := false,
               needCycle := false, bothDemand := false, okA := false, okB := false })) := by
  have inUse := State.safetySet_of_validSet signed
  exact congrArg Host.Outcome.next (if_pos (by simp [signed, inUse, used, hp, runA, runB, stableA, stableB, sound, cycle]))

theorem exec_pairDiscFault_latches (used : (x.PAIR.get k).KIND ≠ 0#8)
    (differ : s.ran (s.isl.pair.get k).differSince (ms (x.PAIR.get k).DISC_MS.toNat) = true) :
    exec (.pairDiscFault k) s = .next (s.latchPair k fun p => { p with disc := true }).evalMatrix := by
  have inUse := State.safetySet_of_validSet signed
  exact congrArg Host.Outcome.next (if_pos (by simp [signed, inUse, used, differ]))

theorem exec_testPulse_judges (runs : s.tpRuns = true)
    (masked : us (x.TP_WIDTH_US.toNat + x.TP_SETTLE_US.toNat) ≤ s.pulseAge x tp) :
    exec (.testPulse tp low) s = .next (State.evalMatrix (State.samplePairs
      ((idx 16).foldl (fun s k => (s.judgeSide x tp low k false).judgeSide x tp low k true) s))) := by
  refine congrArg Host.Outcome.next ?_
  simp only [signed]
  exact if_pos (by simp [runs, masked])

end Pairs

/-! ### Safety outputs (R223, R224) -/

section Outputs

variable {s : State} {c : Fin 4} {ok : Bool}

theorem exec_soBiasFault_faults (sound : (s.isl.so.get c).fault = false) (lasts : s.ran (s.isl.so.get c).biasFaultSince (ms 1) = true) :
    exec (.soBiasFault c) s = .next (s.soFail c) :=
  congrArg Host.Outcome.next (if_pos (by simp [sound, lasts]))

theorem exec_soOvercurrent_faults (sound : (s.isl.so.get c).fault = false) (lasts : s.ran (s.isl.so.get c).overSince (us 50) = true) :
    exec (.soOvercurrent c) s = .next (s.soFail c) :=
  congrArg Host.Outcome.next (if_pos (by simp [sound, lasts]))

theorem exec_soLightTest_tests (due : s.soTestDue c = true) (off : s.dio.soOff c = true) (bias : (s.isl.so.get c).biasOk = true)
    (wiring : (s.safetySet.SO.get c).PAIR_WIRING ≠ 1#8) {t : State}
    (ht : t = { s with isl := { s.isl with so := upd s.isl.so c fun o => { o with testAt := s.now } } }) :
    exec (.soLightTest c ok) s = .next (if ok = true then t else t.soFail c) := by
  subst ht
  exact congrArg Host.Outcome.next (if_pos (by simp [due, off, bias, wiring]))

theorem exec_soDarkTest_tests (due : s.soTestDue c = true) (on : s.dio.soOff c = false)
    (wiring : (s.safetySet.SO.get c).PAIR_WIRING ≠ 1#8) {t : State}
    (ht : t = { s with isl := { s.isl with so := upd s.isl.so c fun o => { o with testAt := s.now, testLow := !o.testLow } } }) :
    exec (.soDarkTest c ok) s = .next (if ok = true then t else t.soFail c) := by
  subst ht
  exact congrArg Host.Outcome.next (if_pos (by simp [due, on, wiring]))

end Outputs

/-! ### Axes and the watchdog (R226, R227, R231) -/

section Axes

variable {s : State} {x : SafetySet}

theorem exec_encoderQuadError_latches {e : Fin 8} (serving : s.sys.phase = .serving) (signed : s.validSet = some x) {t : State}
    (ht : t = { s with mot := { s.mot with enc := upd s.mot.enc e fun e => { e with quadErr := true } } }) :
    exec (.encoderQuadError e) s = .next (((x.axesOf e.val).foldl State.latchAxis t).evalMatrix) := by
  subst ht
  refine congrArg Host.Outcome.next ((if_pos (by simp [serving])).trans ?_)
  have stands : ({ s with mot := { s.mot with enc := upd s.mot.enc e fun e => { e with quadErr := true } } } : State).validSet = some x := signed
  simp only [stands]

theorem exec_axisDiscrepancy_latches {n : Fin 8} (signed : s.validSet.isSome = true) (used : (s.axisEntry n).used = true)
    (differs : s.axisDiffers n = true) :
    exec (.axisDiscrepancy n) s = .next (s.latchAxis n).evalMatrix :=
  congrArg Host.Outcome.next (if_pos (by simp [signed, used, differs]))

theorem exec_wdTaskExpire_evaluates {t : Fin 128} (signed : s.validSet = some x) (expired : s.wdExpired x t = true) :
    exec (.wdTaskExpire t) s = .next s.evalMatrix := by
  refine congrArg Host.Outcome.next ?_
  simp only [signed]
  exact if_pos expired

theorem exec_safetySourceAssert_evaluates (serving : s.sys.phase = .serving) :
    exec .safetySourceAssert s = .next s.checkAxes.evalMatrix :=
  congrArg Host.Outcome.next (if_pos (by simp [serving]))

end Axes

/-! ### The island's own parts (R216 to R218) -/

section Parts

variable {s : State}

theorem exec_copyDisagree_raises (frames : 3 ≤ s.isl.copyDiffer) :
    exec .copyDisagree s = .next (State.evalMatrix { s with isl := { s.isl with sfeFault := true } }) :=
  congrArg Host.Outcome.next (if_pos frames)

theorem exec_channelDisagree_halts {t : Fin 10} (serving : s.sys.phase = .serving) :
    exec (.channelDisagree t) s = .next (s.islandFault .island) :=
  congrArg Host.Outcome.next (if_pos (by simp [serving]))

theorem exec_qlDailyTest_tests {ok : BitVec 8} (run : s.inRun = true) (paired : s.paired = true) (standby : s.pr.role = .standby)
    (due : s.since s.isl.qlTestAt (sec 86400) = true) :
    exec (.qlDailyTest ok) s = .next (s.testLines ok) :=
  congrArg Host.Outcome.next (if_pos (by simp [run, paired, standby, due]))

end Parts

/-- Settles O24: each event of a pair, an output, an axis or the island is its one change, once its condition holds, and the signed set is the
set in force. Of a stable demand the statement speaks for side a alone. From when a demand and a difference count is the model's choice
(log 107), as are the phases of the test pulses (log 108) and of the tests of the outputs (log 109), and that SFE_FAULT follows its condition
and is not latched (log 117). -/
theorem pairsFiltersAndTestsMove : Obligations.PairsFiltersAndTestsMove :=
  ⟨fun _ _ _ => exec_pairDemand_asserts, fun _ _ _ _ => exec_pairSourceClear_clears, fun _ _ _ => exec_pairDiscFault_latches,
    fun _ _ _ _ => exec_testPulse_judges, fun _ _ => exec_soBiasFault_faults, fun _ _ => exec_soOvercurrent_faults,
    fun _ _ _ due off bias wiring => ⟨_, rfl, exec_soLightTest_tests due off bias wiring rfl⟩,
    fun _ _ _ due on wiring => ⟨_, rfl, exec_soDarkTest_tests due on wiring rfl⟩,
    fun _ _ _ serving signed => ⟨_, rfl, exec_encoderQuadError_latches serving signed rfl⟩,
    fun _ _ => exec_axisDiscrepancy_latches, fun _ _ _ => exec_wdTaskExpire_evaluates, fun _ => exec_safetySourceAssert_evaluates,
    fun _ => exec_copyDisagree_raises, fun _ _ => exec_channelDisagree_halts, fun _ _ => exec_qlDailyTest_tests⟩

end Sys2Proof.Machine
end

section
/-! PROOFS. Brake tests and the pulse on RESET_DIO (chapter 10): the steps and the result of a test, when one falls due, and what a pulse
resets. -/

namespace Sys2Proof.Machine

set_option Elab.async false

/-! ### The result of a brake test (R229) -/

/-- A brake channel after a test that has moved its axis by `moved`, where `tol` is allowed. -/
def SafeOut.afterTest (o : SafeOut) (moved tol now : Nat) : SafeOut :=
  if moved ≤ tol then { o with cmd := false, btResult := .passed, btPassAt := now, btDue := false }
  else { o with cmd := false, btResult := .failed, btFail := true }

section Result

variable {o : SafeOut} {moved tol now : Nat}

/-- The brake stays applied whatever the result. -/
@[simp] theorem SafeOut.afterTest_cmd : (o.afterTest moved tol now).cmd = false := by
  unfold SafeOut.afterTest
  split <;> rfl

theorem SafeOut.afterTest_of_pass (pass : moved ≤ tol) :
    (o.afterTest moved tol now).btResult = .passed ∧ (o.afterTest moved tol now).btDue = false ∧
      (o.afterTest moved tol now).btPassAt = now := by
  simp [SafeOut.afterTest, pass]

theorem SafeOut.afterTest_of_fail (fail : tol < moved) :
    (o.afterTest moved tol now).btResult = .failed ∧ (o.afterTest moved tol now).btFail = true := by
  simp [SafeOut.afterTest, Nat.not_le.mpr fail]

end Result

/-- Of the island the end of a test leaves no test, and its channel with the result: what follows the result finds no test to abort. -/
theorem State.endTest_bt_so (s : State) (b : BrakeTest) :
    (s.endTest b).isl.bt = none ∧
      (s.endTest b).isl.so = upd s.isl.so b.so fun o => o.afterTest b.moved (s.safetySet.SO.get b.so).BT_TOL.toNat s.now := by
  unfold State.endTest
  extract_lets e pass isl s1 s2 s3
  have released : s2.isl = s1.isl := by
    unfold s2
    split <;> rfl
  have axis : s2.isl.SetsStand s3.isl := by
    unfold s3
    split
    · exact .ite ⟨rfl, rfl, id, fun _ => rfl⟩ (State.latchAxis_setsStand ..)
    · exact .refl _
  have stands {sev code inst old new detail : Nat} : s1.isl.SetsStand (s3.event sev code inst old new detail).evalMatrix.isl :=
    (Island.SetsStand.of_eq released).trans (axis.trans s3.event_evalMatrix_setsStand)
  exact ⟨stands.bt rfl, stands.so rfl⟩

/-! ### Steps, starts and due times of brake tests (R229, R230) -/

section Tests

variable {s : State} {b : BrakeTest} {c : Fin 4}

theorem exec_brakeTestPhase_steps {d : Nat} {p : BtStep} (test : s.isl.bt = some b)
    (phase : (s.safetySet.SO.get b.so).phase b.step = (d, some p)) (lasted : s.since b.since d = true) :
    exec .brakeTestPhase s = .next { s.advanceAxes with isl.bt := some { b with step := p, since := s.advanceAxes.now } } := by
  refine congrArg Host.Outcome.next ?_
  simp only [test, phase]
  exact if_pos lasted

/-- The last step is followed by the result. -/
theorem exec_brakeTestPhase_ends (test : s.isl.bt = some b) (last : b.step = .settle) (lasted : s.since b.since (ms 50) = true) :
    exec .brakeTestPhase s = .next (s.advanceAxes.endTest b) := by
  refine congrArg Host.Outcome.next ?_
  simp only [test, last, SoEntry.phase]
  exact if_pos lasted

theorem exec_brakeTestPhase_starts (idle : s.isl.bt = none) (run : s.inRun = true)
    (asked : ((idx 4).find? fun c => (s.isl.so.get c).btRequest && !s.btRefused c) = some c) :
    exec .brakeTestPhase s = .next (s.startTest c) := by
  refine congrArg Host.Outcome.next ?_
  simp only [idle, asked]
  exact if_pos run

theorem exec_brakeTestDue_sets (serving : s.sys.phase = .serving) (brake : (s.safetySet.SO.get c).FUNCTION = 2#8)
    (fresh : (s.isl.so.get c).btDue = false)
    (interval : s.since (s.isl.so.get c).btPassAt (hours (s.safetySet.SO.get c).BT_INTERVAL_H.toNat) = true) :
    exec (.brakeTestDue c) s = .next { s with isl := { s.isl with so := upd s.isl.so c fun o => { o with btDue := true } } } :=
  congrArg Host.Outcome.next (if_pos (by simp [serving, brake, fresh, interval]))

/-- A brake that is overdue asserts its axis source, where its entry says so. -/
theorem exec_brakeTestOverdue_latches {n : Fin 8} (serving : s.sys.phase = .serving) (brake : (s.safetySet.SO.get c).FUNCTION = 2#8)
    (due : (s.isl.so.get c).btDue = true)
    (grace : s.since (s.isl.so.get c).btPassAt
      (hours ((s.safetySet.SO.get c).BT_INTERVAL_H.toNat + (s.safetySet.SO.get c).BT_GRACE_H.toNat)) = true)
    (action : (s.safetySet.SO.get c).BT_OVERDUE_ACTION = 1#8) (axis : (s.safetySet.SO.get c).BRAKE_AXIS.toNat = n.val) :
    exec (.brakeTestOverdue c) s = .next (((s.setSafeAxis n fun a => { a with overdue := true }).latchAxis n).evalMatrix) := by
  refine congrArg Host.Outcome.next ((if_pos (by simp [serving, brake, due, grace])).trans ((if_neg (by simp [action])).trans ?_))
  simp only [asFin_of_eq_val axis]

end Tests

/-! ### A pulse on RESET_DIO (R234) -/

section Pulse

variable {s : State} {d : Nat}

theorem exec_resetDioPulse_resets (pulse : s.isl.resetPulse = some d) (least : ms 100 ≤ d) (most : d ≤ sec 2) :
    exec .resetDioPulse s = .next (({ s with isl := { s.isl with resetPulse := none } } : State).resetTargets
      ((idx 10).map fun t => if (s.safetySet.TARGET.get t).RESET_BY_DIO == 1#1 then 2 ^ t.val else 0).sum).1 := by
  refine congrArg Host.Outcome.next ?_
  simp only [pulse]
  exact (if_neg (Nat.not_lt.mpr most)).trans (if_neg (Nat.not_lt.mpr least))

theorem exec_resetDioPulse_ignores (pulse : s.isl.resetPulse = some d) (short : d < ms 100) :
    exec .resetDioPulse s = .next { s with isl := { s.isl with resetPulse := none } } := by
  have most : d ≤ sec 2 := short.le.trans (by decide)
  refine congrArg Host.Outcome.next ?_
  simp only [pulse]
  exact (if_neg (Nat.not_lt.mpr most)).trans (if_pos short)

end Pulse

/-- Settles O25: an event of a brake test or of RESET_DIO is its one change, once its condition holds; a result is read through what the latch
of the axis source, the record and the evaluation of the matrix leave of the channel. That the brake stays applied after a test, and that a
request is consumed at the start, is the model's choice (log 116); so is that a pulse outside 0.1 to 2.0 s is ignored (log 112). -/
theorem brakeTestsAndResetsMove : Obligations.BrakeTestsAndResetsMove := by
  refine ⟨fun _ _ _ _ => exec_brakeTestPhase_steps, fun s b test last lasted => ?result, fun _ _ => exec_brakeTestPhase_starts,
    fun _ _ => exec_brakeTestDue_sets, fun _ _ _ => exec_brakeTestOverdue_latches, fun _ _ => exec_resetDioPulse_resets,
    fun _ _ => exec_resetDioPulse_ignores⟩
  case result =>
    obtain ⟨bt, so⟩ := s.advanceAxes.endTest_bt_so b
    have channel : (s.advanceAxes.endTest b).isl.so.get b.so =
        (s.isl.so.get b.so).afterTest b.moved (s.safetySet.SO.get b.so).BT_TOL.toNat s.now := by
      rw [so, upd_get_same, State.advanceAxes_isl, State.advanceAxes_safetySet, State.advanceAxes_now]
    refine ⟨_, exec_brakeTestPhase_ends test last lasted, bt, ?_⟩
    rw [channel]
    exact ⟨SafeOut.afterTest_cmd, SafeOut.afterTest_of_pass, SafeOut.afterTest_of_fail⟩

end Sys2Proof.Machine
end

section
/-! PROOFS. The digital field commands (chapter 11): descriptors, statuses, the reset of a group's fuse, the release of a latch, and the clear of
the counters. -/

namespace Sys2Proof.Machine

set_option Elab.async false

@[simp] theorem State.receive_dioDesc (s : State) (rq : Request) (c : Fin 32) : (s.receive rq).dioDesc c = s.dioDesc c := rfl
@[simp] theorem State.receive_dioField (s : State) (rq : Request) (c : Fin 32) : (s.receive rq).dioField c = s.dioField c := rfl

section ChannelCommands

variable {s : State} {rq : Request} {c : Fin 32}

/-! ### Descriptors and the status of a channel (R273, R274) -/

theorem exec_fioDioSet_writes (h : s.Accepts Cmd.fioDioSet rq) (hc : (DioDesc.ofBytes rq.payload).CH_ID.toNat = c.val)
    (ok : (DioDesc.ofBytes rq.payload).ok = true) :
    exec (.fioDioSet rq) s = .next (State.answered
      { s with dio := { s.dio with desc := put s.dio.desc c (DioDesc.ofBytes rq.payload) } } Cmd.fioDioSet rq []) := by
  refine congrArg Host.Outcome.next (h.done rfl ?_)
  simp only [asFin_of_eq_val hc]
  exact refuseIf_of_false (by simp [ok])

theorem exec_fioDioSet_refuses (h : s.Accepts Cmd.fioDioSet rq) (hc : (DioDesc.ofBytes rq.payload).CH_ID.toNat = c.val)
    (bad : (DioDesc.ofBytes rq.payload).ok = false) :
    exec (.fioDioSet rq) s = .next ((s.receive rq).refuse Cmd.fioDioSet rq 0x0701 c.val 0) := by
  refine congrArg Host.Outcome.next (h.refused rfl ?_)
  simp only [asFin_of_eq_val hc]
  exact refuseIf_of_true (by simp [bad])

theorem exec_fioDioGet_answers_descriptor (h : s.Accepts Cmd.fioDioGet rq) (hc : rq.u8 0 = c.val) :
    exec (.fioDioGet rq) s = .next (s.answered Cmd.fioDioGet rq { s.dio.desc.get c with CH_ID := BitVec.ofNat 8 c.val }.toBytes) := by
  refine congrArg Host.Outcome.next (h.done rfl ?_)
  simp only [asFin_of_eq_val hc, State.receive_dio]

theorem exec_fioDioStatus_answers_status {k : Link} (h : s.Accepts Cmd.fioDioStatus rq) (hc : rq.u8 0 = c.val)
    (hk : s.dio.link.get (dioLink c) = k) :
    exec (.fioDioStatus rq) s = .next (s.answered Cmd.fioDioStatus rq
      ((s.dio.stat.get c).toBytes (DIAG := (k.record.DIAG.get (dioPos c)).toNat) (COMMAND := bit (k.doSent.getLsbD (dioPos c).val)))) := by
  refine congrArg Host.Outcome.next (h.done rfl ?_)
  simp only [asFin_of_eq_val hc, State.receive_dio, hk]

/-! ### The release of a latch (R257, R275) -/

theorem exec_fioDioUnlatch_releases (h : s.Accepts Cmd.fioDioUnlatch rq) (hc : rq.u8 0 = c.val) (output : (s.dioDesc c).MODE = 2#8)
    (latched : (s.dioField c).latchedAt.isSome = true) :
    exec (.fioDioUnlatch rq) s = .next (State.answered (s.setDio c fun x => { x with latchedAt := none }) Cmd.fioDioUnlatch rq []) := by
  refine congrArg Host.Outcome.next (h.done rfl ?_)
  simp only [asFin_of_eq_val hc]
  have there : (s.dioField c).latchedAt.isNone = false := by rw [← Option.not_isSome, latched]; rfl
  exact (refuseIf_of_false (by simp [output])).trans (refuseIf_of_false there)

theorem exec_fioDioUnlatch_of_other_mode (h : s.Accepts Cmd.fioDioUnlatch rq) (hc : rq.u8 0 = c.val)
    (other : (s.dioDesc c).MODE ≠ 2#8) :
    exec (.fioDioUnlatch rq) s = .next ((s.receive rq).refuse Cmd.fioDioUnlatch rq 0x0703 c.val 0) := by
  refine congrArg Host.Outcome.next (h.refused rfl ?_)
  simp only [asFin_of_eq_val hc]
  exact refuseIf_of_true (by simp [other])

theorem exec_fioDioUnlatch_without_latch (h : s.Accepts Cmd.fioDioUnlatch rq) (hc : rq.u8 0 = c.val)
    (output : (s.dioDesc c).MODE = 2#8) (free : (s.dioField c).latchedAt = none) :
    exec (.fioDioUnlatch rq) s = .next ((s.receive rq).refuse Cmd.fioDioUnlatch rq 0x0704 c.val 0) := by
  refine congrArg Host.Outcome.next (h.refused rfl ?_)
  simp only [asFin_of_eq_val hc]
  exact (refuseIf_of_false (by simp [output])).trans (refuseIf_of_true (by simp [free]))

/-! ### The clear of counters (R274) -/

theorem exec_fioDioClear_one (h : s.Accepts Cmd.fioDioClear rq) (hc : rq.u8 0 = c.val) :
    exec (.fioDioClear rq) s = .next (State.answered (s.clearDio c) Cmd.fioDioClear rq []) := by
  refine congrArg Host.Outcome.next (h.done rfl ((if_neg (by omega)).trans ?_))
  simp only [asFin_of_eq_val hc]
  rfl

theorem exec_fioDioClear_every (h : s.Accepts Cmd.fioDioClear rq) (every : rq.u8 0 = 0xFF) :
    exec (.fioDioClear rq) s = .next (State.reply ((idx 32).foldl State.clearDio (s.receive rq)) Cmd.fioDioClear rq 0 []) :=
  congrArg Host.Outcome.next (h.done rfl (if_pos every))

end ChannelCommands

/-! ### The status of a group and the reset of its fuse (R265, R274, R275) -/

section GroupCommands

variable {s : State} {rq : Request} {n : Fin 4}

theorem exec_fioGroupStatus_answers_status {k : Link} (h : s.Accepts Cmd.fioGroupStatus rq) (hn : rq.u8 0 = n.val)
    (hk : s.dio.link.get n = k) :
    exec (.fioGroupStatus rq) s = .next (s.answered Cmd.fioGroupStatus rq (k.stat.toBytes (FSTAT := k.fstat))) := by
  refine congrArg Host.Outcome.next (h.done rfl ?_)
  simp only [asFin_of_eq_val hn, State.receive_dio, hk]

variable {f : FieldSide}

theorem exec_fioGroupReset_closes (h : s.Accepts Cmd.fioGroupReset rq) (hn : rq.u8 0 = n.val) (hf : s.dio.field.get n = f)
    (tripped : f.fuse = true) (waited : f.fuseAt + sec 1 ≤ s.dio.clock) :
    exec (.fioGroupReset rq) s = .next (State.answered
      ((s.setField n fun f => { f with fuse := false, fuseWait := true }).setLink n fun k =>
        { k with rearmWait := true, reArm := false, clearRun := 0, record := { k.record with GRP_FUSE := 0#1 } })
      Cmd.fioGroupReset rq []) := by
  refine congrArg Host.Outcome.next (h.done rfl ?_)
  simp only [asFin_of_eq_val hn]
  exact (refuseIf_of_false (by simp [hf, tripped])).trans (refuseIf_of_false (by simp [hf, waited]))

theorem exec_fioGroupReset_without_trip (h : s.Accepts Cmd.fioGroupReset rq) (hn : rq.u8 0 = n.val) (hf : s.dio.field.get n = f)
    (closed : f.fuse = false) :
    exec (.fioGroupReset rq) s = .next ((s.receive rq).refuse Cmd.fioGroupReset rq 0x0705 n.val 0) := by
  refine congrArg Host.Outcome.next (h.refused rfl ?_)
  simp only [asFin_of_eq_val hn]
  exact refuseIf_of_true (by simp [hf, closed])

theorem exec_fioGroupReset_too_early (h : s.Accepts Cmd.fioGroupReset rq) (hn : rq.u8 0 = n.val) (hf : s.dio.field.get n = f)
    (tripped : f.fuse = true) (early : s.dio.clock < f.fuseAt + sec 1) :
    exec (.fioGroupReset rq) s = .next ((s.receive rq).refuse Cmd.fioGroupReset rq 0x0706 n.val 0) := by
  refine congrArg Host.Outcome.next (h.refused rfl ?_)
  simp only [asFin_of_eq_val hn]
  exact (refuseIf_of_false (by simp [hf, tripped])).trans (refuseIf_of_true (by simp [hf, early]))

end GroupCommands

/-- Settles O26: each command that passes the mailbox layer names its channel or its group, and ends in its effect or in the refusal of the
channel's descriptor, of the fuse or of the latch. That a clear leaves the time of the group's last link loss as it is, is the model's choice
(log 120). -/
theorem digitalCommandsAnswer : Obligations.DigitalCommandsAnswer := by
  refine ⟨fun s rq c h hc => ?set, fun _ _ _ => exec_fioDioGet_answers_descriptor, fun _ _ _ _ => exec_fioDioStatus_answers_status,
    fun _ _ _ _ => exec_fioGroupStatus_answers_status, fun _ _ _ _ => exec_fioGroupReset_closes,
    fun s rq n f h hn hf refused => ?resetRefused, fun _ _ _ => exec_fioDioUnlatch_releases,
    fun s rq c h hc refused => ?unlatchRefused, fun _ _ _ => exec_fioDioClear_one, fun _ _ => exec_fioDioClear_every⟩
  case set =>
    split
    case isTrue ok => exact exec_fioDioSet_writes h hc ok
    case isFalse bad => exact exec_fioDioSet_refuses h hc (Bool.eq_false_iff.mpr bad)
  case resetRefused =>
    split
    case isTrue tripped => exact exec_fioGroupReset_too_early h hn hf tripped (refused.resolve_left (by simp [tripped]))
    case isFalse closed => exact exec_fioGroupReset_without_trip h hn hf (Bool.eq_false_iff.mpr closed)
  case unlatchRefused =>
    split
    case isTrue output => exact exec_fioDioUnlatch_without_latch h hc output (refused.resolve_left (not_not_intro output))
    case isFalse other => exact exec_fioDioUnlatch_of_other_mode h hc other

end Sys2Proof.Machine
end

section
/-! PROOFS. What a served request comes to: its command's own meaning, read as one state for every way in which that meaning ends. -/

namespace Sys2Proof.Machine

set_option Elab.async false

/-- The state that a command's own meaning ends in, the mailbox layer passed. -/
def Served.finish (e : CmdInfo) (rq : Request) (s : State) : Served → State
  | .done t body => t.reply e rq 0 body
  | .refuse c inst item => s.refuse e rq c inst item
  | .refuseIn t c inst item body => (t.noteRefusal e rq c inst item).reply e rq c body
  | .later t => t

section Finish

variable {s t : State} {e : CmdInfo} {rq : Request} {c inst item : Nat} {body : List Byte} {k : Served}

@[simp] theorem Served.finish_done : (Served.done t body).finish e rq s = t.reply e rq 0 body := rfl
@[simp] theorem Served.finish_refuse : (Served.refuse c inst item).finish e rq s = s.refuse e rq c inst item := rfl
@[simp] theorem Served.finish_refuseIn :
    (Served.refuseIn t c inst item body).finish e rq s = (t.noteRefusal e rq c inst item).reply e rq c body := rfl
@[simp] theorem Served.finish_later : (Served.later t).finish e rq s = t := rfl

/-- A check refuses, or what follows it is done. -/
@[simp] theorem Served.finish_refuseIf {b : Bool} :
    (refuseIf b c inst k item).finish e rq s = if b = true then s.refuse e rq c inst item else k.finish e rq s := by
  unfold refuseIf
  split <;> rfl

/-- What is permitted goes on, and what is not is refused. -/
theorem Served.finish_refuseIf_not {b : Bool} :
    (refuseIf (!b) c inst k item).finish e rq s = if b = true then k.finish e rq s else s.refuse e rq c inst item := by
  cases b <;> rfl

/-- A request that passes the mailbox layer comes to what its command's own meaning comes to. -/
theorem State.Accepts.finish {own : State → Served} {m : Request → State → State} (h : s.Accepts e rq)
    (hm : m rq (s.receive rq) = serve e rq (s.receive rq) own) : s.command rq m = (own (s.receive rq)).finish e rq (s.receive rq) := by
  rw [h.command_eq, hm, serve, h.check]
  rfl

end Finish

end Sys2Proof.Machine
end


section
/-! PROOFS. What a record and a reply leave of the state: a record changes the recorder and the interrupt that it raises, a reply the host port. -/

namespace Sys2Proof.Machine

set_option Elab.async false

/-- `t` is `s` but for the recorder and the interrupt of a severe record; no number falls, and the count of boots and the holder's stream stand. -/
structure State.Recorded (s t : State) : Prop where
  changes   : ∃ f, t = { s with flow := f } ∨ t = { s.raise irqFlowAlarm with flow := f }
  headSeq   : s.flow.headSeq ≤ t.flow.headSeq
  bootCount : t.flow.bootCount = s.flow.bootCount
  exp       : t.flow.exp = s.flow.exp

/-- `t` is `s` but for the host port, whose RUN_EN and reason stand. -/
def State.Replied (s t : State) : Prop :=
  ∃ h, t = { s with host := h } ∧ h.runEn = s.host.runEn ∧ h.reasonCode = s.host.reasonCode

section Records

variable {s t : State} {n : Note} {ts : BitVec 64} {e : CmdInfo} {rq : Request} {sev code inst old new detail item : Nat} {body : List Byte}

theorem State.Recorded.sys (h : s.Recorded t) : t.sys = s.sys := by
  obtain ⟨f, rfl | rfl⟩ := h.changes <;> rfl

theorem State.Recorded.tm (h : s.Recorded t) : t.tm = s.tm := by
  obtain ⟨f, rfl | rfl⟩ := h.changes <;> rfl

theorem State.Recorded.pr (h : s.Recorded t) : t.pr = s.pr := by
  obtain ⟨f, rfl | rfl⟩ := h.changes <;> rfl

theorem State.Recorded.runEn (h : s.Recorded t) : t.host.runEn = s.host.runEn := by
  obtain ⟨f, rfl | rfl⟩ := h.changes <;> rfl

theorem State.Recorded.reasonCode (h : s.Recorded t) : t.host.reasonCode = s.host.reasonCode := by
  obtain ⟨f, rfl | rfl⟩ := h.changes <;> rfl

theorem State.Recorded.olc (h : s.Recorded t) : t.olc = s.olc := by
  obtain ⟨f, rfl | rfl⟩ := h.changes <;> rfl

theorem State.Recorded.session (h : s.Recorded t) : t.host.session = s.host.session := by
  obtain ⟨f, rfl | rfl⟩ := h.changes <;> rfl

theorem State.Recorded.waiting (h : s.Recorded t) : t.host.waiting = s.host.waiting := by
  obtain ⟨f, rfl | rfl⟩ := h.changes <;> rfl

theorem State.Recorded.orphans (h : s.Recorded t) : t.host.orphans = s.host.orphans := by
  obtain ⟨f, rfl | rfl⟩ := h.changes <;> rfl

theorem State.Recorded.refl (s : State) : s.Recorded s := ⟨⟨s.flow, .inl rfl⟩, Nat.le_refl _, rfl, rfl⟩

/-- A trigger of a flush is one more change of the recorder. -/
theorem State.Recorded.flushed (h : s.Recorded t) : s.Recorded t.flushTrigger := by
  obtain ⟨f, hf⟩ := h.changes
  have same : (t.flow.trigger t.now).bootCount = t.flow.bootCount ∧ (t.flow.trigger t.now).exp = t.flow.exp := by
    unfold Flow.trigger
    split <;> exact ⟨rfl, rfl⟩
  refine ⟨⟨t.flow.trigger t.now, ?_⟩, h.headSeq.trans (Flow.trigger_same t.flow t.now).2.1.ge, same.1.trans h.bootCount, same.2.trans h.exp⟩
  rcases hf with rfl | rfl
  · exact .inl rfl
  · exact .inr rfl

theorem State.stageAt_recorded : s.Recorded (s.stageAt n ts) := by
  unfold State.stageAt
  extract_lets seq r f s1 s2
  have raised : s.Recorded s2 := by
    show s.Recorded (if 4 ≤ n.sev then s1.raise irqFlowAlarm else s1)
    split
    · exact ⟨⟨s1.flow, .inr rfl⟩, Nat.le_succ _, rfl, rfl⟩
    · exact ⟨⟨s1.flow, .inl rfl⟩, Nat.le_succ _, rfl, rfl⟩
  split
  · exact raised.flushed
  · exact raised

theorem State.recordAt_recorded : s.Recorded (s.recordAt n ts) := by
  unfold State.recordAt
  split
  · exact State.stageAt_recorded
  · exact ⟨⟨_, .inl rfl⟩, Nat.le_refl _, rfl, rfl⟩

theorem State.record_recorded : s.Recorded (s.record n) := State.recordAt_recorded

theorem State.event_recorded : s.Recorded (s.event sev code inst old new detail) := State.recordAt_recorded

/-- A refusal is recorded where its command changes state. -/
theorem State.noteRefusal_recorded : s.Recorded (s.noteRefusal e rq code inst item) := by
  unfold State.noteRefusal
  split
  · exact State.Recorded.refl s
  · exact State.recordAt_recorded

theorem State.reply_replied : s.Replied (s.reply e rq code body) := by
  unfold State.reply State.deliver
  split
  · exact ⟨_, rfl, rfl, rfl⟩
  · dsimp only
    split
    · exact ⟨_, rfl, rfl, rfl⟩
    · split <;> exact ⟨_, rfl, rfl, rfl⟩

theorem State.Replied.sys (h : s.Replied t) : t.sys = s.sys := by
  obtain ⟨_, rfl, _⟩ := h
  rfl

theorem State.Replied.runEn (h : s.Replied t) : t.host.runEn = s.host.runEn := by
  obtain ⟨_, rfl, runEn, _⟩ := h
  exact runEn

theorem State.Replied.reasonCode (h : s.Replied t) : t.host.reasonCode = s.host.reasonCode := by
  obtain ⟨_, rfl, _, code⟩ := h
  exact code

end Records

end Sys2Proof.Machine
end
section
/-! PROOFS. The current-loop channels (chapter 12): their commands and trims, and the events of the comparison, NE 43 and the field side. -/

namespace Sys2Proof.Machine

set_option Elab.async false

section AnalogueCommands

variable {s : State} {rq : Request} {c : Fin 16}

/-! ### Descriptors and the status of a channel (R292, R293) -/

theorem exec_fioAioSet_accepted (h : s.Accepts Cmd.fioAioSet rq) (hc : (AioDesc.ofBytes rq.payload).CH_ID.toNat = c.val) :
    exec (.fioAioSet rq) s = .next (
      if (AioDesc.ofBytes rq.payload).ok = true then
        State.answered (s.setAio c fun a => { a with desc := AioDesc.ofBytes rq.payload }) Cmd.fioAioSet rq []
      else (s.receive rq).refuse Cmd.fioAioSet rq 0x0701 c.val 0) := by
  refine congrArg Host.Outcome.next ((h.finish rfl).trans ?_)
  simp only [asFin_of_eq_val hc]
  exact Served.finish_refuseIf_not

theorem exec_fioAioGet_answers_descriptor (h : s.Accepts Cmd.fioAioGet rq) (hc : rq.u8 0 = c.val) :
    exec (.fioAioGet rq) s = .next (s.answered Cmd.fioAioGet rq { (s.aio.get c).desc with CH_ID := BitVec.ofNat 8 c.val }.toBytes) := by
  refine congrArg Host.Outcome.next (h.done rfl ?_)
  simp only [asFin_of_eq_val hc, State.receive_aio]

theorem exec_fioAioStatus_answers_status {a : Aio} (h : s.Accepts Cmd.fioAioStatus rq) (hc : rq.u8 0 = c.val) (ha : s.aio.get c = a) :
    exec (.fioAioStatus rq) s = .next (s.answered Cmd.fioAioStatus rq
      (a.stat.toBytes (FLAGS := a.record.flags) (TRIM_DRIVEN := bit (a.trimPoint != 0#8)) (FACT_CODE := a.factCode.toNat))) := by
  refine congrArg Host.Outcome.next (h.done rfl ?_)
  simp only [asFin_of_eq_val hc, State.receive_aio, ha]

/-! ### Trims (R282, R294) -/

/-- A current given in nA lies in its window, given in µA. -/
theorem inWindow_iff (lo n hi : Nat) : inWindow lo n hi = true ↔ 1000 * lo ≤ n ∧ n ≤ 1000 * hi := by
  simp [inWindow, between]

/-- The integrator trim of a path that FIO_AIO_TRIM_SET stores. -/
def Aio.setTrim (a : Aio) (path : Nat) (trim : Int × Int) (ts : BitVec 64) : Aio :=
  if path = 1 then
    { a with trimOut := { a.trimOut with INT_VALID := 1#1, GAIN_PPM := BitVec.ofInt 32 trim.1, OFS_NA := BitVec.ofInt 32 trim.2, INT_TS := ts },
             trimNew := true }
  else { a with trimIn := { a.trimIn with INT_VALID := 1#1, GAIN_PPM := BitVec.ofInt 32 trim.1, OFS_NA := BitVec.ofInt 32 trim.2, INT_TS := ts } }

/-- An accepted FIO_AIO_TRIM_SET of a path that exists: the mode, then the windows of both points, then the trim's own bounds. -/
theorem exec_fioAioTrimSet_accepted {n1 t1 n2 t2 : Nat} (h : s.Accepts Cmd.fioAioTrimSet rq) (hc : rq.u8 0 = c.val) (path : rq.u8 1 ≤ 1)
    (hn1 : rq.u32 4 = n1) (ht1 : rq.u32 8 = t1) (hn2 : rq.u32 12 = n2) (ht2 : rq.u32 16 = t2) :
    exec (.fioAioTrimSet rq) s = .next (
      if ¬ pathFits (s.aio.get c).act.MODE (rq.u8 1) = true then (s.receive rq).refuse Cmd.fioAioTrimSet rq 0x0707 c.val 0
      else if ¬ ((3000000 ≤ n1 ∧ n1 ≤ 5000000 ∧ 3000000 ≤ t1 ∧ t1 ≤ 5000000) ∧ 19000000 ≤ n2 ∧ n2 ≤ 22000000 ∧ 19000000 ≤ t2 ∧ t2 ≤ 22000000) then
        (s.receive rq).refuse Cmd.fioAioTrimSet rq 0x0708 c.val 0
      else if 20000 < (trimOf n1 t1 n2 t2).1.natAbs ∨ 200000 < (trimOf n1 t1 n2 t2).2.natAbs then
        (s.receive rq).refuse Cmd.fioAioTrimSet rq 0x0709 c.val 0
      else State.answered (s.setAio c fun a => a.setTrim (rq.u8 1) (trimOf n1 t1 n2 t2) s.ts) Cmd.fioAioTrimSet rq []) := by
  subst hn1 ht1 hn2 ht2
  refine congrArg Host.Outcome.next ((h.finish rfl).trans ?_)
  have windows : (!inWindow 3000 (rq.u32 4) 5000 || !inWindow 3000 (rq.u32 8) 5000 || !inWindow 19000 (rq.u32 12) 22000
      || !inWindow 19000 (rq.u32 16) 22000) = true ↔
      ¬ ((3000000 ≤ rq.u32 4 ∧ rq.u32 4 ≤ 5000000 ∧ 3000000 ≤ rq.u32 8 ∧ rq.u32 8 ≤ 5000000) ∧
        19000000 ≤ rq.u32 12 ∧ rq.u32 12 ≤ 22000000 ∧ 19000000 ≤ rq.u32 16 ∧ rq.u32 16 ≤ 22000000) := by
    simp only [Bool.or_eq_true, Bool.not_eq_true', ← Bool.not_eq_true, inWindow_iff]
    omega
  have existing : decide (1 < rq.u8 1) = false := decide_eq_false (by omega)
  simp only [asFin_of_eq_val hc, Served.finish_refuseIf, existing, windows, State.receive_aio, Bool.not_eq_true', Bool.not_eq_true,
    Bool.or_eq_true, decide_eq_true_eq, Served.finish_done, reduceCtorEq, if_false]
  rfl

theorem exec_fioAioTrimGet_answers_trim {a : Aio} (h : s.Accepts Cmd.fioAioTrimGet rq) (hc : rq.u8 0 = c.val) (path : rq.u8 1 ≤ 1)
    (ha : s.aio.get c = a) :
    exec (.fioAioTrimGet rq) s = .next (s.answered Cmd.fioAioTrimGet rq
      { (if rq.u8 1 = 1 then a.trimOut else a.trimIn) with CH_ID := BitVec.ofNat 8 c.val, PATH := BitVec.ofNat 8 (rq.u8 1) }.toBytes) := by
  refine congrArg Host.Outcome.next (h.done rfl ?_)
  simp only [asFin_of_eq_val hc, State.receive_aio, ha]
  exact refuseIf_of_false (decide_eq_false (by omega))

theorem exec_fioAioTrimDrive_accepted (h : s.Accepts Cmd.fioAioTrimDrive rq) (hc : rq.u8 0 = c.val) (point : rq.u8 1 ≤ 2) :
    exec (.fioAioTrimDrive rq) s = .next (
      if (s.aio.get c).act.MODE = 3#8 then
        State.reply (((s.receive rq).setAio c fun a => { a with trimPoint := BitVec.ofNat 8 (rq.u8 1), trimNew := false }).rearmLink (aioLink c))
          Cmd.fioAioTrimDrive rq 0 []
      else (s.receive rq).refuse Cmd.fioAioTrimDrive rq 0x0707 c.val 0) := by
  refine congrArg Host.Outcome.next ((h.finish rfl).trans ?_)
  have existing : decide (2 < rq.u8 1) = false := decide_eq_false (by omega)
  simp only [asFin_of_eq_val hc, Served.finish_refuseIf, existing, State.receive_aio, reduceCtorEq, if_false, bne_iff_ne, ite_not]
  rfl

theorem exec_fioAioTrimRemove_removes (h : s.Accepts Cmd.fioAioTrimRemove rq) (hc : rq.u8 0 = c.val) (path : rq.u8 1 ≤ 1) :
    exec (.fioAioTrimRemove rq) s = .next (State.answered (s.setAio c fun a =>
      if rq.u8 1 = 1 then { a with trimOut := { a.trimOut with INT_VALID := 0#1, GAIN_PPM := 0#32, OFS_NA := 0#32, INT_TS := 0#64 } }
      else { a with trimIn := { a.trimIn with INT_VALID := 0#1, GAIN_PPM := 0#32, OFS_NA := 0#32, INT_TS := 0#64 } }) Cmd.fioAioTrimRemove rq []) := by
  refine congrArg Host.Outcome.next (h.done rfl ?_)
  simp only [asFin_of_eq_val hc]
  exact refuseIf_of_false (decide_eq_false (by omega))

/-! ### The clear of counters (R293) -/

theorem exec_fioAioClear_one (h : s.Accepts Cmd.fioAioClear rq) (hc : rq.u8 0 = c.val) :
    exec (.fioAioClear rq) s = .next (State.answered (s.setAio c fun a => { a with stat := AioStat.dflt }) Cmd.fioAioClear rq []) := by
  refine congrArg Host.Outcome.next (h.done rfl ((if_neg (by omega)).trans ?_))
  simp only [asFin_of_eq_val hc]
  rfl

theorem exec_fioAioClear_every (h : s.Accepts Cmd.fioAioClear rq) (every : rq.u8 0 = 0xFF) :
    exec (.fioAioClear rq) s = .next (State.answered { s with aio := s.aio.map fun (a : Aio) => { a with stat := AioStat.dflt } } Cmd.fioAioClear rq []) :=
  congrArg Host.Outcome.next (h.done rfl (if_pos every))

end AnalogueCommands

/-- Settles O28: each command that passes the mailbox layer names its channel, and ends in its effect or in the first refusal that its channel's
mode, its windows or its bounds give. That the windows hold the nominal and the true value alike, and that TRIM_DRIVE re-arms its link, are the
model's choices (logs 123 and 46). -/
theorem analogueCommandsAnswer : Obligations.AnalogueCommandsAnswer :=
  ⟨fun _ _ _ => exec_fioAioSet_accepted, fun _ _ _ => exec_fioAioGet_answers_descriptor, fun _ _ _ _ => exec_fioAioStatus_answers_status,
    fun _ _ _ _ _ _ _ => exec_fioAioTrimSet_accepted, fun _ _ _ _ => exec_fioAioTrimGet_answers_trim,
    fun _ _ _ => exec_fioAioTrimDrive_accepted, fun _ _ _ => exec_fioAioTrimRemove_removes, fun _ _ _ => exec_fioAioClear_one,
    fun _ _ => exec_fioAioClear_every⟩

/-! ### The comparison of command and readback (R287) -/

section AnalogueEvents

variable {s : State} {c : Fin 16}

theorem exec_aioComplianceCompare_decides {a b : Aio} {sev : Option Nat} (up : s.logicUp = true) (output : s.aioMode c = 3)
    (due : s.since (s.aio.get c).cmpAt (ms 1) = true) (read : (s.aio.get c).sumBack.2 ≠ 0) (ha : s.aio.get c = a)
    (decided : (a.judge s.now).decide287 s.now = (b, sev)) :
    exec (.aioComplianceCompare c) s = .next (match (generalizing := false) sev with
      | some v => State.event { s with aio := put s.aio c b } v 0x0781 (0x20 + c.val) a.record.flags b.record.flags
      | none => { s with aio := put s.aio c b }) := by
  subst ha
  refine congrArg Host.Outcome.next ((if_pos (by simp [up, output, due, read])).trans ?_)
  simp only [decided] <;> rfl

/-- A timer that runs since a known instant is as old as that instant. -/
theorem aged_of_le {t0 : Option Nat} {now t d : Nat} (runs : t0 = some t) (old : t + d ≤ now) : aged t0 now d = true := by
  subst runs; exact decide_eq_true old

theorem Aio.decide287_of_open {a : Aio} {now t : Nat} (opens : a.openSince = some t) (old : t + ms 10 ≤ now) (fresh : a.record.OPEN_LOOP = 0#1) :
    a.decide287 now = ({ a with stat := { a.stat with OPEN_COUNT := sat a.stat.OPEN_COUNT } }.seal false
      { a.record with OPEN_LOOP := 1#1, AO_COMPLIANCE := 0#1 }, some 4) :=
  if_pos (by simp [aged_of_le opens old, fresh])

/-! ### NE 43 and the faults of the field side (R279, R285) -/

theorem exec_ne43FailTimer_classifies {t : Bool × Nat} (up : s.logicUp = true) (measured : (s.aio.get c).record.MARKER = 0#1)
    (input : s.aioMode c = 1 ∨ s.aioMode c = 2) (beyond : (s.aio.get c).failSince = some t) :
    exec (.ne43FailTimer c) s = .next (s.setAio c fun a => a.seal false
      (a.record.classify a.record.CODE.toNat s.now a.act.FAIL_MS.toNat (some t))) := by
  refine congrArg Host.Outcome.next ((if_pos (by simp [up, measured, input])).trans ?_)
  simp only [State.setAio, upd, beyond]

theorem exec_loopShortDetect_sets (up : s.fieldUp = true) (powered : s.fieldMode c = 1) :
    exec (.loopShortDetect c) s = .next (s.setAio c fun a => { a with loopShort := true }) :=
  congrArg Host.Outcome.next (if_pos (by simp [up, powered]))

theorem exec_srcFaultShutdown_sets (up : s.fieldUp = true) (output : s.fieldMode c = 3) :
    exec (.srcFaultShutdown c) s = .next ((s.setAio c fun a => { a with srcFault := true }).setSources (aioLink c)) :=
  congrArg Host.Outcome.next (if_pos (by simp [up, output]))

theorem exec_adcSelfCheckFail_sets (up : s.fieldUp = true) :
    exec (.adcSelfCheckFail c) s = .next (s.setAio c fun a => { a with adcFault := true }) :=
  congrArg Host.Outcome.next (if_pos up)

end AnalogueEvents

/-- Settles O29: each event whose condition holds ends in its effect. That the error and the open loop are timed from one comparison to the next is
the model's choice (log 124). -/
theorem analogueEventsMove : Obligations.AnalogueEventsMove :=
  ⟨fun _ _ _ _ _ => exec_aioComplianceCompare_decides, fun _ _ _ => Aio.decide287_of_open, fun _ _ _ => exec_ne43FailTimer_classifies,
    fun _ _ => exec_loopShortDetect_sets, fun _ _ => exec_srcFaultShutdown_sets, fun _ _ => exec_adcSelfCheckFail_sets⟩

end Sys2Proof.Machine
end

section
/-! PROOFS. The motion commands (chapter 13): descriptors of axes and encoders, segment tables, the status and the clear of counters. -/

namespace Sys2Proof.Machine

set_option Elab.async false

@[simp] theorem State.receive_mx (s : State) (rq : Request) (n : Fin 8) : (s.receive rq).mx n = s.mx n := rfl
@[simp] theorem State.receive_tableInUse (s : State) (rq : Request) (k : Fin 16) : (s.receive rq).tableInUse k = s.tableInUse k := rfl

section MotionCommands

variable {s : State} {rq : Request} {n : Fin 8}

/-! ### Descriptors (R317, R318) -/

theorem exec_motAxisSet_accepted (h : s.Accepts Cmd.motAxisSet rq) (hn : (AxisDesc.ofBytes rq.payload).AXIS_ID.toNat = n.val) :
    exec (.motAxisSet rq) s = .next (
      if (AxisDesc.ofBytes rq.payload).ok = true then
        State.answered (s.setMx n fun x => { x with desc := AxisDesc.ofBytes rq.payload }) Cmd.motAxisSet rq []
      else (s.receive rq).refuse Cmd.motAxisSet rq 0x0901 n.val 0) := by
  refine congrArg Host.Outcome.next ((h.finish rfl).trans ?_)
  simp only [asFin_of_eq_val hn]
  exact Served.finish_refuseIf_not

theorem exec_motAxisGet_answers_descriptor (h : s.Accepts Cmd.motAxisGet rq) (hn : rq.u8 0 = n.val) :
    exec (.motAxisGet rq) s = .next (s.answered Cmd.motAxisGet rq { (s.mx n).desc with AXIS_ID := BitVec.ofNat 8 n.val }.toBytes) := by
  refine congrArg Host.Outcome.next (h.done rfl ?_)
  simp only [asFin_of_eq_val hn, State.receive_mx]

theorem exec_motEncSet_accepted (h : s.Accepts Cmd.motEncSet rq) (hn : (EncDesc.ofBytes rq.payload).ENC_ID.toNat = n.val) :
    exec (.motEncSet rq) s = .next (
      if (EncDesc.ofBytes rq.payload).ok = true then
        State.answered { s with mot := { s.mot with enc := upd s.mot.enc n fun e => { e with desc := EncDesc.ofBytes rq.payload } } } Cmd.motEncSet rq []
      else (s.receive rq).refuse Cmd.motEncSet rq 0x0901 n.val 0) := by
  refine congrArg Host.Outcome.next ((h.finish rfl).trans ?_)
  simp only [asFin_of_eq_val hn]
  exact Served.finish_refuseIf_not

theorem exec_motEncGet_answers_descriptor (h : s.Accepts Cmd.motEncGet rq) (hn : rq.u8 0 = n.val) :
    exec (.motEncGet rq) s = .next (s.answered Cmd.motEncGet rq { (s.mot.enc.get n).desc with ENC_ID := BitVec.ofNat 8 n.val }.toBytes) := by
  refine congrArg Host.Outcome.next (h.done rfl ?_)
  simp only [asFin_of_eq_val hn, State.receive_mot]

/-! ### Segment tables (R303) -/

theorem exec_motTableLoad_accepted {k : Fin 16} {t : SegTable} (h : s.Accepts Cmd.motTableLoad rq) (ht : SegTable.ofBytes rq.payload = t)
    (hk : t.head.TABLE_ID.toNat = k.val) :
    exec (.motTableLoad rq) s = .next (
      if t.ok = false then (s.receive rq).refuse Cmd.motTableLoad rq 0x0901 k.val 0
      else if s.tableInUse k = true then (s.receive rq).refuse Cmd.motTableLoad rq 0x0903 k.val 0
      else State.answered { s with mot := { s.mot with table := put s.mot.table k t } } Cmd.motTableLoad rq []) := by
  subst ht
  refine congrArg Host.Outcome.next ((h.finish rfl).trans ?_)
  simp only [asFin_of_eq_val hk, Served.finish_refuseIf, State.receive_tableInUse, Bool.not_eq_true']
  rfl

theorem exec_motTableRead_answers_table {k : Fin 16} {t : SegTable} (h : s.Accepts Cmd.motTableRead rq) (hk : rq.u8 0 = k.val)
    (ht : s.mot.table.get k = t) :
    exec (.motTableRead rq) s = .next (s.answered Cmd.motTableRead rq { t with head := { t.head with TABLE_ID := BitVec.ofNat 8 k.val } }.toBytes) := by
  refine congrArg Host.Outcome.next (h.done rfl ?_)
  simp only [asFin_of_eq_val hk, State.receive_mot, ht]

/-! ### The status and the clear of counters (R317, R320) -/

theorem exec_motStatus_answers_status {u : State} (h : s.Accepts Cmd.motStatus rq) (hn : rq.u8 0 = n.val) (hu : (s.receive rq).advanceAxes = u) :
    exec (.motStatus rq) s = .next (u.reply Cmd.motStatus rq 0 ((u.axisRecord n).toBytes ++ (u.mx n).count.toBytes)) := by
  refine congrArg Host.Outcome.next (h.done rfl ?_)
  simp only [asFin_of_eq_val hn, hu]

theorem exec_motClear_one (h : s.Accepts Cmd.motClear rq) (hn : rq.u8 0 = n.val) :
    exec (.motClear rq) s = .next (State.answered (s.clearMotion n) Cmd.motClear rq []) := by
  refine congrArg Host.Outcome.next (h.done rfl ((if_neg (by omega)).trans ?_))
  simp only [asFin_of_eq_val hn]
  rfl

theorem exec_motClear_every (h : s.Accepts Cmd.motClear rq) (every : rq.u8 0 = 0xFF) :
    exec (.motClear rq) s = .next (State.reply ((idx 8).foldl State.clearMotion (s.receive rq)) Cmd.motClear rq 0 []) :=
  congrArg Host.Outcome.next (h.done rfl (if_pos every))

end MotionCommands

/-- Settles O30: each command that passes the mailbox layer names its axis, encoder or table, and ends in its effect or in the first refusal that
its fields or its table's use give. That MOT_CLEAR of an axis clears QUAD_ERR of its encoder is the model's choice (log 47). -/
theorem motionCommandsAnswer : Obligations.MotionCommandsAnswer :=
  ⟨fun _ _ _ => exec_motAxisSet_accepted, fun _ _ _ => exec_motAxisGet_answers_descriptor, fun _ _ _ => exec_motEncSet_accepted,
    fun _ _ _ => exec_motEncGet_answers_descriptor, fun _ _ _ _ => exec_motTableLoad_accepted, fun _ _ _ _ => exec_motTableRead_answers_table,
    fun _ _ _ _ => exec_motStatus_answers_status, fun _ _ _ => exec_motClear_one, fun _ _ => exec_motClear_every⟩

end Sys2Proof.Machine
end

section
/-! PROOFS. Motion (chapter 13): the motion tick and its requests, the ends of moves, tables, gears and homing, and the drive link. -/

namespace Sys2Proof.Machine

set_option Elab.async false

/-! ### The motion tick and its requests (R298 to R300) -/

section Requests

variable {s : State} {n : Fin 8} {cmd : AxisCmd}

theorem exec_axisRequestTake_ticks {counts : Vector (BitVec 32) 8} {u : State} (serving : s.sys.phase = .serving) (powered : s.pow.pfStage = .idle)
    (tick : s.now % us 10 = 0)
    (hu : { s with mot := { s.mot with enc := Vector.ofFn fun (k : Fin 8) => (s.mot.enc.get k).sample (counts.get k) } } = u) :
    exec (.axisRequestTake counts) s =
      .next (((idx 8).foldl State.axisTick ((idx 8).foldl State.checkRange u.advanceAxes).writeMotion).sampleAxes counts) := by
  subst hu
  exact congrArg Host.Outcome.next (if_pos (by simp [serving, powered, tick]))

/-- A request is new where its CMD_SEQ differs from the last one taken, on the module that drives the axis. -/
structure State.NewRequest (s : State) (n : Fin 8) : Prop where
  takes : s.takesMotion n = true
  fresh : (s.axisCmd n).CMD_SEQ ≠ (s.mx n).lastSeq

/-- A new request is acknowledged, and then refused with its code or applied. -/
theorem State.NewRequest.takeRequest_eq (h : s.NewRequest n) :
    s.takeRequest n =
      let u := s.setMx n fun x => { x with lastSeq := (s.axisCmd n).CMD_SEQ, stat := { x.stat with TARGET_REFUSED := 0#1 } }
      match s.requestCode n (s.axisCmd n) with
      | some c => u.setMx n fun x => x.refuse c
      | none => u.applyRequest n (s.axisCmd n) :=
  if_neg (by simp [h.takes, h.fresh])

/-- A refused request leaves its acknowledgement and its refusal on the axis, and nothing else of it. -/
theorem State.NewRequest.mx_of_refused {c : Nat} (h : s.NewRequest n) (refused : s.requestCode n (s.axisCmd n) = some c) :
    (s.takeRequest n).mx n =
      Axis.refuse { s.mx n with lastSeq := (s.axisCmd n).CMD_SEQ, stat := { (s.mx n).stat with TARGET_REFUSED := 0#1 } } c := by
  simp only [h.takeRequest_eq, refused, State.mx_setMx]

theorem State.NewRequest.takeRequest_of_permitted (h : s.NewRequest n) (permitted : s.requestCode n (s.axisCmd n) = none) :
    s.takeRequest n = State.applyRequest (s.setMx n fun x => { x with lastSeq := (s.axisCmd n).CMD_SEQ, stat := { x.stat with TARGET_REFUSED := 0#1 } })
      n (s.axisCmd n) := by
  simp only [h.takeRequest_eq, permitted]

theorem State.takeRequest_of_taken (taken : (s.axisCmd n).CMD_SEQ = (s.mx n).lastSeq) : s.takeRequest n = s :=
  if_pos (by simp [taken])

/-- RAMP_STOP, STOP_NOW and DISABLE are never refused. -/
theorem State.requestCode_of_stop (stop : cmd.MODE_REQ = 1#8 ∨ cmd.MODE_REQ = 2#8 ∨ cmd.MODE_REQ = 9#8) : s.requestCode n cmd = none :=
  if_pos (by rcases stop with m | m | m <;> simp [m])

/-- Any other request passes the kill of T8, the brake test and EN_ON in that order. -/
theorem State.requestCode_of_motion (least : 3 ≤ cmd.MODE_REQ.toNat) (most : cmd.MODE_REQ.toNat ≤ 8) :
    (s.isl.killed.get 8 = true → s.requestCode n cmd = some 0x0908) ∧
    (s.isl.killed.get 8 = false → (s.mx n).btHold = true → s.requestCode n cmd = some 0x0909) ∧
    (s.isl.killed.get 8 = false → (s.mx n).btHold = false → cmd.MODE_REQ ≠ 8#8 → (s.mx n).stat.EN_ON = 0#1 → s.requestCode n cmd = some 0x090A) := by
  have motion : ¬ ((decide (cmd.MODE_REQ.toNat = 0) || decide (cmd.MODE_REQ.toNat = 1) || decide (cmd.MODE_REQ.toNat = 2)
      || decide (cmd.MODE_REQ.toNat = 9) || decide (9 < cmd.MODE_REQ.toNat)) = true) := by
    simp only [Bool.or_eq_true, decide_eq_true_eq]; omega
  refine ⟨fun killed => ?_, fun alive held => ?_, fun alive free other off => ?_⟩
  · exact (if_neg motion).trans (if_pos killed)
  · exact (if_neg motion).trans ((if_neg (by simp [alive])).trans (if_pos held))
  · have enabled : cmd.MODE_REQ.toNat ≠ 8 := fun e => other (BitVec.eq_of_toNat_eq e)
    exact (if_neg motion).trans ((if_neg (by simp [alive])).trans ((if_neg (by simp [free])).trans
      ((if_neg enabled).trans (if_pos (by simp [off])))))

/-- Without a brake test, a stop is a stop of its axis alone. -/
theorem State.stopAxis_of_free {f : Axis → Axis} (free : (s.mx n).btHold = false) : s.stopAxis n f = s.setMx n f :=
  if_neg (by simp [free])

theorem State.applyRequest_of_stop (free : (s.mx n).btHold = false) :
    (cmd.MODE_REQ = 1#8 → s.applyRequest n cmd = s.setMx n fun x => x.rampDown x.desc.DEC.toNat) ∧
    (cmd.MODE_REQ = 2#8 → s.applyRequest n cmd = s.setMx n fun x => x.stopNow s.ts) ∧
    (cmd.MODE_REQ = 9#8 → s.applyRequest n cmd = s.setMx n fun x => (x.stopNow s.ts).disable) := by
  refine ⟨fun m => ?_, fun m => ?_, fun m => ?_⟩ <;> simp [State.applyRequest, m, State.stopAxis_of_free free]

/-- STOP_NOW of an axis that has a mode ends it at once; the position is lost above VEL_START alone (R314). -/
theorem Axis.stopNow_of_mode {x : Axis} {ts : BitVec 64} (enabled : x.state ≠ .disabled) (busy : x.state ≠ .idle) :
    (x.stopNow ts).state = .idle ∧ (x.stopNow ts).vel = 0 ∧ (x.stopNow ts).resWanted = none ∧
    (x.stopNow ts).count.IMMEDIATE_STOPS = sat x.count.IMMEDIATE_STOPS ∧ (x.stopNow ts).count.LAST_STOP_TS = ts ∧
    (if x.desc.VEL_START.toNat * velUnit < x.vel.natAbs then
      (x.stopNow ts).stat.POSITION_UNCERTAIN = 1#1 ∧ (x.stopNow ts).stat.HOMED = 0#1 ∧ (x.stopNow ts).count.LOST_COUNT = sat x.count.LOST_COUNT
     else
      (x.stopNow ts).stat.POSITION_UNCERTAIN = x.stat.POSITION_UNCERTAIN ∧ (x.stopNow ts).stat.HOMED = x.stat.HOMED ∧
      (x.stopNow ts).count.LOST_COUNT = x.count.LOST_COUNT) := by
  have moving : ¬ ((x.state == .disabled || (x.state == .idle && !x.btHold)) = true) := by simp [enabled, busy]
  rw [Axis.stopNow, if_neg moving]
  refine ⟨rfl, rfl, rfl, rfl, rfl, ?_⟩
  split
  case isTrue fast => exact ⟨if_pos fast, if_pos fast, if_pos fast⟩
  case isFalse slow => exact ⟨if_neg slow, if_neg slow, if_neg slow⟩

end Requests

/-- Settles O31: the tick is one equation, a request's code is found before it acts, and a stop is free of every code. -/
theorem motionRequestsAreTakenOrRefused : Obligations.MotionRequestsAreTakenOrRefused := by
  refine ⟨fun _ _ _ => exec_axisRequestTake_ticks, fun s n c takes fresh refused => ?refused,
    fun _ _ takes fresh => State.NewRequest.takeRequest_of_permitted ⟨takes, fresh⟩, fun _ _ => State.takeRequest_of_taken,
    fun _ _ _ => State.requestCode_of_stop, fun _ _ _ => State.requestCode_of_motion, fun _ _ => Axis.stopNow_of_mode,
    fun _ _ _ => State.applyRequest_of_stop⟩
  case refused =>
    rw [State.NewRequest.mx_of_refused ⟨takes, fresh⟩ refused]
    exact ⟨rfl, rfl, rfl, rfl, rfl, rfl, rfl⟩

/-! ### Ends of moves and tables (R300 to R304) -/

section Ends

variable {s u : State} {n : Fin 8}

theorem exec_enDelayExpire_enables {t : Nat} (run : s.inRun = true) (en : (s.mx n).enAt = some t)
    (passed : t + us (s.mx n).desc.EN_DELAY_US.toNat ≤ s.now) :
    exec (.enDelayExpire n) s = .next (s.setMx n fun x =>
      { x with enAt := none, state := if x.state = .disabled then .idle else x.state, stat := { x.stat with EN_ON := 1#1 } }) := by
  refine congrArg Host.Outcome.next ((if_pos (by simp [run, State.ran_of en passed])).trans ?_)
  simp only [beq_iff_eq]

/-- An axis that has no speed is at rest. -/
theorem Axis.atRest_of_vel {x : Axis} (h : x.vel = 0) : x.atRest = true := by simp [Axis.atRest, h]

theorem exec_reversalRest_clears (run : s.inRun = true) (hu : s.advanceAxes = u) (mode : (u.mx n).state = .position) (rest : (u.mx n).vel = 0)
    (reversing : (u.mx n).stat.REVERSING = 1#1) :
    exec (.reversalRest n) s = .next (u.setMx n fun x => { x with stat := { x.stat with REVERSING := 0#1 } }) := by
  subst hu
  exact congrArg Host.Outcome.next (if_pos (by simp [run, mode, Axis.atRest_of_vel rest, reversing]))

theorem exec_moveArrival_arrives (run : s.inRun = true) (hu : s.advanceAxes = u) (mode : (u.mx n).state = .position) (rest : (u.mx n).vel = 0)
    (forward : (u.mx n).stat.REVERSING = 0#1) (there : (u.mx n).exact = (u.mx n).target * stepUnit) :
    exec (.moveArrival n) s = .next (u.setMx n fun x => { x with stat := { x.stat with AT_TARGET := 1#1 } }) := by
  subst hu
  exact congrArg Host.Outcome.next (if_pos (by simp [run, mode, Axis.atRest_of_vel rest, forward, there]))

theorem exec_axisRestReached_of_stopping (run : s.inRun = true) (hu : s.advanceAxes = u) (mode : (u.mx n).state = .stopping)
    (rest : (u.mx n).vel = 0) :
    exec (.axisRestReached n) s = .next (u.setMx n fun x => { x.endMode with state := .idle }).afterRest := by
  subst hu
  refine congrArg (fun t => Host.Outcome.next (State.afterRest t)) ((if_neg (by simp [run, Axis.atRest_of_vel rest])).trans ?_)
  simp only [mode]

theorem exec_axisRestReached_of_homing {h : Homing} (run : s.inRun = true) (hu : s.advanceAxes = u) (mode : (u.mx n).state = .homing)
    (rest : (u.mx n).vel = 0) (home : (u.mx n).home = some h) (stop : h.phase = .stop) :
    exec (.axisRestReached n) s = .next (u.setMx n fun x => x.homeNext .back s.now).afterRest := by
  subst hu
  refine congrArg (fun t => Host.Outcome.next (State.afterRest t)) ((if_neg (by simp [run, Axis.atRest_of_vel rest])).trans ?_)
  simp only [mode, home, stop]
  rfl

theorem exec_tableSegmentEnd_goes_on {k : Fin 16} {seg at_ : Nat} {start : Int} (run : s.inRun = true) (hu : s.advanceAxes = u)
    (mode : (u.mx n).state = .table) (segment : (u.mx n).tbl = some (k, seg, at_, start)) (ended : at_ + us ((s.mot.table.get k).dur seg) ≤ s.now) :
    exec (.tableSegmentEnd n) s = .next (u.nextSegment n k seg at_ start) := by
  subst hu
  refine congrArg Host.Outcome.next ?_
  simp only [segment]
  exact if_pos (by simp [run, mode, State.since_of ended])

theorem State.nextSegment_of_more {k : Fin 16} {seg at_ : Nat} {start : Int} (more : seg + 1 < (s.mot.table.get k).count) :
    s.nextSegment n k seg at_ start = s.setMx n fun x => { x with tbl := some (k, seg + 1, at_ + us ((s.mot.table.get k).dur seg), start) } :=
  if_pos more

/-! ### Gears and limits (R306, R307, R311) -/

theorem exec_gearRatioChange_applies (run : s.inRun = true) : exec (.gearRatioChange n) s = .next (s.advanceAxes.applyRatio n) :=
  congrArg Host.Outcome.next (if_pos run)

theorem exec_gearLagFault_stops (run : s.inRun = true) (hu : s.advanceAxes = u) (mode : (u.mx n).state = .gear)
    (lags : 256 * (u.mx n).desc.LAG_MAX_FS.toNat < (u.mx n).stat.LAG.toInt.natAbs) :
    exec (.gearLagFault n) s = .next (u.setMx n fun x =>
      { (x.rampDown x.desc.DEC_QUICK.toNat).report 0x0910 with
        stat := { ((x.rampDown x.desc.DEC_QUICK.toNat).report 0x0910).stat with GEAR_FAULT := 1#1 } }) := by
  subst hu
  exact congrArg Host.Outcome.next (if_pos (by simp [run, mode, lags]))

theorem exec_limitTrip_trips {positive : Bool} (run : s.inRun = true) (hu : s.advanceAxes = u) (hit : u.limitHit n positive = true) :
    exec (.limitTrip n positive) s = .next (u.tripLimit n positive) := by
  subst hu
  exact congrArg Host.Outcome.next (if_pos (by simp [run, hit]))

theorem exec_limitRelease_positive {t : Nat} (tripped : (s.mx n).limited true = true) (reads : s.limitReads (s.mx n).desc.LIM_POS_DIO = false)
    (since : (s.mx n).limPos = some t) (stable : t + ms (s.mx n).desc.SW_STABLE_MS.toNat ≤ s.now) :
    exec (.limitRelease n true) s = .next (s.setMx n fun x => { x.setLimited true false with limPos := none }) :=
  congrArg Host.Outcome.next (if_pos (by simp [tripped, Axis.limitDio, reads, State.ran_of since stable]))

theorem exec_limitRelease_negative {t : Nat} (tripped : (s.mx n).limited false = true) (reads : s.limitReads (s.mx n).desc.LIM_NEG_DIO = false)
    (since : (s.mx n).limNeg = some t) (stable : t + ms (s.mx n).desc.SW_STABLE_MS.toNat ≤ s.now) :
    exec (.limitRelease n false) s = .next (s.setMx n fun x => { x.setLimited false false with limNeg := none }) :=
  congrArg Host.Outcome.next (if_pos (by simp [tripped, Axis.limitDio, reads, State.ran_of since stable]))

/-! ### Homing and Z edges (R312, R313, R317) -/

variable {h : Homing}

theorem exec_homeEdgeCapture_of_leave (run : s.inRun = true) (hu : s.advanceAxes = u) (mode : (u.mx n).state = .homing)
    (home : (u.mx n).home = some h) (leave : h.phase = .leave) (off : h.sw = false) (inPhase : h.since ≤ h.edgeAt) (edge : h.edgeAt ≠ h.begun)
    (held : h.edgeAt + ms (u.mx n).desc.SW_STABLE_MS.toNat ≤ s.now) :
    exec (.homeEdgeCapture n) s = .next (u.setMx n fun x => x.homeNext .search s.now) := by
  subst hu
  refine congrArg Host.Outcome.next ?_
  simp only [home, leave]
  refine (if_neg (by simp [run, mode])).trans ((if_neg (by decide)).trans (if_pos ?_))
  simp [HomePhase.awaits, off, inPhase, edge, State.since_of held]

/-- The axis whose captured position has become HOME_POS. -/
def Axis.homedAt (x : Axis) (p : Int) : Axis :=
  { x.endMode with
    state := .idle, pos := x.pos - p + x.desc.HOME_POS.toInt, frac := 0, stat := { x.endMode.stat with HOMED := 1#1, POSITION_UNCERTAIN := 0#1 },
    count := { x.count with HOME_COUNT := sat x.count.HOME_COUNT } }

theorem exec_homeComplete_homes {p : Int} (run : s.inRun = true) (hu : s.advanceAxes = u) (rest : (u.mx n).vel = 0) (home : (u.mx n).home = some h)
    (captured : h.phase = .captured) (capture : h.capture = some p) :
    exec (.homeComplete n) s = .next (u.setMx n fun x => x.homedAt p) := by
  subst hu
  refine congrArg Host.Outcome.next ?_
  simp only [home, capture]
  exact if_pos (by simp [run, captured, Axis.atRest_of_vel rest])

theorem exec_homeTimeout_fails (run : s.inRun = true) (hu : s.advanceAxes = u) (home : (u.mx n).home = some h)
    (ended : h.begun + sec (u.mx n).desc.HOME_TIMEOUT_S.toNat ≤ s.now) :
    exec (.homeTimeout n) s = .next (u.setMx n fun x => x.homeFail 0x090D) := by
  subst hu
  refine congrArg Host.Outcome.next ?_
  simp only [home]
  exact if_pos (by simp [run, State.since_of ended])

/-- The encoder after a Z edge. -/
def Encoder.captureZ (e : Encoder) : Encoder := { e with zCount := e.count, zSeen := true, zSeq := e.zSeq + 1 }

theorem exec_zEdgeCapture_captures {e : Fin 8} (serving : s.sys.phase = .serving) (used : (s.mot.enc.get e).desc.MODE = 1#8) :
    ∃ t : State, exec (.zEdgeCapture e) s = .next t ∧ t.mot.enc = upd s.advanceAxes.mot.enc e Encoder.captureZ :=
  ⟨_, congrArg Host.Outcome.next (if_pos (by simp [serving, used])), rfl⟩

end Ends

/-- Settles O32: each event of a move, a table, a gear, a limit or a homing run ends in its effect once the references stand at now. That a modulo
axis, a table's curve and a limit during homing are read as they are, is the model's choice (logs 126, 127 and 130). -/
theorem movesTablesAndGearsEnd : Obligations.MovesTablesAndGearsEnd := by
  refine ⟨fun _ _ _ => exec_enDelayExpire_enables, fun _ _ _ => exec_reversalRest_clears, fun _ _ _ => exec_moveArrival_arrives,
    fun _ _ _ => exec_axisRestReached_of_stopping, fun _ _ _ _ => exec_axisRestReached_of_homing,
    fun _ _ _ _ _ _ _ => exec_tableSegmentEnd_goes_on, fun _ _ _ _ _ _ => State.nextSegment_of_more, fun _ _ => exec_gearRatioChange_applies,
    fun _ _ _ => exec_gearLagFault_stops, fun _ _ _ _ => exec_limitTrip_trips, fun _ _ _ => exec_limitRelease_positive,
    fun _ _ _ => exec_limitRelease_negative, fun _ _ _ _ => exec_homeEdgeCapture_of_leave,
    fun s n u h p run hu rest home captured capture => ⟨_, exec_homeComplete_homes run hu rest home captured capture, ?homed⟩,
    fun _ _ _ _ => exec_homeTimeout_fails, fun s e serving used => ?zEdge⟩
  case homed =>
    rw [State.mx_setMx]
    exact ⟨rfl, rfl, rfl, rfl, rfl⟩
  case zEdge =>
    obtain ⟨t, ht, enc⟩ := exec_zEdgeCapture_captures serving used
    refine ⟨t, ht, ?_⟩
    simp only [enc, upd_get_same, Encoder.captureZ, and_self]

/-! ### The drive link (R308 to R310) -/

section DriveLink

variable {s u : State} {n : Fin 8} {f : BitVec 32}

theorem exec_resCodeChange_sends {c : BitVec 3} (run : s.inRun = true) (hu : s.advanceAxes = u) (used : (u.mx n).used = true)
    (unasked : (u.mx n).resWanted = none) (wanted : (u.mx n).wantedCode = some c) (free : u.mot.dlFrame = none) :
    exec (.resCodeChange n) s = .next (u.setMx n fun x => { x with resWanted := some c }).sendDrive := by
  refine congrArg Host.Outcome.next ?_
  simp only [hu, wanted]
  refine (if_pos (by simp [run, used, unasked])).trans (if_pos ?_)
  exact Option.isNone_iff_eq_none.mpr free

theorem exec_driveLinkRefresh_sends (runs : s.driveRuns = true) (free : s.mot.dlFrame = none) (due : s.mot.dlAt + ms 1 ≤ s.now) :
    exec .driveLinkRefresh s = .next s.sendDrive :=
  congrArg Host.Outcome.next (if_pos (by simp [runs, free, State.since_of due]))

theorem exec_driveLinkFrameComplete_judges {echo : BitVec 32} (runs : s.driveRuns = true) (sent : s.mot.dlFrame = some f)
    (out : s.mot.dlAt + 320 ≤ s.now) (hu : s.advanceAxes = u) :
    exec (.driveLinkFrameComplete echo) s = .next ((u.latchFrame f).judgeEcho f (u.echoOk echo)).sendWaiting := by
  subst hu
  refine congrArg Host.Outcome.next ?_
  simp only [sent]
  exact if_pos (by simp [runs, State.since_of out])

theorem State.judgeEcho_of_match : (s.judgeEcho f true).mot.dlGood = min 16 (s.mot.dlGood + 1) ∧
    (s.judgeEcho f true).mot.dlFault = (s.mot.dlFault && decide (s.mot.dlGood + 1 < 16)) := by
  refine ⟨rfl, congrArg (s.mot.dlFault && ·) (decide_eq_decide.mpr ?_)⟩
  omega

theorem State.judgeEcho_of_first_mismatch (first : s.mot.dlBad = false) :
    s.judgeEcho f false = { s with mot := { s.mot with
      dlBad := true, dlGood := 0, axis := s.mot.axis.map Axis.countResend, dlFrame := some f, dlAt := s.now } } := by
  simp [State.judgeEcho, first]

theorem State.judgeEcho_of_second_mismatch (second : s.mot.dlBad = true) (free : s.linkHeld = false)
    (hu : { s with mot := { s.mot with dlBad := false, dlGood := 0, dlFault := true, axis := s.mot.axis.map fun (x : Axis) => x.linkStop s.ts } } = u) :
    s.judgeEcho f false = u.event 4 0x0980 0xFF 0 ((u.mot.axis.toList.map fun x => x.count.LINK_RESEND.toNat).foldl max 0) := by
  subst hu
  simp [State.judgeEcho, second, free]

end DriveLink

/-- Settles O33: each event of the link ends in its frame or in the judgement of its echo, and each judgement in its effect. That the link runs in
STOP and RUN and how it judges its first echo are the model's choice (log 129). -/
theorem driveLinkRuns : Obligations.DriveLinkRuns :=
  ⟨fun _ _ _ _ => exec_resCodeChange_sends, fun _ => exec_driveLinkRefresh_sends, fun _ _ _ _ => exec_driveLinkFrameComplete_judges,
    fun _ _ => State.judgeEcho_of_match, fun _ _ => State.judgeEcho_of_first_mismatch, fun _ _ _ => State.judgeEcho_of_second_mismatch⟩

end Sys2Proof.Machine
end

section
/-! PROOFS. The CAN controllers (chapter 14): their commands, and the frames, errors, bus-off and references that move them. -/

namespace Sys2Proof.Machine

set_option Elab.async false

section CanCommands

variable {s : State} {rq : Request} {c : Fin 4}

/-! ### Controllers, filters and objects (R335, R336) -/

theorem exec_canCtrlSet_accepted (h : s.Accepts Cmd.canCtrlSet rq) (hc : (CanDesc.ofBytes rq.payload).CTRL_ID.toNat = c.val) :
    exec (.canCtrlSet rq) s = .next (
      if (CanDesc.ofBytes rq.payload).ok = true then
        State.answered (s.setCan c fun x => { x with desc := CanDesc.ofBytes rq.payload }) Cmd.canCtrlSet rq []
      else (s.receive rq).refuse Cmd.canCtrlSet rq 0x0A01 c.val 0) := by
  refine congrArg Host.Outcome.next ((h.finish rfl).trans ?_)
  simp only [asFin_of_eq_val hc]
  exact Served.finish_refuseIf_not

theorem exec_canCtrlGet_answers_descriptor (h : s.Accepts Cmd.canCtrlGet rq) (hc : rq.u8 0 = c.val) :
    exec (.canCtrlGet rq) s = .next (s.answered Cmd.canCtrlGet rq { (s.can.ctrl.get c).desc with CTRL_ID := BitVec.ofNat 8 c.val }.toBytes) := by
  refine congrArg Host.Outcome.next (h.done rfl ?_)
  simp only [asFin_of_eq_val hc, State.receive_can]

theorem exec_canFilterSet_accepted {n : Fin 64} {d : CanFilter} (h : s.Accepts Cmd.canFilterSet rq) (hd : CanFilter.ofBytes rq.payload = d)
    (hc : d.CTRL_ID.toNat = c.val) (hn : d.FILT_NO.toNat = n.val) :
    exec (.canFilterSet rq) s = .next (
      if (1 ≤ d.DEPTH.toNat ∧ d.DEPTH.toNat ≤ 8) ∧ d.FILT_ID.toNat < 2 ^ 29 ∧ d.MASK.toNat < 2 ^ 29 then
        State.answered (s.setCan c fun x => { x with filters := put x.filters n d }) Cmd.canFilterSet rq []
      else (s.receive rq).refuse Cmd.canFilterSet rq 0x0A01 c.val 0) := by
  subst hd
  refine congrArg Host.Outcome.next ((h.finish rfl).trans ?_)
  simp only [asFin_of_eq_val hc, asFin_of_eq_val hn, Served.finish_refuseIf]
  have range : (!between 1 (CanFilter.ofBytes rq.payload).DEPTH.toNat 8 || decide (2 ^ 29 ≤ (CanFilter.ofBytes rq.payload).FILT_ID.toNat)
      || decide (2 ^ 29 ≤ (CanFilter.ofBytes rq.payload).MASK.toNat)) = true ↔
      ¬ ((1 ≤ (CanFilter.ofBytes rq.payload).DEPTH.toNat ∧ (CanFilter.ofBytes rq.payload).DEPTH.toNat ≤ 8) ∧
        (CanFilter.ofBytes rq.payload).FILT_ID.toNat < 2 ^ 29 ∧ (CanFilter.ofBytes rq.payload).MASK.toNat < 2 ^ 29) := by
    simp only [between, Bool.or_eq_true, Bool.not_eq_true', ← Bool.not_eq_true, Bool.and_eq_true, decide_eq_true_eq]
    omega
  simp only [range, ite_not]
  rfl

theorem exec_canObjectSet_accepted {d : CanObject} (h : s.Accepts Cmd.canObjectSet rq) (hd : CanObject.ofBytes rq.payload = d) :
    exec (.canObjectSet rq) s = .next (
      if d.ok = false then (s.receive rq).refuse Cmd.canObjectSet rq 0x0A01 d.CTRL_ID.toNat 0
      else if 2048 < (objectPut s.can.objects d).length then (s.receive rq).refuse Cmd.canObjectSet rq 0x0A06 d.CTRL_ID.toNat 0
      else State.answered { s with can := { s.can with objects := objectPut s.can.objects d } } Cmd.canObjectSet rq []) := by
  subst hd
  refine congrArg Host.Outcome.next ((h.finish rfl).trans ?_)
  simp only [Served.finish_refuseIf, Bool.not_eq_true', decide_eq_true_eq]
  rfl

/-! ### Recovery, status and single frames (R327, R330, R339, R340) -/

theorem exec_canRecover_accepted (h : s.Accepts Cmd.canRecover rq) (hc : rq.u8 0 = c.val) :
    exec (.canRecover rq) s = .next (
      if (s.can.ctrl.get c).state = .busOff ∨ (s.can.ctrl.get c).boffLocked = true then
        State.answered (s.setCan c fun x => { x with boffLocked := false, recovering := (s.can.ctrl.get c).state == .busOff }) Cmd.canRecover rq []
      else (s.receive rq).refuse Cmd.canRecover rq 0x0A03 c.val 0) := by
  refine congrArg Host.Outcome.next ((h.finish rfl).trans ?_)
  simp only [asFin_of_eq_val hc, Served.finish_refuseIf, State.receive_can]
  split
  case isTrue outside => exact (if_neg (by simpa using outside)).symm
  case isFalse inside => exact (if_pos (by simpa [Classical.or_iff_not_imp_left] using inside)).symm

theorem exec_canStatus_answers_status (h : s.Accepts Cmd.canStatus rq) (hc : rq.u8 0 = c.val) :
    exec (.canStatus rq) s = .next (s.answered Cmd.canStatus rq (s.can.ctrl.get c).status) := by
  refine congrArg Host.Outcome.next (h.done rfl ?_)
  simp only [asFin_of_eq_val hc, State.receive_can]

theorem exec_canTxOnce_accepted {r : FrameRec} {x : CanCtrl} (h : s.Accepts Cmd.canTxOnce rq) (hc : rq.u8 0 = c.val)
    (hr : FrameRec.ofBytes (rq.payload.drop 4) = r) (hx : s.can.ctrl.get c = x) :
    exec (.canTxOnce rq) s = .next (
      if r.sendable x.desc = false then (s.receive rq).refuse Cmd.canTxOnce rq 0x0A01 c.val 0
      else if (s.can.objects.any fun o => o.CTRL_ID.toNat == c.val && o.DIR == 2#8 && sameId o.ID r.ID) = true then
        (s.receive rq).refuse Cmd.canTxOnce rq 0x0A04 c.val 0
      else if x.mode ≠ .normal ∨ x.state = .busOff ∨ x.state = .off ∨ 16 ≤ x.queue.length then (s.receive rq).refuse Cmd.canTxOnce rq 0x0A05 c.val 0
      else State.answered (s.setCan c fun x => { x with queue := x.queue ++
          [{ id := r.ID, dlc := r.DLC.setWidth 4, fdf := r.FDF == 1#1, brs := r.BRS == 1#1, esi := false, res := false
             data := keepData r.DATA (dlcBytes r.DLC.toNat (r.FDF == 1#1)) }] }) Cmd.canTxOnce rq []) := by
  subst hr
  refine congrArg Host.Outcome.next ((h.finish rfl).trans ?_)
  simp only [asFin_of_eq_val hc, Served.finish_refuseIf, State.receive_can, hx, Bool.not_eq_true', Bool.or_eq_true, bne_iff_ne, beq_iff_eq,
    decide_eq_true_eq, or_assoc]
  rfl

theorem exec_canClear_one (h : s.Accepts Cmd.canClear rq) (hc : rq.u8 0 = c.val) :
    exec (.canClear rq) s = .next (State.answered (s.canStat c CanStat.cleared) Cmd.canClear rq []) := by
  refine congrArg Host.Outcome.next (h.done rfl ((if_neg (by omega)).trans ?_))
  simp only [asFin_of_eq_val hc]
  rfl

theorem exec_canClear_every (h : s.Accepts Cmd.canClear rq) (every : rq.u8 0 = 0xFF) :
    exec (.canClear rq) s = .next (State.answered
      { s with can := { s.can with ctrl := s.can.ctrl.map fun (x : CanCtrl) => { x with stat := x.stat.cleared } } } Cmd.canClear rq []) :=
  congrArg Host.Outcome.next (h.done rfl (if_pos every))

end CanCommands

/-- Settles O34: each command that passes the mailbox layer ends in its effect or in the first refusal that applies. What of a frame record
CAN_TX_ONCE takes as out of range is the model's choice (log 133). -/
theorem canCommandsAnswer : Obligations.CanCommandsAnswer :=
  ⟨fun _ _ _ => exec_canCtrlSet_accepted, fun _ _ _ => exec_canCtrlGet_answers_descriptor, fun _ _ _ _ _ => exec_canFilterSet_accepted,
    fun _ _ _ => exec_canObjectSet_accepted, fun _ _ _ => exec_canRecover_accepted, fun _ _ _ => exec_canStatus_answers_status,
    fun _ _ _ _ _ => exec_canTxOnce_accepted, fun _ _ _ => exec_canClear_one, fun _ _ => exec_canClear_every⟩

/-! ### Receiving (R322, R324, R326) -/

section CanFrames

variable {s u : State} {c : Fin 4} {x : CanCtrl} {f : CanFrame} {age : Nat} {ph : Fin 8}

theorem exec_canFrameReceive_places {rc : Nat} {t : State} (hx : s.can.ctrl.get c = x) (bus : x.onBus = true)
    (part : f.fdf = true → x.desc.FD_EN = 1#1 ∧ f.res = false) (rec : s.recAfter x.recCount = (rc, t)) (hu : t.canCount c x.tecCount rc = u) :
    exec (.canFrameReceive c f age ph) s = .next ((u.setCan c fun x => x.count f (s.stampAt age ph) u.now).canPlace c f (s.stampAt age ph)) := by
  have takesPart : (f.fdf && (x.desc.FD_EN == 0#1 || f.res)) = false := by
    cases hf : f.fdf with
    | false => rfl
    | true => simp [part hf]
  refine congrArg Host.Outcome.next ?_
  simp only [hx]
  refine (if_neg (by simp [bus])).trans ((if_neg (by simp [takesPart])).trans ?_)
  simp only [rec, hu]

theorem exec_canFrameReceive_off_bus (off : (s.can.ctrl.get c).onBus = false) : exec (.canFrameReceive c f age ph) s = .next s :=
  congrArg Host.Outcome.next (if_pos (by simp [off]))

theorem exec_canFrameReceive_exception (hx : s.can.ctrl.get c = x) (bus : x.onBus = true) (fd : f.fdf = true)
    (none : x.desc.FD_EN = 0#1 ∨ f.res = true) (exc : x.desc.PROT_EXC = 1#1) :
    exec (.canFrameReceive c f age ph) s = .next (s.canStat c fun y => { y with PROT_EXC_SEEN := 1#1 }) := by
  refine congrArg Host.Outcome.next ?_
  simp only [hx]
  exact (if_neg (by simp [bus])).trans ((if_pos (by simp [fd, none])).trans (if_pos (by simp [exc])))

/-- The objects scanned are those of controllers that are not off. -/
theorem exec_canReceiveTimeoutScan_scans {l : List CanObject} (hl : (s.can.objects.filter fun o => match asFin 4 o.CTRL_ID.toNat with
      | some c => (s.can.ctrl.get c).mode != .off
      | none => false) = l) :
    exec .canReceiveTimeoutScan s = .next (l.foldl State.canScan s) := by
  subst hl
  rfl

/-! ### Transmitting (R327 to R329) -/

theorem exec_canTxPeriod_pends {k : BitVec 16} {o : CanObject} (ho : s.txObject c k = some o) (run : s.inRun = true)
    (on : (s.can.ctrl.get c).mode ≠ .off) (period : o.ON_PERIOD = 1#1) (time : o.TIME_MS ≠ 0#16)
    (due : (((s.can.ctrl.get c).txAt.lookup k).getD 0) + ms o.TIME_MS.toNat ≤ s.now) :
    exec (.canTxPeriod c k) s = .next (s.setCan c fun x => { x with pendingTx := x.pendingTx.insert k, txAt := assocPut x.txAt k s.now }) := by
  refine congrArg Host.Outcome.next ?_
  simp only [ho]
  exact if_pos (by simp [run, on, period, time, State.since_of due])

theorem exec_canArbitrationPrepare_reads {t : CanTx × FrameRec} (normal : (s.can.ctrl.get c).mode = .normal)
    (bus : (s.can.ctrl.get c).onBus = true) (lowest : lowestId ((s.setCan c CanCtrl.failed).txCandidates c) = some t) :
    exec (.canArbitrationPrepare c) s = .next ((s.setCan c CanCtrl.failed).setCan c fun x => x.read t) := by
  refine congrArg Host.Outcome.next ((if_pos (by simp [normal, bus])).trans ?_)
  simp only [lowest]

theorem exec_canTxComplete_of_object {d : BitVec 8} {k : BitVec 16} {r : FrameRec} (hx : s.can.ctrl.get c = x) (normal : x.mode = .normal)
    (bus : x.onBus = true) (wire : x.wire = some (.object k, r))
    (hu : s.setCan c (fun x => { x.measure (r.FDF == 1#1) d with
      wire := none, stat := { (x.measure (r.FDF == 1#1) d).stat with TX_FRAMES := sat x.stat.TX_FRAMES } }) = u) :
    exec (.canTxComplete c age ph d) s = .next ((u.setMem 5 ((u.gro.mem.get 5).write (canObjOff k.toNat + 0x50)
      (({ r with RS_SEQ := r.SEQ, SENT_TS := s.stampAt age ph }.toBytes.drop 80).take 16))).canCount c (x.tecCount - 1) x.recCount) := by
  refine congrArg Host.Outcome.next ?_
  simp only [hx, wire]
  refine (if_pos (by simp [normal, bus])).trans ?_
  simp only [← hu, State.setCan, upd, hx]

/-! ### Errors and bus-off (R329 to R331) -/

theorem exec_canBusError_receiving {e : CanErr} {site : CanSite} {d : BitVec 8} (hx : s.can.ctrl.get c = x) (bus : x.onBus = true) :
    exec (.canBusError c e false site d) s = .next (State.canCount
      (s.setCan c fun x => CanCtrl.measure { x with stat := { x.stat with LAST_ERR := BitVec.ofNat 8 e.num } } false d) c
      (afterError x e false site).1 (afterError x e false site).2) := by
  subst hx
  refine congrArg Host.Outcome.next ((if_neg (by simp [bus])).trans ?_)
  cases (s.can.ctrl.get c).wire <;> rfl

theorem exec_canBusError_transmitting {e : CanErr} {site : CanSite} {d : BitVec 8} {t : CanTx} {r : FrameRec} (hx : s.can.ctrl.get c = x)
    (bus : x.onBus = true) (normal : x.mode = .normal) (wire : x.wire = some (t, r)) :
    exec (.canBusError c e true site d) s = .next (State.canCount
      (s.setCan c fun x => (CanCtrl.measure { x with stat := { x.stat with LAST_ERR := BitVec.ofNat 8 e.num } } (r.FDF == 1#1) d).failed) c
      (afterError x e true site).1 (afterError x e true site).2) := by
  subst hx
  refine congrArg Host.Outcome.next ((if_neg (by simp [bus, normal, wire])).trans ?_)
  simp only [wire]
  rfl

theorem exec_canBusoffHoldExpire_waits (hx : s.can.ctrl.get c = x) (off : x.state = .busOff) (still : x.recovering = false)
    (policy : x.desc.BUSOFF_POLICY = 0#8) (unlocked : x.boffLocked = false) (held : x.boffAt + ms x.desc.BOFF_HOLD_MS.toNat ≤ s.now) :
    exec (.canBusoffHoldExpire c) s = .next (s.setCan c fun x => { x with recovering := true }) := by
  subst hx
  exact congrArg Host.Outcome.next (if_pos (by simp [off, still, policy, unlocked, State.since_of held]))

theorem exec_canRecoveryComplete_recovers (hx : s.can.ctrl.get c = x) (off : x.state = .busOff) (waits : x.recovering = true) (on : x.mode ≠ .off) :
    exec (.canRecoveryComplete c) s = .next (State.event
      (s.setCan c fun x => { x with state := .active, recovering := false, tecCount := 0, recCount := 0 }) 2 0x0A80 c.val 2 0) := by
  subst hx
  exact congrArg Host.Outcome.next (if_pos (by simp [off, waits, on]))

/-- An error in a frame that a transmitter sends costs it 8, but for an ACK error of an error-passive one. -/
theorem afterError_of_frame {err : CanErr} (counted : err ≠ .ack ∨ x.state ≠ .passive) : (afterError x err true .frame).1 = x.tecCount + 8 :=
  congrArg Prod.fst (if_neg (by rcases counted with other | other <;> simp [other]))

theorem afterError_of_passive_ack (passive : x.state = .passive) : afterError x .ack true .frame = (x.tecCount, x.recCount) :=
  if_pos (by simp [passive])

/-! ### References (R333) -/

theorem exec_canRefMessage_prepares (hx : s.can.ctrl.get c = x) (normal : x.mode = .normal) (bus : x.onBus = true) (master : x.desc.TIME_ROLE = 1#8)
    (period : s.crossed (1000 * x.desc.REF_PERIOD_US.toNat) = true) (unheard : x.refAt = none) :
    exec (.canRefMessage c) s = .next (s.setCan c fun x => { x with
      refPending := some x.cycleNext, cycleNext := x.cycleNext + 1
      stat := { x.stat with MASTER_ACTIVE := 1#1, CYCLE_COUNT := x.cycleNext.setWidth 8 } }) := by
  subst hx
  refine congrArg Host.Outcome.next ((if_pos (by simp [normal, bus, master, period])).trans ?_)
  simp only [unheard]
  rfl

theorem exec_canRefLost_sets {a : Nat} (hx : s.can.ctrl.get c = x) (on : x.mode ≠ .off) (follower : x.desc.TIME_ROLE = 2#8)
    (heard : x.refAt = some a) (late : a + us (2 * x.desc.REF_PERIOD_US.toNat) ≤ s.now) :
    exec (.canRefLost c) s = .next (s.canStat c fun y => { y with REF_LOST := 1#1 }) := by
  subst hx
  exact congrArg Host.Outcome.next (if_pos (by simp [on, follower, State.ran_of heard late]))

end CanFrames

/-- Settles O35: each event whose condition holds ends in its effect. The counters after a frame or an error are those of ISO 11898-1, as the model
presumes (log 131); the order of arbitration, what an object sends and what a controller's start and stop leave are its choice (logs 132 to 135). -/
theorem canFramesMove : Obligations.CanFramesMove :=
  ⟨fun _ _ _ _ _ _ _ _ _ => exec_canFrameReceive_places, fun _ _ _ _ _ => exec_canFrameReceive_off_bus,
    fun _ _ _ _ _ _ => exec_canFrameReceive_exception, fun _ _ => exec_canReceiveTimeoutScan_scans,
    fun _ _ _ _ => exec_canTxPeriod_pends, fun _ _ _ => exec_canArbitrationPrepare_reads, fun _ _ _ _ _ _ _ _ _ => exec_canTxComplete_of_object,
    fun _ _ _ _ _ _ => exec_canBusError_receiving, fun _ _ _ _ _ _ _ _ => exec_canBusError_transmitting,
    fun _ _ _ => exec_canBusoffHoldExpire_waits, fun _ _ _ => exec_canRecoveryComplete_recovers, fun _ _ _ => exec_canRefMessage_prepares,
    fun _ _ _ _ => exec_canRefLost_sets, fun _ _ => afterError_of_frame, fun _ => afterError_of_passive_ack⟩

end Sys2Proof.Machine
end
section
/-! PROOFS. The plant network (chapter 15): its commands, received frames, the ports' links and the timers of the redundancy. -/

namespace Sys2Proof.Machine

set_option Elab.async false

@[simp] theorem State.receive_netStatus (s : State) (rq : Request) : (s.receive rq).netStatus = s.netStatus := rfl

section NetCommands

variable {s : State} {rq : Request}

/-! ### The network descriptor and status (R347, R370) -/

theorem exec_cfgNetSet_accepted {d : NetDesc} (h : s.Accepts Cmd.cfgNetSet rq) (hd : NetDesc.ofBytes rq.payload = d) :
    exec (.cfgNetSet rq) s = .next (
      if d.ok = true then State.answered { s with tm := { s.tm with netDesc := d } } Cmd.cfgNetSet rq []
      else (s.receive rq).refuse Cmd.cfgNetSet rq 0x021B 0xFFFF 0) := by
  subst hd
  exact congrArg Host.Outcome.next ((h.finish rfl).trans Served.finish_refuseIf_not)

theorem exec_cfgNetGet_answers_descriptor (h : s.Accepts Cmd.cfgNetGet rq) :
    exec (.cfgNetGet rq) s = .next (s.answered Cmd.cfgNetGet rq s.tm.netDesc.toBytes) :=
  congrArg Host.Outcome.next (h.done rfl rfl)

theorem exec_diagNetStatus_answers_status (h : s.Accepts Cmd.diagNetStatus rq) :
    exec (.diagNetStatus rq) s = .next (s.answered Cmd.diagNetStatus rq s.netStatus) :=
  congrArg Host.Outcome.next (h.done rfl rfl)

end NetCommands

section NetEvents

variable {s : State} {f : NetFrame} {p : Fin 2}

/-! ### Received frames (R341, R343) -/

/-- The port runs and its link is up. -/
structure State.Hears (s : State) (p : Fin 2) : Prop where
  up   : s.netUp = true
  used : s.portUsed p = true
  link : (s.tm.ports.get p).linkUp = true

theorem State.Hears.takes_good {u : State} (h : s.Hears f.port) (good : f.good = true) (fits : f.len ≤ s.longestFrame)
    (hu : s.netCount (fun x => if f.port = 0 then { x with RX_FRAMES_A := sat x.RX_FRAMES_A } else { x with RX_FRAMES_B := sat x.RX_FRAMES_B }) = u) :
    exec (.netFrameReceive f) s = .next (if f.src = Config.macAddress then u.removeOwn f else u.takeNetFrame f) := by
  subst hu
  refine congrArg Host.Outcome.next ((if_neg (by simp [h.up, h.used, h.link])).trans ((if_neg (by simp [good, fits])).trans ?_))
  simp only [beq_iff_eq]

theorem State.Hears.counts_bad (h : s.Hears f.port) (bad : f.good = false ∨ s.longestFrame < f.len) :
    exec (.netFrameReceive f) s = .next (s.netCount fun x => { x with RX_ERRORS := sat x.RX_ERRORS }) :=
  congrArg Host.Outcome.next ((if_neg (by simp [h.up, h.used, h.link])).trans (if_pos (by simpa using bad)))

/-! ### Links (R346, R370) -/

theorem exec_portLinkDown_records (link : (s.tm.ports.get p).linkUp = true) (up : s.netUp = true) (used : s.portUsed p = true)
    (firmware : s.firmwareUp = true) :
    exec (.portLinkDown p) s = .next (State.event
      { s with tm := { s.tm with
          ports := upd s.tm.ports p fun x => { x with linkUp := false }
          netStat := if p = 0 then { s.tm.netStat with LINK_DOWN_A := sat s.tm.netStat.LINK_DOWN_A }
            else { s.tm.netStat with LINK_DOWN_B := sat s.tm.netStat.LINK_DOWN_B } } } 4 0x0B82 0xFF 0 p.val) := by
  have running : (s.netUp && s.portUsed p) = true := by simp [up, used]
  exact congrArg Host.Outcome.next ((if_pos link).trans ((if_pos running).trans (if_pos firmware)))

theorem exec_portLinkUp_records (link : (s.tm.ports.get p).linkUp = false) (up : s.netUp = true) (used : s.portUsed p = true)
    (firmware : s.firmwareUp = true) :
    exec (.portLinkUp p) s = .next (State.event
      { s with tm := { s.tm with ports := upd s.tm.ports p fun x => { x with linkUp := true } } } 2 0x0B82 0xFF 0 p.val) := by
  have running : (s.netUp && s.portUsed p && s.firmwareUp) = true := by simp [up, used, firmware]
  exact congrArg Host.Outcome.next ((if_neg (by simp [link])).trans (if_pos running))

/-! ### Supervision, nodes and PTP messages (R343, R346, R348) -/

theorem exec_supervisionFrameSend_sends (up : s.netUp = true) (redundant : s.tm.netAct.NET_MODE ≠ 2#8)
    (due : s.tm.suprAt + ms s.tm.netAct.LIFE_CHECK_MS.toNat ≤ s.now) :
    exec .supervisionFrameSend s = .next
      { s.sendFrames [leBytes 6 Config.macAddress.toNat] with tm := { (s.sendFrames [leBytes 6 Config.macAddress.toNat]).tm with suprAt := s.now } } :=
  congrArg Host.Outcome.next (if_pos (by simp [up, redundant, State.since_of due]))

theorem exec_lanOkTimeout_ends {a : Nat} (ok : (s.tm.ports.get p).lanOkAt = some a) (late : a + ms (3 * s.tm.netAct.LIFE_CHECK_MS.toNat) ≤ s.now) :
    exec (.lanOkTimeout p) s = .next { s with tm := { s.tm with ports := upd s.tm.ports p fun x => { x with lanOkAt := none } } } :=
  congrArg Host.Outcome.next (if_pos (State.ran_of ok late))

theorem exec_nodeForget_forgets {mac : BitVec 48} {a : Nat} (known : s.tm.nodes.lookup mac = some a)
    (late : a + sec s.tm.netAct.NODE_FORGET_S.toNat ≤ s.now) :
    exec (.nodeForget mac) s = .next { s with tm := { s.tm with nodes := s.tm.nodes.filter fun e => e.1 != mac } } := by
  refine congrArg Host.Outcome.next ?_
  simp only [known]
  exact if_pos (State.since_of late)

theorem exec_ptpMessageSend_sends {d : List Byte} (up : s.ptpUp = true) : exec (.ptpMessageSend d) s = .next (s.sendFrames [d]) :=
  congrArg Host.Outcome.next (if_pos up)

end NetEvents

/-- Settles O36: each command ends in its answer, each frame on a running port in its count and its taking, and each timer in its effect. The
longest frame is that of IEC 62439-3, as the model presumes (log 50), and that an own frame is removed besides its duplicates its choice (log 136). -/
theorem networkCommandsAndEventsComplete : Obligations.NetworkCommandsAndEventsComplete :=
  ⟨fun _ _ _ => exec_cfgNetSet_accepted, fun _ _ => exec_cfgNetGet_answers_descriptor, fun _ _ => exec_diagNetStatus_answers_status,
    fun _ _ _ up used link => State.Hears.takes_good ⟨up, used, link⟩, fun _ _ up used link => State.Hears.counts_bad ⟨up, used, link⟩,
    fun _ _ => exec_portLinkDown_records, fun _ _ => exec_portLinkUp_records, fun _ => exec_supervisionFrameSend_sends,
    fun _ _ _ => exec_lanOkTimeout_ends, fun _ _ _ => exec_nodeForget_forgets, fun _ _ => exec_ptpMessageSend_sends⟩

end Sys2Proof.Machine
end

section
/-! PROOFS. Precision time and the RTC (chapter 15): their commands, the clock's states, compare units, captures, and what the RTC does. -/

namespace Sys2Proof.Machine

set_option Elab.async false

@[simp] theorem State.receive_rtcShadow (s : State) (rq : Request) : (s.receive rq).rtcShadow = s.rtcShadow := rfl

section TimeCommands

variable {s : State} {rq : Request}

/-! ### Precision time (R351, R358) -/

theorem exec_timePtpSet_accepted {d : PtpDesc} (h : s.Accepts Cmd.timePtpSet rq) (hd : PtpDesc.ofBytes rq.payload = d) :
    exec (.timePtpSet rq) s = .next (
      if d.ok = true then State.answered { s with tm := { s.tm with ptpDesc := d } } Cmd.timePtpSet rq []
      else (s.receive rq).refuse Cmd.timePtpSet rq 0x0B01 0xFFFF 0) := by
  subst hd
  exact congrArg Host.Outcome.next ((h.finish rfl).trans Served.finish_refuseIf_not)

theorem exec_timePtpGet_answers_descriptor (h : s.Accepts Cmd.timePtpGet rq) :
    exec (.timePtpGet rq) s = .next (s.answered Cmd.timePtpGet rq s.tm.ptpDesc.toBytes) :=
  congrArg Host.Outcome.next (h.done rfl rfl)

theorem exec_timeStatus_answers_record (h : s.Accepts Cmd.timeStatus rq) :
    exec (.timeStatus rq) s = .next (s.answered Cmd.timeStatus rq (s.img.read 0x40 64)) :=
  congrArg Host.Outcome.next (h.done rfl rfl)

/-! ### Compare units and capture inputs (R360 to R362) -/

theorem exec_timeCmpSet_accepted {n : Fin 8} {d : CmpDesc} (h : s.Accepts Cmd.timeCmpSet rq) (hd : CmpDesc.ofBytes rq.payload = d)
    (hn : d.CMP_ID.toNat = n.val) :
    exec (.timeCmpSet rq) s = .next (
      if d.ok = true then
        State.reply (State.fireLate { s.receive rq with tm := { (s.receive rq).tm with cmp := upd s.tm.cmp n fun x => x.arm d } }) Cmd.timeCmpSet rq 0 []
      else (s.receive rq).refuse Cmd.timeCmpSet rq 0x0B01 n.val 0) := by
  subst hd
  refine congrArg Host.Outcome.next ((h.finish rfl).trans ?_)
  simp only [asFin_of_eq_val hn]
  exact Served.finish_refuseIf_not

theorem exec_timeCmpGet_answers_descriptor {n : Fin 8} {x : Compare} (h : s.Accepts Cmd.timeCmpGet rq) (hn : rq.u8 0 = n.val)
    (hx : s.tm.cmp.get n = x) :
    exec (.timeCmpGet rq) s = .next (s.answered Cmd.timeCmpGet rq
      ({ x.desc with CMP_ID := BitVec.ofNat 8 n.val }.toBytes ++ [BitVec.ofNat 8 (bit x.late)] ++ leBytes 4 x.skip.toNat)) := by
  refine congrArg Host.Outcome.next (h.done rfl ?_)
  simp only [asFin_of_eq_val hn, State.receive_tm, hx]

theorem exec_timeTciSet_accepted {k : Fin 2} {d : TciDesc} (h : s.Accepts Cmd.timeTciSet rq) (hd : TciDesc.ofBytes rq.payload = d)
    (hk : d.TCI_ID.toNat = k.val) :
    exec (.timeTciSet rq) s = .next (
      if d.EDGE_SEL.toNat ≤ 3 ∧ d.GLITCH_NS.toNat ≤ 1000 then
        State.answered { s with tm := { s.tm with tci := upd s.tm.tci k fun x => { x with desc := d } } } Cmd.timeTciSet rq []
      else (s.receive rq).refuse Cmd.timeTciSet rq 0x0B01 k.val 0) := by
  subst hd
  refine congrArg Host.Outcome.next ((h.finish rfl).trans ?_)
  have range : (decide (3 < (TciDesc.ofBytes rq.payload).EDGE_SEL.toNat) || decide (1000 < (TciDesc.ofBytes rq.payload).GLITCH_NS.toNat)) =
      !decide ((TciDesc.ofBytes rq.payload).EDGE_SEL.toNat ≤ 3 ∧ (TciDesc.ofBytes rq.payload).GLITCH_NS.toNat ≤ 1000) := by
    rw [← decide_not, ← Bool.decide_or, decide_eq_decide]
    omega
  simp only [asFin_of_eq_val hk, range]
  exact Served.finish_refuseIf_not.trans (by simp only [decide_eq_true_eq]; rfl)

/-! ### The RTC (R363 to R367) -/

theorem exec_timeRtcRead_answers_record (h : s.Accepts Cmd.timeRtcRead rq) :
    exec (.timeRtcRead rq) s = .next (State.answered { s with tm := { s.tm with rtc := { s.tm.rtc with shadow := none } } } Cmd.timeRtcRead rq
      s.rtcShadow.toBytes) :=
  congrArg Host.Outcome.next (h.done rfl rfl)

theorem exec_timeRtcSet_accepted {c : Calendar} {n : Nat} (h : s.Accepts Cmd.timeRtcSet rq) (hc : calendarAt rq 0 = (c, n)) :
    exec (.timeRtcSet rq) s = .next (
      if c.valid n = true then State.reply ((s.receive rq).withRtc (s.tm.rtc.set c n)) Cmd.timeRtcSet rq 0 []
      else (s.receive rq).refuse Cmd.timeRtcSet rq 0x0B01 0xFFFF 0) := by
  refine congrArg Host.Outcome.next ((h.finish rfl).trans ?_)
  simp only [hc]
  exact Served.finish_refuseIf_not

/-- What a jump of the live time passes leaves the calendar, OSF and the shift as they are. -/
theorem Rtc.passed_keeps (r : Rtc) (a b : Nat) :
    (r.passed a b).cal = r.cal ∧ (r.passed a b).subsec = r.subsec ∧ (r.passed a b).osf = r.osf ∧ (r.passed a b).shiftLeft = r.shiftLeft := by
  have alarm : ∀ q : Rtc, (q = r ∨ q = { r with alarm := none, alarmFlag := true, alarmLate := true }) →
      q.cal = r.cal ∧ q.subsec = r.subsec ∧ q.osf = r.osf ∧ q.shiftLeft = r.shiftLeft := by
    rintro q (rfl | rfl) <;> exact ⟨rfl, rfl, rfl, rfl⟩
  unfold Rtc.passed
  extract_lets q
  have hq : q = r ∨ q = { r with alarm := none, alarmFlag := true, alarmLate := true } := by
    subst q
    split
    · split
      · exact Or.inr rfl
      · exact Or.inl rfl
    · exact Or.inl rfl
  split
  · exact alarm q hq
  · exact alarm q hq

theorem Rtc.set_reads (r : Rtc) (c : Calendar) (n : Nat) :
    (r.set c n).cal = c ∧ (r.set c n).subsec = n ∧ (r.set c n).osf = false ∧ (r.set c n).shiftLeft = 0 :=
  Rtc.passed_keeps ..

theorem exec_timeRtcShift_accepted {n : Int} (h : s.Accepts Cmd.timeRtcShift rq) (hn : (BitVec.ofNat 16 (rq.u16 0)).toInt = n) :
    exec (.timeRtcShift rq) s = .next (
      if 16384 < n.natAbs then (s.receive rq).refuse Cmd.timeRtcShift rq 0x0B01 0xFFFF 0
      else if s.tm.rtc.shiftLeft ≠ 0 then (s.receive rq).refuse Cmd.timeRtcShift rq 0x0B03 0xFFFF 0
      else State.answered { s with tm := { s.tm with rtc := { s.tm.rtc with shiftLeft := n } } } Cmd.timeRtcShift rq []) := by
  subst hn
  refine congrArg Host.Outcome.next ((h.finish rfl).trans ?_)
  simp only [Served.finish_refuseIf, decide_eq_true_eq, bne_iff_ne]
  rfl

theorem exec_timeRtcAlarm_arms {c : Calendar} {n : Nat} (h : s.Accepts Cmd.timeRtcAlarm rq) (hc : calendarAt rq 1 = (c, n)) (on : rq.u8 0 = 1) :
    exec (.timeRtcAlarm rq) s = .next (
      if c.valid n = false then (s.receive rq).refuse Cmd.timeRtcAlarm rq 0x0B01 0xFFFF 0
      else if rtcCounts c n ≤ s.tm.rtc.counts then (s.receive rq).refuse Cmd.timeRtcAlarm rq 0x0B04 0xFFFF 0
      else State.answered { s with tm := { s.tm with rtc := { s.tm.rtc with alarm := some (c, n) } } } Cmd.timeRtcAlarm rq []) := by
  refine congrArg Host.Outcome.next ((h.finish rfl).trans ?_)
  simp only [hc, on, Served.finish_refuseIf, decide_true, Bool.true_and, Nat.lt_irrefl, decide_false, Bool.false_or, Bool.not_eq_true',
    decide_eq_true_eq, if_true]
  rfl

theorem exec_timeRtcAlarm_disarms (h : s.Accepts Cmd.timeRtcAlarm rq) (off : rq.u8 0 = 0) :
    exec (.timeRtcAlarm rq) s =
      .next (State.answered { s with tm := { s.tm with rtc := { s.tm.rtc with alarm := none } } } Cmd.timeRtcAlarm rq []) := by
  refine congrArg Host.Outcome.next ((h.finish rfl).trans ?_)
  simp only [off]
  rfl

theorem exec_timeRtcWake_accepted (h : s.Accepts Cmd.timeRtcWake rq) :
    exec (.timeRtcWake rq) s = .next (
      if 5529600 < rq.u32 0 then (s.receive rq).refuse Cmd.timeRtcWake rq 0x0B01 0xFFFF 0
      else State.answered { s with tm := { s.tm with rtc := { s.tm.rtc with
          wakePeriod := rq.u32 0, wakeNext := (s.tm.rtc.counts + 511) / 512 + rq.u32 0 } } } Cmd.timeRtcWake rq []) := by
  refine congrArg Host.Outcome.next ((h.finish rfl).trans ?_)
  simp only [Served.finish_refuseIf, decide_eq_true_eq]
  rfl

theorem exec_timeClear_both (h : s.Accepts Cmd.timeClear rq) (mask : rq.u16 0 = 3) :
    exec (.timeClear rq) s = .next (State.answered { s with tm := { s.tm with
      rtc := { s.tm.rtc with alarmFlag := false, alarmLate := false, wakeFlag := false, wakeLate := false }
      netStat := s.tm.netStat.cleared } } Cmd.timeClear rq []) := by
  refine congrArg Host.Outcome.next (h.done rfl ?_)
  simp only [mask]
  rfl

theorem exec_timeClear_counters (h : s.Accepts Cmd.timeClear rq) (mask : rq.u16 0 = 2) :
    exec (.timeClear rq) s = .next (State.answered { s with tm := { s.tm with netStat := s.tm.netStat.cleared } } Cmd.timeClear rq []) := by
  refine congrArg Host.Outcome.next (h.done rfl ?_)
  simp only [mask]
  rfl

end TimeCommands

/-- Settles O37: each command that passes the mailbox layer ends in its effect or in the first refusal that applies. When a unit counts as late and
what a set of the calendar passes are the model's choice (logs 139 and 140). -/
theorem timeCommandsAnswer : Obligations.TimeCommandsAnswer :=
  ⟨fun _ _ _ => exec_timePtpSet_accepted, fun _ _ => exec_timePtpGet_answers_descriptor, fun _ _ => exec_timeStatus_answers_record,
    fun _ _ _ _ => exec_timeCmpSet_accepted, fun _ _ _ _ => exec_timeCmpGet_answers_descriptor, fun _ _ _ _ => exec_timeTciSet_accepted,
    fun _ _ => exec_timeRtcRead_answers_record, fun _ _ _ _ => exec_timeRtcSet_accepted, Rtc.set_reads, fun _ _ _ => exec_timeRtcShift_accepted,
    fun _ _ _ _ => exec_timeRtcAlarm_arms, fun _ _ => exec_timeRtcAlarm_disarms, fun _ _ => exec_timeRtcWake_accepted,
    fun _ _ => exec_timeClear_both, fun _ _ => exec_timeClear_counters⟩

section TimeEvents

variable {s : State}

/-! ### The clock's states (R350, R353 to R355, R358) -/

theorem exec_ptpSyncReceive_measures {p : Fin 2} {x : Int} {path : BitVec 32} {m : PtpMaster} (up : s.ptpUp = true) :
    exec (.ptpSyncReceive p x path m) s = .next (if (s.syncOn p).tm.portSel = p then (s.syncOn p).measured x path m else s.syncOn p) := by
  refine congrArg Host.Outcome.next ((if_neg (by simp [up])).trans ?_)
  simp only [bne_iff_ne, ite_not]

theorem exec_ptpSyncTimeout_selects {p : Fin 2} (up : s.ptpUp = true) (silent : s.syncFresh p = false) (selected : s.tm.portSel = p) :
    exec (.ptpSyncTimeout p) s =
      .next (if s.selectPort.syncFresh s.selectPort.tm.portSel = true then s.selectPort else s.selectPort.loseSync) :=
  congrArg Host.Outcome.next (if_pos (by simp [up, silent, selected]))

theorem exec_announceTimeout_loses (up : s.ptpUp = true) (slave : s.tm.isMaster = false)
    (late : s.tm.announceAt + intervals s.tm.ptpAct.ANNOUNCE_TIMEOUT.toNat s.tm.ptpAct.LOG_ANNOUNCE.toInt ≤ s.now) :
    exec .announceTimeout s = .next (
      if s.tm.ptpAct.PTP_MODE = 2#8 then { s.loseSync with tm := { s.loseSync.tm with isMaster := true, gmId := Config.clockIdentity } }
      else s.loseSync) := by
  refine congrArg Host.Outcome.next ((if_pos (by simp [up, slave, State.since_of late])).trans ?_)
  simp only [beq_iff_eq]

theorem exec_holdoverAlarm_records (up : s.firmwareUp = true) (holds : s.tm.clk = .holdover) (unsaid : s.tm.holdAlarm = false)
    (long : s.tm.holdAt + sec s.tm.ptpAct.HOLD_ALARM_S.toNat ≤ s.now) :
    exec .holdoverAlarm s = .next (State.event { s with tm := { s.tm with holdAlarm := true } } 4 0x0B80 0xFF ClkState.holdover.num
      ClkState.holdover.num s.tm.gmId.toNat) := by
  refine congrArg Host.Outcome.next ((if_pos (by simp [up, holds, unsaid, State.since_of long])).trans ?_)
  simp only [holds]

theorem exec_timeRecordWrite_writes (up : s.firmwareUp = true) : exec .timeRecordWrite s = .next (s.writeImage 0x40 s.timeRecord.toBytes qGood) :=
  congrArg Host.Outcome.next (if_pos up)

/-- At the count where a base stands, the time is the base. -/
theorem timeAt_base (base : BitVec 64) (c : Nat) (rate : Int) : timeAt base c rate c = base := by
  simp [timeAt]

/-- A new rate is taken without a jump of the time. -/
theorem State.setRate_keeps_time (s : State) (rate : Int) : (s.setRate rate).ts = s.ts ∧ (s.setRate rate).tm.rateQ48 = rate :=
  ⟨timeAt_base .., rfl⟩

/-! ### Compare units and captures (R359, R362) -/

theorem exec_compareFire_fires {n : Fin 8} {t : BitVec 64} (up : s.compareUp = true) (next : (s.tm.cmp.get n).next = some t)
    (come : t.toNat ≤ s.ts.toNat) :
    exec (.compareFire n) s =
      .next (State.trigger { s with tm := { s.tm with cmp := put s.tm.cmp n ((s.tm.cmp.get n).fire n s.ts t) } } 3 fun a => a == n.val) := by
  refine congrArg Host.Outcome.next ?_
  simp only [State.fireCompare, next]
  exact if_pos (by simp [up, come])

theorem exec_tpoPulseEnd_ends {n : Fin 8} {t : BitVec 64} {w : BitVec 32} {pol : Bool} (pulse : (s.tm.cmp.get n).pulse = some (t, w, pol))
    (ended : t.toNat + w.toNat ≤ s.ts.toNat) :
    exec (.tpoPulseEnd n) s = .next { s with tm := { s.tm with cmp := put s.tm.cmp n { s.tm.cmp.get n with pulse := none } } } := by
  refine congrArg Host.Outcome.next ?_
  simp only [pulse]
  exact if_pos ended

theorem exec_tciCapture_first {k : Fin 2} {rising : Bool} {ph : Fin 8} {x : CaptureIn} (serving : s.sys.phase = .serving)
    (hx : s.tm.tci.get k = x) (taken : x.desc.takes rising = true) (first : x.lastAt = none) :
    exec (.tciCapture k rising ph) s = .next { s with tm := { s.tm with tci := put s.tm.tci k (
      if 16 ≤ x.queue.length then { x with ovr := sat x.ovr }
      else { x with lastAt := some (s.stampAt 0 ph)
                    queue := x.queue ++ [⟨s.stampAt 0 ph - BitVec.ofInt 64 x.desc.DELAY_NS.toInt, if rising then 1#2 else 2#2⟩] }) } } := by
  subst hx
  refine congrArg Host.Outcome.next ((if_neg (by simp [serving, taken])).trans ?_)
  simp only [first, Bool.or_false, decide_eq_true_eq]

theorem exec_tciCaptureMove_moves {k : Fin 2} {x : CaptureIn} {c : Capture} {rest : List Capture} (up : s.firmwareUp = true)
    (hx : s.tm.tci.get k = x) (queue : x.queue = c :: rest) :
    exec (.tciCaptureMove k) s = .next (State.writeImage (State.writeImage
        { s with tm := { s.tm with tci := put s.tm.tci k { x with queue := rest, seq := x.seq + 1 } } }
        (0x480 + 0x80 * k.val) { TciHead.dflt with WR_SEQ := x.seq + 1, OVR_COUNT := x.ovr }.toBytes qGood)
      (0x480 + 0x80 * k.val + 0x10 + 16 * ((x.seq + 1).toNat % 7))
      { TciEntry.dflt with TS := c.ts, QUAL := s.captureQuality, EDGE := c.edge, SEQ := x.seq + 1 }.toBytes s.captureQuality) := by
  subst hx
  refine congrArg Host.Outcome.next ?_
  simp only [queue]
  exact if_neg (by simp [up])

/-! ### What the RTC does (R363 to R369) -/

theorem exec_rtcShiftTick_holds (back : s.tm.rtc.shiftLeft < 0) :
    exec .rtcShiftTick s = .next { s with tm := { s.tm with rtc := { s.tm.rtc with hold := true, shiftLeft := s.tm.rtc.shiftLeft + 1 } } } :=
  congrArg Host.Outcome.next ((if_neg (by omega)).trans (if_pos back))

theorem exec_rtcShiftTick_advances {r : Rtc} (hr : s.tm.rtc = r) (ahead : 0 < r.shiftLeft) :
    exec .rtcShiftTick s = .next (s.withRtc ({ r.advance 1 with shiftLeft := r.shiftLeft - 1 }.passed r.counts (r.counts + 2))) := by
  subst hr
  exact congrArg Host.Outcome.next (if_pos ahead)

theorem exec_rtcAlarmFire_fires {c : Calendar} {n : Nat} (armed : s.tm.rtc.alarm = some (c, n)) (reached : rtcCounts c n ≤ s.tm.rtc.counts) :
    exec .rtcAlarmFire s = .next (s.withRtc { s.tm.rtc with alarm := none, alarmFlag := true }) := by
  refine congrArg Host.Outcome.next ?_
  simp only [armed]
  exact if_pos reached

theorem exec_rtcWake_wakes {r : Rtc} (hr : s.tm.rtc = r) (armed : r.wakePeriod ≠ 0) (reached : 512 * r.wakeNext ≤ r.counts) :
    exec .rtcWake s = .next (s.withRtc { r with wakeFlag := true, wakeCount := r.wakeCount + 1, wakeNext := r.gridAfter r.counts }) := by
  subst hr
  exact congrArg Host.Outcome.next (if_pos (by simp [armed, reached]))

theorem exec_rtcLeapSecond_inserts (armed : s.tm.rtc.leapArmed = true) (hour : s.tm.rtc.cal.hour = 23) (minute : s.tm.rtc.cal.minute = 59)
    (second : s.tm.rtc.cal.second = 59) :
    exec .rtcLeapSecond s = .next { s with tm := { s.tm with rtc := { s.tm.rtc with cal := { s.tm.rtc.cal with second := 60 }, subsec := 0 } } } :=
  congrArg Host.Outcome.next (if_pos (by simp [armed, Calendar.dayEnd, hour, minute, second]))

theorem exec_rtcDiscipline_compares {r : Rtc} {d : Int} (up : s.firmwareUp = true) (locked : s.tm.clk = .locked) (utc : s.tm.utcValid = true)
    (hr : { s.tm.rtc with leapArmed := s.tm.rtc.leapArmed || s.tm.leap61, leapDel := s.tm.rtc.leapDel || s.tm.leap59 } = r)
    (hd : (r.counts : Int) * 1000000000 - s.utcNs * 32768 = d) :
    exec .rtcDiscipline s = .next (
      if r.osf = true ∨ 500000000 * 32768 < d.natAbs then
        { s with tm := { s.tm with rtc := r, rtcSetAt := some (s.utcNs / 1000000000 + 1).toNat } }
      else if 2 * 1000000000 < d.natAbs ∧ r.shiftLeft = 0 then
        { s with tm := { s.tm with rtc := { r with shiftLeft := -(roundDiv d 1000000000) } } }
      else { s with tm := { s.tm with rtc := r } }) := by
  subst hr hd
  exact congrArg Host.Outcome.next (if_pos (by simp [up, locked, utc]))

end TimeEvents

/-- Settles O38: each event whose condition holds ends in its effect. How the clock takes a rate and loses a master, when a unit is late, and how the
RTC's shadow and sets behave are the model's choice (logs 138 to 141). -/
theorem clockCompareAndRtcMove : Obligations.ClockCompareAndRtcMove :=
  ⟨fun _ _ _ _ _ => exec_ptpSyncReceive_measures, fun _ _ => exec_ptpSyncTimeout_selects, fun _ => exec_announceTimeout_loses,
    fun _ => exec_holdoverAlarm_records, fun _ => exec_timeRecordWrite_writes, State.setRate_keeps_time, fun _ _ _ => exec_compareFire_fires,
    fun _ _ _ _ _ => exec_tpoPulseEnd_ends, fun _ _ _ _ _ => exec_tciCapture_first, fun _ _ _ _ _ => exec_tciCaptureMove_moves,
    fun _ => rfl, fun _ => rfl, fun _ => rfl, fun _ => exec_rtcShiftTick_holds, fun _ _ => exec_rtcShiftTick_advances,
    fun _ _ _ => exec_rtcAlarmFire_fires, fun _ _ => exec_rtcWake_wakes, fun _ => exec_rtcLeapSecond_inserts,
    fun _ _ _ => exec_rtcDiscipline_compares⟩

end Sys2Proof.Machine
end

section
/-! PROOFS. The redundant pair (chapter 16): its commands, heartbeat and frames, the loss of a path or of the peer, the witness, swaps and the comeback. -/

namespace Sys2Proof.Machine

set_option Elab.async false

section PairCommands

variable {s : State} {rq : Request}

/-! ### The descriptor and the status (R405, R406) -/

theorem exec_pairSet_accepted {d : PairDesc} (h : s.Accepts Cmd.pairSet rq) (hd : PairDesc.ofBytes rq.payload = d) :
    exec (.pairSet rq) s = .next (
      if d.ok = true then State.answered { s with pr := { s.pr with desc := d } } Cmd.pairSet rq []
      else (s.receive rq).refuse Cmd.pairSet rq 0x0C01 0xFFFF 0) := by
  subst hd
  exact congrArg Host.Outcome.next ((h.finish rfl).trans Served.finish_refuseIf_not)

theorem exec_pairGet_answers_descriptor (h : s.Accepts Cmd.pairGet rq) :
    exec (.pairGet rq) s = .next (s.answered Cmd.pairGet rq s.pr.desc.toBytes) :=
  congrArg Host.Outcome.next (h.done rfl rfl)

/-- LINK_LOAD_PM is a free value of at most 1000 per mille. -/
theorem exec_pairStatus_answers_status (h : s.Accepts Cmd.pairStatus rq) :
    ∃ (v : BitVec 32) (u : State), u = { s.receive rq with free := (s.receive rq).free + 1 } ∧ v.toNat ≤ 1000 ∧
      exec (.pairStatus rq) s = .next (u.reply Cmd.pairStatus rq 0
        (State.pairStatus { u with pr := { u.pr with stat := { u.pr.stat with LINK_LOAD_PM := v } } })) := by
  refine ⟨BitVec.ofNat 32 ((Config.freeValue (s.receive rq).free).toNat % 1001), _, rfl, ?least, ?answer⟩
  case least => simp only [BitVec.toNat_ofNat]; omega
  case answer =>
    refine congrArg Host.Outcome.next ((h.finish rfl).trans ?_)
    rfl

/-! ### The swap and the comeback (R388, R400, R407) -/

theorem exec_pairSwap_accepted (h : s.Accepts Cmd.pairSwap rq) :
    exec (.pairSwap rq) s = .next (
      if s.paired = false then (s.receive rq).refuse Cmd.pairSwap rq 0x0C03 0xFFFF 0
      else if s.swapPendingNow = true then (s.receive rq).refuse Cmd.pairSwap rq 0x0C06 0xFFFF 0
      else if s.pairSilent = true ∨ s.peerRole ≠ .standby then (s.receive rq).refuse Cmd.pairSwap rq 0x0C04 0xFFFF 0
      else if s.owner = false ∨ s.swapBlocked = true then (s.receive rq).refuse Cmd.pairSwap rq 0x0C05 0xFFFF 0
      else State.reply ((s.receive rq).acceptSwap false) Cmd.pairSwap rq 0 []) := by
  refine congrArg Host.Outcome.next ((h.finish rfl).trans ?_)
  simp only [Served.finish_refuseIf, Served.finish_done, Bool.not_eq_true', Bool.or_eq_true, bne_iff_ne]
  rfl

theorem exec_pairReadmit_accepted (h : s.Accepts Cmd.pairReadmit rq) :
    exec (.pairReadmit rq) s = .next (
      if s.paired = false then (s.receive rq).refuse Cmd.pairReadmit rq 0x0C03 0xFFFF 0
      else if s.pr.role ≠ .quarantined then (s.receive rq).refuse Cmd.pairReadmit rq 0x0C07 0xFFFF 0
      else if s.pairSilent = true ∨ s.peerRole.owns = false then (s.receive rq).refuse Cmd.pairReadmit rq 0x0C08 0xFFFF 0
      else State.reply (State.canModes (State.setRole { s.receive rq with pr := { (s.receive rq).pr with
          sync := some .retain, markersSeen := [], sigClean := false
          stat := { (s.receive rq).pr.stat with RETAIN_SYNCED := 0#1, SYNC_PCT := 0#8 } } } .syncing)) Cmd.pairReadmit rq 0 []) := by
  refine congrArg Host.Outcome.next ((h.finish rfl).trans ?_)
  simp only [Served.finish_refuseIf, Served.finish_done, Bool.not_eq_true', Bool.or_eq_true, bne_iff_ne]
  rfl

/-! ### Clearing (R406) -/

/-- What PAIR_CLEAR leaves of the pair, by its mask. -/
theorem exec_pairClear_clears {m : BitVec 8} (h : s.Accepts Cmd.pairClear rq) (hm : BitVec.ofNat 8 (rq.u8 0) = m) :
    exec (.pairClear rq) s = .next (State.answered { s with pr := { s.pr with
      stat :=
        let x := if m.getLsbD 0 then s.pr.stat.cleared else s.pr.stat
        let x := if m.getLsbD 1 then { x with YIELD_FAULT := 0#1 } else x
        if m.getLsbD 2 then { x with DIVERGE_FAULT := 0#1 } else x
      diverge := if m.getLsbD 2 then [] else s.pr.diverge } } Cmd.pairClear rq []) := by
  subst hm
  refine congrArg Host.Outcome.next ((h.finish rfl).trans ?_)
  rfl

theorem exec_pairClear_all (h : s.Accepts Cmd.pairClear rq) (all : rq.u8 0 = 7) :
    exec (.pairClear rq) s = .next (State.answered { s with pr := { s.pr with
      stat := { s.pr.stat.cleared with YIELD_FAULT := 0#1, DIVERGE_FAULT := 0#1 }, diverge := [] } } Cmd.pairClear rq []) :=
  exec_pairClear_clears (m := 7#8) h (by rw [all])

theorem exec_pairClear_counters (h : s.Accepts Cmd.pairClear rq) (counters : rq.u8 0 = 1) :
    exec (.pairClear rq) s = .next (State.answered { s with pr := { s.pr with stat := s.pr.stat.cleared } } Cmd.pairClear rq []) :=
  exec_pairClear_clears (m := 1#8) h (by rw [counters])

end PairCommands

/-- Settles O39: each command ends in its answer or in the first refusal that applies. That PAIR_SWAP of a module that is no owner is refused
with 0x0C05 is the model's reading, and LINK_LOAD_PM is a free value by its choice (log 145). -/
theorem pairCommandsAnswer : Obligations.PairCommandsAnswer :=
  ⟨fun _ _ _ => exec_pairSet_accepted, fun _ _ => exec_pairGet_answers_descriptor, fun _ _ => exec_pairStatus_answers_status,
    fun _ _ => exec_pairSwap_accepted, fun _ _ => exec_pairReadmit_accepted, fun _ _ => exec_pairClear_all, fun _ _ => exec_pairClear_counters⟩

section PairEvents

variable {s u : State} {a : Nat}

/-! ### Heartbeat and PEER_OK (R377, R378) -/

theorem exec_heartbeatSend_beats (up : s.linkUp = true) (due : s.pr.heartbeatAt + us 50 ≤ s.now) :
    ∃ t : State, exec .heartbeatSend s = .next t ∧ t.pr.heartbeatAt = s.now ∧ t.pr.peerOkOut = (s.pr.role != .none && s.pr.role != .quarantined) ∧
      t.pr.out = .heartbeat (State.beat (s.pairSend (.config s.configReport))) :: .config s.configReport :: s.pr.out :=
  ⟨_, congrArg Host.Outcome.next (if_pos (by simp [up, State.since_of due])), rfl, rfl, rfl⟩

theorem exec_peerOkDrop_drops (late : s.pr.heartbeatAt + us 75 ≤ s.now) :
    exec .peerOkDrop s = .next { s with pr := { s.pr with peerOkOut := false } } :=
  congrArg Host.Outcome.next (if_pos (State.since_of late))

theorem exec_peerOkTestPulse_pulses (up : s.linkUp = true) (owner : s.pr.role.owns = true) (due : s.pr.pulseAt + sec 1 ≤ s.now) :
    exec .peerOkTestPulse s = .next
      { s.pairSend (.testPulse true) with pr := { (s.pairSend (.testPulse true)).pr with pulseAt := s.now, pulseLow := some s.now } } :=
  congrArg Host.Outcome.next (if_pos (by simp [up, owner, State.since_of due]))

theorem exec_peerOkInLow_standby_acts (hu : { s with pr := { s.pr with peerOkIn := false } } = u) (paired : u.paired = true) (run : u.inRun = true)
    (silent : u.pairSilent = true) (role : u.pr.role = .standby) : exec .peerOkInLow s = .next u.standbyActs := by
  subst hu
  have standby : s.pr.role = .standby := role
  have pairRuns := Bool.eq_false_iff.mp (congrArg₂ (fun a b => !a || !b) paired run)
  refine congrArg Host.Outcome.next ((if_neg pairRuns).trans ((if_pos silent).trans ?_))
  simp only [standby]

theorem State.standbyActs_of_no_witness (off : s.pr.act.WITNESS_EN = 0#1) : s.standbyActs = s.takeover := if_neg (by simp [off])

theorem exec_peerOkInRise_ends_wait (hu : { s with pr := { s.pr with peerOkIn := true } } = u) (waits : u.pr.startWait.isSome = true)
    (silent : u.pairSilent = true) :
    exec .peerOkInRise s = .next { u.notReady with pr := { u.notReady.pr with stat := { u.pr.stat with PATH_FAULT := 1#1 } } } := by
  subst hu
  exact congrArg Host.Outcome.next (if_pos (congrArg₂ and waits silent))

/-! ### Frames and the link (R377, R382, R398) -/

theorem exec_pairFrameReceive_counts_bad_crc {msg : PairMsg} (up : s.linkUp = true) :
    exec (.pairFrameReceive false msg) s =
      .next { s with pr := { s.pr with stat := { s.pr.stat with LINK_CRC_ERR := sat s.pr.stat.LINK_CRC_ERR } } } :=
  congrArg Host.Outcome.next (if_neg (by simp [up]))

theorem exec_pairFrameReceive_takes {msg : PairMsg} (up : s.linkUp = true) :
    exec (.pairFrameReceive true msg) s = .next
      (State.takeFrame { s with pr := { s.pr with lastFrame := some s.now, witnessAt := none, witnessAsk := none } } msg) :=
  congrArg Host.Outcome.next (if_neg (by simp [up]))

/-- A module in RUN with a peer that it no longer hears. -/
structure State.HearsNoPeer (s : State) : Prop where
  paired : s.paired = true
  run    : s.inRun = true
  silent : s.pairSilent = true

theorem State.HearsNoPeer.active_alone (h : s.HearsNoPeer) (role : s.pr.role = .active) (high : s.pr.peerOkIn = true) :
    exec .pairLinkSilent s = .next s.pathFault.loseStandby := by
  refine congrArg Host.Outcome.next ((if_neg (by simp [h.paired, h.run, h.silent])).trans ?_)
  simp only [role, high, if_true]

theorem State.HearsNoPeer.syncing_stops (h : s.HearsNoPeer) (role : s.pr.role = .syncing) (low : s.pr.peerOkIn = false) :
    exec .pairLinkSilent s = .next s.ownerLost := by
  refine congrArg Host.Outcome.next ((if_neg (by simp [h.paired, h.run, h.silent])).trans ?_)
  simp only [role, low, Bool.false_eq_true, if_false]

theorem exec_pairLaneFail_alarms (up : s.linkUp = true) :
    exec .pairLaneFail s = .next (State.pairAlarm { s with pr := { s.pr with stat := { s.pr.stat with LANE_DOWN := 1#1 } } }) :=
  congrArg Host.Outcome.next (if_pos up)

/-! ### The witness (R383) -/

theorem exec_witnessReply_decides (asked : s.pr.witnessAt.isSome = true) (asks : s.asking = true) :
    exec (.witnessReply .confirm) s = .next s.confirmed ∧ exec (.witnessReply .deny) s = .next s.denied ∧
      exec (.witnessReply .unknown) s = .next s.denied :=
  have waits : (s.pr.witnessAt.isSome && s.asking) = true := by simp only [asked, asks, Bool.and_self]
  ⟨congrArg Host.Outcome.next (if_pos waits), congrArg Host.Outcome.next (if_pos waits), congrArg Host.Outcome.next (if_pos waits)⟩

theorem exec_witnessTimeout_decides (asks : s.asking = true) (asked : s.pr.witnessAt = some a)
    (late : a + us s.pr.act.WITNESS_TIMEOUT_US.toNat ≤ s.now) :
    exec .witnessTimeout s = .next (if s.pr.act.WITNESS_REQUIRED = 0#1 then s.confirmed else s.denied) := by
  refine congrArg Host.Outcome.next ((if_pos (by simp [asks, State.ran_of asked late])).trans ?_)
  simp only [beq_iff_eq]

theorem exec_witnessRetry_asks (asks : s.asking = true) (none : s.pr.witnessAt = none) (asked : s.pr.witnessAsk = some a) (late : a + ms 10 ≤ s.now) :
    exec .witnessRetry s = .next s.askWitness :=
  congrArg Host.Outcome.next (if_pos (by simp [asks, none, State.ran_of asked late]))

theorem exec_witnessPresenceFrame_sends (up : s.linkUp = true) (witness : s.pr.act.WITNESS_EN = 1#1) :
    exec .witnessPresenceFrame s =
      .next (s.sendFrames [leBytes 2 s.sys.straps.addr.toNat ++ [BitVec.ofNat 8 s.pr.role.num] ++ leBytes 8 s.pr.epoch.toNat]) :=
  congrArg Host.Outcome.next (if_pos (by simp [up, witness]))

theorem exec_witnessSilenceConfirm_confirms {asker peer silent : BitVec 16} (query : s.pr.witnessFor = [(asker, peer, silent, a)])
    (late : ((s.pr.presence.lookup peer).getD 0) + us silent.toNat ≤ s.now) :
    exec .witnessSilenceConfirm s = .next (State.answerWitness { s with pr := { s.pr with witnessFor := [] } } asker 0) := by
  refine congrArg Host.Outcome.next ?_
  simp only [query, List.partition_eq_filter_filter, List.filter_cons, List.filter_nil, State.since_of late, if_true, Function.comp_apply, Bool.not_true,
    Bool.false_eq_true, if_false, List.foldl_cons, List.foldl_nil]

/-! ### Mirroring, swaps and the comeback (R379, R388, R389, R397) -/

theorem exec_mirrorLoopSend_mirrors {n : Fin 256} (runs : s.runsLoops = true) (mirrors : s.mirrors = true) (used : (s.loop n).desc.LAW ≠ 0#8)
    (due : (s.loop n).mirrorAt + us 100 ≤ s.now) :
    exec (.mirrorLoopSend n) s = .next (State.mirror (s.setLoop n { s.loop n with mirrorAt := s.now })
      (.loop n (s.loop n).slot (s.loop n).stat.ACTIVE_BANK (s.loop n).bankA (s.loop n).bankB)) :=
  congrArg Host.Outcome.next (if_pos (by simp [runs, mirrors, used, State.since_of due]))

/-- An owner in RUN that swaps by time, with no swap accepted or under way. -/
structure State.SwapsByTime (s : State) : Prop where
  run   : s.inRun = true
  paired : s.paired = true
  owner : s.pr.role.owns = true
  mode  : s.pr.act.SWAP_MODE = 0#8
  idle  : s.swapPendingNow = false

theorem State.SwapsByTime.starts (h : s.SwapsByTime) (retry : s.pr.retryAt = none) (clean : s.pr.stat.DIVERGE_FAULT = 0#1)
    (due : s.pr.lastSwapAt + sec (60 * s.pr.act.SWAP_PERIOD_MIN.toNat) ≤ s.now) :
    exec .swapStart s = .next (if s.swapBlocked = true then s.postponeSwap false else s.acceptSwap false) :=
  congrArg Host.Outcome.next (if_pos (by simp [h.run, h.paired, h.owner, h.mode, h.idle, retry, clean, State.since_of due]))

theorem State.SwapsByTime.retries (h : s.SwapsByTime) (retry : s.pr.retryAt = some a) (due : a ≤ s.now) (timed : s.pr.swapByReq = false) :
    exec .swapRetry s = .next (State.trySwap { s with pr := { s.pr with retryAt := none } } false) := by
  refine congrArg Host.Outcome.next
    ((if_pos (by simp [h.run, h.paired, h.owner, h.mode, h.idle, State.ran_of (t := 0) retry due])).trans ((if_neg (by simp [timed])).trans ?_))
  exact congrArg _ timed

theorem exec_swapAxisWaitTimeout_postpones (waits : s.pr.swapWait = some a) (late : a + sec 60 ≤ s.now) :
    exec .swapAxisWaitTimeout s = .next (s.postponeSwap s.pr.swapByReq) :=
  congrArg Host.Outcome.next (if_pos (State.ran_of waits late))

theorem exec_syncBulkComplete_second_pass {x : SyncStep} (sync : s.pr.sync = some x) (peer : s.owner = false) (role : s.pr.role = .syncing) :
    exec .syncBulkComplete s = .next { s with pr := { s.pr with sync := some .secondPass, markersSeen := [] } } := by
  refine congrArg Host.Outcome.next ?_
  simp only [sync]
  exact (if_neg (by simp [peer])).trans (if_pos (by simp [role]))

theorem exec_syncComplete_standby (run : s.inRun = true) (role : s.pr.role = .syncing) (sync : s.pr.sync = some .secondPass)
    (clean : s.pr.sigClean = true) (markers : (((idx 128).filter fun t => (s.task t).desc.KIND != 0#8).all s.pr.markersSeen.contains) = true) :
    exec .syncComplete s =
      .next (State.setRole { s with pr := { s.pr with sync := none, stat := { s.pr.stat with SYNC_PCT := 100#8 } } } .standby) := by
  refine congrArg Host.Outcome.next (if_pos ?_)
  simp only [run, role, sync, clean, markers, beq_self_eq_true, Bool.and_self]

/-- A new owner's epoch is above both. -/
theorem State.raiseEpoch_epoch {old : Role} (least : s.pr.peerEpoch.toNat ≤ s.pr.epoch.toNat) : (s.raiseEpoch old).pr.epoch = s.pr.epoch + 1 := by
  simp only [State.raiseEpoch, State.event_recorded.pr, if_neg (Nat.not_lt.mpr least)]
  split <;> rfl

end PairEvents

/-- Settles O40: each event under its condition has its effect. The model's choices: a configuration report goes out with each heartbeat (log 142),
when a low or high PEER_OK counts as PATH_FAULT (log 143), the period of swaps and the delay of a blocked one (log 144), SYNC_PCT's steps and what
a marker applies (log 145), and that WITNESS_LOST is cleared when the witness confirms (log 146). -/
theorem heartbeatFramesAndWitnessMove : Obligations.HeartbeatFramesAndWitnessMove :=
  ⟨fun _ => exec_heartbeatSend_beats, fun _ => exec_peerOkDrop_drops, fun _ => exec_peerOkTestPulse_pulses,
    fun _ _ => exec_peerOkInLow_standby_acts, fun _ => State.standbyActs_of_no_witness, fun _ _ => exec_peerOkInRise_ends_wait,
    fun _ _ => exec_pairFrameReceive_counts_bad_crc, fun _ _ => exec_pairFrameReceive_takes,
    fun _ paired run silent => State.HearsNoPeer.active_alone ⟨paired, run, silent⟩,
    fun _ paired run silent => State.HearsNoPeer.syncing_stops ⟨paired, run, silent⟩,
    fun _ => exec_pairLaneFail_alarms, fun _ => exec_witnessReply_decides, fun _ _ => exec_witnessTimeout_decides,
    fun _ _ => exec_witnessRetry_asks, fun _ => exec_witnessPresenceFrame_sends, fun _ _ _ _ _ => exec_witnessSilenceConfirm_confirms,
    fun _ _ => exec_mirrorLoopSend_mirrors,
    fun _ run paired owner mode idle => State.SwapsByTime.starts ⟨run, paired, owner, mode, idle⟩,
    fun _ _ run paired owner mode idle => State.SwapsByTime.retries ⟨run, paired, owner, mode, idle⟩,
    fun _ _ => exec_swapAxisWaitTimeout_postpones, fun _ _ => exec_syncBulkComplete_second_pass, fun _ => exec_syncComplete_standby,
    fun _ _ => State.raiseEpoch_epoch⟩

end Sys2Proof.Machine
end

section
/-! PROOFS. The log body (R414): the record that each slot holds, the lowest free slot, the oldest record of a severity, and the place of a
flushed record. -/

namespace Sys2Proof.Machine

set_option Elab.async false

/-- The record that a list of occupied slots has for a slot. -/
def recordIn (l : List (Nat × FlowRec)) (i : Nat) : Option FlowRec := (l.find? fun e => e.1 == i).map (·.2)

theorem Flow.at_eq (f : Flow) (i : Nat) : f.at i = recordIn f.log i := rfl

section Slots

variable {l : List (Nat × FlowRec)} {lo i j : Nat} {q r : FlowRec}

@[simp] theorem recordIn_nil : recordIn [] i = none := rfl

@[simp] theorem recordIn_cons : recordIn ((j, q) :: l) i = if j = i then some q else recordIn l i := by
  by_cases h : j = i <;> simp [recordIn, h]

/-- Slots that rise from one on leave those below it free. -/
theorem recordIn_eq_none_of_lt (rise : slotsRise lo l = true) (below : i < lo) : recordIn l i = none := by
  induction l generalizing lo with
  | nil => rfl
  | cons e t ih =>
    obtain ⟨k, q⟩ := e
    simp only [slotsRise, Bool.and_eq_true, decide_eq_true_eq] at rise
    obtain ⟨⟨least, _⟩, rest⟩ := rise
    rw [recordIn_cons, if_neg (by omega)]
    exact ih rest (by omega)

/-- Where slots rise, each holds the one record that the list has for it. -/
theorem recordIn_eq_some_iff (rise : slotsRise lo l = true) : recordIn l i = some q ↔ (i, q) ∈ l := by
  induction l generalizing lo with
  | nil => simp
  | cons e t ih =>
    obtain ⟨k, x⟩ := e
    simp only [slotsRise, Bool.and_eq_true, decide_eq_true_eq] at rise
    obtain ⟨_, rest⟩ := rise
    rw [recordIn_cons, List.mem_cons, Prod.mk.injEq]
    split
    case isTrue same =>
      have later : (i, q) ∉ t := fun m => absurd (slotsRise_lt rest m).1 (by omega)
      simp [same, later, eq_comm]
    case isFalse other => rw [ih rest]; simp [Ne.symm other]

/-- A record put into a slot is the record of that slot, and of no other. -/
theorem recordIn_logPut : recordIn (logPut l i r) j = if i = j then some r else recordIn l j := by
  induction l with
  | nil => simp [logPut]
  | cons e t ih =>
    obtain ⟨k, q⟩ := e
    rw [logPut]
    split
    · rw [recordIn_cons]
    · split
      case isTrue same => subst same; simp only [recordIn_cons]; split <;> rfl
      case isFalse other =>
        simp only [recordIn_cons, ih]
        by_cases k = j <;> simp_all

/-- The lowest free slot is free, and no slot below it is. -/
theorem firstFree_lowest (rise : slotsRise lo l = true) :
    lo ≤ firstFree lo l ∧ recordIn l (firstFree lo l) = none ∧ ∀ j, lo ≤ j → j < firstFree lo l → recordIn l j ≠ none := by
  induction l generalizing lo with
  | nil => exact ⟨Nat.le_refl _, rfl, fun j h1 h2 => absurd h1 (Nat.not_le.mpr h2)⟩
  | cons e t ih =>
    obtain ⟨k, q⟩ := e
    have whole := rise
    simp only [slotsRise, Bool.and_eq_true, decide_eq_true_eq] at rise
    obtain ⟨⟨least, _⟩, rest⟩ := rise
    rw [firstFree]
    split
    case isTrue same =>
      subst same
      obtain ⟨above, free, taken⟩ := ih rest
      refine ⟨by omega, by rw [recordIn_cons, if_neg (by omega)]; exact free, fun j h1 h2 => ?_⟩
      rw [recordIn_cons]
      split
      · simp
      · exact taken j (by omega) h2
    case isFalse other =>
      refine ⟨Nat.le_refl _, ?_, fun j h1 h2 => absurd h1 (Nat.not_le.mpr h2)⟩
      rw [recordIn_cons, if_neg other]
      exact recordIn_eq_none_of_lt rest (by omega)

theorem firstFree_eq (rise : slotsRise 0 l = true) (free : recordIn l i = none) (taken : ∀ j, j < i → recordIn l j ≠ none) : firstFree 0 l = i := by
  obtain ⟨_, lowest, below⟩ := firstFree_lowest rise
  rcases Nat.lt_trichotomy (firstFree 0 l) i with h | h | h
  · exact absurd lowest (taken _ h)
  · exact h
  · exact absurd free (below i (Nat.zero_le _) h)

theorem logSlots_le_firstFree (rise : slotsRise 0 l = true) (full : ∀ j, j < logSlots → recordIn l j ≠ none) : ¬ firstFree 0 l < logSlots :=
  fun h => full _ h (firstFree_lowest rise).2.1

end Slots

section Victims

variable {l : List (Nat × FlowRec)} {sev v : Nat} {e x : Nat × FlowRec}

/-- The older of a record and the oldest one so far. -/
def olderOf (best : Option (Nat × FlowRec)) (e : Nat × FlowRec) : Option (Nat × FlowRec) :=
  match best with
  | none => some e
  | some b => if e.2.SEQ.toNat < b.2.SEQ.toNat then some e else some b

theorem oldestOf_eq_foldl : oldestOf sev l = (l.filter fun e => e.2.SEVERITY.toNat == sev).foldl olderOf none := rfl

/-- The oldest of a record and of a list exists and is no younger than either. -/
theorem foldl_olderOf_some (l : List (Nat × FlowRec)) (b : Nat × FlowRec) :
    ∃ x, l.foldl olderOf (some b) = some x ∧ x.2.SEQ.toNat ≤ b.2.SEQ.toNat ∧ ∀ e ∈ l, x.2.SEQ.toNat ≤ e.2.SEQ.toNat := by
  induction l generalizing b with
  | nil => exact ⟨b, rfl, Nat.le_refl _, by simp⟩
  | cons e t ih =>
    rw [List.foldl_cons]
    by_cases older : e.2.SEQ.toNat < b.2.SEQ.toNat
    · obtain ⟨x, hx, hb, ht⟩ := ih e
      refine ⟨x, by rw [olderOf, if_pos older]; exact hx, by omega, ?_⟩
      simp only [List.mem_cons, forall_eq_or_imp]
      exact ⟨hb, ht⟩
    · obtain ⟨x, hx, hb, ht⟩ := ih b
      refine ⟨x, by rw [olderOf, if_neg older]; exact hx, hb, ?_⟩
      simp only [List.mem_cons, forall_eq_or_imp]
      exact ⟨by omega, ht⟩

/-- A severity that is present has an oldest record, no younger than any of that severity. -/
theorem oldestOf_of_mem (mem : e ∈ l) (same : e.2.SEVERITY.toNat = sev) :
    ∃ x, oldestOf sev l = some x ∧ ∀ y ∈ l, y.2.SEVERITY.toNat = sev → x.2.SEQ.toNat ≤ y.2.SEQ.toNat := by
  have found : e ∈ l.filter fun e => e.2.SEVERITY.toNat == sev := by simp [mem, same]
  have among : ∀ y, y ∈ l → y.2.SEVERITY.toNat = sev → y ∈ l.filter fun e => e.2.SEVERITY.toNat == sev := by simp_all
  rw [oldestOf_eq_foldl]
  generalize (l.filter fun e => e.2.SEVERITY.toNat == sev) = m at found among
  cases m with
  | nil => cases found
  | cons b t =>
    obtain ⟨x, hx, hb, ht⟩ := foldl_olderOf_some t b
    refine ⟨x, hx, fun y my sy => ?_⟩
    rcases List.mem_cons.mp (among y my sy) with h | h
    · exact h ▸ hb
    · exact ht y h

theorem oldestOf_eq_none (absent : ∀ e ∈ l, e.2.SEVERITY.toNat ≠ sev) : oldestOf sev l = none := by
  rw [oldestOf_eq_foldl, List.filter_eq_nil_iff.mpr (by simpa using absent)]
  rfl

/-- What is overwritten is the oldest record of the lowest severity present, up to the new record's own. -/
theorem victimOf_eq_some (most : v ≤ sev) (absent : ∀ e ∈ l, v ≤ e.2.SEVERITY.toNat) (oldest : oldestOf v l = some x) : victimOf sev l = some x := by
  rw [victimOf, List.head?_filterMap, List.findSome?_eq_some_iff]
  refine ⟨List.range v, v, (List.range (sev - v)).map (v + 1 + ·), ?_, oldest, fun u hu => ?_⟩
  · rw [show sev + 1 = v + 1 + (sev - v) by omega, List.range_add, List.range_succ, List.append_assoc, List.singleton_append]
  · exact oldestOf_eq_none fun e m => by have := absent e m; have := List.mem_range.mp hu; omega

theorem victimOf_eq_none (higher : ∀ e ∈ l, sev < e.2.SEVERITY.toNat) : victimOf sev l = none := by
  rw [victimOf, List.head?_filterMap, List.findSome?_eq_none_iff]
  exact fun u hu => oldestOf_eq_none fun e m => by have := higher e m; have := List.mem_range.mp hu; omega

end Victims

section Place

variable {f : Flow} {r v q : FlowRec} {i : Nat}

/-! ### The three ways of a flushed record -/

theorem Flow.place_of_free (free : firstFree 0 f.log < logSlots) : f.place r = { f with log := logPut f.log (firstFree 0 f.log) r } := if_pos free

theorem Flow.place_of_victim (full : ¬ firstFree 0 f.log < logSlots) (victim : victimOf r.SEVERITY.toNat f.log = some (i, v)) :
    f.place r = { f with log := logPut f.log i r, stat := { f.stat with
      OVERWRITTEN := upd f.stat.OVERWRITTEN v.SEVERITY.toFin sat, LAST_OVERWRITE_SEQ := v.SEQ.setWidth 64 } } := by
  simp only [Flow.place, if_neg full, victim]

theorem Flow.place_of_no_victim (full : ¬ firstFree 0 f.log < logSlots) (none : victimOf r.SEVERITY.toNat f.log = none) :
    f.place r = { f with stat := { f.stat with
      DROPPED_FULL := upd f.stat.DROPPED_FULL r.SEVERITY.toFin sat, DROP_SEEN := 1#1 } } := by
  simp only [Flow.place, if_neg full, none]

/-- The record that holds the oldest lowest place is the one that is overwritten. -/
theorem Flow.OldestLowest.is_victim (h : f.OldestLowest i v) (rise : slotsRise 0 f.log = true) {sev : Nat} (most : v.SEVERITY.toNat ≤ sev) :
    victimOf sev f.log = some (i, v) := by
  obtain ⟨holds, lowest, oldest⟩ := h
  have mem : (i, v) ∈ f.log := (recordIn_eq_some_iff rise).mp holds
  have held : ∀ {j x}, (j, x) ∈ f.log → f.at j = some x := (recordIn_eq_some_iff rise).mpr
  obtain ⟨⟨j, x⟩, found, least⟩ := oldestOf_of_mem mem rfl
  obtain ⟨memx, same⟩ := oldestOf_mem found
  have slot : j = i := by
    by_contra other
    have younger := oldest j x other (held memx) (BitVec.eq_of_toNat_eq same)
    have := least (i, v) mem rfl
    simp only at this
    omega
  have record : x = v := by
    have := held memx
    rw [slot, holds] at this
    exact (Option.some.inj this).symm
  subst slot record
  exact victimOf_eq_some most (fun e m => lowest e.1 e.2 (held m)) found

/-! ### Where the record goes (R414) -/

theorem Flow.place_lowest_free (rise : slotsRise 0 f.log = true) (slot : i < logSlots) (free : f.at i = none) (taken : ∀ j, j < i → f.at j ≠ none) :
    (f.place r).at i = some r ∧ (∀ j, j ≠ i → (f.place r).at j = f.at j) ∧ (f.place r).stat = f.stat := by
  have first : firstFree 0 f.log = i := firstFree_eq rise free taken
  rw [Flow.place_of_free (by rw [first]; exact slot), first]
  refine ⟨?_, fun j other => ?_, rfl⟩
  · rw [Flow.at_eq, recordIn_logPut, if_pos rfl]
  · rw [Flow.at_eq, recordIn_logPut, if_neg other.symm, Flow.at_eq]

theorem Flow.place_overwrites (rise : slotsRise 0 f.log = true) (full : ∀ j, j < logSlots → f.at j ≠ none) (victim : f.OldestLowest i v)
    (most : v.SEVERITY.toNat ≤ r.SEVERITY.toNat) :
    (f.place r).at i = some r ∧ (∀ j, j ≠ i → (f.place r).at j = f.at j) ∧
    (f.place r).stat = { f.stat with
      OVERWRITTEN := upd f.stat.OVERWRITTEN v.SEVERITY.toFin sat, LAST_OVERWRITE_SEQ := v.SEQ.setWidth 64 } := by
  rw [Flow.place_of_victim (logSlots_le_firstFree rise full) (victim.is_victim rise most)]
  refine ⟨?_, fun j other => ?_, rfl⟩
  · rw [Flow.at_eq, recordIn_logPut, if_pos rfl]
  · rw [Flow.at_eq, recordIn_logPut, if_neg other.symm, Flow.at_eq]

theorem Flow.place_drops (rise : slotsRise 0 f.log = true) (full : ∀ j, j < logSlots → f.at j ≠ none)
    (higher : ∀ j q, f.at j = some q → r.SEVERITY.toNat < q.SEVERITY.toNat) :
    (∀ j, (f.place r).at j = f.at j) ∧
    (f.place r).stat = { f.stat with DROPPED_FULL := upd f.stat.DROPPED_FULL r.SEVERITY.toFin sat, DROP_SEEN := 1#1 } := by
  have none : victimOf r.SEVERITY.toNat f.log = none := victimOf_eq_none fun e m => higher e.1 e.2 ((recordIn_eq_some_iff rise).mpr m)
  rw [Flow.place_of_no_victim (logSlots_le_firstFree rise full) none]
  exact ⟨fun _ => rfl, rfl⟩

/-- A record never overwrites one of higher severity: the slot it takes was free, or held a record of no higher severity. -/
theorem Flow.place_keeps_higher (rise : slotsRise 0 f.log = true) (held : f.at i = some q) (higher : r.SEVERITY.toNat < q.SEVERITY.toNat) :
    (f.place r).at i = some q := by
  have stands : ∀ {k}, k ≠ i → recordIn (logPut f.log k r) i = some q := fun other => by rw [recordIn_logPut, if_neg other]; exact held
  by_cases free : firstFree 0 f.log < logSlots
  · rw [Flow.place_of_free free]
    refine stands fun same => ?_
    have empty := (firstFree_lowest rise).2.1
    rw [same, ← Flow.at_eq, held] at empty
    cases empty
  · cases victim : victimOf r.SEVERITY.toNat f.log with
    | none => rw [Flow.place_of_no_victim free victim]; exact held
    | some e =>
      rw [Flow.place_of_victim free victim]
      refine stands fun same => ?_
      obtain ⟨mem, low⟩ := victimOf_mem victim
      have lost := (recordIn_eq_some_iff rise).mpr mem
      rw [same, ← Flow.at_eq, held] at lost
      cases lost
      omega

end Place

/-- Settles O57, by the lowest free slot of rising slots and the oldest record of the lowest severity present. That DROP_SEEN is set with
DROPPED_FULL is R419. -/
theorem fullLogPlacement : Obligations.FullLogPlacement :=
  ⟨rfl, fun _ _ _ => Flow.place_lowest_free, fun _ _ _ _ => Flow.place_overwrites, fun _ _ => Flow.place_drops, fun _ _ _ _ => Flow.place_keeps_higher⟩

end Sys2Proof.Machine
end

section
/-! PROOFS. The event recorder (chapter 17): its commands, notes, task records, flushes, compaction and the exported stream. -/

namespace Sys2Proof.Machine

set_option Elab.async false

@[simp] theorem State.receive_flowStatus (s : State) (rq : Request) : (s.receive rq).flowStatus = s.flowStatus := rfl

section RecorderCommands

variable {s : State} {rq : Request}

/-! ### Descriptor, status and flush (R412, R418, R419) -/

theorem exec_flowSet_accepted {d : FlowDesc} (h : s.Accepts Cmd.flowSet rq) (hd : FlowDesc.ofBytes rq.payload = d) :
    exec (.flowSet rq) s = .next (
      if d.inRange = true then State.answered { s with flow := { s.flow with desc := d } } Cmd.flowSet rq []
      else (s.receive rq).refuse Cmd.flowSet rq 0x0D01 0xFFFF 0) := by
  subst hd
  exact congrArg Host.Outcome.next ((h.finish rfl).trans Served.finish_refuseIf_not)

theorem exec_flowGet_answers_descriptor (h : s.Accepts Cmd.flowGet rq) :
    exec (.flowGet rq) s = .next (s.answered Cmd.flowGet rq s.flow.desc.toBytes) :=
  congrArg Host.Outcome.next (h.done rfl rfl)

theorem exec_flowStatus_answers_status (h : s.Accepts Cmd.flowStatus rq) :
    exec (.flowStatus rq) s = .next (s.answered Cmd.flowStatus rq s.flowStatus) :=
  congrArg Host.Outcome.next (h.done rfl rfl)

theorem exec_flowFlush_waits (h : s.Accepts Cmd.flowFlush rq) :
    exec (.flowFlush rq) s = .next { s.receive rq with
      flow := Flow.trigger { s.flow with flushRqsNext := s.flow.flushRqsNext ++ [rq] } s.now } :=
  congrArg Host.Outcome.next (h.later rfl rfl)

theorem exec_flowClear_clears (h : s.Accepts Cmd.flowClear rq) :
    exec (.flowClear rq) s = .next (State.answered { s with flow := { s.flow with
      stat := { FlowStat.dflt with LAST_OVERWRITE_SEQ := s.flow.stat.LAST_OVERWRITE_SEQ } } } Cmd.flowClear rq []) :=
  congrArg Host.Outcome.next (h.done rfl rfl)

/-! ### Reading (R416) -/

theorem exec_flowRead_answers {rs : List FlowRec} (h : s.Accepts Cmd.flowRead rq) (least : 1 ≤ rq.u8 9) (most : rq.u8 9 ≤ 63) (sev : rq.u8 8 ≤ 7)
    (hrs : (s.flow.gather (rq.u64 0) s.flow.headSeq (rq.u8 8)).take (rq.u8 9) = rs) :
    exec (.flowRead rq) s = .next (s.answered Cmd.flowRead rq (FlowReadHead.toBytes { FlowReadHead.dflt with
      HEAD_SEQ := BitVec.ofNat 64 s.flow.headSeq, COUNT := BitVec.ofNat 8 rs.length,
      OVERWRITE_TOTAL := BitVec.ofNat 32 s.flow.overwriteTotal } ++ rs.flatMap FlowRec.toBytes)) := by
  subst hrs
  have range : (rq.u8 9 == 0 || decide (63 < rq.u8 9) || decide (7 < rq.u8 8)) = false := by simp; omega
  exact congrArg Host.Outcome.next (h.done rfl (refuseIf_of_false range))

theorem exec_flowRead_refuses_range (h : s.Accepts Cmd.flowRead rq) (beyond : rq.u8 9 = 0 ∨ 63 < rq.u8 9 ∨ 7 < rq.u8 8) :
    exec (.flowRead rq) s = .next ((s.receive rq).refuse Cmd.flowRead rq 0x0D01 0xFFFF 0) := by
  have range : (rq.u8 9 == 0 || decide (63 < rq.u8 9) || decide (7 < rq.u8 8)) = true := by simp [or_assoc, beyond]
  exact congrArg Host.Outcome.next (h.refused rfl (refuseIf_of_true range))

/-! ### The exported stream (R417) -/

/-- An accepted FLOW_EXPORT whose sequence numbers and severity are in range. -/
structure State.Exports (s : State) (rq : Request) : Prop where
  accepts : s.Accepts Cmd.flowExport rq
  order   : rq.u64 0 ≤ rq.u64 8
  sev     : rq.u8 16 ≤ 7

theorem State.Exports.inRange (h : s.Exports rq) : (decide (rq.u64 8 < rq.u64 0) || decide (7 < rq.u8 16)) = false := by
  have := h.order; have := h.sev
  simp; omega

@[simp] theorem State.receive_exportMore (x : Export) : (s.receive rq).exportMore x = s.exportMore x := rfl
@[simp] theorem State.receive_exportStart : (s.receive rq).exportStart rq = s.exportStart rq := rfl

/-- Gathering the stream on answers nothing yet. -/
theorem State.exportMore_next (x : Export) : (s.exportMore x).next = x.next := by
  unfold State.exportMore
  split
  · rfl
  · dsimp only
    split <;> rfl

/-- A call answers the next part, and at the end of a whole stream its holder is released. -/
theorem State.exportCall_eq {x e : Export} {part : List Byte} (he : s.exportMore x = e) (hp : (e.stream.drop e.next).take exportPart = part) :
    s.exportCall x = .done { s with flow := { s.flow with
      exp := if e.whole && e.stream.length ≤ e.next + part.length then none else some { e with next := e.next + part.length, lastAt := s.now } } } part := by
  subst he hp
  rfl

theorem State.Exports.begins {e : Export} {part : List Byte} (h : s.Exports rq) (free : s.flow.exp = none) (first : rq.u32 20 = 0)
    (he : s.exportMore (s.exportStart rq) = e) (hp : e.stream.take exportPart = part) :
    exec (.flowExport rq) s = .next (State.answered { s with flow := { s.flow with
      exp := if e.whole && e.stream.length ≤ e.next + part.length then none else some { e with next := e.next + part.length, lastAt := s.now } } }
      Cmd.flowExport rq part) := by
  have start : e.next = 0 := he ▸ State.exportMore_next _
  refine congrArg Host.Outcome.next (h.accepts.done rfl ((refuseIf_of_false h.inRange).trans ?_))
  simp only [State.receive_flow, free]
  exact (refuseIf_of_false (by simp [first])).trans (State.exportCall_eq (s := s.receive rq) he (by rw [start]; exact hp))

theorem State.Exports.continues {x e : Export} {part : List Byte} (h : s.Exports rq) (held : s.flow.exp = some x) (holder : x.session = rq.session)
    (next : rq.u32 20 = x.next) (he : s.exportMore x = e) (hp : (e.stream.drop e.next).take exportPart = part) :
    exec (.flowExport rq) s = .next (State.answered { s with flow := { s.flow with
      exp := if e.whole && e.stream.length ≤ e.next + part.length then none else some { e with next := e.next + part.length, lastAt := s.now } } }
      Cmd.flowExport rq part) := by
  refine congrArg Host.Outcome.next (h.accepts.done rfl ((refuseIf_of_false h.inRange).trans ?_))
  simp only [State.receive_flow, held]
  exact (refuseIf_of_false (by simp [holder])).trans ((if_pos next).trans (State.exportCall_eq (s := s.receive rq) he hp))

theorem State.Exports.refuses_other_session {x : Export} (h : s.Exports rq) (held : s.flow.exp = some x) (other : x.session ≠ rq.session) :
    exec (.flowExport rq) s = .next ((s.receive rq).refuse Cmd.flowExport rq 0x0D03 0xFFFF 0) := by
  refine congrArg Host.Outcome.next (h.accepts.refused rfl ((refuseIf_of_false h.inRange).trans ?_))
  simp only [State.receive_flow, held]
  exact refuseIf_of_true (by simp [other])

theorem State.Exports.ends_at_other_offset {x : Export} (h : s.Exports rq) (held : s.flow.exp = some x) (holder : x.session = rq.session)
    (gap : rq.u32 20 ≠ x.next) :
    exec (.flowExport rq) s = .next (State.refuse { s.receive rq with flow := { s.flow with exp := none } } Cmd.flowExport rq 0x0D04 0xFFFF 0) := by
  refine congrArg Host.Outcome.next ((h.accepts.refusedIn rfl ((refuseIf_of_false h.inRange).trans ?_)).trans rfl)
  simp only [State.receive_flow, held]
  exact (refuseIf_of_false (by simp [holder])).trans (if_neg gap)

/-! ### Notes (R410, R522) -/

/-- A note as FLOW_NOTE offers it. -/
def Request.note (rq : Request) : Note :=
  { sev := rq.u8 0, code := 0x0D80, session := rq.session.val, payload := (rq.payload.drop 4).take 32 }

theorem exec_flowNote_drops {d : StageDrop} {f : Flow} (h : s.Accepts Cmd.flowNote rq) (most : rq.u8 0 ≤ 3)
    (drop : s.flow.limit (rq.u8 0) s.now = some d) (hf : s.flow.noteDrop d = f) :
    exec (.flowNote rq) s = .next (State.answered { s with flow := f } Cmd.flowNote rq (leBytes 8 0)) := by
  subst hf
  refine congrArg Host.Outcome.next ((h.done rfl ((refuseIf_of_false (by simpa using most)).trans ?_)).trans rfl)
  simp only [State.receive_flow, State.receive_now, drop]
  rfl

theorem exec_flowNote_stages (h : s.Accepts Cmd.flowNote rq) (most : rq.u8 0 ≤ 3) (free : s.flow.limit (rq.u8 0) s.now = none) :
    exec (.flowNote rq) s = .next (State.reply ((s.receive rq).stageAt rq.note rq.rxTs) Cmd.flowNote rq 0 (leBytes 8 (s.flow.headSeq + 1))) := by
  refine congrArg Host.Outcome.next (h.done rfl ((refuseIf_of_false (by simpa using most)).trans ?_))
  simp only [State.receive_flow, State.receive_now, free, State.stageAt_headSeq]
  rfl

end RecorderCommands

section Limit

variable {f : Flow} {sev now : Nat}

/-! ### What keeps a record of a low severity out (R411) -/

theorem Flow.limit_of_filtered (low : sev ≤ 3) (filtered : sev < f.act.MIN_SEVERITY.toNat) : f.limit sev now = some .filter :=
  if_pos (by simp; omega)

theorem Flow.limit_of_rate (low : sev ≤ 3) (passes : f.act.MIN_SEVERITY.toNat ≤ sev)
    (rate : f.act.RATE_LIMIT.toNat ≤ (f.rate.filter fun t => now < t + sec 10).length) : f.limit sev now = some .rate :=
  (if_neg (by simp; omega)).trans (if_pos (by simp [rate]; omega))

theorem Flow.limit_of_room (passes : f.act.MIN_SEVERITY.toNat ≤ sev)
    (rate : (f.rate.filter fun t => now < t + sec 10).length < f.act.RATE_LIMIT.toNat) :
    f.limit sev now = if stagingFull ≤ f.staging.length then some .full else none :=
  (if_neg (by simp; omega)).trans (if_neg (by simp [rate]))

end Limit

/-- Settles O43, by the first limit of R411 that keeps the note out. That DROP_SEEN is set with each counter is R419; that it is set for a filtered
note too, and that the window of RATE_LIMIT counts staging times, are the model's choices (log 148). -/
theorem notesThatAreNotStagedAnswerZero : Obligations.NotesThatAreNotStagedAnswerZero := by
  intro s rq n h most hn
  subst hn
  refine ⟨fun filtered => exec_flowNote_drops h most (Flow.limit_of_filtered most filtered) rfl,
    fun passes rate => exec_flowNote_drops h most (Flow.limit_of_rate most passes rate) rfl, fun passes rate full => ?_, fun passes rate room => ?_⟩
  · exact exec_flowNote_drops h most ((Flow.limit_of_room passes rate).trans (if_pos full)) rfl
  · have room : ¬ stagingFull ≤ s.flow.staging.length := by simp only [stagingFull]; omega
    exact ⟨exec_flowNote_stages h most ((Flow.limit_of_room passes rate).trans (if_neg room)), State.stageAt_headSeq .., Nat.succ_ne_zero _⟩

/-- Settles O41: each command ends in its answer or its refusal. That LAST_OVERWRITE_SEQ stands at FLOW_CLEAR is the model's reading, and that the
stream belongs to the session which started it is its choice (log 149). -/
theorem recorderCommandsAnswer : Obligations.RecorderCommandsAnswer :=
  ⟨fun _ _ _ => exec_flowSet_accepted, fun _ _ => exec_flowGet_answers_descriptor, fun _ _ => exec_flowStatus_answers_status,
    fun _ _ => exec_flowFlush_waits, fun _ _ _ => exec_flowRead_answers, fun _ _ => exec_flowRead_refuses_range,
    fun _ _ _ _ accepts free order sev => State.Exports.begins ⟨accepts, order, sev⟩ free,
    fun _ _ _ _ _ accepts held holder order sev => State.Exports.continues ⟨accepts, order, sev⟩ held holder,
    fun _ _ _ accepts held other order sev => State.Exports.refuses_other_session ⟨accepts, order, sev⟩ held other,
    fun _ _ _ accepts held holder order sev => State.Exports.ends_at_other_offset ⟨accepts, order, sev⟩ held holder, fun _ _ => exec_flowClear_clears⟩

section RecorderEvents

variable {s u : State} {t : Fin 128} {calls : List TaskRec} {x : TaskRec} {rest : List TaskRec}

/-! ### Task records (R410) -/

/-- What a task's records come to after its calls have been queued. -/
theorem exec_taskRecordMove_of_calls (hu : (if (s.task t).run = .running then calls.foldl (fun s x => s.queueRecord t x) s else s) = u) :
    ((u.task t).msgQueue = [] → exec (.taskRecordMove t calls) s = .next u) ∧
    ((u.task t).msgQueue = x :: rest → exec (.taskRecordMove t calls) s = .next ((u.setTask t fun k => { k with msgQueue := rest }).recordAt
      { sev := x.2.1.toNat, code := 0x03C0 + x.2.2.1.toNat % 64, inst := t.val, payload := leBytes 32 x.2.2.2.toNat } x.1)) := by
  simp only [← beq_iff_eq (a := (s.task t).run)] at hu
  constructor <;> intro queue <;> refine congrArg Host.Outcome.next ?_ <;> simp only [hu, queue]

theorem State.queueRecord_of_severity (most : x.2.1.toNat ≤ (if (s.task t).desc.SAFETY = 1#1 then 6 else s.flow.act.TASK_MAX_SEV.toNat)) :
    s.queueRecord t x =
      if 16 ≤ (s.task t).msgQueue.length then
        { s with flow := { s.flow with stat := { s.flow.stat with TASK_REC_DROP := sat s.flow.stat.TASK_REC_DROP, DROP_SEEN := 1#1 } } }
      else s.setTask t fun k => { k with msgQueue := k.msgQueue ++ [x] } :=
  if_neg (by simpa using most)

/-! ### Flushes (R412) -/

theorem exec_flowFlushPeriodic_flushes (runs : s.flowRuns = true) (due : s.flow.flushAt + sec 1 ≤ s.now) :
    exec .flowFlushPeriodic s = .next s.flushTrigger :=
  congrArg Host.Outcome.next (if_pos (by simp [runs, State.since_of due]))

theorem exec_flowFlushComplete_ends (flushing : s.flow.flushOn = true)
    (hu : s.flow.flushRqs.foldl (fun s rq => s.reply Cmd.flowFlush rq 0 []) s.flushEnds = u) :
    exec .flowFlushComplete s = .next (if s.flow.flushAgain = true then u.flushTrigger else u) := by
  subst hu
  exact congrArg Host.Outcome.next (if_pos flushing)

theorem exec_flowFlushComplete_places (flushing : s.flow.flushOn = true) (none : s.flow.flushRqs = []) (last : s.flow.flushAgain = false) :
    exec .flowFlushComplete s = .next { s with
      flow := { s.flow.flushing.foldl Flow.place s.flow with
        staging := (s.flow.flushing.foldl Flow.place s.flow).staging.drop (s.flow.flushing.foldl Flow.place s.flow).flushing.length
        flushing := [], flushOn := false, flushRqs := []
        stat := { (s.flow.flushing.foldl Flow.place s.flow).stat with FLUSH_COUNT := sat (s.flow.flushing.foldl Flow.place s.flow).stat.FLUSH_COUNT } }
      tm := { s.tm with lastTs := s.ts } } := by
  rw [exec_flowFlushComplete_ends flushing rfl, if_neg (by simp [last]), none]
  rfl

/-! ### Compaction, and the holder's time (R415, R417) -/

theorem exec_compactionPass_scans {bad : List Nat} (runs : s.flowRuns = true) (allowed : s.compactHeld = false)
    (due : s.flow.compactAt + sec 86400 ≤ s.now) :
    exec (.compactionPass bad) s = .next { s with flow := s.flow.scan (bad ++ s.flow.logBad) s.now } :=
  congrArg Host.Outcome.next (if_pos (by simp [runs, allowed, State.since_of due]))

theorem exec_compactionPass_held {bad : List Nat} (held : s.compactHeld = true) : exec (.compactionPass bad) s = .next s :=
  congrArg Host.Outcome.next (if_neg (by simp [held]))

theorem Flow.mem_scan_log {f : Flow} {bad : List Nat} {now k : Nat} {r : FlowRec} :
    (k, r) ∈ (f.scan bad now).log ↔ (k, r) ∈ f.log ∧ k ∉ bad ∧ r = r.seal := by
  simp [Flow.scan]

theorem exec_exportTimeout_releases {e : Export} (held : s.flow.exp = some e) (late : e.lastAt + sec 60 ≤ s.now) :
    exec .exportTimeout s = .next { s with flow := { s.flow with exp := none } } := by
  refine congrArg Host.Outcome.next ?_
  simp only [held]
  exact if_pos (State.since_of late)

end RecorderEvents

/-- Settles O42: the records of a task go to its queue and on, and each timer has its effect. That a full queue sets DROP_SEEN is the model's
choice (log 54), and so are the bad slots that a pass of compaction is told (log 149). -/
theorem recorderEventsComplete : Obligations.RecorderEventsComplete := by
  refine ⟨fun _ _ _ _ runs fold => ?none, fun _ _ _ _ _ _ runs fold => ?oldest, fun _ _ _ _ _ idle => ?idle, fun _ _ _ => State.queueRecord_of_severity,
    fun _ => exec_flowFlushPeriodic_flushes, fun _ => exec_flowFlushComplete_places, fun _ _ => exec_flowFlushComplete_ends,
    fun _ _ => exec_compactionPass_scans, fun _ _ => exec_compactionPass_held, fun _ _ _ _ _ => Flow.mem_scan_log, fun _ _ => exec_exportTimeout_releases⟩
  case none => exact (exec_taskRecordMove_of_calls (x := default) (rest := []) ((if_pos runs).trans fold)).1
  case oldest => exact (exec_taskRecordMove_of_calls ((if_pos runs).trans fold)).2
  case idle => exact (exec_taskRecordMove_of_calls (if_neg idle)).2

end Sys2Proof.Machine
end

section
/-! PROOFS. The panel unit (chapter 18): its commands, thermistor readings, and the start, frames and end of updates. -/

namespace Sys2Proof.Machine

set_option Elab.async false

@[simp] theorem State.receive_panelStatus (s : State) (rq : Request) : (s.receive rq).panelStatus = s.panelStatus := rfl

section PanelCommands

variable {s : State} {rq : Request}

/-! ### Descriptor, status and counters (R433, R434) -/

theorem exec_pnlSet_accepted {d : PanelDesc} (h : s.Accepts Cmd.pnlSet rq) (hd : PanelDesc.ofBytes rq.payload = d) :
    exec (.pnlSet rq) s = .next (
      if d.inRange = true then State.answered { s with pnl := { s.pnl with desc := d } } Cmd.pnlSet rq []
      else (s.receive rq).refuse Cmd.pnlSet rq 0x0E01 0xFFFF 0) := by
  subst hd
  exact congrArg Host.Outcome.next ((h.finish rfl).trans Served.finish_refuseIf_not)

theorem exec_pnlGet_answers_descriptor (h : s.Accepts Cmd.pnlGet rq) :
    exec (.pnlGet rq) s = .next (s.answered Cmd.pnlGet rq s.pnl.desc.toBytes) :=
  congrArg Host.Outcome.next (h.done rfl rfl)

theorem exec_pnlStatus_answers_status (h : s.Accepts Cmd.pnlStatus rq) :
    exec (.pnlStatus rq) s = .next (s.answered Cmd.pnlStatus rq s.panelStatus) :=
  congrArg Host.Outcome.next (h.done rfl rfl)

theorem exec_pnlClear_clears (h : s.Accepts Cmd.pnlClear rq) :
    exec (.pnlClear rq) s = .next (State.answered { s with pnl := { s.pnl with
      stat := { PanelStat.dflt with LAST_UPD_SEQ := s.pnl.stat.LAST_UPD_SEQ, LAST_UPD_TS := s.pnl.stat.LAST_UPD_TS } } } Cmd.pnlClear rq []) :=
  congrArg Host.Outcome.next (h.done rfl rfl)

/-! ### The waveform set (R424, R425) -/

theorem exec_pnlWaveLoad_refuses_beyond (h : s.Accepts Cmd.pnlWaveLoad rq) (beyond : 34944 < rq.u32 0 + (rq.payload.drop 4).length) :
    exec (.pnlWaveLoad rq) s = .next ((s.receive rq).refuse Cmd.pnlWaveLoad rq 0x0E01 0xFFFF 0) := by
  have far : decide (waveBytes < rq.u32 0 + (rq.payload.drop 4).length) = true := decide_eq_true beyond
  exact congrArg Host.Outcome.next (h.refused rfl (refuseIf_of_true far))

/-- A part within the set is stored, and the part that completes it is followed by the check. -/
theorem exec_pnlWaveLoad_stores {upTo : Nat} {m : Memory} (h : s.Accepts Cmd.pnlWaveLoad rq) (within : rq.u32 0 + (rq.payload.drop 4).length ≤ 34944)
    (hto : (if rq.u32 0 = 0 then (rq.payload.drop 4).length
      else if rq.u32 0 ≤ s.pnl.wavesTo then max s.pnl.wavesTo (rq.u32 0 + (rq.payload.drop 4).length) else s.pnl.wavesTo) = upTo)
    (hm : s.pnl.waves.write (rq.u32 0) (rq.payload.drop 4) = m) :
    (upTo ≠ 34944 → exec (.pnlWaveLoad rq) s = .next (State.answered
      { s with pnl := { s.pnl with waves := m, wavesTo := upTo, wavesOk := false } } Cmd.pnlWaveLoad rq [])) ∧
    (upTo = 34944 → badWave m = none → exec (.pnlWaveLoad rq) s = .next (State.answered
      { s with pnl := { s.pnl with waves := m, wavesTo := upTo, wavesOk := true } } Cmd.pnlWaveLoad rq [])) ∧
    (∀ b e, upTo = 34944 → badWave m = some (b, e) → exec (.pnlWaveLoad rq) s = .next (State.reply
      (State.noteRefusal { s.receive rq with pnl := { s.pnl with waves := m, wavesTo := upTo, wavesOk := false } } Cmd.pnlWaveLoad rq 0x0E06 b e)
      Cmd.pnlWaveLoad rq 0x0E06 (leBytes 2 b ++ leBytes 2 e))) := by
  have near : decide (waveBytes < rq.u32 0 + (rq.payload.drop 4).length) = false := decide_eq_false (Nat.not_lt.mpr within)
  subst hto hm
  refine ⟨fun part => ?_, fun whole good => ?_, fun b e whole bad => ?_⟩
  · exact congrArg Host.Outcome.next (h.done rfl ((refuseIf_of_false near).trans (if_neg part)))
  · refine congrArg Host.Outcome.next (h.done rfl ((refuseIf_of_false near).trans ((if_pos whole).trans ?_)))
    simp only [State.receive_pnl, good]
    rfl
  · refine congrArg Host.Outcome.next (h.refusedIn rfl ((refuseIf_of_false near).trans ((if_pos whole).trans ?_)))
    simp only [State.receive_pnl, bad]
    rfl

/-! ### Drawing and updating (R430, R435) -/

theorem exec_pnlDraw_accepted {x y w h off : Nat} {data : List Byte} (ha : s.Accepts Cmd.pnlDraw rq) (hx : rq.u16 0 = x) (hy : rq.u16 2 = y)
    (hw : rq.u16 4 = w) (hh : rq.u16 6 = h) (ho : rq.u32 8 = off) (hd : rq.payload.drop 12 = data) :
    exec (.pnlDraw rq) s = .next (
      if s.pnl.act.fits x y w h = false ∨ w * h < 2 * (off + data.length) then (s.receive rq).refuse Cmd.pnlDraw rq 0x0E01 0xFFFF 0
      else if s.pnl.act.onMarker x y w h = true then (s.receive rq).refuse Cmd.pnlDraw rq 0x0E03 0xFFFF 0
      else State.answered { s with gro := { s.gro with mem := upd s.gro.mem 8 fun m =>
        (((rectPixels x y w h).drop (2 * off)).zip (nibbles data)).foldl (fun m p => pixelSet m p.1.1 p.1.2 p.2) m } } Cmd.pnlDraw rq []) := by
  subst hx hy hw hh ho hd
  refine congrArg Host.Outcome.next ((ha.finish rfl).trans ?_)
  simp only [Served.finish_refuseIf, Served.finish_done, Bool.not_eq_true', Bool.or_eq_true, decide_eq_true_eq]
  rfl

theorem exec_pnlUpdate_accepted {x y w h : Nat} (ha : s.Accepts Cmd.pnlUpdate rq) (hx : rq.u16 0 = x) (hy : rq.u16 2 = y) (hw : rq.u16 4 = w)
    (hh : rq.u16 6 = h) :
    exec (.pnlUpdate rq) s = .next (
      if s.pnl.act.fits x y w h = false ∨ 1 < rq.u8 8 then (s.receive rq).refuse Cmd.pnlUpdate rq 0x0E01 0xFFFF 0
      else if s.pnl.wavesOk = false then (s.receive rq).refuse Cmd.pnlUpdate rq 0x0E05 0xFFFF 0
      else if s.pnl.act.onMarker x y w h = true then (s.receive rq).refuse Cmd.pnlUpdate rq 0x0E03 0xFFFF 0
      else if 16 ≤ s.pnl.queue.length then (s.receive rq).refuse Cmd.pnlUpdate rq 0x0E04 0xFFFF 0
      else State.answered { s with pnl := { s.pnl with
        queue := s.pnl.queue ++ [{ x := x, y := y, w := w, h := h, zone := 0, clean := rq.u8 8 == 1, forced := false, redraw := none, atBoot := false,
                                   levels := rectGet (s.gro.mem.get 8) x y w h, seq := s.pnl.updSeq + 1 }]
        updSeq := s.pnl.updSeq + 1 } } Cmd.pnlUpdate rq (leBytes 4 (s.pnl.updSeq + 1).toNat)) := by
  subst hx hy hw hh
  refine congrArg Host.Outcome.next ((ha.finish rfl).trans ?_)
  simp only [Served.finish_refuseIf, Served.finish_done, Bool.not_eq_true', Bool.or_eq_true, decide_eq_true_eq]
  rfl

end PanelCommands

/-- Settles O44: each command ends in its answer or in the first refusal that applies. The two U16 of the 0x0E06 reply and the bytes that stay loaded
are the model's choice (log 21), and so are the order of pixels in bytes and rows (log 20) and what stands at PNL_CLEAR. -/
theorem panelCommandsAnswer : Obligations.PanelCommandsAnswer :=
  ⟨fun _ _ _ => exec_pnlSet_accepted, fun _ _ => exec_pnlGet_answers_descriptor, fun _ _ => exec_pnlStatus_answers_status,
    fun _ _ => exec_pnlWaveLoad_refuses_beyond, fun _ _ _ _ => exec_pnlWaveLoad_stores, fun _ _ _ _ _ _ _ _ => exec_pnlDraw_accepted,
    fun _ _ _ _ _ _ => exec_pnlUpdate_accepted, fun _ _ => exec_pnlClear_clears⟩

section PanelUpdates

variable {s : State} {p : Panel} {u : PanelUpd}

/-! ### The thermistor (R426, R427) -/

theorem exec_panelTempRead_fault : exec (.panelTempRead none) s = .next { s with pnl := { s.pnl with tempFault := true } } := rfl

/-- Bands two or more apart, read either way. -/
theorem bands_apart_iff {a b : Nat} : (decide (2 ≤ a - b) || decide (2 ≤ b - a)) = true ↔ b + 2 ≤ a ∨ a + 2 ≤ b := by
  simp only [Bool.or_eq_true, decide_eq_true_eq]
  omega

theorem exec_panelTempRead_reading (v : BitVec 16) :
    ∃ t : State, exec (.panelTempRead (some v)) s = .next t ∧ t.pnl.tempFault = false ∧ t.pnl.panelT = v ∧
    t.pnl.band = bandNext s.pnl.band v.toInt ∧ (t.pnl.tempRange = true ↔ v.toInt < -160 ∨ 960 < v.toInt) ∧
    t.pnl.flight = s.pnl.flight.map fun u =>
      if u.band.val + 2 ≤ (bandNext s.pnl.band v.toInt).val ∨ (bandNext s.pnl.band v.toInt).val + 2 ≤ u.band.val then { u with abort := true } else u := by
  refine ⟨_, rfl, rfl, rfl, rfl, ?range, ?aborted⟩
  case range => simp only [Bool.or_eq_true, decide_eq_true_eq]
  case aborted => simp only [bands_apart_iff]

/-! ### The start (R430, R431) -/

theorem exec_panelUpdateStart_none (none : s.pick [] s.pnl.queue = none) : exec .panelUpdateStart s = .next s := by
  refine congrArg Host.Outcome.next ?_
  simp only [none]

theorem exec_panelUpdateStart_starts {before after : List PanelReq} {r : PanelReq} (first : s.pick [] s.pnl.queue = some (before, r, after)) :
    exec .panelUpdateStart s = .next { s with pnl := (s.pnl.act.split r).foldl Panel.startPart { s.pnl with queue := before ++ after } } := by
  refine congrArg Host.Outcome.next ?_
  simp only [first]

theorem Panel.startPart_of_entry {r : PanelReq} {e : Fin 8} (entry : p.entryFor r = some e) :
    (p.startPart r).frame = rectSet p.frame r.x r.y r.w r.h r.levels ∧ ((p.startPart r).journal.get e).STATE = 1#8 ∧
    ((p.startPart r).journal.get e).UPD_SEQ = r.seq ∧ (p.startPart r).phase.get r.zone = !(p.phase.get r.zone) ∧ (p.startPart r).railsOn = true ∧
    ∃ u, (p.startPart r).flight = p.flight ++ [u] ∧ u.req = r ∧ u.entry = e ∧ u.band = p.band ∧ u.phase = !(p.phase.get r.zone) ∧ u.frames = 0 ∧
      u.abort = false ∧ u.vcom = BitVec.ofNat 16 (p.waves.num (16 * p.band.val + 2 * r.zone.val) 2) ∧
      u.railMv = BitVec.ofNat 16 (p.waves.num (16 * p.band.val + 8) 2) := by
  simp only [Panel.startPart, entry, put_get_same, true_and]
  exact ⟨_, rfl, rfl, rfl, rfl, rfl, rfl, rfl, rfl, rfl⟩

/-! ### Frames and the end (R421, R427, R431) -/

/-- An update after one more frame. -/
def PanelUpd.afterFrame (u : PanelUpd) : PanelUpd := { u with frames := u.frames + 1 }

theorem exec_panelFrameComplete_idle (idle : s.pnl.flight = []) : exec .panelFrameComplete s = .next s :=
  congrArg Host.Outcome.next (if_pos (by simp [idle]))

theorem exec_panelFrameComplete_counts (alone : s.pnl.flight = [u]) (goes : u.abort = false) (more : u.frames + 1 < u.length) :
    exec .panelFrameComplete s = .next { s with pnl := { s.pnl with flight := [u.afterFrame] } } := by
  refine congrArg Host.Outcome.next ((if_neg (by simp [alone])).trans ?_)
  simp [alone, goes, more, PanelUpd.afterFrame]

theorem exec_panelFrameComplete_finishes (alone : s.pnl.flight = [u]) (goes : u.abort = false) (last : u.length ≤ u.frames + 1) :
    exec .panelFrameComplete s =
      .next { s with pnl := { Panel.finish { s.pnl with flight := [] } u.afterFrame s.ts with idleSince := s.now } } := by
  refine congrArg Host.Outcome.next ((if_neg (by simp [alone])).trans ?_)
  simp [alone, goes, last, PanelUpd.afterFrame, Panel.finish]

theorem exec_panelFrameComplete_aborts (alone : s.pnl.flight = [u]) (aborted : u.abort = true) :
    exec .panelFrameComplete s =
      .next { s with pnl := { Panel.balance { s.pnl with flight := [] } u.afterFrame with idleSince := s.now } } := by
  refine congrArg Host.Outcome.next ((if_neg (by simp [alone])).trans ?_)
  simp [alone, aborted, PanelUpd.afterFrame, Panel.balance]

theorem exec_panelRailsOff_switches (on : s.pnl.railsOn = true) (idle : s.pnl.flight = []) (due : s.pnl.idleSince + ms s.pnl.act.IDLE_MS.toNat ≤ s.now) :
    exec .panelRailsOff s = .next { s with pnl := { s.pnl with railsOn := false } } :=
  congrArg Host.Outcome.next (if_pos (by simp [on, idle, State.since_of due]))

end PanelUpdates

/-- Settles O45: readings, the start of the first request that may, and the frame that continues, ends or aborts an update. That a start waits for a
free journal entry and that the redraw of an aborted update goes behind the marker only are the model's choices (log 150). -/
theorem panelUpdatesRun : Obligations.PanelUpdatesRun := by
  refine ⟨fun _ => exec_panelTempRead_fault, fun _ v => exec_panelTempRead_reading v, fun _ => exec_panelUpdateStart_none,
    fun _ _ _ _ => exec_panelUpdateStart_starts, fun _ _ _ => Panel.startPart_of_entry, fun _ => exec_panelFrameComplete_idle,
    fun _ _ => exec_panelFrameComplete_counts, ?finishes, ?aborts, fun _ => exec_panelRailsOff_switches⟩
  case finishes =>
    exact fun s u alone goes last =>
      ⟨_, exec_panelFrameComplete_finishes alone goes last, rfl, rfl, congrArg JournalEntry.STATE (upd_get_same ..), rfl, rfl, rfl⟩
  case aborts =>
    exact fun s u alone aborted => ⟨_, exec_panelFrameComplete_aborts alone aborted, rfl, congrArg JournalEntry.STATE (upd_get_same ..), rfl, rfl⟩

end Sys2Proof.Machine
end

section
/-! PROOFS. From ENABLE to RUN (R448 to R463): the start, stop, restart and firmware commands, RUN_EN, the automatic start, the end of
the check, the wait for the peer and entry to RUN. -/

namespace Sys2Proof.Machine

set_option Elab.async false

@[simp] theorem State.receive_enabling (s : State) (rq : Request) : (s.receive rq).enabling = s.enabling := rfl
@[simp] theorem State.receive_bootInfo (s : State) (rq : Request) : (s.receive rq).bootInfo = s.bootInfo := rfl

section StartCommands

variable {s u : State} {rq : Request}

/-! ### ENABLE and STOP (R448, R449) -/

theorem exec_sysEnable_accepted (h : s.Accepts Cmd.sysEnable rq) :
    exec (.sysEnable rq) s = .next (if s.enabling = true then (s.receive rq).refuse Cmd.sysEnable rq 0x0128 0xFFFF 0
      else { s.receive rq with sys := { s.sys with check := some ⟨.command rq, rq.u8 0 == 1⟩ } }) := by
  refine congrArg Host.Outcome.next ((h.finish rfl).trans ?_)
  simp only [Served.finish_refuseIf, Served.finish_later]
  rfl

theorem exec_sysStop_stops (h : s.Accepts Cmd.sysStop rq) :
    exec (.sysStop rq) s = .next (State.reply ((s.receive rq).stopRequest ((rq.u8 0).testBit 0)) Cmd.sysStop rq 0 []) :=
  congrArg Host.Outcome.next (h.done rfl rfl)

theorem State.stopRequest_eq {noYield : Bool} : s.stopRequest noYield =
    if noYield = false ∧ s.paired = true ∧ s.pr.role.owns = true ∧ s.pairSilent = false ∧ s.peerRole = .standby then
      { s.pairSend .yield with pr := { (s.pairSend .yield).pr with yielding := true, stopAfter := true } }
    else s.stopRun := by
  simp only [State.stopRequest, Bool.and_eq_true, Bool.not_eq_true', beq_iff_eq, and_assoc]

/-! ### Restart (R443, R470) -/

theorem exec_sysRestart_resets (h : s.Accepts Cmd.sysRestart rq) (hu : State.answered { s with sys := { s.sys with
      clean := true, bootFails := if rq.u8 0 = 1 then 0#8 else s.sys.bootFails, resetPending := some 6#8 } } Cmd.sysRestart rq [] = u) :
    exec (.sysRestart rq) s = .next { u.resetEntry 6 with host := { (u.resetEntry 6).host with mb := u.host.mb } } := by
  have accepted : acceptRestart rq (s.receive rq) = u := (serve_done h.check rfl).trans hu
  have pending : u.sys.resetPending.isSome = true := by rw [← hu, State.answered, State.reply_replied.sys]; rfl
  refine congrArg Host.Outcome.next (h.command_eq.trans ?_)
  simp only [cmdSysRestart, accepted, pending, if_true]

/-! ### Boot information and the start descriptor (R455, R457) -/

theorem exec_sysBootInfo_answers (h : s.Accepts Cmd.sysBootInfo rq) :
    exec (.sysBootInfo rq) s = .next (s.answered Cmd.sysBootInfo rq s.bootInfo.toBytes) :=
  congrArg Host.Outcome.next (h.done rfl rfl)

theorem exec_sysStartSet_accepted {d : StartDesc} (h : s.Accepts Cmd.sysStartSet rq) (hd : StartDesc.ofBytes rq.payload = d) :
    exec (.sysStartSet rq) s = .next (
      if d.START_MODE.toNat ≤ 3 ∧ d.HALT_RESTART_S.toNat ≤ 3600 then State.answered { s with sys := { s.sys with startDesc := d } } Cmd.sysStartSet rq []
      else (s.receive rq).refuse Cmd.sysStartSet rq 0x0129 0xFFFF 0) := by
  subst hd
  refine congrArg Host.Outcome.next ((h.finish rfl).trans (Served.finish_refuseIf_not.trans ?_))
  simp only [StartDesc.inRange, Bool.and_eq_true, decide_eq_true_eq]
  rfl

theorem exec_sysStartGet_answers (h : s.Accepts Cmd.sysStartGet rq) :
    exec (.sysStartGet rq) s = .next (s.answered Cmd.sysStartGet rq s.sys.startDesc.toBytes) :=
  congrArg Host.Outcome.next (h.done rfl rfl)

/-! ### Firmware (R442, R458) -/

theorem exec_sysFwLoad_writes {keep : List Byte} (h : s.Accepts Cmd.sysFwLoad rq) (hk : (rq.payload.drop 4).take (16777216 - rq.u32 0) = keep) :
    exec (.sysFwLoad rq) s = .next (State.answered
      { s with
        sys := { s.sys with slot := upd s.sys.slot s.sys.loadSlot fun x =>
          { x with state := .empty, version := 0#32, floor := 0#32, image := x.image.write (rq.u32 0) keep
                   len := if rq.u32 0 = 0 then keep.length else max x.len (rq.u32 0 + keep.length) } }
        gro := { s.gro with imageInvalid := put s.gro.imageInvalid s.sys.loadSlot false } } Cmd.sysFwLoad rq []) := by
  subst hk
  exact congrArg Host.Outcome.next (h.done rfl rfl)

theorem exec_sysFwActivate_accepted {x : FwSlot} (h : s.Accepts Cmd.sysFwActivate rq) (hx : s.sys.slot.get s.sys.loadSlot = x) :
    exec (.sysFwActivate rq) s = .next (
      if Config.firmwareVerifies x.bytes = false then (s.receive rq).refuse Cmd.sysFwActivate rq 0x0125 0xFFFF 0
      else if (Config.firmwareVersion x.bytes).toNat < s.sys.versionFloor.toNat then (s.receive rq).refuse Cmd.sysFwActivate rq 0x0126 0xFFFF 0
      else if x.state = .trial then (s.receive rq).refuse Cmd.sysFwActivate rq 0x0127 0xFFFF 0
      else State.answered { s with sys := { s.sys with
        slot := upd s.sys.slot s.sys.loadSlot fun x => { x with state := .trial, version := Config.firmwareVersion x.bytes, floor := Config.firmwareFloor x.bytes }
        preferred := s.sys.loadSlot, trialStarted := false } } Cmd.sysFwActivate rq []) := by
  subst hx
  refine congrArg Host.Outcome.next ((h.finish rfl).trans ?_)
  simp only [Served.finish_refuseIf, Served.finish_done, Bool.not_eq_true', decide_eq_true_eq, beq_iff_eq]
  rfl

end StartCommands

/-- Settles O46: each command ends in its answer, its refusal, or the reset that follows its reply. The model's choices: what of an image past its slot
is written, and VERSION 0 of an EMPTY slot (logs 23 and 154), every KIND but 1 as 0 (log 24), the reply that its mailbox keeps until release
(log 152), cold at 1 (log 156), and the slot and order of SYS_FW_ACTIVATE (log 165). -/
theorem startCommandsAnswer : Obligations.StartCommandsAnswer :=
  ⟨fun _ _ => exec_sysEnable_accepted, fun _ _ => exec_sysStop_stops, fun _ _ => State.stopRequest_eq, fun _ _ _ => exec_sysRestart_resets,
    fun _ _ => exec_sysBootInfo_answers, fun _ _ _ => exec_sysStartSet_accepted, fun _ _ => exec_sysStartGet_answers,
    fun _ _ _ => exec_sysFwLoad_writes, fun _ _ _ => exec_sysFwActivate_accepted⟩

section EnableEvents

variable {s : State} {c : Check} {a : Nat}

/-! ### RUN_EN (R463) -/

theorem exec_runEnSet_checks (low : s.host.runEn = false) (idle : s.enabling = false) (serves : s.serves 0 = true) (stop : s.sys.mode = .stop) :
    exec .runEnSet s = .next { s with host := { s.host with runEn := true }, sys := { s.sys with check := some ⟨.runEn, false⟩ } } :=
  congrArg Host.Outcome.next (if_neg (by simp [low, idle, serves, stop]))

theorem exec_runEnSet_ignored (ignored : s.host.runEn = true ∨ s.enabling = true) : exec .runEnSet s = .next s :=
  congrArg Host.Outcome.next (if_pos (by rcases ignored with h | h <;> simp [h]))

theorem exec_runEnClear_stops (high : s.host.runEn = true) (idle : s.enabling = false) (serves : s.serves 0 = true) (run : s.sys.mode = .run) :
    exec .runEnClear s = .next (State.stopRequest { s with host := { s.host with runEn := false } } false) :=
  congrArg Host.Outcome.next ((if_neg (by simp [high, idle, serves])).trans (if_pos (by simp [run])))

theorem exec_runEnClear_ignored (ignored : s.host.runEn = false ∨ s.enabling = true) : exec .runEnClear s = .next s :=
  congrArg Host.Outcome.next (if_pos (by rcases ignored with h | h <;> simp [h]))

/-! ### The automatic start (R455) -/

theorem exec_autoStart_starts {mode : Nat} {ran : Bool} (stop : s.sys.mode = .stop) (up : s.firmwareUp = true) (first : s.sys.autoDone = false)
    (idle : s.enabling = false) (hm : s.sys.startAct.START_MODE.toNat = mode) (hr : (s.sys.bootLastMode == 4#8) = ran) :
    exec .autoStart s = .next { s with sys := { s.sys with
      autoDone := true
      check := if (mode = 1 ∧ ran = true) ∨ mode = 2 then some ⟨.automatic, false⟩
        else if mode = 3 ∧ ran = true then some ⟨.automatic, true⟩ else s.sys.check } } := by
  refine congrArg Host.Outcome.next ((if_pos (by simp [stop, up, first, idle])).trans ?_)
  simp only [hm, hr]
  split
  case h_1 => cases ran <;> rfl
  case h_2 => rfl
  case h_3 => cases ran <;> rfl
  case h_4 other1 other2 other3 =>
    rw [if_neg (by rintro (⟨h, _⟩ | h); exacts [other1 h, other2 h]), if_neg (fun h => other3 h.1)]

/-! ### The end of the check (R450, R451) -/

theorem exec_enableCheckComplete_decides {q : BitVec 8} (check : s.sys.check = some c) (up : s.firmwareUp = true) :
    exec (.enableCheckComplete q) s = .next (match s.enableCheck (s.restartCold c) with
      | some (code, inst, item) => s.enableRefused c code inst item
      | none => s.enableAccepted c q) := by
  refine congrArg Host.Outcome.next ?_
  simp only [check]
  exact if_pos up

/-- The state in which a refused check has been reported, before its reply or its record. -/
def State.refusalShown (s : State) (c : Check) (code : Nat) : State :=
  let s := ({ s with sys.check := none }.setReason c.source code).clearRunEn
  if code == 0x0C04 && s.pairSilent then { s with pr := { s.pr with stat := { s.pr.stat with PATH_FAULT := 1#1 } } } else s

theorem State.refusalShown_shows {code : Nat} : (s.refusalShown c code).sys = { s.sys with check := none } ∧
    (s.refusalShown c code).host.runEn = false ∧ (s.refusalShown c code).host.reasonCode = BitVec.ofNat 16 code := by
  unfold State.refusalShown
  dsimp only
  split <;> exact ⟨rfl, rfl, rfl⟩

/-- What follows is a reply or a record. -/
theorem State.enableRefused_follows {code inst item : Nat} :
    (s.enableRefused c code inst item).sys = (s.refusalShown c code).sys ∧
    (s.enableRefused c code inst item).host.runEn = (s.refusalShown c code).host.runEn ∧
    (s.enableRefused c code inst item).host.reasonCode = (s.refusalShown c code).host.reasonCode := by
  obtain ⟨asker, cold⟩ := c
  cases asker with
  | command rq =>
    have noted := State.noteRefusal_recorded (s := s.refusalShown ⟨.command rq, cold⟩ code) (e := Cmd.sysEnable) (rq := rq) (code := code)
      (inst := inst) (item := item)
    exact ⟨State.reply_replied.sys.trans noted.sys, State.reply_replied.runEn.trans noted.runEn, State.reply_replied.reasonCode.trans noted.reasonCode⟩
  | runEn => exact ⟨State.record_recorded.sys, State.record_recorded.runEn, State.record_recorded.reasonCode⟩
  | automatic => exact ⟨State.record_recorded.sys, State.record_recorded.runEn, State.record_recorded.reasonCode⟩

theorem State.enableRefused_reports {code inst item : Nat} :
    (s.enableRefused c code inst item).sys.check = none ∧ (s.enableRefused c code inst item).host.runEn = false ∧
    (s.enableRefused c code inst item).host.reasonCode = BitVec.ofNat 16 code ∧ (s.enableRefused c code inst item).sys.mode = s.sys.mode := by
  obtain ⟨sys, runEn, reason⟩ := State.enableRefused_follows (s := s) (c := c) (code := code) (inst := inst) (item := item)
  obtain ⟨sys', runEn', reason'⟩ := State.refusalShown_shows (s := s) (c := c) (code := code)
  exact ⟨by rw [sys, sys'], runEn.trans runEn', reason.trans reason', by rw [sys, sys']⟩

/-! ### The wait for the peer, and entry to RUN (R375, R452) -/

theorem exec_startWaitExpire_alone (waits : s.pr.startWait = some a) (late : a + ms s.pr.act.START_WAIT_MS.toNat ≤ s.now) (gone : s.peerGone = true)
    (unwitnessed : s.pr.act.WITNESS_EN ≠ 1#1) :
    exec .startWaitExpire s = .next { s.setRole .alone with pr := { (s.setRole .alone).pr with startWait := none } } :=
  congrArg Host.Outcome.next ((if_pos (by simp [State.ran_of waits late, gone])).trans (if_neg (by simp [unwitnessed])))

theorem exec_startWaitExpire_asks (waits : s.pr.startWait = some a) (late : a + ms s.pr.act.START_WAIT_MS.toNat ≤ s.now) (gone : s.peerGone = true)
    (witness : s.pr.act.WITNESS_EN = 1#1) (first : s.pr.witnessAsk = none) : exec .startWaitExpire s = .next s.askWitness :=
  congrArg Host.Outcome.next ((if_pos (by simp [State.ran_of waits late, gone])).trans
    ((if_pos (by simp [witness])).trans (if_neg (by simp [first]))))

/-- An accepted ENABLE at a whole millisecond from T0 on. -/
structure State.AtEntry (s : State) : Prop where
  starting : s.sys.starting.isSome = true
  up       : s.firmwareUp = true
  stop     : s.sys.mode = .stop
  reached  : s.sys.t0 ≤ s.now
  whole    : s.now % ms 1 = 0

theorem State.AtEntry.exec_eq (h : s.AtEntry) :
    exec .runEntry s = .next (if s.peerCame.sys.starting.isSome && s.peerCame.pr.startWait.isNone then s.peerCame.enterRun else s.peerCame) :=
  congrArg Host.Outcome.next (if_pos (by simp [h.starting, h.up, h.stop, h.reached, h.whole]))

theorem State.AtEntry.enters (h : s.AtEntry) (none : s.pr.startWait = none) : exec .runEntry s = .next s.enterRun := by
  have alone : s.peerCame = s := if_neg (by simp [none])
  rw [h.exec_eq, alone, if_pos (by simp [h.starting, none])]

theorem State.AtEntry.waits (h : s.AtEntry) (waits : s.pr.startWait.isSome = true) (silent : s.pairSilent = true) : exec .runEntry s = .next s := by
  have quiet : s.peerCame = s := if_neg (by simp [silent])
  rw [h.exec_eq, quiet, if_neg (by simp [Option.isNone_eq_false_iff.mpr waits])]

end EnableEvents

/-- Settles O49: each request and each end of the check, of the wait and at T0 has its effect. The model's choices: T0 is the next whole millisecond,
or the entry's own after a wait (log 158), the period of swaps counts from ENABLE (log 144), and RUN_EN written with its own value or during a check
does nothing, and is cleared by a refusal (log 156). -/
theorem enableRunsItsCourse : Obligations.EnableRunsItsCourse :=
  ⟨fun _ => exec_runEnSet_checks, fun _ => exec_runEnSet_ignored, fun _ => exec_runEnClear_stops, fun _ => exec_runEnClear_ignored,
    fun _ _ _ => exec_autoStart_starts, fun _ _ _ => exec_enableCheckComplete_decides, fun _ _ _ _ _ => State.enableRefused_reports,
    fun _ _ => exec_startWaitExpire_alone, fun _ _ => exec_startWaitExpire_asks,
    fun _ starting up stop reached whole => State.AtEntry.enters ⟨starting, up, stop, reached, whole⟩,
    fun _ starting up stop reached whole => State.AtEntry.waits ⟨starting, up, stop, reached, whole⟩⟩

end Sys2Proof.Machine
end

section
/-! PROOFS. Boot (R438 to R445): the image that the ROM selects, the end of the firmware phase in STOP or MINIMAL, and the count of failed boots. -/

namespace Sys2Proof.Machine

set_option Elab.async false

section Rom

variable {s : State} {y : Sys} {i j : Fin 2}

/-! ### The ROM phase (R439, R441) -/

theorem exec_romPhaseEnd_selects {found : Bool} (rom : s.sys.phase = .rom) (select : s.sys.selectImage s.gro.imageInvalid = (found, y)) :
    exec .romPhaseEnd s = .next (
      if found = true then { s with
        sys := { y with phase := .firmware, firmwareAt := s.now, nRstOut := false, bootFails := if y.clean then y.bootFails else sat y.bootFails, clean := false }
        tm := { s.tm with forwarding := s.tm.netAct.NET_MODE == 1#8, netAt := some s.now } }
      else State.setReason { s with
        sys := { y with phase := .recovery }, tm := { s.tm with forwarding := s.tm.netAct.NET_MODE == 1#8, netAt := some s.now } } 3 0x0104) := by
  refine congrArg Host.Outcome.next ((if_pos rom).trans ?_)
  simp only [select]
  rfl

/-- No slot may run. -/
def Sys.NoneLive (y : Sys) : Prop := ∀ i, (y.slot.get i).live = false

/-- A slot that becomes INVALID is not one that may run. -/
theorem Sys.NoneLive.setInvalid (h : y.NoneLive) : (y.setSlot i .invalid).NoneLive := by
  intro j
  by_cases same : j = i
  · subst same
    rw [Sys.setSlot, upd_get_same]
    rfl
  · rw [Sys.setSlot, upd_get_ne _ _ same]
    exact h j

theorem Sys.NoneLive.dropTrial (h : y.NoneLive) : y.dropTrial = y := by
  have live := h y.preferred
  simp only [FwSlot.live, Bool.or_eq_false_iff] at live
  exact if_neg (by simp [live.1])

theorem Sys.NoneLive.trySlot (h : y.NoneLive) : y.trySlot i = (false, y) := by
  simp [Sys.trySlot, h i]

theorem Sys.NoneLive.dropBad (h : y.NoneLive) (bad : Vector Bool 2) (l : List (Fin 2)) :
    (l.foldl (fun y i => if bad.get i then y.setSlot i .invalid else y) y).NoneLive := by
  induction l generalizing y with
  | nil => exact h
  | cons i t ih =>
    rw [List.foldl_cons]
    split
    · exact ih h.setInvalid
    · exact ih h

/-- Where neither slot may run, none is selected. -/
theorem Sys.NoneLive.selectImage (h : y.NoneLive) (bad : Vector Bool 2) : (y.selectImage bad).1 = false := by
  have rest := h.dropBad bad (idx 2)
  simp only [Sys.selectImage, rest.dropTrial, rest.trySlot, Bool.false_eq_true, if_false]

theorem Sys.noneLive_of_states (h : ∀ i, (y.slot.get i).state = .empty ∨ (y.slot.get i).state = .invalid) : y.NoneLive := fun i => by
  rcases h i with state | state <;> simp [FwSlot.live, state]

/-! ### The reason for MINIMAL, and the confirmation of a trial (R442, R444) -/

theorem State.minimalReason_eq {cfgBad : Bool} : s.minimalReason cfgBad =
    if s.sys.straps.bootSafe = true then 0x0102 else if 3 ≤ s.sys.bootFails.toNat then 0x0101
    else if cfgBad = true ∧ s.sys.stored.isSome = true then 0x0103 else 0 := by
  simp only [State.minimalReason, Bool.and_eq_true]

theorem Sys.confirm_of_trial (trial : (y.slot.get y.runningSlot).state = .trial) :
    ((y.confirm).slot.get y.runningSlot).state = .confirmed ∧ y.confirm.trialStarted = false ∧
    y.confirm.versionFloor.toNat = max y.versionFloor.toNat (y.slot.get y.runningSlot).floor.toNat := by
  rw [Sys.confirm, if_pos (by simp [trial])]
  refine ⟨?state, rfl, ?floor⟩
  case state => exact congrArg FwSlot.state (upd_get_same ..)
  case floor =>
    dsimp only
    split <;> omega

/-- BOOT_FAILS returns to 0 after 60 s of RUN. -/
theorem exec_bootFailsClear_clears (run : s.sys.mode = .run) (due : s.sys.runAt + sec 60 ≤ s.now) :
    exec .bootFailsClear s = .next { s with sys := { s.sys with bootFails := 0#8 } } :=
  congrArg Host.Outcome.next (if_pos (by simp [run, State.since_of due]))

end Rom

section FirmwarePhase

/-! ### What the steps of the firmware phase leave -/

/-- `t` has the phase, the times, the marks of the boot and the count of boots of `s`, and no lower number. -/
structure State.BootKeeps (s t : State) : Prop where
  phase     : t.sys.phase = s.sys.phase
  releaseAt : t.sys.releaseAt = s.sys.releaseAt
  now       : t.now = s.now
  clean     : t.sys.clean = s.sys.clean
  minReason : t.sys.minReason = s.sys.minReason
  bootMs    : t.sys.bootMs = s.sys.bootMs
  headSeq   : s.flow.headSeq ≤ t.flow.headSeq
  bootCount : t.flow.bootCount = s.flow.bootCount

variable {s t u : State}

theorem State.BootKeeps.refl (s : State) : s.BootKeeps s := ⟨rfl, rfl, rfl, rfl, rfl, rfl, Nat.le_refl _, rfl⟩

theorem State.BootKeeps.trans (h : s.BootKeeps t) (g : t.BootKeeps u) : s.BootKeeps u :=
  ⟨g.phase.trans h.phase, g.releaseAt.trans h.releaseAt, g.now.trans h.now, g.clean.trans h.clean, g.minReason.trans h.minReason,
    g.bootMs.trans h.bootMs, h.headSeq.trans g.headSeq, g.bootCount.trans h.bootCount⟩

theorem State.Recorded.bootKeeps (h : s.Recorded t) : s.BootKeeps t :=
  ⟨by rw [h.sys], by rw [h.sys], congrArg Time.c h.tm, by rw [h.sys], by rw [h.sys], by rw [h.sys], h.headSeq, h.bootCount⟩

theorem State.loadConfig_bootKeeps (c : StoredCfg) : s.BootKeeps (s.loadConfig c) := ⟨rfl, rfl, rfl, rfl, rfl, rfl, Nat.le_refl _, rfl⟩

theorem State.loadPanel_bootKeeps (c : StoredCfg) : s.BootKeeps (s.loadPanel c) := ⟨rfl, rfl, rfl, rfl, rfl, rfl, Nat.le_refl _, rfl⟩

theorem State.raise_bootKeeps (bits : BitVec 32) : s.BootKeeps (s.raise bits) := ⟨rfl, rfl, rfl, rfl, rfl, rfl, Nat.le_refl _, rfl⟩

theorem State.setOlc_bootKeeps (x : Change) : s.BootKeeps { s with olc := x } := ⟨rfl, rfl, rfl, rfl, rfl, rfl, Nat.le_refl _, rfl⟩

theorem State.setFatal_bootKeeps (x : Option FatalCause) : s.BootKeeps { s with sys := { s.sys with fatal := x } } :=
  ⟨rfl, rfl, rfl, rfl, rfl, rfl, Nat.le_refl _, rfl⟩

theorem State.BootKeeps.foldl {α : Type} {f : State → α → State} (step : ∀ (s : State) (a : α), s.BootKeeps (f s a)) (l : List α) (s : State) :
    s.BootKeeps (l.foldl f s) := by
  induction l generalizing s with
  | nil => exact .refl s
  | cons a l ih => exact (step s a).trans (ih _)

theorem State.journalRedraw_bootKeeps : s.BootKeeps s.journalRedraw := by
  refine State.BootKeeps.foldl (fun s i => ?_) (idx 8) s
  dsimp only
  split
  · split
    · refine State.BootKeeps.trans ?_ State.event_recorded.bootKeeps
      exact ⟨rfl, rfl, rfl, rfl, rfl, rfl, Nat.le_refl _, rfl⟩
    · exact ⟨rfl, rfl, rfl, rfl, rfl, rfl, Nat.le_refl _, rfl⟩
  · exact .refl s

theorem State.confirm_bootKeeps : s.BootKeeps { s with sys := s.sys.confirm, isl := { s.isl with pending := none } } := by
  have same : s.sys.confirm.phase = s.sys.phase ∧ s.sys.confirm.releaseAt = s.sys.releaseAt ∧ s.sys.confirm.clean = s.sys.clean ∧
      s.sys.confirm.minReason = s.sys.minReason ∧ s.sys.confirm.bootMs = s.sys.bootMs := by
    unfold Sys.confirm
    dsimp only
    split <;> exact ⟨rfl, rfl, rfl, rfl, rfl⟩
  obtain ⟨phase, releaseAt, clean, minReason, bootMs⟩ := same
  exact ⟨phase, releaseAt, rfl, clean, minReason, bootMs, Nat.le_refl _, rfl⟩

/-- A module takes a mode, and nothing else of its boot. -/
theorem State.setMode_bootKeeps (m : Mode) : s.BootKeeps (s.setMode m) ∧ (s.setMode m).sys.mode = m := by
  unfold State.setMode
  split
  case isTrue same => exact ⟨.refl s, same⟩
  case isFalse =>
    extract_lets old keep y s1
    have recorded := State.event_recorded (s := s1) (sev := 2) (code := 0x0112) (inst := 0xFF) (old := old.num) (new := m.num) (detail := 0)
    exact ⟨.trans (t := s1) ⟨rfl, rfl, rfl, rfl, rfl, rfl, Nat.le_refl _, rfl⟩
      (recorded.bootKeeps.trans ⟨rfl, rfl, rfl, rfl, rfl, rfl, Nat.le_refl _, rfl⟩), congrArg Sys.mode recorded.sys⟩

/-- How the firmware phase ends: STOP, or MINIMAL with its record and its reason. -/
theorem State.bootMode_bootKeeps (s : State) (why : Nat) {t : State}
    (ht : (if why = 0 then { (s.setMode .stop).canModes with sys := { (s.setMode .stop).canModes.sys with nFault := false } }
      else ((s.setMode .minimal).event 4 why 0xFF 0 0).setReason 2 why) = t) :
    s.BootKeeps t ∧ t.sys.mode = (if why = 0 then .stop else .minimal) := by
  subst ht
  split
  · obtain ⟨keeps, mode⟩ := State.setMode_bootKeeps (s := s) .stop
    exact ⟨keeps.trans ⟨rfl, rfl, rfl, rfl, rfl, rfl, Nat.le_refl _, rfl⟩, mode⟩
  · obtain ⟨keeps, mode⟩ := State.setMode_bootKeeps (s := s) .minimal
    have recorded := State.event_recorded (s := s.setMode .minimal) (sev := 4) (code := why) (inst := 0xFF) (old := 0) (new := 0) (detail := 0)
    exact ⟨(keeps.trans recorded.bootKeeps).trans ⟨rfl, rfl, rfl, rfl, rfl, rfl, Nat.le_refl _, rfl⟩, (congrArg Sys.mode recorded.sys).trans mode⟩

/-- The firmware phase ends in STOP or MINIMAL, the boot counted and its marks set. -/
theorem exec_firmwarePhaseEnd_ends {cfgBad : Bool} {fit : ModuleId} (firmware : s.sys.phase = .firmware) :
    ∃ t : State, exec (.firmwarePhaseEnd cfgBad fit) s = .next t ∧ t.sys.phase = .serving ∧ t.sys.clean = true ∧
      t.sys.mode = (if s.minimalReason cfgBad = 0 then .stop else .minimal) ∧ t.sys.minReason = BitVec.ofNat 16 (s.minimalReason cfgBad) ∧
      t.sys.bootMs = BitVec.ofNat 32 ((s.now - s.sys.releaseAt) / ms 1) ∧ s.flow.seqReserved < t.flow.headSeq ∧ t.flow.bootCount = s.flow.bootCount + 1 := by
  obtain ⟨t, ht⟩ : ∃ t, exec (.firmwarePhaseEnd cfgBad fit) s = .next t := ⟨_, congrArg Host.Outcome.next (if_pos firmware)⟩
  refine ⟨t, ht, ?_⟩
  have body := Host.Outcome.next.inj ((congrArg Host.Outcome.next (if_pos firmware)).symm.trans ht)
  extract_lets why y1 s1 y2 s2 s3 s4 s5 s6 s7 s8 s9 o s10 i s11 y s12 at body
  have staged : s2.BootKeeps s3 := State.stageAt_recorded.bootKeeps
  have numbered : s3.flow.headSeq = s.flow.seqReserved + 1 := State.stageAt_headSeq ..
  have fatal : s3.BootKeeps s4 := by
    unfold s4
    split
    · exact State.event_recorded.bootKeeps.trans (State.setFatal_bootKeeps none)
    · exact .refl _
  have sensor : s4.BootKeeps s5 := by
    unfold s5
    split
    · exact State.event_recorded.bootKeeps
    · exact .refl _
  have stored : s5.BootKeeps s6 := by
    unfold s6
    split
    · refine State.BootKeeps.trans ?_ (State.loadPanel_bootKeeps _)
      split
      · exact State.loadConfig_bootKeeps _
      · exact .refl _
    · exact .refl _
  have redrawn : s6.BootKeeps s7 := State.journalRedraw_bootKeeps
  have alarmed : s7.BootKeeps s8 := by
    unfold s8
    split
    · exact State.raise_bootKeeps _
    · exact .refl _
  have cleared : s8.BootKeeps s10 := State.record_recorded.bootKeeps.trans (State.setOlc_bootKeeps _)
  have confirmed : s10.BootKeeps s11 := State.confirm_bootKeeps
  have after : s3.BootKeeps s11 := fatal.trans (sensor.trans (stored.trans (redrawn.trans (alarmed.trans (cleared.trans confirmed)))))
  have all : s2.BootKeeps s11 := staged.trans after
  clear_value s11
  obtain ⟨keeps, mode⟩ := State.bootMode_bootKeeps s12 why body
  have serving : s12.sys.phase = .serving := all.phase
  have duration : s12.sys.bootMs = BitVec.ofNat 32 ((s.now - s.sys.releaseAt) / ms 1) :=
    congrArg₂ (fun now at_ => BitVec.ofNat 32 ((now - at_) / ms 1)) all.now all.releaseAt
  have higher : s3.flow.headSeq ≤ t.flow.headSeq := after.headSeq.trans keeps.headSeq
  have boots : t.flow.bootCount = s.flow.bootCount + 1 := keeps.bootCount.trans all.bootCount
  exact ⟨keeps.phase.trans serving, keeps.clean, mode, keeps.minReason, keeps.bootMs.trans duration, by omega, boots⟩

end FirmwarePhase

/-- Settles O48, by what each step of the firmware phase leaves of the boot's marks, its times and the numbers. The model's choices: the stored
configuration is loaded where MINIMAL is not entered (log 153), a slot in an uncorrectable block is INVALID before the selection and a trial is
CONFIRMED at the end of its firmware phase (log 154), and BOOT_TS is the local time of release (log 158). -/
theorem bootRunsToStopOrMinimal : Obligations.BootRunsToStopOrMinimal :=
  ⟨fun _ _ _ => exec_romPhaseEnd_selects, fun _ bad states => (Sys.noneLive_of_states states).selectImage bad, fun _ _ => State.minimalReason_eq,
    fun _ _ _ => exec_firmwarePhaseEnd_ends, fun _ => Sys.confirm_of_trial, fun _ => exec_bootFailsClear_clears⟩

end Sys2Proof.Machine
end

section
/-! PROOFS. Replies and session commands (R459 to R480): what a reply leaves, and what the session, trust and session-descriptor commands answer. -/

namespace Sys2Proof.Machine

set_option Elab.async false

section Replies

variable {s : State} {e : CmdInfo} {rq : Request} {n : Fin 8} {reason : Nat} {body : List Byte}

/-! ### What a reply leaves (R464 to R467, R474) -/

/-- The bytes of a reply with a reason code and what follows it, from the header to the end. -/
theorem replyBytes_replyPayload {code tag session : Nat} {ts : BitVec 64} :
    replyBytes code tag session ts (replyPayload reason body) =
      leBytes 2 code ++ leBytes 2 tag ++ leBytes 2 (4 + body.length) ++ leBytes 1 session ++ [1#8] ++ leBytes 8 ts.toNat
        ++ leBytes 2 reason ++ [0#8, 0#8] ++ body := by
  have length : (replyPayload reason body).length = 4 + body.length := by simp [replyPayload]; omega
  have flag : leBytes 1 1 = [1#8] := rfl
  simp only [replyBytes, length, flag]
  simp only [replyPayload, List.append_assoc]

theorem length_replyBytes {code tag session : Nat} {ts : BitVec 64} :
    (replyBytes code tag session ts (replyPayload reason body)).length = 20 + body.length := by
  simp [replyBytes, replyPayload]
  omega

/-- A request whose session stands is answered. -/
theorem State.reply_of_standing (stands : rq ∉ s.host.orphans) : s.reply e rq reason body = s.deliver e rq reason body :=
  if_neg (by simpa using stands)

/-- A reply to a request of a closed session is dropped. -/
theorem State.reply_of_orphan (orphan : rq ∈ s.host.orphans) :
    s.reply e rq reason body = { s with host := { s.host with orphans := s.host.orphans.erase rq } } :=
  if_pos (by simpa using orphan)

/-- The mailboxes after a reply that goes to one of them. -/
theorem State.reply_mailbox (box : rq.mailbox = some n) (stands : rq ∉ s.host.orphans) :
    (s.reply e rq reason body).host.mb = upd s.host.mb n (fun m => m.answer
      (replyBytes e.code rq.tag.toNat rq.session.val rq.rxTs (replyPayload reason body))) ∧
    (s.reply e rq reason body).host.irqStatus = s.host.irqStatus ||| irqMbDone n ∧
    s.reply e rq reason body = { s with host := (s.reply e rq reason body).host } := by
  rw [State.reply_of_standing stands]
  simp only [State.deliver, box]
  exact ⟨rfl, rfl, rfl⟩

theorem State.reply_fills_mailbox (box : rq.mailbox = some n) (stands : rq ∉ s.host.orphans) (wf : (s.host.mb.get n).data.wf = true) :
    ((s.reply e rq reason body).host.mb.get n).state = .done ∧
    ((s.reply e rq reason body).host.mb.get n).data.read 0 (20 + body.length) =
      leBytes 2 e.code ++ leBytes 2 rq.tag.toNat ++ leBytes 2 (4 + body.length) ++ leBytes 1 rq.session.val ++ [1#8] ++ leBytes 8 rq.rxTs.toNat
        ++ leBytes 2 reason ++ [0#8, 0#8] ++ body ∧
    (∀ a, 20 + body.length ≤ a → ((s.reply e rq reason body).host.mb.get n).data.get a = (s.host.mb.get n).data.get a) ∧
    (s.reply e rq reason body).host.irqStatus = s.host.irqStatus ||| irqMbDone n ∧
    (∀ m, m ≠ n → (s.reply e rq reason body).host.mb.get m = s.host.mb.get m) ∧
    s.reply e rq reason body = { s with host := (s.reply e rq reason body).host } := by
  obtain ⟨boxes, irq, port⟩ := State.reply_mailbox (e := e) (reason := reason) (body := body) box stands
  simp only [boxes, upd_get_same, Mailbox.answer]
  refine ⟨trivial, ?reads, ?behind, irq, fun m other => upd_get_ne _ _ other, port⟩
  case reads => rw [← length_replyBytes, Memory.read_write_same _ _ _ wf, replyBytes_replyPayload]
  case behind => exact fun a far => Memory.get_write_out _ _ _ _ (.inr (by rw [length_replyBytes]; omega))

/-- The reply of an open network session goes to it. -/
theorem State.reply_to_session (net : rq.mailbox = none) (stands : rq ∉ s.host.orphans) (opened : (s.host.session.get rq.session).open_ = true) :
    (s.reply e rq reason body).host.replies =
      ⟨rq.session, none, BitVec.ofNat 16 e.code, rq.tag, rq.rxTs, leBytes 2 reason ++ [0#8, 0#8] ++ body⟩ :: s.host.replies ∧
    (s.reply e rq reason body).host.mb = s.host.mb ∧ (s.reply e rq reason body).host.irqStatus = s.host.irqStatus := by
  have still : ((upd s.host.session rq.session fun x => x.answered reason).get rq.session).open_ = true := by
    rw [upd_get_same]
    exact opened
  rw [State.reply_of_standing stands]
  simp only [State.deliver, net, still, if_true]
  exact ⟨rfl, trivial, trivial⟩

end Replies

/-- Settles O59: a reply overwrites its mailbox from its first byte, or goes to its session, or is dropped. That the replies of a closed session's
requests in progress are dropped is the model's reading (log 163); those of session 0 end with DONE (log 25). -/
theorem repliesReachMailboxes : Obligations.RepliesReachMailboxes :=
  ⟨fun _ _ _ _ _ _ => State.reply_fills_mailbox, fun _ _ _ _ _ => State.reply_to_session, fun _ _ _ _ _ => State.reply_of_orphan⟩

section SessionCommands

variable {s : State} {rq : Request}

/-! ### Sessions and their closing (R474, R480) -/

theorem exec_sysSessionList_answers (h : s.Accepts Cmd.sysSessionList rq) :
    exec (.sysSessionList rq) s = .next (s.answered Cmd.sysSessionList rq ((idx 17).flatMap (s.receive rq).host.entryBytes)) :=
  congrArg Host.Outcome.next (h.done rfl rfl)

theorem exec_sysSessionClose_accepted {k : Fin 17} (h : s.Accepts Cmd.sysSessionClose rq) (hk : rq.u8 0 = k.val) :
    exec (.sysSessionClose rq) s = .next (
      if ((s.receive rq).host.session.get k).open_ = false then (s.receive rq).refuse Cmd.sysSessionClose rq 0x010A k.val 0
      else if ((s.receive rq).host.session.get rq.session).role < ((s.receive rq).host.session.get k).role then
        (s.receive rq).refuse Cmd.sysSessionClose rq 0x0108 k.val 0
      else ((s.receive rq).closeSession k).reply Cmd.sysSessionClose rq 0 []) := by
  refine congrArg Host.Outcome.next ((h.finish rfl).trans ?_)
  simp only [asFin_of_eq_val hk]
  simp only [hk, Served.finish_refuseIf, Served.finish_done, Bool.not_eq_true', decide_eq_true_eq]

theorem exec_sysSessionClose_refuses_number (h : s.Accepts Cmd.sysSessionClose rq) (far : 17 ≤ rq.u8 0) :
    exec (.sysSessionClose rq) s = .next ((s.receive rq).refuse Cmd.sysSessionClose rq 0x010A (rq.u8 0) 0) := by
  refine congrArg Host.Outcome.next (h.refused rfl ?_)
  simp only [asFin_of_le far]

/-! ### Trust (R472, R476) -/

theorem exec_sysTrustSet_refuses_network (h : s.Accepts Cmd.sysTrustSet rq) (net : rq.session ≠ 0) :
    exec (.sysTrustSet rq) s = .next ((s.receive rq).refuse Cmd.sysTrustSet rq 0x0109 0xFFFF 0) :=
  congrArg Host.Outcome.next (h.refused rfl (refuseIf_of_true (by simp [net])))

/-- A list that is refused is one with more than four anchors, or with one that has not an anchor's form. -/
theorem anchors_refused_eq {cs : List (List Byte)} :
    (decide (4 < cs.length) || cs.any fun c => !Config.anchorForm c) = !decide (cs.length ≤ 4 ∧ cs.all Config.anchorForm = true) := by
  rw [Bool.eq_iff_iff]
  simp

theorem exec_sysTrustSet_installs (h : s.Accepts Cmd.sysTrustSet rq) (port : rq.session = 0) :
    exec (.sysTrustSet rq) s = .next (match certificates 5 rq.payload with
      | some cs => if cs.length ≤ 4 ∧ cs.all Config.anchorForm = true then
          State.answered { s with host := { s.host with anchors := cs } } Cmd.sysTrustSet rq []
        else (s.receive rq).refuse Cmd.sysTrustSet rq 0x010D 0xFFFF 0
      | none => (s.receive rq).refuse Cmd.sysTrustSet rq 0x010D 0xFFFF 0) := by
  refine congrArg Host.Outcome.next ((h.finish rfl).trans ((Served.finish_refuseIf.trans (if_neg (by simp [port]))).trans ?_))
  cases certificates 5 rq.payload with
  | none => rfl
  | some cs =>
    simp only [anchors_refused_eq, Served.finish_refuseIf_not, decide_eq_true_eq]
    rfl

theorem exec_sysTrustGet_answers (h : s.Accepts Cmd.sysTrustGet rq) :
    exec (.sysTrustGet rq) s = .next (s.answered Cmd.sysTrustGet rq
      (s.host.anchors.flatMap (fun c => leBytes 32 (Config.sha256 c).toNat) ++ List.replicate (32 * (4 - s.host.anchors.length)) 0#8)) :=
  congrArg Host.Outcome.next (h.done rfl rfl)

/-! ### The session descriptor (R479) -/

theorem exec_sysSessSet_accepted {d : SessDesc} (h : s.Accepts Cmd.sysSessSet rq) (hd : SessDesc.ofBytes rq.payload = d) :
    exec (.sysSessSet rq) s = .next (
      if d.inRange = false then (s.receive rq).refuse Cmd.sysSessSet rq 0x010C 0xFFFF 0
      else if d.HOST_ROLE = 3#8 ∧ ((s.receive rq).host.session.get rq.session).role ≠ 3 then (s.receive rq).refuse Cmd.sysSessSet rq 0x0108 0xFFFF 0
      else State.answered { s with host := { s.host with sessDesc := d } } Cmd.sysSessSet rq []) := by
  subst hd
  refine congrArg Host.Outcome.next ((h.finish rfl).trans ?_)
  simp only [Served.finish_refuseIf, Served.finish_done, Bool.not_eq_true', Bool.and_eq_true, beq_iff_eq, bne_iff_ne]
  rfl

theorem exec_sysSessGet_answers (h : s.Accepts Cmd.sysSessGet rq) :
    exec (.sysSessGet rq) s = .next (s.answered Cmd.sysSessGet rq s.host.sessDesc.toBytes) :=
  congrArg Host.Outcome.next (h.done rfl rfl)

end SessionCommands

/-- Settles O50: each command ends in its answer or in the first refusal that applies. The code for HOST_ROLE 3 of a session without SAFETY is the
model's choice (log 26), and so is that SYS_SESSION_CLOSE closes session 0 as any other (log 25). -/
theorem sessionCommandsAnswer : Obligations.SessionCommandsAnswer :=
  ⟨fun _ _ => exec_sysSessionList_answers, fun _ _ _ => exec_sysSessionClose_accepted, fun _ _ => exec_sysSessionClose_refuses_number,
    fun _ _ => exec_sysTrustSet_refuses_network, fun _ _ => exec_sysTrustSet_installs, fun _ _ => exec_sysTrustGet_answers,
    fun _ _ _ => exec_sysSessSet_accepted, fun _ _ => exec_sysSessGet_answers⟩

end Sys2Proof.Machine
end

section
/-! PROOFS. The host port (R459 to R470): writes into the window, interrupts, the link, the doorbell, the order of commands and application mailboxes. -/

namespace Sys2Proof.Machine

set_option Elab.async false

section HostPort

variable {s u : State} {n : Fin 8} {w : Waiting} {a : Nat}

/-! ### The window and interrupts (R461, R464) -/

theorem exec_mailboxWrite_stores {off : Nat} {d : List Byte} (up : s.hostPortUp = true)
    (free : (s.host.mb.get n).state = .empty ∨ (s.host.mb.get n).state = .done) :
    exec (.mailboxWrite n off d) s = .next { s with host := { s.host with
      mb := upd s.host.mb n fun m => { m with data := m.data.write off (d.take (4096 - off)) } } } := by
  refine congrArg Host.Outcome.next ((if_neg (by simp [up])).trans ?_)
  rcases free with state | state <;> simp only [state]

theorem exec_mailboxWrite_discards {off : Nat} {d : List Byte} (up : s.hostPortUp = true)
    (taken : (s.host.mb.get n).state = .posted ∨ (s.host.mb.get n).state = .busy) :
    exec (.mailboxWrite n off d) s = .next { s with host := { s.host with session := upd s.host.session 0 fun x =>
      { x with entry := { x.entry with WR_DISCARD := sat x.entry.WR_DISCARD } } } } := by
  refine congrArg Host.Outcome.next ((if_neg (by simp [up])).trans ?_)
  rcases taken with state | state <;> simp only [state]

theorem exec_irqStatusClear_clears {bits : BitVec 32} {h : HostPort} (up : s.hostPortUp = true)
    (hh : { s.host with irqStatus := s.host.irqStatus &&& ~~~bits } = h) :
    exec (.irqStatusClear bits) s =
      .next { s with host := HostPort.rewake { h with msiSent := if h.irqPending = true then h.msiSent + 1 else h.msiSent } } := by
  subst hh
  exact congrArg Host.Outcome.next (if_neg (by simp [up]))

theorem exec_irqMaskWrite_sets {mask : BitVec 32} {h : HostPort} (up : s.hostPortUp = true) (hh : { s.host with irqMask := mask } = h) :
    exec (.irqMaskWrite mask) s =
      .next { s with host := HostPort.rewake { h with msiSent := if h.irqPending = true then h.msiSent + 1 else h.msiSent } } := by
  subst hh
  exact congrArg Host.Outcome.next (if_neg (by simp [up]))

/-! ### The link (R460) -/

theorem exec_hostLinkUp_opens (hu : { s with host := HostPort.rewake { s.host with perst := false, inL0 := true, outOfL0 := none } } = u) :
    exec .hostLinkUp s = .next (if (s.host.session.get 0).open_ = true then u
      else u.openSession 0 ⟨s.host.sessAct.HOST_ROLE.toNat % 4, Nat.mod_lt _ (by decide)⟩ 0 0) := by
  subst hu
  rfl

theorem exec_hostLinkLeavesL0_starts (link : s.host.inL0 = true) :
    exec .hostLinkLeavesL0 s = .next { s with host := HostPort.rewake { s.host with inL0 := false, outOfL0 := some s.now } } :=
  congrArg Host.Outcome.next (if_pos link)

theorem exec_hostLinkLostTimeout_closes (out : s.host.outOfL0 = some a) (late : a + sec 1 ≤ s.now) :
    exec .hostLinkLostTimeout s = .next (s.closeSession 0) :=
  congrArg Host.Outcome.next (if_pos (State.ran_of out late))

/-! ### The doorbell (R467 to R469) -/

theorem exec_mailboxRing_rings {mask : BitVec 8} (up : s.hostPortUp = true) :
    exec (.mailboxRing mask) s = .next (((idx 8).filter fun n => mask.getLsbD n.val).foldl State.ring s) :=
  congrArg Host.Outcome.next (if_pos up)

theorem State.ring_of_taken (taken : (s.host.mb.get n).state = .posted ∨ (s.host.mb.get n).state = .busy) : s.ring n = s.raise irqDbError := by
  rcases taken with state | state <;> simp only [State.ring, state]

/-- The state in which a mailbox that was free has been rung. -/
def State.rung (s : State) (n : Fin 8) : State :=
  { s with host := { s.host with mb := upd s.host.mb n fun m => { m with state := .posted, rxTs := s.ts } } }

/-- A ring of a free mailbox of the supervisor leaves its message waiting. -/
theorem State.ring_of_free (free : (s.host.mb.get n).state = .empty ∨ (s.host.mb.get n).state = .done) (own : (s.host.isApp n && s.serves 0) = false) :
    s.ring n = { (s.rung n).receive ((s.rung n).messageIn n).rq with
      host := { ((s.rung n).receive ((s.rung n).messageIn n).rq).host with waiting := s.host.waiting ++ [(s.rung n).messageIn n] } } := by
  have supervisor := Bool.eq_false_iff.mp own
  rcases free with state | state <;> simp only [State.ring, state] <;> exact if_neg supervisor

theorem State.ring_posts (free : (s.host.mb.get n).state = .empty ∨ (s.host.mb.get n).state = .done) (own : (s.host.isApp n && s.serves 0) = false) :
    ((s.ring n).host.mb.get n).state = .posted ∧ ((s.ring n).host.mb.get n).rxTs = s.ts ∧
    ∃ w, (s.ring n).host.waiting = s.host.waiting ++ [w] ∧ w.rq.session = 0 ∧ w.rq.mailbox = some n ∧ w.rq.rxTs = s.ts ∧
      w.code = BitVec.ofNat 16 ((s.host.mb.get n).data.num 0 2) ∧ w.rq.tag = BitVec.ofNat 16 ((s.host.mb.get n).data.num 2 2) := by
  have box : (s.rung n).host.mb.get n = { s.host.mb.get n with state := .posted, rxTs := s.ts } := upd_get_same ..
  have data : ((s.rung n).host.mb.get n).data = (s.host.mb.get n).data := by rw [box]
  rw [State.ring_of_free free own]
  refine ⟨congrArg Mailbox.state box, congrArg Mailbox.rxTs box, (s.rung n).messageIn n, rfl, rfl, rfl, congrArg Mailbox.rxTs box, ?_, ?_⟩
  · exact congrArg (fun d : Memory => BitVec.ofNat 16 (d.num 0 2)) data
  · exact congrArg (fun d : Memory => BitVec.ofNat 16 (d.num 2 2)) data

/-! ### The order of commands (R467 to R470) -/

theorem exec_commandTake_none (none : s.nextMessage = none) : exec .commandTake s = .next s := by
  refine congrArg Host.Outcome.next ?_
  simp only [none]

theorem exec_commandTake_from_mailbox (first : s.nextMessage = some w) (box : w.rq.mailbox = some n) (own : s.host.isApp n = false)
    (hu : { s with host := { s.host with waiting := s.host.waiting.erase w, mb := upd s.host.mb n fun m => { m with state := .busy } } } = u) :
    exec .commandTake s = .next (u.serveMessage w) := by
  subst hu
  refine congrArg Host.Outcome.next ?_
  simp only [first, box]
  exact if_neg (Bool.eq_false_iff.mp own)

theorem exec_commandTake_from_session (first : s.nextMessage = some w) (net : w.rq.mailbox = none) :
    exec .commandTake s = .next (State.serveMessage { s with host := { s.host with waiting := s.host.waiting.erase w } } w) := by
  refine congrArg Host.Outcome.next ?_
  simp only [first, net]

theorem State.serveMessage_of_unknown (unknown : servedBy w.code = none) :
    s.serveMessage w = s.refuse (CmdInfo.unknown w.code) w.rq 0x0105 0xFFFF 0 := by
  simp only [State.serveMessage, unknown]

/-! ### Application mailboxes, and ALIVE (R462, R468) -/

theorem exec_appReplyCopy_copies {bytes : List Byte} (reply : s.host.appReply.get n = some bytes) (busy : (s.host.mb.get n).state = .busy)
    (app : s.host.isApp n = true) (lives : s.sys.supervisorDead = false) :
    ∃ t : State, exec (.appReplyCopy n) s = .next t ∧ t.host.appReply.get n = none ∧ (t.host.mb.get n).state = .done ∧ (t.host.mb.get n).appAt = none ∧
      t.host.irqStatus = s.host.irqStatus ||| irqMbDone n := by
  have done : (decide ((s.host.mb.get n).state = .busy) && s.host.isApp n && !s.sys.supervisorDead) = true := by simp [busy, app, lives]
  have copies : exec (.appReplyCopy n) s = execAppReplyCopy n s := rfl
  simp only [copies, execAppReplyCopy, reply]
  exact ⟨_, congrArg Host.Outcome.next (if_pos done), put_get_same .., congrArg Mailbox.state (upd_get_same ..),
    congrArg Mailbox.appAt (upd_get_same ..), rfl⟩

theorem Mailbox.answer_data {m : Mailbox} {bytes : List Byte} : (m.answer bytes).data = m.data.write 0 bytes := rfl

theorem exec_appTimeout_answers (busy : (s.host.mb.get n).state = .busy) (lives : s.sys.supervisorDead = false)
    (since : (s.host.mb.get n).appAt = some a) (late : a + ms s.host.sessAct.APP_TIMEOUT_MS.toNat ≤ s.now) :
    ∃ t : State, exec (.appTimeout n) s = .next t ∧ (t.host.mb.get n).state = .done ∧ (t.host.mb.get n).appAt = none ∧
      t.host.irqStatus = s.host.irqStatus ||| irqMbDone n ∧
      (t.host.mb.get n).data = (s.host.mb.get n).data.write 0 (replyBytes ((s.host.mb.get n).data.num 0 2) ((s.host.mb.get n).data.num 2 2) 0
        (s.host.mb.get n).rxTs (replyPayload 0x010B [])) := by
  have done : (decide ((s.host.mb.get n).state = .busy) && !s.sys.supervisorDead &&
      s.ran (s.host.mb.get n).appAt (ms s.host.sessAct.APP_TIMEOUT_MS.toNat)) = true := by simp [busy, lives, State.ran_of since late]
  have answers : exec (.appTimeout n) s = execAppTimeout n s := rfl
  simp only [answers, execAppTimeout]
  exact ⟨_, congrArg Host.Outcome.next (if_pos done), congrArg Mailbox.state (upd_get_same ..), congrArg Mailbox.appAt (upd_get_same ..), rfl,
    (congrArg Mailbox.data (upd_get_same ..)).trans Mailbox.answer_data⟩

theorem exec_aliveTick_counts (runs : s.sys.phase = .firmware ∨ s.sys.phase = .serving) :
    exec .aliveTick s = .next (if s.sys.supervisorDead = true then s else { s with host := { s.host with alive := s.host.alive + 1 } }) := by
  refine congrArg Host.Outcome.next ?_
  rcases runs with phase | phase <;> simp only [phase]

end HostPort

/-- Settles O51: each write, change of the link, ring, taking of a command and copy of an application has its effect. The model's choices: an MSI is
counted in a field (log 12), a POSTED mailbox of a closing session 0 becomes EMPTY (log 25), and a ring takes the header as it stands (log 161). -/
theorem hostPortAndMailboxesMove : Obligations.HostPortAndMailboxesMove :=
  ⟨fun _ _ _ _ => exec_mailboxWrite_stores, fun _ _ _ _ => exec_mailboxWrite_discards, fun _ _ _ => rfl, fun _ _ _ => exec_irqStatusClear_clears,
    fun _ _ _ => exec_irqMaskWrite_sets, fun _ => rfl, fun _ _ => exec_hostLinkUp_opens, fun _ => exec_hostLinkLeavesL0_starts,
    fun _ _ => exec_hostLinkLostTimeout_closes, fun _ _ => exec_mailboxRing_rings, fun _ _ => State.ring_of_taken, fun _ _ => State.ring_posts,
    fun _ => exec_commandTake_none, fun _ _ _ _ => exec_commandTake_from_mailbox, fun _ _ => exec_commandTake_from_session,
    fun _ _ => State.serveMessage_of_unknown, fun _ _ _ => exec_appReplyCopy_copies, fun _ _ _ => exec_appTimeout_answers,
    fun _ => exec_aliveTick_counts⟩

end Sys2Proof.Machine
end

section
/-! PROOFS. Network sessions (R471 to R474): handshakes, bars, messages and closing. -/

namespace Sys2Proof.Machine

set_option Elab.async false

section Handshake

variable {s u : State} {c : ClientCert} {k : Fin 17}

/-! ### Handshakes and bars (R471, R472) -/

theorem exec_sessionHandshake_barred (barred : s.host.barred.any (fun b => b.1 == c.peer) = true) : exec (.sessionHandshake c) s = .next s :=
  congrArg Host.Outcome.next (if_pos (by simp only [barred, Bool.or_true]))

/-- A module that takes connections, from an address that is not barred. -/
structure State.TakesHandshake (s : State) (c : ClientCert) : Prop where
  serving : s.sys.phase = .serving
  lives   : s.sys.supervisorDead = false
  welcome : s.host.barred.any (fun b => b.1 == c.peer) = false

theorem State.TakesHandshake.goes_on (h : s.TakesHandshake c) :
    ¬ (decide (s.sys.phase ≠ .serving) || s.sys.supervisorDead || s.host.barred.any fun b => b.1 == c.peer) = true := by
  simp only [h.serving, h.lives, h.welcome]
  decide

theorem State.TakesHandshake.fails (h : s.TakesHandshake c) (bad : c.chainOk = false ∨ s.host.anchors = [] ∨ s.datesOk c = false) :
    exec (.sessionHandshake c) s = .next (s.handshakeFails c.peer) :=
  congrArg Host.Outcome.next ((if_neg h.goes_on).trans (if_pos (by rcases bad with b | b | b <;> simp [b])))

theorem State.handshakeFails_eq {a : BitVec 32} {l : List (BitVec 32 × Nat)}
    (hl : (s.host.handshakeFails.filter fun f => s.now < f.2 + sec 60) ++ [(a, s.now)] = l) :
    s.handshakeFails a =
      if 5 ≤ (l.filter fun f => f.1 == a).length then
        State.record { s with host := { s.host with handshakeFails := l, barred := (a, s.now) :: s.host.barred } }
          { sev := 3, code := 0x0115, payload := evData 0 a.toNat (l.filter fun f => f.1 == a).length }
      else { s with host := { s.host with handshakeFails := l } } := by
  subst hl
  rfl

theorem State.TakesHandshake.opens (h : s.TakesHandshake c) (chain : c.chainOk = true) (anchors : s.host.anchors ≠ []) (dates : s.datesOk c = true)
    (room : s.host.openCount < s.host.sessAct.MAX_SESSIONS.toNat) (free : s.host.freeSession = some k)
    (hu : s.openSession k c.role c.peer c.certId = u) :
    exec (.sessionHandshake c) s = .next (if s.tm.timeValid = true then u
      else u.record { sev := 3, code := 0x0114, inst := k.val, session := k.val, payload := evData 0 c.certId.toNat }) := by
  have time : u.tm = s.tm := by rw [← hu]; exact State.record_recorded.tm
  refine congrArg Host.Outcome.next ((if_neg h.goes_on).trans ((if_neg (by simp [chain, anchors, dates])).trans ((if_neg (Nat.not_le.mpr room)).trans ?_)))
  simp only [free, hu, time]

end Handshake

section Messages

variable {s t : State} {k : Fin 17} {msg : List Byte} {w : Waiting}

/-! ### Messages and the idle timer (R465, R469, R473) -/

theorem exec_sessionMessageReceive_closes (net : k ≠ 0) (opened : (s.host.session.get k).open_ = true) (whole : 16 ≤ msg.length)
    (bad : 4080 < u16 msg 4 ∨ u8 msg 7 % 2 = 1) : exec (.sessionMessageReceive k msg) s = .next (s.closeSession k) :=
  congrArg Host.Outcome.next ((if_neg (by simp [net, opened]; omega)).trans (if_pos (by simpa using bad)))

theorem exec_sessionMessageReceive_waits (net : k ≠ 0) (opened : (s.host.session.get k).open_ = true) (fits : u16 msg 4 ≤ 4080)
    (request : u8 msg 7 % 2 ≠ 1) (whole : 16 + u16 msg 4 ≤ msg.length)
    (hw : { code := BitVec.ofNat 16 (u16 msg 0), length := BitVec.ofNat 16 (u16 msg 4),
            rq := ⟨k, none, BitVec.ofNat 16 (u16 msg 2), (msg.drop 16).take (u16 msg 4), s.ts⟩ } = w)
    (ht : { s.receive w.rq with host := { (s.receive w.rq).host with waiting := s.host.waiting ++ [w] } } = t) :
    exec (.sessionMessageReceive k msg) s = .next (
      if t.queueFull w.rq = true ∧ s.serves k = true then
        { t.serveMessage w with host := { (t.serveMessage w).host with waiting := (t.serveMessage w).host.waiting.erase w } }
      else t) := by
  subst hw ht
  refine congrArg Host.Outcome.next ((if_neg (by simp [net, opened]; omega)).trans ((if_neg (by simp [fits, request])).trans
    ((if_neg (Nat.not_lt.mpr whole)).trans ?_)))
  simp only [Bool.and_eq_true]
  rfl

theorem exec_sessionIdleTimeout_closes (net : k ≠ 0) (on : s.host.sessAct.IDLE_S ≠ 0#16)
    (late : (s.host.session.get k).lastAt + sec s.host.sessAct.IDLE_S.toNat ≤ s.now) :
    exec (.sessionIdleTimeout k) s = .next (s.closeSession k) := by
  have period : s.host.sessAct.IDLE_S.toNat ≠ 0 := fun h => on (BitVec.eq_of_toNat_eq h)
  exact congrArg Host.Outcome.next (if_pos (by simp [net, period, State.since_of late]))

/-! ### What a closed session leaves (R474) -/

theorem State.closeSession_of_closed (closed : (s.host.session.get k).open_ = false) : s.closeSession k = s := if_neg (by simp [closed])

/-- The state in which a session has closed, before its record. -/
def State.closed (s : State) (k : Fin 17) : State :=
  { s.dropSession k with host := { (s.dropSession k).host with session := put s.host.session k Session.init } }

/-- The close of an open session is recorded, and the record leaves what it has dropped. -/
theorem State.closeSession_recorded (opened : (s.host.session.get k).open_ = true) : (s.closed k).Recorded (s.closeSession k) := by
  rw [show s.closeSession k = (s.closed k).noteSession k 1 (s.host.session.get k).entry.CERT_ID from if_pos opened]
  exact State.record_recorded

/-- No force is a closed session's. -/
theorem State.closed_forces : ∀ f ∈ (s.closed k).olc.forces, f.OWNER.toNat ≠ k.val := by
  intro f mem
  obtain ⟨g, _, rfl⟩ := List.mem_map.mp mem
  have below := k.isLt
  split
  · show (255 : Nat) ≠ k.val
    omega
  · assumption

theorem State.closed_package : (s.closed k).olc.stat.SESSION.toNat ≠ k.val := by
  have below := k.isLt
  show (if s.olc.stat.SESSION.toNat = k.val then { s.olc.stat with SESSION := 0xFF#8 } else s.olc.stat).SESSION.toNat ≠ k.val
  split
  · show (255 : Nat) ≠ k.val
    omega
  · assumption

theorem State.closed_export {e : Export} (held : (s.closed k).flow.exp = some e) : e.session ≠ k := by
  have left : (match s.flow.exp with
      | some e => if e.session = k then none else some e
      | none => none) = some e := held
  cases was : s.flow.exp with
  | none => simp [was] at left
  | some x =>
    simp only [was] at left
    split at left
    · cases left
    · cases left
      assumption

theorem State.closeSession_leaves (opened : (s.host.session.get k).open_ = true) :
    ((s.closeSession k).host.session.get k).open_ = false ∧
    (∀ w ∈ (s.closeSession k).host.waiting, w.rq.session ≠ k) ∧ (∀ rq ∈ s.inProgress k, rq ∈ (s.closeSession k).host.orphans) ∧
    (∀ f ∈ (s.closeSession k).olc.forces, f.OWNER.toNat ≠ k.val) ∧ (s.closeSession k).olc.stat.SESSION.toNat ≠ k.val ∧
    (∀ e, (s.closeSession k).flow.exp = some e → e.session ≠ k) := by
  have recorded := State.closeSession_recorded opened
  simp only [recorded.session, recorded.waiting, recorded.orphans, recorded.olc, recorded.exp]
  refine ⟨congrArg Session.open_ (put_get_same ..), ?waiting, ?orphans, State.closed_forces, State.closed_package, fun _ => State.closed_export⟩
  case waiting => exact fun w mem => by simpa using (List.mem_filter.mp mem).2
  case orphans => exact fun rq mem => List.mem_append_right _ mem

end Messages

/-- Settles O52: each handshake, message, timer and close has its effect. The model's choices: a message shorter than its LENGTH is ignored (log 161),
a connection beyond MAX_SESSIONS is no failed handshake, and the replies of requests in progress are dropped (log 163). -/
theorem sessionsOpenAndClose : Obligations.SessionsOpenAndClose :=
  ⟨fun _ _ => exec_sessionHandshake_barred, fun _ _ serving lives welcome => State.TakesHandshake.fails ⟨serving, lives, welcome⟩,
    fun _ _ _ => State.handshakeFails_eq, fun _ _ _ _ serving lives welcome => State.TakesHandshake.opens ⟨serving, lives, welcome⟩, fun _ _ => rfl,
    fun _ _ _ => exec_sessionMessageReceive_closes, fun _ _ _ _ _ => exec_sessionMessageReceive_waits, fun _ _ => exec_sessionIdleTimeout_closes,
    fun _ _ => rfl, fun _ _ => State.closeSession_of_closed, fun _ _ => State.closeSession_leaves⟩

/-- Settles O53: a step takes the front of the queue, and an empty queue is one tick with the trip matrix (log 1). -/
theorem stepRunsTheFrontCommand : Obligations.StepRunsTheFrontCommand := by
  refine ⟨fun _ _ _ => rfl, fun s empty => ?_⟩
  unfold step
  simp only [empty]

end Sys2Proof.Machine
end

section
/-! PROOFS. Every command completes and leaves the queue of those that wait; and the one reading command that changes more than the host port. -/

namespace Sys2Proof.Machine

set_option Elab.async false

/-! ### The queue behind a command -/

section Queue

variable {s : State}

/-- A bulk line of a chamber leaves the queue, whatever its content. -/
theorem State.takeBulk_pending (c : Fin 11) (m : Memory) : (s.takeBulk c m).pending = s.pending := by
  unfold State.takeBulk
  split
  · rfl
  · split
    · rfl
    · split <;> rfl

/-- So does a frame of the peer, well formed or not: the two messages that carry memories put them in place as they are. -/
theorem State.takeFrame_pending (msg : PairMsg) : (s.takeFrame msg).pending = s.pending := by
  cases msg with
  | bulkAll c m => exact State.takeBulk_pending c m
  | change st info pending pkg =>
    unfold State.takeFrame
    dsimp only
    split <;> rfl
  | _ => exact (State.takeFrame_keeps s _ rfl).pending

theorem exec_pairFrameReceive_pending (ok : Bool) (msg : PairMsg) : ∃ t : State, exec (.pairFrameReceive ok msg) s = .next t ∧ t.pending = s.pending := by
  refine ⟨_, rfl, ?_⟩
  split
  · rfl
  · split
    · rfl
    · exact State.takeFrame_pending msg

end Queue

/-- Settles O54: of every command but a pair frame, what it keeps is known already, and a pair frame leaves the queue whatever it carries. -/
theorem everyCommandCompletesAndLeavesTheQueue : Obligations.EveryCommandCompletesAndLeavesTheQueue := by
  intro i s
  by_cases frame : ∃ ok msg, i = .pairFrameReceive ok msg
  · obtain ⟨ok, msg, rfl⟩ := frame
    exact exec_pairFrameReceive_pending ok msg
  · obtain ⟨t, next, keeps⟩ := exec_answers i s fun ok msg same => absurd ⟨ok, msg, same⟩ frame
    exact ⟨t, next, keeps.pending⟩

/-! ### MOT_STATUS brings the axes up to now (R298, R320) -/

section Advance

variable {s : State}

theorem State.advanceAxis_runAt (a : Fin 8) (n : Nat) : (s.advanceAxis a n).mot.runAt = s.mot.runAt := by
  unfold State.advanceAxis
  dsimp only
  split
  · rfl
  · split <;> rfl

theorem State.foldl_advanceAxis_runAt (l : List (Fin 8)) (n : Nat) : (l.foldl (fun s a => s.advanceAxis a n) s).mot.runAt = s.mot.runAt := by
  induction l generalizing s with
  | nil => rfl
  | cons a l ih => exact ih.trans (State.advanceAxis_runAt a n)

/-- The axes stand at the last whole microsecond. -/
theorem State.advanceAxes_runAt : s.advanceAxes.mot.runAt = s.mot.runAt + 125 * ((s.now - s.mot.runAt) / 125) :=
  congrArg (· + 125 * ((s.now - s.mot.runAt) / 125)) (State.foldl_advanceAxis_runAt (idx 8) _)

theorem State.Replied.mot {t : State} (h : s.Replied t) : t.mot = s.mot := by
  obtain ⟨_, rfl, _⟩ := h
  rfl

end Advance

/-- A module that serves in STOP, 125 ticks (1 µs) after its axes were last brought up to now. -/
def laterByMicrosecond : State :=
  { State.reset with sys := { State.reset.sys with mode := .stop, phase := .serving }, tm := { State.reset.tm with c := 125 } }

/-- MOT_STATUS of axis 0, by mailbox 0. -/
def statusOfAxis0 : Request := ⟨0, some 0, 0#16, [0#8], 0#64⟩

theorem laterByMicrosecond_accepts : laterByMicrosecond.Accepts Cmd.motStatus statusOfAxis0 := ⟨rfl, rfl⟩

/-- Refutes O58: MOT_STATUS brings the axes up to now (R320), so 1 µs after they were last brought there it moves the time at which they stand from
0 to 125 ticks, which is no part of the host port. -/
theorem not_viewCommandsChangeOnlyTheHost : ¬ Obligations.ViewCommandsChangeOnlyTheHost := by
  intro h
  obtain ⟨t, next, same⟩ := h .motStatus (by simp) statusOfAxis0 laterByMicrosecond
  have answered := exec_motStatus_answers_status (n := 0) laterByMicrosecond_accepts rfl rfl
  have reached : t.mot.runAt = 125 := by
    rw [← Host.Outcome.next.inj (answered.symm.trans next), State.reply_replied.mot, State.advanceAxes_runAt]
    rfl
  have stood : t.mot.runAt = 0 := by rw [same]; rfl
  omega

end Sys2Proof.Machine
end
